-- ==== Sys2Proof/Word.lean ====
section
/-! DEFINITION. The words of the KX64: a byte has 8 bits and a word 32 (R4). -/

namespace Sys2Proof

/-- A byte (R4). -/
abbrev Byte := BitVec 8

/-- A 32-bit word (R4). -/
abbrev Word := BitVec 32

end Sys2Proof
end

