-- ==== Sys2Proof/Syntax.lean ====
section
/-! DEFINITION. The commands of the KX64: one constructor per row of the spec's command table, with the
operands the row's rule gives the happening. A timer's expiry, an arriving frame, a pin's edge and a
register write are each one command (assumption 2). An index has the range the spec gives it, so that
most ill-formed commands cannot be written; what is left is checked in WellFormed. -/

namespace Sys2Proof

/-- Rings 0 to 63 (R30). -/
abbrev RingIx := Fin 64
/-- Cheane Links 0 to 63. -/
abbrev LinkIx := Fin 64
/-- Cheane Links 0 to 63, and 64 and 65 for the tandem links `TDM_0` and `TDM_1` (R332). -/
abbrev AnyLink := Fin 66
/-- Tandem links 0 and 1. -/
abbrev TandemIx := Fin 2
/-- Ethernet ports 0 to 7 (R286). -/
abbrev PortIx := Fin 8
/-- Line ports, and signal-string ports, 0 to 15. -/
abbrev Ix16 := Fin 16
/-- Fly channels, and queue blocks, 0 to 31. -/
abbrev Ix32 := Fin 32

/-- The two stage clocks (R70). -/
inductive StageClk where
  | A | B
  deriving DecidableEq, Repr

/-- The agents that access registers (R352, R452): the host, a Stage Manager core, a Fly channel. -/
inductive Agent where
  | host
  | core (n : Fin 4)
  | fly (n : Ix32)
  deriving DecidableEq, Repr

/-- The engines (R101). -/
inductive Engine where
  | re (n : Fin 16)
  | fe (n : Fin 32)
  deriving DecidableEq, Repr

/-- The producers of the Call Board that post whole words (R103). -/
inductive Producer where
  | trigger (slot : Fin 256)
  | schedule
  | host (ring : RingIx)
  | core (n : Fin 4)
  | blocking
  | link (n : AnyLink)
  | other (source : BitVec 16)
  deriving DecidableEq, Repr

/-- A 66-bit block of a lane (R238): its sync header, bit 0 sent first, and its payload after descrambling, byte k in bits 8k + 7 to 8k. -/
structure Block where
  sync : BitVec 2
  payload : BitVec 64
  deriving DecidableEq, Repr

/-- What one calibration run of a lane measures (R274): the offset code, the eye area at each of the 32 peaking codes with the 16 gain
codes (at peaking × 16 + gain), and the phases of one UI in 1/64 UI steps at which the eye is open. -/
structure LaneRun where
  offset : BitVec 7
  eye : List Nat
  opened : BitVec 64
  deriving DecidableEq, Repr

/-- What a unit finds as it leaves `CLOCK` (R257): a link, and the receive phase of each of its return lanes in 1/64 UI. -/
structure LinkPhases where
  link : AnyLink
  phase0 : BitVec 6
  phase1 : BitVec 6
  deriving DecidableEq, Repr

/-- What the return lanes of a link show in `ALIGN` (R239, R257, R274): the last sync headers of each, an `ALIGN` block of the node, and two
calibration runs of each lane. -/
structure LinkLock where
  link : AnyLink
  heads0 : List (BitVec 2)
  heads1 : List (BitVec 2)
  align : Block
  lane0a : LaneRun
  lane0b : LaneRun
  lane1a : LaneRun
  lane1b : LaneRun
  deriving DecidableEq, Repr

/-- Blocks received on a link, oldest first. -/
structure LinkBlocks where
  link : AnyLink
  blocks : List Block
  deriving DecidableEq, Repr

/-- The cycle of an up switch (R277, R282): a link, and whether a mirror mismatch falls in it. -/
structure LinkSwitch where
  link : AnyLink
  mismatch : Bool
  deriving DecidableEq, Repr

/-- A return lane, with errors found on it (R275, R284). -/
structure LaneErrors where
  lane : Fin 2
  errors : Nat
  deriving DecidableEq, Repr

/-- What a read of host memory gives: its bytes, or the failure of the request (R35, R56). -/
inductive HostData where
  | bytes (b : List Byte)
  | failed
  deriving DecidableEq, Repr

/-- An access through a memory window: a read of `n` bytes or a write of bytes (R59, R67). -/
inductive WindowOp where
  | read (n : Nat)
  | write (b : List Byte)
  deriving DecidableEq, Repr

/-- A codeword of HBM (by its BAR4 address divided by 16) or of Stage SRAM (by its offset divided by 16), R62. -/
inductive Codeword where
  | hbm (n : Fin 1610612736)
  | sram (n : Fin 4194304)
  deriving DecidableEq, Repr

/-- The header fields of a received link frame (R240): its claim and its sequence number. -/
structure UpHdr where
  claim : BitVec 16
  lseq : BitVec 16
  deriving DecidableEq, Repr

/-- The message an SPI transaction carries (R375), without its `TYPE`, which the command names. `crcOk` says
whether its `CRC` is the CRC-32C of the bytes before it. -/
structure SpiMsg where
  alive : Byte
  addr : Word
  arg : Word
  data : List Byte
  crcOk : Bool
  deriving DecidableEq, Repr

/-- What the lamp test of a slot senses (R226): the 10-bit code of the sense converter. -/
abbrev SenseCode := BitVec 10

/-- A decoded LTC frame (R81): its time fields, its drop-frame flag and user bits. -/
structure LtcFrame where
  hour : Nat
  min : Nat
  sec : Nat
  frame : Nat
  dropFrame : Bool
  user : Word
  deriving DecidableEq, Repr

/-- What the decimator of a current channel gives in one sample interval (R310, R313, R317), at gain ×1 in 1/64 of a unit of the
24-bit sample: the sample, the greatest magnitude of the sinc3 outputs, and how many of those saturated. -/
structure MtrCur where
  x : Int
  peak : Nat
  clips : Nat
  deriving DecidableEq, Repr

/-- What the decimator of a voltage channel gives in one sample interval: the 24-bit sample, the sample of the signal shifted by 90°
(R315), and whether a positive-going zero crossing of the fundamental falls in it (R314). -/
structure MtrVolt where
  x : Int
  xq : Int
  crossing : Bool
  deriving DecidableEq, Repr

/-- Alarm inputs 0 to 7 and the drop input, as watched in Dark (R427). -/
inductive AlarmInput where
  | alarm (k : Fin 8)
  | dropN
  deriving DecidableEq, Repr

/-- Causes of a Curtain fault (R359, `CUR_FAULT`). -/
inductive CurFaultCause where
  | lockstep | clock | sram | image | selftest | selector
  deriving DecidableEq, Repr

/-- What a scrub of Ghost Light SRAM finds (R325, R430): corrected errors, uncorrectable ones, and of those the channels and pulse
outputs of metering whose accumulators or remainders they hold. -/
structure GlErrors where
  corrected : Nat
  bad : Nat
  channels : List (Fin 96)
  pulses : List (Fin 16)
  deriving DecidableEq, Repr

/-- Units that fail their self-test at boot (R444). Lanes: the link, whether it is an up lane, and the physical lane. -/
structure Degraded where
  re : BitVec 16
  fe : BitVec 32
  pc : BitVec 32
  cores : BitVec 4
  lanes : List (AnyLink × Bool × Fin 3)
  quads : BitVec 16
  macs : BitVec 8
  lines : BitVec 16
  sigs : BitVec 16
  deriving DecidableEq, Repr

/-- The commands. -/
inductive Instr where
  -- Scope and Conventions; How a Show Frame Travels
  | regAccessUnsupported (offset : Fin 134217728) (size : Nat) (write : Bool)
  | regReadLowHalf (offset : Fin 134217728) (agent : Agent)
  | rcCounterRead (offset : Fin 134217728) (agent : Agent)
  | registerWrite (offset : Fin 134217728) (value : Word) (agent : Agent)
  | pllUnlock
  | pllLockReturn
  -- Host Rings, Doorbells and Content Objects
  | doorbellPoll
  | hstNudge
  | doorbellVectorArrival (data : HostData)
  | descriptorFetch (ring : RingIx)
  | descriptorArrival (ring : RingIx) (data : HostData)
  | nop (ring : RingIx)
  | objCreate (ring : RingIx)
  | objWrite (ring : RingIx)
  | objRead (ring : RingIx)
  | objDestroy (ring : RingIx)
  | objPin (ring : RingIx)
  | cue (ring : RingIx)
  | set (ring : RingIx)
  | call (ring : RingIx)
  | calCompile (ring : RingIx)
  | move (ring : RingIx)
  | reportPlacement (ring : RingIx)
  | reportLedgers (ring : RingIx)
  | reportPromptBook (ring : RingIx)
  | reportObjectTable (ring : RingIx)
  | powerState (ring : RingIx)
  | updateChunk (ring : RingIx)
  | acknowledge (ring : RingIx)
  | completionWrite (ring : RingIx)
  | headVectorWrite (ring : RingIx)
  | msixMessage (vector : Fin 64)
  | ringRestart (ring : RingIx) (head : BitVec 16)
  | ringCfgWrite (ring : RingIx) (cls : BitVec 2) (enable irq : Bool) (sizeLog2 cqSizeLog2 : BitVec 4) (vec : Fin 64)
  | hostReset
  | flr
  | apertureAccess (offset : Fin 134217728) (op : WindowOp)
  | debugWindowAccess (offset : Fin 34359738368) (op : WindowOp)
  | patrolScrub (cw : Codeword)
  -- Stage Time, References and the Frame Timeline
  | stageCtrlStep (x : StageClk)
  | stageCtrlUnlock (x : StageClk)
  | timRateWrite (x : StageClk) (rate : BitVec 23)
  | timPrioWrite (x : StageClk) (p0 p1 p2 p3 : BitVec 4)
  | refEdge (r : Fin 5)
  | refQualify (r : Fin 5) (x : StageClk)
  | refEdgeMissing (r : Fin 5)
  | servoWdExpiry (x : StageClk)
  | holdMaxExpiry (x : StageClk)
  | ltcFrame (f : Option LtcFrame)
  | ltcOutFrame
  | showSelWrite (sel : StageClk)
  | showCtrlUnlock
  | showSlewUpdate
  | triggerFire (slot : Fin 256)
  | cueIoEdge (pin : Ix16) (level : Bool)
  | cueDeadline
  | sendDeadline
  | presentation
  -- The Call Board
  | cbPost (p : Producer) (word : Vector Word 8)
  | cbStalledPostAccept (p : Producer)
  | cbStall (p : Producer)
  | cbChildPost (e : Engine) (word : Vector Word 8)
  | cbStandby (e : Engine) (cost : Word)
  | cbModeWrite (mode : BitVec 2)
  | cbStandbyRead (port : Fin 4) (agent : Agent)
  | cbWithdraw (n : Fin 4)
  | cbPostRead (port : Fin 4) (agent : Agent)
  -- The Blocking Unit
  | frameStart
  | sequencerPost
  | pageMoveComplete
  | blkHealthWrite (which : Fin 3) (mask : Word)
  | blkHangExpiry (e : Engine)
  | engineFault (e : Engine)
  | clusterPark (k : Fin 8)
  | clusterRestore (k : Fin 8)
  -- Composition
  | renderTile (n : Fin 16)
  | tileWriteback (n : Fin 16)
  -- Fixtures and colour
  | fixturePass1 (n : Fin 32)
  | fixturePass2 (n : Fin 32)
  | calCompileCall (n : Fin 32)
  | calCompileRoots
  -- Region push and Spot windows
  | pushPassBegin (link : LinkIx)
  | unitWalk (link : LinkIx)
  | regionSend (link : LinkIx)
  | ackReceived (link : LinkIx) (hdr : UpHdr) (node : BitVec 16) (kind : Byte) (stored : Bool) (id : Word) (hash : BitVec 64)
  | ackWaitTimeout (link : LinkIx)
  | goSend (link : LinkIx)
  | pshForget (link : LinkIx)
  | sptHistRead (w : Fin 48)
  -- Lamp drive and signal strings
  | sigFrameStart (port : Ix16) (sense : List SenseCode)
  | sigSlot (port : Ix16) (sense : SenseCode)
  | lmpFuncOffClear (mask : BitVec 64)
  | lmpFailedClear (index : BitVec 10)
  | sigClear (port : Ix16) (mask : BitVec 16)
  | faultReceived (link : LinkIx) (hdr : UpHdr) (node surface : BitVec 16) (lamp : Word) (emitter result : Byte)
  -- Cheane Link
  | linkEnable (link : AnyLink)
  | linkDisable (link : AnyLink)
  | linkRetrain (link : AnyLink)
  | linkProbe (link : AnyLink) (found : Bool)
  | linkClockLocked (found : LinkPhases)
  | linkBlockLock (lock : LinkLock)
  | linkAlignClean (link : AnyLink)
  | trainTimeLimit (link : AnyLink)
  | linkPartnerLost (link : AnyLink)
  | blockLockLoss (rx : LinkBlocks)
  | echoSend (link : AnyLink)
  | echoReply (link : AnyLink) (hdr : UpHdr) (tag turn : Word) (rtt : Nat)
  | cfgMailboxGo (link : LinkIx)
  | cfgResponse (link : AnyLink) (hdr : UpHdr) (tag : BitVec 16) (result : Byte) (words : List Word)
  | cfgTimeout (link : AnyLink)
  | timeSend (link : LinkIx)
  | creditReceived (link : AnyLink) (hdr : UpHdr) (seen : BitVec 16)
  | creditTimeout (link : AnyLink)
  | statusReceived (link : AnyLink) (hdr : UpHdr) (node flags temp : BitVec 16) (extra : List Byte)
  | linkRxBadFrame (rx : LinkBlocks)
  -- Swing lanes and calibration
  | calTempTrigger (link : LinkIx) (temp : BitVec 16)
  | calCtrlGo (link : AnyLink)
  | calErrRateTrigger (link : AnyLink) (found : LaneErrors)
  | upMirrorQualified (link : AnyLink)
  | upLaneSwitch (switch : LinkSwitch)
  | calRunDone (link : AnyLink) (run : LaneRun)
  | downRotationStep (link : AnyLink)
  | upLaneFail (link : AnyLink)
  | laneRestore (link : AnyLink) (tx : Bool) (lane : Fin 3)
  | laneInjectSingle (link : AnyLink) (lane : Fin 3)
  | checkerLocked (link : AnyLink) (found : LaneErrors)
  | checkerLostLock (link : AnyLink) (found : LaneErrors)
  -- Ethernet, sACN and line ports
  | netModeWrite (port : PortIx) (mode : BitVec 3)
  | ethRxFrame (port : PortIx) (frame : List Byte) (fcsOk : Bool)
  | pauseFrameRx (port : PortIx) (quanta : BitVec 16)
  | pauseWdExpiry (port : PortIx)
  | netPauseRearm (port : PortIx)
  | ethTxPost (port : PortIx) (tx : Bool) (q : Fin 8) (tail : Byte)
  | ethTxFrameDepart (port : PortIx)
  | tsqRead (port : PortIx)
  | ethLinkDown (port : PortIx)
  | sacnSendInstant (port : PortIx)
  | sacnSyncSend (port : PortIx)
  | sacnDiscovery (port : PortIx)
  | dmxPacketStart (port : Ix16)
  | rdmGo (port : Ix16)
  | rdmTransactionStart (port : Ix16)
  | rdmResponse (port : Ix16) (bytes : List Byte) (framingError : Bool)
  | rdmTimeout (port : Ix16)
  -- Metering
  | mtrSample (current : Vector MtrCur 96) (voltage : Vector MtrVolt 8)
  | mtrInputFault (input : Fin 104)
  | mtrInputFaultClear (input : Fin 104)
  | pulseOutputTimer (k : Ix16)
  | periodicSave (readBackOk : Bool)
  | mtrSaveRetry (readBackOk : Bool)
  | pfwFall
  | powerfailRecordDone
  | pfwResume
  | mtrEnable
  | meterFramePower
  -- Understudy pairs
  | rolePrincipal
  | roleUnderstudy
  | roleAlone
  | promoteNow
  | tdmClaimWrite (claim : BitVec 16)
  | helloReceived (t : TandemIx) (hdr : UpHdr) (phase : Byte) (rev fw nextMseq : Word) (lastFrame : BitVec 64)
  | helloSend (t : TandemIx)
  | tandemResend
  | tandemLost
  | stateReceived (t : TandemIx) (hdr : UpHdr) (payload : List Byte)
  | mirrorReceived (t : TandemIx) (hdr : UpHdr) (payload : List Byte)
  | bulkReceived (t : TandemIx) (hdr : UpHdr) (payload : List Byte)
  | lampstateReceived (t : TandemIx) (hdr : UpHdr) (payload : List Byte)
  | readyReceived (t : TandemIx) (hdr : UpHdr) (mseq : Word)
  | digestReceived (t : TandemIx) (hdr : UpHdr) (frame : BitVec 64) (digest flags : Word)
  | tdmWaitExpiry
  -- The Safety Curtain
  | curAlarmDebounce (k : Fin 8) (level : Bool)
  | curDropNFall
  | curDropNRise
  | curReleaseTimer
  | curTestExpiry
  | curFaultDetect (c : CurFaultCause)
  | curWatchdogExpiry
  | curBootComplete (imageOk selftestOk : Bool) (version : Word) (params : List (Word × List Byte))
  | curOkToggle
  | curSweep (link : LinkIx)
  | curEcho (link : LinkIx)
  | curSacnPacket (port : PortIx)
  | curLinePacket (port : Ix16)
  | curPatchCompare
  | curSramScrub (corrected : Nat) (bad : List Word)
  | curWriteRefused (offset : Fin 1048576) (source : BitVec 16)
  | spiStatus (m : SpiMsg)
  | spiRead (m : SpiMsg) (length : Nat)
  | spiWrite (m : SpiMsg)
  | spiCommit (m : SpiMsg)
  | spiDiscard (m : SpiMsg)
  | spiDrop (m : SpiMsg)
  | spiRelease (m : SpiMsg)
  | spiTestStart (m : SpiMsg)
  | spiTestEnd (m : SpiMsg)
  | curSpiSilent
  -- Fly Engine, queue blocks, check units
  | flyStart (n : Ix32)
  | flyAbort (n : Ix32)
  | flyBurstIssue (n : Ix32) (host : HostData)
  | flyBurstRetire (n : Ix32)
  | qbWriteData (q : Ix32) (bytes : List Byte)
  | qbWriteLast (q : Ix32) (bytes : List Byte)
  | qbFlush (q : Ix32)
  | qbRdTagRead (q : Ix32)
  | qbRdStallExpiry (q : Ix32)
  | qbProducerWrite (q : Ix32) (item : List Byte)
  | chkCfgWrite (c : Ix16) (value : Word)
  | chkDataWrite (c : Ix16) (bytes : List Byte)
  | chkInit (c : Ix16)
  | chkAliveReset (c : Ix16)
  -- Power states
  | powerEntryStep (readBackOk : Bool) (slotsFailed : Fin 4)
  | powerExitStep (banks : BitVec 8)
  | regulatorAckTimeout (status : BitVec 16)
  | wakeIn
  | pwrWakeGo
  | rtcWake
  | pmbAlert
  | darkWindowOpen
  | darkSampleEnd (temp : BitVec 16)
  | glAlarmWatch (input : AlarmInput) (active : Bool)
  | glSramScrub (found : GlErrors)
  | powerOn
  | vddIo18Loss
  -- Resets, boot and field update
  | rstNLow
  | coldRelease (bootSel : BitVec 2)
  | bootPackageVerified (tagOk signatureOk : Bool)
  | bootReady (degraded : Degraded) (sections : BitVec 8) (settingsLost : Bool)
  | hostLoadGo
  | tandemBootPackage
  | tandemBootTimeout
  | pcieConfigRequest (write : Bool) (offset : Fin 4096) (value : Word)
  | glbResetWarm (slotsFailed : Fin 4)
  | glbResetBlock (kind : BitVec 3) (index : BitVec 6)
  | smWatchdogExpiry
  | glbWdKick
  | updateCancel
  | wingsInstall (readBackOk : Bool)
  -- Events, ledgers and the Prompt Book
  | eventRelease
  | eventDeliver
  | ledgerCheck
  | pbkPeriodicWrite (slotsFailed : Fin 4)
  | pbkSecondTick (temps : List (BitVec 16))
  | pbkHourTick
  -- Rows added to the table after the chapters' own
  | ptpOkWrite (x : StageClk) (ok : Bool)
  | msixVectorUnmask (vector : Fin 64)
  | hostReadCompletion (ring : RingIx) (data : HostData)
  | wingsChunkProgrammed
  | pauseTimerExpiry (port : PortIx)
  | ethLinkUp (port : PortIx)
  | rdmNoResponseEnd (port : Ix16)
  | tandemMessageSend (t : TandemIx)
  | tandemNodeRequest (t : TandemIx) (hdr : UpHdr) (echo : Bool) (payload : List Byte)
  | tandemNodeBlockLock (t : TandemIx) (gained : Bool)
  | vddGlLoss
  | powerUpStep
  deriving DecidableEq, Repr

end Sys2Proof
end

