-- ==== Sys2Proof/Config.lean ====
section
/-! DEFINITION. What an implementation of the KX64 fixes and the values the spec leaves open. Each is a constant
with no body: nothing can be proved of its value (assumption 4). -/

namespace Sys2Proof

/-- The value of the n-th open choice of a run: a handle index, a page within a pseudo-channel, a Stage SRAM block, a
call slot, a result the spec does not state. -/
opaque Config.free : Nat → Nat

/-- The PCI Vendor ID (R28: Voxdel's assigned value). -/
opaque Config.vendorId : BitVec 16

/-- A doubleword of configuration space that the spec does not state, by its offset and what was written to it last (assumption 70). -/
opaque Config.pciRead : Nat → Nat → Nat

/-- The number an event argument gives for a cause or state that the spec names in words and does not number: the
event's code and the model's own number of the cause (assumption 7). -/
opaque Config.causeCode : Nat → Nat → Nat

/-- What the blocks sent before leave open where a run of blocks begins on a link (R238): the last 58 bits on a physical lane, or, as lane 3,
the logical lane of the first block; by link, lane, house clock and the runs of blocks sent so far. -/
opaque Config.laneState : Nat → Nat → Nat → Nat → Nat

/-- The group delay of the metering chain in ns for a `MODCLK` setting (R310 fixes it and does not state it). -/
opaque Config.mtrDelay : Nat → BitVec 24

end Sys2Proof
end

