-- ==== Sys2Proof/Machine/Bytes.lean ====
section
/-! DEFINITION. Byte order (little-endian, R5), bit fields, signed readings and the CRC of R405. -/

namespace Sys2Proof.Machine

/-- Bits [lsb + width − 1 : lsb] of a number. -/
def bits (v lsb width : Nat) : Nat := v / 2 ^ lsb % 2 ^ width

/-- A number with bits [lsb + width − 1 : lsb] replaced. -/
def setBits (v lsb width x : Nat) : Nat :=
  v - bits v lsb width * 2 ^ lsb + x % 2 ^ width * 2 ^ lsb

/-- Bit `n` of a number. -/
def bit (v n : Nat) : Bool := bits v n 1 == 1

/-- A truth value as a bit. -/
def b2n (b : Bool) : Nat := if b then 1 else 0

/-- Two's complement reading of a `w`-bit field (R5). -/
def signedOf (w v : Nat) : Int := if v % 2 ^ w < 2 ^ (w - 1) then (v % 2 ^ w : Nat) else (v % 2 ^ w : Nat) - (2 ^ w : Nat)

/-- Two's complement encoding in `w` bits. -/
def ofSigned (w : Nat) (i : Int) : Nat := (i % (2 ^ w : Nat)).toNat

/-- The `n` bytes of a number, least significant first (R5). -/
def leBytes : Nat → Nat → List Byte
  | 0, _ => []
  | n + 1, v => BitVec.ofNat 8 v :: leBytes n (v / 256)

/-- The number that bytes spell, least significant first (R5). -/
def leNat : List Byte → Nat
  | [] => 0
  | b :: rest => b.toNat + 256 * leNat rest

/-- The `n` bytes of a number, most significant first (network order). -/
def beBytes (n v : Nat) : List Byte := (leBytes n v).reverse

/-- The number that bytes spell, most significant first. -/
def beNat (b : List Byte) : Nat := leNat b.reverse

/-- Bytes [off, off + n) of a list, zeros beyond its end. -/
def slice (b : List Byte) (off n : Nat) : List Byte :=
  let t := (b.drop off).take n
  t ++ List.replicate (n - t.length) 0

/-- The little-endian field of `n` bytes at `off`. -/
def fieldAt (b : List Byte) (off n : Nat) : Nat := leNat (slice b off n)

/-- A list of bytes with those from `off` replaced by `x`, its length kept. -/
def patch (b : List Byte) (off : Nat) (x : List Byte) : List Byte :=
  (b.take off ++ List.replicate (off - b.length) 0 ++ x ++ b.drop (off + x.length)).take b.length

/-- `n` zero bytes. -/
def zeros (n : Nat) : List Byte := List.replicate n 0

/-- A list cut or filled with zeros to `n` bytes. -/
def padTo (n : Nat) (b : List Byte) : List Byte := slice b 0 n

/-- ⌈a ÷ b⌉. -/
def ceilDiv (a b : Nat) : Nat := (a + b - 1) / b

/-- Round to nearest, ties to even, of a non-negative ratio a ÷ b. -/
def roundDivEven (a b : Nat) : Nat :=
  let q := a / b
  let r := a % b
  if 2 * r < b then q else if b < 2 * r then q + 1 else if q % 2 = 0 then q else q + 1

/-- The bits of `v`, `w` of them, in reverse order (`reflectW` of R405). -/
def reflect : Nat → Nat → Nat
  | 0, _ => 0
  | w + 1, v => v % 2 * 2 ^ w + reflect w (v / 2)

/-- One of the eight shifts of R405. -/
def crcShift (w poly crc : Nat) : Nat :=
  if bit crc (w - 1) then (crc * 2 % 2 ^ w) ^^^ (poly % 2 ^ w) else crc * 2 % 2 ^ w

/-- `n` shifts. -/
def crcShifts (w poly : Nat) : Nat → Nat → Nat
  | 0, crc => crc
  | n + 1, crc => crcShifts w poly n (crcShift w poly crc)

/-- R405, on each byte. -/
def crcByte (w poly : Nat) (refin : Bool) (crc : Nat) (b : Byte) : Nat :=
  let x := if refin then reflect 8 b.toNat else b.toNat
  crcShifts w poly 8 (crc ^^^ (x * 2 ^ (w - 8)))

/-- R405, `RESULT`. -/
def crcResult (w xorout : Nat) (refout : Bool) (crc : Nat) : Nat :=
  (if refout then reflect w crc else crc) ^^^ (xorout % 2 ^ w)

/-- The running value of the CRC-32C preset (R404, row 0b010). -/
def crc32cStep (crc : Nat) (bs : List Byte) : Nat := bs.foldl (crcByte 32 0x1EDC6F41 true) crc

/-- The CRC-32C preset over bytes. -/
def crc32c (bs : List Byte) : Nat := crcResult 32 0xFFFFFFFF true (crc32cStep 0xFFFFFFFF bs)

end Sys2Proof.Machine
end

