-- ==== Sys2Proof/Machine/EventNames.lean ====
section
/-! DEFINITION. The event codes of R453, each the base of its row plus its position, and the source numbers of R452. -/

namespace Sys2Proof.Machine

def E.RESERVED_ENCODING : Nat := 0x0100
def E.DOMAIN_OFF : Nat := 0x0101
def E.PLL_UNLOCK : Nat := 0x0102
def E.BOOT_DONE : Nat := 0x0103
def E.BOOT_SEL_BAD : Nat := 0x0104
def E.BOOT_FALLBACK : Nat := 0x0105
def E.BOOT_DEGRADED : Nat := 0x0106
def E.UPDATE_RECEIVED : Nat := 0x0107
def E.UPDATE_INSTALLED : Nat := 0x0108
def E.UPDATE_FAIL : Nat := 0x0109
def E.SETTINGS_RESET : Nat := 0x010A
def E.SETTINGS_LOST : Nat := 0x010B
def E.RING_FAULT : Nat := 0x0200
def E.DOORBELL_FAULT : Nat := 0x0201
def E.CQ_FULL : Nat := 0x0202
def E.EVENTS_LOST : Nat := 0x0203
def E.APERTURE_MISS : Nat := 0x0204
def E.ECC_CE : Nat := 0x0205
def E.ECC_UE : Nat := 0x0206
def E.PAGE_RETIRED : Nat := 0x0207
def E.STAGE_STEP : Nat := 0x0300
def E.STEP_REFUSED : Nat := 0x0301
def E.STAGE_UNLOCK : Nat := 0x0302
def E.REF_SELECT : Nat := 0x0303
def E.HOLDOVER : Nat := 0x0304
def E.HOLDOVER_EXPIRED : Nat := 0x0305
def E.LTC_LOST : Nat := 0x0306
def E.SHOW_LOCK : Nat := 0x0307
def E.SHOW_SELECT : Nat := 0x0308
def E.SHOW_UNLOCK : Nat := 0x0309
def E.TRIGGER : Nat := 0x030A
def E.TRIGGER_PAST : Nat := 0x030B
def E.TRIGGER_REFUSED : Nat := 0x030C
def E.CUE_IO_EDGE : Nat := 0x030D
def E.CUE_MISSED_TARGET : Nat := 0x030E
def E.FRAME_LATE : Nat := 0x030F
def E.CB_INVALID : Nat := 0x0400
def E.CB_REFUSED : Nat := 0x0401
def E.CB_PORT_MISUSE : Nat := 0x0402
def E.CB_STALL : Nat := 0x0403
def E.CALL_LOST : Nat := 0x0404
def E.BLK_REFUSED : Nat := 0x0500
def E.BLK_HEALTH : Nat := 0x0501
def E.BLK_NO_ENGINE : Nat := 0x0502
def E.PIN_BROKEN : Nat := 0x0503
def E.CMP_POISON : Nat := 0x0600
def E.CMP_TILE_MISS : Nat := 0x0601
def E.PUSH_POISON : Nat := 0x0700
def E.PUSH_NO_ACK : Nat := 0x0701
def E.SPOT_MISMATCH : Nat := 0x0702
def E.SPOT_INCOMPLETE : Nat := 0x0703
def E.PERSONALITY_INVALID : Nat := 0x0800
def E.CURVE_INVALID : Nat := 0x0801
def E.CAL_DONE : Nat := 0x0802
def E.CAL_GAMUT_EMPTY : Nat := 0x0803
def E.FIX_POISON : Nat := 0x0804
def E.CAP_HOLD : Nat := 0x0805
def E.CAP_DARK : Nat := 0x0806
def E.LAMP_FAULT : Nat := 0x0900
def E.FUNC_OFF : Nat := 0x0901
def E.LMP_FAILED_FULL : Nat := 0x0902
def E.SIG_BYPASS_FAULT : Nat := 0x0903
def E.LINK_UP : Nat := 0x0A00
def E.LINK_DOWN : Nat := 0x0A01
def E.LINK_ABSENT : Nat := 0x0A02
def E.LINK_UNPLUG : Nat := 0x0A03
def E.LINK_TRAIN_FAIL : Nat := 0x0A04
def E.NODE_REFUSED : Nat := 0x0A05
def E.NODE_MISSING : Nat := 0x0A06
def E.DELAY_JUMP : Nat := 0x0A07
def E.LINK_MARGIN_SHORT : Nat := 0x0A08
def E.CAL_ABORT : Nat := 0x0A09
def E.CAL_NO_SWING : Nat := 0x0A0A
def E.LANE_SUSPECT : Nat := 0x0A0B
def E.LANE_FAILED : Nat := 0x0A0C
def E.PAIR_REFUSED : Nat := 0x0B00
def E.PAIR_MISMATCH : Nat := 0x0B01
def E.PAIR_SYNCED : Nat := 0x0B02
def E.PAIR_RESYNC : Nat := 0x0B03
def E.PAIR_DIVERGED : Nat := 0x0B04
def E.PARTNER_LOST : Nat := 0x0B05
def E.PROMOTED : Nat := 0x0B06
def E.CLAIM_OUTRANKED : Nat := 0x0B07
def E.TDM_LATE : Nat := 0x0B08
def E.TDM_UNMIRRORED : Nat := 0x0B09
def E.NET_PAUSE_IGNORED : Nat := 0x0C00
def E.SACN_OVERLOAD : Nat := 0x0C01
def E.RDM_DONE : Nat := 0x0C02
def E.MTR_SYNC_BAD : Nat := 0x0D00
def E.MTR_INPUT_FAULT : Nat := 0x0D01
def E.MTR_PULSE_BACKLOG : Nat := 0x0D02
def E.MTR_SAVE_FAIL : Nat := 0x0D03
def E.MTR_PF_RESUME : Nat := 0x0D04
def E.MTR_SAVE_LOST : Nat := 0x0D05
def E.MTR_NO_RECORD : Nat := 0x0D06
def E.MTR_RELOAD : Nat := 0x0D07
def E.CUR_ALARM : Nat := 0x0E00
def E.CUR_DROP : Nat := 0x0E01
def E.CUR_RELEASE : Nat := 0x0E02
def E.CUR_TEST : Nat := 0x0E03
def E.CUR_FAULT : Nat := 0x0E04
def E.CUR_CLOCK_BACKUP : Nat := 0x0E05
def E.CUR_WRITE_REFUSED : Nat := 0x0E06
def E.CUR_LOOK_BAD : Nat := 0x0E07
def E.CUR_LOOK_MISMATCH : Nat := 0x0E08
def E.CUR_SPOT_MISMATCH : Nat := 0x0E09
def E.CUR_SRAM_UE : Nat := 0x0E0A
def E.CUR_SPI_SILENT : Nat := 0x0E0B
def E.CUR_PARAM_CHANGED : Nat := 0x0E0C
def E.PWR_EXIT : Nat := 0x0F00
def E.PWR_ACK_FAIL : Nat := 0x0F01
def E.ABORTED_WAKE : Nat := 0x0F02
def E.RETENTION_FAULT : Nat := 0x0F03
def E.DARK_THRESHOLD : Nat := 0x0F04
def E.DARK_TEMP : Nat := 0x0F05
def E.FLY_END : Nat := 0x1000
def E.EVENT_OVERFLOW : Nat := 0x1100
def E.LEDGER_FAULT : Nat := 0x1101
def E.PBK_WRITE_FAIL : Nat := 0x1102
def E.PBK_RESTORED : Nat := 0x1103

/-- Every code of R453. -/
def eventCodes : List Nat :=
  [0x0100, 0x0101, 0x0102, 0x0103, 0x0104, 0x0105, 0x0106, 0x0107, 0x0108, 0x0109, 0x010A, 0x010B, 0x0200, 0x0201, 0x0202, 0x0203, 0x0204, 0x0205, 0x0206, 0x0207, 0x0300, 0x0301, 0x0302, 0x0303, 0x0304, 0x0305, 0x0306, 0x0307, 0x0308, 0x0309, 0x030A, 0x030B, 0x030C, 0x030D, 0x030E, 0x030F, 0x0400, 0x0401, 0x0402, 0x0403, 0x0404, 0x0500, 0x0501, 0x0502, 0x0503, 0x0600, 0x0601, 0x0700, 0x0701, 0x0702, 0x0703, 0x0800, 0x0801, 0x0802, 0x0803, 0x0804, 0x0805, 0x0806, 0x0900, 0x0901, 0x0902, 0x0903, 0x0A00, 0x0A01, 0x0A02, 0x0A03, 0x0A04, 0x0A05, 0x0A06, 0x0A07, 0x0A08, 0x0A09, 0x0A0A, 0x0A0B, 0x0A0C, 0x0B00, 0x0B01, 0x0B02, 0x0B03, 0x0B04, 0x0B05, 0x0B06, 0x0B07, 0x0B08, 0x0B09, 0x0C00, 0x0C01, 0x0C02, 0x0D00, 0x0D01, 0x0D02, 0x0D03, 0x0D04, 0x0D05, 0x0D06, 0x0D07, 0x0E00, 0x0E01, 0x0E02, 0x0E03, 0x0E04, 0x0E05, 0x0E06, 0x0E07, 0x0E08, 0x0E09, 0x0E0A, 0x0E0B, 0x0E0C, 0x0F00, 0x0F01, 0x0F02, 0x0F03, 0x0F04, 0x0F05, 0x1000, 0x1100, 0x1101, 0x1102, 0x1103]

def Src.curtain : Nat := 0x0000
def Src.ghostLight : Nat := 0x0001
def Src.metering : Nat := 0x0002
def Src.glb : Nat := 0x0003
def Src.trigger : Nat := 0x0004
def Src.clocks : Nat := 0x0005
def Src.events : Nat := 0x0006
def Src.rings : Nat := 0x0008
def Src.hostRegs : Nat := 0x0009
def Src.obj : Nat := 0x000A
def Src.callBoard : Nat := 0x000B
def Src.blocking : Nat := 0x000C
def Src.cmp : Nat := 0x000D
def Src.fix : Nat := 0x000E
def Src.psh : Nat := 0x000F
def Src.lmp : Nat := 0x0010
def Src.core (n : Nat) : Nat := 0x0020 + n
def Src.fly (n : Nat) : Nat := 0x0040 + n
def Src.qb (n : Nat) : Nat := 0x0060 + n
def Src.chk (n : Nat) : Nat := 0x0080 + n
def Src.re (n : Nat) : Nat := 0x0100 + n
def Src.fe (n : Nat) : Nat := 0x0110 + n
def Src.link (n : Nat) : Nat := 0x0200 + n
def Src.eth (n : Nat) : Nat := 0x0280 + n
def Src.line (n : Nat) : Nat := 0x0290 + n
def Src.sig (n : Nat) : Nat := 0x02A0 + n
/-- The pair unit: no source of its own is listed; its events carry `TDM_0` (assumption 43). -/
def Src.tandem : Nat := Src.link 64

end Sys2Proof.Machine
end

