-- ==== Sys2Proof/Machine/RegNames.lean ====
section
/-! DEFINITION. The register names of the spec as BAR0 byte offsets, and the fields of every register
as (offset, lowest bit, width). Each name is the one the owning chapter's register tables give (R8); the index of
a register array is an argument. Written from the register tables of spec/02 to spec/19. -/

namespace Sys2Proof.Machine

/-- A field of a register: the register's offset, the field's lowest bit and its width. -/
structure Fld where
  reg : Nat
  lsb : Nat
  width : Nat
  deriving DecidableEq, Repr

/-! ### GLB registers (spec chapter 18) -/

def R.GLB_ID : Nat := 0x0
def F.GLB_ID.ID : Fld := ⟨R.GLB_ID, 0, 32⟩
def R.GLB_REV : Nat := 0x4
def F.GLB_REV.REV : Fld := ⟨R.GLB_REV, 0, 32⟩
def R.GLB_PCI_VID : Nat := 0x8
def F.GLB_PCI_VID.VID : Fld := ⟨R.GLB_PCI_VID, 0, 16⟩
def R.GLB_RESET : Nat := 0x10
def F.GLB_RESET.WARM : Fld := ⟨R.GLB_RESET, 0, 1⟩
def F.GLB_RESET.BLOCK_GO : Fld := ⟨R.GLB_RESET, 8, 1⟩
def F.GLB_RESET.KIND : Fld := ⟨R.GLB_RESET, 9, 3⟩
def F.GLB_RESET.INDEX : Fld := ⟨R.GLB_RESET, 12, 6⟩
def R.GLB_WD : Nat := 0x18
def F.GLB_WD.PERIOD : Fld := ⟨R.GLB_WD, 0, 16⟩
def F.GLB_WD.EN : Fld := ⟨R.GLB_WD, 16, 1⟩
def R.GLB_WD_KICK : Nat := 0x1C
def F.GLB_WD_KICK.KICK : Fld := ⟨R.GLB_WD_KICK, 0, 1⟩
def R.GLB_BOOT : Nat := 0x20
def F.GLB_BOOT.STATE : Fld := ⟨R.GLB_BOOT, 0, 3⟩
def F.GLB_BOOT.SOURCE : Fld := ⟨R.GLB_BOOT, 3, 2⟩
def F.GLB_BOOT.BOOT_SEL : Fld := ⟨R.GLB_BOOT, 5, 2⟩
def F.GLB_BOOT.RECOVERY : Fld := ⟨R.GLB_BOOT, 7, 1⟩
def F.GLB_BOOT.FROM_WINGS : Fld := ⟨R.GLB_BOOT, 8, 1⟩
def F.GLB_BOOT.FALLBACK : Fld := ⟨R.GLB_BOOT, 9, 1⟩
def R.GLB_FW_VERSION : Nat := 0x24
def F.GLB_FW_VERSION.VERSION : Fld := ⟨R.GLB_FW_VERSION, 0, 32⟩
def R.GLB_ROLLBACK : Nat := 0x28
def F.GLB_ROLLBACK.FW : Fld := ⟨R.GLB_ROLLBACK, 0, 7⟩
def F.GLB_ROLLBACK.CUR : Fld := ⟨R.GLB_ROLLBACK, 8, 7⟩
def R.GLB_UPD_STATE : Nat := 0x30
def F.GLB_UPD_STATE.STATE : Fld := ⟨R.GLB_UPD_STATE, 0, 3⟩
def F.GLB_UPD_STATE.KIND : Fld := ⟨R.GLB_UPD_STATE, 3, 1⟩
def F.GLB_UPD_STATE.FAIL : Fld := ⟨R.GLB_UPD_STATE, 4, 4⟩
def R.GLB_UPD_CHUNKS : Nat := 0x34
def F.GLB_UPD_CHUNKS.RECEIVED : Fld := ⟨R.GLB_UPD_CHUNKS, 0, 16⟩
def F.GLB_UPD_CHUNKS.TOTAL : Fld := ⟨R.GLB_UPD_CHUNKS, 16, 16⟩
def R.GLB_UPD_CAP : Nat := 0x38
def F.GLB_UPD_CAP.CAP : Fld := ⟨R.GLB_UPD_CAP, 0, 14⟩
def R.GLB_UPD_CTRL : Nat := 0x3C
def F.GLB_UPD_CTRL.CANCEL : Fld := ⟨R.GLB_UPD_CTRL, 0, 1⟩
def R.GLB_SETTINGS_RESET : Nat := 0x40
def F.GLB_SETTINGS_RESET.SECTIONS : Fld := ⟨R.GLB_SETTINGS_RESET, 0, 8⟩
def F.GLB_SETTINGS_RESET.LOST : Fld := ⟨R.GLB_SETTINGS_RESET, 8, 1⟩
def R.GLB_LOAD_LEN : Nat := 0x44
def F.GLB_LOAD_LEN.LENGTH : Fld := ⟨R.GLB_LOAD_LEN, 0, 26⟩
def R.GLB_LOAD_GO : Nat := 0x48
def F.GLB_LOAD_GO.GO : Fld := ⟨R.GLB_LOAD_GO, 0, 1⟩
def R.GLB_RESET_CAUSE : Nat := 0x50
def F.GLB_RESET_CAUSE.CAUSE : Fld := ⟨R.GLB_RESET_CAUSE, 0, 3⟩
def F.GLB_RESET_CAUSE.RTC : Fld := ⟨R.GLB_RESET_CAUSE, 3, 45⟩
/-! ### HST registers (spec chapter 02) -/

def R.HST_CTRL : Nat := 0x100000
def F.HST_CTRL.ENABLE : Fld := ⟨R.HST_CTRL, 0, 1⟩
def R.HST_DB_ADDR : Nat := 0x100008
def F.HST_DB_ADDR.ADDR : Fld := ⟨R.HST_DB_ADDR, 8, 56⟩
def R.HST_HEADVEC_ADDR : Nat := 0x100010
def F.HST_HEADVEC_ADDR.ADDR : Fld := ⟨R.HST_HEADVEC_ADDR, 8, 56⟩
def R.HST_DB_POLL : Nat := 0x100018
def F.HST_DB_POLL.PERIOD : Fld := ⟨R.HST_DB_POLL, 0, 20⟩
def R.HST_NUDGE : Nat := 0x10001C
def F.HST_NUDGE.GO : Fld := ⟨R.HST_NUDGE, 0, 1⟩
def R.HST_DBG_EN : Nat := 0x100020
def F.HST_DBG_EN.BAR4 : Fld := ⟨R.HST_DBG_EN, 0, 1⟩
def R.HST_STORE_FREE : Nat := 0x100024
def F.HST_STORE_FREE.COUNT : Fld := ⟨R.HST_STORE_FREE, 0, 14⟩
def R.HST_STORE_HELD : Nat := 0x100028
def F.HST_STORE_HELD.COUNT : Fld := ⟨R.HST_STORE_HELD, 0, 14⟩
def R.HST_DB_FAIL_CNT : Nat := 0x100030
def F.HST_DB_FAIL_CNT.COUNT : Fld := ⟨R.HST_DB_FAIL_CNT, 0, 64⟩
def R.HST_RING_CFG (n : Nat) : Nat := 0x101000 + 0x40 * n
def F.HST_RING_CFG.CLASS (n : Nat) : Fld := ⟨R.HST_RING_CFG n, 0, 2⟩
def F.HST_RING_CFG.ENABLE (n : Nat) : Fld := ⟨R.HST_RING_CFG n, 2, 1⟩
def F.HST_RING_CFG.IRQ (n : Nat) : Fld := ⟨R.HST_RING_CFG n, 3, 1⟩
def F.HST_RING_CFG.SIZE_LOG2 (n : Nat) : Fld := ⟨R.HST_RING_CFG n, 4, 4⟩
def F.HST_RING_CFG.CQ_SIZE_LOG2 (n : Nat) : Fld := ⟨R.HST_RING_CFG n, 8, 4⟩
def F.HST_RING_CFG.VEC (n : Nat) : Fld := ⟨R.HST_RING_CFG n, 12, 6⟩
def R.HST_RING_BASE (n : Nat) : Nat := 0x101008 + 0x40 * n
def F.HST_RING_BASE.ADDR (n : Nat) : Fld := ⟨R.HST_RING_BASE n, 12, 52⟩
def R.HST_RING_CQ (n : Nat) : Nat := 0x101010 + 0x40 * n
def F.HST_RING_CQ.ADDR (n : Nat) : Fld := ⟨R.HST_RING_CQ n, 12, 52⟩
def R.HST_RING_STATE (n : Nat) : Nat := 0x101018 + 0x40 * n
def F.HST_RING_STATE.FETCH_HEAD (n : Nat) : Fld := ⟨R.HST_RING_STATE n, 0, 16⟩
def F.HST_RING_STATE.HELD (n : Nat) : Fld := ⟨R.HST_RING_STATE n, 16, 11⟩
def F.HST_RING_STATE.CUE_OPEN (n : Nat) : Fld := ⟨R.HST_RING_STATE n, 27, 1⟩
def F.HST_RING_STATE.STOPPED (n : Nat) : Fld := ⟨R.HST_RING_STATE n, 31, 1⟩
def R.HST_RING_CQ_STATE (n : Nat) : Nat := 0x10101C + 0x40 * n
def F.HST_RING_CQ_STATE.CQ_TAIL (n : Nat) : Fld := ⟨R.HST_RING_CQ_STATE n, 0, 16⟩
def F.HST_RING_CQ_STATE.CQ_HEAD (n : Nat) : Fld := ⟨R.HST_RING_CQ_STATE n, 16, 16⟩
def R.HST_RING_CTRL (n : Nat) : Nat := 0x101020 + 0x40 * n
def F.HST_RING_CTRL.HEAD (n : Nat) : Fld := ⟨R.HST_RING_CTRL n, 0, 16⟩
def F.HST_RING_CTRL.RESTART (n : Nat) : Fld := ⟨R.HST_RING_CTRL n, 31, 1⟩
def R.HST_RING_DONE_CNT (n : Nat) : Nat := 0x101028 + 0x40 * n
def F.HST_RING_DONE_CNT.COUNT (n : Nat) : Fld := ⟨R.HST_RING_DONE_CNT n, 0, 64⟩
def R.HST_RING_ERR_CNT (n : Nat) : Nat := 0x101030 + 0x40 * n
def F.HST_RING_ERR_CNT.COUNT (n : Nat) : Fld := ⟨R.HST_RING_ERR_CNT n, 0, 64⟩
def R.HST_RING_LOST_CNT (n : Nat) : Nat := 0x101038 + 0x40 * n
def F.HST_RING_LOST_CNT.COUNT (n : Nat) : Fld := ⟨R.HST_RING_LOST_CNT n, 0, 64⟩
def R.HST_VEC_HOLDOFF (n : Nat) : Nat := 0x102000 + 0x4 * n
def F.HST_VEC_HOLDOFF.HOLDOFF (n : Nat) : Fld := ⟨R.HST_VEC_HOLDOFF n, 0, 16⟩
/-! ### OBJ registers (spec chapter 02) -/

def R.OBJ_LIVE : Nat := 0x180000
def F.OBJ_LIVE.COUNT : Fld := ⟨R.OBJ_LIVE, 0, 17⟩
def R.OBJ_PAGES_FREE : Nat := 0x180004
def F.OBJ_PAGES_FREE.COUNT : Fld := ⟨R.OBJ_PAGES_FREE, 0, 19⟩
def R.OBJ_PAGES_USED : Nat := 0x180008
def F.OBJ_PAGES_USED.COUNT : Fld := ⟨R.OBJ_PAGES_USED, 0, 19⟩
def R.OBJ_PAGES_RETIRED : Nat := 0x18000C
def F.OBJ_PAGES_RETIRED.COUNT : Fld := ⟨R.OBJ_PAGES_RETIRED, 0, 19⟩
def R.OBJ_SRAM_FREE : Nat := 0x180010
def F.OBJ_SRAM_FREE.COUNT : Fld := ⟨R.OBJ_SRAM_FREE, 0, 15⟩
def R.OBJ_SCRUB : Nat := 0x180020
def F.OBJ_SCRUB.PERIOD : Fld := ⟨R.OBJ_SCRUB, 0, 8⟩
def F.OBJ_SCRUB.CE_RETIRE : Fld := ⟨R.OBJ_SCRUB, 8, 8⟩
def F.OBJ_SCRUB.PC_FAIL_PAGES : Fld := ⟨R.OBJ_SCRUB, 16, 14⟩
def R.OBJ_INJECT : Nat := 0x180024
def F.OBJ_INJECT.MODE : Fld := ⟨R.OBJ_INJECT, 0, 2⟩
def F.OBJ_INJECT.TARGET : Fld := ⟨R.OBJ_INJECT, 2, 6⟩
def R.OBJ_LAST_UE : Nat := 0x180028
def F.OBJ_LAST_UE.ADDR : Fld := ⟨R.OBJ_LAST_UE, 0, 40⟩
def F.OBJ_LAST_UE.SRAM : Fld := ⟨R.OBJ_LAST_UE, 40, 1⟩
def R.OBJ_APT_HANDLE : Nat := 0x180040
def F.OBJ_APT_HANDLE.HANDLE : Fld := ⟨R.OBJ_APT_HANDLE, 0, 32⟩
def R.OBJ_APT_BASE : Nat := 0x180048
def F.OBJ_APT_BASE.BASE : Fld := ⟨R.OBJ_APT_BASE, 12, 52⟩
def R.OBJ_CE_CNT (n : Nat) : Nat := 0x180100 + 0x8 * n
def F.OBJ_CE_CNT.COUNT (n : Nat) : Fld := ⟨R.OBJ_CE_CNT n, 0, 64⟩
def R.OBJ_UE_CNT (n : Nat) : Nat := 0x180200 + 0x8 * n
def F.OBJ_UE_CNT.COUNT (n : Nat) : Fld := ⟨R.OBJ_UE_CNT n, 0, 64⟩
def R.OBJ_SRAM_CE_CNT : Nat := 0x180300
def F.OBJ_SRAM_CE_CNT.COUNT : Fld := ⟨R.OBJ_SRAM_CE_CNT, 0, 64⟩
def R.OBJ_SRAM_UE_CNT : Nat := 0x180308
def F.OBJ_SRAM_UE_CNT.COUNT : Fld := ⟨R.OBJ_SRAM_UE_CNT, 0, 64⟩
/-! ### TIM registers (spec chapter 03) -/

def R.TIM_HOUSE : Nat := 0x800000
def F.TIM_HOUSE.COUNT : Fld := ⟨R.TIM_HOUSE, 0, 64⟩
def R.TIM_NOW_S (n : Nat) : Nat := 0x800100 + 0x100 * n
def F.TIM_NOW_S.SEC (n : Nat) : Fld := ⟨R.TIM_NOW_S n, 0, 48⟩
def R.TIM_NOW_NS (n : Nat) : Nat := 0x800108 + 0x100 * n
def F.TIM_NOW_NS.NS (n : Nat) : Fld := ⟨R.TIM_NOW_NS n, 0, 30⟩
def R.TIM_NOW_FRAC (n : Nat) : Nat := 0x80010C + 0x100 * n
def F.TIM_NOW_FRAC.FRAC (n : Nat) : Fld := ⟨R.TIM_NOW_FRAC n, 0, 32⟩
def R.TIM_RATE (n : Nat) : Nat := 0x800110 + 0x100 * n
def F.TIM_RATE.RATE (n : Nat) : Fld := ⟨R.TIM_RATE n, 0, 23⟩
def R.TIM_STEP_S (n : Nat) : Nat := 0x800118 + 0x100 * n
def F.TIM_STEP_S.SEC (n : Nat) : Fld := ⟨R.TIM_STEP_S n, 0, 48⟩
def R.TIM_STEP_NS (n : Nat) : Nat := 0x800120 + 0x100 * n
def F.TIM_STEP_NS.NS (n : Nat) : Fld := ⟨R.TIM_STEP_NS n, 0, 31⟩
def R.TIM_CTRL (n : Nat) : Nat := 0x800124 + 0x100 * n
def F.TIM_CTRL.STEP (n : Nat) : Fld := ⟨R.TIM_CTRL n, 0, 1⟩
def F.TIM_CTRL.UNLOCK (n : Nat) : Fld := ⟨R.TIM_CTRL n, 1, 1⟩
def F.TIM_CTRL.PTP_OK (n : Nat) : Fld := ⟨R.TIM_CTRL n, 2, 1⟩
def F.TIM_CTRL.REVERT (n : Nat) : Fld := ⟨R.TIM_CTRL n, 3, 1⟩
def R.TIM_STATE (n : Nat) : Nat := 0x800128 + 0x100 * n
def F.TIM_STATE.DISC (n : Nat) : Fld := ⟨R.TIM_STATE n, 0, 1⟩
def F.TIM_STATE.ARB (n : Nat) : Fld := ⟨R.TIM_STATE n, 1, 2⟩
def F.TIM_STATE.SRC (n : Nat) : Fld := ⟨R.TIM_STATE n, 3, 4⟩
def F.TIM_STATE.CAUSE (n : Nat) : Fld := ⟨R.TIM_STATE n, 7, 2⟩
def R.TIM_PRIO (n : Nat) : Nat := 0x80012C + 0x100 * n
def F.TIM_PRIO.P0 (n : Nat) : Fld := ⟨R.TIM_PRIO n, 0, 4⟩
def F.TIM_PRIO.P1 (n : Nat) : Fld := ⟨R.TIM_PRIO n, 4, 4⟩
def F.TIM_PRIO.P2 (n : Nat) : Fld := ⟨R.TIM_PRIO n, 8, 4⟩
def F.TIM_PRIO.P3 (n : Nat) : Fld := ⟨R.TIM_PRIO n, 12, 4⟩
def R.TIM_HOLD (n : Nat) : Nat := 0x800130 + 0x100 * n
def F.TIM_HOLD.HOLD_MAX (n : Nat) : Fld := ⟨R.TIM_HOLD n, 0, 16⟩
def F.TIM_HOLD.SERVO_WD (n : Nat) : Fld := ⟨R.TIM_HOLD n, 16, 8⟩
def F.TIM_HOLD.QUAL_TIME (n : Nat) : Fld := ⟨R.TIM_HOLD n, 24, 8⟩
def R.TIM_SHOW_NOW_S : Nat := 0x800300
def F.TIM_SHOW_NOW_S.SEC : Fld := ⟨R.TIM_SHOW_NOW_S, 0, 48⟩
def R.TIM_SHOW_NOW_NS : Nat := 0x800308
def F.TIM_SHOW_NOW_NS.NS : Fld := ⟨R.TIM_SHOW_NOW_NS, 0, 30⟩
def R.TIM_SHOW_NOW_FRAC : Nat := 0x80030C
def F.TIM_SHOW_NOW_FRAC.FRAC : Fld := ⟨R.TIM_SHOW_NOW_FRAC, 0, 32⟩
def R.TIM_SHOW_CTRL : Nat := 0x800310
def F.TIM_SHOW_CTRL.SEL : Fld := ⟨R.TIM_SHOW_CTRL, 0, 1⟩
def F.TIM_SHOW_CTRL.SLEW : Fld := ⟨R.TIM_SHOW_CTRL, 1, 7⟩
def F.TIM_SHOW_CTRL.UNLOCK : Fld := ⟨R.TIM_SHOW_CTRL, 8, 1⟩
def R.TIM_SHOW_STATE : Nat := 0x800314
def F.TIM_SHOW_STATE.DISC : Fld := ⟨R.TIM_SHOW_STATE, 0, 1⟩
def F.TIM_SHOW_STATE.CAUSE : Fld := ⟨R.TIM_SHOW_STATE, 1, 2⟩
def R.TIM_SHOW_OFFSET : Nat := 0x800318
def F.TIM_SHOW_OFFSET.D : Fld := ⟨R.TIM_SHOW_OFFSET, 0, 64⟩
def R.TIM_REF_CFG (n : Nat) : Nat := 0x800400 + 0x20 * n
def F.TIM_REF_CFG.EN (n : Nat) : Fld := ⟨R.TIM_REF_CFG n, 0, 1⟩
def F.TIM_REF_CFG.EDGE (n : Nat) : Fld := ⟨R.TIM_REF_CFG n, 1, 1⟩
def F.TIM_REF_CFG.AVG_LOG2 (n : Nat) : Fld := ⟨R.TIM_REF_CFG n, 2, 4⟩
def F.TIM_REF_CFG.TOL (n : Nat) : Fld := ⟨R.TIM_REF_CFG n, 6, 10⟩
def R.TIM_REF_NUM (n : Nat) : Nat := 0x800404 + 0x20 * n
def F.TIM_REF_NUM.VALUE (n : Nat) : Fld := ⟨R.TIM_REF_NUM n, 0, 20⟩
def R.TIM_REF_DEN (n : Nat) : Nat := 0x800408 + 0x20 * n
def F.TIM_REF_DEN.VALUE (n : Nat) : Fld := ⟨R.TIM_REF_DEN n, 0, 20⟩
def R.TIM_REF_STATUS (n : Nat) : Nat := 0x80040C + 0x20 * n
def F.TIM_REF_STATUS.PRESENT (n : Nat) : Fld := ⟨R.TIM_REF_STATUS n, 0, 1⟩
def F.TIM_REF_STATUS.QUAL_A (n : Nat) : Fld := ⟨R.TIM_REF_STATUS n, 1, 1⟩
def F.TIM_REF_STATUS.QUAL_B (n : Nat) : Fld := ⟨R.TIM_REF_STATUS n, 2, 1⟩
def R.TIM_REF_PHASE_A (n : Nat) : Nat := 0x800410 + 0x20 * n
def F.TIM_REF_PHASE_A.PHASE (n : Nat) : Fld := ⟨R.TIM_REF_PHASE_A n, 0, 64⟩
def R.TIM_REF_PHASE_B (n : Nat) : Nat := 0x800418 + 0x20 * n
def F.TIM_REF_PHASE_B.PHASE (n : Nat) : Fld := ⟨R.TIM_REF_PHASE_B n, 0, 64⟩
def R.TIM_LTC_IN_LAST : Nat := 0x800500
def F.TIM_LTC_IN_LAST.FRAME : Fld := ⟨R.TIM_LTC_IN_LAST, 0, 6⟩
def F.TIM_LTC_IN_LAST.SEC : Fld := ⟨R.TIM_LTC_IN_LAST, 6, 6⟩
def F.TIM_LTC_IN_LAST.MIN : Fld := ⟨R.TIM_LTC_IN_LAST, 12, 6⟩
def F.TIM_LTC_IN_LAST.HOUR : Fld := ⟨R.TIM_LTC_IN_LAST, 18, 5⟩
def F.TIM_LTC_IN_LAST.DF : Fld := ⟨R.TIM_LTC_IN_LAST, 23, 1⟩
def F.TIM_LTC_IN_LAST.VALID : Fld := ⟨R.TIM_LTC_IN_LAST, 24, 1⟩
def R.TIM_LTC_IN_USER : Nat := 0x800504
def F.TIM_LTC_IN_USER.USER : Fld := ⟨R.TIM_LTC_IN_USER, 0, 32⟩
def R.TIM_LTC_OUT_CFG : Nat := 0x800508
def F.TIM_LTC_OUT_CFG.EN : Fld := ⟨R.TIM_LTC_OUT_CFG, 0, 1⟩
def F.TIM_LTC_OUT_CFG.RATE : Fld := ⟨R.TIM_LTC_OUT_CFG, 1, 2⟩
def R.TIM_LTC_OUT_OFFSET : Nat := 0x80050C
def F.TIM_LTC_OUT_OFFSET.OFFSET : Fld := ⟨R.TIM_LTC_OUT_OFFSET, 0, 32⟩
def R.TIM_LTC_OUT_USER : Nat := 0x800510
def F.TIM_LTC_OUT_USER.USER : Fld := ⟨R.TIM_LTC_OUT_USER, 0, 32⟩
def R.TIM_CUEIO_CFG (n : Nat) : Nat := 0x800600 + 0x4 * n
def F.TIM_CUEIO_CFG.MODE (n : Nat) : Fld := ⟨R.TIM_CUEIO_CFG n, 0, 2⟩
def F.TIM_CUEIO_CFG.EDGE (n : Nat) : Fld := ⟨R.TIM_CUEIO_CFG n, 2, 2⟩
def F.TIM_CUEIO_CFG.GLITCH (n : Nat) : Fld := ⟨R.TIM_CUEIO_CFG n, 4, 8⟩
def F.TIM_CUEIO_CFG.OUT (n : Nat) : Fld := ⟨R.TIM_CUEIO_CFG n, 12, 1⟩
def F.TIM_CUEIO_CFG.IN (n : Nat) : Fld := ⟨R.TIM_CUEIO_CFG n, 13, 1⟩
def R.TIM_FRAME_SEQ : Nat := 0x800700
def F.TIM_FRAME_SEQ.SEQ : Fld := ⟨R.TIM_FRAME_SEQ, 0, 64⟩
def R.TIM_FRAME_NEXT_S : Nat := 0x800708
def F.TIM_FRAME_NEXT_S.SEC : Fld := ⟨R.TIM_FRAME_NEXT_S, 0, 48⟩
def R.TIM_FRAME_NEXT_NS : Nat := 0x800710
def F.TIM_FRAME_NEXT_NS.NS : Fld := ⟨R.TIM_FRAME_NEXT_NS, 0, 30⟩
def R.TIM_FRAME_LATE_CNT : Nat := 0x800718
def F.TIM_FRAME_LATE_CNT.COUNT : Fld := ⟨R.TIM_FRAME_LATE_CNT, 0, 64⟩
def R.TIM_TRIG_TARGET_S (n : Nat) : Nat := 0x801000 + 0x40 * n
def F.TIM_TRIG_TARGET_S.TARGET_S (n : Nat) : Fld := ⟨R.TIM_TRIG_TARGET_S n, 0, 48⟩
def R.TIM_TRIG_TARGET_NS (n : Nat) : Nat := 0x801008 + 0x40 * n
def F.TIM_TRIG_TARGET_NS.TARGET_NS (n : Nat) : Fld := ⟨R.TIM_TRIG_TARGET_NS n, 0, 30⟩
def R.TIM_TRIG_PERIOD (n : Nat) : Nat := 0x80100C + 0x40 * n
def F.TIM_TRIG_PERIOD.PERIOD (n : Nat) : Fld := ⟨R.TIM_TRIG_PERIOD n, 0, 32⟩
def R.TIM_TRIG_CTRL (n : Nat) : Nat := 0x801010 + 0x40 * n
def F.TIM_TRIG_CTRL.ARM (n : Nat) : Fld := ⟨R.TIM_TRIG_CTRL n, 0, 1⟩
def F.TIM_TRIG_CTRL.CLOCK (n : Nat) : Fld := ⟨R.TIM_TRIG_CTRL n, 1, 2⟩
def F.TIM_TRIG_CTRL.ACTION (n : Nat) : Fld := ⟨R.TIM_TRIG_CTRL n, 3, 3⟩
def F.TIM_TRIG_CTRL.CUE_IO_PIN (n : Nat) : Fld := ⟨R.TIM_TRIG_CTRL n, 6, 4⟩
def F.TIM_TRIG_CTRL.LEVEL (n : Nat) : Fld := ⟨R.TIM_TRIG_CTRL n, 10, 1⟩
def F.TIM_TRIG_CTRL.ARG (n : Nat) : Fld := ⟨R.TIM_TRIG_CTRL n, 16, 8⟩
def R.TIM_TRIG_FIRE_CNT (n : Nat) : Nat := 0x801014 + 0x40 * n
def F.TIM_TRIG_FIRE_CNT.FIRE_CNT (n : Nat) : Fld := ⟨R.TIM_TRIG_FIRE_CNT n, 0, 32⟩
def R.TIM_TRIG_WORD (n m : Nat) : Nat := 0x801020 + 0x40 * n + 0x4 * m
def F.TIM_TRIG_WORD.WORD (n m : Nat) : Fld := ⟨R.TIM_TRIG_WORD n m, 0, 32⟩
/-! ### CB registers (spec chapter 04) -/

def R.CB_MODE : Nat := 0x200000
def F.CB_MODE.MODE : Fld := ⟨R.CB_MODE, 0, 2⟩
def R.CB_CTRL : Nat := 0x200004
def F.CB_CTRL.STEAL : Fld := ⟨R.CB_CTRL, 0, 2⟩
def F.CB_CTRL.HOLD : Fld := ⟨R.CB_CTRL, 2, 1⟩
def F.CB_CTRL.HOST_PRIO_MAX : Fld := ⟨R.CB_CTRL, 4, 3⟩
def R.CB_RESERVE : Nat := 0x200008
def F.CB_RESERVE.RESERVE : Fld := ⟨R.CB_RESERVE, 0, 11⟩
def R.CB_LIST_CAP : Nat := 0x20000C
def F.CB_LIST_CAP.CAP : Fld := ⟨R.CB_LIST_CAP, 0, 14⟩
def R.CB_SLOTS_FREE : Nat := 0x200010
def F.CB_SLOTS_FREE.COUNT : Fld := ⟨R.CB_SLOTS_FREE, 0, 14⟩
def R.CB_SLOTS_QUEUED : Nat := 0x200014
def F.CB_SLOTS_QUEUED.COUNT : Fld := ⟨R.CB_SLOTS_QUEUED, 0, 14⟩
def R.CB_SLOTS_DISPATCHED : Nat := 0x200018
def F.CB_SLOTS_DISPATCHED.COUNT : Fld := ⟨R.CB_SLOTS_DISPATCHED, 0, 14⟩
def R.CB_SLOTS_HANDOFF : Nat := 0x20001C
def F.CB_SLOTS_HANDOFF.COUNT : Fld := ⟨R.CB_SLOTS_HANDOFF, 0, 14⟩
def R.CB_STALL_WD : Nat := 0x200020
def F.CB_STALL_WD.LIMIT : Fld := ⟨R.CB_STALL_WD, 0, 20⟩
def R.CB_ENGINE_UP : Nat := 0x200028
def F.CB_ENGINE_UP.RE : Fld := ⟨R.CB_ENGINE_UP, 0, 16⟩
def F.CB_ENGINE_UP.FE : Fld := ⟨R.CB_ENGINE_UP, 16, 32⟩
def F.CB_ENGINE_UP.SM : Fld := ⟨R.CB_ENGINE_UP, 48, 4⟩
def R.CB_POST_CNT : Nat := 0x200040
def F.CB_POST_CNT.COUNT : Fld := ⟨R.CB_POST_CNT, 0, 64⟩
def R.CB_DISPATCH_CNT : Nat := 0x200048
def F.CB_DISPATCH_CNT.COUNT : Fld := ⟨R.CB_DISPATCH_CNT, 0, 64⟩
def R.CB_REFUSED_CNT : Nat := 0x200050
def F.CB_REFUSED_CNT.COUNT : Fld := ⟨R.CB_REFUSED_CNT, 0, 64⟩
def R.CB_INVALID_CNT : Nat := 0x200058
def F.CB_INVALID_CNT.COUNT : Fld := ⟨R.CB_INVALID_CNT, 0, 64⟩
def R.CB_RETARGET_CNT : Nat := 0x200060
def F.CB_RETARGET_CNT.COUNT : Fld := ⟨R.CB_RETARGET_CNT, 0, 64⟩
def R.CB_REQUEUE_CNT : Nat := 0x200068
def F.CB_REQUEUE_CNT.COUNT : Fld := ⟨R.CB_REQUEUE_CNT, 0, 64⟩
def R.CB_LOST_CNT : Nat := 0x200070
def F.CB_LOST_CNT.COUNT : Fld := ⟨R.CB_LOST_CNT, 0, 64⟩
def R.CB_STALL_CNT : Nat := 0x200078
def F.CB_STALL_CNT.COUNT : Fld := ⟨R.CB_STALL_CNT, 0, 64⟩
def R.CB_LIST_COUNT (n : Nat) : Nat := 0x201000 + 0x4 * n
def F.CB_LIST_COUNT.COUNT (n : Nat) : Fld := ⟨R.CB_LIST_COUNT n, 0, 14⟩
def R.CB_STANDBY (n : Nat) : Nat := 0x202000 + 0x100 * n
def F.CB_STANDBY.SLOT (n : Nat) : Fld := ⟨R.CB_STANDBY n, 0, 16⟩
def F.CB_STANDBY.KIND (n : Nat) : Fld := ⟨R.CB_STANDBY n, 16, 8⟩
def R.CB_WITHDRAW (n : Nat) : Nat := 0x202004 + 0x100 * n
def F.CB_WITHDRAW.GO (n : Nat) : Fld := ⟨R.CB_WITHDRAW n, 0, 1⟩
def R.CB_SM_STATE (n : Nat) : Nat := 0x202008 + 0x100 * n
def F.CB_SM_STATE.WAITING (n : Nat) : Fld := ⟨R.CB_SM_STATE n, 0, 1⟩
def F.CB_SM_STATE.WD_PEND (n : Nat) : Fld := ⟨R.CB_SM_STATE n, 1, 1⟩
def F.CB_SM_STATE.HOLDING (n : Nat) : Fld := ⟨R.CB_SM_STATE n, 2, 1⟩
def F.CB_SM_STATE.RESV (n : Nat) : Fld := ⟨R.CB_SM_STATE n, 3, 4⟩
def F.CB_SM_STATE.SLOT (n : Nat) : Fld := ⟨R.CB_SM_STATE n, 16, 16⟩
def R.CB_CALL_WORD (n m : Nat) : Nat := 0x202020 + 0x100 * n + 0x4 * m
def F.CB_CALL_WORD.WORD (n m : Nat) : Fld := ⟨R.CB_CALL_WORD n m, 0, 32⟩
def R.CB_POST_WORD (n m : Nat) : Nat := 0x202040 + 0x100 * n + 0x4 * m
def F.CB_POST_WORD.WORD (n m : Nat) : Fld := ⟨R.CB_POST_WORD n m, 0, 32⟩
def R.CB_POST (n : Nat) : Nat := 0x202060 + 0x100 * n
def F.CB_POST.RESULT (n : Nat) : Fld := ⟨R.CB_POST n, 0, 2⟩
def F.CB_POST.SLOT (n : Nat) : Fld := ⟨R.CB_POST n, 16, 16⟩
/-! ### BLK registers (spec chapter 05) -/

def R.BLK_HYST : Nat := 0x300000
def F.BLK_HYST.HYST : Fld := ⟨R.BLK_HYST, 0, 8⟩
def R.BLK_WEIGHT : Nat := 0x300004
def F.BLK_WEIGHT.REMOTE : Fld := ⟨R.BLK_WEIGHT, 0, 8⟩
def F.BLK_WEIGHT.FAR : Fld := ⟨R.BLK_WEIGHT, 8, 8⟩
def F.BLK_WEIGHT.DRAIN : Fld := ⟨R.BLK_WEIGHT, 16, 8⟩
def R.BLK_EST : Nat := 0x300008
def F.BLK_EST.RE_LAYER : Fld := ⟨R.BLK_EST, 0, 16⟩
def F.BLK_EST.FE_FIXTURE : Fld := ⟨R.BLK_EST, 16, 8⟩
def R.BLK_MIG_BUDGET : Nat := 0x30000C
def F.BLK_MIG_BUDGET.MIB : Fld := ⟨R.BLK_MIG_BUDGET, 0, 11⟩
def R.BLK_EVAC_BUDGET : Nat := 0x300010
def F.BLK_EVAC_BUDGET.MIB : Fld := ⟨R.BLK_EVAC_BUDGET, 0, 11⟩
def R.BLK_MIG_DWELL : Nat := 0x300014
def F.BLK_MIG_DWELL.PLANS : Fld := ⟨R.BLK_MIG_DWELL, 0, 8⟩
def R.BLK_INFLIGHT : Nat := 0x300018
def F.BLK_INFLIGHT.LIMIT : Fld := ⟨R.BLK_INFLIGHT, 0, 13⟩
def R.BLK_PRIO : Nat := 0x30001C
def F.BLK_PRIO.RENDER : Fld := ⟨R.BLK_PRIO, 0, 3⟩
def F.BLK_PRIO.FIXTURE : Fld := ⟨R.BLK_PRIO, 4, 3⟩
def F.BLK_PRIO.COMPILE : Fld := ⟨R.BLK_PRIO, 8, 3⟩
def R.BLK_FE_CHUNK : Nat := 0x300020
def F.BLK_FE_CHUNK.LAMPS : Fld := ⟨R.BLK_FE_CHUNK, 0, 17⟩
def R.BLK_HANG : Nat := 0x300024
def F.BLK_HANG.LIMIT : Fld := ⟨R.BLK_HANG, 0, 16⟩
def R.BLK_SRAM_KEEP : Nat := 0x300028
def F.BLK_SRAM_KEEP.BLOCKS : Fld := ⟨R.BLK_SRAM_KEEP, 0, 15⟩
def R.BLK_PARK : Nat := 0x30002C
def F.BLK_PARK.EN : Fld := ⟨R.BLK_PARK, 0, 1⟩
def F.BLK_PARK.HEADROOM : Fld := ⟨R.BLK_PARK, 8, 8⟩
def R.BLK_HEALTH_RE : Nat := 0x300040
def F.BLK_HEALTH_RE.MASK : Fld := ⟨R.BLK_HEALTH_RE, 0, 16⟩
def R.BLK_HEALTH_FE : Nat := 0x300044
def F.BLK_HEALTH_FE.MASK : Fld := ⟨R.BLK_HEALTH_FE, 0, 32⟩
def R.BLK_HEALTH_PC : Nat := 0x300048
def F.BLK_HEALTH_PC.MASK : Fld := ⟨R.BLK_HEALTH_PC, 0, 32⟩
def R.BLK_PARKED : Nat := 0x30004C
def F.BLK_PARKED.ENG : Fld := ⟨R.BLK_PARKED, 0, 8⟩
def R.BLK_LAST_FRAME : Nat := 0x300060
def F.BLK_LAST_FRAME.SEQ : Fld := ⟨R.BLK_LAST_FRAME, 0, 64⟩
def R.BLK_PLAN_TIME : Nat := 0x300068
def F.BLK_PLAN_TIME.ECLK : Fld := ⟨R.BLK_PLAN_TIME, 0, 16⟩
def R.BLK_PLAN_MAX : Nat := 0x30006C
def F.BLK_PLAN_MAX.ECLK : Fld := ⟨R.BLK_PLAN_MAX, 0, 16⟩
def R.BLK_ITEMS : Nat := 0x300070
def F.BLK_ITEMS.COUNT : Fld := ⟨R.BLK_ITEMS, 0, 17⟩
def R.BLK_MIG_PENDING : Nat := 0x300078
def F.BLK_MIG_PENDING.COUNT : Fld := ⟨R.BLK_MIG_PENDING, 0, 64⟩
def R.BLK_MIG_BYTES_CNT : Nat := 0x300080
def F.BLK_MIG_BYTES_CNT.COUNT : Fld := ⟨R.BLK_MIG_BYTES_CNT, 0, 64⟩
def R.BLK_PIN_BROKEN_CNT : Nat := 0x300088
def F.BLK_PIN_BROKEN_CNT.COUNT : Fld := ⟨R.BLK_PIN_BROKEN_CNT, 0, 64⟩
def R.BLK_DISCARD_CNT : Nat := 0x300090
def F.BLK_DISCARD_CNT.COUNT : Fld := ⟨R.BLK_DISCARD_CNT, 0, 64⟩
/-! ### CMP registers (spec chapter 06) -/

def R.CMP_CTRL : Nat := 0x400000
def F.CMP_CTRL.OCCLUDE : Fld := ⟨R.CMP_CTRL, 0, 1⟩
def F.CMP_CTRL.SKIP_EMPTY : Fld := ⟨R.CMP_CTRL, 1, 1⟩
def R.CMP_TILES_USED : Nat := 0x400004
def F.CMP_TILES_USED.COUNT : Fld := ⟨R.CMP_TILES_USED, 0, 23⟩
def R.CMP_CANVAS_TILES (n : Nat) : Nat := 0x400100 + 0x4 * n
def F.CMP_CANVAS_TILES.COUNT (n : Nat) : Fld := ⟨R.CMP_CANVAS_TILES n, 0, 17⟩
def R.CMP_RE_STATUS (n : Nat) : Nat := 0x400200 + 0x4 * n
def F.CMP_RE_STATUS.BUSY (n : Nat) : Fld := ⟨R.CMP_RE_STATUS n, 0, 1⟩
def F.CMP_RE_STATUS.FENCED (n : Nat) : Fld := ⟨R.CMP_RE_STATUS n, 1, 1⟩
def F.CMP_RE_STATUS.HELD (n : Nat) : Fld := ⟨R.CMP_RE_STATUS n, 2, 3⟩
def F.CMP_RE_STATUS.FAULT (n : Nat) : Fld := ⟨R.CMP_RE_STATUS n, 5, 1⟩
def R.CMP_TILE_CNT : Nat := 0x400300
def F.CMP_TILE_CNT.COUNT : Fld := ⟨R.CMP_TILE_CNT, 0, 64⟩
def R.CMP_FETCH_CNT : Nat := 0x400308
def F.CMP_FETCH_CNT.COUNT : Fld := ⟨R.CMP_FETCH_CNT, 0, 64⟩
def R.CMP_OCCLUDED_CNT : Nat := 0x400310
def F.CMP_OCCLUDED_CNT.COUNT : Fld := ⟨R.CMP_OCCLUDED_CNT, 0, 64⟩
def R.CMP_EMPTY_CNT : Nat := 0x400318
def F.CMP_EMPTY_CNT.COUNT : Fld := ⟨R.CMP_EMPTY_CNT, 0, 64⟩
def R.CMP_NONFINITE_CNT : Nat := 0x400320
def F.CMP_NONFINITE_CNT.COUNT : Fld := ⟨R.CMP_NONFINITE_CNT, 0, 64⟩
def R.CMP_POISON_CNT : Nat := 0x400328
def F.CMP_POISON_CNT.COUNT : Fld := ⟨R.CMP_POISON_CNT, 0, 64⟩
def R.CMP_TILE_MISS_CNT : Nat := 0x400330
def F.CMP_TILE_MISS_CNT.COUNT : Fld := ⟨R.CMP_TILE_MISS_CNT, 0, 64⟩
def R.CMP_LAST_POISON : Nat := 0x400340
def F.CMP_LAST_POISON.HANDLE : Fld := ⟨R.CMP_LAST_POISON, 0, 32⟩
def F.CMP_LAST_POISON.BLOCK : Fld := ⟨R.CMP_LAST_POISON, 32, 32⟩
/-! ### PSH registers (spec chapter 07) -/

def R.PSH_FORGET : Nat := 0x500000
def F.PSH_FORGET.LINK : Fld := ⟨R.PSH_FORGET, 0, 6⟩
def F.PSH_FORGET.GO : Fld := ⟨R.PSH_FORGET, 31, 1⟩
def R.PSH_POISON_CNT : Nat := 0x500008
def F.PSH_POISON_CNT.COUNT : Fld := ⟨R.PSH_POISON_CNT, 0, 64⟩
def R.PSH_STATE (n : Nat) : Nat := 0x501000 + 0x40 * n
def F.PSH_STATE.PHASE (n : Nat) : Fld := ⟨R.PSH_STATE n, 0, 2⟩
def F.PSH_STATE.LAST_OK (n : Nat) : Fld := ⟨R.PSH_STATE n, 2, 1⟩
def F.PSH_STATE.SKIPPED (n : Nat) : Fld := ⟨R.PSH_STATE n, 3, 1⟩
def R.PSH_UNITS (n : Nat) : Nat := 0x501004 + 0x40 * n
def F.PSH_UNITS.COUNT (n : Nat) : Fld := ⟨R.PSH_UNITS n, 0, 20⟩
def R.PSH_SWEEP (n : Nat) : Nat := 0x501008 + 0x40 * n
def F.PSH_SWEEP.COUNT (n : Nat) : Fld := ⟨R.PSH_SWEEP n, 0, 20⟩
def R.PSH_DIRTY (n : Nat) : Nat := 0x50100C + 0x40 * n
def F.PSH_DIRTY.COUNT (n : Nat) : Fld := ⟨R.PSH_DIRTY n, 0, 20⟩
def R.PSH_SENT_CNT (n : Nat) : Nat := 0x501010 + 0x40 * n
def F.PSH_SENT_CNT.COUNT (n : Nat) : Fld := ⟨R.PSH_SENT_CNT n, 0, 64⟩
def R.PSH_BYTES_CNT (n : Nat) : Nat := 0x501018 + 0x40 * n
def F.PSH_BYTES_CNT.COUNT (n : Nat) : Fld := ⟨R.PSH_BYTES_CNT n, 0, 64⟩
def R.PSH_REFRESH_CNT (n : Nat) : Nat := 0x501020 + 0x40 * n
def F.PSH_REFRESH_CNT.COUNT (n : Nat) : Fld := ⟨R.PSH_REFRESH_CNT n, 0, 64⟩
def R.PSH_RESEND_CNT (n : Nat) : Nat := 0x501028 + 0x40 * n
def F.PSH_RESEND_CNT.COUNT (n : Nat) : Fld := ⟨R.PSH_RESEND_CNT n, 0, 64⟩
def R.PSH_STALE_CNT (n : Nat) : Nat := 0x501030 + 0x40 * n
def F.PSH_STALE_CNT.COUNT (n : Nat) : Fld := ⟨R.PSH_STALE_CNT n, 0, 64⟩
def R.PSH_FORGET_CNT (n : Nat) : Nat := 0x501038 + 0x40 * n
def F.PSH_FORGET_CNT.COUNT (n : Nat) : Fld := ⟨R.PSH_FORGET_CNT n, 0, 64⟩
/-! ### SPT registers (spec chapter 07) -/

def R.SPT_MISMATCH : Nat := 0x580000
def F.SPT_MISMATCH.WIN : Fld := ⟨R.SPT_MISMATCH, 0, 48⟩
def R.SPT_INCOMPLETE : Nat := 0x580008
def F.SPT_INCOMPLETE.WIN : Fld := ⟨R.SPT_INCOMPLETE, 0, 48⟩
def R.SPT_STATUS (n : Nat) : Nat := 0x581000 + 0x80 * n
def F.SPT_STATUS.VALID (n : Nat) : Fld := ⟨R.SPT_STATUS n, 0, 1⟩
def F.SPT_STATUS.MATCH (n : Nat) : Fld := ⟨R.SPT_STATUS n, 1, 1⟩
def F.SPT_STATUS.DROPPED (n : Nat) : Fld := ⟨R.SPT_STATUS n, 2, 1⟩
def F.SPT_STATUS.HIST_COUNT (n : Nat) : Fld := ⟨R.SPT_STATUS n, 4, 4⟩
def R.SPT_RESULT (n : Nat) : Nat := 0x581004 + 0x80 * n
def F.SPT_RESULT.CRC (n : Nat) : Fld := ⟨R.SPT_RESULT n, 0, 32⟩
def R.SPT_FRAME (n : Nat) : Nat := 0x581008 + 0x80 * n
def F.SPT_FRAME.SEQ (n : Nat) : Fld := ⟨R.SPT_FRAME n, 0, 64⟩
def R.SPT_MISMATCH_CNT (n : Nat) : Nat := 0x581010 + 0x80 * n
def F.SPT_MISMATCH_CNT.COUNT (n : Nat) : Fld := ⟨R.SPT_MISMATCH_CNT n, 0, 64⟩
def R.SPT_INCOMPLETE_CNT (n : Nat) : Nat := 0x581018 + 0x80 * n
def F.SPT_INCOMPLETE_CNT.COUNT (n : Nat) : Fld := ⟨R.SPT_INCOMPLETE_CNT n, 0, 64⟩
def R.SPT_HIST (n m : Nat) : Nat := 0x581040 + 0x80 * n + 0x8 * m
def F.SPT_HIST.CRC (n m : Nat) : Fld := ⟨R.SPT_HIST n m, 0, 32⟩
def F.SPT_HIST.SEQ (n m : Nat) : Fld := ⟨R.SPT_HIST n m, 32, 32⟩
/-! ### FIX registers (spec chapter 08) -/

def R.FIX_CTRL : Nat := 0x600000
def F.FIX_CTRL.CAP_EN : Fld := ⟨R.FIX_CTRL, 0, 1⟩
def F.FIX_CTRL.TRIM_EN : Fld := ⟨R.FIX_CTRL, 1, 1⟩
def R.FIX_CAP : Nat := 0x600004
def F.FIX_CAP.UP : Fld := ⟨R.FIX_CAP, 0, 8⟩
def F.FIX_CAP.MARGIN : Fld := ⟨R.FIX_CAP, 8, 8⟩
def F.FIX_CAP.TRIM : Fld := ⟨R.FIX_CAP, 16, 16⟩
def R.FIX_TRIM_MIN : Nat := 0x600008
def F.FIX_TRIM_MIN.WATTS : Fld := ⟨R.FIX_TRIM_MIN, 0, 16⟩
def R.FIX_GAMUT_HANDLE : Nat := 0x600010
def F.FIX_GAMUT_HANDLE.HANDLE : Fld := ⟨R.FIX_GAMUT_HANDLE, 0, 32⟩
def R.FIX_GAMUT_STATE : Nat := 0x600014
def F.FIX_GAMUT_STATE.COMPILED : Fld := ⟨R.FIX_GAMUT_STATE, 0, 1⟩
def F.FIX_GAMUT_STATE.RUNNING : Fld := ⟨R.FIX_GAMUT_STATE, 1, 1⟩
def F.FIX_GAMUT_STATE.STALE : Fld := ⟨R.FIX_GAMUT_STATE, 2, 1⟩
def F.FIX_GAMUT_STATE.PARTIAL : Fld := ⟨R.FIX_GAMUT_STATE, 3, 1⟩
def F.FIX_GAMUT_STATE.EMPTY_709 : Fld := ⟨R.FIX_GAMUT_STATE, 4, 1⟩
def F.FIX_GAMUT_STATE.EMPTY_2020 : Fld := ⟨R.FIX_GAMUT_STATE, 5, 1⟩
def R.FIX_GAMUT_709_SIGMA : Nat := 0x600018
def F.FIX_GAMUT_709_SIGMA.VALUE : Fld := ⟨R.FIX_GAMUT_709_SIGMA, 0, 32⟩
def R.FIX_GAMUT_709_L : Nat := 0x60001C
def F.FIX_GAMUT_709_L.VALUE : Fld := ⟨R.FIX_GAMUT_709_L, 0, 32⟩
def R.FIX_GAMUT_2020_SIGMA : Nat := 0x600020
def F.FIX_GAMUT_2020_SIGMA.VALUE : Fld := ⟨R.FIX_GAMUT_2020_SIGMA, 0, 32⟩
def R.FIX_GAMUT_2020_L : Nat := 0x600024
def F.FIX_GAMUT_2020_L.VALUE : Fld := ⟨R.FIX_GAMUT_2020_L, 0, 32⟩
def R.FIX_GAMUT_INVALID : Nat := 0x600028
def F.FIX_GAMUT_INVALID.COUNT : Fld := ⟨R.FIX_GAMUT_INVALID, 0, 27⟩
def R.FIX_FEED_SCALE (n : Nat) : Nat := 0x600100 + 0x4 * n
def F.FIX_FEED_SCALE.SCALE (n : Nat) : Fld := ⟨R.FIX_FEED_SCALE n, 0, 32⟩
def R.FIX_FEED_GAIN (n : Nat) : Nat := 0x600300 + 0x4 * n
def F.FIX_FEED_GAIN.GAIN (n : Nat) : Fld := ⟨R.FIX_FEED_GAIN n, 0, 32⟩
def R.FIX_FEED_POWER (n : Nat) : Nat := 0x600500 + 0x8 * n
def F.FIX_FEED_POWER.RAW (n : Nat) : Fld := ⟨R.FIX_FEED_POWER n, 0, 32⟩
def F.FIX_FEED_POWER.UNSCALED (n : Nat) : Fld := ⟨R.FIX_FEED_POWER n, 32, 32⟩
def R.FIX_LAMP_CNT : Nat := 0x600800
def F.FIX_LAMP_CNT.COUNT : Fld := ⟨R.FIX_LAMP_CNT, 0, 64⟩
def R.FIX_FIXTURE_CNT : Nat := 0x600808
def F.FIX_FIXTURE_CNT.COUNT : Fld := ⟨R.FIX_FIXTURE_CNT, 0, 64⟩
def R.FIX_CLIP_CNT : Nat := 0x600810
def F.FIX_CLIP_CNT.COUNT : Fld := ⟨R.FIX_CLIP_CNT, 0, 64⟩
def R.FIX_HOLD_CNT : Nat := 0x600818
def F.FIX_HOLD_CNT.COUNT : Fld := ⟨R.FIX_HOLD_CNT, 0, 64⟩
def R.FIX_DARK_CNT : Nat := 0x600820
def F.FIX_DARK_CNT.COUNT : Fld := ⟨R.FIX_DARK_CNT, 0, 64⟩
def R.FIX_POISON_CNT : Nat := 0x600828
def F.FIX_POISON_CNT.COUNT : Fld := ⟨R.FIX_POISON_CNT, 0, 64⟩
def R.FIX_INVALID_CNT : Nat := 0x600830
def F.FIX_INVALID_CNT.COUNT : Fld := ⟨R.FIX_INVALID_CNT, 0, 64⟩
def R.FIX_FE_STATUS (n : Nat) : Nat := 0x600A00 + 0x4 * n
def F.FIX_FE_STATUS.BUSY (n : Nat) : Fld := ⟨R.FIX_FE_STATUS n, 0, 1⟩
def F.FIX_FE_STATUS.CALL (n : Nat) : Fld := ⟨R.FIX_FE_STATUS n, 1, 2⟩
def F.FIX_FE_STATUS.FAULT (n : Nat) : Fld := ⟨R.FIX_FE_STATUS n, 3, 1⟩
/-! ### LMP registers (spec chapter 09) -/

def R.LMP_CTRL : Nat := 0x700000
def F.LMP_CTRL.DIAG_EN : Fld := ⟨R.LMP_CTRL, 0, 1⟩
def F.LMP_CTRL.FUNC_EN : Fld := ⟨R.LMP_CTRL, 1, 1⟩
def R.LMP_FUNC_OFF : Nat := 0x700008
def F.LMP_FUNC_OFF.FUNC : Fld := ⟨R.LMP_FUNC_OFF, 0, 64⟩
def R.LMP_FAILED_COUNT : Nat := 0x700010
def F.LMP_FAILED_COUNT.COUNT : Fld := ⟨R.LMP_FAILED_COUNT, 0, 11⟩
def R.LMP_FAILED_SEL : Nat := 0x700014
def F.LMP_FAILED_SEL.INDEX : Fld := ⟨R.LMP_FAILED_SEL, 0, 10⟩
def R.LMP_FAILED_ENTRY : Nat := 0x700018
def F.LMP_FAILED_ENTRY.SURFACE : Fld := ⟨R.LMP_FAILED_ENTRY, 0, 12⟩
def F.LMP_FAILED_ENTRY.LAMP : Fld := ⟨R.LMP_FAILED_ENTRY, 12, 20⟩
def F.LMP_FAILED_ENTRY.EMITTER : Fld := ⟨R.LMP_FAILED_ENTRY, 32, 3⟩
def F.LMP_FAILED_ENTRY.RESULT : Fld := ⟨R.LMP_FAILED_ENTRY, 35, 2⟩
def F.LMP_FAILED_ENTRY.NODE : Fld := ⟨R.LMP_FAILED_ENTRY, 37, 1⟩
def F.LMP_FAILED_ENTRY.VALID : Fld := ⟨R.LMP_FAILED_ENTRY, 38, 1⟩
def R.LMP_FAILED_CLEAR : Nat := 0x700020
def F.LMP_FAILED_CLEAR.INDEX : Fld := ⟨R.LMP_FAILED_CLEAR, 0, 10⟩
def F.LMP_FAILED_CLEAR.GO : Fld := ⟨R.LMP_FAILED_CLEAR, 31, 1⟩
def R.LMP_TEST_CNT : Nat := 0x700040
def F.LMP_TEST_CNT.COUNT : Fld := ⟨R.LMP_TEST_CNT, 0, 64⟩
def R.LMP_FAIL_CNT : Nat := 0x700048
def F.LMP_FAIL_CNT.COUNT : Fld := ⟨R.LMP_FAIL_CNT, 0, 64⟩
def R.LMP_BORROW_CNT : Nat := 0x700050
def F.LMP_BORROW_CNT.COUNT : Fld := ⟨R.LMP_BORROW_CNT, 0, 64⟩
def R.LMP_FAILED_LOST_CNT : Nat := 0x700058
def F.LMP_FAILED_LOST_CNT.COUNT : Fld := ⟨R.LMP_FAILED_LOST_CNT, 0, 64⟩
/-! ### SIG registers (spec chapter 09) -/

def R.SIG_CFG (n : Nat) : Nat := 0x781000 + 0x40 * n
def F.SIG_CFG.ENABLE (n : Nat) : Fld := ⟨R.SIG_CFG n, 0, 1⟩
def F.SIG_CFG.LENGTH (n : Nat) : Fld := ⟨R.SIG_CFG n, 1, 5⟩
def F.SIG_CFG.EN_POL (n : Nat) : Fld := ⟨R.SIG_CFG n, 6, 1⟩
def F.SIG_CFG.BYP_POL (n : Nat) : Fld := ⟨R.SIG_CFG n, 7, 1⟩
def R.SIG_THRESH (n : Nat) : Nat := 0x781004 + 0x40 * n
def F.SIG_THRESH.OPEN (n : Nat) : Fld := ⟨R.SIG_THRESH n, 0, 10⟩
def F.SIG_THRESH.SHORT (n : Nat) : Fld := ⟨R.SIG_THRESH n, 16, 10⟩
def R.SIG_STATE (n : Nat) : Nat := 0x781008 + 0x40 * n
def F.SIG_STATE.FAILED (n : Nat) : Fld := ⟨R.SIG_STATE n, 0, 16⟩
def F.SIG_STATE.BYPASS_FAULT (n : Nat) : Fld := ⟨R.SIG_STATE n, 16, 1⟩
def F.SIG_STATE.ACTIVE (n : Nat) : Fld := ⟨R.SIG_STATE n, 17, 1⟩
def F.SIG_STATE.POINTER (n : Nat) : Fld := ⟨R.SIG_STATE n, 18, 4⟩
def R.SIG_SENSE_LAST (n : Nat) : Nat := 0x78100C + 0x40 * n
def F.SIG_SENSE_LAST.CODE (n : Nat) : Fld := ⟨R.SIG_SENSE_LAST n, 0, 10⟩
def F.SIG_SENSE_LAST.POSITION (n : Nat) : Fld := ⟨R.SIG_SENSE_LAST n, 10, 4⟩
def F.SIG_SENSE_LAST.RESULT (n : Nat) : Fld := ⟨R.SIG_SENSE_LAST n, 14, 2⟩
def R.SIG_TEST_CNT (n : Nat) : Nat := 0x781010 + 0x40 * n
def F.SIG_TEST_CNT.COUNT (n : Nat) : Fld := ⟨R.SIG_TEST_CNT n, 0, 64⟩
def R.SIG_CLEAR (n : Nat) : Nat := 0x781018 + 0x40 * n
def F.SIG_CLEAR.MASK (n : Nat) : Fld := ⟨R.SIG_CLEAR n, 0, 16⟩
/-! ### CL registers (spec chapter 10) -/

def R.CL_CTRL (n : Nat) : Nat := 0x1000000 + 0x10000 * n
def F.CL_CTRL.EN (n : Nat) : Fld := ⟨R.CL_CTRL n, 0, 1⟩
def F.CL_CTRL.EXPECTED (n : Nat) : Fld := ⟨R.CL_CTRL n, 1, 1⟩
def F.CL_CTRL.RETRAIN (n : Nat) : Fld := ⟨R.CL_CTRL n, 2, 1⟩
def R.CL_STATE (n : Nat) : Nat := 0x1000004 + 0x10000 * n
def F.CL_STATE.STATE (n : Nat) : Fld := ⟨R.CL_STATE n, 0, 3⟩
def F.CL_STATE.ABSENT (n : Nat) : Fld := ⟨R.CL_STATE n, 3, 1⟩
def F.CL_STATE.LAST_FAIL (n : Nat) : Fld := ⟨R.CL_STATE n, 4, 3⟩
def F.CL_STATE.ADDRS (n : Nat) : Fld := ⟨R.CL_STATE n, 8, 9⟩
def R.CL_CFG (n : Nat) : Nat := 0x1000008 + 0x10000 * n
def F.CL_CFG.RET_QB (n : Nat) : Fld := ⟨R.CL_CFG n, 0, 5⟩
def F.CL_CFG.HOLD (n : Nat) : Fld := ⟨R.CL_CFG n, 8, 4⟩
def F.CL_CFG.ECHO_PERIOD (n : Nat) : Fld := ⟨R.CL_CFG n, 16, 10⟩
def R.CL_PROBE (n : Nat) : Nat := 0x100000C + 0x10000 * n
def F.CL_PROBE.MS (n : Nat) : Fld := ⟨R.CL_PROBE n, 0, 14⟩
def R.CL_DELAY (n : Nat) : Nat := 0x1000010 + 0x10000 * n
def F.CL_DELAY.VALUE (n : Nat) : Fld := ⟨R.CL_DELAY n, 0, 32⟩
def R.CL_RTT_LAST (n : Nat) : Nat := 0x1000014 + 0x10000 * n
def F.CL_RTT_LAST.VALUE (n : Nat) : Fld := ⟨R.CL_RTT_LAST n, 0, 32⟩
def R.CL_CRED_ADV (n : Nat) : Nat := 0x1000018 + 0x10000 * n
def F.CL_CRED_ADV.COUNT (n : Nat) : Fld := ⟨R.CL_CRED_ADV n, 0, 16⟩
def R.CL_CRED_HELD (n : Nat) : Nat := 0x100001C + 0x10000 * n
def F.CL_CRED_HELD.COUNT (n : Nat) : Fld := ⟨R.CL_CRED_HELD n, 0, 16⟩
def R.CL_CRED_OUT (n : Nat) : Nat := 0x1000020 + 0x10000 * n
def F.CL_CRED_OUT.COUNT (n : Nat) : Fld := ⟨R.CL_CRED_OUT n, 0, 16⟩
def R.CL_CLAIM (n : Nat) : Nat := 0x1000024 + 0x10000 * n
def F.CL_CLAIM.OWN (n : Nat) : Fld := ⟨R.CL_CLAIM n, 0, 16⟩
def F.CL_CLAIM.NODE (n : Nat) : Fld := ⟨R.CL_CLAIM n, 16, 16⟩
def R.CL_NODE_FLAGS (n : Nat) : Nat := 0x1000028 + 0x10000 * n
def F.CL_NODE_FLAGS.FLAGS (n : Nat) : Fld := ⟨R.CL_NODE_FLAGS n, 0, 6⟩
def R.CL_NODE_ID (n : Nat) : Nat := 0x100002C + 0x10000 * n
def F.CL_NODE_ID.VALUE (n : Nat) : Fld := ⟨R.CL_NODE_ID n, 0, 32⟩
def R.CL_NODE_SERIAL (n : Nat) : Nat := 0x1000030 + 0x10000 * n
def F.CL_NODE_SERIAL.VALUE (n : Nat) : Fld := ⟨R.CL_NODE_SERIAL n, 0, 32⟩
def R.CL_NODE_CAPS (n : Nat) : Nat := 0x1000034 + 0x10000 * n
def F.CL_NODE_CAPS.VALUE (n : Nat) : Fld := ⟨R.CL_NODE_CAPS n, 0, 32⟩
def R.CL_CFG_ADDR (n : Nat) : Nat := 0x1000040 + 0x10000 * n
def F.CL_CFG_ADDR.ADDR (n : Nat) : Fld := ⟨R.CL_CFG_ADDR n, 2, 30⟩
def R.CL_CFG_CMD (n : Nat) : Nat := 0x1000044 + 0x10000 * n
def F.CL_CFG_CMD.OP (n : Nat) : Fld := ⟨R.CL_CFG_CMD n, 0, 1⟩
def F.CL_CFG_CMD.COUNT (n : Nat) : Fld := ⟨R.CL_CFG_CMD n, 8, 7⟩
def F.CL_CFG_CMD.GO (n : Nat) : Fld := ⟨R.CL_CFG_CMD n, 31, 1⟩
def R.CL_CFG_STATUS (n : Nat) : Nat := 0x1000048 + 0x10000 * n
def F.CL_CFG_STATUS.BUSY (n : Nat) : Fld := ⟨R.CL_CFG_STATUS n, 0, 1⟩
def F.CL_CFG_STATUS.DONE (n : Nat) : Fld := ⟨R.CL_CFG_STATUS n, 1, 1⟩
def F.CL_CFG_STATUS.RESULT (n : Nat) : Fld := ⟨R.CL_CFG_STATUS n, 2, 2⟩
def R.CL_CFG_DATA (n m : Nat) : Nat := 0x1000100 + 0x10000 * n + 0x4 * m
def F.CL_CFG_DATA.WORD (n m : Nat) : Fld := ⟨R.CL_CFG_DATA n m, 0, 32⟩
def R.CL_TX_FRAME_CNT (n : Nat) : Nat := 0x1000200 + 0x10000 * n
def F.CL_TX_FRAME_CNT.COUNT (n : Nat) : Fld := ⟨R.CL_TX_FRAME_CNT n, 0, 64⟩
def R.CL_RX_FRAME_CNT (n : Nat) : Nat := 0x1000208 + 0x10000 * n
def F.CL_RX_FRAME_CNT.COUNT (n : Nat) : Fld := ⟨R.CL_RX_FRAME_CNT n, 0, 64⟩
def R.CL_RX_BAD_CNT (n : Nat) : Nat := 0x1000210 + 0x10000 * n
def F.CL_RX_BAD_CNT.COUNT (n : Nat) : Fld := ⟨R.CL_RX_BAD_CNT n, 0, 64⟩
def R.CL_RX_GAP_CNT (n : Nat) : Nat := 0x1000218 + 0x10000 * n
def F.CL_RX_GAP_CNT.COUNT (n : Nat) : Fld := ⟨R.CL_RX_GAP_CNT n, 0, 64⟩
def R.CL_RETRY_CNT (n : Nat) : Nat := 0x1000220 + 0x10000 * n
def F.CL_RETRY_CNT.COUNT (n : Nat) : Fld := ⟨R.CL_RETRY_CNT n, 0, 64⟩
def R.CL_DOWN_CNT (n : Nat) : Nat := 0x1000228 + 0x10000 * n
def F.CL_DOWN_CNT.COUNT (n : Nat) : Fld := ⟨R.CL_DOWN_CNT n, 0, 64⟩
def R.CL_ECHO_REJECT_CNT (n : Nat) : Nat := 0x1000230 + 0x10000 * n
def F.CL_ECHO_REJECT_CNT.COUNT (n : Nat) : Fld := ⟨R.CL_ECHO_REJECT_CNT n, 0, 64⟩
def R.CL_RET_DROP_CNT (n : Nat) : Nat := 0x1000238 + 0x10000 * n
def F.CL_RET_DROP_CNT.COUNT (n : Nat) : Fld := ⟨R.CL_RET_DROP_CNT n, 0, 64⟩
def R.CL_STALL_CNT (n : Nat) : Nat := 0x1000240 + 0x10000 * n
def F.CL_STALL_CNT.COUNT (n : Nat) : Fld := ⟨R.CL_STALL_CNT n, 0, 64⟩
/-! ### CL registers (spec chapter 11) -/

def R.CL_LANE_MAP (n : Nat) : Nat := 0x1008000 + 0x10000 * n
def F.CL_LANE_MAP.TX_L0 (n : Nat) : Fld := ⟨R.CL_LANE_MAP n, 0, 2⟩
def F.CL_LANE_MAP.TX_L1 (n : Nat) : Fld := ⟨R.CL_LANE_MAP n, 2, 2⟩
def F.CL_LANE_MAP.TX_SWING (n : Nat) : Fld := ⟨R.CL_LANE_MAP n, 4, 2⟩
def F.CL_LANE_MAP.TX_MIRROR (n : Nat) : Fld := ⟨R.CL_LANE_MAP n, 6, 1⟩
def F.CL_LANE_MAP.RX_L0 (n : Nat) : Fld := ⟨R.CL_LANE_MAP n, 7, 1⟩
def F.CL_LANE_MAP.RX_SWING (n : Nat) : Fld := ⟨R.CL_LANE_MAP n, 8, 2⟩
def R.CL_CAL_CTRL (n : Nat) : Nat := 0x1008004 + 0x10000 * n
def F.CL_CAL_CTRL.AUTO (n : Nat) : Fld := ⟨R.CL_CAL_CTRL n, 0, 1⟩
def F.CL_CAL_CTRL.CAL_DELTA (n : Nat) : Fld := ⟨R.CL_CAL_CTRL n, 8, 6⟩
def F.CL_CAL_CTRL.ERR_LIMIT (n : Nat) : Fld := ⟨R.CL_CAL_CTRL n, 16, 10⟩
def F.CL_CAL_CTRL.GO (n : Nat) : Fld := ⟨R.CL_CAL_CTRL n, 31, 1⟩
def R.CL_CAL_STATE (n : Nat) : Nat := 0x1008008 + 0x10000 * n
def F.CL_CAL_STATE.PHASE (n : Nat) : Fld := ⟨R.CL_CAL_STATE n, 0, 3⟩
def F.CL_CAL_STATE.DIR (n : Nat) : Fld := ⟨R.CL_CAL_STATE n, 3, 1⟩
def F.CL_CAL_STATE.LANE (n : Nat) : Fld := ⟨R.CL_CAL_STATE n, 4, 2⟩
def F.CL_CAL_STATE.PENDING (n : Nat) : Fld := ⟨R.CL_CAL_STATE n, 6, 1⟩
def F.CL_CAL_STATE.MAP_PENDING (n : Nat) : Fld := ⟨R.CL_CAL_STATE n, 7, 1⟩
def R.CL_CAL_TEMP (n : Nat) : Nat := 0x100800C + 0x10000 * n
def F.CL_CAL_TEMP.CAL_TEMP (n : Nat) : Fld := ⟨R.CL_CAL_TEMP n, 0, 16⟩
def F.CL_CAL_TEMP.NOW (n : Nat) : Fld := ⟨R.CL_CAL_TEMP n, 16, 16⟩
def R.CL_TXL_CAL_COUNT (n m : Nat) : Nat := 0x1008100 + 0x10000 * n + 0x80 * m
def F.CL_TXL_CAL_COUNT.COUNT (n m : Nat) : Fld := ⟨R.CL_TXL_CAL_COUNT n m, 0, 32⟩
def R.CL_TXL_CAL_LAST (n m : Nat) : Nat := 0x1008108 + 0x10000 * n + 0x80 * m
def F.CL_TXL_CAL_LAST.HOUSE (n m : Nat) : Fld := ⟨R.CL_TXL_CAL_LAST n m, 0, 64⟩
def R.CL_TXL_CAL_REJECT (n m : Nat) : Nat := 0x1008110 + 0x10000 * n + 0x80 * m
def F.CL_TXL_CAL_REJECT.COUNT (n m : Nat) : Fld := ⟨R.CL_TXL_CAL_REJECT n m, 0, 32⟩
def R.CL_TXL_ROLE (n m : Nat) : Nat := 0x1008114 + 0x10000 * n + 0x80 * m
def F.CL_TXL_ROLE.ROLE (n m : Nat) : Fld := ⟨R.CL_TXL_ROLE n m, 0, 2⟩
def F.CL_TXL_ROLE.MARK (n m : Nat) : Fld := ⟨R.CL_TXL_ROLE n m, 2, 2⟩
def F.CL_TXL_ROLE.RESTORE (n m : Nat) : Fld := ⟨R.CL_TXL_ROLE n m, 31, 1⟩
def R.CL_TXL_GEN (n m : Nat) : Nat := 0x1008140 + 0x10000 * n + 0x80 * m
def F.CL_TXL_GEN.EN (n m : Nat) : Fld := ⟨R.CL_TXL_GEN n m, 0, 1⟩
def F.CL_TXL_GEN.PATTERN (n m : Nat) : Fld := ⟨R.CL_TXL_GEN n m, 1, 3⟩
def F.CL_TXL_GEN.LOOP (n m : Nat) : Fld := ⟨R.CL_TXL_GEN n m, 4, 1⟩
def R.CL_TXL_USER (n m : Nat) : Nat := 0x1008148 + 0x10000 * n + 0x80 * m
def F.CL_TXL_USER.PATTERN (n m : Nat) : Fld := ⟨R.CL_TXL_USER n m, 0, 64⟩
def R.CL_TXL_INJ (n m : Nat) : Nat := 0x1008150 + 0x10000 * n + 0x80 * m
def F.CL_TXL_INJ.SINGLE (n m : Nat) : Fld := ⟨R.CL_TXL_INJ n m, 0, 1⟩
def F.CL_TXL_INJ.RATE (n m : Nat) : Fld := ⟨R.CL_TXL_INJ n m, 1, 1⟩
def R.CL_TXL_INTERVAL (n m : Nat) : Nat := 0x1008154 + 0x10000 * n + 0x80 * m
def F.CL_TXL_INTERVAL.BITS (n m : Nat) : Fld := ⟨R.CL_TXL_INTERVAL n m, 0, 32⟩
def R.CL_RXL_CAL_COUNT (n m : Nat) : Nat := 0x1008400 + 0x10000 * n + 0x80 * m
def F.CL_RXL_CAL_COUNT.COUNT (n m : Nat) : Fld := ⟨R.CL_RXL_CAL_COUNT n m, 0, 32⟩
def R.CL_RXL_CAL_LAST (n m : Nat) : Nat := 0x1008408 + 0x10000 * n + 0x80 * m
def F.CL_RXL_CAL_LAST.HOUSE (n m : Nat) : Fld := ⟨R.CL_RXL_CAL_LAST n m, 0, 64⟩
def R.CL_RXL_CAL_REJECT (n m : Nat) : Nat := 0x1008410 + 0x10000 * n + 0x80 * m
def F.CL_RXL_CAL_REJECT.COUNT (n m : Nat) : Fld := ⟨R.CL_RXL_CAL_REJECT n m, 0, 32⟩
def R.CL_RXL_ROLE (n m : Nat) : Nat := 0x1008414 + 0x10000 * n + 0x80 * m
def F.CL_RXL_ROLE.ROLE (n m : Nat) : Fld := ⟨R.CL_RXL_ROLE n m, 0, 2⟩
def F.CL_RXL_ROLE.MARK (n m : Nat) : Fld := ⟨R.CL_RXL_ROLE n m, 2, 2⟩
def F.CL_RXL_ROLE.RESTORE (n m : Nat) : Fld := ⟨R.CL_RXL_ROLE n m, 31, 1⟩
def R.CL_RXL_SETTINGS (n m : Nat) : Nat := 0x1008418 + 0x10000 * n + 0x80 * m
def F.CL_RXL_SETTINGS.PEAKING (n m : Nat) : Fld := ⟨R.CL_RXL_SETTINGS n m, 0, 5⟩
def F.CL_RXL_SETTINGS.DC_GAIN (n m : Nat) : Fld := ⟨R.CL_RXL_SETTINGS n m, 5, 4⟩
def F.CL_RXL_SETTINGS.OFFSET (n m : Nat) : Fld := ⟨R.CL_RXL_SETTINGS n m, 9, 7⟩
def F.CL_RXL_SETTINGS.PHASE (n m : Nat) : Fld := ⟨R.CL_RXL_SETTINGS n m, 16, 6⟩
def R.CL_RXL_ERR_CNT (n m : Nat) : Nat := 0x1008420 + 0x10000 * n + 0x80 * m
def F.CL_RXL_ERR_CNT.COUNT (n m : Nat) : Fld := ⟨R.CL_RXL_ERR_CNT n m, 0, 64⟩
def R.CL_RXL_CHK (n m : Nat) : Nat := 0x1008440 + 0x10000 * n + 0x80 * m
def F.CL_RXL_CHK.EN (n m : Nat) : Fld := ⟨R.CL_RXL_CHK n m, 0, 1⟩
def F.CL_RXL_CHK.PATTERN (n m : Nat) : Fld := ⟨R.CL_RXL_CHK n m, 1, 3⟩
def F.CL_RXL_CHK.LOCKED (n m : Nat) : Fld := ⟨R.CL_RXL_CHK n m, 4, 1⟩
def R.CL_RXL_USER (n m : Nat) : Nat := 0x1008448 + 0x10000 * n + 0x80 * m
def F.CL_RXL_USER.PATTERN (n m : Nat) : Fld := ⟨R.CL_RXL_USER n m, 0, 64⟩
def R.CL_RXL_CHK_ERR_CNT (n m : Nat) : Nat := 0x1008450 + 0x10000 * n + 0x80 * m
def F.CL_RXL_CHK_ERR_CNT.COUNT (n m : Nat) : Fld := ⟨R.CL_RXL_CHK_ERR_CNT n m, 0, 48⟩
def R.CL_RXL_CHK_BIT_CNT (n m : Nat) : Nat := 0x1008458 + 0x10000 * n + 0x80 * m
def F.CL_RXL_CHK_BIT_CNT.COUNT (n m : Nat) : Fld := ⟨R.CL_RXL_CHK_BIT_CNT n m, 0, 48⟩
def R.CL_RXL_RELOCK_CNT (n m : Nat) : Nat := 0x1008460 + 0x10000 * n + 0x80 * m
def F.CL_RXL_RELOCK_CNT.COUNT (n m : Nat) : Fld := ⟨R.CL_RXL_RELOCK_CNT n m, 0, 32⟩
/-! ### TDM registers (spec chapter 14) -/

def R.TDM_ROLE : Nat := 0x140F000
def F.TDM_ROLE.ROLE : Fld := ⟨R.TDM_ROLE, 0, 2⟩
def F.TDM_ROLE.PROMOTE : Fld := ⟨R.TDM_ROLE, 2, 2⟩
def F.TDM_ROLE.FORCE_SHADOW : Fld := ⟨R.TDM_ROLE, 4, 1⟩
def F.TDM_ROLE.PROMOTE_NOW : Fld := ⟨R.TDM_ROLE, 5, 1⟩
def F.TDM_ROLE.WITNESS : Fld := ⟨R.TDM_ROLE, 8, 4⟩
def R.TDM_CLAIM : Nat := 0x140F004
def F.TDM_CLAIM.CLAIM : Fld := ⟨R.TDM_CLAIM, 0, 16⟩
def R.TDM_STATE : Nat := 0x140F008
def F.TDM_STATE.ROLE : Fld := ⟨R.TDM_STATE, 0, 2⟩
def F.TDM_STATE.PAIR : Fld := ⟨R.TDM_STATE, 2, 2⟩
def F.TDM_STATE.ADRIFT : Fld := ⟨R.TDM_STATE, 4, 1⟩
def F.TDM_STATE.DIVERGED : Fld := ⟨R.TDM_STATE, 5, 1⟩
def R.TDM_TIMING : Nat := 0x140F00C
def F.TDM_TIMING.WAIT : Fld := ⟨R.TDM_TIMING, 0, 14⟩
def F.TDM_TIMING.LOST : Fld := ⟨R.TDM_TIMING, 16, 8⟩
def F.TDM_TIMING.DIVERGE_MAX : Fld := ⟨R.TDM_TIMING, 24, 8⟩
def R.TDM_SYNC_LEFT : Nat := 0x140F010
def F.TDM_SYNC_LEFT.BYTES : Fld := ⟨R.TDM_SYNC_LEFT, 0, 64⟩
def R.TDM_SHOW_SKEW : Nat := 0x140F018
def F.TDM_SHOW_SKEW.SKEW : Fld := ⟨R.TDM_SHOW_SKEW, 0, 64⟩
def R.TDM_DIGEST : Nat := 0x140F020
def F.TDM_DIGEST.OWN : Fld := ⟨R.TDM_DIGEST, 0, 32⟩
def F.TDM_DIGEST.PARTNER : Fld := ⟨R.TDM_DIGEST, 32, 32⟩
def R.TDM_MIRROR_CNT : Nat := 0x140F040
def F.TDM_MIRROR_CNT.COUNT : Fld := ⟨R.TDM_MIRROR_CNT, 0, 64⟩
def R.TDM_RESEND_CNT : Nat := 0x140F048
def F.TDM_RESEND_CNT.COUNT : Fld := ⟨R.TDM_RESEND_CNT, 0, 64⟩
def R.TDM_LATE_CNT : Nat := 0x140F050
def F.TDM_LATE_CNT.COUNT : Fld := ⟨R.TDM_LATE_CNT, 0, 64⟩
def R.TDM_DIVERGE_CNT : Nat := 0x140F058
def F.TDM_DIVERGE_CNT.COUNT : Fld := ⟨R.TDM_DIVERGE_CNT, 0, 64⟩
def R.TDM_PROMOTE_CNT : Nat := 0x140F060
def F.TDM_PROMOTE_CNT.COUNT : Fld := ⟨R.TDM_PROMOTE_CNT, 0, 64⟩
/-! ### NET registers (spec chapter 12) -/

def R.NET_CFG (n : Nat) : Nat := 0x1800000 + 0x10000 * n
def F.NET_CFG.MODE (n : Nat) : Fld := ⟨R.NET_CFG n, 0, 3⟩
def F.NET_CFG.IP6 (n : Nat) : Fld := ⟨R.NET_CFG n, 3, 1⟩
def F.NET_CFG.VLAN_EN (n : Nat) : Fld := ⟨R.NET_CFG n, 4, 1⟩
def F.NET_CFG.VLAN_ID (n : Nat) : Fld := ⟨R.NET_CFG n, 5, 12⟩
def F.NET_CFG.PCP (n : Nat) : Fld := ⟨R.NET_CFG n, 17, 3⟩
def R.NET_STATE (n : Nat) : Nat := 0x1800004 + 0x10000 * n
def F.NET_STATE.LINK_UP (n : Nat) : Fld := ⟨R.NET_STATE n, 0, 1⟩
def F.NET_STATE.PAUSE_IGNORED (n : Nat) : Fld := ⟨R.NET_STATE n, 1, 1⟩
def F.NET_STATE.FEC_LOCK (n : Nat) : Fld := ⟨R.NET_STATE n, 2, 1⟩
def R.NET_MAC (n : Nat) : Nat := 0x1800008 + 0x10000 * n
def F.NET_MAC.MAC (n : Nat) : Fld := ⟨R.NET_MAC n, 0, 48⟩
def R.NET_IP4 (n : Nat) : Nat := 0x1800010 + 0x10000 * n
def F.NET_IP4.IP4 (n : Nat) : Fld := ⟨R.NET_IP4 n, 0, 32⟩
def R.NET_IP6 (n m : Nat) : Nat := 0x1800020 + 0x10000 * n + 0x4 * m
def F.NET_IP6.IP6 (n m : Nat) : Fld := ⟨R.NET_IP6 n m, 0, 32⟩
def R.NET_PAUSE (n : Nat) : Nat := 0x1800030 + 0x10000 * n
def F.NET_PAUSE.WD (n : Nat) : Fld := ⟨R.NET_PAUSE n, 0, 16⟩
def F.NET_PAUSE.REARM (n : Nat) : Fld := ⟨R.NET_PAUSE n, 31, 1⟩
def R.NET_TS_DLY_TX (n : Nat) : Nat := 0x1800040 + 0x10000 * n
def F.NET_TS_DLY_TX.DELAY (n : Nat) : Fld := ⟨R.NET_TS_DLY_TX n, 0, 32⟩
def R.NET_TS_DLY_RX (n : Nat) : Nat := 0x1800044 + 0x10000 * n
def F.NET_TS_DLY_RX.DELAY (n : Nat) : Fld := ⟨R.NET_TS_DLY_RX n, 0, 32⟩
def R.NET_TS_CORR_TX (n : Nat) : Nat := 0x1800048 + 0x10000 * n
def F.NET_TS_CORR_TX.CORR (n : Nat) : Fld := ⟨R.NET_TS_CORR_TX n, 0, 32⟩
def R.NET_TS_CORR_RX (n : Nat) : Nat := 0x180004C + 0x10000 * n
def F.NET_TS_CORR_RX.CORR (n : Nat) : Fld := ⟨R.NET_TS_CORR_RX n, 0, 32⟩
def R.NET_TSQ_TAG (n : Nat) : Nat := 0x1800060 + 0x10000 * n
def F.NET_TSQ_TAG.TAG (n : Nat) : Fld := ⟨R.NET_TSQ_TAG n, 0, 32⟩
def R.NET_TSQ_1 (n : Nat) : Nat := 0x1800064 + 0x10000 * n
def F.NET_TSQ_1.LOST (n : Nat) : Fld := ⟨R.NET_TSQ_1 n, 0, 16⟩
def F.NET_TSQ_1.VALID (n : Nat) : Fld := ⟨R.NET_TSQ_1 n, 16, 1⟩
def F.NET_TSQ_1.CLOCK (n : Nat) : Fld := ⟨R.NET_TSQ_1 n, 17, 1⟩
def R.NET_TSQ_2 (n : Nat) : Nat := 0x1800068 + 0x10000 * n
def F.NET_TSQ_2.SEC_LO (n : Nat) : Fld := ⟨R.NET_TSQ_2 n, 0, 32⟩
def R.NET_TSQ_3 (n : Nat) : Nat := 0x180006C + 0x10000 * n
def F.NET_TSQ_3.SEC_HI (n : Nat) : Fld := ⟨R.NET_TSQ_3 n, 0, 16⟩
def F.NET_TSQ_3.FRAC (n : Nat) : Fld := ⟨R.NET_TSQ_3 n, 16, 16⟩
def R.NET_TSQ_4 (n : Nat) : Nat := 0x1800070 + 0x10000 * n
def F.NET_TSQ_4.NS (n : Nat) : Fld := ⟨R.NET_TSQ_4 n, 0, 30⟩
def R.NET_RULE (n m : Nat) : Nat := 0x1800100 + 0x10000 * n + 0x8 * m
def F.NET_RULE.ETHERTYPE (n m : Nat) : Fld := ⟨R.NET_RULE n m, 0, 16⟩
def F.NET_RULE.UDP_PORT (n m : Nat) : Fld := ⟨R.NET_RULE n m, 16, 16⟩
def F.NET_RULE.PCP (n m : Nat) : Fld := ⟨R.NET_RULE n m, 32, 3⟩
def F.NET_RULE.PCP_EN (n m : Nat) : Fld := ⟨R.NET_RULE n m, 35, 1⟩
def F.NET_RULE.EN (n m : Nat) : Fld := ⟨R.NET_RULE n m, 36, 1⟩
def F.NET_RULE.QUEUE (n m : Nat) : Fld := ⟨R.NET_RULE n m, 37, 3⟩
def F.NET_RULE.DROP (n m : Nat) : Fld := ⟨R.NET_RULE n m, 40, 1⟩
def F.NET_RULE.CLOCK (n m : Nat) : Fld := ⟨R.NET_RULE n m, 41, 1⟩
def R.NET_SACN_CTRL (n : Nat) : Nat := 0x1800200 + 0x10000 * n
def F.NET_SACN_CTRL.EN (n : Nat) : Fld := ⟨R.NET_SACN_CTRL n, 0, 1⟩
def F.NET_SACN_CTRL.DISC_EN (n : Nat) : Fld := ⟨R.NET_SACN_CTRL n, 1, 1⟩
def F.NET_SACN_CTRL.PRIORITY (n : Nat) : Fld := ⟨R.NET_SACN_CTRL n, 2, 8⟩
def F.NET_SACN_CTRL.MAX_RATE (n : Nat) : Fld := ⟨R.NET_SACN_CTRL n, 10, 8⟩
def R.NET_SACN_RANGE (n : Nat) : Nat := 0x1800204 + 0x10000 * n
def F.NET_SACN_RANGE.LO (n : Nat) : Fld := ⟨R.NET_SACN_RANGE n, 0, 16⟩
def F.NET_SACN_RANGE.HI (n : Nat) : Fld := ⟨R.NET_SACN_RANGE n, 16, 16⟩
def R.NET_SACN_SYNC (n : Nat) : Nat := 0x1800208 + 0x10000 * n
def F.NET_SACN_SYNC.UNIV (n : Nat) : Fld := ⟨R.NET_SACN_SYNC n, 0, 16⟩
def R.NET_SACN_LEAD (n : Nat) : Nat := 0x180020C + 0x10000 * n
def F.NET_SACN_LEAD.SACN_LEAD (n : Nat) : Fld := ⟨R.NET_SACN_LEAD n, 0, 20⟩
def R.NET_SACN_ADV (n : Nat) : Nat := 0x1800210 + 0x10000 * n
def F.NET_SACN_ADV.SYNC_ADVANCE (n : Nat) : Fld := ⟨R.NET_SACN_ADV n, 0, 14⟩
def R.NET_SACN_STATUS (n : Nat) : Nat := 0x1800214 + 0x10000 * n
def F.NET_SACN_STATUS.ADMITTED (n : Nat) : Fld := ⟨R.NET_SACN_STATUS n, 0, 15⟩
def F.NET_SACN_STATUS.OVERLOAD (n : Nat) : Fld := ⟨R.NET_SACN_STATUS n, 15, 1⟩
def R.NET_TXQ_BASE (n m : Nat) : Nat := 0x1800300 + 0x10000 * n + 0x10 * m
def F.NET_TXQ_BASE.EN (n m : Nat) : Fld := ⟨R.NET_TXQ_BASE n m, 0, 1⟩
def F.NET_TXQ_BASE.OFFSET (n m : Nat) : Fld := ⟨R.NET_TXQ_BASE n m, 13, 19⟩
def R.NET_TXQ_PTR (n m : Nat) : Nat := 0x1800304 + 0x10000 * n + 0x10 * m
def F.NET_TXQ_PTR.TAIL (n m : Nat) : Fld := ⟨R.NET_TXQ_PTR n m, 0, 8⟩
def F.NET_TXQ_PTR.HEAD (n m : Nat) : Fld := ⟨R.NET_TXQ_PTR n m, 16, 8⟩
def R.NET_RXQ_BASE (n m : Nat) : Nat := 0x1800380 + 0x10000 * n + 0x10 * m
def F.NET_RXQ_BASE.EN (n m : Nat) : Fld := ⟨R.NET_RXQ_BASE n m, 0, 1⟩
def F.NET_RXQ_BASE.OFFSET (n m : Nat) : Fld := ⟨R.NET_RXQ_BASE n m, 13, 19⟩
def R.NET_RXQ_PTR (n m : Nat) : Nat := 0x1800384 + 0x10000 * n + 0x10 * m
def F.NET_RXQ_PTR.TAIL (n m : Nat) : Fld := ⟨R.NET_RXQ_PTR n m, 0, 8⟩
def F.NET_RXQ_PTR.HEAD (n m : Nat) : Fld := ⟨R.NET_RXQ_PTR n m, 16, 8⟩
def R.NET_RX_FRAME_CNT (n : Nat) : Nat := 0x1800400 + 0x10000 * n
def F.NET_RX_FRAME_CNT.COUNT (n : Nat) : Fld := ⟨R.NET_RX_FRAME_CNT n, 0, 64⟩
def R.NET_RX_BYTE_CNT (n : Nat) : Nat := 0x1800408 + 0x10000 * n
def F.NET_RX_BYTE_CNT.COUNT (n : Nat) : Fld := ⟨R.NET_RX_BYTE_CNT n, 0, 64⟩
def R.NET_RX_FCS_ERR_CNT (n : Nat) : Nat := 0x1800410 + 0x10000 * n
def F.NET_RX_FCS_ERR_CNT.COUNT (n : Nat) : Fld := ⟨R.NET_RX_FCS_ERR_CNT n, 0, 64⟩
def R.NET_RX_SIZE_ERR_CNT (n : Nat) : Nat := 0x1800418 + 0x10000 * n
def F.NET_RX_SIZE_ERR_CNT.COUNT (n : Nat) : Fld := ⟨R.NET_RX_SIZE_ERR_CNT n, 0, 64⟩
def R.NET_RX_DROP_CNT (n : Nat) : Nat := 0x1800420 + 0x10000 * n
def F.NET_RX_DROP_CNT.COUNT (n : Nat) : Fld := ⟨R.NET_RX_DROP_CNT n, 0, 64⟩
def R.NET_RX_NODESC_CNT (n : Nat) : Nat := 0x1800428 + 0x10000 * n
def F.NET_RX_NODESC_CNT.COUNT (n : Nat) : Fld := ⟨R.NET_RX_NODESC_CNT n, 0, 64⟩
def R.NET_RX_RULE_DROP_CNT (n : Nat) : Nat := 0x1800430 + 0x10000 * n
def F.NET_RX_RULE_DROP_CNT.COUNT (n : Nat) : Fld := ⟨R.NET_RX_RULE_DROP_CNT n, 0, 64⟩
def R.NET_TX_FRAME_CNT (n : Nat) : Nat := 0x1800438 + 0x10000 * n
def F.NET_TX_FRAME_CNT.COUNT (n : Nat) : Fld := ⟨R.NET_TX_FRAME_CNT n, 0, 64⟩
def R.NET_TX_BYTE_CNT (n : Nat) : Nat := 0x1800440 + 0x10000 * n
def F.NET_TX_BYTE_CNT.COUNT (n : Nat) : Fld := ⟨R.NET_TX_BYTE_CNT n, 0, 64⟩
def R.NET_TX_BAD_CNT (n : Nat) : Nat := 0x1800448 + 0x10000 * n
def F.NET_TX_BAD_CNT.COUNT (n : Nat) : Fld := ⟨R.NET_TX_BAD_CNT n, 0, 64⟩
def R.NET_TX_DROP_CNT (n : Nat) : Nat := 0x1800450 + 0x10000 * n
def F.NET_TX_DROP_CNT.COUNT (n : Nat) : Fld := ⟨R.NET_TX_DROP_CNT n, 0, 64⟩
def R.NET_PAUSE_RX_CNT (n : Nat) : Nat := 0x1800458 + 0x10000 * n
def F.NET_PAUSE_RX_CNT.COUNT (n : Nat) : Fld := ⟨R.NET_PAUSE_RX_CNT n, 0, 64⟩
def R.NET_TSQ_LOST_CNT (n : Nat) : Nat := 0x1800460 + 0x10000 * n
def F.NET_TSQ_LOST_CNT.COUNT (n : Nat) : Fld := ⟨R.NET_TSQ_LOST_CNT n, 0, 64⟩
def R.NET_SACN_DATA_CNT (n : Nat) : Nat := 0x1800468 + 0x10000 * n
def F.NET_SACN_DATA_CNT.COUNT (n : Nat) : Fld := ⟨R.NET_SACN_DATA_CNT n, 0, 64⟩
def R.NET_SACN_STALE_CNT (n : Nat) : Nat := 0x1800470 + 0x10000 * n
def F.NET_SACN_STALE_CNT.COUNT (n : Nat) : Fld := ⟨R.NET_SACN_STALE_CNT n, 0, 64⟩
def R.NET_SYNC_LATE_CNT (n : Nat) : Nat := 0x1800478 + 0x10000 * n
def F.NET_SYNC_LATE_CNT.COUNT (n : Nat) : Fld := ⟨R.NET_SYNC_LATE_CNT n, 0, 64⟩
def R.NET_SACN_CID (n : Nat) : Nat := 0x180F000 + 0x4 * n
def F.NET_SACN_CID.CID (n : Nat) : Fld := ⟨R.NET_SACN_CID n, 0, 32⟩
def R.NET_SACN_NAME (n : Nat) : Nat := 0x180F040 + 0x4 * n
def F.NET_SACN_NAME.NAME (n : Nat) : Fld := ⟨R.NET_SACN_NAME n, 0, 32⟩
/-! ### LINE registers (spec chapter 12) -/

def R.LINE_CFG (n : Nat) : Nat := 0x1C01000 + 0x200 * n
def F.LINE_CFG.EN (n : Nat) : Fld := ⟨R.LINE_CFG n, 0, 1⟩
def F.LINE_CFG.RDM_EN (n : Nat) : Fld := ⟨R.LINE_CFG n, 1, 1⟩
def F.LINE_CFG.DE_POL (n : Nat) : Fld := ⟨R.LINE_CFG n, 2, 1⟩
def F.LINE_CFG.SLOTS (n : Nat) : Fld := ⟨R.LINE_CFG n, 3, 10⟩
def R.LINE_TIMING (n : Nat) : Nat := 0x1C01004 + 0x200 * n
def F.LINE_TIMING.BREAK (n : Nat) : Fld := ⟨R.LINE_TIMING n, 0, 10⟩
def F.LINE_TIMING.MAB (n : Nat) : Fld := ⟨R.LINE_TIMING n, 10, 10⟩
def F.LINE_TIMING.MTBS (n : Nat) : Fld := ⟨R.LINE_TIMING n, 20, 8⟩
def R.LINE_STATE (n : Nat) : Nat := 0x1C01008 + 0x200 * n
def F.LINE_STATE.PHASE (n : Nat) : Fld := ⟨R.LINE_STATE n, 0, 2⟩
def F.LINE_STATE.RDM_BUSY (n : Nat) : Fld := ⟨R.LINE_STATE n, 2, 1⟩
def R.LINE_RDM_CTRL (n : Nat) : Nat := 0x1C01010 + 0x200 * n
def F.LINE_RDM_CTRL.LENGTH (n : Nat) : Fld := ⟨R.LINE_RDM_CTRL n, 0, 8⟩
def F.LINE_RDM_CTRL.DISC (n : Nat) : Fld := ⟨R.LINE_RDM_CTRL n, 8, 1⟩
def F.LINE_RDM_CTRL.NO_RESP (n : Nat) : Fld := ⟨R.LINE_RDM_CTRL n, 9, 1⟩
def F.LINE_RDM_CTRL.QB (n : Nat) : Fld := ⟨R.LINE_RDM_CTRL n, 10, 5⟩
def F.LINE_RDM_CTRL.GO (n : Nat) : Fld := ⟨R.LINE_RDM_CTRL n, 31, 1⟩
def R.LINE_RDM_TAG (n : Nat) : Nat := 0x1C01014 + 0x200 * n
def F.LINE_RDM_TAG.TAG (n : Nat) : Fld := ⟨R.LINE_RDM_TAG n, 0, 32⟩
def R.LINE_DMX_CNT (n : Nat) : Nat := 0x1C01020 + 0x200 * n
def F.LINE_DMX_CNT.COUNT (n : Nat) : Fld := ⟨R.LINE_DMX_CNT n, 0, 64⟩
def R.LINE_STALE_CNT (n : Nat) : Nat := 0x1C01028 + 0x200 * n
def F.LINE_STALE_CNT.COUNT (n : Nat) : Fld := ⟨R.LINE_STALE_CNT n, 0, 64⟩
def R.LINE_RDM_CNT (n : Nat) : Nat := 0x1C01030 + 0x200 * n
def F.LINE_RDM_CNT.ALL (n : Nat) : Fld := ⟨R.LINE_RDM_CNT n, 0, 32⟩
def F.LINE_RDM_CNT.BAD (n : Nat) : Fld := ⟨R.LINE_RDM_CNT n, 32, 32⟩
def R.LINE_RDM_LOST_CNT (n : Nat) : Nat := 0x1C01038 + 0x200 * n
def F.LINE_RDM_LOST_CNT.COUNT (n : Nat) : Fld := ⟨R.LINE_RDM_LOST_CNT n, 0, 64⟩
def R.LINE_RDM_DATA (n m : Nat) : Nat := 0x1C01040 + 0x200 * n + 0x4 * m
def F.LINE_RDM_DATA.BYTES (n m : Nat) : Fld := ⟨R.LINE_RDM_DATA n m, 0, 32⟩
/-! ### MTR registers (spec chapter 13) -/

def R.MTR_CFG : Nat := 0x2000000
def F.MTR_CFG.EN : Fld := ⟨R.MTR_CFG, 0, 1⟩
def F.MTR_CFG.MODCLK : Fld := ⟨R.MTR_CFG, 1, 2⟩
def F.MTR_CFG.NOMINAL : Fld := ⟨R.MTR_CFG, 3, 1⟩
def R.MTR_SAVE : Nat := 0x2000004
def F.MTR_SAVE.SAVE_PERIOD : Fld := ⟨R.MTR_SAVE, 0, 12⟩
def F.MTR_SAVE.MNV_BASE : Fld := ⟨R.MTR_SAVE, 16, 12⟩
def R.MTR_STATE : Nat := 0x2000008
def F.MTR_STATE.SAVE_LOST : Fld := ⟨R.MTR_STATE, 0, 1⟩
def F.MTR_STATE.NO_RECORD : Fld := ⟨R.MTR_STATE, 1, 1⟩
def F.MTR_STATE.SAVING : Fld := ⟨R.MTR_STATE, 2, 1⟩
def F.MTR_STATE.PF_DONE : Fld := ⟨R.MTR_STATE, 3, 1⟩
def F.MTR_STATE.SLOT : Fld := ⟨R.MTR_STATE, 4, 1⟩
def R.MTR_SEQ : Nat := 0x200000C
def F.MTR_SEQ.SEQ : Fld := ⟨R.MTR_SEQ, 0, 32⟩
def R.MTR_DELAY : Nat := 0x2000010
def F.MTR_DELAY.NS : Fld := ⟨R.MTR_DELAY, 0, 24⟩
def R.MTR_BOUND_TOTAL : Nat := 0x2000018
def F.MTR_BOUND_TOTAL.VALUE : Fld := ⟨R.MTR_BOUND_TOTAL, 0, 64⟩
def R.MTR_SAVE_CNT : Nat := 0x2000020
def F.MTR_SAVE_CNT.VALUE : Fld := ⟨R.MTR_SAVE_CNT, 0, 64⟩
def R.MTR_SAVE_FAIL_CNT : Nat := 0x2000028
def F.MTR_SAVE_FAIL_CNT.VALUE : Fld := ⟨R.MTR_SAVE_FAIL_CNT, 0, 64⟩
def R.MTR_V_CFG (n : Nat) : Nat := 0x2000400 + 0x20 * n
def F.MTR_V_CFG.EN (n : Nat) : Fld := ⟨R.MTR_V_CFG n, 0, 1⟩
def R.MTR_V_GAIN_V (n : Nat) : Nat := 0x2000404 + 0x20 * n
def F.MTR_V_GAIN_V.GAIN (n : Nat) : Fld := ⟨R.MTR_V_GAIN_V n, 0, 32⟩
def R.MTR_V_PHASE (n : Nat) : Nat := 0x2000408 + 0x20 * n
def F.MTR_V_PHASE.PHASE (n : Nat) : Fld := ⟨R.MTR_V_PHASE n, 0, 8⟩
def R.MTR_V_VRMS (n : Nat) : Nat := 0x200040C + 0x20 * n
def F.MTR_V_VRMS.VRMS (n : Nat) : Fld := ⟨R.MTR_V_VRMS n, 0, 32⟩
def R.MTR_V_FREQ (n : Nat) : Nat := 0x2000410 + 0x20 * n
def F.MTR_V_FREQ.FREQ (n : Nat) : Fld := ⟨R.MTR_V_FREQ n, 0, 32⟩
def R.MTR_V_STATUS (n : Nat) : Nat := 0x2000414 + 0x20 * n
def F.MTR_V_STATUS.CYCLE_VALID (n : Nat) : Fld := ⟨R.MTR_V_STATUS n, 0, 1⟩
def F.MTR_V_STATUS.INPUT_FAULT (n : Nat) : Fld := ⟨R.MTR_V_STATUS n, 1, 1⟩
def R.MTR_PULSE_CFG (n : Nat) : Nat := 0x2000800 + 0x20 * n
def F.MTR_PULSE_CFG.EN (n : Nat) : Fld := ⟨R.MTR_PULSE_CFG n, 0, 1⟩
def F.MTR_PULSE_CFG.QTY (n : Nat) : Fld := ⟨R.MTR_PULSE_CFG n, 1, 3⟩
def F.MTR_PULSE_CFG.POL (n : Nat) : Fld := ⟨R.MTR_PULSE_CFG n, 4, 1⟩
def F.MTR_PULSE_CFG.WIDTH (n : Nat) : Fld := ⟨R.MTR_PULSE_CFG n, 8, 8⟩
def R.MTR_PULSE_QUANTUM (n : Nat) : Nat := 0x2000804 + 0x20 * n
def F.MTR_PULSE_QUANTUM.QUANTUM (n : Nat) : Fld := ⟨R.MTR_PULSE_QUANTUM n, 0, 32⟩
def R.MTR_PULSE_MASK (n m : Nat) : Nat := 0x2000808 + 0x20 * n + 0x4 * m
def F.MTR_PULSE_MASK.MASK (n m : Nat) : Fld := ⟨R.MTR_PULSE_MASK n m, 0, 32⟩
def R.MTR_PULSE_PENDING (n : Nat) : Nat := 0x2000814 + 0x20 * n
def F.MTR_PULSE_PENDING.COUNT (n : Nat) : Fld := ⟨R.MTR_PULSE_PENDING n, 0, 16⟩
def R.MTR_PULSE_REMAINDER (n : Nat) : Nat := 0x2000818 + 0x20 * n
def F.MTR_PULSE_REMAINDER.R (n : Nat) : Fld := ⟨R.MTR_PULSE_REMAINDER n, 0, 64⟩
def R.MTR_CH_CFG (n : Nat) : Nat := 0x2001000 + 0x100 * n
def F.MTR_CH_CFG.EN (n : Nat) : Fld := ⟨R.MTR_CH_CFG n, 0, 1⟩
def F.MTR_CH_CFG.VSEL (n : Nat) : Fld := ⟨R.MTR_CH_CFG n, 1, 3⟩
def F.MTR_CH_CFG.SMALL (n : Nat) : Fld := ⟨R.MTR_CH_CFG n, 4, 2⟩
def R.MTR_CH_GAIN_I (n : Nat) : Nat := 0x2001004 + 0x100 * n
def F.MTR_CH_GAIN_I.GAIN (n : Nat) : Fld := ⟨R.MTR_CH_GAIN_I n, 0, 32⟩
def R.MTR_CH_PHASE (n : Nat) : Nat := 0x2001008 + 0x100 * n
def F.MTR_CH_PHASE.PHASE (n : Nat) : Fld := ⟨R.MTR_CH_PHASE n, 0, 8⟩
def R.MTR_CH_NOLOAD (n : Nat) : Nat := 0x200100C + 0x100 * n
def F.MTR_CH_NOLOAD.VA (n : Nat) : Fld := ⟨R.MTR_CH_NOLOAD n, 0, 32⟩
def R.MTR_CH_PMAX (n : Nat) : Nat := 0x2001010 + 0x100 * n
def F.MTR_CH_PMAX.VA (n : Nat) : Fld := ⟨R.MTR_CH_PMAX n, 0, 32⟩
def R.MTR_CH_STATUS (n : Nat) : Nat := 0x2001014 + 0x100 * n
def F.MTR_CH_STATUS.GAIN (n : Nat) : Fld := ⟨R.MTR_CH_STATUS n, 0, 2⟩
def F.MTR_CH_STATUS.INPUT_FAULT (n : Nat) : Fld := ⟨R.MTR_CH_STATUS n, 2, 1⟩
def F.MTR_CH_STATUS.NOVOLT (n : Nat) : Fld := ⟨R.MTR_CH_STATUS n, 3, 1⟩
def F.MTR_CH_STATUS.NOLOAD_NOW (n : Nat) : Fld := ⟨R.MTR_CH_STATUS n, 4, 1⟩
def F.MTR_CH_STATUS.RELOADED (n : Nat) : Fld := ⟨R.MTR_CH_STATUS n, 5, 1⟩
def R.MTR_CH_IRMS (n : Nat) : Nat := 0x2001018 + 0x100 * n
def F.MTR_CH_IRMS.A (n : Nat) : Fld := ⟨R.MTR_CH_IRMS n, 0, 32⟩
def R.MTR_CH_P (n : Nat) : Nat := 0x200101C + 0x100 * n
def F.MTR_CH_P.W (n : Nat) : Fld := ⟨R.MTR_CH_P n, 0, 32⟩
def R.MTR_CH_Q (n : Nat) : Nat := 0x2001020 + 0x100 * n
def F.MTR_CH_Q.VAR (n : Nat) : Fld := ⟨R.MTR_CH_Q n, 0, 32⟩
def R.MTR_CH_S (n : Nat) : Nat := 0x2001024 + 0x100 * n
def F.MTR_CH_S.VA (n : Nat) : Fld := ⟨R.MTR_CH_S n, 0, 32⟩
def R.MTR_CH_ACC (n m : Nat) : Nat := 0x2001040 + 0x100 * n + 0x8 * m
def F.MTR_CH_ACC.UWH (n m : Nat) : Fld := ⟨R.MTR_CH_ACC n m, 0, 64⟩
def R.MTR_CH_CLIP_CNT (n : Nat) : Nat := 0x2001090 + 0x100 * n
def F.MTR_CH_CLIP_CNT.COUNT (n : Nat) : Fld := ⟨R.MTR_CH_CLIP_CNT n, 0, 64⟩
def R.MTR_CH_NOLOAD_CYC_CNT (n : Nat) : Nat := 0x2001098 + 0x100 * n
def F.MTR_CH_NOLOAD_CYC_CNT.COUNT (n : Nat) : Fld := ⟨R.MTR_CH_NOLOAD_CYC_CNT n, 0, 64⟩
def R.MTR_CH_GAIN_SWITCH_CNT (n : Nat) : Nat := 0x20010A0 + 0x100 * n
def F.MTR_CH_GAIN_SWITCH_CNT.COUNT (n : Nat) : Fld := ⟨R.MTR_CH_GAIN_SWITCH_CNT n, 0, 64⟩
/-! ### FLY registers (spec chapter 16) -/

def R.FLY_BUSY : Nat := 0x2100000
def F.FLY_BUSY.CHAN : Fld := ⟨R.FLY_BUSY, 0, 32⟩
def R.FLY_BURSTS_ISSUED : Nat := 0x2100008
def F.FLY_BURSTS_ISSUED.COUNT : Fld := ⟨R.FLY_BURSTS_ISSUED, 0, 64⟩
def R.FLY_BURSTS_RETIRED : Nat := 0x2100010
def F.FLY_BURSTS_RETIRED.COUNT : Fld := ⟨R.FLY_BURSTS_RETIRED, 0, 64⟩
def R.FLY_BURSTS_OPEN : Nat := 0x2100018
def F.FLY_BURSTS_OPEN.COUNT : Fld := ⟨R.FLY_BURSTS_OPEN, 0, 6⟩
def R.FLY_SRC (n : Nat) : Nat := 0x2101000 + 0x100 * n
def F.FLY_SRC.ADDR (n : Nat) : Fld := ⟨R.FLY_SRC n, 0, 64⟩
def R.FLY_DST (n : Nat) : Nat := 0x2101008 + 0x100 * n
def F.FLY_DST.ADDR (n : Nat) : Fld := ⟨R.FLY_DST n, 0, 64⟩
def R.FLY_COUNT (n : Nat) : Nat := 0x2101010 + 0x100 * n
def F.FLY_COUNT.COUNT (n : Nat) : Fld := ⟨R.FLY_COUNT n, 0, 32⟩
def R.FLY_CFG (n : Nat) : Nat := 0x2101014 + 0x100 * n
def F.FLY_CFG.SRC_W (n : Nat) : Fld := ⟨R.FLY_CFG n, 0, 3⟩
def F.FLY_CFG.DST_W (n : Nat) : Fld := ⟨R.FLY_CFG n, 3, 3⟩
def F.FLY_CFG.MODE (n : Nat) : Fld := ⟨R.FLY_CFG n, 6, 1⟩
def F.FLY_CFG.SRC_FIX (n : Nat) : Fld := ⟨R.FLY_CFG n, 7, 1⟩
def F.FLY_CFG.DST_FIX (n : Nat) : Fld := ⟨R.FLY_CFG n, 8, 1⟩
def F.FLY_CFG.SRC_SPACE (n : Nat) : Fld := ⟨R.FLY_CFG n, 9, 3⟩
def F.FLY_CFG.DST_SPACE (n : Nat) : Fld := ⟨R.FLY_CFG n, 12, 3⟩
def F.FLY_CFG.IDX_OBJ (n : Nat) : Fld := ⟨R.FLY_CFG n, 15, 1⟩
def F.FLY_CFG.ELEM (n : Nat) : Fld := ⟨R.FLY_CFG n, 16, 8⟩
def F.FLY_CFG.WIN_LOG2 (n : Nat) : Fld := ⟨R.FLY_CFG n, 24, 5⟩
def F.FLY_CFG.EVT (n : Nat) : Fld := ⟨R.FLY_CFG n, 29, 1⟩
def R.FLY_IDX_BASE (n : Nat) : Nat := 0x2101018 + 0x100 * n
def F.FLY_IDX_BASE.BASE (n : Nat) : Fld := ⟨R.FLY_IDX_BASE n, 0, 32⟩
def R.FLY_IDX_COUNT (n : Nat) : Nat := 0x210101C + 0x100 * n
def F.FLY_IDX_COUNT.COUNT (n : Nat) : Fld := ⟨R.FLY_IDX_COUNT n, 0, 24⟩
def R.FLY_CTRL (n : Nat) : Nat := 0x2101020 + 0x100 * n
def F.FLY_CTRL.START (n : Nat) : Fld := ⟨R.FLY_CTRL n, 0, 1⟩
def F.FLY_CTRL.ABORT (n : Nat) : Fld := ⟨R.FLY_CTRL n, 1, 1⟩
def R.FLY_STATUS (n : Nat) : Nat := 0x2101024 + 0x100 * n
def F.FLY_STATUS.STATE (n : Nat) : Fld := ⟨R.FLY_STATUS n, 0, 3⟩
def F.FLY_STATUS.ERR (n : Nat) : Fld := ⟨R.FLY_STATUS n, 3, 4⟩
def F.FLY_STATUS.OVLP (n : Nat) : Fld := ⟨R.FLY_STATUS n, 7, 1⟩
def F.FLY_STATUS.DESC (n : Nat) : Fld := ⟨R.FLY_STATUS n, 8, 1⟩
def F.FLY_STATUS.POISON (n : Nat) : Fld := ⟨R.FLY_STATUS n, 9, 1⟩
def F.FLY_STATUS.VBYTES (n : Nat) : Fld := ⟨R.FLY_STATUS n, 10, 5⟩
def F.FLY_STATUS.HELD (n : Nat) : Fld := ⟨R.FLY_STATUS n, 16, 9⟩
def R.FLY_RESIDUE (n : Nat) : Nat := 0x2101028 + 0x100 * n
def F.FLY_RESIDUE.COUNT (n : Nat) : Fld := ⟨R.FLY_RESIDUE n, 0, 32⟩
def R.FLY_WRITTEN (n : Nat) : Nat := 0x210102C + 0x100 * n
def F.FLY_WRITTEN.COUNT (n : Nat) : Fld := ⟨R.FLY_WRITTEN n, 0, 32⟩
/-! ### QB registers (spec chapter 16) -/

def R.QB_RD_STALL : Nat := 0x2200000
def F.QB_RD_STALL.NS : Fld := ⟨R.QB_RD_STALL, 0, 14⟩
def R.QB_CFG (n : Nat) : Nat := 0x2201000 + 0x100 * n
def F.QB_CFG.WRITER (n : Nat) : Fld := ⟨R.QB_CFG n, 0, 1⟩
def F.QB_CFG.CT_EN (n : Nat) : Fld := ⟨R.QB_CFG n, 1, 1⟩
def F.QB_CFG.CT_THRESH (n : Nat) : Fld := ⟨R.QB_CFG n, 2, 8⟩
def R.QB_DATA8 (n : Nat) : Nat := 0x2201010 + 0x100 * n
def F.QB_DATA8.DATA (n : Nat) : Fld := ⟨R.QB_DATA8 n, 0, 8⟩
def R.QB_DATA16 (n : Nat) : Nat := 0x2201014 + 0x100 * n
def F.QB_DATA16.DATA (n : Nat) : Fld := ⟨R.QB_DATA16 n, 0, 16⟩
def R.QB_DATA32 (n : Nat) : Nat := 0x2201018 + 0x100 * n
def F.QB_DATA32.DATA (n : Nat) : Fld := ⟨R.QB_DATA32 n, 0, 32⟩
def R.QB_LAST8 (n : Nat) : Nat := 0x2201020 + 0x100 * n
def F.QB_LAST8.DATA (n : Nat) : Fld := ⟨R.QB_LAST8 n, 0, 8⟩
def R.QB_LAST16 (n : Nat) : Nat := 0x2201024 + 0x100 * n
def F.QB_LAST16.DATA (n : Nat) : Fld := ⟨R.QB_LAST16 n, 0, 16⟩
def R.QB_LAST32 (n : Nat) : Nat := 0x2201028 + 0x100 * n
def F.QB_LAST32.DATA (n : Nat) : Fld := ⟨R.QB_LAST32 n, 0, 32⟩
def R.QB_FLUSH (n : Nat) : Nat := 0x2201030 + 0x100 * n
def F.QB_FLUSH.GO (n : Nat) : Fld := ⟨R.QB_FLUSH n, 0, 1⟩
def R.QB_STATE (n : Nat) : Nat := 0x2201034 + 0x100 * n
def F.QB_STATE.LEVEL (n : Nat) : Fld := ⟨R.QB_STATE n, 0, 9⟩
def F.QB_STATE.FULL (n : Nat) : Fld := ⟨R.QB_STATE n, 9, 1⟩
def F.QB_STATE.OVERRUN (n : Nat) : Fld := ⟨R.QB_STATE n, 10, 1⟩
def F.QB_STATE.WR_REFUSED (n : Nat) : Fld := ⟨R.QB_STATE n, 11, 1⟩
def F.QB_STATE.OPEN (n : Nat) : Fld := ⟨R.QB_STATE n, 12, 1⟩
def R.QB_FREE (n : Nat) : Nat := 0x2201038 + 0x100 * n
def F.QB_FREE.FREE (n : Nat) : Fld := ⟨R.QB_FREE n, 0, 9⟩
def R.QB_RD_TAG (n : Nat) : Nat := 0x2201040 + 0x100 * n
def F.QB_RD_TAG.VBYTES (n : Nat) : Fld := ⟨R.QB_RD_TAG n, 0, 5⟩
def F.QB_RD_TAG.FIRST (n : Nat) : Fld := ⟨R.QB_RD_TAG n, 5, 1⟩
def F.QB_RD_TAG.LAST (n : Nat) : Fld := ⟨R.QB_RD_TAG n, 6, 1⟩
def F.QB_RD_TAG.GAP (n : Nat) : Fld := ⟨R.QB_RD_TAG n, 7, 1⟩
def F.QB_RD_TAG.VALID (n : Nat) : Fld := ⟨R.QB_RD_TAG n, 8, 1⟩
def R.QB_RD_DATA (n m : Nat) : Nat := 0x2201044 + 0x100 * n + 0x4 * m
def F.QB_RD_DATA.DATA (n m : Nat) : Fld := ⟨R.QB_RD_DATA n m, 0, 32⟩
def R.QB_ITEM_CNT (n : Nat) : Nat := 0x2201060 + 0x100 * n
def F.QB_ITEM_CNT.COUNT (n : Nat) : Fld := ⟨R.QB_ITEM_CNT n, 0, 64⟩
def R.QB_IGNORED_CNT (n : Nat) : Nat := 0x2201068 + 0x100 * n
def F.QB_IGNORED_CNT.COUNT (n : Nat) : Fld := ⟨R.QB_IGNORED_CNT n, 0, 64⟩
def R.QB_FLUSH_CNT (n : Nat) : Nat := 0x2201070 + 0x100 * n
def F.QB_FLUSH_CNT.COUNT (n : Nat) : Fld := ⟨R.QB_FLUSH_CNT n, 0, 64⟩
/-! ### CHK registers (spec chapter 16) -/

def R.CHK_CFG (n : Nat) : Nat := 0x2301000 + 0x40 * n
def F.CHK_CFG.PRESET (n : Nat) : Fld := ⟨R.CHK_CFG n, 0, 3⟩
def F.CHK_CFG.WIDTH (n : Nat) : Fld := ⟨R.CHK_CFG n, 8, 6⟩
def F.CHK_CFG.REFIN (n : Nat) : Fld := ⟨R.CHK_CFG n, 14, 1⟩
def F.CHK_CFG.REFOUT (n : Nat) : Fld := ⟨R.CHK_CFG n, 15, 1⟩
def R.CHK_POLY (n : Nat) : Nat := 0x2301004 + 0x40 * n
def F.CHK_POLY.POLY (n : Nat) : Fld := ⟨R.CHK_POLY n, 0, 32⟩
def R.CHK_INIT (n : Nat) : Nat := 0x2301008 + 0x40 * n
def F.CHK_INIT.INIT (n : Nat) : Fld := ⟨R.CHK_INIT n, 0, 32⟩
def R.CHK_XOROUT (n : Nat) : Nat := 0x230100C + 0x40 * n
def F.CHK_XOROUT.XOROUT (n : Nat) : Fld := ⟨R.CHK_XOROUT n, 0, 32⟩
def R.CHK_CRC (n : Nat) : Nat := 0x2301010 + 0x40 * n
def F.CHK_CRC.CRC (n : Nat) : Fld := ⟨R.CHK_CRC n, 0, 32⟩
def R.CHK_RESULT (n : Nat) : Nat := 0x2301014 + 0x40 * n
def F.CHK_RESULT.RESULT (n : Nat) : Fld := ⟨R.CHK_RESULT n, 0, 32⟩
def R.CHK_DATA8 (n : Nat) : Nat := 0x2301018 + 0x40 * n
def F.CHK_DATA8.DATA (n : Nat) : Fld := ⟨R.CHK_DATA8 n, 0, 8⟩
def R.CHK_DATA16 (n : Nat) : Nat := 0x230101C + 0x40 * n
def F.CHK_DATA16.DATA (n : Nat) : Fld := ⟨R.CHK_DATA16 n, 0, 16⟩
def R.CHK_DATA32 (n : Nat) : Nat := 0x2301020 + 0x40 * n
def F.CHK_DATA32.DATA (n : Nat) : Fld := ⟨R.CHK_DATA32 n, 0, 32⟩
def R.CHK_CTRL (n : Nat) : Nat := 0x2301024 + 0x40 * n
def F.CHK_CTRL.INIT (n : Nat) : Fld := ⟨R.CHK_CTRL n, 0, 1⟩
def F.CHK_CTRL.ALIVE_RESET (n : Nat) : Fld := ⟨R.CHK_CTRL n, 1, 1⟩
def R.CHK_POS (n : Nat) : Nat := 0x2301028 + 0x40 * n
def F.CHK_POS.POS (n : Nat) : Fld := ⟨R.CHK_POS n, 0, 16⟩
def R.CHK_ALIVE_CFG (n : Nat) : Nat := 0x230102C + 0x40 * n
def F.CHK_ALIVE_CFG.EN (n : Nat) : Fld := ⟨R.CHK_ALIVE_CFG n, 0, 1⟩
def F.CHK_ALIVE_CFG.WIDTH8 (n : Nat) : Fld := ⟨R.CHK_ALIVE_CFG n, 1, 1⟩
def F.CHK_ALIVE_CFG.NIBBLE (n : Nat) : Fld := ⟨R.CHK_ALIVE_CFG n, 2, 1⟩
def F.CHK_ALIVE_CFG.BYTE (n : Nat) : Fld := ⟨R.CHK_ALIVE_CFG n, 4, 10⟩
def F.CHK_ALIVE_CFG.INC (n : Nat) : Fld := ⟨R.CHK_ALIVE_CFG n, 14, 8⟩
def R.CHK_ALIVE_STATE (n : Nat) : Nat := 0x2301030 + 0x40 * n
def F.CHK_ALIVE_STATE.L (n : Nat) : Fld := ⟨R.CHK_ALIVE_STATE n, 0, 8⟩
def F.CHK_ALIVE_STATE.HAVE (n : Nat) : Fld := ⟨R.CHK_ALIVE_STATE n, 8, 1⟩
def F.CHK_ALIVE_STATE.RESULT (n : Nat) : Fld := ⟨R.CHK_ALIVE_STATE n, 9, 2⟩
def R.CHK_ALIVE_CNT (n : Nat) : Nat := 0x2301034 + 0x40 * n
def F.CHK_ALIVE_CNT.REPEAT_CNT (n : Nat) : Fld := ⟨R.CHK_ALIVE_CNT n, 0, 16⟩
def F.CHK_ALIVE_CNT.SKIP_CNT (n : Nat) : Fld := ⟨R.CHK_ALIVE_CNT n, 16, 16⟩
/-! ### PWR registers (spec chapter 17) -/

def R.PWR_STATE : Nat := 0x2400000
def F.PWR_STATE.STATE : Fld := ⟨R.PWR_STATE, 0, 3⟩
def F.PWR_STATE.TARGET : Fld := ⟨R.PWR_STATE, 3, 3⟩
def F.PWR_STATE.PHASE : Fld := ⟨R.PWR_STATE, 6, 2⟩
def F.PWR_STATE.RET_FAULT : Fld := ⟨R.PWR_STATE, 8, 1⟩
def R.PWR_TIMING : Nat := 0x2400004
def F.PWR_TIMING.DRAIN : Fld := ⟨R.PWR_TIMING, 0, 10⟩
def F.PWR_TIMING.ACK_TIMEOUT : Fld := ⟨R.PWR_TIMING, 16, 8⟩
def R.PWR_AVS : Nat := 0x2400008
def F.PWR_AVS.RUN_MV : Fld := ⟨R.PWR_AVS, 0, 10⟩
def F.PWR_AVS.IDLE_MV : Fld := ⟨R.PWR_AVS, 16, 10⟩
def R.PWR_WAKE_EN : Nat := 0x240000C
def F.PWR_WAKE_EN.EN : Fld := ⟨R.PWR_WAKE_EN, 0, 7⟩
def R.PWR_WAKE_PEND : Nat := 0x2400010
def F.PWR_WAKE_PEND.PEND : Fld := ⟨R.PWR_WAKE_PEND, 0, 7⟩
def R.PWR_WAKE : Nat := 0x2400014
def F.PWR_WAKE.GO : Fld := ⟨R.PWR_WAKE, 0, 1⟩
def R.PWR_WAKE_TIME : Nat := 0x2400018
def F.PWR_WAKE_TIME.RTC : Fld := ⟨R.PWR_WAKE_TIME, 0, 64⟩
def R.PWR_LAST_EXIT : Nat := 0x2400020
def F.PWR_LAST_EXIT.SOURCES : Fld := ⟨R.PWR_LAST_EXIT, 0, 7⟩
def F.PWR_LAST_EXIT.ACK_FAIL : Fld := ⟨R.PWR_LAST_EXIT, 7, 1⟩
def F.PWR_LAST_EXIT.FROM : Fld := ⟨R.PWR_LAST_EXIT, 8, 3⟩
def R.PWR_RET_BANK : Nat := 0x2400024
def F.PWR_RET_BANK.BANK : Fld := ⟨R.PWR_RET_BANK, 0, 8⟩
def R.PWR_ENTRY_CNT : Nat := 0x2400040
def F.PWR_ENTRY_CNT.COUNT : Fld := ⟨R.PWR_ENTRY_CNT, 0, 64⟩
def R.PWR_ABORT_CNT : Nat := 0x2400048
def F.PWR_ABORT_CNT.COUNT : Fld := ⟨R.PWR_ABORT_CNT, 0, 64⟩
def R.PWR_ACK_FAIL_CNT : Nat := 0x2400050
def F.PWR_ACK_FAIL_CNT.COUNT : Fld := ⟨R.PWR_ACK_FAIL_CNT, 0, 64⟩
def R.PWR_RET_FAULT_CNT : Nat := 0x2400058
def F.PWR_RET_FAULT_CNT.COUNT : Fld := ⟨R.PWR_RET_FAULT_CNT, 0, 64⟩
def R.PWR_CALLS_DROPPED_CNT : Nat := 0x2400060
def F.PWR_CALLS_DROPPED_CNT.COUNT : Fld := ⟨R.PWR_CALLS_DROPPED_CNT, 0, 64⟩
/-! ### GL registers (spec chapter 17) -/

def R.GL_RTC : Nat := 0x2480000
def F.GL_RTC.COUNT : Fld := ⟨R.GL_RTC, 0, 64⟩
def R.GL_DARK_PERIOD : Nat := 0x2480008
def F.GL_DARK_PERIOD.MS : Fld := ⟨R.GL_DARK_PERIOD, 0, 16⟩
def R.GL_DARK_SAMPLE : Nat := 0x248000C
def F.GL_DARK_SAMPLE.MS : Fld := ⟨R.GL_DARK_SAMPLE, 0, 16⟩
def R.GL_DARK_CFG : Nat := 0x2480010
def F.GL_DARK_CFG.CU_KEEP : Fld := ⟨R.GL_DARK_CFG, 0, 1⟩
def F.GL_DARK_CFG.TEMP_MAX : Fld := ⟨R.GL_DARK_CFG, 8, 8⟩
def F.GL_DARK_CFG.TEMP_ACTION : Fld := ⟨R.GL_DARK_CFG, 16, 2⟩
def R.GL_TEMP : Nat := 0x2480014
def F.GL_TEMP.TEMP : Fld := ⟨R.GL_TEMP, 0, 16⟩
def R.GL_DARK_LAST : Nat := 0x2480018
def F.GL_DARK_LAST.CHANNEL : Fld := ⟨R.GL_DARK_LAST, 0, 7⟩
def R.GL_WINDOW_CNT : Nat := 0x2480040
def F.GL_WINDOW_CNT.COUNT : Fld := ⟨R.GL_WINDOW_CNT, 0, 64⟩
def R.GL_SRAM_CE_CNT : Nat := 0x2480048
def F.GL_SRAM_CE_CNT.COUNT : Fld := ⟨R.GL_SRAM_CE_CNT, 0, 64⟩
def R.GL_SRAM_UE_CNT : Nat := 0x2480050
def F.GL_SRAM_UE_CNT.COUNT : Fld := ⟨R.GL_SRAM_UE_CNT, 0, 64⟩
def R.GL_EVT_LOST_CNT : Nat := 0x2480058
def F.GL_EVT_LOST_CNT.COUNT : Fld := ⟨R.GL_EVT_LOST_CNT, 0, 64⟩
def R.GL_DARK_CH (n : Nat) : Nat := 0x2480100 + 0x8 * n
def F.GL_DARK_CH.THRESHOLD (n : Nat) : Fld := ⟨R.GL_DARK_CH n, 0, 32⟩
def F.GL_DARK_CH.ACTION (n : Nat) : Fld := ⟨R.GL_DARK_CH n, 32, 2⟩
/-! ### EVT registers (spec chapter 19) -/

def R.EVT_LEDGER : Nat := 0x2500000
def F.EVT_LEDGER.MS : Fld := ⟨R.EVT_LEDGER, 0, 14⟩
def R.EVT_STORE_LEVEL : Nat := 0x2500004
def F.EVT_STORE_LEVEL.COUNT : Fld := ⟨R.EVT_STORE_LEVEL, 0, 13⟩
def R.EVT_LAST_HOUSE : Nat := 0x2500008
def F.EVT_LAST_HOUSE.HOUSE : Fld := ⟨R.EVT_LAST_HOUSE, 0, 64⟩
def R.EVT_LEDGER_FAULT : Nat := 0x2500010
def F.EVT_LEDGER_FAULT.LEDGER : Fld := ⟨R.EVT_LEDGER_FAULT, 0, 7⟩
def R.EVT_RAISED_CNT : Nat := 0x2500040
def F.EVT_RAISED_CNT.COUNT : Fld := ⟨R.EVT_RAISED_CNT, 0, 64⟩
def R.EVT_SRC_LOST_CNT : Nat := 0x2500048
def F.EVT_SRC_LOST_CNT.COUNT : Fld := ⟨R.EVT_SRC_LOST_CNT, 0, 64⟩
def R.EVT_STORE_LOST_CNT : Nat := 0x2500050
def F.EVT_STORE_LOST_CNT.COUNT : Fld := ⟨R.EVT_STORE_LOST_CNT, 0, 64⟩
def R.EVT_LEDGER_FAULT_CNT : Nat := 0x2500058
def F.EVT_LEDGER_FAULT_CNT.COUNT : Fld := ⟨R.EVT_LEDGER_FAULT_CNT, 0, 64⟩
/-! ### PBK registers (spec chapter 19) -/

def R.PBK_STATE : Nat := 0x2580000
def F.PBK_STATE.VALID : Fld := ⟨R.PBK_STATE, 0, 1⟩
def F.PBK_STATE.WRITING : Fld := ⟨R.PBK_STATE, 1, 1⟩
def F.PBK_STATE.LAST_FAIL : Fld := ⟨R.PBK_STATE, 2, 1⟩
def F.PBK_STATE.SLOT : Fld := ⟨R.PBK_STATE, 8, 8⟩
def R.PBK_SEQ : Nat := 0x2580004
def F.PBK_SEQ.SEQ : Fld := ⟨R.PBK_SEQ, 0, 32⟩
def R.PBK_LAST_WRITE : Nat := 0x2580008
def F.PBK_LAST_WRITE.RTC : Fld := ⟨R.PBK_LAST_WRITE, 0, 64⟩
def R.PBK_POWER_ON : Nat := 0x2580010
def F.PBK_POWER_ON.SECONDS : Fld := ⟨R.PBK_POWER_ON, 0, 64⟩
def R.PBK_MAX_TJ : Nat := 0x2580018
def F.PBK_MAX_TJ.TEMP : Fld := ⟨R.PBK_MAX_TJ, 0, 16⟩
def F.PBK_MAX_TJ.GROUP : Fld := ⟨R.PBK_MAX_TJ, 16, 5⟩
def R.PBK_WRITE_CNT : Nat := 0x2580020
def F.PBK_WRITE_CNT.COUNT : Fld := ⟨R.PBK_WRITE_CNT, 0, 64⟩
def R.PBK_WRITE_FAIL_CNT : Nat := 0x2580028
def F.PBK_WRITE_FAIL_CNT.COUNT : Fld := ⟨R.PBK_WRITE_FAIL_CNT, 0, 64⟩
def R.PBK_WIN_OFF : Nat := 0x2580030
def F.PBK_WIN_OFF.OFFSET : Fld := ⟨R.PBK_WIN_OFF, 2, 12⟩
def R.PBK_WIN_DATA : Nat := 0x2580034
def F.PBK_WIN_DATA.DATA : Fld := ⟨R.PBK_WIN_DATA, 0, 32⟩
/-! ### CUR registers (spec chapter 15) -/

def R.CUR_STATE : Nat := 0x3000000
def F.CUR_STATE.MODE : Fld := ⟨R.CUR_STATE, 0, 3⟩
def F.CUR_STATE.HW_DROP : Fld := ⟨R.CUR_STATE, 3, 1⟩
def F.CUR_STATE.IMAGE_VALID : Fld := ⟨R.CUR_STATE, 4, 1⟩
def F.CUR_STATE.BACKUP_CLK : Fld := ⟨R.CUR_STATE, 5, 1⟩
def F.CUR_STATE.LOOK_BAD : Fld := ⟨R.CUR_STATE, 6, 1⟩
def F.CUR_STATE.SPI_PARAMS : Fld := ⟨R.CUR_STATE, 7, 1⟩
def R.CUR_CAUSE : Nat := 0x3000004
def F.CUR_CAUSE.CAUSES : Fld := ⟨R.CUR_CAUSE, 0, 11⟩
def R.CUR_INPUTS : Nat := 0x3000008
def F.CUR_INPUTS.ALARMS : Fld := ⟨R.CUR_INPUTS, 0, 8⟩
def F.CUR_INPUTS.DROP_N : Fld := ⟨R.CUR_INPUTS, 8, 1⟩
def F.CUR_INPUTS.RELAYS : Fld := ⟨R.CUR_INPUTS, 9, 4⟩
def F.CUR_INPUTS.CUR_OK : Fld := ⟨R.CUR_INPUTS, 13, 1⟩
def R.CUR_FAULT : Nat := 0x300000C
def F.CUR_FAULT.CAUSES : Fld := ⟨R.CUR_FAULT, 0, 6⟩
def R.CUR_SEL_LINK : Nat := 0x3000010
def F.CUR_SEL_LINK.LINKS : Fld := ⟨R.CUR_SEL_LINK, 0, 64⟩
def R.CUR_SEL_PORT : Nat := 0x3000018
def F.CUR_SEL_PORT.NET : Fld := ⟨R.CUR_SEL_PORT, 0, 8⟩
def F.CUR_SEL_PORT.LINE : Fld := ⟨R.CUR_SEL_PORT, 8, 16⟩
def R.CUR_SEL_SIG : Nat := 0x300001C
def F.CUR_SEL_SIG.SIG : Fld := ⟨R.CUR_SEL_SIG, 0, 16⟩
def R.CUR_IMAGE : Nat := 0x3000020
def F.CUR_IMAGE.VERSION : Fld := ⟨R.CUR_IMAGE, 0, 32⟩
def R.CUR_LAST_DROP : Nat := 0x3000028
def F.CUR_LAST_DROP.HOUSE : Fld := ⟨R.CUR_LAST_DROP, 0, 64⟩
def R.CUR_LAST_REFUSED : Nat := 0x3000030
def F.CUR_LAST_REFUSED.OFFSET : Fld := ⟨R.CUR_LAST_REFUSED, 0, 20⟩
def F.CUR_LAST_REFUSED.SOURCE : Fld := ⟨R.CUR_LAST_REFUSED, 32, 16⟩
def R.CUR_DROP_CNT : Nat := 0x3000040
def F.CUR_DROP_CNT.COUNT : Fld := ⟨R.CUR_DROP_CNT, 0, 64⟩
def R.CUR_WRITE_REFUSED_CNT : Nat := 0x3000048
def F.CUR_WRITE_REFUSED_CNT.COUNT : Fld := ⟨R.CUR_WRITE_REFUSED_CNT, 0, 64⟩
def R.CUR_SPI_OK_CNT : Nat := 0x3000050
def F.CUR_SPI_OK_CNT.COUNT : Fld := ⟨R.CUR_SPI_OK_CNT, 0, 64⟩
def R.CUR_SPI_CRC_CNT : Nat := 0x3000058
def F.CUR_SPI_CRC_CNT.COUNT : Fld := ⟨R.CUR_SPI_CRC_CNT, 0, 64⟩
def R.CUR_SPI_ALIVE_CNT : Nat := 0x3000060
def F.CUR_SPI_ALIVE_CNT.COUNT : Fld := ⟨R.CUR_SPI_ALIVE_CNT, 0, 64⟩
def R.CUR_SRAM_CE_CNT : Nat := 0x3000068
def F.CUR_SRAM_CE_CNT.COUNT : Fld := ⟨R.CUR_SRAM_CE_CNT, 0, 64⟩
def R.CUR_SRAM_UE_CNT : Nat := 0x3000070
def F.CUR_SRAM_UE_CNT.COUNT : Fld := ⟨R.CUR_SRAM_UE_CNT, 0, 64⟩
def R.CUR_NET_DISCARD_CNT : Nat := 0x3000078
def F.CUR_NET_DISCARD_CNT.COUNT : Fld := ⟨R.CUR_NET_DISCARD_CNT, 0, 64⟩
def R.CUR_LOOK_MISMATCH_CNT : Nat := 0x3000080
def F.CUR_LOOK_MISMATCH_CNT.COUNT : Fld := ⟨R.CUR_LOOK_MISMATCH_CNT, 0, 64⟩
def R.CUR_RESET_CNT : Nat := 0x3000088
def F.CUR_RESET_CNT.COUNT : Fld := ⟨R.CUR_RESET_CNT, 0, 64⟩
def R.CUR_EVT_LOST_CNT : Nat := 0x3000090
def F.CUR_EVT_LOST_CNT.COUNT : Fld := ⟨R.CUR_EVT_LOST_CNT, 0, 64⟩
def R.CUR_ALARM_CFG (n : Nat) : Nat := 0x3001000 + 0x4 * n
def F.CUR_ALARM_CFG.EN (n : Nat) : Fld := ⟨R.CUR_ALARM_CFG n, 0, 1⟩
def F.CUR_ALARM_CFG.POL (n : Nat) : Fld := ⟨R.CUR_ALARM_CFG n, 1, 1⟩
def F.CUR_ALARM_CFG.ACTION (n : Nat) : Fld := ⟨R.CUR_ALARM_CFG n, 2, 2⟩
def F.CUR_ALARM_CFG.DEBOUNCE (n : Nat) : Fld := ⟨R.CUR_ALARM_CFG n, 4, 7⟩
def R.CUR_OUT_CFG (n : Nat) : Nat := 0x3001020 + 0x4 * n
def F.CUR_OUT_CFG.ON_DROP (n : Nat) : Fld := ⟨R.CUR_OUT_CFG n, 0, 1⟩
def F.CUR_OUT_CFG.ON_TEST (n : Nat) : Fld := ⟨R.CUR_OUT_CFG n, 1, 1⟩
def F.CUR_OUT_CFG.FAULT_LEVEL (n : Nat) : Fld := ⟨R.CUR_OUT_CFG n, 2, 1⟩
def F.CUR_OUT_CFG.POL (n : Nat) : Fld := ⟨R.CUR_OUT_CFG n, 3, 1⟩
def R.CUR_TIMING : Nat := 0x3001030
def F.CUR_TIMING.SACN_PERIOD : Fld := ⟨R.CUR_TIMING, 0, 10⟩
def F.CUR_TIMING.SWEEP : Fld := ⟨R.CUR_TIMING, 10, 10⟩
def F.CUR_TIMING.WD : Fld := ⟨R.CUR_TIMING, 20, 7⟩
def R.CUR_SPI_CFG : Nat := 0x3001034
def F.CUR_SPI_CFG.SPI_WD : Fld := ⟨R.CUR_SPI_CFG, 0, 14⟩
def F.CUR_SPI_CFG.SPI_WD_DROP : Fld := ⟨R.CUR_SPI_CFG, 14, 1⟩
def R.CUR_CLAIM : Nat := 0x3001038
def F.CUR_CLAIM.CLAIM : Fld := ⟨R.CUR_CLAIM, 0, 16⟩
def R.CUR_RELEASE : Nat := 0x300103C
def F.CUR_RELEASE.RELEASE : Fld := ⟨R.CUR_RELEASE, 0, 10⟩
def R.CUR_MASK_LINK : Nat := 0x3001040
def F.CUR_MASK_LINK.LINKS : Fld := ⟨R.CUR_MASK_LINK, 0, 64⟩
def R.CUR_MASK_PORT : Nat := 0x3001048
def F.CUR_MASK_PORT.NET : Fld := ⟨R.CUR_MASK_PORT, 0, 8⟩
def F.CUR_MASK_PORT.LINE : Fld := ⟨R.CUR_MASK_PORT, 8, 16⟩
def R.CUR_MASK_SIG : Nat := 0x300104C
def F.CUR_MASK_SIG.SIG : Fld := ⟨R.CUR_MASK_SIG, 0, 16⟩
def R.CUR_SACN_CID (n : Nat) : Nat := 0x3001050 + 0x4 * n
def F.CUR_SACN_CID.CID (n : Nat) : Fld := ⟨R.CUR_SACN_CID n, 0, 32⟩
def R.CUR_SACN_NAME (n : Nat) : Nat := 0x3001060 + 0x4 * n
def F.CUR_SACN_NAME.NAME (n : Nat) : Fld := ⟨R.CUR_SACN_NAME n, 0, 32⟩
def R.CUR_NET_MAC (n : Nat) : Nat := 0x3001100 + 0x10 * n
def F.CUR_NET_MAC.MAC (n : Nat) : Fld := ⟨R.CUR_NET_MAC n, 0, 48⟩
def R.CUR_NET_IP4 (n : Nat) : Nat := 0x3001108 + 0x10 * n
def F.CUR_NET_IP4.IP4 (n : Nat) : Fld := ⟨R.CUR_NET_IP4 n, 0, 32⟩
def R.CUR_NET_VLAN (n : Nat) : Nat := 0x300110C + 0x10 * n
def F.CUR_NET_VLAN.ID (n : Nat) : Fld := ⟨R.CUR_NET_VLAN n, 0, 12⟩
def F.CUR_NET_VLAN.EN (n : Nat) : Fld := ⟨R.CUR_NET_VLAN n, 12, 1⟩
def F.CUR_NET_VLAN.PCP (n : Nat) : Fld := ⟨R.CUR_NET_VLAN n, 13, 3⟩
def R.CUR_WIN_STATUS (n : Nat) : Nat := 0x3002400 + 0x20 * n
def F.CUR_WIN_STATUS.VALID (n : Nat) : Fld := ⟨R.CUR_WIN_STATUS n, 0, 1⟩
def F.CUR_WIN_STATUS.MATCH (n : Nat) : Fld := ⟨R.CUR_WIN_STATUS n, 1, 1⟩
def F.CUR_WIN_STATUS.SAFE (n : Nat) : Fld := ⟨R.CUR_WIN_STATUS n, 2, 1⟩
def R.CUR_WIN_RESULT (n : Nat) : Nat := 0x3002404 + 0x20 * n
def F.CUR_WIN_RESULT.CRC (n : Nat) : Fld := ⟨R.CUR_WIN_RESULT n, 0, 32⟩
def R.CUR_WIN_SEQ (n : Nat) : Nat := 0x3002408 + 0x20 * n
def F.CUR_WIN_SEQ.SEQ (n : Nat) : Fld := ⟨R.CUR_WIN_SEQ n, 0, 64⟩
def R.CUR_WIN_MISMATCH_CNT (n : Nat) : Nat := 0x3002410 + 0x20 * n
def F.CUR_WIN_MISMATCH_CNT.COUNT (n : Nat) : Fld := ⟨R.CUR_WIN_MISMATCH_CNT n, 0, 64⟩
/-! ### CURFLY registers (spec chapter 16) -/

def R.CUR_FLY_SRC (n : Nat) : Nat := 0x3004000 + 0x100 * n
def F.CUR_FLY_SRC.ADDR (n : Nat) : Fld := ⟨R.CUR_FLY_SRC n, 0, 64⟩
def R.CUR_FLY_DST (n : Nat) : Nat := 0x3004008 + 0x100 * n
def F.CUR_FLY_DST.ADDR (n : Nat) : Fld := ⟨R.CUR_FLY_DST n, 0, 64⟩
def R.CUR_FLY_COUNT (n : Nat) : Nat := 0x3004010 + 0x100 * n
def F.CUR_FLY_COUNT.COUNT (n : Nat) : Fld := ⟨R.CUR_FLY_COUNT n, 0, 32⟩
def R.CUR_FLY_CFG (n : Nat) : Nat := 0x3004014 + 0x100 * n
def F.CUR_FLY_CFG.SRC_W (n : Nat) : Fld := ⟨R.CUR_FLY_CFG n, 0, 3⟩
def F.CUR_FLY_CFG.DST_W (n : Nat) : Fld := ⟨R.CUR_FLY_CFG n, 3, 3⟩
def F.CUR_FLY_CFG.MODE (n : Nat) : Fld := ⟨R.CUR_FLY_CFG n, 6, 1⟩
def F.CUR_FLY_CFG.SRC_FIX (n : Nat) : Fld := ⟨R.CUR_FLY_CFG n, 7, 1⟩
def F.CUR_FLY_CFG.DST_FIX (n : Nat) : Fld := ⟨R.CUR_FLY_CFG n, 8, 1⟩
def F.CUR_FLY_CFG.SRC_SPACE (n : Nat) : Fld := ⟨R.CUR_FLY_CFG n, 9, 3⟩
def F.CUR_FLY_CFG.DST_SPACE (n : Nat) : Fld := ⟨R.CUR_FLY_CFG n, 12, 3⟩
def F.CUR_FLY_CFG.IDX_OBJ (n : Nat) : Fld := ⟨R.CUR_FLY_CFG n, 15, 1⟩
def F.CUR_FLY_CFG.ELEM (n : Nat) : Fld := ⟨R.CUR_FLY_CFG n, 16, 8⟩
def F.CUR_FLY_CFG.WIN_LOG2 (n : Nat) : Fld := ⟨R.CUR_FLY_CFG n, 24, 5⟩
def F.CUR_FLY_CFG.EVT (n : Nat) : Fld := ⟨R.CUR_FLY_CFG n, 29, 1⟩
def R.CUR_FLY_IDX_BASE (n : Nat) : Nat := 0x3004018 + 0x100 * n
def F.CUR_FLY_IDX_BASE.BASE (n : Nat) : Fld := ⟨R.CUR_FLY_IDX_BASE n, 0, 32⟩
def R.CUR_FLY_IDX_COUNT (n : Nat) : Nat := 0x300401C + 0x100 * n
def F.CUR_FLY_IDX_COUNT.COUNT (n : Nat) : Fld := ⟨R.CUR_FLY_IDX_COUNT n, 0, 24⟩
def R.CUR_FLY_STATUS (n : Nat) : Nat := 0x3004024 + 0x100 * n
def F.CUR_FLY_STATUS.STATE (n : Nat) : Fld := ⟨R.CUR_FLY_STATUS n, 0, 3⟩
def F.CUR_FLY_STATUS.ERR (n : Nat) : Fld := ⟨R.CUR_FLY_STATUS n, 3, 4⟩
def F.CUR_FLY_STATUS.OVLP (n : Nat) : Fld := ⟨R.CUR_FLY_STATUS n, 7, 1⟩
def F.CUR_FLY_STATUS.DESC (n : Nat) : Fld := ⟨R.CUR_FLY_STATUS n, 8, 1⟩
def F.CUR_FLY_STATUS.POISON (n : Nat) : Fld := ⟨R.CUR_FLY_STATUS n, 9, 1⟩
def F.CUR_FLY_STATUS.VBYTES (n : Nat) : Fld := ⟨R.CUR_FLY_STATUS n, 10, 5⟩
def F.CUR_FLY_STATUS.HELD (n : Nat) : Fld := ⟨R.CUR_FLY_STATUS n, 16, 9⟩
def R.CUR_FLY_RESIDUE (n : Nat) : Nat := 0x3004028 + 0x100 * n
def F.CUR_FLY_RESIDUE.COUNT (n : Nat) : Fld := ⟨R.CUR_FLY_RESIDUE n, 0, 32⟩
def R.CUR_FLY_WRITTEN (n : Nat) : Nat := 0x300402C + 0x100 * n
def F.CUR_FLY_WRITTEN.COUNT (n : Nat) : Fld := ⟨R.CUR_FLY_WRITTEN n, 0, 32⟩
/-! ### CURCHK registers (spec chapter 16) -/

def R.CUR_CHK_CFG (n : Nat) : Nat := 0x3005000 + 0x40 * n
def F.CUR_CHK_CFG.PRESET (n : Nat) : Fld := ⟨R.CUR_CHK_CFG n, 0, 3⟩
def F.CUR_CHK_CFG.WIDTH (n : Nat) : Fld := ⟨R.CUR_CHK_CFG n, 8, 6⟩
def F.CUR_CHK_CFG.REFIN (n : Nat) : Fld := ⟨R.CUR_CHK_CFG n, 14, 1⟩
def F.CUR_CHK_CFG.REFOUT (n : Nat) : Fld := ⟨R.CUR_CHK_CFG n, 15, 1⟩
def R.CUR_CHK_POLY (n : Nat) : Nat := 0x3005004 + 0x40 * n
def F.CUR_CHK_POLY.POLY (n : Nat) : Fld := ⟨R.CUR_CHK_POLY n, 0, 32⟩
def R.CUR_CHK_INIT (n : Nat) : Nat := 0x3005008 + 0x40 * n
def F.CUR_CHK_INIT.INIT (n : Nat) : Fld := ⟨R.CUR_CHK_INIT n, 0, 32⟩
def R.CUR_CHK_XOROUT (n : Nat) : Nat := 0x300500C + 0x40 * n
def F.CUR_CHK_XOROUT.XOROUT (n : Nat) : Fld := ⟨R.CUR_CHK_XOROUT n, 0, 32⟩
def R.CUR_CHK_CRC (n : Nat) : Nat := 0x3005010 + 0x40 * n
def F.CUR_CHK_CRC.CRC (n : Nat) : Fld := ⟨R.CUR_CHK_CRC n, 0, 32⟩
def R.CUR_CHK_RESULT (n : Nat) : Nat := 0x3005014 + 0x40 * n
def F.CUR_CHK_RESULT.RESULT (n : Nat) : Fld := ⟨R.CUR_CHK_RESULT n, 0, 32⟩
def R.CUR_CHK_POS (n : Nat) : Nat := 0x3005028 + 0x40 * n
def F.CUR_CHK_POS.POS (n : Nat) : Fld := ⟨R.CUR_CHK_POS n, 0, 16⟩
def R.CUR_CHK_ALIVE_CFG (n : Nat) : Nat := 0x300502C + 0x40 * n
def F.CUR_CHK_ALIVE_CFG.EN (n : Nat) : Fld := ⟨R.CUR_CHK_ALIVE_CFG n, 0, 1⟩
def F.CUR_CHK_ALIVE_CFG.WIDTH8 (n : Nat) : Fld := ⟨R.CUR_CHK_ALIVE_CFG n, 1, 1⟩
def F.CUR_CHK_ALIVE_CFG.NIBBLE (n : Nat) : Fld := ⟨R.CUR_CHK_ALIVE_CFG n, 2, 1⟩
def F.CUR_CHK_ALIVE_CFG.BYTE (n : Nat) : Fld := ⟨R.CUR_CHK_ALIVE_CFG n, 4, 10⟩
def F.CUR_CHK_ALIVE_CFG.INC (n : Nat) : Fld := ⟨R.CUR_CHK_ALIVE_CFG n, 14, 8⟩
def R.CUR_CHK_ALIVE_STATE (n : Nat) : Nat := 0x3005030 + 0x40 * n
def F.CUR_CHK_ALIVE_STATE.L (n : Nat) : Fld := ⟨R.CUR_CHK_ALIVE_STATE n, 0, 8⟩
def F.CUR_CHK_ALIVE_STATE.HAVE (n : Nat) : Fld := ⟨R.CUR_CHK_ALIVE_STATE n, 8, 1⟩
def F.CUR_CHK_ALIVE_STATE.RESULT (n : Nat) : Fld := ⟨R.CUR_CHK_ALIVE_STATE n, 9, 2⟩
def R.CUR_CHK_ALIVE_CNT (n : Nat) : Nat := 0x3005034 + 0x40 * n
def F.CUR_CHK_ALIVE_CNT.REPEAT_CNT (n : Nat) : Fld := ⟨R.CUR_CHK_ALIVE_CNT n, 0, 16⟩
def F.CUR_CHK_ALIVE_CNT.SKIP_CNT (n : Nat) : Fld := ⟨R.CUR_CHK_ALIVE_CNT n, 16, 16⟩

end Sys2Proof.Machine
end

