-- ==== Sys2Proof/Machine/RegTable.lean ====
section
/-! DEFINITION. The register map (R26): every register of the spec with the access code (R12), reset letter
(R15), reset value and accepted values (R7, R14) of each of its fields. Bits no field lists are reserved (R14).
A field whose reset value the spec does not give resets to 0 (assumption 1). -/

namespace Sys2Proof.Machine

/-- Access codes (R12). -/
inductive Access where
  | rw | ro | w1c | w1s | rc | wo
  deriving DecidableEq, Repr

/-- Reset letters (R15): the weakest reset that returns the field to its reset value. -/
inductive Letter where
  | C | W | H | B | K | G
  deriving DecidableEq, Repr

/-- Values a field accepts (R7, R14): any, a range, an enumeration up to its last listed encoding, a signed range, zero or a range, or a binary32 in a range. -/
inductive Check where
  | any
  | range (lo hi : Nat)
  | enum (hi : Nat)
  | signed (lo hi : Int)
  | zeroOr (lo hi : Nat)
  | gain32
  | pos32
  deriving DecidableEq, Repr

/-- A field of a register. -/
structure FieldDef where
  name : String
  lsb : Nat
  width : Nat
  access : Access
  letter : Letter
  reset : Nat
  check : Check
  deriving DecidableEq, Repr

/-- A register, or an array of registers: `dims` lists (stride, count), outer index first. -/
structure RegDef where
  name : String
  base : Nat
  dims : List (Nat × Nat)
  wide : Bool
  fields : List FieldDef
  deriving DecidableEq, Repr

/-- Registers of the GLB block. -/
def regsGlb : List RegDef := [
  ⟨"GLB_ID", 0x0, [], false,
    [⟨"ID", 0, 32, .ro, .C, 0x4B586400, .any⟩]⟩,
  ⟨"GLB_REV", 0x4, [], false,
    [⟨"REV", 0, 32, .ro, .C, 0xA1, .any⟩]⟩,
  ⟨"GLB_PCI_VID", 0x8, [], false,
    [⟨"VID", 0, 16, .ro, .C, 0x0, .any⟩]⟩,
  ⟨"GLB_RESET", 0x10, [], false,
    [⟨"WARM", 0, 1, .wo, .W, 0x0, .any⟩, ⟨"BLOCK_GO", 8, 1, .wo, .W, 0x0, .any⟩, ⟨"KIND", 9, 3, .wo, .W, 0x0, .enum 4⟩, ⟨"INDEX", 12, 6, .wo, .W, 0x0, .any⟩]⟩,
  ⟨"GLB_WD", 0x18, [], false,
    [⟨"PERIOD", 0, 16, .rw, .W, 0x3E8, .range 10 60000⟩, ⟨"EN", 16, 1, .rw, .W, 0x0, .any⟩]⟩,
  ⟨"GLB_WD_KICK", 0x1C, [], false,
    [⟨"KICK", 0, 1, .wo, .W, 0x0, .any⟩]⟩,
  ⟨"GLB_BOOT", 0x20, [], false,
    [⟨"STATE", 0, 3, .ro, .W, 0x0, .any⟩, ⟨"SOURCE", 3, 2, .ro, .W, 0x0, .any⟩, ⟨"BOOT_SEL", 5, 2, .ro, .C, 0x0, .any⟩, ⟨"RECOVERY", 7, 1, .ro, .W, 0x0, .any⟩, ⟨"FROM_WINGS", 8, 1, .ro, .W, 0x0, .any⟩, ⟨"FALLBACK", 9, 1, .ro, .W, 0x0, .any⟩]⟩,
  ⟨"GLB_FW_VERSION", 0x24, [], false,
    [⟨"VERSION", 0, 32, .ro, .W, 0x0, .any⟩]⟩,
  ⟨"GLB_ROLLBACK", 0x28, [], false,
    [⟨"FW", 0, 7, .ro, .C, 0x0, .any⟩, ⟨"CUR", 8, 7, .ro, .C, 0x0, .any⟩]⟩,
  ⟨"GLB_UPD_STATE", 0x30, [], false,
    [⟨"STATE", 0, 3, .ro, .W, 0x0, .any⟩, ⟨"KIND", 3, 1, .ro, .W, 0x0, .any⟩, ⟨"FAIL", 4, 4, .ro, .W, 0x0, .any⟩]⟩,
  ⟨"GLB_UPD_CHUNKS", 0x34, [], false,
    [⟨"RECEIVED", 0, 16, .ro, .W, 0x0, .any⟩, ⟨"TOTAL", 16, 16, .ro, .W, 0x0, .any⟩]⟩,
  ⟨"GLB_UPD_CAP", 0x38, [], false,
    [⟨"CAP", 0, 14, .rw, .W, 0x400, .range 16 8192⟩]⟩,
  ⟨"GLB_UPD_CTRL", 0x3C, [], false,
    [⟨"CANCEL", 0, 1, .wo, .W, 0x0, .any⟩]⟩,
  ⟨"GLB_SETTINGS_RESET", 0x40, [], false,
    [⟨"SECTIONS", 0, 8, .ro, .W, 0x0, .any⟩, ⟨"LOST", 8, 1, .ro, .W, 0x0, .any⟩]⟩,
  ⟨"GLB_LOAD_LEN", 0x44, [], false,
    [⟨"LENGTH", 0, 26, .rw, .W, 0x0, .range 8192 33558528⟩]⟩,
  ⟨"GLB_LOAD_GO", 0x48, [], false,
    [⟨"GO", 0, 1, .wo, .W, 0x0, .any⟩]⟩,
  ⟨"GLB_RESET_CAUSE", 0x50, [], true,
    [⟨"CAUSE", 0, 3, .ro, .G, 0x0, .any⟩, ⟨"RTC", 3, 45, .ro, .G, 0x0, .any⟩]⟩]

/-- Registers of the HST block. -/
def regsHst : List RegDef := [
  ⟨"HST_CTRL", 0x100000, [], false,
    [⟨"ENABLE", 0, 1, .rw, .H, 0x0, .any⟩]⟩,
  ⟨"HST_DB_ADDR", 0x100008, [], true,
    [⟨"ADDR", 8, 56, .rw, .H, 0x0, .any⟩]⟩,
  ⟨"HST_HEADVEC_ADDR", 0x100010, [], true,
    [⟨"ADDR", 8, 56, .rw, .H, 0x0, .any⟩]⟩,
  ⟨"HST_DB_POLL", 0x100018, [], false,
    [⟨"PERIOD", 0, 20, .rw, .H, 0x7D0, .range 250 1000000⟩]⟩,
  ⟨"HST_NUDGE", 0x10001C, [], false,
    [⟨"GO", 0, 1, .wo, .H, 0x0, .any⟩]⟩,
  ⟨"HST_DBG_EN", 0x100020, [], false,
    [⟨"BAR4", 0, 1, .rw, .W, 0x0, .any⟩]⟩,
  ⟨"HST_STORE_FREE", 0x100024, [], false,
    [⟨"COUNT", 0, 14, .ro, .W, 0x2000, .any⟩]⟩,
  ⟨"HST_STORE_HELD", 0x100028, [], false,
    [⟨"COUNT", 0, 14, .ro, .W, 0x0, .any⟩]⟩,
  ⟨"HST_DB_FAIL_CNT", 0x100030, [], true,
    [⟨"COUNT", 0, 64, .rc, .H, 0x0, .any⟩]⟩,
  ⟨"HST_RING_CFG", 0x101000, [(0x40, 64)], false,
    [⟨"CLASS", 0, 2, .rw, .H, 0x0, .any⟩, ⟨"ENABLE", 2, 1, .rw, .H, 0x0, .any⟩, ⟨"IRQ", 3, 1, .rw, .H, 0x0, .any⟩, ⟨"SIZE_LOG2", 4, 4, .rw, .H, 0x4, .range 4 15⟩, ⟨"CQ_SIZE_LOG2", 8, 4, .rw, .H, 0x4, .range 4 15⟩, ⟨"VEC", 12, 6, .rw, .H, 0x0, .any⟩]⟩,
  ⟨"HST_RING_BASE", 0x101008, [(0x40, 64)], true,
    [⟨"ADDR", 12, 52, .rw, .H, 0x0, .any⟩]⟩,
  ⟨"HST_RING_CQ", 0x101010, [(0x40, 64)], true,
    [⟨"ADDR", 12, 52, .rw, .H, 0x0, .any⟩]⟩,
  ⟨"HST_RING_STATE", 0x101018, [(0x40, 64)], false,
    [⟨"FETCH_HEAD", 0, 16, .ro, .H, 0x0, .any⟩, ⟨"HELD", 16, 11, .ro, .H, 0x0, .any⟩, ⟨"CUE_OPEN", 27, 1, .ro, .H, 0x0, .any⟩, ⟨"STOPPED", 31, 1, .ro, .H, 0x0, .any⟩]⟩,
  ⟨"HST_RING_CQ_STATE", 0x10101C, [(0x40, 64)], false,
    [⟨"CQ_TAIL", 0, 16, .ro, .H, 0x0, .any⟩, ⟨"CQ_HEAD", 16, 16, .ro, .H, 0x0, .any⟩]⟩,
  ⟨"HST_RING_CTRL", 0x101020, [(0x40, 64)], false,
    [⟨"HEAD", 0, 16, .wo, .H, 0x0, .any⟩, ⟨"RESTART", 31, 1, .wo, .H, 0x0, .any⟩]⟩,
  ⟨"HST_RING_DONE_CNT", 0x101028, [(0x40, 64)], true,
    [⟨"COUNT", 0, 64, .rc, .H, 0x0, .any⟩]⟩,
  ⟨"HST_RING_ERR_CNT", 0x101030, [(0x40, 64)], true,
    [⟨"COUNT", 0, 64, .rc, .H, 0x0, .any⟩]⟩,
  ⟨"HST_RING_LOST_CNT", 0x101038, [(0x40, 64)], true,
    [⟨"COUNT", 0, 64, .rc, .H, 0x0, .any⟩]⟩,
  ⟨"HST_VEC_HOLDOFF", 0x102000, [(0x4, 64)], false,
    [⟨"HOLDOFF", 0, 16, .rw, .H, 0x0, .any⟩]⟩]

/-- Registers of the OBJ block. -/
def regsObj : List RegDef := [
  ⟨"OBJ_LIVE", 0x180000, [], false,
    [⟨"COUNT", 0, 17, .ro, .W, 0x0, .any⟩]⟩,
  ⟨"OBJ_PAGES_FREE", 0x180004, [], false,
    [⟨"COUNT", 0, 19, .ro, .C, 0x60000, .any⟩]⟩,
  ⟨"OBJ_PAGES_USED", 0x180008, [], false,
    [⟨"COUNT", 0, 19, .ro, .C, 0x0, .any⟩]⟩,
  ⟨"OBJ_PAGES_RETIRED", 0x18000C, [], false,
    [⟨"COUNT", 0, 19, .ro, .C, 0x0, .any⟩]⟩,
  ⟨"OBJ_SRAM_FREE", 0x180010, [], false,
    [⟨"COUNT", 0, 15, .ro, .W, 0x4000, .any⟩]⟩,
  ⟨"OBJ_SCRUB", 0x180020, [], false,
    [⟨"PERIOD", 0, 8, .rw, .W, 0x18, .range 1 168⟩, ⟨"CE_RETIRE", 8, 8, .rw, .W, 0x10, .range 1 255⟩, ⟨"PC_FAIL_PAGES", 16, 14, .rw, .W, 0x200, .range 1 12288⟩]⟩,
  ⟨"OBJ_INJECT", 0x180024, [], false,
    [⟨"MODE", 0, 2, .rw, .W, 0x0, .enum 2⟩, ⟨"TARGET", 2, 6, .rw, .W, 0x0, .enum 32⟩]⟩,
  ⟨"OBJ_LAST_UE", 0x180028, [], true,
    [⟨"ADDR", 0, 40, .ro, .C, 0x0, .any⟩, ⟨"SRAM", 40, 1, .ro, .C, 0x0, .any⟩]⟩,
  ⟨"OBJ_APT_HANDLE", 0x180040, [], false,
    [⟨"HANDLE", 0, 32, .rw, .W, 0x0, .any⟩]⟩,
  ⟨"OBJ_APT_BASE", 0x180048, [], true,
    [⟨"BASE", 12, 52, .rw, .W, 0x0, .any⟩]⟩,
  ⟨"OBJ_CE_CNT", 0x180100, [(0x8, 32)], true,
    [⟨"COUNT", 0, 64, .ro, .C, 0x0, .any⟩]⟩,
  ⟨"OBJ_UE_CNT", 0x180200, [(0x8, 32)], true,
    [⟨"COUNT", 0, 64, .ro, .C, 0x0, .any⟩]⟩,
  ⟨"OBJ_SRAM_CE_CNT", 0x180300, [], true,
    [⟨"COUNT", 0, 64, .ro, .C, 0x0, .any⟩]⟩,
  ⟨"OBJ_SRAM_UE_CNT", 0x180308, [], true,
    [⟨"COUNT", 0, 64, .ro, .C, 0x0, .any⟩]⟩]

/-- Registers of the TIM block (part 0). -/
def regsTim0 : List RegDef := [
  ⟨"TIM_HOUSE", 0x800000, [], true,
    [⟨"COUNT", 0, 64, .ro, .K, 0x0, .any⟩]⟩,
  ⟨"TIM_NOW_S", 0x800100, [(0x100, 2)], true,
    [⟨"SEC", 0, 48, .ro, .K, 0x0, .any⟩]⟩,
  ⟨"TIM_NOW_NS", 0x800108, [(0x100, 2)], false,
    [⟨"NS", 0, 30, .ro, .K, 0x0, .any⟩]⟩,
  ⟨"TIM_NOW_FRAC", 0x80010C, [(0x100, 2)], false,
    [⟨"FRAC", 0, 32, .ro, .K, 0x0, .any⟩]⟩,
  ⟨"TIM_RATE", 0x800110, [(0x100, 2)], false,
    [⟨"RATE", 0, 23, .rw, .K, 0x0, .signed (-2684354) 2684354⟩]⟩,
  ⟨"TIM_STEP_S", 0x800118, [(0x100, 2)], true,
    [⟨"SEC", 0, 48, .rw, .W, 0x0, .any⟩]⟩,
  ⟨"TIM_STEP_NS", 0x800120, [(0x100, 2)], false,
    [⟨"NS", 0, 31, .rw, .W, 0x0, .signed (-999999999) 999999999⟩]⟩,
  ⟨"TIM_CTRL", 0x800124, [(0x100, 2)], false,
    [⟨"STEP", 0, 1, .wo, .W, 0x0, .any⟩, ⟨"UNLOCK", 1, 1, .wo, .W, 0x0, .any⟩, ⟨"PTP_OK", 2, 1, .rw, .W, 0x0, .any⟩, ⟨"REVERT", 3, 1, .rw, .W, 0x1, .any⟩]⟩,
  ⟨"TIM_STATE", 0x800128, [(0x100, 2)], false,
    [⟨"DISC", 0, 1, .ro, .K, 0x0, .any⟩, ⟨"ARB", 1, 2, .ro, .K, 0x0, .any⟩, ⟨"SRC", 3, 4, .ro, .K, 0x0, .any⟩, ⟨"CAUSE", 7, 2, .ro, .K, 0x0, .any⟩]⟩,
  ⟨"TIM_PRIO", 0x80012C, [(0x100, 2)], false,
    [⟨"P0", 0, 4, .rw, .W, 0x0, .enum 6⟩, ⟨"P1", 4, 4, .rw, .W, 0x0, .enum 6⟩, ⟨"P2", 8, 4, .rw, .W, 0x0, .enum 6⟩, ⟨"P3", 12, 4, .rw, .W, 0x0, .enum 6⟩]⟩,
  ⟨"TIM_HOLD", 0x800130, [(0x100, 2)], false,
    [⟨"HOLD_MAX", 0, 16, .rw, .W, 0xE10, .range 1 65535⟩, ⟨"SERVO_WD", 16, 8, .rw, .W, 0x4, .range 1 60⟩, ⟨"QUAL_TIME", 24, 8, .rw, .W, 0x2, .range 1 60⟩]⟩,
  ⟨"TIM_SHOW_NOW_S", 0x800300, [], true,
    [⟨"SEC", 0, 48, .ro, .K, 0x0, .any⟩]⟩,
  ⟨"TIM_SHOW_NOW_NS", 0x800308, [], false,
    [⟨"NS", 0, 30, .ro, .K, 0x0, .any⟩]⟩,
  ⟨"TIM_SHOW_NOW_FRAC", 0x80030C, [], false,
    [⟨"FRAC", 0, 32, .ro, .K, 0x0, .any⟩]⟩,
  ⟨"TIM_SHOW_CTRL", 0x800310, [], false,
    [⟨"SEL", 0, 1, .rw, .K, 0x0, .any⟩, ⟨"SLEW", 1, 7, .rw, .K, 0x32, .range 1 100⟩, ⟨"UNLOCK", 8, 1, .wo, .W, 0x0, .any⟩]⟩,
  ⟨"TIM_SHOW_STATE", 0x800314, [], false,
    [⟨"DISC", 0, 1, .ro, .K, 0x0, .any⟩, ⟨"CAUSE", 1, 2, .ro, .K, 0x0, .any⟩]⟩,
  ⟨"TIM_SHOW_OFFSET", 0x800318, [], true,
    [⟨"D", 0, 64, .ro, .K, 0x0, .any⟩]⟩,
  ⟨"TIM_REF_CFG", 0x800400, [(0x20, 5)], false,
    [⟨"EN", 0, 1, .rw, .W, 0x0, .any⟩, ⟨"EDGE", 1, 1, .rw, .W, 0x0, .any⟩, ⟨"AVG_LOG2", 2, 4, .rw, .W, 0x0, .any⟩, ⟨"TOL", 6, 10, .rw, .W, 0x1F4, .range 50 1000⟩]⟩,
  ⟨"TIM_REF_NUM", 0x800404, [(0x20, 5)], false,
    [⟨"VALUE", 0, 20, .rw, .W, 0x1, .range 1 1048575⟩]⟩,
  ⟨"TIM_REF_DEN", 0x800408, [(0x20, 5)], false,
    [⟨"VALUE", 0, 20, .rw, .W, 0x1, .range 1 1048575⟩]⟩,
  ⟨"TIM_REF_STATUS", 0x80040C, [(0x20, 5)], false,
    [⟨"PRESENT", 0, 1, .ro, .W, 0x0, .any⟩, ⟨"QUAL_A", 1, 1, .ro, .W, 0x0, .any⟩, ⟨"QUAL_B", 2, 1, .ro, .W, 0x0, .any⟩]⟩,
  ⟨"TIM_REF_PHASE_A", 0x800410, [(0x20, 5)], true,
    [⟨"PHASE", 0, 64, .ro, .W, 0x0, .any⟩]⟩,
  ⟨"TIM_REF_PHASE_B", 0x800418, [(0x20, 5)], true,
    [⟨"PHASE", 0, 64, .ro, .W, 0x0, .any⟩]⟩,
  ⟨"TIM_LTC_IN_LAST", 0x800500, [], false,
    [⟨"FRAME", 0, 6, .ro, .W, 0x0, .any⟩, ⟨"SEC", 6, 6, .ro, .W, 0x0, .any⟩, ⟨"MIN", 12, 6, .ro, .W, 0x0, .any⟩, ⟨"HOUR", 18, 5, .ro, .W, 0x0, .any⟩, ⟨"DF", 23, 1, .ro, .W, 0x0, .any⟩, ⟨"VALID", 24, 1, .ro, .W, 0x0, .any⟩]⟩]

/-- Registers of the TIM block (part 1). -/
def regsTim1 : List RegDef := [
  ⟨"TIM_LTC_IN_USER", 0x800504, [], false,
    [⟨"USER", 0, 32, .ro, .W, 0x0, .any⟩]⟩,
  ⟨"TIM_LTC_OUT_CFG", 0x800508, [], false,
    [⟨"EN", 0, 1, .rw, .W, 0x0, .any⟩, ⟨"RATE", 1, 2, .rw, .W, 0x1, .any⟩]⟩,
  ⟨"TIM_LTC_OUT_OFFSET", 0x80050C, [], false,
    [⟨"OFFSET", 0, 32, .rw, .W, 0x0, .any⟩]⟩,
  ⟨"TIM_LTC_OUT_USER", 0x800510, [], false,
    [⟨"USER", 0, 32, .rw, .W, 0x0, .any⟩]⟩,
  ⟨"TIM_CUEIO_CFG", 0x800600, [(0x4, 16)], false,
    [⟨"MODE", 0, 2, .rw, .W, 0x0, .enum 2⟩, ⟨"EDGE", 2, 2, .rw, .W, 0x0, .any⟩, ⟨"GLITCH", 4, 8, .rw, .W, 0x0, .any⟩, ⟨"OUT", 12, 1, .rw, .W, 0x0, .any⟩, ⟨"IN", 13, 1, .ro, .W, 0x0, .any⟩]⟩,
  ⟨"TIM_FRAME_SEQ", 0x800700, [], true,
    [⟨"SEQ", 0, 64, .ro, .W, 0x0, .any⟩]⟩,
  ⟨"TIM_FRAME_NEXT_S", 0x800708, [], true,
    [⟨"SEC", 0, 48, .ro, .W, 0x0, .any⟩]⟩,
  ⟨"TIM_FRAME_NEXT_NS", 0x800710, [], false,
    [⟨"NS", 0, 30, .ro, .W, 0x0, .any⟩]⟩,
  ⟨"TIM_FRAME_LATE_CNT", 0x800718, [], true,
    [⟨"COUNT", 0, 64, .rc, .W, 0x0, .any⟩]⟩,
  ⟨"TIM_TRIG_TARGET_S", 0x801000, [(0x40, 256)], true,
    [⟨"TARGET_S", 0, 48, .rw, .W, 0x0, .any⟩]⟩,
  ⟨"TIM_TRIG_TARGET_NS", 0x801008, [(0x40, 256)], false,
    [⟨"TARGET_NS", 0, 30, .rw, .W, 0x0, .any⟩]⟩,
  ⟨"TIM_TRIG_PERIOD", 0x80100C, [(0x40, 256)], false,
    [⟨"PERIOD", 0, 32, .rw, .W, 0x0, .zeroOr 1000 4000000000⟩]⟩,
  ⟨"TIM_TRIG_CTRL", 0x801010, [(0x40, 256)], false,
    [⟨"ARM", 0, 1, .rw, .W, 0x0, .any⟩, ⟨"CLOCK", 1, 2, .rw, .W, 0x0, .enum 2⟩, ⟨"ACTION", 3, 3, .rw, .W, 0x0, .enum 4⟩, ⟨"CUE_IO_PIN", 6, 4, .rw, .W, 0x0, .any⟩, ⟨"LEVEL", 10, 1, .rw, .W, 0x0, .any⟩, ⟨"ARG", 16, 8, .rw, .W, 0x0, .any⟩]⟩,
  ⟨"TIM_TRIG_FIRE_CNT", 0x801014, [(0x40, 256)], false,
    [⟨"FIRE_CNT", 0, 32, .rc, .W, 0x0, .any⟩]⟩,
  ⟨"TIM_TRIG_WORD", 0x801020, [(0x40, 256), (0x4, 8)], false,
    [⟨"WORD", 0, 32, .rw, .W, 0x0, .any⟩]⟩]

/-- Registers of the CB block (part 0). -/
def regsCb0 : List RegDef := [
  ⟨"CB_MODE", 0x200000, [], false,
    [⟨"MODE", 0, 2, .rw, .W, 0x0, .any⟩]⟩,
  ⟨"CB_CTRL", 0x200004, [], false,
    [⟨"STEAL", 0, 2, .rw, .W, 0x1, .enum 2⟩, ⟨"HOLD", 2, 1, .rw, .W, 0x0, .any⟩, ⟨"HOST_PRIO_MAX", 4, 3, .rw, .W, 0x3, .any⟩]⟩,
  ⟨"CB_RESERVE", 0x200008, [], false,
    [⟨"RESERVE", 0, 11, .rw, .W, 0x40, .range 0 1024⟩]⟩,
  ⟨"CB_LIST_CAP", 0x20000C, [], false,
    [⟨"CAP", 0, 14, .rw, .W, 0x800, .range 64 8192⟩]⟩,
  ⟨"CB_SLOTS_FREE", 0x200010, [], false,
    [⟨"COUNT", 0, 14, .ro, .W, 0x2000, .any⟩]⟩,
  ⟨"CB_SLOTS_QUEUED", 0x200014, [], false,
    [⟨"COUNT", 0, 14, .ro, .W, 0x0, .any⟩]⟩,
  ⟨"CB_SLOTS_DISPATCHED", 0x200018, [], false,
    [⟨"COUNT", 0, 14, .ro, .W, 0x0, .any⟩]⟩,
  ⟨"CB_SLOTS_HANDOFF", 0x20001C, [], false,
    [⟨"COUNT", 0, 14, .ro, .W, 0x0, .any⟩]⟩,
  ⟨"CB_STALL_WD", 0x200020, [], false,
    [⟨"LIMIT", 0, 20, .rw, .W, 0x3E8, .range 0 1000000⟩]⟩,
  ⟨"CB_ENGINE_UP", 0x200028, [], true,
    [⟨"RE", 0, 16, .ro, .W, 0x0, .any⟩, ⟨"FE", 16, 32, .ro, .W, 0x0, .any⟩, ⟨"SM", 48, 4, .ro, .W, 0x0, .any⟩]⟩,
  ⟨"CB_POST_CNT", 0x200040, [], true,
    [⟨"COUNT", 0, 64, .rc, .W, 0x0, .any⟩]⟩,
  ⟨"CB_DISPATCH_CNT", 0x200048, [], true,
    [⟨"COUNT", 0, 64, .rc, .W, 0x0, .any⟩]⟩,
  ⟨"CB_REFUSED_CNT", 0x200050, [], true,
    [⟨"COUNT", 0, 64, .rc, .W, 0x0, .any⟩]⟩,
  ⟨"CB_INVALID_CNT", 0x200058, [], true,
    [⟨"COUNT", 0, 64, .rc, .W, 0x0, .any⟩]⟩,
  ⟨"CB_RETARGET_CNT", 0x200060, [], true,
    [⟨"COUNT", 0, 64, .rc, .W, 0x0, .any⟩]⟩,
  ⟨"CB_REQUEUE_CNT", 0x200068, [], true,
    [⟨"COUNT", 0, 64, .rc, .W, 0x0, .any⟩]⟩,
  ⟨"CB_LOST_CNT", 0x200070, [], true,
    [⟨"COUNT", 0, 64, .rc, .W, 0x0, .any⟩]⟩,
  ⟨"CB_STALL_CNT", 0x200078, [], true,
    [⟨"COUNT", 0, 64, .rc, .W, 0x0, .any⟩]⟩,
  ⟨"CB_LIST_COUNT", 0x201000, [(0x4, 256)], false,
    [⟨"COUNT", 0, 14, .ro, .W, 0x0, .any⟩]⟩,
  ⟨"CB_STANDBY", 0x202000, [(0x100, 4)], false,
    [⟨"SLOT", 0, 16, .ro, .W, 0x0, .any⟩, ⟨"KIND", 16, 8, .ro, .W, 0x0, .any⟩]⟩,
  ⟨"CB_WITHDRAW", 0x202004, [(0x100, 4)], false,
    [⟨"GO", 0, 1, .wo, .W, 0x0, .any⟩]⟩,
  ⟨"CB_SM_STATE", 0x202008, [(0x100, 4)], false,
    [⟨"WAITING", 0, 1, .ro, .W, 0x0, .any⟩, ⟨"WD_PEND", 1, 1, .ro, .W, 0x0, .any⟩, ⟨"HOLDING", 2, 1, .ro, .W, 0x0, .any⟩, ⟨"RESV", 3, 4, .ro, .W, 0x0, .any⟩, ⟨"SLOT", 16, 16, .ro, .W, 0x0, .any⟩]⟩,
  ⟨"CB_CALL_WORD", 0x202020, [(0x100, 4), (0x4, 8)], false,
    [⟨"WORD", 0, 32, .ro, .W, 0x0, .any⟩]⟩,
  ⟨"CB_POST_WORD", 0x202040, [(0x100, 4), (0x4, 8)], false,
    [⟨"WORD", 0, 32, .rw, .W, 0x0, .any⟩]⟩]

/-- Registers of the CB block (part 1). -/
def regsCb1 : List RegDef := [
  ⟨"CB_POST", 0x202060, [(0x100, 4)], false,
    [⟨"RESULT", 0, 2, .ro, .W, 0x0, .any⟩, ⟨"SLOT", 16, 16, .ro, .W, 0x0, .any⟩]⟩]

/-- Registers of the BLK block. -/
def regsBlk : List RegDef := [
  ⟨"BLK_HYST", 0x300000, [], false,
    [⟨"HYST", 0, 8, .rw, .W, 0x20, .any⟩]⟩,
  ⟨"BLK_WEIGHT", 0x300004, [], false,
    [⟨"REMOTE", 0, 8, .rw, .W, 0x8, .any⟩, ⟨"FAR", 8, 8, .rw, .W, 0x10, .any⟩, ⟨"DRAIN", 16, 8, .rw, .W, 0x4, .any⟩]⟩,
  ⟨"BLK_EST", 0x300008, [], false,
    [⟨"RE_LAYER", 0, 16, .rw, .W, 0x800, .range 1 65535⟩, ⟨"FE_FIXTURE", 16, 8, .rw, .W, 0x40, .range 1 255⟩]⟩,
  ⟨"BLK_MIG_BUDGET", 0x30000C, [], false,
    [⟨"MIB", 0, 11, .rw, .W, 0x40, .range 0 1024⟩]⟩,
  ⟨"BLK_EVAC_BUDGET", 0x300010, [], false,
    [⟨"MIB", 0, 11, .rw, .W, 0x100, .range 1 1024⟩]⟩,
  ⟨"BLK_MIG_DWELL", 0x300014, [], false,
    [⟨"PLANS", 0, 8, .rw, .W, 0x4, .range 1 255⟩]⟩,
  ⟨"BLK_INFLIGHT", 0x300018, [], false,
    [⟨"LIMIT", 0, 13, .rw, .W, 0x1000, .range 256 4096⟩]⟩,
  ⟨"BLK_PRIO", 0x30001C, [], false,
    [⟨"RENDER", 0, 3, .rw, .W, 0x5, .any⟩, ⟨"FIXTURE", 4, 3, .rw, .W, 0x5, .any⟩, ⟨"COMPILE", 8, 3, .rw, .W, 0x1, .any⟩]⟩,
  ⟨"BLK_FE_CHUNK", 0x300020, [], false,
    [⟨"LAMPS", 0, 17, .rw, .W, 0x4000, .range 1024 65536⟩]⟩,
  ⟨"BLK_HANG", 0x300024, [], false,
    [⟨"LIMIT", 0, 16, .rw, .W, 0x2710, .zeroOr 100 65535⟩]⟩,
  ⟨"BLK_SRAM_KEEP", 0x300028, [], false,
    [⟨"BLOCKS", 0, 15, .rw, .W, 0x1000, .range 0 16384⟩]⟩,
  ⟨"BLK_PARK", 0x30002C, [], false,
    [⟨"EN", 0, 1, .rw, .W, 0x0, .any⟩, ⟨"HEADROOM", 8, 8, .rw, .W, 0x40, .range 1 127⟩]⟩,
  ⟨"BLK_HEALTH_RE", 0x300040, [], false,
    [⟨"MASK", 0, 16, .rw, .W, 0xFFFF, .any⟩]⟩,
  ⟨"BLK_HEALTH_FE", 0x300044, [], false,
    [⟨"MASK", 0, 32, .rw, .W, 0xFFFFFFFF, .any⟩]⟩,
  ⟨"BLK_HEALTH_PC", 0x300048, [], false,
    [⟨"MASK", 0, 32, .rw, .W, 0xFFFFFFFF, .any⟩]⟩,
  ⟨"BLK_PARKED", 0x30004C, [], false,
    [⟨"ENG", 0, 8, .ro, .W, 0x0, .any⟩]⟩,
  ⟨"BLK_LAST_FRAME", 0x300060, [], true,
    [⟨"SEQ", 0, 64, .ro, .W, 0x0, .any⟩]⟩,
  ⟨"BLK_PLAN_TIME", 0x300068, [], false,
    [⟨"ECLK", 0, 16, .ro, .W, 0x0, .any⟩]⟩,
  ⟨"BLK_PLAN_MAX", 0x30006C, [], false,
    [⟨"ECLK", 0, 16, .rc, .W, 0x0, .any⟩]⟩,
  ⟨"BLK_ITEMS", 0x300070, [], false,
    [⟨"COUNT", 0, 17, .ro, .W, 0x0, .any⟩]⟩,
  ⟨"BLK_MIG_PENDING", 0x300078, [], true,
    [⟨"COUNT", 0, 64, .ro, .W, 0x0, .any⟩]⟩,
  ⟨"BLK_MIG_BYTES_CNT", 0x300080, [], true,
    [⟨"COUNT", 0, 64, .rc, .W, 0x0, .any⟩]⟩,
  ⟨"BLK_PIN_BROKEN_CNT", 0x300088, [], true,
    [⟨"COUNT", 0, 64, .rc, .W, 0x0, .any⟩]⟩,
  ⟨"BLK_DISCARD_CNT", 0x300090, [], true,
    [⟨"COUNT", 0, 64, .rc, .W, 0x0, .any⟩]⟩]

/-- Registers of the CMP block. -/
def regsCmp : List RegDef := [
  ⟨"CMP_CTRL", 0x400000, [], false,
    [⟨"OCCLUDE", 0, 1, .rw, .W, 0x1, .any⟩, ⟨"SKIP_EMPTY", 1, 1, .rw, .W, 0x1, .any⟩]⟩,
  ⟨"CMP_TILES_USED", 0x400004, [], false,
    [⟨"COUNT", 0, 23, .ro, .W, 0x0, .any⟩]⟩,
  ⟨"CMP_CANVAS_TILES", 0x400100, [(0x4, 64)], false,
    [⟨"COUNT", 0, 17, .ro, .W, 0x0, .any⟩]⟩,
  ⟨"CMP_RE_STATUS", 0x400200, [(0x4, 16)], false,
    [⟨"BUSY", 0, 1, .ro, .W, 0x0, .any⟩, ⟨"FENCED", 1, 1, .ro, .W, 0x0, .any⟩, ⟨"HELD", 2, 3, .ro, .W, 0x0, .any⟩, ⟨"FAULT", 5, 1, .ro, .W, 0x0, .any⟩]⟩,
  ⟨"CMP_TILE_CNT", 0x400300, [], true,
    [⟨"COUNT", 0, 64, .rc, .W, 0x0, .any⟩]⟩,
  ⟨"CMP_FETCH_CNT", 0x400308, [], true,
    [⟨"COUNT", 0, 64, .rc, .W, 0x0, .any⟩]⟩,
  ⟨"CMP_OCCLUDED_CNT", 0x400310, [], true,
    [⟨"COUNT", 0, 64, .rc, .W, 0x0, .any⟩]⟩,
  ⟨"CMP_EMPTY_CNT", 0x400318, [], true,
    [⟨"COUNT", 0, 64, .rc, .W, 0x0, .any⟩]⟩,
  ⟨"CMP_NONFINITE_CNT", 0x400320, [], true,
    [⟨"COUNT", 0, 64, .rc, .W, 0x0, .any⟩]⟩,
  ⟨"CMP_POISON_CNT", 0x400328, [], true,
    [⟨"COUNT", 0, 64, .rc, .W, 0x0, .any⟩]⟩,
  ⟨"CMP_TILE_MISS_CNT", 0x400330, [], true,
    [⟨"COUNT", 0, 64, .rc, .W, 0x0, .any⟩]⟩,
  ⟨"CMP_LAST_POISON", 0x400340, [], true,
    [⟨"HANDLE", 0, 32, .ro, .W, 0x0, .any⟩, ⟨"BLOCK", 32, 32, .ro, .W, 0x0, .any⟩]⟩]

/-- Registers of the PSH block. -/
def regsPsh : List RegDef := [
  ⟨"PSH_FORGET", 0x500000, [], false,
    [⟨"LINK", 0, 6, .wo, .W, 0x0, .any⟩, ⟨"GO", 31, 1, .wo, .W, 0x0, .any⟩]⟩,
  ⟨"PSH_POISON_CNT", 0x500008, [], true,
    [⟨"COUNT", 0, 64, .rc, .W, 0x0, .any⟩]⟩,
  ⟨"PSH_STATE", 0x501000, [(0x40, 64)], false,
    [⟨"PHASE", 0, 2, .ro, .B, 0x0, .any⟩, ⟨"LAST_OK", 2, 1, .ro, .B, 0x0, .any⟩, ⟨"SKIPPED", 3, 1, .ro, .B, 0x0, .any⟩]⟩,
  ⟨"PSH_UNITS", 0x501004, [(0x40, 64)], false,
    [⟨"COUNT", 0, 20, .ro, .B, 0x0, .any⟩]⟩,
  ⟨"PSH_SWEEP", 0x501008, [(0x40, 64)], false,
    [⟨"COUNT", 0, 20, .ro, .B, 0x0, .any⟩]⟩,
  ⟨"PSH_DIRTY", 0x50100C, [(0x40, 64)], false,
    [⟨"COUNT", 0, 20, .ro, .B, 0x0, .any⟩]⟩,
  ⟨"PSH_SENT_CNT", 0x501010, [(0x40, 64)], true,
    [⟨"COUNT", 0, 64, .rc, .B, 0x0, .any⟩]⟩,
  ⟨"PSH_BYTES_CNT", 0x501018, [(0x40, 64)], true,
    [⟨"COUNT", 0, 64, .rc, .B, 0x0, .any⟩]⟩,
  ⟨"PSH_REFRESH_CNT", 0x501020, [(0x40, 64)], true,
    [⟨"COUNT", 0, 64, .rc, .B, 0x0, .any⟩]⟩,
  ⟨"PSH_RESEND_CNT", 0x501028, [(0x40, 64)], true,
    [⟨"COUNT", 0, 64, .rc, .B, 0x0, .any⟩]⟩,
  ⟨"PSH_STALE_CNT", 0x501030, [(0x40, 64)], true,
    [⟨"COUNT", 0, 64, .rc, .B, 0x0, .any⟩]⟩,
  ⟨"PSH_FORGET_CNT", 0x501038, [(0x40, 64)], true,
    [⟨"COUNT", 0, 64, .rc, .B, 0x0, .any⟩]⟩]

/-- Registers of the SPT block. -/
def regsSpt : List RegDef := [
  ⟨"SPT_MISMATCH", 0x580000, [], true,
    [⟨"WIN", 0, 48, .w1c, .W, 0x0, .any⟩]⟩,
  ⟨"SPT_INCOMPLETE", 0x580008, [], true,
    [⟨"WIN", 0, 48, .w1c, .W, 0x0, .any⟩]⟩,
  ⟨"SPT_STATUS", 0x581000, [(0x80, 48)], false,
    [⟨"VALID", 0, 1, .ro, .W, 0x0, .any⟩, ⟨"MATCH", 1, 1, .ro, .W, 0x0, .any⟩, ⟨"DROPPED", 2, 1, .ro, .W, 0x0, .any⟩, ⟨"HIST_COUNT", 4, 4, .ro, .W, 0x0, .any⟩]⟩,
  ⟨"SPT_RESULT", 0x581004, [(0x80, 48)], false,
    [⟨"CRC", 0, 32, .ro, .W, 0x0, .any⟩]⟩,
  ⟨"SPT_FRAME", 0x581008, [(0x80, 48)], true,
    [⟨"SEQ", 0, 64, .ro, .W, 0x0, .any⟩]⟩,
  ⟨"SPT_MISMATCH_CNT", 0x581010, [(0x80, 48)], true,
    [⟨"COUNT", 0, 64, .rc, .W, 0x0, .any⟩]⟩,
  ⟨"SPT_INCOMPLETE_CNT", 0x581018, [(0x80, 48)], true,
    [⟨"COUNT", 0, 64, .rc, .W, 0x0, .any⟩]⟩,
  ⟨"SPT_HIST", 0x581040, [(0x80, 48), (0x8, 8)], true,
    [⟨"CRC", 0, 32, .ro, .W, 0x0, .any⟩, ⟨"SEQ", 32, 32, .ro, .W, 0x0, .any⟩]⟩]

/-- Registers of the FIX block. -/
def regsFix : List RegDef := [
  ⟨"FIX_CTRL", 0x600000, [], false,
    [⟨"CAP_EN", 0, 1, .rw, .W, 0x1, .any⟩, ⟨"TRIM_EN", 1, 1, .rw, .W, 0x1, .any⟩]⟩,
  ⟨"FIX_CAP", 0x600004, [], false,
    [⟨"UP", 0, 8, .rw, .W, 0x4, .range 1 255⟩, ⟨"MARGIN", 8, 8, .rw, .W, 0x10, .range 0 128⟩, ⟨"TRIM", 16, 16, .rw, .W, 0x40, .range 1 65535⟩]⟩,
  ⟨"FIX_TRIM_MIN", 0x600008, [], false,
    [⟨"WATTS", 0, 16, .rw, .W, 0xA, .range 1 65535⟩]⟩,
  ⟨"FIX_GAMUT_HANDLE", 0x600010, [], false,
    [⟨"HANDLE", 0, 32, .rw, .W, 0x0, .any⟩]⟩,
  ⟨"FIX_GAMUT_STATE", 0x600014, [], false,
    [⟨"COMPILED", 0, 1, .ro, .W, 0x0, .any⟩, ⟨"RUNNING", 1, 1, .ro, .W, 0x0, .any⟩, ⟨"STALE", 2, 1, .ro, .W, 0x0, .any⟩, ⟨"PARTIAL", 3, 1, .ro, .W, 0x0, .any⟩, ⟨"EMPTY_709", 4, 1, .ro, .W, 0x0, .any⟩, ⟨"EMPTY_2020", 5, 1, .ro, .W, 0x0, .any⟩]⟩,
  ⟨"FIX_GAMUT_709_SIGMA", 0x600018, [], false,
    [⟨"VALUE", 0, 32, .ro, .W, 0x0, .any⟩]⟩,
  ⟨"FIX_GAMUT_709_L", 0x60001C, [], false,
    [⟨"VALUE", 0, 32, .ro, .W, 0x0, .any⟩]⟩,
  ⟨"FIX_GAMUT_2020_SIGMA", 0x600020, [], false,
    [⟨"VALUE", 0, 32, .ro, .W, 0x0, .any⟩]⟩,
  ⟨"FIX_GAMUT_2020_L", 0x600024, [], false,
    [⟨"VALUE", 0, 32, .ro, .W, 0x0, .any⟩]⟩,
  ⟨"FIX_GAMUT_INVALID", 0x600028, [], false,
    [⟨"COUNT", 0, 27, .ro, .W, 0x0, .any⟩]⟩,
  ⟨"FIX_FEED_SCALE", 0x600100, [(0x4, 96)], false,
    [⟨"SCALE", 0, 32, .ro, .W, 0x3F800000, .any⟩]⟩,
  ⟨"FIX_FEED_GAIN", 0x600300, [(0x4, 96)], false,
    [⟨"GAIN", 0, 32, .rw, .W, 0x3F800000, .gain32⟩]⟩,
  ⟨"FIX_FEED_POWER", 0x600500, [(0x8, 96)], true,
    [⟨"RAW", 0, 32, .ro, .W, 0x0, .any⟩, ⟨"UNSCALED", 32, 32, .ro, .W, 0x0, .any⟩]⟩,
  ⟨"FIX_LAMP_CNT", 0x600800, [], true,
    [⟨"COUNT", 0, 64, .rc, .W, 0x0, .any⟩]⟩,
  ⟨"FIX_FIXTURE_CNT", 0x600808, [], true,
    [⟨"COUNT", 0, 64, .rc, .W, 0x0, .any⟩]⟩,
  ⟨"FIX_CLIP_CNT", 0x600810, [], true,
    [⟨"COUNT", 0, 64, .rc, .W, 0x0, .any⟩]⟩,
  ⟨"FIX_HOLD_CNT", 0x600818, [], true,
    [⟨"COUNT", 0, 64, .rc, .W, 0x0, .any⟩]⟩,
  ⟨"FIX_DARK_CNT", 0x600820, [], true,
    [⟨"COUNT", 0, 64, .rc, .W, 0x0, .any⟩]⟩,
  ⟨"FIX_POISON_CNT", 0x600828, [], true,
    [⟨"COUNT", 0, 64, .rc, .W, 0x0, .any⟩]⟩,
  ⟨"FIX_INVALID_CNT", 0x600830, [], true,
    [⟨"COUNT", 0, 64, .rc, .W, 0x0, .any⟩]⟩,
  ⟨"FIX_FE_STATUS", 0x600A00, [(0x4, 32)], false,
    [⟨"BUSY", 0, 1, .ro, .W, 0x0, .any⟩, ⟨"CALL", 1, 2, .ro, .W, 0x0, .any⟩, ⟨"FAULT", 3, 1, .ro, .W, 0x0, .any⟩]⟩]

/-- Registers of the LMP block. -/
def regsLmp : List RegDef := [
  ⟨"LMP_CTRL", 0x700000, [], false,
    [⟨"DIAG_EN", 0, 1, .rw, .W, 0x1, .any⟩, ⟨"FUNC_EN", 1, 1, .rw, .W, 0x1, .any⟩]⟩,
  ⟨"LMP_FUNC_OFF", 0x700008, [], true,
    [⟨"FUNC", 0, 64, .w1c, .K, 0x0, .any⟩]⟩,
  ⟨"LMP_FAILED_COUNT", 0x700010, [], false,
    [⟨"COUNT", 0, 11, .ro, .K, 0x0, .any⟩]⟩,
  ⟨"LMP_FAILED_SEL", 0x700014, [], false,
    [⟨"INDEX", 0, 10, .rw, .W, 0x0, .any⟩]⟩,
  ⟨"LMP_FAILED_ENTRY", 0x700018, [], true,
    [⟨"SURFACE", 0, 12, .ro, .K, 0x0, .any⟩, ⟨"LAMP", 12, 20, .ro, .K, 0x0, .any⟩, ⟨"EMITTER", 32, 3, .ro, .K, 0x0, .any⟩, ⟨"RESULT", 35, 2, .ro, .K, 0x0, .any⟩, ⟨"NODE", 37, 1, .ro, .K, 0x0, .any⟩, ⟨"VALID", 38, 1, .ro, .K, 0x0, .any⟩]⟩,
  ⟨"LMP_FAILED_CLEAR", 0x700020, [], false,
    [⟨"INDEX", 0, 10, .wo, .W, 0x0, .any⟩, ⟨"GO", 31, 1, .wo, .W, 0x0, .any⟩]⟩,
  ⟨"LMP_TEST_CNT", 0x700040, [], true,
    [⟨"COUNT", 0, 64, .rc, .W, 0x0, .any⟩]⟩,
  ⟨"LMP_FAIL_CNT", 0x700048, [], true,
    [⟨"COUNT", 0, 64, .rc, .W, 0x0, .any⟩]⟩,
  ⟨"LMP_BORROW_CNT", 0x700050, [], true,
    [⟨"COUNT", 0, 64, .rc, .W, 0x0, .any⟩]⟩,
  ⟨"LMP_FAILED_LOST_CNT", 0x700058, [], true,
    [⟨"COUNT", 0, 64, .rc, .K, 0x0, .any⟩]⟩]

/-- Registers of the SIG block. -/
def regsSig : List RegDef := [
  ⟨"SIG_CFG", 0x781000, [(0x40, 16)], false,
    [⟨"ENABLE", 0, 1, .rw, .B, 0x0, .any⟩, ⟨"LENGTH", 1, 5, .rw, .B, 0x10, .range 1 16⟩, ⟨"EN_POL", 6, 1, .rw, .B, 0x1, .any⟩, ⟨"BYP_POL", 7, 1, .rw, .B, 0x1, .any⟩]⟩,
  ⟨"SIG_THRESH", 0x781004, [(0x40, 16)], false,
    [⟨"OPEN", 0, 10, .rw, .B, 0x384, .any⟩, ⟨"SHORT", 16, 10, .rw, .B, 0x32, .any⟩]⟩,
  ⟨"SIG_STATE", 0x781008, [(0x40, 16)], false,
    [⟨"FAILED", 0, 16, .ro, .K, 0x0, .any⟩, ⟨"BYPASS_FAULT", 16, 1, .ro, .B, 0x0, .any⟩, ⟨"ACTIVE", 17, 1, .ro, .B, 0x0, .any⟩, ⟨"POINTER", 18, 4, .ro, .B, 0x0, .any⟩]⟩,
  ⟨"SIG_SENSE_LAST", 0x78100C, [(0x40, 16)], false,
    [⟨"CODE", 0, 10, .ro, .B, 0x0, .any⟩, ⟨"POSITION", 10, 4, .ro, .B, 0x0, .any⟩, ⟨"RESULT", 14, 2, .ro, .B, 0x0, .any⟩]⟩,
  ⟨"SIG_TEST_CNT", 0x781010, [(0x40, 16)], true,
    [⟨"COUNT", 0, 64, .rc, .B, 0x0, .any⟩]⟩,
  ⟨"SIG_CLEAR", 0x781018, [(0x40, 16)], false,
    [⟨"MASK", 0, 16, .wo, .B, 0x0, .any⟩]⟩]

/-- Registers of the CL block (part 0). -/
def regsCl0 : List RegDef := [
  ⟨"CL_CTRL", 0x1000000, [(0x10000, 66)], false,
    [⟨"EN", 0, 1, .rw, .W, 0x0, .any⟩, ⟨"EXPECTED", 1, 1, .rw, .W, 0x0, .any⟩, ⟨"RETRAIN", 2, 1, .wo, .W, 0x0, .any⟩]⟩,
  ⟨"CL_STATE", 0x1000004, [(0x10000, 66)], false,
    [⟨"STATE", 0, 3, .ro, .B, 0x0, .any⟩, ⟨"ABSENT", 3, 1, .ro, .B, 0x0, .any⟩, ⟨"LAST_FAIL", 4, 3, .ro, .B, 0x0, .any⟩, ⟨"ADDRS", 8, 9, .ro, .B, 0x0, .any⟩]⟩,
  ⟨"CL_CFG", 0x1000008, [(0x10000, 66)], false,
    [⟨"RET_QB", 0, 5, .rw, .W, 0x0, .any⟩, ⟨"HOLD", 8, 4, .rw, .W, 0x2, .range 1 15⟩, ⟨"ECHO_PERIOD", 16, 10, .rw, .W, 0xA, .range 1 1000⟩]⟩,
  ⟨"CL_PROBE", 0x100000C, [(0x10000, 66)], false,
    [⟨"MS", 0, 14, .rw, .W, 0x64, .range 10 10000⟩]⟩,
  ⟨"CL_DELAY", 0x1000010, [(0x10000, 66)], false,
    [⟨"VALUE", 0, 32, .ro, .B, 0x0, .any⟩]⟩,
  ⟨"CL_RTT_LAST", 0x1000014, [(0x10000, 66)], false,
    [⟨"VALUE", 0, 32, .ro, .B, 0x0, .any⟩]⟩,
  ⟨"CL_CRED_ADV", 0x1000018, [(0x10000, 66)], false,
    [⟨"COUNT", 0, 16, .ro, .B, 0x0, .any⟩]⟩,
  ⟨"CL_CRED_HELD", 0x100001C, [(0x10000, 66)], false,
    [⟨"COUNT", 0, 16, .ro, .B, 0x0, .any⟩]⟩,
  ⟨"CL_CRED_OUT", 0x1000020, [(0x10000, 66)], false,
    [⟨"COUNT", 0, 16, .ro, .B, 0x0, .any⟩]⟩,
  ⟨"CL_CLAIM", 0x1000024, [(0x10000, 64)], false,
    [⟨"OWN", 0, 16, .ro, .W, 0x0, .any⟩, ⟨"NODE", 16, 16, .ro, .B, 0x0, .any⟩]⟩,
  ⟨"CL_NODE_FLAGS", 0x1000028, [(0x10000, 66)], false,
    [⟨"FLAGS", 0, 6, .w1c, .B, 0x0, .any⟩]⟩,
  ⟨"CL_NODE_ID", 0x100002C, [(0x10000, 64)], false,
    [⟨"VALUE", 0, 32, .ro, .B, 0x0, .any⟩]⟩,
  ⟨"CL_NODE_SERIAL", 0x1000030, [(0x10000, 64)], false,
    [⟨"VALUE", 0, 32, .ro, .B, 0x0, .any⟩]⟩,
  ⟨"CL_NODE_CAPS", 0x1000034, [(0x10000, 64)], false,
    [⟨"VALUE", 0, 32, .ro, .B, 0x0, .any⟩]⟩,
  ⟨"CL_CFG_ADDR", 0x1000040, [(0x10000, 64)], false,
    [⟨"ADDR", 2, 30, .rw, .B, 0x0, .any⟩]⟩,
  ⟨"CL_CFG_CMD", 0x1000044, [(0x10000, 64)], false,
    [⟨"OP", 0, 1, .rw, .B, 0x0, .any⟩, ⟨"COUNT", 8, 7, .rw, .B, 0x1, .range 1 64⟩, ⟨"GO", 31, 1, .wo, .B, 0x0, .any⟩]⟩,
  ⟨"CL_CFG_STATUS", 0x1000048, [(0x10000, 64)], false,
    [⟨"BUSY", 0, 1, .ro, .B, 0x0, .any⟩, ⟨"DONE", 1, 1, .w1c, .B, 0x0, .any⟩, ⟨"RESULT", 2, 2, .ro, .B, 0x0, .any⟩]⟩,
  ⟨"CL_CFG_DATA", 0x1000100, [(0x10000, 64), (0x4, 64)], false,
    [⟨"WORD", 0, 32, .rw, .B, 0x0, .any⟩]⟩,
  ⟨"CL_TX_FRAME_CNT", 0x1000200, [(0x10000, 66)], true,
    [⟨"COUNT", 0, 64, .rc, .B, 0x0, .any⟩]⟩,
  ⟨"CL_RX_FRAME_CNT", 0x1000208, [(0x10000, 66)], true,
    [⟨"COUNT", 0, 64, .rc, .B, 0x0, .any⟩]⟩,
  ⟨"CL_RX_BAD_CNT", 0x1000210, [(0x10000, 66)], true,
    [⟨"COUNT", 0, 64, .rc, .B, 0x0, .any⟩]⟩,
  ⟨"CL_RX_GAP_CNT", 0x1000218, [(0x10000, 66)], true,
    [⟨"COUNT", 0, 64, .rc, .B, 0x0, .any⟩]⟩,
  ⟨"CL_RETRY_CNT", 0x1000220, [(0x10000, 66)], true,
    [⟨"COUNT", 0, 64, .rc, .W, 0x0, .any⟩]⟩,
  ⟨"CL_DOWN_CNT", 0x1000228, [(0x10000, 66)], true,
    [⟨"COUNT", 0, 64, .rc, .W, 0x0, .any⟩]⟩]

/-- Registers of the CL block (part 1). -/
def regsCl1 : List RegDef := [
  ⟨"CL_ECHO_REJECT_CNT", 0x1000230, [(0x10000, 66)], true,
    [⟨"COUNT", 0, 64, .rc, .B, 0x0, .any⟩]⟩,
  ⟨"CL_RET_DROP_CNT", 0x1000238, [(0x10000, 66)], true,
    [⟨"COUNT", 0, 64, .rc, .B, 0x0, .any⟩]⟩,
  ⟨"CL_STALL_CNT", 0x1000240, [(0x10000, 66)], true,
    [⟨"COUNT", 0, 64, .rc, .B, 0x0, .any⟩]⟩,
  ⟨"CL_LANE_MAP", 0x1008000, [(0x10000, 66)], false,
    [⟨"TX_L0", 0, 2, .ro, .C, 0x0, .any⟩, ⟨"TX_L1", 2, 2, .ro, .C, 0x1, .any⟩, ⟨"TX_SWING", 4, 2, .ro, .C, 0x2, .any⟩, ⟨"TX_MIRROR", 6, 1, .ro, .C, 0x0, .any⟩, ⟨"RX_L0", 7, 1, .ro, .C, 0x0, .any⟩, ⟨"RX_SWING", 8, 2, .ro, .C, 0x1, .any⟩]⟩,
  ⟨"CL_CAL_CTRL", 0x1008004, [(0x10000, 66)], false,
    [⟨"AUTO", 0, 1, .rw, .W, 0x1, .any⟩, ⟨"CAL_DELTA", 8, 6, .rw, .W, 0x8, .range 1 63⟩, ⟨"ERR_LIMIT", 16, 10, .rw, .W, 0x10, .range 1 1023⟩, ⟨"GO", 31, 1, .wo, .W, 0x0, .any⟩]⟩,
  ⟨"CL_CAL_STATE", 0x1008008, [(0x10000, 66)], false,
    [⟨"PHASE", 0, 3, .ro, .B, 0x0, .any⟩, ⟨"DIR", 3, 1, .ro, .B, 0x0, .any⟩, ⟨"LANE", 4, 2, .ro, .B, 0x0, .any⟩, ⟨"PENDING", 6, 1, .ro, .B, 0x0, .any⟩, ⟨"MAP_PENDING", 7, 1, .ro, .B, 0x0, .any⟩]⟩,
  ⟨"CL_CAL_TEMP", 0x100800C, [(0x10000, 64)], false,
    [⟨"CAL_TEMP", 0, 16, .ro, .W, 0x0, .any⟩, ⟨"NOW", 16, 16, .ro, .W, 0x0, .any⟩]⟩,
  ⟨"CL_TXL_CAL_COUNT", 0x1008100, [(0x10000, 66), (0x80, 3)], false,
    [⟨"COUNT", 0, 32, .ro, .C, 0x0, .any⟩]⟩,
  ⟨"CL_TXL_CAL_LAST", 0x1008108, [(0x10000, 66), (0x80, 3)], true,
    [⟨"HOUSE", 0, 64, .ro, .C, 0x0, .any⟩]⟩,
  ⟨"CL_TXL_CAL_REJECT", 0x1008110, [(0x10000, 66), (0x80, 3)], false,
    [⟨"COUNT", 0, 32, .ro, .C, 0x0, .any⟩]⟩,
  ⟨"CL_TXL_ROLE", 0x1008114, [(0x10000, 66), (0x80, 3)], false,
    [⟨"ROLE", 0, 2, .ro, .C, 0x0, .any⟩, ⟨"MARK", 2, 2, .ro, .C, 0x0, .any⟩, ⟨"RESTORE", 31, 1, .wo, .C, 0x0, .any⟩]⟩,
  ⟨"CL_TXL_GEN", 0x1008140, [(0x10000, 66), (0x80, 3)], false,
    [⟨"EN", 0, 1, .rw, .B, 0x0, .any⟩, ⟨"PATTERN", 1, 3, .rw, .B, 0x4, .enum 5⟩, ⟨"LOOP", 4, 1, .rw, .B, 0x0, .any⟩]⟩,
  ⟨"CL_TXL_USER", 0x1008148, [(0x10000, 66), (0x80, 3)], true,
    [⟨"PATTERN", 0, 64, .rw, .B, 0x0, .any⟩]⟩,
  ⟨"CL_TXL_INJ", 0x1008150, [(0x10000, 66), (0x80, 3)], false,
    [⟨"SINGLE", 0, 1, .wo, .B, 0x0, .any⟩, ⟨"RATE", 1, 1, .rw, .B, 0x0, .any⟩]⟩,
  ⟨"CL_TXL_INTERVAL", 0x1008154, [(0x10000, 66), (0x80, 3)], false,
    [⟨"BITS", 0, 32, .rw, .B, 0xF4240, .range 1024 4294967295⟩]⟩,
  ⟨"CL_RXL_CAL_COUNT", 0x1008400, [(0x10000, 66), (0x80, 2)], false,
    [⟨"COUNT", 0, 32, .ro, .C, 0x0, .any⟩]⟩,
  ⟨"CL_RXL_CAL_LAST", 0x1008408, [(0x10000, 66), (0x80, 2)], true,
    [⟨"HOUSE", 0, 64, .ro, .C, 0x0, .any⟩]⟩,
  ⟨"CL_RXL_CAL_REJECT", 0x1008410, [(0x10000, 66), (0x80, 2)], false,
    [⟨"COUNT", 0, 32, .ro, .C, 0x0, .any⟩]⟩,
  ⟨"CL_RXL_ROLE", 0x1008414, [(0x10000, 66), (0x80, 2)], false,
    [⟨"ROLE", 0, 2, .ro, .C, 0x0, .any⟩, ⟨"MARK", 2, 2, .ro, .C, 0x0, .any⟩, ⟨"RESTORE", 31, 1, .wo, .C, 0x0, .any⟩]⟩,
  ⟨"CL_RXL_SETTINGS", 0x1008418, [(0x10000, 66), (0x80, 2)], false,
    [⟨"PEAKING", 0, 5, .ro, .B, 0x0, .any⟩, ⟨"DC_GAIN", 5, 4, .ro, .B, 0x0, .any⟩, ⟨"OFFSET", 9, 7, .ro, .B, 0x0, .any⟩, ⟨"PHASE", 16, 6, .ro, .B, 0x0, .any⟩]⟩,
  ⟨"CL_RXL_ERR_CNT", 0x1008420, [(0x10000, 66), (0x80, 2)], true,
    [⟨"COUNT", 0, 64, .rc, .B, 0x0, .any⟩]⟩,
  ⟨"CL_RXL_CHK", 0x1008440, [(0x10000, 66), (0x80, 2)], false,
    [⟨"EN", 0, 1, .rw, .B, 0x0, .any⟩, ⟨"PATTERN", 1, 3, .rw, .B, 0x4, .enum 5⟩, ⟨"LOCKED", 4, 1, .ro, .B, 0x0, .any⟩]⟩,
  ⟨"CL_RXL_USER", 0x1008448, [(0x10000, 66), (0x80, 2)], true,
    [⟨"PATTERN", 0, 64, .rw, .B, 0x0, .any⟩]⟩,
  ⟨"CL_RXL_CHK_ERR_CNT", 0x1008450, [(0x10000, 66), (0x80, 2)], true,
    [⟨"COUNT", 0, 48, .rc, .B, 0x0, .any⟩]⟩]

/-- Registers of the CL block (part 2). -/
def regsCl2 : List RegDef := [
  ⟨"CL_RXL_CHK_BIT_CNT", 0x1008458, [(0x10000, 66), (0x80, 2)], true,
    [⟨"COUNT", 0, 48, .rc, .B, 0x0, .any⟩]⟩,
  ⟨"CL_RXL_RELOCK_CNT", 0x1008460, [(0x10000, 66), (0x80, 2)], false,
    [⟨"COUNT", 0, 32, .rc, .B, 0x0, .any⟩]⟩]

/-- Registers of the TDM block. -/
def regsTdm : List RegDef := [
  ⟨"TDM_ROLE", 0x140F000, [], false,
    [⟨"ROLE", 0, 2, .rw, .W, 0x0, .enum 2⟩, ⟨"PROMOTE", 2, 2, .rw, .W, 0x0, .enum 2⟩, ⟨"FORCE_SHADOW", 4, 1, .rw, .W, 0x1, .any⟩, ⟨"PROMOTE_NOW", 5, 1, .wo, .W, 0x0, .any⟩, ⟨"WITNESS", 8, 4, .rw, .W, 0x1, .range 1 15⟩]⟩,
  ⟨"TDM_CLAIM", 0x140F004, [], false,
    [⟨"CLAIM", 0, 16, .rw, .W, 0x0, .any⟩]⟩,
  ⟨"TDM_STATE", 0x140F008, [], false,
    [⟨"ROLE", 0, 2, .ro, .W, 0x0, .any⟩, ⟨"PAIR", 2, 2, .ro, .W, 0x0, .any⟩, ⟨"ADRIFT", 4, 1, .ro, .W, 0x0, .any⟩, ⟨"DIVERGED", 5, 1, .ro, .W, 0x0, .any⟩]⟩,
  ⟨"TDM_TIMING", 0x140F00C, [], false,
    [⟨"WAIT", 0, 14, .rw, .W, 0x7D0, .range 100 10000⟩, ⟨"LOST", 16, 8, .rw, .W, 0x2, .range 1 255⟩, ⟨"DIVERGE_MAX", 24, 8, .rw, .W, 0x10, .range 1 255⟩]⟩,
  ⟨"TDM_SYNC_LEFT", 0x140F010, [], true,
    [⟨"BYTES", 0, 64, .ro, .W, 0x0, .any⟩]⟩,
  ⟨"TDM_SHOW_SKEW", 0x140F018, [], true,
    [⟨"SKEW", 0, 64, .ro, .W, 0x0, .any⟩]⟩,
  ⟨"TDM_DIGEST", 0x140F020, [], true,
    [⟨"OWN", 0, 32, .ro, .W, 0x0, .any⟩, ⟨"PARTNER", 32, 32, .ro, .W, 0x0, .any⟩]⟩,
  ⟨"TDM_MIRROR_CNT", 0x140F040, [], true,
    [⟨"COUNT", 0, 64, .rc, .W, 0x0, .any⟩]⟩,
  ⟨"TDM_RESEND_CNT", 0x140F048, [], true,
    [⟨"COUNT", 0, 64, .rc, .W, 0x0, .any⟩]⟩,
  ⟨"TDM_LATE_CNT", 0x140F050, [], true,
    [⟨"COUNT", 0, 64, .rc, .W, 0x0, .any⟩]⟩,
  ⟨"TDM_DIVERGE_CNT", 0x140F058, [], true,
    [⟨"COUNT", 0, 64, .rc, .W, 0x0, .any⟩]⟩,
  ⟨"TDM_PROMOTE_CNT", 0x140F060, [], true,
    [⟨"COUNT", 0, 64, .rc, .W, 0x0, .any⟩]⟩]

/-- Registers of the NET block (part 0). -/
def regsNet0 : List RegDef := [
  ⟨"NET_CFG", 0x1800000, [(0x10000, 8)], false,
    [⟨"MODE", 0, 3, .rw, .W, 0x0, .enum 5⟩, ⟨"IP6", 3, 1, .rw, .W, 0x0, .any⟩, ⟨"VLAN_EN", 4, 1, .rw, .W, 0x0, .any⟩, ⟨"VLAN_ID", 5, 12, .rw, .W, 0x0, .any⟩, ⟨"PCP", 17, 3, .rw, .W, 0x0, .any⟩]⟩,
  ⟨"NET_STATE", 0x1800004, [(0x10000, 8)], false,
    [⟨"LINK_UP", 0, 1, .ro, .B, 0x0, .any⟩, ⟨"PAUSE_IGNORED", 1, 1, .ro, .B, 0x0, .any⟩, ⟨"FEC_LOCK", 2, 1, .ro, .B, 0x0, .any⟩]⟩,
  ⟨"NET_MAC", 0x1800008, [(0x10000, 8)], true,
    [⟨"MAC", 0, 48, .rw, .W, 0x0, .any⟩]⟩,
  ⟨"NET_IP4", 0x1800010, [(0x10000, 8)], false,
    [⟨"IP4", 0, 32, .rw, .W, 0x0, .any⟩]⟩,
  ⟨"NET_IP6", 0x1800020, [(0x10000, 8), (0x4, 4)], false,
    [⟨"IP6", 0, 32, .rw, .W, 0x0, .any⟩]⟩,
  ⟨"NET_PAUSE", 0x1800030, [(0x10000, 8)], false,
    [⟨"WD", 0, 16, .rw, .W, 0x32, .range 0 60000⟩, ⟨"REARM", 31, 1, .wo, .W, 0x0, .any⟩]⟩,
  ⟨"NET_TS_DLY_TX", 0x1800040, [(0x10000, 8)], false,
    [⟨"DELAY", 0, 32, .ro, .B, 0x0, .any⟩]⟩,
  ⟨"NET_TS_DLY_RX", 0x1800044, [(0x10000, 8)], false,
    [⟨"DELAY", 0, 32, .ro, .B, 0x0, .any⟩]⟩,
  ⟨"NET_TS_CORR_TX", 0x1800048, [(0x10000, 8)], false,
    [⟨"CORR", 0, 32, .rw, .W, 0x0, .any⟩]⟩,
  ⟨"NET_TS_CORR_RX", 0x180004C, [(0x10000, 8)], false,
    [⟨"CORR", 0, 32, .rw, .W, 0x0, .any⟩]⟩,
  ⟨"NET_TSQ_TAG", 0x1800060, [(0x10000, 8)], false,
    [⟨"TAG", 0, 32, .ro, .B, 0x0, .any⟩]⟩,
  ⟨"NET_TSQ_1", 0x1800064, [(0x10000, 8)], false,
    [⟨"LOST", 0, 16, .ro, .B, 0x0, .any⟩, ⟨"VALID", 16, 1, .ro, .B, 0x0, .any⟩, ⟨"CLOCK", 17, 1, .ro, .B, 0x0, .any⟩]⟩,
  ⟨"NET_TSQ_2", 0x1800068, [(0x10000, 8)], false,
    [⟨"SEC_LO", 0, 32, .ro, .B, 0x0, .any⟩]⟩,
  ⟨"NET_TSQ_3", 0x180006C, [(0x10000, 8)], false,
    [⟨"SEC_HI", 0, 16, .ro, .B, 0x0, .any⟩, ⟨"FRAC", 16, 16, .ro, .B, 0x0, .any⟩]⟩,
  ⟨"NET_TSQ_4", 0x1800070, [(0x10000, 8)], false,
    [⟨"NS", 0, 30, .ro, .B, 0x0, .any⟩]⟩,
  ⟨"NET_RULE", 0x1800100, [(0x10000, 8)], true,
    [⟨"ETHERTYPE", 0, 16, .rw, .W, 0x0, .any⟩, ⟨"UDP_PORT", 16, 16, .rw, .W, 0x13F, .any⟩, ⟨"PCP", 32, 3, .rw, .W, 0x0, .any⟩, ⟨"PCP_EN", 35, 1, .rw, .W, 0x0, .any⟩, ⟨"EN", 36, 1, .rw, .W, 0x1, .any⟩, ⟨"QUEUE", 37, 3, .rw, .W, 0x7, .any⟩, ⟨"DROP", 40, 1, .rw, .W, 0x0, .any⟩, ⟨"CLOCK", 41, 1, .rw, .W, 0x0, .any⟩]⟩,
  ⟨"NET_RULE", 0x1800108, [(0x10000, 8)], true,
    [⟨"ETHERTYPE", 0, 16, .rw, .W, 0x0, .any⟩, ⟨"UDP_PORT", 16, 16, .rw, .W, 0x140, .any⟩, ⟨"PCP", 32, 3, .rw, .W, 0x0, .any⟩, ⟨"PCP_EN", 35, 1, .rw, .W, 0x0, .any⟩, ⟨"EN", 36, 1, .rw, .W, 0x1, .any⟩, ⟨"QUEUE", 37, 3, .rw, .W, 0x6, .any⟩, ⟨"DROP", 40, 1, .rw, .W, 0x0, .any⟩, ⟨"CLOCK", 41, 1, .rw, .W, 0x0, .any⟩]⟩,
  ⟨"NET_RULE", 0x1800110, [(0x10000, 8)], true,
    [⟨"ETHERTYPE", 0, 16, .rw, .W, 0x0, .any⟩, ⟨"UDP_PORT", 16, 16, .rw, .W, 0x15C0, .any⟩, ⟨"PCP", 32, 3, .rw, .W, 0x0, .any⟩, ⟨"PCP_EN", 35, 1, .rw, .W, 0x0, .any⟩, ⟨"EN", 36, 1, .rw, .W, 0x1, .any⟩, ⟨"QUEUE", 37, 3, .rw, .W, 0x2, .any⟩, ⟨"DROP", 40, 1, .rw, .W, 0x0, .any⟩, ⟨"CLOCK", 41, 1, .rw, .W, 0x0, .any⟩]⟩,
  ⟨"NET_RULE", 0x1800118, [(0x10000, 8), (0x8, 13)], true,
    [⟨"ETHERTYPE", 0, 16, .rw, .W, 0x0, .any⟩, ⟨"UDP_PORT", 16, 16, .rw, .W, 0x0, .any⟩, ⟨"PCP", 32, 3, .rw, .W, 0x0, .any⟩, ⟨"PCP_EN", 35, 1, .rw, .W, 0x0, .any⟩, ⟨"EN", 36, 1, .rw, .W, 0x0, .any⟩, ⟨"QUEUE", 37, 3, .rw, .W, 0x0, .any⟩, ⟨"DROP", 40, 1, .rw, .W, 0x0, .any⟩, ⟨"CLOCK", 41, 1, .rw, .W, 0x0, .any⟩]⟩,
  ⟨"NET_SACN_CTRL", 0x1800200, [(0x10000, 8)], false,
    [⟨"EN", 0, 1, .rw, .W, 0x0, .any⟩, ⟨"DISC_EN", 1, 1, .rw, .W, 0x1, .any⟩, ⟨"PRIORITY", 2, 8, .rw, .W, 0x64, .range 1 199⟩, ⟨"MAX_RATE", 10, 8, .rw, .W, 0x2C, .range 1 240⟩]⟩,
  ⟨"NET_SACN_RANGE", 0x1800204, [(0x10000, 8)], false,
    [⟨"LO", 0, 16, .rw, .W, 0x0, .range 0 63999⟩, ⟨"HI", 16, 16, .rw, .W, 0x0, .range 0 63999⟩]⟩,
  ⟨"NET_SACN_SYNC", 0x1800208, [(0x10000, 8)], false,
    [⟨"UNIV", 0, 16, .rw, .W, 0x0, .range 0 63999⟩]⟩,
  ⟨"NET_SACN_LEAD", 0x180020C, [(0x10000, 8)], false,
    [⟨"SACN_LEAD", 0, 20, .rw, .W, 0x2710, .range 100 1000000⟩]⟩,
  ⟨"NET_SACN_ADV", 0x1800210, [(0x10000, 8)], false,
    [⟨"SYNC_ADVANCE", 0, 14, .rw, .W, 0x0, .range 0 10000⟩]⟩]

/-- Registers of the NET block (part 1). -/
def regsNet1 : List RegDef := [
  ⟨"NET_SACN_STATUS", 0x1800214, [(0x10000, 8)], false,
    [⟨"ADMITTED", 0, 15, .ro, .B, 0x0, .any⟩, ⟨"OVERLOAD", 15, 1, .ro, .B, 0x0, .any⟩]⟩,
  ⟨"NET_TXQ_BASE", 0x1800300, [(0x10000, 8), (0x10, 8)], false,
    [⟨"EN", 0, 1, .rw, .W, 0x0, .any⟩, ⟨"OFFSET", 13, 19, .rw, .W, 0x0, .any⟩]⟩,
  ⟨"NET_TXQ_PTR", 0x1800304, [(0x10000, 8), (0x10, 8)], false,
    [⟨"TAIL", 0, 8, .rw, .W, 0x0, .any⟩, ⟨"HEAD", 16, 8, .ro, .W, 0x0, .any⟩]⟩,
  ⟨"NET_RXQ_BASE", 0x1800380, [(0x10000, 8), (0x10, 8)], false,
    [⟨"EN", 0, 1, .rw, .W, 0x0, .any⟩, ⟨"OFFSET", 13, 19, .rw, .W, 0x0, .any⟩]⟩,
  ⟨"NET_RXQ_PTR", 0x1800384, [(0x10000, 8), (0x10, 8)], false,
    [⟨"TAIL", 0, 8, .rw, .W, 0x0, .any⟩, ⟨"HEAD", 16, 8, .ro, .W, 0x0, .any⟩]⟩,
  ⟨"NET_RX_FRAME_CNT", 0x1800400, [(0x10000, 8)], true,
    [⟨"COUNT", 0, 64, .rc, .B, 0x0, .any⟩]⟩,
  ⟨"NET_RX_BYTE_CNT", 0x1800408, [(0x10000, 8)], true,
    [⟨"COUNT", 0, 64, .rc, .B, 0x0, .any⟩]⟩,
  ⟨"NET_RX_FCS_ERR_CNT", 0x1800410, [(0x10000, 8)], true,
    [⟨"COUNT", 0, 64, .rc, .B, 0x0, .any⟩]⟩,
  ⟨"NET_RX_SIZE_ERR_CNT", 0x1800418, [(0x10000, 8)], true,
    [⟨"COUNT", 0, 64, .rc, .B, 0x0, .any⟩]⟩,
  ⟨"NET_RX_DROP_CNT", 0x1800420, [(0x10000, 8)], true,
    [⟨"COUNT", 0, 64, .rc, .B, 0x0, .any⟩]⟩,
  ⟨"NET_RX_NODESC_CNT", 0x1800428, [(0x10000, 8)], true,
    [⟨"COUNT", 0, 64, .rc, .B, 0x0, .any⟩]⟩,
  ⟨"NET_RX_RULE_DROP_CNT", 0x1800430, [(0x10000, 8)], true,
    [⟨"COUNT", 0, 64, .rc, .B, 0x0, .any⟩]⟩,
  ⟨"NET_TX_FRAME_CNT", 0x1800438, [(0x10000, 8)], true,
    [⟨"COUNT", 0, 64, .rc, .B, 0x0, .any⟩]⟩,
  ⟨"NET_TX_BYTE_CNT", 0x1800440, [(0x10000, 8)], true,
    [⟨"COUNT", 0, 64, .rc, .B, 0x0, .any⟩]⟩,
  ⟨"NET_TX_BAD_CNT", 0x1800448, [(0x10000, 8)], true,
    [⟨"COUNT", 0, 64, .rc, .B, 0x0, .any⟩]⟩,
  ⟨"NET_TX_DROP_CNT", 0x1800450, [(0x10000, 8)], true,
    [⟨"COUNT", 0, 64, .rc, .B, 0x0, .any⟩]⟩,
  ⟨"NET_PAUSE_RX_CNT", 0x1800458, [(0x10000, 8)], true,
    [⟨"COUNT", 0, 64, .rc, .B, 0x0, .any⟩]⟩,
  ⟨"NET_TSQ_LOST_CNT", 0x1800460, [(0x10000, 8)], true,
    [⟨"COUNT", 0, 64, .rc, .B, 0x0, .any⟩]⟩,
  ⟨"NET_SACN_DATA_CNT", 0x1800468, [(0x10000, 8)], true,
    [⟨"COUNT", 0, 64, .rc, .B, 0x0, .any⟩]⟩,
  ⟨"NET_SACN_STALE_CNT", 0x1800470, [(0x10000, 8)], true,
    [⟨"COUNT", 0, 64, .rc, .B, 0x0, .any⟩]⟩,
  ⟨"NET_SYNC_LATE_CNT", 0x1800478, [(0x10000, 8)], true,
    [⟨"COUNT", 0, 64, .rc, .B, 0x0, .any⟩]⟩,
  ⟨"NET_SACN_CID", 0x180F000, [(0x4, 4)], false,
    [⟨"CID", 0, 32, .rw, .W, 0x0, .any⟩]⟩,
  ⟨"NET_SACN_NAME", 0x180F040, [(0x4, 16)], false,
    [⟨"NAME", 0, 32, .rw, .W, 0x0, .any⟩]⟩]

/-- Registers of the LINE block. -/
def regsLine : List RegDef := [
  ⟨"LINE_CFG", 0x1C01000, [(0x200, 16)], false,
    [⟨"EN", 0, 1, .rw, .W, 0x0, .any⟩, ⟨"RDM_EN", 1, 1, .rw, .W, 0x0, .any⟩, ⟨"DE_POL", 2, 1, .rw, .W, 0x1, .any⟩, ⟨"SLOTS", 3, 10, .rw, .W, 0x200, .range 1 512⟩]⟩,
  ⟨"LINE_TIMING", 0x1C01004, [(0x200, 16)], false,
    [⟨"BREAK", 0, 10, .rw, .W, 0xB0, .range 92 1000⟩, ⟨"MAB", 10, 10, .rw, .W, 0xC, .range 12 1000⟩, ⟨"MTBS", 20, 8, .rw, .W, 0x0, .any⟩]⟩,
  ⟨"LINE_STATE", 0x1C01008, [(0x200, 16)], false,
    [⟨"PHASE", 0, 2, .ro, .B, 0x0, .any⟩, ⟨"RDM_BUSY", 2, 1, .ro, .B, 0x0, .any⟩]⟩,
  ⟨"LINE_RDM_CTRL", 0x1C01010, [(0x200, 16)], false,
    [⟨"LENGTH", 0, 8, .rw, .B, 0x0, .range 24 255⟩, ⟨"DISC", 8, 1, .rw, .B, 0x0, .any⟩, ⟨"NO_RESP", 9, 1, .rw, .B, 0x0, .any⟩, ⟨"QB", 10, 5, .rw, .B, 0x0, .any⟩, ⟨"GO", 31, 1, .wo, .B, 0x0, .any⟩]⟩,
  ⟨"LINE_RDM_TAG", 0x1C01014, [(0x200, 16)], false,
    [⟨"TAG", 0, 32, .rw, .B, 0x0, .any⟩]⟩,
  ⟨"LINE_DMX_CNT", 0x1C01020, [(0x200, 16)], true,
    [⟨"COUNT", 0, 64, .rc, .B, 0x0, .any⟩]⟩,
  ⟨"LINE_STALE_CNT", 0x1C01028, [(0x200, 16)], true,
    [⟨"COUNT", 0, 64, .rc, .B, 0x0, .any⟩]⟩,
  ⟨"LINE_RDM_CNT", 0x1C01030, [(0x200, 16)], true,
    [⟨"ALL", 0, 32, .rc, .B, 0x0, .any⟩, ⟨"BAD", 32, 32, .rc, .B, 0x0, .any⟩]⟩,
  ⟨"LINE_RDM_LOST_CNT", 0x1C01038, [(0x200, 16)], true,
    [⟨"COUNT", 0, 64, .rc, .B, 0x0, .any⟩]⟩,
  ⟨"LINE_RDM_DATA", 0x1C01040, [(0x200, 16), (0x4, 64)], false,
    [⟨"BYTES", 0, 32, .rw, .B, 0x0, .any⟩]⟩]

/-- Registers of the MTR block (part 0). -/
def regsMtr0 : List RegDef := [
  ⟨"MTR_CFG", 0x2000000, [], false,
    [⟨"EN", 0, 1, .rw, .G, 0x0, .any⟩, ⟨"MODCLK", 1, 2, .rw, .G, 0x0, .enum 2⟩, ⟨"NOMINAL", 3, 1, .rw, .G, 0x0, .any⟩]⟩,
  ⟨"MTR_SAVE", 0x2000004, [], false,
    [⟨"SAVE_PERIOD", 0, 12, .rw, .G, 0x3C, .range 1 3600⟩, ⟨"MNV_BASE", 16, 12, .rw, .G, 0x0, .any⟩]⟩,
  ⟨"MTR_STATE", 0x2000008, [], false,
    [⟨"SAVE_LOST", 0, 1, .w1c, .G, 0x0, .any⟩, ⟨"NO_RECORD", 1, 1, .w1c, .G, 0x0, .any⟩, ⟨"SAVING", 2, 1, .ro, .G, 0x0, .any⟩, ⟨"PF_DONE", 3, 1, .ro, .G, 0x0, .any⟩, ⟨"SLOT", 4, 1, .ro, .G, 0x0, .any⟩]⟩,
  ⟨"MTR_SEQ", 0x200000C, [], false,
    [⟨"SEQ", 0, 32, .ro, .G, 0x0, .any⟩]⟩,
  ⟨"MTR_DELAY", 0x2000010, [], false,
    [⟨"NS", 0, 24, .ro, .G, 0x0, .any⟩]⟩,
  ⟨"MTR_BOUND_TOTAL", 0x2000018, [], true,
    [⟨"VALUE", 0, 64, .ro, .G, 0x0, .any⟩]⟩,
  ⟨"MTR_SAVE_CNT", 0x2000020, [], true,
    [⟨"VALUE", 0, 64, .rc, .G, 0x0, .any⟩]⟩,
  ⟨"MTR_SAVE_FAIL_CNT", 0x2000028, [], true,
    [⟨"VALUE", 0, 64, .rc, .G, 0x0, .any⟩]⟩,
  ⟨"MTR_V_CFG", 0x2000400, [(0x20, 8)], false,
    [⟨"EN", 0, 1, .rw, .G, 0x0, .any⟩]⟩,
  ⟨"MTR_V_GAIN_V", 0x2000404, [(0x20, 8)], false,
    [⟨"GAIN", 0, 32, .rw, .G, 0x0, .any⟩]⟩,
  ⟨"MTR_V_PHASE", 0x2000408, [(0x20, 8)], false,
    [⟨"PHASE", 0, 8, .rw, .G, 0x0, .any⟩]⟩,
  ⟨"MTR_V_VRMS", 0x200040C, [(0x20, 8)], false,
    [⟨"VRMS", 0, 32, .ro, .G, 0x0, .any⟩]⟩,
  ⟨"MTR_V_FREQ", 0x2000410, [(0x20, 8)], false,
    [⟨"FREQ", 0, 32, .ro, .G, 0x0, .any⟩]⟩,
  ⟨"MTR_V_STATUS", 0x2000414, [(0x20, 8)], false,
    [⟨"CYCLE_VALID", 0, 1, .ro, .G, 0x0, .any⟩, ⟨"INPUT_FAULT", 1, 1, .ro, .G, 0x0, .any⟩]⟩,
  ⟨"MTR_PULSE_CFG", 0x2000800, [(0x20, 16)], false,
    [⟨"EN", 0, 1, .rw, .G, 0x0, .any⟩, ⟨"QTY", 1, 3, .rw, .G, 0x0, .enum 4⟩, ⟨"POL", 4, 1, .rw, .G, 0x1, .any⟩, ⟨"WIDTH", 8, 8, .rw, .G, 0xA, .range 1 250⟩]⟩,
  ⟨"MTR_PULSE_QUANTUM", 0x2000804, [(0x20, 16)], false,
    [⟨"QUANTUM", 0, 32, .rw, .G, 0xF4240, .range 1 4294967295⟩]⟩,
  ⟨"MTR_PULSE_MASK", 0x2000808, [(0x20, 16), (0x4, 3)], false,
    [⟨"MASK", 0, 32, .rw, .G, 0x0, .any⟩]⟩,
  ⟨"MTR_PULSE_PENDING", 0x2000814, [(0x20, 16)], false,
    [⟨"COUNT", 0, 16, .ro, .G, 0x0, .any⟩]⟩,
  ⟨"MTR_PULSE_REMAINDER", 0x2000818, [(0x20, 16)], true,
    [⟨"R", 0, 64, .ro, .G, 0x0, .any⟩]⟩,
  ⟨"MTR_CH_CFG", 0x2001000, [(0x100, 96)], false,
    [⟨"EN", 0, 1, .rw, .G, 0x0, .any⟩, ⟨"VSEL", 1, 3, .rw, .G, 0x0, .any⟩, ⟨"SMALL", 4, 2, .rw, .G, 0x0, .any⟩]⟩,
  ⟨"MTR_CH_GAIN_I", 0x2001004, [(0x100, 96)], false,
    [⟨"GAIN", 0, 32, .rw, .G, 0x0, .any⟩]⟩,
  ⟨"MTR_CH_PHASE", 0x2001008, [(0x100, 96)], false,
    [⟨"PHASE", 0, 8, .rw, .G, 0x0, .any⟩]⟩,
  ⟨"MTR_CH_NOLOAD", 0x200100C, [(0x100, 96)], false,
    [⟨"VA", 0, 32, .rw, .G, 0x0, .any⟩]⟩,
  ⟨"MTR_CH_PMAX", 0x2001010, [(0x100, 96)], false,
    [⟨"VA", 0, 32, .rw, .G, 0x0, .any⟩]⟩]

/-- Registers of the MTR block (part 1). -/
def regsMtr1 : List RegDef := [
  ⟨"MTR_CH_STATUS", 0x2001014, [(0x100, 96)], false,
    [⟨"GAIN", 0, 2, .ro, .G, 0x0, .any⟩, ⟨"INPUT_FAULT", 2, 1, .ro, .G, 0x0, .any⟩, ⟨"NOVOLT", 3, 1, .ro, .G, 0x0, .any⟩, ⟨"NOLOAD_NOW", 4, 1, .ro, .G, 0x0, .any⟩, ⟨"RELOADED", 5, 1, .w1c, .G, 0x0, .any⟩]⟩,
  ⟨"MTR_CH_IRMS", 0x2001018, [(0x100, 96)], false,
    [⟨"A", 0, 32, .ro, .G, 0x0, .any⟩]⟩,
  ⟨"MTR_CH_P", 0x200101C, [(0x100, 96)], false,
    [⟨"W", 0, 32, .ro, .G, 0x0, .any⟩]⟩,
  ⟨"MTR_CH_Q", 0x2001020, [(0x100, 96)], false,
    [⟨"VAR", 0, 32, .ro, .G, 0x0, .any⟩]⟩,
  ⟨"MTR_CH_S", 0x2001024, [(0x100, 96)], false,
    [⟨"VA", 0, 32, .ro, .G, 0x0, .any⟩]⟩,
  ⟨"MTR_CH_ACC", 0x2001040, [(0x100, 96), (0x8, 10)], true,
    [⟨"UWH", 0, 64, .ro, .G, 0x0, .any⟩]⟩,
  ⟨"MTR_CH_CLIP_CNT", 0x2001090, [(0x100, 96)], true,
    [⟨"COUNT", 0, 64, .rc, .G, 0x0, .any⟩]⟩,
  ⟨"MTR_CH_NOLOAD_CYC_CNT", 0x2001098, [(0x100, 96)], true,
    [⟨"COUNT", 0, 64, .rc, .G, 0x0, .any⟩]⟩,
  ⟨"MTR_CH_GAIN_SWITCH_CNT", 0x20010A0, [(0x100, 96)], true,
    [⟨"COUNT", 0, 64, .rc, .G, 0x0, .any⟩]⟩]

/-- Registers of the FLY block. -/
def regsFly : List RegDef := [
  ⟨"FLY_BUSY", 0x2100000, [], false,
    [⟨"CHAN", 0, 32, .ro, .W, 0x0, .any⟩]⟩,
  ⟨"FLY_BURSTS_ISSUED", 0x2100008, [], true,
    [⟨"COUNT", 0, 64, .ro, .W, 0x0, .any⟩]⟩,
  ⟨"FLY_BURSTS_RETIRED", 0x2100010, [], true,
    [⟨"COUNT", 0, 64, .ro, .W, 0x0, .any⟩]⟩,
  ⟨"FLY_BURSTS_OPEN", 0x2100018, [], false,
    [⟨"COUNT", 0, 6, .ro, .W, 0x0, .any⟩]⟩,
  ⟨"FLY_SRC", 0x2101000, [(0x100, 32)], true,
    [⟨"ADDR", 0, 64, .rw, .W, 0x0, .any⟩]⟩,
  ⟨"FLY_DST", 0x2101008, [(0x100, 32)], true,
    [⟨"ADDR", 0, 64, .rw, .W, 0x0, .any⟩]⟩,
  ⟨"FLY_COUNT", 0x2101010, [(0x100, 32)], false,
    [⟨"COUNT", 0, 32, .rw, .W, 0x0, .any⟩]⟩,
  ⟨"FLY_CFG", 0x2101014, [(0x100, 32)], false,
    [⟨"SRC_W", 0, 3, .rw, .W, 0x2, .enum 4⟩, ⟨"DST_W", 3, 3, .rw, .W, 0x2, .enum 4⟩, ⟨"MODE", 6, 1, .rw, .W, 0x0, .any⟩, ⟨"SRC_FIX", 7, 1, .rw, .W, 0x0, .any⟩, ⟨"DST_FIX", 8, 1, .rw, .W, 0x0, .any⟩, ⟨"SRC_SPACE", 9, 3, .rw, .W, 0x2, .enum 4⟩, ⟨"DST_SPACE", 12, 3, .rw, .W, 0x2, .enum 4⟩, ⟨"IDX_OBJ", 15, 1, .rw, .W, 0x0, .any⟩, ⟨"ELEM", 16, 8, .rw, .W, 0x1, .range 1 255⟩, ⟨"WIN_LOG2", 24, 5, .rw, .W, 0x0, .any⟩, ⟨"EVT", 29, 1, .rw, .W, 0x0, .any⟩]⟩,
  ⟨"FLY_IDX_BASE", 0x2101018, [(0x100, 32)], false,
    [⟨"BASE", 0, 32, .rw, .W, 0x0, .any⟩]⟩,
  ⟨"FLY_IDX_COUNT", 0x210101C, [(0x100, 32)], false,
    [⟨"COUNT", 0, 24, .rw, .W, 0x0, .any⟩]⟩,
  ⟨"FLY_CTRL", 0x2101020, [(0x100, 32)], false,
    [⟨"START", 0, 1, .wo, .W, 0x0, .any⟩, ⟨"ABORT", 1, 1, .wo, .W, 0x0, .any⟩]⟩,
  ⟨"FLY_STATUS", 0x2101024, [(0x100, 32)], false,
    [⟨"STATE", 0, 3, .ro, .W, 0x0, .any⟩, ⟨"ERR", 3, 4, .ro, .W, 0x0, .any⟩, ⟨"OVLP", 7, 1, .ro, .W, 0x0, .any⟩, ⟨"DESC", 8, 1, .ro, .W, 0x0, .any⟩, ⟨"POISON", 9, 1, .ro, .W, 0x0, .any⟩, ⟨"VBYTES", 10, 5, .ro, .W, 0x0, .any⟩, ⟨"HELD", 16, 9, .ro, .W, 0x0, .any⟩]⟩,
  ⟨"FLY_RESIDUE", 0x2101028, [(0x100, 32)], false,
    [⟨"COUNT", 0, 32, .ro, .W, 0x0, .any⟩]⟩,
  ⟨"FLY_WRITTEN", 0x210102C, [(0x100, 32)], false,
    [⟨"COUNT", 0, 32, .ro, .W, 0x0, .any⟩]⟩]

/-- Registers of the QB block. -/
def regsQb : List RegDef := [
  ⟨"QB_RD_STALL", 0x2200000, [], false,
    [⟨"NS", 0, 14, .rw, .W, 0x3E8, .range 0 10000⟩]⟩,
  ⟨"QB_CFG", 0x2201000, [(0x100, 32)], false,
    [⟨"WRITER", 0, 1, .rw, .W, 0x0, .any⟩, ⟨"CT_EN", 1, 1, .rw, .W, 0x0, .any⟩, ⟨"CT_THRESH", 2, 8, .rw, .W, 0x0, .any⟩]⟩,
  ⟨"QB_DATA8", 0x2201010, [(0x100, 32)], false,
    [⟨"DATA", 0, 8, .wo, .W, 0x0, .any⟩]⟩,
  ⟨"QB_DATA16", 0x2201014, [(0x100, 32)], false,
    [⟨"DATA", 0, 16, .wo, .W, 0x0, .any⟩]⟩,
  ⟨"QB_DATA32", 0x2201018, [(0x100, 32)], false,
    [⟨"DATA", 0, 32, .wo, .W, 0x0, .any⟩]⟩,
  ⟨"QB_LAST8", 0x2201020, [(0x100, 32)], false,
    [⟨"DATA", 0, 8, .wo, .W, 0x0, .any⟩]⟩,
  ⟨"QB_LAST16", 0x2201024, [(0x100, 32)], false,
    [⟨"DATA", 0, 16, .wo, .W, 0x0, .any⟩]⟩,
  ⟨"QB_LAST32", 0x2201028, [(0x100, 32)], false,
    [⟨"DATA", 0, 32, .wo, .W, 0x0, .any⟩]⟩,
  ⟨"QB_FLUSH", 0x2201030, [(0x100, 32)], false,
    [⟨"GO", 0, 1, .wo, .W, 0x0, .any⟩]⟩,
  ⟨"QB_STATE", 0x2201034, [(0x100, 32)], false,
    [⟨"LEVEL", 0, 9, .ro, .W, 0x0, .any⟩, ⟨"FULL", 9, 1, .ro, .W, 0x0, .any⟩, ⟨"OVERRUN", 10, 1, .w1c, .W, 0x0, .any⟩, ⟨"WR_REFUSED", 11, 1, .w1c, .W, 0x0, .any⟩, ⟨"OPEN", 12, 1, .ro, .W, 0x0, .any⟩]⟩,
  ⟨"QB_FREE", 0x2201038, [(0x100, 32)], false,
    [⟨"FREE", 0, 9, .ro, .W, 0x100, .any⟩]⟩,
  ⟨"QB_RD_TAG", 0x2201040, [(0x100, 32)], false,
    [⟨"VBYTES", 0, 5, .ro, .W, 0x0, .any⟩, ⟨"FIRST", 5, 1, .ro, .W, 0x0, .any⟩, ⟨"LAST", 6, 1, .ro, .W, 0x0, .any⟩, ⟨"GAP", 7, 1, .ro, .W, 0x0, .any⟩, ⟨"VALID", 8, 1, .ro, .W, 0x0, .any⟩]⟩,
  ⟨"QB_RD_DATA", 0x2201044, [(0x100, 32), (0x4, 4)], false,
    [⟨"DATA", 0, 32, .ro, .W, 0x0, .any⟩]⟩,
  ⟨"QB_ITEM_CNT", 0x2201060, [(0x100, 32)], true,
    [⟨"COUNT", 0, 64, .rc, .W, 0x0, .any⟩]⟩,
  ⟨"QB_IGNORED_CNT", 0x2201068, [(0x100, 32)], true,
    [⟨"COUNT", 0, 64, .rc, .W, 0x0, .any⟩]⟩,
  ⟨"QB_FLUSH_CNT", 0x2201070, [(0x100, 32)], true,
    [⟨"COUNT", 0, 64, .rc, .W, 0x0, .any⟩]⟩]

/-- Registers of the CHK block. -/
def regsChk : List RegDef := [
  ⟨"CHK_CFG", 0x2301000, [(0x40, 16)], false,
    [⟨"PRESET", 0, 3, .rw, .W, 0x2, .enum 4⟩, ⟨"WIDTH", 8, 6, .rw, .W, 0x20, .range 8 32⟩, ⟨"REFIN", 14, 1, .rw, .W, 0x1, .any⟩, ⟨"REFOUT", 15, 1, .rw, .W, 0x1, .any⟩]⟩,
  ⟨"CHK_POLY", 0x2301004, [(0x40, 16)], false,
    [⟨"POLY", 0, 32, .rw, .W, 0x1EDC6F41, .any⟩]⟩,
  ⟨"CHK_INIT", 0x2301008, [(0x40, 16)], false,
    [⟨"INIT", 0, 32, .rw, .W, 0xFFFFFFFF, .any⟩]⟩,
  ⟨"CHK_XOROUT", 0x230100C, [(0x40, 16)], false,
    [⟨"XOROUT", 0, 32, .rw, .W, 0xFFFFFFFF, .any⟩]⟩,
  ⟨"CHK_CRC", 0x2301010, [(0x40, 16)], false,
    [⟨"CRC", 0, 32, .rw, .W, 0x0, .any⟩]⟩,
  ⟨"CHK_RESULT", 0x2301014, [(0x40, 16)], false,
    [⟨"RESULT", 0, 32, .ro, .W, 0x0, .any⟩]⟩,
  ⟨"CHK_DATA8", 0x2301018, [(0x40, 16)], false,
    [⟨"DATA", 0, 8, .wo, .W, 0x0, .any⟩]⟩,
  ⟨"CHK_DATA16", 0x230101C, [(0x40, 16)], false,
    [⟨"DATA", 0, 16, .wo, .W, 0x0, .any⟩]⟩,
  ⟨"CHK_DATA32", 0x2301020, [(0x40, 16)], false,
    [⟨"DATA", 0, 32, .wo, .W, 0x0, .any⟩]⟩,
  ⟨"CHK_CTRL", 0x2301024, [(0x40, 16)], false,
    [⟨"INIT", 0, 1, .wo, .W, 0x0, .any⟩, ⟨"ALIVE_RESET", 1, 1, .wo, .W, 0x0, .any⟩]⟩,
  ⟨"CHK_POS", 0x2301028, [(0x40, 16)], false,
    [⟨"POS", 0, 16, .rw, .W, 0x0, .any⟩]⟩,
  ⟨"CHK_ALIVE_CFG", 0x230102C, [(0x40, 16)], false,
    [⟨"EN", 0, 1, .rw, .W, 0x0, .any⟩, ⟨"WIDTH8", 1, 1, .rw, .W, 0x1, .any⟩, ⟨"NIBBLE", 2, 1, .rw, .W, 0x0, .any⟩, ⟨"BYTE", 4, 10, .rw, .W, 0x0, .any⟩, ⟨"INC", 14, 8, .rw, .W, 0x1, .any⟩]⟩,
  ⟨"CHK_ALIVE_STATE", 0x2301030, [(0x40, 16)], false,
    [⟨"L", 0, 8, .rw, .W, 0x0, .any⟩, ⟨"HAVE", 8, 1, .rw, .W, 0x0, .any⟩, ⟨"RESULT", 9, 2, .ro, .W, 0x0, .any⟩]⟩,
  ⟨"CHK_ALIVE_CNT", 0x2301034, [(0x40, 16)], false,
    [⟨"REPEAT_CNT", 0, 16, .rc, .W, 0x0, .any⟩, ⟨"SKIP_CNT", 16, 16, .rc, .W, 0x0, .any⟩]⟩]

/-- Registers of the PWR block. -/
def regsPwr : List RegDef := [
  ⟨"PWR_STATE", 0x2400000, [], false,
    [⟨"STATE", 0, 3, .ro, .C, 0x0, .any⟩, ⟨"TARGET", 3, 3, .ro, .C, 0x0, .any⟩, ⟨"PHASE", 6, 2, .ro, .C, 0x0, .any⟩, ⟨"RET_FAULT", 8, 1, .ro, .C, 0x0, .any⟩]⟩,
  ⟨"PWR_TIMING", 0x2400004, [], false,
    [⟨"DRAIN", 0, 10, .rw, .W, 0x64, .range 1 1000⟩, ⟨"ACK_TIMEOUT", 16, 8, .rw, .W, 0xA, .range 1 255⟩]⟩,
  ⟨"PWR_AVS", 0x2400008, [], false,
    [⟨"RUN_MV", 0, 10, .rw, .W, 0x2EE, .range 650 850⟩, ⟨"IDLE_MV", 16, 10, .rw, .W, 0x28A, .range 650 850⟩]⟩,
  ⟨"PWR_WAKE_EN", 0x240000C, [], false,
    [⟨"EN", 0, 7, .rw, .W, 0x7F, .any⟩]⟩,
  ⟨"PWR_WAKE_PEND", 0x2400010, [], false,
    [⟨"PEND", 0, 7, .w1c, .C, 0x0, .any⟩]⟩,
  ⟨"PWR_WAKE", 0x2400014, [], false,
    [⟨"GO", 0, 1, .wo, .W, 0x0, .any⟩]⟩,
  ⟨"PWR_WAKE_TIME", 0x2400018, [], true,
    [⟨"RTC", 0, 64, .rw, .W, 0x0, .any⟩]⟩,
  ⟨"PWR_LAST_EXIT", 0x2400020, [], false,
    [⟨"SOURCES", 0, 7, .ro, .C, 0x0, .any⟩, ⟨"ACK_FAIL", 7, 1, .ro, .C, 0x0, .any⟩, ⟨"FROM", 8, 3, .ro, .C, 0x0, .any⟩]⟩,
  ⟨"PWR_RET_BANK", 0x2400024, [], false,
    [⟨"BANK", 0, 8, .ro, .C, 0x0, .any⟩]⟩,
  ⟨"PWR_ENTRY_CNT", 0x2400040, [], true,
    [⟨"COUNT", 0, 64, .rc, .C, 0x0, .any⟩]⟩,
  ⟨"PWR_ABORT_CNT", 0x2400048, [], true,
    [⟨"COUNT", 0, 64, .rc, .C, 0x0, .any⟩]⟩,
  ⟨"PWR_ACK_FAIL_CNT", 0x2400050, [], true,
    [⟨"COUNT", 0, 64, .rc, .C, 0x0, .any⟩]⟩,
  ⟨"PWR_RET_FAULT_CNT", 0x2400058, [], true,
    [⟨"COUNT", 0, 64, .rc, .C, 0x0, .any⟩]⟩,
  ⟨"PWR_CALLS_DROPPED_CNT", 0x2400060, [], true,
    [⟨"COUNT", 0, 64, .rc, .C, 0x0, .any⟩]⟩]

/-- Registers of the GL block. -/
def regsGl : List RegDef := [
  ⟨"GL_RTC", 0x2480000, [], true,
    [⟨"COUNT", 0, 64, .ro, .G, 0x0, .any⟩]⟩,
  ⟨"GL_DARK_PERIOD", 0x2480008, [], false,
    [⟨"MS", 0, 16, .rw, .W, 0x3E8, .range 1 60000⟩]⟩,
  ⟨"GL_DARK_SAMPLE", 0x248000C, [], false,
    [⟨"MS", 0, 16, .rw, .W, 0x28, .range 1 10000⟩]⟩,
  ⟨"GL_DARK_CFG", 0x2480010, [], false,
    [⟨"CU_KEEP", 0, 1, .rw, .W, 0x0, .any⟩, ⟨"TEMP_MAX", 8, 8, .rw, .W, 0x5F, .range 50 125⟩, ⟨"TEMP_ACTION", 16, 2, .rw, .W, 0x2, .enum 2⟩]⟩,
  ⟨"GL_TEMP", 0x2480014, [], false,
    [⟨"TEMP", 0, 16, .ro, .C, 0x0, .any⟩]⟩,
  ⟨"GL_DARK_LAST", 0x2480018, [], false,
    [⟨"CHANNEL", 0, 7, .ro, .C, 0x0, .any⟩]⟩,
  ⟨"GL_WINDOW_CNT", 0x2480040, [], true,
    [⟨"COUNT", 0, 64, .rc, .C, 0x0, .any⟩]⟩,
  ⟨"GL_SRAM_CE_CNT", 0x2480048, [], true,
    [⟨"COUNT", 0, 64, .ro, .G, 0x0, .any⟩]⟩,
  ⟨"GL_SRAM_UE_CNT", 0x2480050, [], true,
    [⟨"COUNT", 0, 64, .ro, .G, 0x0, .any⟩]⟩,
  ⟨"GL_EVT_LOST_CNT", 0x2480058, [], true,
    [⟨"COUNT", 0, 64, .rc, .C, 0x0, .any⟩]⟩,
  ⟨"GL_DARK_CH", 0x2480100, [(0x8, 96)], true,
    [⟨"THRESHOLD", 0, 32, .rw, .W, 0x4B189680, .pos32⟩, ⟨"ACTION", 32, 2, .rw, .W, 0x0, .enum 2⟩]⟩]

/-- Registers of the EVT block. -/
def regsEvt : List RegDef := [
  ⟨"EVT_LEDGER", 0x2500000, [], false,
    [⟨"MS", 0, 14, .rw, .W, 0x3E8, .range 0 10000⟩]⟩,
  ⟨"EVT_STORE_LEVEL", 0x2500004, [], false,
    [⟨"COUNT", 0, 13, .ro, .W, 0x0, .any⟩]⟩,
  ⟨"EVT_LAST_HOUSE", 0x2500008, [], true,
    [⟨"HOUSE", 0, 64, .ro, .W, 0x0, .any⟩]⟩,
  ⟨"EVT_LEDGER_FAULT", 0x2500010, [], false,
    [⟨"LEDGER", 0, 7, .w1c, .W, 0x0, .any⟩]⟩,
  ⟨"EVT_RAISED_CNT", 0x2500040, [], true,
    [⟨"COUNT", 0, 64, .rc, .W, 0x0, .any⟩]⟩,
  ⟨"EVT_SRC_LOST_CNT", 0x2500048, [], true,
    [⟨"COUNT", 0, 64, .rc, .W, 0x0, .any⟩]⟩,
  ⟨"EVT_STORE_LOST_CNT", 0x2500050, [], true,
    [⟨"COUNT", 0, 64, .rc, .W, 0x0, .any⟩]⟩,
  ⟨"EVT_LEDGER_FAULT_CNT", 0x2500058, [], true,
    [⟨"COUNT", 0, 64, .rc, .W, 0x0, .any⟩]⟩]

/-- Registers of the PBK block. -/
def regsPbk : List RegDef := [
  ⟨"PBK_STATE", 0x2580000, [], false,
    [⟨"VALID", 0, 1, .ro, .G, 0x0, .any⟩, ⟨"WRITING", 1, 1, .ro, .G, 0x0, .any⟩, ⟨"LAST_FAIL", 2, 1, .ro, .G, 0x0, .any⟩, ⟨"SLOT", 8, 8, .ro, .G, 0x0, .any⟩]⟩,
  ⟨"PBK_SEQ", 0x2580004, [], false,
    [⟨"SEQ", 0, 32, .ro, .G, 0x0, .any⟩]⟩,
  ⟨"PBK_LAST_WRITE", 0x2580008, [], true,
    [⟨"RTC", 0, 64, .ro, .G, 0x0, .any⟩]⟩,
  ⟨"PBK_POWER_ON", 0x2580010, [], true,
    [⟨"SECONDS", 0, 64, .ro, .G, 0x0, .any⟩]⟩,
  ⟨"PBK_MAX_TJ", 0x2580018, [], false,
    [⟨"TEMP", 0, 16, .ro, .G, 0x0, .any⟩, ⟨"GROUP", 16, 5, .ro, .G, 0x0, .any⟩]⟩,
  ⟨"PBK_WRITE_CNT", 0x2580020, [], true,
    [⟨"COUNT", 0, 64, .ro, .G, 0x0, .any⟩]⟩,
  ⟨"PBK_WRITE_FAIL_CNT", 0x2580028, [], true,
    [⟨"COUNT", 0, 64, .ro, .G, 0x0, .any⟩]⟩,
  ⟨"PBK_WIN_OFF", 0x2580030, [], false,
    [⟨"OFFSET", 2, 12, .rw, .W, 0x0, .any⟩]⟩,
  ⟨"PBK_WIN_DATA", 0x2580034, [], false,
    [⟨"DATA", 0, 32, .ro, .W, 0x0, .any⟩]⟩]

/-- Registers of the CUR block (part 0). -/
def regsCur0 : List RegDef := [
  ⟨"CUR_STATE", 0x3000000, [], false,
    [⟨"MODE", 0, 3, .ro, .C, 0x0, .any⟩, ⟨"HW_DROP", 3, 1, .ro, .C, 0x0, .any⟩, ⟨"IMAGE_VALID", 4, 1, .ro, .C, 0x0, .any⟩, ⟨"BACKUP_CLK", 5, 1, .ro, .C, 0x0, .any⟩, ⟨"LOOK_BAD", 6, 1, .ro, .C, 0x0, .any⟩, ⟨"SPI_PARAMS", 7, 1, .ro, .C, 0x0, .any⟩]⟩,
  ⟨"CUR_CAUSE", 0x3000004, [], false,
    [⟨"CAUSES", 0, 11, .ro, .C, 0x0, .any⟩]⟩,
  ⟨"CUR_INPUTS", 0x3000008, [], false,
    [⟨"ALARMS", 0, 8, .ro, .C, 0x0, .any⟩, ⟨"DROP_N", 8, 1, .ro, .C, 0x0, .any⟩, ⟨"RELAYS", 9, 4, .ro, .C, 0x0, .any⟩, ⟨"CUR_OK", 13, 1, .ro, .C, 0x0, .any⟩]⟩,
  ⟨"CUR_FAULT", 0x300000C, [], false,
    [⟨"CAUSES", 0, 6, .ro, .G, 0x0, .any⟩]⟩,
  ⟨"CUR_SEL_LINK", 0x3000010, [], true,
    [⟨"LINKS", 0, 64, .ro, .C, 0x0, .any⟩]⟩,
  ⟨"CUR_SEL_PORT", 0x3000018, [], false,
    [⟨"NET", 0, 8, .ro, .C, 0x0, .any⟩, ⟨"LINE", 8, 16, .ro, .C, 0x0, .any⟩]⟩,
  ⟨"CUR_SEL_SIG", 0x300001C, [], false,
    [⟨"SIG", 0, 16, .ro, .C, 0x0, .any⟩]⟩,
  ⟨"CUR_IMAGE", 0x3000020, [], false,
    [⟨"VERSION", 0, 32, .ro, .C, 0x0, .any⟩]⟩,
  ⟨"CUR_LAST_DROP", 0x3000028, [], true,
    [⟨"HOUSE", 0, 64, .ro, .C, 0x0, .any⟩]⟩,
  ⟨"CUR_LAST_REFUSED", 0x3000030, [], true,
    [⟨"OFFSET", 0, 20, .ro, .C, 0x0, .any⟩, ⟨"SOURCE", 32, 16, .ro, .C, 0x0, .any⟩]⟩,
  ⟨"CUR_DROP_CNT", 0x3000040, [], true,
    [⟨"COUNT", 0, 64, .ro, .C, 0x0, .any⟩]⟩,
  ⟨"CUR_WRITE_REFUSED_CNT", 0x3000048, [], true,
    [⟨"COUNT", 0, 64, .ro, .C, 0x0, .any⟩]⟩,
  ⟨"CUR_SPI_OK_CNT", 0x3000050, [], true,
    [⟨"COUNT", 0, 64, .ro, .C, 0x0, .any⟩]⟩,
  ⟨"CUR_SPI_CRC_CNT", 0x3000058, [], true,
    [⟨"COUNT", 0, 64, .ro, .C, 0x0, .any⟩]⟩,
  ⟨"CUR_SPI_ALIVE_CNT", 0x3000060, [], true,
    [⟨"COUNT", 0, 64, .ro, .C, 0x0, .any⟩]⟩,
  ⟨"CUR_SRAM_CE_CNT", 0x3000068, [], true,
    [⟨"COUNT", 0, 64, .ro, .C, 0x0, .any⟩]⟩,
  ⟨"CUR_SRAM_UE_CNT", 0x3000070, [], true,
    [⟨"COUNT", 0, 64, .ro, .C, 0x0, .any⟩]⟩,
  ⟨"CUR_NET_DISCARD_CNT", 0x3000078, [], true,
    [⟨"COUNT", 0, 64, .ro, .C, 0x0, .any⟩]⟩,
  ⟨"CUR_LOOK_MISMATCH_CNT", 0x3000080, [], true,
    [⟨"COUNT", 0, 64, .ro, .C, 0x0, .any⟩]⟩,
  ⟨"CUR_RESET_CNT", 0x3000088, [], true,
    [⟨"COUNT", 0, 64, .ro, .G, 0x0, .any⟩]⟩,
  ⟨"CUR_EVT_LOST_CNT", 0x3000090, [], true,
    [⟨"COUNT", 0, 64, .ro, .C, 0x0, .any⟩]⟩,
  ⟨"CUR_ALARM_CFG", 0x3001000, [(0x4, 8)], false,
    [⟨"EN", 0, 1, .ro, .C, 0x0, .any⟩, ⟨"POL", 1, 1, .ro, .C, 0x0, .any⟩, ⟨"ACTION", 2, 2, .ro, .C, 0x2, .enum 2⟩, ⟨"DEBOUNCE", 4, 7, .ro, .C, 0x14, .range 1 100⟩]⟩,
  ⟨"CUR_OUT_CFG", 0x3001020, [(0x4, 4)], false,
    [⟨"ON_DROP", 0, 1, .ro, .C, 0x1, .any⟩, ⟨"ON_TEST", 1, 1, .ro, .C, 0x1, .any⟩, ⟨"FAULT_LEVEL", 2, 1, .ro, .C, 0x1, .any⟩, ⟨"POL", 3, 1, .ro, .C, 0x1, .any⟩]⟩,
  ⟨"CUR_TIMING", 0x3001030, [], false,
    [⟨"SACN_PERIOD", 0, 10, .ro, .C, 0x19, .range 1 1000⟩, ⟨"SWEEP", 10, 10, .ro, .C, 0x64, .range 20 1000⟩, ⟨"WD", 20, 7, .ro, .C, 0xA, .range 1 100⟩]⟩]

/-- Registers of the CUR block (part 1). -/
def regsCur1 : List RegDef := [
  ⟨"CUR_SPI_CFG", 0x3001034, [], false,
    [⟨"SPI_WD", 0, 14, .ro, .C, 0x0, .zeroOr 10 10000⟩, ⟨"SPI_WD_DROP", 14, 1, .ro, .C, 0x0, .any⟩]⟩,
  ⟨"CUR_CLAIM", 0x3001038, [], false,
    [⟨"CLAIM", 0, 16, .ro, .C, 0xF000, .range 61440 65535⟩]⟩,
  ⟨"CUR_RELEASE", 0x300103C, [], false,
    [⟨"RELEASE", 0, 10, .ro, .C, 0x0, .zeroOr 1 600⟩]⟩,
  ⟨"CUR_MASK_LINK", 0x3001040, [], true,
    [⟨"LINKS", 0, 64, .ro, .C, 0xFFFFFFFFFFFFFFFF, .any⟩]⟩,
  ⟨"CUR_MASK_PORT", 0x3001048, [], false,
    [⟨"NET", 0, 8, .ro, .C, 0xFF, .any⟩, ⟨"LINE", 8, 16, .ro, .C, 0xFFFF, .any⟩]⟩,
  ⟨"CUR_MASK_SIG", 0x300104C, [], false,
    [⟨"SIG", 0, 16, .ro, .C, 0xFFFF, .any⟩]⟩,
  ⟨"CUR_SACN_CID", 0x3001050, [(0x4, 4)], false,
    [⟨"CID", 0, 32, .ro, .C, 0x0, .any⟩]⟩,
  ⟨"CUR_SACN_NAME", 0x3001060, [(0x4, 16)], false,
    [⟨"NAME", 0, 32, .ro, .C, 0x0, .any⟩]⟩,
  ⟨"CUR_NET_MAC", 0x3001100, [(0x10, 8)], true,
    [⟨"MAC", 0, 48, .ro, .C, 0x0, .any⟩]⟩,
  ⟨"CUR_NET_IP4", 0x3001108, [(0x10, 8)], false,
    [⟨"IP4", 0, 32, .ro, .C, 0x0, .any⟩]⟩,
  ⟨"CUR_NET_VLAN", 0x300110C, [(0x10, 8)], false,
    [⟨"ID", 0, 12, .ro, .C, 0x0, .any⟩, ⟨"EN", 12, 1, .ro, .C, 0x0, .any⟩, ⟨"PCP", 13, 3, .ro, .C, 0x0, .any⟩]⟩,
  ⟨"CUR_WIN_STATUS", 0x3002400, [(0x20, 16)], false,
    [⟨"VALID", 0, 1, .ro, .C, 0x0, .any⟩, ⟨"MATCH", 1, 1, .ro, .C, 0x0, .any⟩, ⟨"SAFE", 2, 1, .ro, .C, 0x0, .any⟩]⟩,
  ⟨"CUR_WIN_RESULT", 0x3002404, [(0x20, 16)], false,
    [⟨"CRC", 0, 32, .ro, .C, 0x0, .any⟩]⟩,
  ⟨"CUR_WIN_SEQ", 0x3002408, [(0x20, 16)], true,
    [⟨"SEQ", 0, 64, .ro, .C, 0x0, .any⟩]⟩,
  ⟨"CUR_WIN_MISMATCH_CNT", 0x3002410, [(0x20, 16)], true,
    [⟨"COUNT", 0, 64, .ro, .C, 0x0, .any⟩]⟩]

/-- Registers of the CURFLY block. -/
def regsCurfly : List RegDef := [
  ⟨"CUR_FLY_SRC", 0x3004000, [(0x100, 4)], true,
    [⟨"ADDR", 0, 64, .ro, .C, 0x0, .any⟩]⟩,
  ⟨"CUR_FLY_DST", 0x3004008, [(0x100, 4)], true,
    [⟨"ADDR", 0, 64, .ro, .C, 0x0, .any⟩]⟩,
  ⟨"CUR_FLY_COUNT", 0x3004010, [(0x100, 4)], false,
    [⟨"COUNT", 0, 32, .ro, .C, 0x0, .any⟩]⟩,
  ⟨"CUR_FLY_CFG", 0x3004014, [(0x100, 4)], false,
    [⟨"SRC_W", 0, 3, .ro, .C, 0x2, .any⟩, ⟨"DST_W", 3, 3, .ro, .C, 0x2, .any⟩, ⟨"MODE", 6, 1, .ro, .C, 0x0, .any⟩, ⟨"SRC_FIX", 7, 1, .ro, .C, 0x0, .any⟩, ⟨"DST_FIX", 8, 1, .ro, .C, 0x0, .any⟩, ⟨"SRC_SPACE", 9, 3, .ro, .C, 0x2, .any⟩, ⟨"DST_SPACE", 12, 3, .ro, .C, 0x2, .any⟩, ⟨"IDX_OBJ", 15, 1, .ro, .C, 0x0, .any⟩, ⟨"ELEM", 16, 8, .ro, .C, 0x1, .any⟩, ⟨"WIN_LOG2", 24, 5, .ro, .C, 0x0, .any⟩, ⟨"EVT", 29, 1, .ro, .C, 0x0, .any⟩]⟩,
  ⟨"CUR_FLY_IDX_BASE", 0x3004018, [(0x100, 4)], false,
    [⟨"BASE", 0, 32, .ro, .C, 0x0, .any⟩]⟩,
  ⟨"CUR_FLY_IDX_COUNT", 0x300401C, [(0x100, 4)], false,
    [⟨"COUNT", 0, 24, .ro, .C, 0x0, .any⟩]⟩,
  ⟨"CUR_FLY_STATUS", 0x3004024, [(0x100, 4)], false,
    [⟨"STATE", 0, 3, .ro, .C, 0x0, .any⟩, ⟨"ERR", 3, 4, .ro, .C, 0x0, .any⟩, ⟨"OVLP", 7, 1, .ro, .C, 0x0, .any⟩, ⟨"DESC", 8, 1, .ro, .C, 0x0, .any⟩, ⟨"POISON", 9, 1, .ro, .C, 0x0, .any⟩, ⟨"VBYTES", 10, 5, .ro, .C, 0x0, .any⟩, ⟨"HELD", 16, 9, .ro, .C, 0x0, .any⟩]⟩,
  ⟨"CUR_FLY_RESIDUE", 0x3004028, [(0x100, 4)], false,
    [⟨"COUNT", 0, 32, .ro, .C, 0x0, .any⟩]⟩,
  ⟨"CUR_FLY_WRITTEN", 0x300402C, [(0x100, 4)], false,
    [⟨"COUNT", 0, 32, .ro, .C, 0x0, .any⟩]⟩]

/-- Registers of the CURCHK block. -/
def regsCurchk : List RegDef := [
  ⟨"CUR_CHK_CFG", 0x3005000, [(0x40, 4)], false,
    [⟨"PRESET", 0, 3, .ro, .C, 0x2, .any⟩, ⟨"WIDTH", 8, 6, .ro, .C, 0x20, .any⟩, ⟨"REFIN", 14, 1, .ro, .C, 0x1, .any⟩, ⟨"REFOUT", 15, 1, .ro, .C, 0x1, .any⟩]⟩,
  ⟨"CUR_CHK_POLY", 0x3005004, [(0x40, 4)], false,
    [⟨"POLY", 0, 32, .ro, .C, 0x1EDC6F41, .any⟩]⟩,
  ⟨"CUR_CHK_INIT", 0x3005008, [(0x40, 4)], false,
    [⟨"INIT", 0, 32, .ro, .C, 0xFFFFFFFF, .any⟩]⟩,
  ⟨"CUR_CHK_XOROUT", 0x300500C, [(0x40, 4)], false,
    [⟨"XOROUT", 0, 32, .ro, .C, 0xFFFFFFFF, .any⟩]⟩,
  ⟨"CUR_CHK_CRC", 0x3005010, [(0x40, 4)], false,
    [⟨"CRC", 0, 32, .ro, .C, 0x0, .any⟩]⟩,
  ⟨"CUR_CHK_RESULT", 0x3005014, [(0x40, 4)], false,
    [⟨"RESULT", 0, 32, .ro, .C, 0x0, .any⟩]⟩,
  ⟨"CUR_CHK_POS", 0x3005028, [(0x40, 4)], false,
    [⟨"POS", 0, 16, .ro, .C, 0x0, .any⟩]⟩,
  ⟨"CUR_CHK_ALIVE_CFG", 0x300502C, [(0x40, 4)], false,
    [⟨"EN", 0, 1, .ro, .C, 0x0, .any⟩, ⟨"WIDTH8", 1, 1, .ro, .C, 0x1, .any⟩, ⟨"NIBBLE", 2, 1, .ro, .C, 0x0, .any⟩, ⟨"BYTE", 4, 10, .ro, .C, 0x0, .any⟩, ⟨"INC", 14, 8, .ro, .C, 0x1, .any⟩]⟩,
  ⟨"CUR_CHK_ALIVE_STATE", 0x3005030, [(0x40, 4)], false,
    [⟨"L", 0, 8, .ro, .C, 0x0, .any⟩, ⟨"HAVE", 8, 1, .ro, .C, 0x0, .any⟩, ⟨"RESULT", 9, 2, .ro, .C, 0x0, .any⟩]⟩,
  ⟨"CUR_CHK_ALIVE_CNT", 0x3005034, [(0x40, 4)], false,
    [⟨"REPEAT_CNT", 0, 16, .ro, .C, 0x0, .any⟩, ⟨"SKIP_CNT", 16, 16, .ro, .C, 0x0, .any⟩]⟩]

/-- Every register by the block of the register map that holds it: first offset, end, registers. -/
def regBlocks : List (Nat × Nat × List RegDef) := [
  (0x0, 0x100000, regsGlb),
  (0x100000, 0x180000, regsHst),
  (0x180000, 0x200000, regsObj),
  (0x800000, 0x900000, regsTim0),
  (0x800000, 0x900000, regsTim1),
  (0x200000, 0x300000, regsCb0),
  (0x200000, 0x300000, regsCb1),
  (0x300000, 0x400000, regsBlk),
  (0x400000, 0x500000, regsCmp),
  (0x500000, 0x580000, regsPsh),
  (0x580000, 0x600000, regsSpt),
  (0x600000, 0x700000, regsFix),
  (0x700000, 0x780000, regsLmp),
  (0x780000, 0x800000, regsSig),
  (0x1000000, 0x1420000, regsCl0),
  (0x1000000, 0x1420000, regsCl1),
  (0x1000000, 0x1420000, regsCl2),
  (0x1400000, 0x1420000, regsTdm),
  (0x1800000, 0x1880000, regsNet0),
  (0x1800000, 0x1880000, regsNet1),
  (0x1C00000, 0x1D00000, regsLine),
  (0x2000000, 0x2100000, regsMtr0),
  (0x2000000, 0x2100000, regsMtr1),
  (0x2100000, 0x2200000, regsFly),
  (0x2200000, 0x2300000, regsQb),
  (0x2300000, 0x2400000, regsChk),
  (0x2400000, 0x2480000, regsPwr),
  (0x2480000, 0x2500000, regsGl),
  (0x2500000, 0x2580000, regsEvt),
  (0x2580000, 0x2600000, regsPbk),
  (0x3000000, 0x3100000, regsCur0),
  (0x3000000, 0x3100000, regsCur1),
  (0x3000000, 0x3100000, regsCurfly),
  (0x3000000, 0x3100000, regsCurchk)]

/-- Every register of the KX64. -/
def regTable : List RegDef :=
  regsGlb ++ regsHst ++ regsObj ++ regsTim0 ++ regsTim1 ++ regsCb0 ++ regsCb1 ++ regsBlk ++ regsCmp ++ regsPsh ++ regsSpt ++ regsFix ++ regsLmp ++ regsSig ++ regsCl0 ++ regsCl1 ++ regsCl2 ++ regsTdm ++ regsNet0 ++ regsNet1 ++ regsLine ++ regsMtr0 ++ regsMtr1 ++ regsFly ++ regsQb ++ regsChk ++ regsPwr ++ regsGl ++ regsEvt ++ regsPbk ++ regsCur0 ++ regsCur1 ++ regsCurfly ++ regsCurchk

end Sys2Proof.Machine
end

