-- ==== Sys2Proof/Machine/FMap.lean ====
section
/-! DEFINITION. Sparse tables: a list of (key, value) pairs with strictly rising keys, in which no pair holds
the value an unlisted key reads as. Memories, register values and arrays of like parts are held so, and
equal tables are equal lists. -/

namespace Sys2Proof.Machine

/-- A sparse table. -/
abbrev FMap (α : Type) := List (Nat × α)

/-- The value at a key, `d` where the key is not listed. -/
def FMap.get {α : Type} (d : α) (m : FMap α) (k : Nat) : α :=
  match m with
  | [] => d
  | (j, v) :: rest => if j = k then v else FMap.get d rest k

/-- Insertion of a value that is listed. -/
def FMap.insert {α : Type} (m : FMap α) (k : Nat) (v : α) : FMap α :=
  match m with
  | [] => [(k, v)]
  | (j, w) :: rest =>
    if k < j then (k, v) :: (j, w) :: rest
    else if k = j then (k, v) :: rest
    else (j, w) :: FMap.insert rest k v

/-- Removal of a key. -/
def FMap.erase {α : Type} (m : FMap α) (k : Nat) : FMap α :=
  match m with
  | [] => []
  | (j, w) :: rest => if j = k then FMap.erase rest k else (j, w) :: FMap.erase rest k

/-- A write: the value an unlisted key reads as removes the entry. -/
def FMap.put {α : Type} [DecidableEq α] (d : α) (m : FMap α) (k : Nat) (v : α) : FMap α :=
  if v = d then m.erase k else m.insert k v

/-- Change of one entry. -/
def FMap.modify {α : Type} [DecidableEq α] (d : α) (m : FMap α) (k : Nat) (f : α → α) : FMap α :=
  m.put d k (f (m.get d k))

/-- Every key of `m` lies above `k`. -/
def FMap.above {α : Type} (k : Nat) (m : FMap α) : Bool := m.all (fun e => decide (k < e.1))

/-- The canonical form: keys strictly rise, and no entry holds what its key reads as when unlisted. -/
def FMap.wf {α : Type} [DecidableEq α] (d : Nat → α) (m : FMap α) : Bool :=
  match m with
  | [] => true
  | (j, v) :: rest => FMap.above j rest && decide (v ≠ d j) && FMap.wf d rest

/-- The table of a run of consecutive values from `k`. -/
def FMap.runOf {α : Type} [DecidableEq α] (d : α) (k : Nat) : List α → FMap α
  | [] => []
  | v :: rest => if v = d then FMap.runOf d (k + 1) rest else (k, v) :: FMap.runOf d (k + 1) rest

/-- Writes of a run of consecutive values from `k`. -/
def FMap.putList {α : Type} [DecidableEq α] (d : α) (m : FMap α) (k : Nat) (vs : List α) : FMap α :=
  m.filter (fun e => decide (e.1 < k)) ++ (FMap.runOf d k vs ++ m.filter (fun e => decide (k + vs.length ≤ e.1)))

/-- Reads of `n` consecutive values from `k`. -/
def FMap.getList {α : Type} (d : α) (m : FMap α) (k n : Nat) : List α :=
  let near := m.filter (fun e => decide (k ≤ e.1 ∧ e.1 < k + n))
  (List.range n).map (fun i => FMap.get d near (k + i))

end Sys2Proof.Machine
end

