-- ==== Sys2Proof/Machine/State.lean ====
section
/-! DEFINITION. The state of the KX64: every register, memory, queue, list and mode the spec gives it, as plain
data. Values that the spec defines as a register live in `regs`, keyed by BAR0 offset; what a register only
reports about a richer structure lives in that structure. -/

namespace Sys2Proof.Machine

/-- Why the machine stops. Raised by every meaning whose command is ill-formed (WellFormed); safe: no
such command stands for anything that happens to the hardware. -/
inductive Fault where
  | illFormed
  deriving DecidableEq, Repr

/-- Why a command has no meaning. `notModelled`: raised by the arm of a command not modelled yet, by its
mnemonic; safe. -/
inductive Refusal where
  | notModelled (mnemonic : String)
  deriving DecidableEq, Repr

/-! ### What leaves the KX64 -/

/-- What a physical lane of a link carries (R272, R257, R283). -/
inductive LaneStream where
  /-- Electrically idle. -/
  | idle
  /-- The pattern 0b1010… of `CLOCK`. -/
  | clock
  /-- `ALIGN` blocks with these flags, their block counter rising by 1 from `first`. -/
  | align (flags first : Nat)
  /-- A logical lane; the mirror of one; `IDLE` blocks only. -/
  | logical (x : Nat)
  | mirror (x : Nat)
  | idleBlocks
  /-- A test pattern by its code, with the `USER` word; routed inside the package to the RX lane of its number. -/
  | pattern (sel user : Nat) (loop : Bool)
  deriving DecidableEq, Repr

/-- What the KX64 sends or drives, in the order in which it does so (the model's own record). -/
inductive Sent where
  /-- A posted write to host memory. -/
  | hostWrite (addr : Nat) (bytes : List Byte)
  /-- A read request to host memory. -/
  | hostRead (addr len : Nat)
  /-- An MSI-X message on a vector: a memory write of its table entry's data to its address (R29, R50). -/
  | msix (vector addr data : Nat)
  /-- The data a register, aperture, window or configuration read returns. -/
  | readData (value : Nat)
  /-- A read returned as a poisoned TLP. -/
  | readPoisoned
  /-- A completion with Unsupported Request. -/
  | unsupported
  /-- A completion with Configuration Request Retry Status. -/
  | retry
  /-- A stalled read that has not returned yet. -/
  | readStalls
  /-- A frame on a link (64 and 65: tandem links): type, claim, sequence number, payload. -/
  | linkFrame (link : Nat) (type : Nat) (claim : Nat) (lseq : Nat) (payload : List Byte)
  /-- An `ABORT` block on a link. -/
  | abort (link : Nat)
  /-- What a TX lane of a link carries from now on; whether the forwarded clock runs. -/
  | lane (link lane : Nat) (what : LaneStream)
  | txClock (link : Nat) (on : Bool)
  /-- Blocks of a link as 66-bit words on a physical lane, bit 0 sent first (R238). -/
  | laneBlocks (link lane : Nat) (words : List Nat)
  /-- One bit inverted on a TX lane: the first payload bit of its next block after scrambling, or its next pattern bit (R285). -/
  | invert (link lane : Nat)
  /-- An Ethernet frame, without its FCS. -/
  | ethFrame (port : Nat) (bytes : List Byte)
  /-- A DMX or RDM packet on a line port: break and mark times in microseconds, then the slots. -/
  | linePacket (port : Nat) (brk mab : Nat) (slots : List Byte)
  /-- A signal-string port's bypass word and PWM state in a slot. -/
  | sigWord (port : Nat) (word : Nat) (enable : Bool)
  /-- A pin takes a level. -/
  | pin (name : String) (index : Nat) (level : Bool)
  /-- An SPI response. -/
  | spi (bytes : List Byte)
  /-- A PMBus write to a regulator: its 7-bit address, the command, data, and the packet error code (R479). -/
  | pmbus (addr command : Nat) (data : List Byte) (pec : Nat)
  /-- A core voltage asked for over AVSBus, in millivolts. -/
  | volts (mv : Nat)
  /-- A generated LTC frame's label and user bits. -/
  | ltc (hour min sec frame : Nat) (dropFrame : Bool) (user : Nat)
  deriving DecidableEq, Repr

/-! ### Events (R451 to R456) -/

/-- An event record, and the number of events its source dropped before it (R454). -/
structure EvtRec where
  house : Nat
  source : Nat
  code : Nat
  deferred : Bool
  args : List Nat
  lost : Nat
  deriving DecidableEq, Repr

/-- The event unit and the queues in front of it. -/
structure EvtSt where
  /-- Raised, not yet presented. -/
  raised : List EvtRec
  /-- Events dropped at each source since the last one it presented (R454). -/
  srcLost : FMap Nat
  /-- Presented, held for ordering (R454). -/
  held : List EvtRec
  /-- The delivery store (R454). -/
  store : List EvtRec
  /-- Deferred events in Ghost Light SRAM with their RTC values (R419). -/
  glQueue : List (EvtRec × Nat)
  /-- Deferred events of the Curtain with their RTC values (R378). -/
  curQueue : List (EvtRec × Nat)
  /-- Events a `WARM` reset discarded, and the `HOUSE` of the last (R498). -/
  warmLost : Nat
  warmLostHouse : Nat
  deriving DecidableEq, Repr

/-! ### Host interface (R28 to R52) -/

/-- The stages of a descriptor in the store. -/
inductive EntPhase where
  | fetching | arrived | begun | finished
  deriving DecidableEq, Repr

/-- A descriptor in the descriptor store (R37). -/
structure StoreEntry where
  id : Nat
  ring : Nat
  slot : Nat
  bytes : List Byte
  phase : EntPhase
  /-- Status of the checks of R44: 0 passed. -/
  verdict : Nat
  /-- The cue of which this is a member, with its index. -/
  member : Option (Nat × Nat)
  /-- A reset discarded its completion (R52). -/
  orphan : Bool
  /-- Host read requests outstanding: address and length. -/
  reqs : List (Nat × Nat)
  /-- Host bytes received. -/
  data : List Byte
  status : Nat
  result : Nat
  /-- Of an `OBJ_WRITE` under way: ranges of the object, in whole 16-byte blocks, that a write begun later takes over (R46). -/
  yielded : List (Nat × Nat)
  deriving DecidableEq, Repr

/-- One write of a configuration-table entry (R43), with the index of the member that makes it. -/
structure CfgWrite where
  table : Nat
  entry : Nat
  bytes : List Byte
  member : Nat
  deriving DecidableEq, Repr

/-- A cue whose members are being taken (R42), or accepted and waiting for its frame (R91). -/
structure CueRec where
  id : Nat
  ring : Nat
  tag : Nat
  count : Nat
  /-- Members taken so far. -/
  taken : Nat
  writes : List CfgWrite
  /-- Target show time of a timed cue, in 2^−32 ns. -/
  target : Option Nat
  accepted : Bool
  /-- The descriptor of the `CUE` and those of its members, with their data, to be mirrored (R335). -/
  ops : List (List Byte × List Byte)
  /-- Message number of a mirrored cue (R337); 0 one of the unit's own rings. -/
  mseq : Nat
  /-- House clock of its acceptance (R92). -/
  at_ : Nat
  deriving DecidableEq, Repr

/-- A ring (R30 to R51). -/
structure RingSt where
  tail : Nat
  fetchHead : Nat
  cqHead : Nat
  cqTail : Nat
  phase : Bool
  stopped : Bool
  /-- The cue whose members are being fetched and the number still to fetch. -/
  cueFetch : Option (Nat × Nat)
  /-- Members still to be fetched of a cue already rejected. -/
  skip : Nat
  cqFullTold : Bool
  /-- Finished descriptors whose completions wait, in finishing order. -/
  waiting : List Nat
  /-- Head-vector word last written. -/
  headWritten : Nat
  /-- Records dropped since the last `EVENTS_LOST`, `HOUSE` of the first and the last. -/
  lost : Nat
  lostFirst : Nat
  lostLast : Nat
  deriving DecidableEq, Repr

/-- An MSI-X vector (R29, R50): its table entry's address, data and mask, and its bit of the Pending Bit Array. -/
structure VecSt where
  masked : Bool
  pendingBit : Bool
  /-- A cause waits for its message (R50). -/
  cause : Bool
  /-- House clock of its last message. -/
  sentAt : Option Nat
  /-- Message address and data (R29). -/
  addr : Nat
  data : Nat
  deriving DecidableEq, Repr

structure HostSt where
  rings : FMap RingSt
  store : List StoreEntry
  /-- Number of the next store entry (the model's own). -/
  nextId : Nat
  openCues : List CueRec
  vecs : FMap VecSt
  msixEnabled : Bool
  /-- Doorbell vector reads outstanding, merged further fetch, failures in a row, fault told. -/
  dbOutstanding : Bool
  dbAgain : Bool
  dbFails : Nat
  dbTold : Bool
  /-- Max Read Request Size in force. -/
  mrrs : Nat
  /-- `APERTURE_MISS` and `TDM_UNMIRRORED` told since the aperture registers changed (R59, R335). -/
  aptTold : Bool
  unmirroredTold : Bool
  /-- Configuration-space words written by the host, by offset. -/
  pciCfg : FMap Nat
  deriving DecidableEq, Repr

/-! ### Memory and objects (R53 to R67) -/

/-- HBM and Stage SRAM. -/
structure MemSt where
  hbm : FMap Byte
  sram : FMap Byte
  /-- Codewords holding a correctable error and poisoned codewords: HBM codeword n as n, SRAM as 2^31 + n. -/
  ce : List Nat
  ue : List Nat
  /-- HBM pages by number: 0 free, 1 used, 2 retired; Stage SRAM blocks likewise. -/
  pages : FMap Nat
  blocks : FMap Nat
  /-- Corrected errors of each page within the scrub period (R65). -/
  pageCe : FMap Nat
  /-- Per pseudo-channel (32: Stage SRAM): corrected errors since the last `ECC_CE`, and its `HOUSE` plus 1. -/
  ceSince : FMap Nat
  ceTold : FMap Nat
  /-- Pseudo-channels reported failed (R65). -/
  pcFailed : List Nat
  deriving DecidableEq, Repr

/-- A shadow copy of an object (R56), or a compiled bank waiting (R204). -/
structure Shadow where
  sram : Bool
  pages : List Nat
  aux : List Nat
  /-- Writes to the copy not finished. -/
  open_ : Nat
  /-- Message numbers of the mirrored writes to it (R336). -/
  mseqs : List Nat
  deriving DecidableEq, Repr

/-- A recorded pin (R131): 1 group, 2 Stage SRAM, 3 where it is now. -/
structure Pin where
  mode : Nat
  group : Nat
  deriving DecidableEq, Repr

/-- An object (R53, R54). Kind 0: no object. -/
structure Obj where
  kind : Nat
  param : List Byte
  size : Nat
  sram : Bool
  pages : List Nat
  aux : List Nat
  shadow : Option Shadow
  pin : Option Pin
  deriving DecidableEq, Repr

/-- Memory to be freed after a frame has been presented or dropped, and after transfers of Fly channels have ended (R58, R381). -/
structure Dying where
  sram : Bool
  pages : List Nat
  after : Option Nat
  chans : List Nat
  deriving DecidableEq, Repr

structure ObjSt where
  objs : FMap Obj
  /-- Generations of handle indexes (R53). -/
  gens : FMap Nat
  dying : List Dying
  deriving DecidableEq, Repr

/-! ### Time (R68 to R87) -/

/-- A stage clock (R70 to R78). Times are counts of 2^−32 ns. -/
structure ClockSt where
  val : Nat
  locked : Bool
  cause : Nat
  /-- Arbiter: 0 `FREERUN`, 1 `TRACK`, 2 `HOLDOVER`. -/
  arb : Nat
  src : Nat
  /-- Reference codes qualified as evaluated on this clock. -/
  qual : List Nat
  /-- Rates and the house-clock values at which they began, newest first (R78). -/
  hist : List (Nat × Int)
  /-- A root PLL loss whose `STAGE_UNLOCK` waits for the lock (R72). -/
  unlockDue : Bool
  deriving DecidableEq, Repr

/-- Show time (R83, R84). -/
structure ShowSt where
  val : Nat
  locked : Bool
  cause : Nat
  /-- Correction c of R83 and offset d in 2^−32 ns as computed last. -/
  corr : Int
  d : Int
  /-- House-clock value of the last computation of d and c. -/
  calcAt : Nat
  unlockDue : Bool
  deriving DecidableEq, Repr

/-- A reference input (R76, R80): the stage times of the last edge on clocks A and B, whether edges arrive, and the
sums and count of phases (in 2^−32 ns) of the group being averaged. -/
structure RefSt where
  last : Option (Nat × Nat)
  present : Bool
  sumA : Rat
  sumB : Rat
  n : Nat
  deriving DecidableEq, Repr

/-- The frame schedule (R88 to R90): frame k after the anchor is presented at anchor + k × P. -/
structure SchedSt where
  running : Bool
  anchor : Nat
  num : Nat
  den : Nat
  lead : Nat
  margin : Nat
  /-- Index, from the anchor, of the next frame whose cue deadline is to come, and its sequence number. -/
  k : Int
  seq : Nat
  /-- Highest sequence number given, and whether the schedule has given one. -/
  given : Nat
  numbered : Bool
  deriving DecidableEq, Repr

structure TimeSt where
  /-- The house clock `HOUSE` (R68). -/
  house : Nat
  /-- Root-derived clocks run. -/
  running : Bool
  /-- The real-time clock in counts of 1 ÷ 32,768 s (R22). -/
  rtc : Nat
  /-- Fraction of an RTC count in HCLK cycles times 32,768. -/
  rtcFrac : Nat
  a : ClockSt
  b : ClockSt
  show_ : ShowSt
  refs : FMap RefSt
  /-- LTC frames in a row that failed a check (R81). -/
  ltcBad : Nat
  sched : SchedSt
  /-- T_present of the last frame whose cues have closed. -/
  lastClosed : Option Nat
  /-- Sequence number of the last marked frame (R74). -/
  lastMarked : Nat
  /-- CUE_IO input levels after the filter. -/
  cueIn : List Nat
  deriving DecidableEq, Repr

/-! ### Call Board (R98 to R118) -/

/-- A call word, decoded (R98). -/
structure CallWord where
  kind : Nat
  cls : Nat
  prio : Nat
  group : Nat
  local_ : Bool
  child : Bool
  children : Nat
  producer : Nat
  parent : Nat
  frame : Nat
  arg0 : Nat
  arg1 : Nat
  arg2 : Nat
  arg3 : Nat
  deriving DecidableEq, Repr

/-- The consumers. -/
inductive Consumer where
  | re (n : Nat)
  | fe (n : Nat)
  | sm (n : Nat)
  | blk
  deriving DecidableEq, Repr

/-- A call in the lists or held by a consumer: its slot, word, the group of its list (R107), unused reservations,
whether it has posted a child, and whether it was dispatched in this cycle (handoff, R117). -/
structure CallRec where
  slot : Nat
  word : CallWord
  list : Nat
  resv : Nat
  posted : Bool
  handoff : Bool
  /-- Its consumer has run it. -/
  ran : Bool
  deriving DecidableEq, Repr

/-- A producer stalled with its word (R105), what the post stands for (a host descriptor's store entry, a plan
position), and whether `CB_STALL` was told. -/
structure Stalled where
  producer : Producer
  source : Nat
  word : CallWord
  ref : Nat
  told : Bool
  deriving DecidableEq, Repr

structure CbSt where
  /-- Queued calls; within one list and class, in first-in-first-out order. -/
  queue : List CallRec
  /-- Calls dispatched, each with the consumer that holds it (R108). -/
  held : List (Consumer × CallRec)
  /-- Consumers whose standby waits for a call (R108). -/
  waiting : List Consumer
  stalled : List Stalled
  /-- Posts of the trigger unit behind a stalled one of it, not yet issued (R105). -/
  behind : List Stalled
  /-- Compile calls handed to the Blocking Unit: they hold slots in no list (R204). -/
  handed : List CallRec
  /-- Stage Manager cores with a withdraw pending (R113). -/
  wdPend : List Nat
  deriving DecidableEq, Repr

/-! ### Blocking Unit (R119 to R138) -/

/-- What the Blocking Unit keeps of an item between frames (R121, R122, R129). -/
structure ItemHist where
  /-- Base costs of the render call or pass 1, and of pass 2; cost as run. -/
  base1 : Nat
  base2 : Nat
  measured : Nat
  /-- Engine of the last plan that held the item, plus 1; 0 none. -/
  prev : Nat
  /-- Engine plus 1 of its displacement, and the number of plans in a row. -/
  dispEngine : Nat
  dispPlans : Nat
  /-- Layers or lamps when last reported; 0 never reported. -/
  size : Nat
  /-- The render call or pass 1, and pass 2, has been reported for that size and was not saturated. -/
  ok1 : Bool
  ok2 : Bool
  /-- Engine that last ran it, plus 1; 0 none. -/
  ranBy : Nat
  deriving DecidableEq, Repr

/-- A move under way (R130): of a page, of the two pages of a canvas tile, or of a whole object `obj` between Stage SRAM and HBM
(R131). `units` are the new pages, or the new blocks (`toSram`). -/
structure PageMove where
  pages : List Nat
  obj : Nat
  evac : Bool
  toSram : Bool
  units : List Nat
  deriving DecidableEq, Repr

/-- What waits to move: pages that move together, or a whole object; the group wanted, 32 for the rule of R128, 33 for Stage SRAM. -/
structure MoveReq where
  pages : List Nat
  obj : Nat
  group : Nat
  deriving DecidableEq, Repr

structure BlkSt where
  hist : FMap ItemHist
  moves : List PageMove
  /-- What waits to move, for evacuation and pins, and for dwell (R129, R134). -/
  waitEvac : List MoveReq
  waitMig : List MoveReq
  /-- Bytes moved under each budget in this frame. -/
  evacDone : Nat
  migDone : Nat
  /-- Cluster groups that canvases and surfaces are pinned to (R131). -/
  canvasPins : FMap Nat
  surfacePins : FMap Nat
  /-- The 256-byte header and records of the last plan's report (R138). -/
  report : List Byte
  /-- Clusters that are parked (R136). -/
  parked : List Nat
  /-- Clusters told to park or restore (R136), by number. -/
  parkReq : Option Nat
  restoreReq : Option Nat
  /-- `BLK_NO_ENGINE` told of the Render Engines, and of the Fixture Engines (R135). -/
  noReTold : Bool
  noFeTold : Bool
  /-- The chunk size that the last plan took (R120). -/
  chunk : Nat
  /-- Bytes moved in the frame before (R138). -/
  bytesPrev : Nat
  deriving DecidableEq, Repr

/-! ### Composition (R139 to R161) -/

/-- A stored canvas tile: its two pages. -/
structure TileSt where
  page0 : Nat
  page1 : Nat
  deriving DecidableEq, Repr

/-- A composited tile a Render Engine holds until write-back (R154). -/
structure HeldTile where
  item : Nat
  frame : Nat
  bytes : List Byte
  deriving DecidableEq, Repr

structure CmpSt where
  /-- Stored tiles by item number; none: not stored. -/
  tiles : FMap (Option TileSt)
  held : FMap (List HeldTile)
  /-- Engines that faulted (`CMP_RE_n_STATUS.FAULT`, `FIX_FE_n_STATUS.FAULT`): Render Engine n as n, Fixture Engine n as 16 + n. -/
  faulted : List Nat
  deriving DecidableEq, Repr

/-! ### Fixtures and colour (R185 to R220) -/

/-- A verdict on a personality or curve, with the compiled nominal record of a personality (R197, R199). -/
structure Verdict where
  valid : Bool
  /-- Every `FIXTURE` entry that names the personality fits it. -/
  fits : Bool
  nominal : List Byte
  deriving DecidableEq, Repr

/-- The verdict in force, the one that takes effect at the next frame-start, and the one on a waiting shadow copy. -/
structure CheckSt where
  cur : Verdict
  next : Option Verdict
  shadow : Option Verdict
  deriving DecidableEq, Repr

/-- What a leaf has found, kept until its call retires: σ masks, least 1 ÷ w, and invalid lamps (R203, R204). -/
structure LeafRes where
  ok709 : Nat
  ok2020 : Nat
  l709 : Option Rat
  l2020 : Option Rat
  invalid : Nat
  deriving DecidableEq, Repr

/-- A running compile (R204). Phase 1 A, 2 B, 3 waiting for a frame-start. -/
structure CompSt where
  handle : Nat
  phase : Nat
  /-- Roots still to post in this phase, and ranges of lamps whose leaf has not retired: first lamp and count. -/
  roots : List (Nat × Nat)
  todo : List (Nat × Nat)
  /-- Phase-A roots whose post was refused (R205), and what leaves that have not retired found, by first lamp. -/
  refused : List (Nat × Nat)
  found : FMap LeafRes
  /-- Bit k: σ = k/256 meets the condition of R203 for every lamp so far, for BT.709 and BT.2020. -/
  ok709 : Nat
  ok2020 : Nat
  /-- Least 1 ÷ w so far, in binary64. -/
  l709 : Option Rat
  l2020 : Option Rat
  invalid : Nat
  stale : Bool
  partial_ : Bool
  /-- A further request is held (R205). -/
  again : Bool
  /-- Message numbers of the mirrored request and of the held one (R336); 0 none. -/
  mseq : Nat
  mseqNext : Nat
  deriving DecidableEq, Repr

/-- What is current of a `CALSTORE`: its bank and gamut header (binary32 σ and L). -/
structure CalSt where
  bank : Nat
  compiled : Bool
  stale : Bool
  partial_ : Bool
  invalid : Nat
  s709 : Nat
  l709 : Nat
  s2020 : Nat
  l2020 : Nat
  deriving DecidableEq, Repr

structure FixSt where
  /-- Verdicts by handle index. -/
  checks : FMap CheckSt
  comps : FMap CompSt
  cal : FMap CalSt
  /-- Bank pointers by fixture item number (R214). -/
  bank : FMap Nat
  /-- Drive records of surface lamps: key (surface × 2^20 + lamp) × 2 + bank. -/
  drive : FMap (List Byte)
  /-- Output records of patch entries: key entry × 2 + bank. -/
  outRec : FMap (List Byte)
  /-- Poisoned codewords: (surface × 2^22 + codeword) × 2 + bank for one of a surface's drive records, or 2^60 and an output
  record's key. -/
  badRec : List Nat
  /-- Pages of the output records (R188). -/
  recPages : List Nat
  /-- Slot images of the latest complete frame presented or dropped, and its number plus 1: sACN universes, line ports (key
  65,536 + port), link nodes (key 2^20 + (link × 65,536 + node) × 256 + block). -/
  slots : FMap (List Byte)
  slotsSeq : Nat
  /-- Modelled power of each drive and output record (R216): B and P, in binary64: by a drive record's key, or 2^60
  and an output record's. -/
  recPow : FMap (Rat × Rat)
  /-- Feed gains written and not yet applied (R220). -/
  gainWr : FMap Nat
  /-- Modelled power of presented frames that wait for their measurement: frame, feed, watts (R219). -/
  waitTrim : List (Nat × Nat × Rat)
  /-- Handles reported since the last frame: missing curves (R199), poison (R215). -/
  told : List Nat
  /-- Items whose records the principal is to stream, with the frame (R348). -/
  lampDue : List (Nat × Nat)
  deriving DecidableEq, Repr

/-! ### Frames -/

/-- A configuration: table entries by table × 2^20 + entry; an unlisted entry is the table's default. -/
abbrev CfgTab := FMap (List Byte)

/-- A work item of a frame's plan (R120 to R124). Posting states: 0 not posted, 1 posted, 2 retired, 3 lost or
discarded. -/
structure Item where
  num : Nat
  render : Bool
  base : Nat
  measured : Nat
  engine : Nat
  group : Nat
  home : Nat
  local_ : Bool
  flags : Nat
  adj : Nat
  p1 : Nat
  p2 : Nat
  deriving DecidableEq, Repr

/-- A feed's sums and outcome for one frame (R213 to R218): the sums U, P and held, in watts as binary32, and the
outcome 0 none yet, 1 pass, 2 hold, 3 dark. -/
structure FeedRec where
  u : Nat
  p : Nat
  held : Nat
  outcome : Nat
  deriving DecidableEq, Repr

/-- What a frame reads as it stood at the sample of its plan (R56, R121, R130): objects, canvas tiles, verdicts, compiled
banks, and `CMP_CTRL`. -/
structure Snap where
  objs : FMap Obj
  tiles : FMap (Option TileSt)
  checks : FMap CheckSt
  cals : FMap CalSt
  ctrl : Nat
  deriving DecidableEq, Repr

/-- A frame between its cue deadline and its presentation (R89). -/
structure FrameRec where
  seq : Nat
  tPres : Nat
  /-- Configuration in effect for the frame and for the frame before it (R177). -/
  cfg : CfgTab
  cfgPrev : CfgTab
  /-- `CUE`s that took effect in the frame: store entry ids. -/
  cues : List Nat
  /-- Planned; the plan in plan order. -/
  planned : Bool
  plan : List Item
  /-- The chunk size it was planned with (R120). -/
  chunk : Nat
  /-- Phase posting: 0 not planned, 1 render, 2 pass 1, 3 pass 2, 4 complete, 5 over without being complete. -/
  phase : Nat
  abandoned : Bool
  sendPassed : Bool
  /-- Links that dropped the frame, and whether `FRAME_LATE` was raised for it (R96). -/
  dropped : List Nat
  late : Bool
  /-- Links on which its `GO` was sent. -/
  goSent : List Nat
  /-- Links whose pass of the frame ran, or went on, under R175: the frame is not counted there. -/
  skipped : List Nat
  /-- Links whose push pass has begun, and finished; whether canvas windows have their results. -/
  begun : List Nat
  finished : List Nat
  spotDone : Bool
  /-- Tiles composited for the frame and written back. -/
  tiles : List Nat
  /-- Tiles under an enabled canvas window, as they were written back (R181). -/
  shots : FMap (List Byte)
  /-- Coverage blocks that a poisoned codeword makes `MIXED` (R155): handle and block. -/
  mixed : List (Nat × Nat)
  /-- Sources told as poisoned, surfaces told as missing tiles. -/
  toldPoison : List Nat
  toldMiss : List Nat
  /-- Partial sums of pass 1: item number, feed, then B, P and U in binary64 (R212). -/
  partials : List (Nat × Nat × Rat × Rat × Rat)
  /-- Feed records by metering channel. -/
  feeds : FMap FeedRec
  /-- Scales and gains in force (binary32) by channel: scale in 0 to 95, gain in 128 to 223. -/
  scales : FMap Nat
  funcOff : Nat
  /-- Bank pointers and slot images as pass 2 left them. -/
  banks : FMap Nat
  slots : FMap (List Byte)
  /-- Hashes of the units walked, by link, in walk order; whether a walk was abandoned (R350). -/
  hashes : FMap (List Nat)
  walkLost : Bool
  /-- Run alone by an Understudy (R337). -/
  alone : Bool
  /-- The activations assigned to the frame by message number, where a pair assigns them (R336, R337). -/
  acts : Option (List Nat)
  /-- Gains (by channel + 128) and scales (by channel) that a `STATE` gives for the frame (R337). -/
  given : Option (FMap Nat)
  /-- The Understudy waits for what the frame needs (R337). -/
  waits : Bool
  snap : Snap
  deriving DecidableEq, Repr

/-! ### Links (R235 to R285) -/

/-- Whose request on a node's registers a `TAG` belongs to (R229, R250, R269, R278). -/
inductive CfgReq where
  | mailbox (write : Bool)
  | ident
  /-- The map write, with the lanes it puts L0, L1 and the Swing position on: `initial` as R273 states. -/
  | laneMap (initial : Bool) (l0 l1 swing : Nat)
  | laneCal
  /-- A function clear, and the clear of one element (R229). -/
  | funcClear (func : Nat)
  | elemClear (surface lamp emitter : Nat)
  deriving DecidableEq, Repr

/-- A buffered frame waiting to be sent (R254). -/
structure TxWait where
  type : Nat
  payload : List Byte
  req : Option (Nat × CfgReq)
  deriving DecidableEq, Repr

/-- The calibration sequencer of a link (R274 to R279). -/
structure LaneCal where
  /-- Lanes still to calibrate: direction (0 up, 1 down) and physical lane. -/
  left : List (Nat × Nat)
  /-- A link calibration runs (otherwise an error-rate one). -/
  link : Bool
  /-- Up lanes whose error-rate trigger is queued. -/
  queued : List Nat
  /-- Settings of the first run of a calibration. -/
  run1 : Option Nat
  /-- Calibrations of the freed lane that disagreed, and refused map writes. -/
  tries : Nat
  refusals : Nat
  /-- What waits until the node accepts the claim (R278): 0 nothing, 1 the map write, 2 the calibration command. -/
  deferred : Nat
  /-- An unmarked lane has been left out since the link calibration began. -/
  cut : Bool
  deriving DecidableEq, Repr

structure LinkSt where
  /-- Consecutive training failures (R258), measurements rejected in `DELAY`, `LINK_ABSENT` told. -/
  fails : Nat
  rejects : Nat
  absentTold : Bool
  /-- `ECHO` requests of the set sent, tags outstanding, the values R_k received, the next tag. -/
  echoSent : Nat
  echoTags : List Nat
  echoVals : List Int
  echoNext : Nat
  /-- Means of consecutive rejected sets, in 1/64 UI. -/
  jumps : List Rat
  /-- Next `LSEQ` to send, and the next expected. -/
  txSeq : Nat
  rxSeq : Nat
  /-- Frames sent and not reported freed: `LSEQ` and cost. -/
  costs : List (Nat × Nat)
  wait : List TxWait
  /-- Requests outstanding: tag and requester; tags used so far. -/
  cfg : List (Nat × CfgReq)
  tagNext : Nat
  /-- Node addresses told as missing since entry to `ACTIVE`. -/
  missing : List Nat
  /-- Last `PROFILE` payload by surface. -/
  profiles : FMap (List Byte)
  /-- Show time jumped since the last `TIME`. -/
  jumped : Bool
  cal : LaneCal
  /-- Clears of functions and elements that the node has not answered `OK` to (R229). -/
  clears : List CfgReq
  /-- Runs of blocks sent so far; bits sent on each TX lane since its last periodic injection (R285). -/
  runs : Nat
  injAt : FMap Nat
  deriving DecidableEq, Repr

/-! ### Push passes (R162 to R184) -/

/-- The hashes of a unit (R166), and the node address it was last sent to. -/
structure UnitRec where
  sent : Option Nat
  acked : Option Nat
  node : Nat
  deriving DecidableEq, Repr

/-- A formatted unit on its way: its key, bytes, bytes sent, retries so far, whether this is a retry, and whether only the refresh
sweep selected it. -/
structure UnitBuf where
  key : Nat
  data : List Byte
  off : Nat
  retries : Nat
  retry : Bool
  swept : Bool
  deriving DecidableEq, Repr

/-- A push pass (R169 to R175). -/
structure PassSt where
  frame : Nat
  units : List Nat
  next : Nat
  /-- The pass runs under R175. -/
  skip : Bool
  sweepFirst : Nat
  sweepCount : Nat
  /-- Units being sent or to be sent, in order; units wholly sent that wait for their acknowledgement. -/
  sendQ : List UnitBuf
  waiting : List UnitBuf
  /-- Units whose retries are exhausted, and which have not been acknowledged since (R173). -/
  failed : List Nat
  poisonTold : Bool
  /-- Windows that have their result in this pass. -/
  seen : List Nat
  /-- Functions off in the pass (R229). -/
  funcOff : Nat
  /-- Units acknowledged with `STORED` 0; whether the node's accepted claim became the unit's own during the pass; and, once
  they are being sent again, the units that must be stored (R344). -/
  unstored : List Nat
  caught : Bool
  catchUp : Option (List Nat)
  deriving DecidableEq, Repr

/-- A link's push state. Keys: a surface tile's `ID` (R244); 2^40 + node × 256 + block for a fixture block. -/
structure PushSt where
  units : FMap UnitRec
  pass : Option PassSt
  /-- Every unit is to be forgotten before the next pass; surfaces to be forgotten before the pass of a frame (R177). -/
  forget : Bool
  forgetSurf : List (Nat × Nat)
  /-- `PUSH_NO_ACK` told (R173). -/
  noAckTold : Bool
  /-- The units of the latest pass, each with its node address: those that exist for an acknowledgement (R167). -/
  walked : List (Nat × Nat)
  deriving DecidableEq, Repr

/-! ### Lamp drive and signal strings (R221 to R234) -/

/-- An element in the failed state: `link` for one a node reported, `port` and `pos` for one found on a signal string. -/
structure FailEnt where
  surface : Nat
  lamp : Nat
  emitter : Nat
  result : Nat
  node : Bool
  link : Nat
  port : Nat
  pos : Nat
  deriving DecidableEq, Repr

structure LmpSt where
  /-- The failed list by index, and failures that found it full. -/
  fails : FMap (Option FailEnt)
  lost : List FailEnt
  deriving DecidableEq, Repr

/-- What the push walk leaves for a signal-string port in a frame: the surface, its emitters and element count, the element
of position 0, the profile, and the codes of 16 positions. -/
structure SigFrame where
  frame : Nat
  surf : Nat
  emitters : Nat
  count : Nat
  base : Nat
  prof : List Byte
  codes : List Nat
  deriving DecidableEq, Repr

structure SigSt where
  /-- The frame rate (numerator and denominator) of the frame now presented. -/
  rate : Nat × Nat
  cur : Option SigFrame
  next : List SigFrame
  /-- Periods of the frame still to begin. -/
  left : Nat
  /-- Periods since the profile committed. -/
  count : Nat
  /-- Positions whose first conducting period is to come. -/
  firstDue : List Nat
  /-- Borrowed slots by position. -/
  debt : FMap Nat
  /-- Failing result of a position's last test, 0 none. -/
  lastFail : FMap Nat
  /-- A period runs; its PWM slots by position; the tests it still carries; slots gone in the PWM part and in the test. -/
  running : Bool
  pwm : FMap Nat
  tests : List Nat
  slot : Nat
  tslot : Nat
  deriving DecidableEq, Repr

/-! ### Queue blocks and the Fly Engine (R380 to R403) -/

/-- A stored word of a queue block: its valid bytes, tags, whether it is complete, and its item with the cut-through threshold
in force for it (none: no cut-through). -/
structure QWord where
  bytes : List Byte
  first : Bool
  last : Bool
  gap : Bool
  complete : Bool
  item : Nat
  ct : Option Nat
  deriving DecidableEq, Repr

/-- A queue block: its words, oldest first; the item being or last written, whether it is open, and its threshold; whether the
next word stored carries `GAP`; the item being read; and whether a register read of the tag waits. -/
structure QbSt where
  words : List QWord
  item : Nat
  open_ : Bool
  ct : Option Nat
  gap : Bool
  reading : Option Nat
  readWait : Bool
  deriving DecidableEq, Repr

/-- A transfer of a Fly channel: the image it started with; the store entry of the `MOVE` that started it; the objects its source,
destination and index addresses name, once they have been destroyed (R58); bytes read and written; the holding register, each
byte with its poison; the bytes that the burst in flight is to write; the failure met at its issue, the `VBYTES` of a word
tagged `LAST` that it read; and a stop asked for: 0 none, 1 abort, 2 fence. -/
structure FlySt where
  img : List Byte
  move : Option Nat
  gone : FMap (Option Obj)
  read : Nat
  written : Nat
  hold : List (Byte × Bool)
  flight : Option Nat
  fail : Nat
  lastWord : Option Nat
  stop : Nat
  deriving DecidableEq, Repr

/-! ### Ethernet and line ports (R286 to R308) -/

/-- A frame in a port's TX buffer or waiting to enter it. `sacn`: 0 a ring's frame, 1 a data packet, 2 a sync packet, 3 a
discovery packet. `bad`: a descriptor that sends nothing (R289). -/
structure TxPkt where
  q : Nat
  slot : Option Nat
  flags : Nat
  ptpOff : Nat
  tag : Nat
  bytes : List Byte
  sacn : Nat
  bad : Bool
  /-- T_present of the sending frame that a packet of sACN data belongs to; else 0. -/
  frame : Nat
  deriving DecidableEq, Repr

/-- An entry of a timestamp queue (R297): the stamp is in 2^−16 ns. -/
structure TsqEnt where
  tag : Nat
  lost : Nat
  clock : Nat
  stamp : Nat
  deriving DecidableEq, Repr

structure NetSt where
  txq : List TxPkt
  build : List TxPkt
  /-- Next descriptor slot of each TX queue to enter the buffer. -/
  fetched : FMap Nat
  paused : Bool
  tsq : List TsqEnt
  tsqLost : Nat
  /-- T_present of the last sending frame; sequence numbers by universe, those of sync packets from 65,536 on; universes live and
  their values at the last sending frame; universes being terminated with the packets left. -/
  lastSend : Option Nat
  seqs : FMap Nat
  live : List Nat
  vals : FMap (List Byte)
  term : FMap Nat
  /-- Sending frames, as T_present and sync universe, whose sync instant is to come, and those whose sync packet is held (R301). -/
  syncDue : List (Nat × Nat)
  syncHeld : List (Nat × Nat)
  admitted : List Nat
  /-- The Curtain packetiser's sequence numbers, and universes being terminated with the packets left. -/
  curSeqs : FMap Nat
  curTerm : FMap Nat
  /-- Bytes of the RX buffer taken by the frames received in this HCLK cycle (R287). -/
  rxHeld : Nat
  deriving DecidableEq, Repr

/-- An RDM request as queued. -/
structure RdmReq where
  data : List Byte
  disc : Bool
  noResp : Bool
  qb : Nat
  tag : Nat
  deriving DecidableEq, Repr

structure LineSt where
  rdm : Option RdmReq
  /-- The transaction runs; one has run since the last DMX packet. -/
  rdmRun : Bool
  rdmRan : Bool
  /-- House-clock values at which the packet being sent ends, and from which the next break may begin. -/
  until_ : Nat
  nextBreak : Nat
  deriving DecidableEq, Repr

/-! ### Metering (R309 to R328) -/

/-- The inputs of one sample instant, with its show time, the real-time clock and the length of its interval in HCLK cycles. -/
structure MtrRaw where
  cur : List MtrCur
  volt : List MtrVolt
  stamp : Nat
  rtc : Nat
  dt : Nat
  deriving DecidableEq, Repr

/-- A voltage channel: the settings in force, the cycle under way (samples, HCLK cycles, Σ v²), and its crossings: time since the
last, how many in a row were in range, whether cycles are measured, and the place in the pattern of synthesised cycles. -/
structure MtrV where
  cfg : Nat
  gain : Nat
  phase : Nat
  n : Nat
  t : Nat
  sumV2 : Nat
  since : Nat
  good : Nat
  measured : Bool
  pat : Nat
  deriving DecidableEq, Repr

/-- A current channel: the settings in force, its automatic gain, and the cycle under way over the samples that count: Σ v i Δt,
Σ h i Δt, Σ i², Σ v², samples, HCLK cycles, greatest magnitude. Then the magnitudes of the cycles before, the powers of the last
cycles added, the largest E_S ÷ T since the last save, the last sample that counted and the last sample before a gap, each as its
real-time clock and show time. -/
structure MtrC where
  cfg : Nat
  gain : Nat
  phase : Nat
  noload : Nat
  g : Nat
  sumP : Int
  sumQ : Int
  sumI2 : Nat
  sumV2 : Nat
  n : Nat
  t : Nat
  peak : Nat
  peaks : List Nat
  powers : List Rat
  maxS : Rat
  counted : Option (Nat × Nat)
  gap : Option (Nat × Nat)
  deriving DecidableEq, Repr

/-- The presentation interval of a frame (R328): its start and, once known, its end; by channel Σ v i Δt in W times HCLK cycles and
Σ Δt; channels without a report. -/
structure MtrWin where
  frame : Nat
  lo : Nat
  hi : Option Nat
  sums : List (Nat × Rat × Nat)
  bad : List Nat
  deriving DecidableEq, Repr

structure MtrSt where
  v : FMap MtrV
  c : FMap MtrC
  /-- Fractions of the accumulators in 2^−32 µWh, by register offset. -/
  frac : FMap Nat
  /-- The two samples before the one under way. -/
  prev : Option MtrRaw
  prev2 : Option MtrRaw
  /-- HCLK cycles of the interval under way, and the house-clock value at which it began. -/
  interval : Nat
  lastAt : Nat
  /-- `EN` has been written since `VDD_GL` came up; frozen by `PFW_N`, with the real-time clock at the freeze. -/
  started : Bool
  frozen : Option Nat
  /-- The `POWERFAIL` record being written and its slot. -/
  pf : Option (Nat × List Byte)
  /-- Real-time clock at the last save; a retry is due. -/
  lastSave : Nat
  retry : Bool
  /-- The external FRAM. -/
  fram : FMap Byte
  /-- Pulse outputs: 0 idle, 1 active, 2 inactive. -/
  pulse : FMap Nat
  wins : List MtrWin
  deriving DecidableEq, Repr

/-! ### Understudy pairs (R330 to R351) -/

/-- A tandem message that carries a `MSEQ`: its type, its payload as far as it is kept, and the bytes of an object's contents that
follow, read when it is sent: handle, offset and length, and whether from its waiting copy while it has one (R333). -/
structure TdmMsg where
  mseq : Nat
  type : Nat
  head : List Byte
  src : Option (Nat × Nat × Nat)
  copy : Bool
  sent : Bool
  deriving DecidableEq, Repr

structure TdmSt where
  /-- Principal. Next `MSEQ`; the messages kept; `STATE`s to send; the link used last. -/
  nextMseq : Nat
  msgs : List TdmMsg
  states : List (List Byte)
  turn : Nat
  /-- `PAIR_REFUSED`, and `PAIR_MISMATCH`, told in this series of `HELLO`s. -/
  told : Bool
  toldMismatch : Bool
  /-- Resynchronisation: objects still to copy, as index and next offset; items are streamed, those adopted, and those sent whole
  as item, frame and last message. -/
  bulk : List (Nat × Nat)
  streaming : Bool
  adopted : List Nat
  inFlight : List (Nat × Nat × Nat)
  /-- Messages that `READY` has named. -/
  ready : List Nat
  /-- Digests by frame: own and the partner's, each with `INCOMPLETE`; consecutive differences since the last stream ended. -/
  own : FMap (Nat × Bool)
  partner : FMap (Nat × Bool)
  differ : Nat
  /-- Understudy. Next message to apply; messages ahead of it; the operation being assembled; a cue being assembled with the
  members still to come. -/
  rxNext : Nat
  ahead : FMap (Nat × List Byte)
  part : List Byte
  cueIn : Option (CueRec × Nat)
  /-- `STATE`s received for frames not yet begun; from the last one: claim, priority, functions off, gains and scales. -/
  got : FMap (List Byte)
  claim : Nat
  prio : Nat
  funcOff : Nat
  given : FMap Nat
  /-- Messages to send up: type and payload. -/
  up : List (Nat × List Byte)
  /-- Frames begun alone (R337). -/
  alone : List Nat
  /-- Principal: `NEXT_MSEQ` as last reported. Understudy: streamed records that wait for the item's own pass 2: item, frame, offset
  and bytes (R348). -/
  reported : Nat
  adopt : List (Nat × Nat × Nat × List Byte)
  deriving DecidableEq, Repr

/-! ### The Safety Curtain (R352 to R379) -/

structure CurSt where
  /-- Curtain SRAM: configuration and look memories by BAR0 offset, the graphic store at 2^32 and its offset, one byte each. -/
  sram : FMap Byte
  /-- Codewords of it that hold an uncorrectable error: address divided by 16. -/
  ue : List Nat
  /-- Graphics that failed their check (R364). -/
  badG : List Nat
  /-- The queue from the `FIX` block: patch entries to compare (R366). -/
  patchq : List (Nat × List Byte)
  /-- SPI: the `ALIVE` last taken, the Curtain's own counter, the response to the last message, what is staged. -/
  alive : Option Nat
  ownAlive : Nat
  resp : List Byte
  stage : List (Nat × List Byte)
  /-- Drop causes: an SPI `DROP`, an expired SPI watchdog, `CUR_DROP_N` low. -/
  spiDrop : Bool
  silent : Bool
  low : Bool
  /-- Outputs that the mode machine puts on the Curtain source. -/
  selLink : Nat
  selNet : Nat
  selLine : Nat
  selSig : Nat
  /-- Outputs on their way back to the show source (R371). -/
  retNet : List Nat
  retLine : List Nat
  retSig : List Nat
  /-- Relays in the test mask. -/
  testOut : Nat
  /-- Sweeps begun, and the next `ECHO` tag, by link. -/
  sweeps : FMap Nat
  echoTag : Nat
  /-- House-clock value, plus 1, of the last `CUR_WRITE_REFUSED`. -/
  refusedAt : Nat
  deriving DecidableEq, Repr

/-! ### Power and resets: what every block depends on -/

/-- Power domains (R24). -/
inductive Domain where
  | gl | cu | mt | core
  | eng (k : Fin 8)
  | lq (q : Fin 16)
  | net | host | hbm
  deriving DecidableEq, Repr


/-! ### Power states (R409 to R432, R478) -/

/-- An entry (R414) or exit (R418) under way: its step, rails still to switch with the one waited for first, the descriptor that asked
for it, the deeper state an exit from `IDLE` leads to, and whether a regulator wait has failed since the commit point. -/
structure PwrSeq where
  exit : Bool
  target : Nat
  step : Nat
  rails : List Nat
  desc : Option Nat
  deeper : Option Nat
  ackFail : Bool
  deriving DecidableEq, Repr

/-- Power-up (R478): step 3 to 5, rails still to enable, failures so far; whether it waits 1 s, or for `RST_N`. -/
structure PowerUp where
  step : Nat
  rails : List Nat
  fails : Nat
  waits : Bool
  held : Bool
  deriving DecidableEq, Repr

structure PwrSt where
  /-- The power state in force: 0 `RUN` to 5 `OFF` (R409). -/
  state : Nat
  seq : Option PwrSeq
  /-- Rails on, by their place in R478 step 5. -/
  rails : List Nat
  up : Option PowerUp
  /-- Domains off when the entry committed, and `CB_MODE` of the save set (R415). -/
  offBefore : List Domain
  cbMode : Nat
  /-- A Dark window is open; energy in W times HCLK cycles and HCLK cycles by channel within it (R426). -/
  window : Bool
  dark : FMap (Rat × Nat)
  /-- HBM pages reserved for the Stage SRAM image (R499). -/
  reserved : List Nat
  deriving DecidableEq, Repr

/-! ### Boot and field update (R437 to R449) -/

/-- A chunk on its way to Wings: its store entry, its index and its bytes. -/
structure ChunkWrite where
  id : Nat
  index : Nat
  bytes : List Byte
  deriving DecidableEq, Repr

structure BootSt where
  /-- The package being read or checked: 0 none, 1 `ACTIVE`, 2 Wings, 3 the load window's, 4 a tandem's. -/
  pkg : Nat
  /-- The load window stands in place of the object aperture (R441). -/
  window : Bool
  /-- `COLD` has not released; configuration requests are answered with retry status (R440, R443). -/
  held : Bool
  retry : Bool
  /-- The root PLL has lost lock (R23). -/
  pllLost : Bool
  /-- Wings: 0 `EMPTY`, 1 `RECEIVING`, 2 `COMPLETE`, 3 `INSTALLING`, 4 `FAILED`; its kind, the check that failed, chunks in all,
  the package's identity, chunks marked. -/
  wings : Nat
  kind : Nat
  fail : Nat
  total : Nat
  pkgId : List Byte
  marks : List Nat
  chunks : List ChunkWrite
  /-- Boot flash; a byte not listed is erased. -/
  flash : FMap Byte
  /-- OTP counters, and the newer slot of the `CURTAIN` region. -/
  otpFw : Nat
  otpCur : Nat
  curSlot : Nat
  /-- Blocks left out at boot: register ranges that read as 0 (R444). -/
  leftOut : List (Nat × Nat)
  deriving DecidableEq, Repr

/-! ### The Prompt Book (R461 to R466) -/

/-- The live counts that no register shows: temperature bins (16 × group + bin), Curtain drops, resets by kind, brown-outs, power
losses, metering saves and those lost, memory errors by pseudo-channel (32: Stage SRAM), calibrations and rejections by lane, error
bins (8 × RX lane + bin), errors of each RX lane in the hour under way, and the next stub position. -/
structure PbkSt where
  temps : FMap Nat
  drops : Nat
  resets : FMap Nat
  brownouts : Nat
  losses : Nat
  saves : Nat
  savesLost : Nat
  ce : FMap Nat
  ue : FMap Nat
  cal : FMap Nat
  calRej : FMap Nat
  errs : FMap Nat
  errAt : FMap Nat
  stub : Nat
  deriving DecidableEq, Repr

/-! ### The state -/

structure State where
  /-- Register values by BAR0 offset (a 64-bit register by its low half's); an unlisted register holds its reset value. -/
  regs : FMap (BitVec 64)
  /-- Low halves written, waiting for the high half (R11). -/
  regLow : FMap (Option Word)
  /-- Latched values of the next reads (R11). -/
  regShadow : FMap (Option Word)
  /-- What has been sent, in order. -/
  sent : List Sent
  evt : EvtSt
  host : HostSt
  mem : MemSt
  obj : ObjSt
  /-- The configuration that holds every accepted cue, and the one that holds every cue applied to a frame. -/
  cfgAcc : CfgTab
  cfgApp : CfgTab
  /-- Accepted cues not yet applied, in order of acceptance. -/
  cues : List CueRec
  frames : List FrameRec
  /-- Frames that are over while calls posted for them still run (R127). -/
  gone : List FrameRec
  time : TimeSt
  cb : CbSt
  blk : BlkSt
  cmp : CmpSt
  fix : FixSt
  /-- Links by number; 64 and 65 are the tandem links. -/
  links : FMap LinkSt
  psh : FMap PushSt
  /-- Latched histories of Spot windows (R182). -/
  spt : FMap (List Nat)
  lmp : LmpSt
  /-- Signal-string ports. -/
  sig : FMap SigSt
  cur : CurSt
  /-- Queue blocks, Fly channels (those that have run), Ethernet ports and line ports by number. -/
  qb : FMap QbSt
  fly : FMap (Option FlySt)
  net : FMap NetSt
  line : FMap LineSt
  tdm : TdmSt
  mtr : MtrSt
  /-- The Fly channel served last (R387). -/
  flyTurn : Nat
  /-- Patch or sACN settings have changed since admission was computed (R303). -/
  sacnDue : Bool
  /-- Domains not powered (R25). -/
  off : List Domain
  /-- The part is held in `WARM` or `COLD` reset, or boots (R434). -/
  inReset : Bool
  pwr : PwrSt
  boot : BootSt
  pbk : PbkSt
  /-- Open choices made so far (the model's own). -/
  freeCtr : Nat
  /-- Commands waiting, first in, first out. -/
  pending : List Instr
  deriving DecidableEq, Repr

/-! ### Reset -/

/-- Every consumer that issues a standby by itself. -/
def allEngines : List Consumer :=
  (List.range 16).map .re ++ (List.range 32).map .fe ++ [.blk]

/-- A stage clock after `COLD`: 0, `FREE`, cause `COLD`, no rate and no reference (R70, R72). -/
def ClockSt.cold : ClockSt := ⟨0, false, 0, 0, 0, [], [], false⟩

/-- The KX64 right after `COLD` of a power-on: `COLD` is about to release and boot to begin (R440), every rail is on (R478), every
register holds its reset value, and memory, flash and the FRAM hold nothing that anything has written. -/
def State.reset : State where
  regs := []
  regLow := []
  regShadow := []
  sent := []
  evt := ⟨[], [], [], [], [], [], 0, 0⟩
  host := ⟨[], [], 0, [], [], false, false, false, 0, false, 512, false, false, []⟩
  mem := ⟨[], [], [], [], [], [], [], [], [], []⟩
  obj := ⟨[], [], []⟩
  cfgAcc := []
  cfgApp := []
  cues := []
  frames := []
  gone := []
  time := ⟨0, true, 0, 0, ClockSt.cold, ClockSt.cold, ⟨0, false, 0, 0, 0, 0, false⟩, [], 0, ⟨false, 0, 1, 1, 0, 0, 0, 0, 0, false⟩, none, 0, []⟩
  cb := ⟨[], [], allEngines, [], [], [], []⟩
  blk := ⟨[], [], [], [], 0, 0, [], [], [], [], none, none, false, false, 16384, 0⟩
  cmp := ⟨[], [], []⟩
  fix := ⟨[], [], [], [], [], [], [], [], [], 0, [], [], [], [], []⟩
  links := []
  psh := []
  spt := []
  lmp := ⟨[], []⟩
  sig := []
  cur := ⟨[], [], [], [], none, 0, [], [], false, false, false, 0, 0, 0, 0, [], [], [], 0, [], 0, 0⟩
  qb := []
  fly := []
  net := []
  line := []
  tdm := ⟨1, [], [], 0, false, false, [], false, [], [], [], [], [], 0, 1, [], [], none, [], 0, 0, 0, [], [], [], 1, []⟩
  mtr := ⟨[], [], [], none, none, 100000, 0, false, none, none, 0, false, [], [], []⟩
  flyTurn := 31
  sacnDue := false
  off := []
  inReset := true
  pwr := ⟨0, none, [0, 1, 2, 3, 4, 5, 6, 7, 8, 9], none, [], 0, false, [], []⟩
  boot := ⟨0, false, true, true, false, 0, 0, 0, 0, [], [], [], [], 0, 0, 0, []⟩
  pbk := ⟨[], 0, [(0, 1)], 0, 0, 0, 0, [], [], [], [], [], [], 0⟩
  freeCtr := 0
  pending := []

end Sys2Proof.Machine
end

