-- ==== Sys2Proof/Machine/Ops.lean ====
section
/-! DEFINITION. Operations over registers, memory, events and what the KX64 sends. -/

namespace Sys2Proof.Machine

/-! ### Registers -/

/-- The offset within one element of a register array, dimension by dimension. -/
def inElement : List (Nat × Nat) → Nat → Option Nat
  | [], rel => some rel
  | (stride, count) :: rest, rel => if rel / stride < count then inElement rest (rel % stride) else none

/-- The offset of the register (its low half) that holds byte offset `off`, if `r` does. -/
def RegDef.locate (r : RegDef) (off : Nat) : Option Nat :=
  if off < r.base then none
  else match inElement r.dims (off - r.base) with
    | some rel => if rel < (if r.wide then 8 else 4) then some (off - rel) else none
    | none => none

/-- The register at a byte offset: its definition and its low half's offset. -/
def findIn (off : Nat) : List RegDef → Option (RegDef × Nat)
  | [] => none
  | r :: rest => match r.locate off with
    | some b => some (r, b)
    | none => findIn off rest

/-- The register at a byte offset of BAR0 (R26). -/
def findReg (off : Nat) : Option (RegDef × Nat) :=
  regBlocks.foldl (fun acc b => match acc with
    | some x => some x
    | none => if b.1 ≤ off ∧ off < b.2.1 then findIn off b.2.2 else none) none

/-- The value the fields of a register reset to. -/
def RegDef.resetValue (r : RegDef) : Nat :=
  r.fields.foldl (fun v f => v + f.reset % 2 ^ f.width * 2 ^ f.lsb) 0

/-- The reset value of the register at `off`; 0 where no register lies. -/
@[irreducible] def resetVal (off : Nat) : BitVec 64 :=
  match findReg off with
  | some (r, _) => BitVec.ofNat 64 r.resetValue
  | none => 0

/-- The value of the register at `off`. -/
def State.rv (s : State) (off : Nat) : Nat := (s.regs.get (resetVal off) off).toNat

/-- A register takes a value. -/
def State.setRv (s : State) (off v : Nat) : State :=
  { s with regs := s.regs.put (resetVal off) off (BitVec.ofNat 64 v) }

/-- The value of a field. -/
def State.fld (s : State) (f : Fld) : Nat := bits (s.rv f.reg) f.lsb f.width

/-- A field takes a value; the register's other bits keep theirs. -/
def State.setFld (s : State) (f : Fld) (v : Nat) : State :=
  s.setRv f.reg (setBits (s.rv f.reg) f.lsb f.width v)

/-- A field as a truth value. -/
def State.flag (s : State) (f : Fld) : Bool := s.fld f != 0

/-- A counter field increments by `n`, wrapping at its width. -/
def State.bumpBy (s : State) (f : Fld) (n : Nat) : State := s.setFld f (s.fld f + n)

/-- A counter field increments. -/
def State.bump (s : State) (f : Fld) : State := s.bumpBy f 1

/-- A counter field increments and stays at its greatest value. -/
def State.bumpSat (s : State) (f : Fld) (n : Nat) : State :=
  s.setFld f (min (s.fld f + n) (2 ^ f.width - 1))

/-! ### Outputs, open choices -/

/-- Something leaves the KX64. -/
def State.send (s : State) (x : Sent) : State := { s with sent := s.sent ++ [x] }

/-- The value of the next open choice. -/
def State.freeVal (s : State) : Nat := Config.free s.freeCtr

/-- The next open choice has been made. -/
def State.freeStep (s : State) : State := { s with freeCtr := s.freeCtr + 1 }

/-- The element of a non-empty list that the open choice `v` selects. -/
def pickOf (v : Nat) (l : List Nat) : Nat := l.getD (v % l.length) 0

/-! ### Domains -/

/-- A domain is powered. -/
def State.powered (s : State) (d : Domain) : Bool := !s.off.contains d

/-- An engine cluster is powered and its clock runs; in `IDLE` it does not (R409). -/
def State.engineRuns (s : State) (d : Domain) : Bool := s.powered d && s.pwr.state != 1

/-- CORE works, and the event unit with it: CORE is powered, out of reset, and its clocks run (R409, R419, R498). -/
def State.evtUp (s : State) : Bool := s.powered .core && !s.inReset && s.time.running

/-- The register lies in a block that was left out at boot, and held in `BLOCK` reset since (R444). -/
def State.absent (s : State) (off : Nat) : Bool := s.boot.leftOut.any (fun r => decide (r.1 ≤ off ∧ off < r.2))

/-! ### Events (R69, R451 to R455) -/

/-- A 64-bit argument as two words, low word first. -/
def words2 (v : Nat) : List Nat := [v % 2 ^ 32, v / 2 ^ 32 % 2 ^ 32]

/-- Deferral of an event in a queue of 64; the second result says that it was dropped. -/
def deferTo (q : List (EvtRec × Nat)) (e : EvtRec) (rtc : Nat) : List (EvtRec × Nat) × Bool :=
  if q.length < 64 then (q ++ [(e, rtc)], false) else (q, true)

/-- A source holds an event until it presents it, at most 8 of them (R454). -/
def State.hold (s : State) (source code : Nat) (args : List Nat) : State :=
  if (s.evt.raised.filter (·.source = source)).length < 8 then
    { s with evt := { s.evt with
        raised := s.evt.raised ++ [⟨s.time.house, source, code, false, args.map (· % 2 ^ 32), s.evt.srcLost.get 0 source⟩]
        srcLost := s.evt.srcLost.put 0 source 0 } }
  else
    ({ s with evt := { s.evt with srcLost := s.evt.srcLost.modify 0 source (· + 1) } }).bump F.EVT_SRC_LOST_CNT.COUNT

/-- The Curtain queues an event of its own (R378). -/
def State.deferCurtain (s : State) (e : EvtRec) : State :=
  let r := deferTo s.evt.curQueue e s.time.rtc
  let s := { s with evt := { s.evt with curQueue := r.1 } }
  if r.2 then s.bump F.CUR_EVT_LOST_CNT.COUNT else s

/-- The Ghost Light keeps an event (R419). -/
def State.deferGhost (s : State) (e : EvtRec) : State :=
  let r := deferTo s.evt.glQueue e s.time.rtc
  let s := { s with evt := { s.evt with glQueue := r.1 } }
  if r.2 then s.bump F.GL_EVT_LOST_CNT.COUNT else s

/-- The sources whose events the Ghost Light keeps: its own, the metering front end, `GLB`, and the Prompt Book. -/
def ghostKeeps (source : Nat) : Bool := source == Src.ghostLight || source == Src.metering || source == Src.glb || source == Src.events

/-- A source raises an event. While the event unit takes none, the Ghost Light keeps those of R419 and the Curtain queues its own
(R378); every other source is itself in reset or unpowered. -/
def State.raise (s : State) (source code : Nat) (args : List Nat) : State :=
  let e : EvtRec := ⟨s.time.house, source, code, false, args.map (· % 2 ^ 32), 0⟩
  if s.evtUp then s.hold source code args
  else if source = Src.curtain then s.deferCurtain e
  else if ghostKeeps source then s.deferGhost e
  else s

/-- `RESERVED_ENCODING` (R14), raised under the source number of the agent that writes. The spec gives it no arguments. -/
def State.reservedEncoding (s : State) (source : Nat) : State := s.raise source E.RESERVED_ENCODING []

/-! ### Memory: HBM and Stage SRAM (R60 to R66) -/

/-- Bytes of HBM in the BAR4 layout, and of Stage SRAM. -/
def hbmBytes : Nat := 0x600000000
def sramBytes : Nat := 0x4000000
def hbmPages : Nat := 393216
def pagesPerPc : Nat := 12288
def sramBlocks : Nat := 16384
def pageSize : Nat := 65536
def blockSize : Nat := 4096

/-- Where a byte lies: HBM address in the BAR4 layout (R67), or Stage SRAM offset. -/
inductive Place where
  | hbm (a : Nat)
  | sram (a : Nat)
  deriving DecidableEq, Repr

/-- The number of the codeword that holds a place. -/
def Place.cw : Place → Nat
  | .hbm a => a / 16
  | .sram a => 2 ^ 31 + a / 16

/-- Reading of one byte. Memory that nothing has written reads 0 (R440; Stage SRAM: assumption 5). -/
def MemSt.byte (m : MemSt) : Place → Byte
  | .hbm a => m.hbm.get 0 a
  | .sram a => m.sram.get 0 a

/-- Writing of one byte. -/
def MemSt.setByte (m : MemSt) (p : Place) (b : Byte) : MemSt :=
  match p with
  | .hbm a => { m with hbm := m.hbm.put 0 a b }
  | .sram a => { m with sram := m.sram.put 0 a b }

/-- The place `n` bytes on. -/
def Place.add : Place → Nat → Place
  | .hbm a, n => .hbm (a + n)
  | .sram a, n => .sram (a + n)

/-- The pseudo-channel of a codeword, 32 for Stage SRAM. -/
def cwPc (cw : Nat) : Nat := if cw < 2 ^ 31 then cw * 16 / (pagesPerPc * pageSize) else 32

/-- HCLK cycles in a second. -/
def hclkPerSecond : Nat := 800000000

/-- A corrected error is counted, and reported at most once per second per pseudo-channel (R63). -/
def State.noteCe (s : State) (cw : Nat) : State :=
  let pc := cwPc cw
  let s := if pc = 32 then s.bump F.OBJ_SRAM_CE_CNT.COUNT else s.bump (F.OBJ_CE_CNT.COUNT pc)
  let s := { s with pbk := { s.pbk with ce := s.pbk.ce.modify 0 pc (· + 1) } }
  let n := s.mem.ceSince.get 0 pc + 1
  let told := s.mem.ceTold.get 0 pc
  if told = 0 ∨ told - 1 + hclkPerSecond ≤ s.time.house then
    ({ s with mem := { s.mem with ceSince := s.mem.ceSince.put 0 pc 0
                                  ceTold := s.mem.ceTold.put 0 pc (s.time.house + 1) } }).raise
      Src.obj E.ECC_CE [n]
  else { s with mem := { s.mem with ceSince := s.mem.ceSince.put 0 pc n } }

/-- The address `OBJ_LAST_UE` and `ECC_UE` give for a codeword: its BAR4 address, or its Stage SRAM offset with bit 40. -/
def ueAddr (cw : Nat) : Nat := if cw < 2 ^ 31 then cw * 16 else (cw - 2 ^ 31) * 16 + 2 ^ 40

/-- An uncorrectable error is counted, latched and reported (R63). -/
def State.noteUe (s : State) (cw : Nat) : State :=
  let pc := cwPc cw
  let s := if pc = 32 then s.bump F.OBJ_SRAM_UE_CNT.COUNT else s.bump (F.OBJ_UE_CNT.COUNT pc)
  let s := { s with pbk := { s.pbk with ue := s.pbk.ue.modify 0 pc (· + 1) } }
  let s := s.setRv R.OBJ_LAST_UE (ueAddr cw)
  s.raise Src.obj E.ECC_UE (words2 (ueAddr cw))

/-- The codewords that `n` bytes from a place touch, in ascending order. -/
def cwsOf (p : Place) (n : Nat) : List Nat :=
  if n = 0 then []
  else (List.range ((p.add (n - 1)).cw - p.cw + 1)).map (p.cw + ·)

/-- The bytes from a place, as stored. -/
def MemSt.bytesAt (m : MemSt) (p : Place) (n : Nat) : List Byte :=
  match p with
  | .hbm a => m.hbm.getList 0 a n
  | .sram a => m.sram.getList 0 a n

/-- Writing of bytes from a place, as stored. -/
def MemSt.putBytes (m : MemSt) (p : Place) (bs : List Byte) : MemSt :=
  match p with
  | .hbm a => { m with hbm := m.hbm.putList 0 a bs }
  | .sram a => { m with sram := m.sram.putList 0 a bs }

/-- A codeword that `n` bytes from a place cover whole. -/
def cwWhole (p : Place) (n cw : Nat) : Bool :=
  let first := match p with | .hbm a => a | .sram a => a + 2 ^ 35
  decide (first ≤ cw * 16 ∧ cw * 16 + 16 ≤ first + n)

/-- The codewords that a write of `n` bytes covers in part: it reads them first (R62). They are the first or the last touched. -/
def partCws (p : Place) (n : Nat) : List Nat :=
  if n = 0 then [] else ([p.cw, (p.add (n - 1)).cw].dedup).filter (fun cw => !cwWhole p n cw)

/-- The marks of the codewords a write touches (R62): a codeword written whole loses its marks; one written in part is
read and written back, which removes a correctable error and keeps the poison. -/
def MemSt.remark (m : MemSt) (p : Place) (n : Nat) : MemSt :=
  if n = 0 then m
  else
    let touched := cwsOf p n
    { m with ce := m.ce.filter (fun cw => !touched.contains cw)
             ue := m.ue.filter (fun cw => !(touched.contains cw && cwWhole p n cw)) }

/-- Error injection into the next write of a whole codeword to the chosen memory (R66). -/
def State.inject (s : State) (p : Place) (n : Nat) : State :=
  let mode := s.fld F.OBJ_INJECT.MODE
  if mode = 0 then s
  else
    match (cwsOf p n).find? (fun cw => cwPc cw == s.fld F.OBJ_INJECT.TARGET && cwWhole p n cw) with
    | none => s
    | some cw =>
      let s := if mode = 1 then { s with mem := { s.mem with ce := s.mem.ce ++ [cw] } }
        else { s with mem := { s.mem with ue := s.mem.ue ++ [cw] } }
      s.setFld F.OBJ_INJECT.MODE 0

/-! ### Curtain SRAM (R354, R363 to R367, R373) -/

/-- What a byte of Curtain SRAM holds unless the image or a `COMMIT` sets it: 0, but for a window's `MODE`, a pattern's `FLASH_MS`
of 500 (R180, R367), and the `ROUTE` of a fixture look, which is disabled (assumption 60). -/
def curDefault (a : Nat) : Byte :=
  if 0x030B2000 ≤ a ∧ a < 0x030B2080 then
    (if a % 8 = 4 then BitVec.ofNat 8 244 else if a % 8 = 5 then BitVec.ofNat 8 1 else BitVec.ofNat 8 0)
  else if 0x03002000 ≤ a ∧ a < 0x03002200 ∧ a % 32 = 0 then BitVec.ofNat 8 4
  else if 0x03070000 ≤ a ∧ a < 0x030B0000 ∧ a % 64 = 0 then BitVec.ofNat 8 3 else BitVec.ofNat 8 0

def State.curByte (s : State) (a : Nat) : Byte := s.cur.sram.get (curDefault a) a
def State.curBytes (s : State) (a n : Nat) : List Byte := (List.range n).map (fun k => s.curByte (a + k))

/-! ### Boot names (R440 to R447) and flash (R437) -/

/-- States of `GLB_BOOT`, its sources, the packages that the ROM reads, and the states of Wings. -/
def btRom : Nat := 0
def btLoading : Nat := 1
def btVerifying : Nat := 2
def btStarting : Nat := 3
def btReady : Nat := 4
def btFailed : Nat := 5
def srcFlash : Nat := 0
def srcHost : Nat := 1
def srcTandem : Nat := 2
def pkgActive : Nat := 1
def pkgWings : Nat := 2
def pkgWindow : Nat := 3
def pkgTandem : Nat := 4
def wgEmpty : Nat := 0
def wgReceiving : Nat := 1
def wgComplete : Nat := 2
def wgInstalling : Nat := 3
def wgFailed : Nat := 4

/-- An erased byte. -/
def flashBlank : Byte := 0xFF
def State.flashBytes (s : State) (a n : Nat) : List Byte := FMap.getList flashBlank s.boot.flash a n
def State.flashErase (s : State) (a n : Nat) : State :=
  { s with boot := { s.boot with flash := s.boot.flash.filter (fun e => !decide (a ≤ e.1 ∧ e.1 < a + n)) } }
def State.flashProgram (s : State) (a : Nat) (b : List Byte) : State :=
  { s with boot := { s.boot with flash := s.boot.flash.putList flashBlank a b } }

/-- Where the `ACTIVE` package lies, and its bytes by its header (R446). -/
def activeAt : Nat := 0x00100000
def State.activeBytes (s : State) : Nat := leNat (s.flashBytes (activeAt + 0xC) 2) * 4096

/-- The boot ROM runs as the node of the tandem links (R442). -/
def State.romNode (s : State) : Bool :=
  s.inReset && !s.boot.held && s.time.running && s.powered .core && s.fld F.GLB_BOOT.SOURCE == srcTandem

/-! ### The answer of a command -/

/-- The queue of waiting commands as it was: no command puts a command into it. -/
def State.keepQueue (s t : State) : State := { t with pending := s.pending }

/-- What a command leaves when it resets no clock: a command takes no time, so the house clock and the real-time clock
stand as they did (assumption 2), and so does the queue. -/
def State.settle (s t : State) : State :=
  { t with pending := s.pending
           time := { t.time with house := s.time.house, rtc := s.time.rtc, rtcFrac := s.time.rtcFrac } }

/-- The answer of a command whose effect leads from `s` to `t`. -/
def State.done (s t : State) : Host.Outcome State Fault Refusal := .next (s.settle t)

/-- An effect that takes place only where its condition holds: a command that stands for a happening which cannot
come about in this state changes nothing (assumption 8). -/
def State.when (s : State) (c : Bool) (t : State) : State := if c then t else s

/-- A frame's record changes, also that of a frame that is over while its calls still run (R127). -/
def State.updFrame (s : State) (seq : Nat) (f : FrameRec → FrameRec) : State :=
  { s with frames := s.frames.map (fun x => if x.seq = seq then f x else x)
           gone := s.gone.map (fun x => if x.seq = seq then f x else x) }

end Sys2Proof.Machine
end

