-- ==== Sys2Proof/Machine/Rings.lean ====
section
/-! DEFINITION. Rings, the descriptor store, completions and MSI-X causes (R30 to R52), as shared operations. -/

namespace Sys2Proof.Machine

/-- A ring after reset: empty, its first completion or event entry to carry `PHASE` 1 (R47). -/
def ringReset : RingSt := ⟨0, 0, 0, 0, true, false, none, 0, false, [], 0, 0, 0, 0⟩

/-- A vector after reset: masked, as PCIe has it (assumption 6). -/
def vecReset : VecSt := ⟨true, false, false, none, 0, 0⟩

def State.ring (s : State) (n : Nat) : RingSt := s.host.rings.get ringReset n

def State.setRing (s : State) (n : Nat) (r : RingSt) : State :=
  { s with host := { s.host with rings := s.host.rings.put ringReset n r } }

def State.vec (s : State) (v : Nat) : VecSt := s.host.vecs.get vecReset v

def State.setVec (s : State) (v : Nat) (x : VecSt) : State :=
  { s with host := { s.host with vecs := s.host.vecs.put vecReset v x } }

def State.setStore (s : State) (l : List StoreEntry) : State := { s with host := { s.host with store := l } }

/-- Ring classes (R30). -/
def clsOff : Nat := 0
def clsShow : Nat := 1
def clsMgmt : Nat := 2
def clsEvent : Nat := 3

def State.ringClass (s : State) (n : Nat) : Nat := s.fld (F.HST_RING_CFG.CLASS n)
def State.ringEnabled (s : State) (n : Nat) : Bool := s.flag (F.HST_RING_CFG.ENABLE n)
/-- Descriptor slots (R30). -/
def State.ringSlots (s : State) (n : Nat) : Nat := 2 ^ s.fld (F.HST_RING_CFG.SIZE_LOG2 n)
/-- Completion or event entries (R30). -/
def State.cqSlots (s : State) (n : Nat) : Nat := 2 ^ s.fld (F.HST_RING_CFG.CQ_SIZE_LOG2 n)
/-- A ring holds descriptors. -/
def State.isDescRing (s : State) (n : Nat) : Bool :=
  s.ringEnabled n && (s.ringClass n == clsShow || s.ringClass n == clsMgmt)
def State.isEventRing (s : State) (n : Nat) : Bool := s.ringEnabled n && s.ringClass n == clsEvent

/-- Store entries a ring holds (R37). -/
def State.heldBy (s : State) (n : Nat) : Nat := (s.host.store.filter (·.ring = n)).length

/-- A vector's cause arises (R50). -/
def State.signal (s : State) (n : Nat) : State :=
  let v := s.fld (F.HST_RING_CFG.VEC n)
  s.setVec v { s.vec v with cause := true }

/-- A ring stops (R35): `STOPPED` is set and its vector signals (R50). -/
def State.stopRing (s : State) (n : Nat) : State :=
  (s.setRing n { s.ring n with stopped := true }).signal n

/-! ### Store entries -/

def State.entry? (s : State) (id : Nat) : Option StoreEntry := s.host.store.find? (·.id = id)

def State.updEntry (s : State) (id : Nat) (f : StoreEntry → StoreEntry) : State :=
  s.setStore (s.host.store.map (fun e => if e.id = id then f e else e))

def State.dropEntry (s : State) (id : Nat) : State := s.setStore (s.host.store.filter (·.id ≠ id))

/-- Fields of a descriptor (R39). -/
def StoreEntry.opcode (e : StoreEntry) : Nat := fieldAt e.bytes 0 1
def StoreEntry.flags (e : StoreEntry) : Nat := fieldAt e.bytes 1 1
def StoreEntry.fence (e : StoreEntry) : Bool := bit e.flags 0
def StoreEntry.nocompl (e : StoreEntry) : Bool := bit e.flags 1
def StoreEntry.irq (e : StoreEntry) : Bool := bit e.flags 2
def StoreEntry.inline_ (e : StoreEntry) : Bool := bit e.flags 3
def StoreEntry.tag (e : StoreEntry) : Nat := fieldAt e.bytes 2 2
def StoreEntry.length (e : StoreEntry) : Nat := fieldAt e.bytes 4 4
def StoreEntry.handle (e : StoreEntry) : Nat := fieldAt e.bytes 8 4
def StoreEntry.arg0 (e : StoreEntry) : Nat := fieldAt e.bytes 12 4
def StoreEntry.hostAddr (e : StoreEntry) : Nat := fieldAt e.bytes 16 8
def StoreEntry.offset (e : StoreEntry) : Nat := fieldAt e.bytes 24 8
def StoreEntry.param (e : StoreEntry) : List Byte := slice e.bytes 32 32

/-- Status codes (R45). -/
def St.ok : Nat := 0x00
def St.zeroLength : Nat := 0x01
def St.late : Nat := 0x02
def St.malformed : Nat := 0x10
def St.badOpcode : Nat := 0x11
def St.wrongRing : Nat := 0x12
def St.staleHandle : Nat := 0x13
def St.badKind : Nat := 0x14
def St.outOfRange : Nat := 0x15
def St.noSpace : Nat := 0x16
def St.noHandle : Nat := 0x17
def St.inUse : Nat := 0x18
def St.refused : Nat := 0x19
def St.uncorrectable : Nat := 0x1A
def St.hostAbort : Nat := 0x1B
def St.flushed : Nat := 0x1C

/-- A descriptor finishes with a status and a result (R37, R39, R52): it is counted; without a completion to write
it leaves the store, otherwise its completion waits. -/
def State.finish (s : State) (id status result : Nat) : State :=
  match s.entry? id with
  | none => s
  | some e =>
    let s := s.bump (F.HST_RING_DONE_CNT.COUNT e.ring)
    let s := if status = St.ok ∨ status = St.zeroLength ∨ status = St.late then s
      else s.bump (F.HST_RING_ERR_CNT.COUNT e.ring)
    if e.orphan ∨ (e.nocompl ∧ status = St.ok) then s.dropEntry id
    else
      let s := s.updEntry id (fun e => { e with phase := .finished, status := status, result := result % 2 ^ 32 })
      let r := s.ring e.ring
      s.setRing e.ring { r with waiting := r.waiting ++ [id] }

/-- A descriptor begins (R51). -/
def State.begin (s : State) (id : Nat) : State := s.updEntry id (fun e => { e with phase := .begun })

/-- The completion queue is full (R48). -/
def State.cqFull (s : State) (n : Nat) : Bool :=
  let r := s.ring n
  (r.cqTail + 1) % s.cqSlots n == r.cqHead

/-- The bytes of a completion entry (R47). -/
def completionBytes (e : StoreEntry) (r : RingSt) (house : Nat) : List Byte :=
  leBytes 2 e.tag ++ leBytes 1 e.status ++ leBytes 1 (e.opcode % 128 + b2n r.phase * 128) ++
  leBytes 2 e.slot ++ leBytes 2 r.fetchHead ++ leBytes 4 e.result ++ leBytes 4 house

/-- Host address of a ring's completion queue or event ring (`HST_RING_n_CQ`). -/
def State.cqBase (s : State) (n : Nat) : Nat := s.fld (F.HST_RING_CQ.ADDR n) * 4096
/-- Host address of a descriptor ring. -/
def State.ringBase (s : State) (n : Nat) : Nat := s.fld (F.HST_RING_BASE.ADDR n) * 4096

/-- The next entry of a completion queue or event ring has been written: the tail advances and `PHASE` inverts on
each wrap. -/
def State.advanceCq (s : State) (n : Nat) : State :=
  let r := s.ring n
  let t := (r.cqTail + 1) % s.cqSlots n
  s.setRing n { r with cqTail := t, phase := if t = 0 then !r.phase else r.phase }

/-- `CQ_FULL` is raised once when the queue fills, and again only after it has drained (R48). -/
def State.noteFull (s : State) (n : Nat) : State :=
  let r := s.ring n
  if s.cqFull n then
    if r.cqFullTold then s else (s.setRing n { r with cqFullTold := true }).raise Src.rings E.CQ_FULL [n]
  else s.setRing n { r with cqFullTold := false }

/-- The head-vector word of a ring (R36). -/
def State.headWord (s : State) (n : Nat) : Nat :=
  let r := s.ring n
  if s.ringClass n = clsEvent then r.cqTail * 2 ^ 16 else r.fetchHead + r.cqTail * 2 ^ 16

/-! ### Begun order (R39, R46, R51) -/

/-- An earlier descriptor no longer holds back a fence: it has finished, or it is a cue that has been accepted. -/
def State.pastFence (s : State) (x : StoreEntry) : Bool :=
  x.phase == .finished || (x.phase == .begun && x.opcode == 0x10 && !s.host.openCues.any (·.id == x.id))

/-- Every earlier descriptor of the ring has completed; a `CUE` counts once it is accepted. -/
def State.fenceOpen (s : State) (e : StoreEntry) : Bool :=
  s.host.store.all (fun x => x.ring ≠ e.ring || e.id ≤ x.id || s.pastFence x)

/-- A descriptor of the ring that has begun and not finished names the same handle (R46). -/
def State.handleBusy (s : State) (e : StoreEntry) : Bool :=
  e.handle != 0 && s.host.store.any (fun x => x.ring = e.ring && decide (x.id < e.id) && x.phase == .begun && x.handle == e.handle)

/-- The ring's oldest descriptor not yet begun. -/
def State.oldest (s : State) (n : Nat) : Option StoreEntry :=
  s.host.store.find? (fun e => e.ring = n && (e.phase == .fetching || e.phase == .arrived))

/-- The ring's oldest descriptor not yet begun, when it may begin: it has arrived and is no member of a cue, with `FENCE` every
earlier descriptor has completed, and none under way names its handle. -/
def State.nextToBegin (s : State) (n : Nat) : Option StoreEntry :=
  match s.oldest n with
  | none => none
  | some e =>
    if e.phase == .arrived && e.member.isNone && (!e.fence || s.fenceOpen e) && !s.handleBusy e then some e else none

end Sys2Proof.Machine
end

