-- ==== Sys2Proof/Machine/Num.lean ====
section
/-! DEFINITION. Floating-point numbers: an exact rational, an infinity or NaN, and rounding to binary16,
binary32 and binary64 (to nearest, ties to even). The sign of a zero is not kept (assumption 3). -/

namespace Sys2Proof.Machine

/-- A floating-point value. -/
inductive FP where
  | nan
  | inf (neg : Bool)
  | fin (q : Rat)
  deriving DecidableEq, Repr

/-- A binary format: significand bits `p`, least exponent of a normal number, greatest exponent. -/
structure Fmt where
  p : Nat
  emin : Int
  emax : Int
  deriving DecidableEq, Repr

def binary16 : Fmt := ⟨11, -14, 15⟩
def binary32 : Fmt := ⟨24, -126, 127⟩
def binary64 : Fmt := ⟨53, -1022, 1023⟩

/-- 2^e for an integer e. -/
def pow2 (e : Int) : Rat := if 0 ≤ e then ((2 ^ e.toNat : Nat) : Rat) else 1 / ((2 ^ (-e).toNat : Nat) : Rat)

/-- ⌊log₂ q⌋ of a positive rational. -/
def floorLog2 (q : Rat) : Int :=
  let e : Int := (Nat.log2 q.num.natAbs : Int) - (Nat.log2 q.den : Int)
  if q < pow2 e then e - 1 else e

/-- Round to nearest integer, ties to even. -/
def roundEven (q : Rat) : Int :=
  let f := q.floor
  let r := q - f
  if r < 1 / 2 then f else if 1 / 2 < r then f + 1 else if f % 2 = 0 then f else f + 1

/-- Rounding of an exact value to a format. -/
def Fmt.round (m : Fmt) (q : Rat) : FP :=
  if q = 0 then .fin 0
  else
    let a : Rat := if q < 0 then -q else q
    let e := max (floorLog2 a) m.emin
    let ulp := pow2 (e - (m.p : Int) + 1)
    let v : Rat := (roundEven (a / ulp) : Rat) * ulp
    if pow2 (m.emax + 1) ≤ v then .inf (decide (q < 0))
    else .fin (if q < 0 then -v else v)

/-- The stored bits of a value in a format with `w` bits in all. A NaN is stored as the quiet NaN. -/
def Fmt.encode (m : Fmt) (w : Nat) (x : FP) : Nat :=
  let mant := m.p - 1
  let ebits := w - m.p
  match x with
  | .nan => (2 ^ ebits - 1) * 2 ^ mant + 2 ^ (mant - 1)
  | .inf neg => b2n neg * 2 ^ (w - 1) + (2 ^ ebits - 1) * 2 ^ mant
  | .fin q =>
    if q = 0 then 0
    else
      let a : Rat := if q < 0 then -q else q
      let e := max (floorLog2 a) m.emin
      let n := (a / pow2 (e - (m.p : Int) + 1)).floor.toNat
      let biased := if n < 2 ^ mant then 0 else (e - m.emin + 1).toNat
      b2n (decide (q < 0)) * 2 ^ (w - 1) + biased * 2 ^ mant + n % 2 ^ mant

/-- The value that stored bits hold. -/
def Fmt.decode (m : Fmt) (w : Nat) (v : Nat) : FP :=
  let mant := m.p - 1
  let ebits := w - m.p
  let neg := bit v (w - 1)
  let e := bits v mant ebits
  let f := bits v 0 mant
  if e = 2 ^ ebits - 1 then (if f = 0 then .inf neg else .nan)
  else
    let q : Rat := if e = 0 then (f : Rat) * pow2 (m.emin - (mant : Int))
      else ((f + 2 ^ mant : Nat) : Rat) * pow2 (m.emin + (e : Int) - 1 - (mant : Int))
    .fin (if neg then -q else q)

def f32 (v : Nat) : FP := binary32.decode 32 v
def f16 (v : Nat) : FP := binary16.decode 16 v
def f32bits (x : FP) : Nat := binary32.encode 32 x
def f16bits (x : FP) : Nat := binary16.encode 16 x

/-- The rational of a finite value, 0 of any other. -/
def FP.toRat : FP → Rat
  | .fin q => q
  | _ => 0

def FP.isFin : FP → Bool
  | .fin _ => true
  | _ => false

/-- Each operation rounds its exact result (the exceptional cases as IEEE 754 has them). -/
def FP.add (m : Fmt) : FP → FP → FP
  | .fin a, .fin b => m.round (a + b)
  | .nan, _ => .nan
  | _, .nan => .nan
  | .inf s, .inf t => if s = t then .inf s else .nan
  | .inf s, _ => .inf s
  | _, .inf t => .inf t

def FP.neg : FP → FP
  | .fin a => .fin (-a)
  | .inf s => .inf (!s)
  | .nan => .nan

def FP.sub (m : Fmt) (a b : FP) : FP := FP.add m a b.neg

def FP.isNeg : FP → Bool
  | .fin a => decide (a < 0)
  | .inf s => s
  | .nan => false

def FP.mul (m : Fmt) : FP → FP → FP
  | .fin a, .fin b => m.round (a * b)
  | .nan, _ => .nan
  | _, .nan => .nan
  | a, b => if a = .fin 0 ∨ b = .fin 0 then .nan else .inf (a.isNeg != b.isNeg)

def FP.div (m : Fmt) : FP → FP → FP
  | .fin a, .fin b => if b = 0 then (if a = 0 then .nan else .inf (decide (a < 0))) else m.round (a / b)
  | .nan, _ => .nan
  | _, .nan => .nan
  | .inf _, .inf _ => .nan
  | .inf s, b => .inf (s != b.isNeg)
  | .fin _, .inf _ => .fin 0

/-- Shorthands for binary32 arithmetic on exact values, each result rounded. -/
def r32 (q : Rat) : Rat := (binary32.round q).toRat
def r16 (q : Rat) : Rat := (binary16.round q).toRat
def r64 (q : Rat) : Rat := (binary64.round q).toRat
def r32bits (q : Rat) : Nat := f32bits (binary32.round q)

/-- Bit-by-bit ⌊n^(1/k)⌋ from bit `b` − 1 down. -/
def irootGo (k n : Nat) : Nat → Nat → Nat
  | 0, acc => acc
  | b + 1, acc => if (acc + 2 ^ b) ^ k ≤ n then irootGo k n b (acc + 2 ^ b) else irootGo k n b acc

/-- ⌊n^(1/k)⌋. -/
def iroot (k n : Nat) : Nat := irootGo k n (Nat.log2 n / k + 1) 0

/-- q^(1/k) of a non-negative rational to `prec` fractional bits, rounded down. -/
def rootRat (k prec : Nat) (q : Rat) : Rat :=
  if q ≤ 0 then 0
  else (iroot k ((q * ((2 ^ (k * prec) : Nat) : Rat)).floor.toNat) : Rat) / ((2 ^ prec : Nat) : Rat)

def ratMax (a b : Rat) : Rat := if a < b then b else a
def ratMin (a b : Rat) : Rat := if b < a then b else a
def ratAbs (a : Rat) : Rat := if a < 0 then -a else a
def clampRat (lo hi x : Rat) : Rat := if x < lo then lo else if hi < x then hi else x

end Sys2Proof.Machine
end

