-- ==== Sys2Proof/Machine/Pixel.lean ====
section
/-! DEFINITION. Source pixels, blending and the gather filters, exact to the bit (R142 to R151, R158, R159). Nothing
here depends on the state: the bytes read are arguments. -/

namespace Sys2Proof.Machine

/-! ### Rounding (R144) -/

/-- A value as stored in binary16, and the number of replacements counted (R144). -/
def sanitize16 (x : FP) : Rat × Nat :=
  match x with
  | .nan => (0, 1)
  | .inf neg => (if neg then -65504 else 65504, 1)
  | .fin q =>
    match binary16.round q with
    | .fin v => (v, 0)
    | .inf neg => (if neg then -65504 else 65504, 1)
    | .nan => (0, 1)

/-- A premultiplied colour: R, G, B and alpha. -/
structure Pix where
  r : Rat
  g : Rat
  b : Rat
  a : Rat
  deriving DecidableEq, Repr

def Pix.zero : Pix := ⟨0, 0, 0, 0⟩

/-- Four values rounded under R144, alpha clamped, with the replacements counted. -/
def finishPix (r g b a : FP) : Pix × Nat :=
  let (r', n1) := sanitize16 r
  let (g', n2) := sanitize16 g
  let (b', n3) := sanitize16 b
  let (a', n4) := sanitize16 a
  (⟨r', g', b', clampRat 0 1 a'⟩, n1 + n2 + n3 + n4)

/-- The stored bytes of a canvas pixel (R139). -/
def Pix.bytes (p : Pix) : List Byte :=
  leBytes 2 (f16bits (.fin p.r)) ++ leBytes 2 (f16bits (.fin p.g)) ++ leBytes 2 (f16bits (.fin p.b)) ++
    leBytes 2 (f16bits (.fin p.a))

/-- A canvas pixel from its stored bytes. -/
def pixOfBytes (b : List Byte) : Pix :=
  ⟨(f16 (fieldAt b 0 2)).toRat, (f16 (fieldAt b 2 2)).toRat, (f16 (fieldAt b 4 2)).toRat, (f16 (fieldAt b 6 2)).toRat⟩

/-! ### Transfer functions (R143, step 3) -/

/-- x^(p/q) of a non-negative rational to 192 fractional bits. -/
def ratPow (x : Rat) (p q : Nat) : Rat := rootRat q 192 (x ^ p)

def transferLinear : Nat := 0
def transferSrgb : Nat := 1
def transferBt1886 : Nat := 2
def transferPq : Nat := 3

/-- The exact function of a transfer, before rounding to binary32. -/
def transferExact (t : Nat) (v : Rat) : Rat :=
  if t = transferSrgb then
    if v ≤ 4045 / 100000 then v / (1292 / 100) else ratPow ((v + 55 / 1000) / (1055 / 1000)) 12 5
  else if t = transferBt1886 then ratPow v 12 5
  else
    let n := ratPow v 32 2523
    let c1 : Rat := 3424 / 4096
    let c2 : Rat := 2413 / 128
    let c3 : Rat := 2392 / 128
    ratPow (ratMax (n - c1) 0 / (c2 - c3 * n)) 8192 1305 * (10000 / 203)

/-- Clamp to [0, 1] with its count, then the lookup. -/
def transfer (t : Nat) (x : FP) : FP × Nat :=
  if t = transferLinear then (x, 0)
  else
    match x with
    | .nan => (.fin (r32 (transferExact t 0)), 1)
    | .inf neg => (.fin (r32 (transferExact t (if neg then 0 else 1))), 1)
    | .fin q => (.fin (r32 (transferExact t (clampRat 0 1 q))), 0)

/-! ### Decoding (R141 to R144) -/

/-- What decoding needs of a source or graphic (R141, R145). -/
structure SrcInfo where
  format : Nat
  transfer : Nat
  prim2020 : Bool
  full : Bool
  straight : Bool
  coverage : Nat
  w : Nat
  h : Nat
  stride : Nat
  deriving DecidableEq, Repr

def fmtRgba8 : Nat := 1
def fmtRgb10a2 : Nat := 2
def fmtRgba16f : Nat := 3
def fmtYcc : Nat := 4
def covCompute : Nat := 0
def covOpaque : Nat := 1
def covNone : Nat := 2

/-- Bytes per pixel (R142). -/
def fmtBytes (f : Nat) : Nat := if f = fmtRgba16f then 8 else 4

/-- Row stride (R142). -/
def strideOf (f w : Nat) : Nat := ceilDiv (w * fmtBytes f) 16 * 16

/-- A `SOURCE` from its parameters (R141). -/
def sourceInfo (param : List Byte) : SrcInfo :=
  let f := fieldAt param 0 1
  let fl := fieldAt param 3 1
  let w := fieldAt param 4 2
  ⟨f, fieldAt param 1 1, fieldAt param 2 1 == 1, bit fl 0, bit fl 1, bits fl 2 2, w, fieldAt param 6 2, strideOf f w⟩

/-- A `GRAPHIC` from its parameters (R145; their layout: assumption 21). -/
def graphicInfo (param : List Byte) : SrcInfo :=
  let w := fieldAt param 0 2
  ⟨fmtRgba8, transferSrgb, false, false, true, covCompute, w, fieldAt param 2 2, 4 * w⟩

/-- Byte offset of the storage of pixel (x, y): of its pair for `YCC422_10`. -/
def SrcInfo.offset (i : SrcInfo) (x y : Nat) : Nat :=
  if i.format = fmtYcc then y * i.stride + x / 2 * 8 else y * i.stride + x * fmtBytes i.format

def fmul (a b : FP) : FP := FP.mul binary32 a b
def fadd (a b : FP) : FP := FP.add binary32 a b
def fsub (a b : FP) : FP := FP.sub binary32 a b
def fconst (q : Rat) : FP := .fin (r32 q)
def fdivN (n d : Nat) : FP := .fin (r32 ((n : Rat) / (d : Rat)))

/-- Steps 1 and 2 of R143: colour and alpha before the transfer, from the bytes at an offset of the object. -/
def decodeRaw (i : SrcInfo) (read : Nat → Byte) (x y : Nat) : FP × FP × FP × FP :=
  let at_ : Nat → Nat → Nat := fun off n => leNat ((List.range n).map (fun k => read (off + k)))
  let o := i.offset x y
  if i.format = fmtRgba8 then
    (fdivN (at_ o 1) 255, fdivN (at_ (o + 1) 1) 255, fdivN (at_ (o + 2) 1) 255, fdivN (at_ (o + 3) 1) 255)
  else if i.format = fmtRgb10a2 then
    let w := at_ o 4
    (fdivN (bits w 0 10) 1023, fdivN (bits w 10 10) 1023, fdivN (bits w 20 10) 1023, fdivN (bits w 30 2) 3)
  else if i.format = fmtRgba16f then
    (f16 (at_ o 2), f16 (at_ (o + 2) 2), f16 (at_ (o + 4) 2), f16 (at_ (o + 6) 2))
  else
    let s10 : Nat → Nat := fun off => at_ off 2 % 1024
    let yv := s10 (o + if x % 2 = 0 then 2 else 6)
    let last := i.w ≤ x + 1
    let chroma : Nat → FP := fun k =>
      if x % 2 = 0 ∨ last then .fin (s10 (o + k) : Nat)
      else fmul (fadd (.fin (s10 (o + k) : Nat)) (.fin (s10 (o + 8 + k) : Nat))) (fconst (1 / 2))
    let y' := if i.full then fdivN yv 1023 else FP.div binary32 (fsub (.fin (yv : Nat)) (.fin 64)) (.fin 876)
    let c' : Nat → FP := fun k => FP.div binary32 (fsub (chroma k) (.fin 512)) (.fin (if i.full then 1023 else 896))
    let cb := c' 0
    let cr := c' 4
    let (kr, kgb, kgr, kb) : Rat × Rat × Rat × Rat :=
      if i.prim2020 then (14746 / 10000, 164553 / 1000000, 571353 / 1000000, 18814 / 10000)
      else (15748 / 10000, 187324 / 1000000, 468124 / 1000000, 18556 / 10000)
    let half : FP → FP := fun v => .fin (sanitize16 v).1
    (half (fadd y' (fmul (fconst kr) cr)),
     half (fsub (fsub y' (fmul (fconst kgb) cb)) (fmul (fconst kgr) cr)),
     half (fadd y' (fmul (fconst kb) cb)), .fin 1)

/-- One row of a matrix, summed left to right. -/
def rowSum (a b c : Rat) (r g bl : FP) : FP :=
  fadd (fadd (fmul (fconst a) r) (fmul (fconst b) g)) (fmul (fconst c) bl)

/-- The primaries conversion of R143, step 4. -/
def convertPrimaries (src2020 canvas2020 : Bool) (r g b : FP) : FP × FP × FP :=
  if src2020 = canvas2020 then (r, g, b)
  else if canvas2020 then
    (rowSum (6274 / 10000) (3293 / 10000) (433 / 10000) r g b,
     rowSum (691 / 10000) (9195 / 10000) (114 / 10000) r g b,
     rowSum (164 / 10000) (880 / 10000) (8956 / 10000) r g b)
  else
    (rowSum (16605 / 10000) (-5876 / 10000) (-728 / 10000) r g b,
     rowSum (-1246 / 10000) (11329 / 10000) (-83 / 10000) r g b,
     rowSum (-182 / 10000) (-1006 / 10000) (11187 / 10000) r g b)

/-- A decoded source pixel and the replacements counted (R143, R144). -/
def decodePixel (i : SrcInfo) (canvas2020 : Bool) (read : Nat → Byte) (x y : Nat) : Pix × Nat :=
  let (r0, g0, b0, a0) := decodeRaw i read x y
  let (r1, n1) := transfer i.transfer r0
  let (g1, n2) := transfer i.transfer g0
  let (b1, n3) := transfer i.transfer b0
  let (r2, g2, b2) := convertPrimaries i.prim2020 canvas2020 r1 g1 b1
  let a := if i.coverage = covOpaque then .fin 1 else a0
  let m : FP → FP := fun v => if i.straight then fmul v a else v
  let (p, n4) := finishPix (m r2) (m g2) (m b2) a
  (p, n1 + n2 + n3 + n4)

/-! ### Coverage (R148) -/

/-- Coverage classes; their 2-bit codes are the model's (assumption 22). -/
def cEmpty : Nat := 0
def cOpaque : Nat := 1
def cMixed : Nat := 2

/-- Blocks of 16 × 16 pixels in a row and in a column. -/
def SrcInfo.blocksX (i : SrcInfo) : Nat := ceilDiv i.w 16
def SrcInfo.blocksY (i : SrcInfo) : Nat := ceilDiv i.h 16

/-- Bytes of the coverage map (R142). -/
def SrcInfo.coverageBytes (i : SrcInfo) : Nat := ceilDiv (i.blocksX * i.blocksY) 4

/-- The pixels of block (bx, by). -/
def SrcInfo.blockPixels (i : SrcInfo) (bx by_ : Nat) : List (Nat × Nat) :=
  ((List.range 16).flatMap (fun dy => (List.range 16).map (fun dx => (16 * bx + dx, 16 * by_ + dy)))).filter
    (fun p => p.1 < i.w ∧ p.2 < i.h)

/-- The class of a block (R148). -/
def blockClass (i : SrcInfo) (read : Nat → Byte) (bx by_ : Nat) : Nat :=
  if i.coverage = covNone then cMixed
  else if i.format = fmtYcc ∨ i.coverage = covOpaque then cOpaque
  else
    let ps := (i.blockPixels bx by_).map (fun p => (decodePixel i i.prim2020 read p.1 p.2).1)
    if ps.all (fun p => p = Pix.zero) then cEmpty else if ps.all (fun p => p.a = 1) then cOpaque else cMixed

/-! ### Blending (R146, R147) -/

def r32mul (a b : Rat) : Rat := r32 (a * b)
def r32add (a b : Rat) : Rat := r32 (a + b)
def r32sub (a b : Rat) : Rat := r32 (a - b)

def blendNormal : Nat := 0
def blendAdd : Nat := 1
def blendMultiply : Nat := 2
def blendScreen : Nat := 3
def blendMax : Nat := 4

/-- The greater of two values. DESIGN CHOICE (assumption 173): with a NaN it is a NaN, which R144 then replaces by 0. -/
def fmax : FP → FP → FP
  | .nan, _ => .nan
  | _, .nan => .nan
  | .inf neg, y => if neg then y else .inf false
  | x, .inf neg => if neg then x else .inf false
  | .fin a, .fin b => .fin (ratMax a b)

/-- One colour channel of R147. A fill's colour may be infinite or a NaN (R145); canvas values are finite. -/
def blendColour (mode : Nat) (sc : FP) (sa dc da : Rat) : FP :=
  if mode = blendNormal then fadd sc (.fin (r32mul dc (r32sub 1 sa)))
  else if mode = blendAdd then fadd sc (.fin dc)
  else if mode = blendMultiply then
    fadd (fadd (fmul sc (.fin dc)) (fmul sc (.fin (r32sub 1 da)))) (.fin (r32mul dc (r32sub 1 sa)))
  else if mode = blendScreen then fsub (fadd sc (.fin dc)) (fmul sc (.fin dc))
  else fmax sc (.fin dc)

/-- The alpha of R147. -/
def blendAlpha (mode : Nat) (sa da : Rat) : Rat :=
  if mode = blendNormal ∨ mode = blendMultiply then r32add sa (r32mul da (r32sub 1 sa))
  else if mode = blendAdd then ratMin 1 (r32add sa da)
  else if mode = blendScreen then r32sub (r32add sa da) (r32mul sa da)
  else ratMax sa da

/-- A layer's pixel before it is blended: R, G and B, which a fill may have infinite or NaN, and alpha. -/
structure LayerPix where
  r : FP
  g : FP
  b : FP
  a : Rat
  deriving DecidableEq, Repr

def Pix.layer (p : Pix) : LayerPix := ⟨.fin p.r, .fin p.g, .fin p.b, p.a⟩

/-- One layer over one pixel (R146), with the replacements counted. -/
def blendPixel (mode : Nat) (opacity : Rat) (s : LayerPix) (d : Pix) : Pix × Nat :=
  let sa := r32mul s.a opacity
  let c : FP → Rat → FP := fun sc dc => blendColour mode (fmul sc (.fin opacity)) sa dc d.a
  finishPix (c s.r d.r) (c s.g d.g) (c s.b d.b) (.fin (blendAlpha mode sa d.a))

/-! ### Sample points and filters (R158, R159) -/

/-- The affine coefficients A to F, as finite binary32 values. -/
structure Affine where
  a : Rat
  b : Rat
  c : Rat
  d : Rat
  e : Rat
  f : Rat
  deriving DecidableEq, Repr

/-- One coordinate of an affine sample point; none where the arithmetic overflows. -/
def affineCoord (a b c u v : Rat) : Option Rat :=
  match fadd (fadd (fmul (.fin a) (.fin u)) (fmul (.fin b) (.fin v))) (.fin c) with
  | .fin q => some q
  | _ => none

/-- The canvas point of lamp (u, v) (R158). -/
def affinePoint (m : Affine) (u v : Nat) : Option (Rat × Rat) :=
  let u' : Rat := (u : Rat) + 1 / 2
  let v' : Rat := (v : Rat) + 1 / 2
  match affineCoord m.a m.b m.c u' v', affineCoord m.d m.e m.f u' v' with
  | some x, some y => some (x, y)
  | _, _ => none

def filterBox : Nat := 0
def filterBilinear : Nat := 1
def filterBicubic : Nat := 2

/-- A tap: canvas column, row and weight. -/
abbrev Tap := Int × Int × Rat

/-- The Catmull-Rom weights for t (R159). -/
def cubicWeights (t : Rat) : List Rat :=
  let t2 := r32mul t t
  let t3 := r32mul t2 t
  let half : Rat → Rat := fun q => r32 (q / 2)
  [half (r32sub (r32add (-t3) (r32mul 2 t2)) t),
   half (r32add (r32sub (r32mul 3 t3) (r32mul 5 t2)) 2),
   half (r32add (r32add (r32mul (-3) t3) (r32mul 4 t2)) t),
   half (r32sub t3 t2)]

/-- Weighted coordinates along one axis for `BILINEAR` and `BICUBIC`. -/
def axisTaps (filter : Nat) (x : Rat) : List (Int × Rat) :=
  let xm := r32sub x (1 / 2)
  let x0 := xm.floor
  let t := r32sub xm (x0 : Rat)
  if filter = filterBilinear then [(x0, r32sub 1 t), (x0 + 1, t)]
  else (cubicWeights t).zipIdx.map (fun p => (x0 - 1 + (p.2 : Nat), p.1))

/-- Overlaps along one axis of a box of width w centred on x. -/
def axisOverlaps (x w : Rat) : List (Int × Rat) :=
  let lo := r32sub x (r32 (w / 2))
  let hi := r32add x (r32 (w / 2))
  let first := lo.floor
  ((List.range ((hi.ceil - first).toNat + 1)).map (fun k =>
    let p := first + (k : Nat)
    (p, r32sub (ratMin hi ((p : Rat) + 1)) (ratMax lo (p : Rat))))).filter (fun q => 0 < q.2)

/-- The taps of a sample point, of non-zero weight, rows top first and each row left to right (R159). The box widths
are those of the affine map, or none for a `PIXMAP`. -/
def taps (filter : Nat) (box : Option (Rat × Rat)) (x y : Rat) : List Tap :=
  let all : List Tap :=
    if filter = filterBox then
      match box with
      | none => [(x.floor, y.floor, 1)]
      | some (wx, wy) =>
        let area := r32mul wx wy
        (axisOverlaps y wy).flatMap (fun r => (axisOverlaps x wx).map (fun c =>
          (c.1, r.1, r32 (r32mul c.2 r.2 / area))))
    else
      (axisTaps filter y).flatMap (fun r => (axisTaps filter x).map (fun c => (c.1, r.1, r32mul c.2 r.2)))
  all.filter (fun t => t.2.2 ≠ 0)

/-- Box widths of an affine map (R159). -/
def boxOf (m : Affine) : Rat × Rat :=
  (ratMax 1 (r32add (ratAbs m.a) (ratAbs m.b)), ratMax 1 (r32add (ratAbs m.d) (ratAbs m.e)))

/-- The box of an affine map is at most 16 canvas pixels wide and high; a sum beyond binary32 is not. -/
def boxFits (m : Affine) : Bool :=
  let fits : Rat → Rat → Bool := fun a b => match fadd (.fin (ratAbs a)) (.fin (ratAbs b)) with
    | .fin q => decide (q ≤ 16)
    | _ => false
  fits m.a m.b && fits m.d m.e

/-- The weighted sum over taps, accumulated in binary32 in order, alpha clamped after `BICUBIC` (R159). -/
def weighTaps (filter : Nat) (vals : List (Rat × Pix)) : Pix :=
  let s := vals.foldl (fun (acc : Pix) v =>
    ⟨r32add acc.r (r32mul v.1 v.2.r), r32add acc.g (r32mul v.1 v.2.g), r32add acc.b (r32mul v.1 v.2.b),
      r32add acc.a (r32mul v.1 v.2.a)⟩) Pix.zero
  if filter = filterBicubic then { s with a := clampRat 0 1 s.a } else s

end Sys2Proof.Machine
end

