-- ==== Sys2Proof/Machine/Colour.lean ====
section
/-! DEFINITION. The colour path, exact to the bit: compiled records and the common gamut (R200 to R203), emitter weights
(R206 to R208), curves (R198) and quantisation (R210). Nothing here depends on the state. -/

namespace Sys2Proof.Machine

/-! ### Primaries (R207) -/

/-- Rows X, Y and Z of M. -/
def primaries (p2020 : Bool) : List (List Rat) :=
  if p2020 then
    [[6370 / 10000, 1446 / 10000, 1689 / 10000], [2627 / 10000, 6780 / 10000, 593 / 10000],
     [0, 281 / 10000, 10610 / 10000]]
  else
    [[4124 / 10000, 3576 / 10000, 1805 / 10000], [2126 / 10000, 7152 / 10000, 722 / 10000],
     [193 / 10000, 1192 / 10000, 9505 / 10000]]

/-- A sum of products, left to right, each operation rounded by `r`; the coefficients are stored rounded. -/
def dotBy (r : Rat → Rat) (a b : List Rat) : Rat :=
  match List.zipWith (fun x y => r (r x * y)) a b with
  | [] => 0
  | h :: t => t.foldl (fun s x => r (s + x)) h

/-- Y(c), the middle row of M applied to c. -/
def lumaBy (r : Rat → Rat) (p2020 : Bool) (c : List Rat) : Rat := dotBy r ((primaries p2020).getD 1 []) c

/-- c_σ (R203), component by component. -/
def desaturateBy (r : Rat → Rat) (p2020 : Bool) (sigma : Rat) (c : List Rat) : List Rat :=
  let y := lumaBy r p2020 c
  c.map (fun x => r (y + r (sigma * r (x - y))))

/-- M applied to c. -/
def applyBy (r : Rat → Rat) (p2020 : Bool) (c : List Rat) : List Rat := (primaries p2020).map (fun row => dotBy r row c)

/-! ### Compiled records (R200 to R202) -/

/-- Three emitter values: `CX`, `CY`, `FLUX`. -/
abbrev EmitData := FP × FP × FP

/-- X, Y and Z of an emitter, in binary64. -/
def emitXyz (e : EmitData) : List Rat :=
  let x := e.1.toRat
  let y := e.2.1.toRat
  let f := e.2.2.toRat
  [r64 (r64 (x * f) / y), f, r64 (r64 (r64 (r64 (1 - x) - y) * f) / y)]

/-- The last condition of R197. -/
def emitOk (e : EmitData) : Bool :=
  match e.1, e.2.1, e.2.2 with
  | .fin x, .fin y, .fin f => decide (0 ≤ x ∧ 0 ≤ f ∧ 0 < y ∧ x + y ≤ 1)
  | _, _, _ => false

/-- NNᵀ, for the columns of N. -/
def gram (cols : List (List Rat)) : List (List Rat) :=
  (List.range 3).map (fun i => (List.range 3).map (fun j =>
    (cols.map (fun c => c.getD i 0 * c.getD j 0)).foldl (· + ·) 0))

def mAt (m : List (List Rat)) (i j : Nat) : Rat := (m.getD i []).getD j 0

def det3 (m : List (List Rat)) : Rat :=
  mAt m 0 0 * (mAt m 1 1 * mAt m 2 2 - mAt m 1 2 * mAt m 2 1) - mAt m 0 1 * (mAt m 1 0 * mAt m 2 2 - mAt m 1 2 * mAt m 2 0) +
    mAt m 0 2 * (mAt m 1 0 * mAt m 2 1 - mAt m 1 1 * mAt m 2 0)

/-- Cofactor (i, j) of a 3 × 3 matrix. -/
def cof (m : List (List Rat)) (i j : Nat) : Rat :=
  let a := (i + 1) % 3
  let b := (i + 2) % 3
  let c := (j + 1) % 3
  let d := (j + 2) % 3
  mAt m a c * mAt m b d - mAt m a d * mAt m b c

/-- The inverse of a matrix whose determinant is not 0. -/
def inv3 (m : List (List Rat)) : List (List Rat) :=
  (List.range 3).map (fun i => (List.range 3).map (fun j => cof m j i / det3 m))

/-- A lamp is invalid (R202); with fewer than three emitters the determinant is 0. -/
def lampInvalid (es : List EmitData) : Bool :=
  es.any (fun e => !emitOk e) ||
  (let g := gram (es.map emitXyz)
   decide (det3 g ≤ (mAt g 0 0 + mAt g 1 1 + mAt g 2 2) ^ 3 / 27 / 1000000000000))

/-- ΣY of a lamp in binary64, and 1 ÷ ΣY where ΣY > 0; a sum that is infinite gives 0, one that is a NaN is not above 0. -/
def lumaInverse (es : List EmitData) : Rat :=
  match es.foldl (fun a e => FP.add binary64 a e.2.2) (.fin 0) with
  | .fin q => if 0 < q then r64 (1 / q) else 0
  | _ => 0

/-- K row by row (R202). The model forms Nᵀ(NNᵀ)⁻¹ exactly and rounds each element to binary64 (assumption 25). -/
def lampMatrix (es : List EmitData) : List (List Rat) :=
  let bad := lampInvalid es
  if 3 ≤ es.length ∧ !bad then
    let cols := es.map emitXyz
    let g := inv3 (gram cols)
    cols.map (fun c => (List.range 3).map (fun j =>
      r64 (c.getD 0 0 * mAt g 0 j + c.getD 1 0 * mAt g 1 j + c.getD 2 0 * mAt g 2 j)))
  else
    es.map (fun _ => [0, lumaInverse es, 0])

/-- The shift s of R202. -/
def lampShift (k : List (List Rat)) : Int :=
  let m := (k.flatten).foldl (fun a x => ratMax a (ratAbs x)) 0
  if m = 0 then 0 else -floorLog2 m

/-- The compiled record (R201). -/
def compileRecord (es : List EmitData) : List Byte :=
  let k := lampMatrix es
  let s := lampShift k
  padTo (ceilDiv (6 * es.length + 2) 8 * 8)
    ((k.flatten).flatMap (fun x => leBytes 2 (f16bits (binary16.round (x * pow2 s)))) ++ leBytes 2 (ofSigned 16 s))

/-- K′ and s as a record of e emitters holds them. -/
def recordK (e : Nat) (b : List Byte) : List (List Rat) :=
  (List.range e).map (fun i => (List.range 3).map (fun j => (f16 (fieldAt b (6 * i + 2 * j) 2)).toRat))
def recordShift (e : Nat) (b : List Byte) : Int := signedOf 16 (fieldAt b (6 * e) 2)

/-! ### The common gamut (R203) -/

/-- The vertices of the unit cube. -/
def vertices : List (List Rat) :=
  (List.range 8).map (fun n => [(n % 2 : Nat), (n / 2 % 2 : Nat), (n / 4 : Nat)].map (fun (x : Nat) => (x : Rat)))

/-- The weights K′ × T × 2^−s of a lamp. -/
def weightsBy (r : Rat → Rat) (k : List (List Rat)) (s : Int) (t : List Rat) : List Rat :=
  k.map (fun row => r (dotBy r row t * pow2 (-s)))

/-- Every weight of the lamp is at or above 0 at every vertex, at σ = n ÷ 256. -/
def sigmaOk (p2020 : Bool) (k : List (List Rat)) (s : Int) (n : Nat) : Bool :=
  vertices.all (fun v =>
    (weightsBy r64 k s (applyBy r64 p2020 (desaturateBy r64 p2020 ((n : Rat) / 256) v))).all (fun w => decide (0 ≤ w)))

/-- Bit n: σ = n ÷ 256 qualifies for the lamp. -/
def sigmaMask (p2020 : Bool) (k : List (List Rat)) (s : Int) : Nat :=
  ((List.range 257).map (fun n => if sigmaOk p2020 k s n then 2 ^ n else 0)).sum

/-- Every σ qualifies. -/
def sigmaAll : Nat := 2 ^ 257 - 1

/-- The greatest n whose bit is set, 0 where none is. -/
def sigmaBest (mask : Nat) : Nat := (((List.range 257).reverse).find? (fun n => bit mask n)).getD 0

/-- The least 1 ÷ w of a lamp over the vertices and its positive weights, in binary64. -/
def lampL (p2020 : Bool) (k : List (List Rat)) (s : Int) (n : Nat) : Option Rat :=
  let ws := vertices.flatMap (fun v =>
    (weightsBy r64 k s (applyBy r64 p2020 (desaturateBy r64 p2020 ((n : Rat) / 256) v))).filter (fun w => decide (0 < w)))
  ws.foldl (fun acc w => match acc with
    | none => some (r64 (1 / w))
    | some a => some (ratMin a (r64 (1 / w)))) none

def optMin (a b : Option Rat) : Option Rat :=
  match a, b with
  | none, x => x
  | x, none => x
  | some x, some y => some (ratMin x y)

/-- Rounding toward zero to binary32, of a non-negative value. -/
def r32down (q : Rat) : Rat :=
  let v := r32 q
  if v ≤ q then v else v - pow2 (max (floorLog2 q) (-126) - 23)

/-- The gamut of one lamp: σ and L for BT.709 and BT.2020 (binary32 bits), as a personality's nominal data has it. -/
def nominalGamut (e : Nat) (rec_ : List Byte) (valid : Bool) : List Byte :=
  let k := recordK e rec_
  let s := recordShift e rec_
  let one : Bool → List Byte := fun p =>
    let n := if 3 ≤ e ∧ valid then sigmaBest (sigmaMask p k s) else 256
    leBytes 4 (r32bits ((n : Rat) / 256)) ++ leBytes 4 (r32bits (r32down ((lampL p k s n).getD 0)))
  one false ++ one true

/-! ### Emitter weights (R206 to R208) -/

def minRat (l : List Rat) : Rat := l.foldl ratMin (l.headD 0)
def maxRat (l : List Rat) : Rat := l.foldl ratMax (l.headD 0)

/-- The weights of a lamp for an intent c (R207, R208), and whether a clip was taken. -/
def emitterWeights (p2020 : Bool) (sigma l : Rat) (k : List (List Rat)) (s : Int) (c : List Rat) : List Rat × Bool :=
  let y := lumaBy r32 p2020 c
  let scale : List Rat → List Rat := fun t => t.map (fun x => r32 (l * x))
  if r32 (l * y) ≤ 0 then (k.map (fun _ => 0), false)
  else
    let w := weightsBy r32 k s (scale (applyBy r32 p2020 (desaturateBy r32 p2020 sigma c)))
    let (w1, clip1) : List Rat × Bool :=
      if minRat w < 0 then
        let ww := weightsBy r32 k s (scale (applyBy r32 p2020 [y, y, y]))
        if minRat ww < 0 then (k.map (fun _ => 0), true)
        else
          let ts := (List.zip w ww).filterMap (fun p => if p.1 < 0 then some (r32 (p.2 / r32 (p.2 - p.1))) else none)
          let t := minRat ts
          ((List.zip w ww).map (fun p => ratMax (r32 (p.2 + r32 (t * r32 (p.1 - p.2)))) 0), true)
      else (w, false)
    let m := maxRat w1
    if 1 < m then (w1.map (fun x => r32 (x / m)), true) else (w1, clip1)

/-! ### Curves and quantisation (R198, R210) -/

/-- The index of the segment of a valid curve that holds w. -/
def curveSegment (b : List Byte) (w : Rat) : Nat :=
  let x : Nat → Rat := fun j => (f16 (fieldAt b (4 * j) 2)).toRat
  ((List.range (b.length / 4 - 1)).find? (fun j => decide (x j ≤ w ∧ w ≤ x (j + 1)))).getD 0

/-- A valid curve's output (R198), in binary32. -/
def curveOut (b : List Byte) (w : Rat) : Rat :=
  let j := curveSegment b w
  let x : Nat → Rat := fun j => (f16 (fieldAt b (4 * j) 2)).toRat
  let y : Nat → Rat := fun j => ((fieldAt b (4 * j + 2) 2 : Nat) : Rat)
  r32 (r32 (y j + r32 (r32 (r32 (w - x j) * r32 (y (j + 1) - y j)) / r32 (x (j + 1) - x j))) / 65535)

/-- The code and the new error of an emitter (R210): B bits, previous error e in 1/32. -/
def quantise (bits_ : Nat) (dither : Bool) (d : Rat) (e : Int) : Nat × Int :=
  let top : Rat := ((2 ^ bits_ - 1 : Nat) : Rat)
  let x := r32 (r32 (d * top) + (e : Rat) / 32)
  let q := max 0 (min ((2 ^ bits_ - 1 : Nat) : Int) (r32 (x + 1 / 2)).floor)
  let e' := if dither then max (-16) (min 15 (roundEven (32 * (x - (q : Rat))))) else 0
  (q.toNat, e')

/-- The word position of emitter i in a drive record (R210). -/
def driveWord (i : Nat) : Nat := i / 3
def driveBit (i : Nat) : Nat := 21 * (i % 3)

/-- A drive record of codes and errors. -/
def driveRecord (l : List (Nat × Int)) : List Byte :=
  (List.range (ceilDiv l.length 3)).flatMap (fun w =>
    leBytes 8 (((l.zipIdx.filter (fun p => driveWord p.2 = w)).map (fun p =>
      (p.1.1 % 65536 + ofSigned 5 p.1.2 * 65536) * 2 ^ driveBit p.2)).sum))

/-- Code and error of emitter i in a record. -/
def driveCode (b : List Byte) (i : Nat) : Nat := bits (fieldAt b (8 * driveWord i) 8) (driveBit i) 16
def driveError (b : List Byte) (i : Nat) : Int := signedOf 5 (bits (fieldAt b (8 * driveWord i) 8) (driveBit i + 16) 5)

/-- An attribute value as a code of a width in slots (R195). -/
def attrCode (width : Nat) (v : Rat) : Nat :=
  let top : Rat := ((2 ^ (8 * width) - 1 : Nat) : Rat)
  (r32 (r32 (clampRat 0 1 v * top) + 1 / 2)).floor.toNat

/-- A code in its slots: high byte first (R196). -/
def slotBytes (width code : Nat) : List Byte := beBytes width code

end Sys2Proof.Machine
end

