-- ==== Sys2Proof/Machine/CallBoard.lean ====
section
/-! DEFINITION. The Call Board (R98 to R118): words, posts, lists, dispatch, retirement and engine loss. -/

namespace Sys2Proof.Machine

/-! ### Words -/

/-- The consumer classes (R98). -/
def clsRE : Nat := 0
def clsFE : Nat := 1
def clsSM : Nat := 2
def clsBLK : Nat := 3

/-- Call kinds (R99). -/
def kFrameStart : Nat := 0x01
def kRenderTile : Nat := 0x02
def kPass1 : Nat := 0x03
def kPass2 : Nat := 0x04
def kCalCompile : Nat := 0x05
def kMgmt : Nat := 0x10
def kLinkService : Nat := 0x11
def kTimed : Nat := 0x12

/-- `FRAME` of a call that serves none. -/
def noFrame : Nat := 2 ^ 64 - 1

/-- The class of a kind; none where it is reserved or never posted (R99). -/
def kindClass (k : Nat) : Option Nat :=
  if k = kFrameStart then some clsBLK
  else if k = kRenderTile then some clsRE
  else if k = kPass1 ∨ k = kPass2 ∨ k = kCalCompile then some clsFE
  else if k = kMgmt ∨ k = kLinkService ∨ k = kTimed then some clsSM
  else if 0x80 ≤ k ∧ k < 0x100 then some clsSM
  else none

/-- A call word from its 32 bytes (R98); what the Call Board writes is ignored. -/
def callOfBytes (b : List Byte) : CallWord :=
  let w0 := fieldAt b 0 4
  ⟨bits w0 0 8, bits w0 8 2, bits w0 10 3, bits w0 13 5, bit w0 18, bit w0 19, bits w0 20 4, 0, 0xFFFF,
    fieldAt b 8 8, fieldAt b 16 4, fieldAt b 20 4, fieldAt b 24 4, fieldAt b 28 4⟩

/-- The reserved byte of a posted word. -/
def callReserved (b : List Byte) : Nat := fieldAt b 3 1

/-- The first word of a call. -/
def CallWord.word0 (w : CallWord) : Nat :=
  w.kind + w.cls * 2 ^ 8 + w.prio * 2 ^ 10 + w.group * 2 ^ 13 + b2n w.local_ * 2 ^ 18 + b2n w.child * 2 ^ 19 +
    w.children * 2 ^ 20

/-- The 32 bytes of a call word as dispatched. -/
def CallWord.bytes (w : CallWord) : List Byte :=
  leBytes 4 w.word0 ++ leBytes 2 w.producer ++ leBytes 2 w.parent ++ leBytes 8 w.frame ++
    leBytes 4 w.arg0 ++ leBytes 4 w.arg1 ++ leBytes 4 w.arg2 ++ leBytes 4 w.arg3

/-- Item number of a call of the frame plan (R120): a render call carries its tile (R152), a fixture call the number (R211). -/
def CallWord.item (w : CallWord) : Nat :=
  if w.kind = kRenderTile then bits w.arg0 0 6 * 65536 + bits w.arg0 16 8 * 256 + bits w.arg0 8 8
  else bits w.arg0 0 24

/-! ### Engines and groups (R101) -/

/-- The cluster of an engine. -/
def Consumer.cluster : Consumer → Option Nat
  | .re n => some (n / 4)
  | .fe n => some (4 + n / 8)
  | _ => none

/-- The source number of a consumer (R452). -/
def Consumer.source : Consumer → Nat
  | .re n => Src.re n
  | .fe n => Src.fe n
  | .sm n => Src.core n
  | .blk => Src.blocking

def Consumer.cls : Consumer → Nat
  | .re _ => clsRE
  | .fe _ => clsFE
  | .sm _ => clsSM
  | .blk => clsBLK

def Consumer.num : Consumer → Nat
  | .re n => n
  | .fe n => n
  | .sm n => n
  | .blk => 0

/-- A cluster is powered and unparked (R101). -/
def State.clusterUp (s : State) (k : Nat) : Bool :=
  s.powered (.eng (Fin.ofNat 8 k)) && !s.blk.parked.contains k

/-- A consumer serves its groups (R101, `CB_ENGINE_UP`). -/
def State.serves (s : State) : Consumer → Bool
  | .re n => bit (s.fld F.BLK_HEALTH_RE.MASK) n && s.clusterUp (n / 4)
  | .fe n => bit (s.fld F.BLK_HEALTH_FE.MASK) n && s.clusterUp (4 + n / 8)
  | .sm _ => true
  | .blk => true

/-- The consumer's own groups. -/
def Consumer.own : Consumer → List Nat
  | .re n => [2 * n, 2 * n + 1]
  | .fe n => [n]
  | _ => List.range 32

/-- Some consumer of a class serves a group. -/
def State.classServes (s : State) (cls g : Nat) : Bool :=
  if cls = clsRE then s.serves (.re (g / 2)) else if cls = clsFE then s.serves (.fe g) else true

/-- The lowest-numbered group that has a serving engine of a class; `g` where none has. -/
def State.lowestServed (s : State) (cls g : Nat) : Nat := ((List.range 32).find? (fun x => s.classServes cls x)).getD g

/-- The group in which a call of a class is placed (R107). -/
def State.placeGroup (s : State) (cls g : Nat) : Nat := if s.classServes cls g then g else s.lowestServed cls g

/-! ### Slots (R117) -/

/-- Slots that a call holds: its own and its unused reservations. -/
def CallRec.slots (c : CallRec) : Nat := 1 + c.resv

def slotSum (l : List CallRec) : Nat := (l.map CallRec.slots).sum

def State.slotsQueued (s : State) : Nat := slotSum s.cb.queue + slotSum s.cb.handed
def State.slotsDispatched (s : State) : Nat :=
  slotSum ((s.cb.held.map (·.2)).filter (fun c => !c.handoff))
def State.slotsHandoff (s : State) : Nat := slotSum ((s.cb.held.map (·.2)).filter (·.handoff))
def State.slotsFree (s : State) : Nat := 8192 - (s.slotsQueued + s.slotsDispatched + s.slotsHandoff)

/-- Slot numbers in use. -/
def State.slotUsed (s : State) (n : Nat) : Bool :=
  s.cb.queue.any (·.slot = n) || s.cb.handed.any (·.slot = n) || s.cb.held.any (·.2.slot = n)

/-- The first of `n` numbers, from `v` upward and around, that is not used. -/
def pickFrom (used : Nat → Bool) (n v : Nat) : Nat → Nat
  | 0 => v % n
  | fuel + 1 => if used (v % n) then pickFrom used n (v + 1) fuel else v % n

/-- A free number below `n`: which one is an open choice. -/
def State.pickFree (s : State) (used : Nat → Bool) (n : Nat) : Nat := pickFrom used n s.freeVal n

/-! ### Posting (R100, R104 to R107) -/

def modePrep : Nat := 0
def modeService : Nat := 1
def modeTest : Nat := 2

/-- What a post gives its producer (R103, R105). -/
inductive PostOut where
  | ok (slot : Nat)
  | refused
  | invalid
  | stalls
  deriving DecidableEq, Repr

/-- The unused reservations of the call a consumer holds (R106). -/
def State.resvOf (s : State) (c : Consumer) : Nat :=
  match s.cb.held.find? (·.1 = c) with
  | some (_, r) => r.resv
  | none => 0

/-- A word is invalid (R100); `poster` is the consumer that posts, if one does. -/
def State.callInvalid (s : State) (w : CallWord) (reserved : Nat) (poster : Option Consumer) : Bool :=
  reserved != 0 || kindClass w.kind != some w.cls || (w.child && w.children != 0) ||
  (w.child && (match poster with | some c => s.resvOf c == 0 | none => true)) ||
  (w.local_ && !s.classServes w.cls w.group)

/-- Calls queued in a list (`CB_LIST_COUNT`). -/
def State.listCount (s : State) (prio g : Nat) : Nat :=
  (s.cb.queue.filter (fun c => c.word.prio = prio ∧ c.list = g)).length

/-- The trigger unit and the Stage Manager cores may use the reserve (R104). -/
def usesReserve (source : Nat) : Bool :=
  source == Src.trigger || (Src.core 0 ≤ source && source ≤ Src.core 3)

/-- Space for a post that is not a child post, apart from its list's capacity (R104). -/
def State.slotSpace (s : State) (source : Nat) (w : CallWord) : Bool :=
  decide (1 + w.children + (if usesReserve source then 0 else s.fld F.CB_RESERVE.RESERVE) ≤ s.slotsFree)

/-- A post finds space (R104). -/
def State.findsSpace (s : State) (source : Nat) (w : CallWord) : Bool :=
  decide (s.listCount w.prio (s.placeGroup w.cls w.group) < s.fld F.CB_LIST_CAP.CAP) && s.slotSpace source w

/-- An accepted post enters its list (R104, R107). -/
def State.enqueue (s : State) (source : Nat) (w : CallWord) : State × Nat :=
  let slot := s.pickFree s.slotUsed 8192
  let g := s.placeGroup w.cls w.group
  let r : CallRec := ⟨slot, { w with producer := source, parent := 0xFFFF }, g, w.children, false, false, false⟩
  let s := if g = w.group then s else s.bump F.CB_RETARGET_CNT.COUNT
  let s := (s.freeStep).bump F.CB_POST_CNT.COUNT
  ({ s with cb := { s.cb with queue := s.cb.queue ++ [r] } }, slot)

/-- A child post converts a reservation of its poster's call (R106). -/
def State.enqueueChild (s : State) (c : Consumer) (w : CallWord) : State × Nat :=
  let slot := s.pickFree s.slotUsed 8192
  let parent := match s.cb.held.find? (·.1 = c) with | some (_, r) => r.slot | none => 0xFFFF
  let g := s.placeGroup w.cls w.group
  let r : CallRec := ⟨slot, { w with producer := c.source, parent := parent }, g, 0, false, false, false⟩
  let s := if g = w.group then s else s.bump F.CB_RETARGET_CNT.COUNT
  let s := (s.freeStep).bump F.CB_POST_CNT.COUNT
  ({ s with cb := { s.cb with
      queue := s.cb.queue ++ [r]
      held := s.cb.held.map (fun h => if h.1 = c then (h.1, { h.2 with resv := h.2.resv - 1, posted := true }) else h) } },
    slot)

/-- An invalid word (R100). -/
def State.noteInvalid (s : State) (source word0 : Nat) : State :=
  (s.bump F.CB_INVALID_CNT.COUNT).raise Src.callBoard E.CB_INVALID [source, word0]

/-! ### Dispatch (R108 to R111) -/

/-- The groups a consumer scans at one priority, in order (R109), with the number of own groups in front. -/
def State.scanOrder (s : State) (c : Consumer) : List Nat :=
  match c.cluster with
  | none => List.range 32
  | some k =>
    let q := k % 4
    let own := c.own
    let first := own.headD 0
    let steal := s.fld F.CB_CTRL.STEAL
    let near := ((List.range 8).map (fun i => 8 * q + (first - 8 * q + i) % 8)).filter (fun g => !own.contains g)
    let far := (List.range 24).map (fun i => (8 * (q + 1) + i) % 32)
    own ++ (if steal = 1 ∨ steal = 2 then near else []) ++ (if steal = 2 then far else [])

/-- The oldest call of a list that a consumer may take. -/
def State.oldestIn (s : State) (c : Consumer) (prio g : Nat) : Option CallRec :=
  s.cb.queue.find? (fun r => r.word.cls = c.cls ∧ r.word.prio = prio ∧ r.list = g ∧
    (r.word.local_ = false ∨ c.own.contains g))

/-- The call a standby takes (R109). -/
def State.bestCall (s : State) (c : Consumer) : Option CallRec :=
  ([7, 6, 5, 4, 3, 2, 1, 0] : List Nat).findSome? (fun p => (s.scanOrder c).findSome? (fun g => s.oldestIn c p g))

/-- A call is dispatched to a waiting consumer; a stalled `CB_STANDBY_n` read returns (R112). -/
def State.deliver (s : State) (c : Consumer) (r : CallRec) : State :=
  let s := { s with cb := { s.cb with
      queue := s.cb.queue.filter (·.slot ≠ r.slot)
      waiting := s.cb.waiting.filter (· ≠ c)
      held := s.cb.held ++ [(c, { r with handoff := true })] } }
  let s := s.bump F.CB_DISPATCH_CNT.COUNT
  match c with
  | .sm _ => s.send (.readData (r.slot + r.word.kind * 2 ^ 16))
  | _ => s

/-- A consumer's clock runs: in `IDLE` those of the engines and of the Stage Manager cores stand (R409, R415). -/
def State.clocked (s : State) (c : Consumer) : Bool := s.pwr.state != 1 || c == .blk

/-- The dispatch port of a consumer (R110): one for each cluster, one for the Blocking Unit, one for the Stage Manager cores. -/
def Consumer.port : Consumer → Nat
  | .re n => n / 4
  | .fe n => 4 + n / 8
  | .blk => 8
  | .sm _ => 9

/-- A port has handed out a call in this cycle (R110): that call is still in handoff (R117). -/
def State.portBusy (s : State) (c : Consumer) : Bool := s.cb.held.any (fun h => h.2.handoff && h.1.port == c.port)

/-- The waiting consumers that have a call to take and a port to take it through, with it. -/
def State.matches_ (s : State) : List (Consumer × CallRec) :=
  (s.cb.waiting.filter (fun c => s.clocked c && !s.portBusy c)).filterMap (fun c => (s.bestCall c).map (fun r => (c, r)))

/-- The next dispatch: a consumer serving the call's group, then the earlier standby (R111). -/
def State.nextMatch (s : State) : Option (Consumer × CallRec) :=
  match s.matches_.find? (fun m => m.1.own.contains m.2.list) with
  | some m => some m
  | none => s.matches_.head?

/-- Every dispatch that can be made is made, at most `n`; none while `HOLD` is in force (R105). -/
def State.dispatchN (s : State) : Nat → State
  | 0 => s
  | n + 1 =>
    if s.fld F.CB_MODE.MODE = modeTest ∧ s.flag F.CB_CTRL.HOLD then s
    else match s.nextMatch with
      | some (c, r) => State.dispatchN (s.deliver c r) n
      | none => s

def State.dispatchAll (s : State) : State := if s.cb.queue.isEmpty then s else s.dispatchN s.cb.waiting.length

/-- A post of a word (R100, R104, R105), and the dispatch that it allows. `ref` is what the post stands for. -/
def State.cbPost (s : State) (p : Producer) (source ref : Nat) (w : CallWord) (reserved : Nat) : State × PostOut :=
  if s.callInvalid w reserved none then (s.noteInvalid source (w.word0 + reserved * 2 ^ 24), .invalid)
  else if s.findsSpace source w then
    let r := s.enqueue source w
    (r.1.dispatchAll, .ok r.2)
  else if s.fld F.CB_MODE.MODE = modeService then
    ({ s with cb := { s.cb with stalled := s.cb.stalled ++ [⟨p, source, w, ref, false⟩] } }, .stalls)
  else (s.bump F.CB_REFUSED_CNT.COUNT, .refused)

/-- A child post by a consumer during its call (R106). -/
def State.cbChild (s : State) (c : Consumer) (w : CallWord) (reserved : Nat) : State × PostOut :=
  if s.callInvalid w reserved (some c) then (s.noteInvalid c.source (w.word0 + reserved * 2 ^ 24), .invalid)
  else
    let r := s.enqueueChild c w
    (r.1.dispatchAll, .ok r.2)

/-- A compile call takes its slot and is handed to the Blocking Unit (R204). -/
def State.cbHand (s : State) (p : Producer) (source ref : Nat) (w : CallWord) : State × PostOut :=
  if s.slotSpace source w then
    let slot := s.pickFree s.slotUsed 8192
    let r : CallRec := ⟨slot, { w with producer := source, parent := 0xFFFF }, w.group, w.children, false, false, false⟩
    let s := (s.freeStep).bump F.CB_POST_CNT.COUNT
    ({ s with cb := { s.cb with handed := s.cb.handed ++ [r] } }, .ok slot)
  else if s.fld F.CB_MODE.MODE = modeService then
    ({ s with cb := { s.cb with stalled := s.cb.stalled ++ [⟨p, source, w, ref, false⟩] } }, .stalls)
  else (s.bump F.CB_REFUSED_CNT.COUNT, .refused)

/-- The call a consumer holds retires (R108): its slot and unused reservations are free. -/
def State.retire (s : State) (c : Consumer) : State :=
  { s with cb := { s.cb with held := s.cb.held.filter (·.1 ≠ c) } }

/-- The call a consumer holds. -/
def State.heldCall (s : State) (c : Consumer) : Option CallRec := (s.cb.held.find? (·.1 = c)).map (·.2)

/-- A consumer waits for a call. -/
def State.wait (s : State) (c : Consumer) : State :=
  if s.cb.waiting.contains c then s else { s with cb := { s.cb with waiting := s.cb.waiting ++ [c] } }

/-! ### Engine loss (R107, R115) -/

/-- The item of a lost call does not complete in its frame (R115); a compile that loses a call is partial (R205). -/
def State.markLost (s : State) (w : CallWord) : State :=
  if w.kind = kCalCompile then
    { s with fix := { s.fix with comps := s.fix.comps.map (fun e =>
        (e.1, if e.2.handle = w.arg0 ∧ e.2.phase = w.arg3 % 2 + 1 then { e.2 with partial_ := true } else e.2)) } }
  else
    s.updFrame w.frame (fun f => { f with plan := f.plan.map (fun i =>
      if i.num = w.item ∧ i.render = (w.kind == kRenderTile) then
        (if w.kind = kPass2 then { i with p2 := 3 } else { i with p1 := 3 }) else i) })

/-- A call is retired as lost (R115). -/
def State.loseCall (s : State) (r : CallRec) : State :=
  ((s.markLost r.word).bump F.CB_LOST_CNT.COUNT).raise Src.callBoard E.CALL_LOST
    ([r.slot, r.word.kind] ++ words2 r.word.frame)

/-- The group whose list a queued call belongs in (R107): its list's while that has a serving engine of its class, otherwise the lowest
that has one, and its own `GROUP`'s where none has. -/
def State.listGroup (s : State) (r : CallRec) : Nat :=
  if s.classServes r.word.cls r.list then r.list else s.lowestServed r.word.cls r.word.group

/-- A queued call is left without a serving engine and may not move (R107). -/
def State.stranded (s : State) (r : CallRec) : Bool := r.word.local_ && !s.classServes r.word.cls r.list

/-- The lists after a change of the serving engines (R107): calls left without one move, or are lost with `LOCAL`. -/
def State.rebalance (s : State) : State :=
  let lost := s.cb.queue.filter s.stranded
  let rest := s.cb.queue.filter (fun r => !s.stranded r)
  let stay := rest.filter (fun r => s.listGroup r == r.list)
  let moved := (rest.filter (fun r => s.listGroup r != r.list)).map (fun r => { r with list := s.listGroup r })
  let s := { s with cb := { s.cb with queue := stay ++ moved } }
  let s := s.bumpBy F.CB_RETARGET_CNT.COUNT moved.length
  lost.foldl State.loseCall s

/-- The tile of a call that an engine has run and not retired is not written (R155): whoever runs the call again writes it. -/
def State.dropTile (s : State) (c : Consumer) (w : CallWord) : State :=
  match c with
  | .re n => { s with cmp := { s.cmp with held := s.cmp.held.modify [] n (fun l =>
      l.filter (fun t => !(t.item == w.item && t.frame == w.frame))) } }
  | _ => s

/-- An engine leaves dispatch (R115). -/
def State.loseEngine (s : State) (c : Consumer) : State :=
  let s1 := { s with cb := { s.cb with waiting := s.cb.waiting.filter (· ≠ c) } }
  match s.heldCall c with
  | none => s1
  | some r =>
    let s1 := (s1.retire c).dropTile c r.word
    if r.posted then s1.loseCall r
    else ({ s1 with cb := { s1.cb with queue := { r with handoff := false, ran := false } :: s1.cb.queue } }).bump
      F.CB_REQUEUE_CNT.COUNT

/-- Engines that no longer serve leave dispatch, the lists are settled, and what can be dispatched is. -/
def State.settleEngines (s : State) (gone : List Consumer) : State :=
  ((gone.foldl State.loseEngine s).rebalance).dispatchAll

/-- The engines of a cluster. -/
def clusterEngines (k : Nat) : List Consumer :=
  if k < 4 then (List.range 4).map (fun i => .re (4 * k + i)) else (List.range 8).map (fun i => .fe (8 * (k - 4) + i))

end Sys2Proof.Machine
end

