-- ==== Sys2Proof/Machine/Objects.lean ====
section
/-! DEFINITION. Pages, Stage SRAM blocks, retirement, and content objects (R53 to R65, R128). -/

namespace Sys2Proof.Machine

/-! ### Pages and blocks (R60, R61) -/

def pgFree : Nat := 0
def pgUsed : Nat := 1
def pgRetired : Nat := 2

def State.pageSt (s : State) (p : Nat) : Nat := s.mem.pages.get pgFree p
def State.setPage (s : State) (p v : Nat) : State :=
  { s with mem := { s.mem with pages := s.mem.pages.put pgFree p v } }
def State.blockSt (s : State) (b : Nat) : Nat := s.mem.blocks.get pgFree b
def State.setBlock (s : State) (b v : Nat) : State :=
  { s with mem := { s.mem with blocks := s.mem.blocks.put pgFree b v } }

def countVal (m : FMap Nat) (v : Nat) : Nat := (m.filter (·.2 = v)).length

/-- The page ledger (R61) and `OBJ_SRAM_FREE`. -/
def State.pagesUsed (s : State) : Nat := countVal s.mem.pages pgUsed
def State.pagesRetired (s : State) : Nat := countVal s.mem.pages pgRetired
def State.pagesFree (s : State) : Nat := hbmPages - (s.pagesUsed + s.pagesRetired)
def State.sramFree (s : State) : Nat := sramBlocks - s.mem.blocks.length

/-- The pseudo-channel of a page. -/
def pagePc (p : Nat) : Nat := p / pagesPerPc

/-- A pseudo-channel is in the plan (R121). -/
def State.pcUp (s : State) (pc : Nat) : Bool := bit (s.fld F.BLK_HEALTH_PC.MASK) pc && s.powered .hbm

/-- Free pages of a pseudo-channel. -/
def State.pcFree (s : State) (pc : Nat) : Nat :=
  pagesPerPc - (s.mem.pages.filter (fun e => pagePc e.1 = pc)).length

/-- Of the pseudo-channels in the plan, the one with the most free pages, at least `n` of them; ties to the lower
number (R128). -/
def State.bestPc (s : State) (n : Nat) : Option Nat :=
  ((List.range 32).filter (fun pc => s.pcUp pc && decide (n ≤ s.pcFree pc) && decide (0 < n))).foldl
    (fun best pc => match best with
      | none => some pc
      | some b => if s.pcFree b < s.pcFree pc then some pc else best) none

/-- A free page of a pseudo-channel is taken; which one is an open choice. -/
def State.takePage (s : State) (pc : Nat) : State × Nat :=
  let p := pc * pagesPerPc + s.pickFree (fun i => s.pageSt (pc * pagesPerPc + i) != pgFree) pagesPerPc
  ((s.setPage p pgUsed).freeStep, p)

/-- `n` pages of one pseudo-channel. -/
def State.takePages (s : State) (pc : Nat) : Nat → State × List Nat
  | 0 => (s, [])
  | n + 1 =>
    let a := s.takePage pc
    let b := State.takePages a.1 pc n
    (b.1, a.2 :: b.2)

/-- `n` pages under R128: the best pseudo-channel is filled, then the next; at most `fuel` of them. -/
def State.fillPcs (s : State) (n : Nat) : Nat → State × List Nat
  | 0 => (s, [])
  | fuel + 1 =>
    if n = 0 then (s, [])
    else match s.bestPc 1 with
      | none => (s, [])
      | some pc =>
        let k := min n (s.pcFree pc)
        let a := s.takePages pc k
        let b := State.fillPcs a.1 (n - k) fuel
        (b.1, a.2 ++ b.2)

/-- Reserved pages in use for the Stage SRAM image, in their order (R499): those of pseudo-channels in the plan. -/
def State.usableReserved (s : State) : List Nat :=
  s.pwr.reserved.filter (fun p => s.pcUp (pagePc p) && s.pageSt p != pgRetired)

def imagePages : Nat := 1024

/-- Free pages are reserved until 1,024 usable ones stand ready. -/
def State.topUpReserved (s : State) : State :=
  let n := imagePages - s.usableReserved.length
  if n = 0 then s
  else
    let r := s.fillPcs n 32
    { r.1 with pwr := { r.1.pwr with reserved := r.2.foldl (fun l p => if l.contains p then l else l.filter (· < p) ++ [p] ++ l.filter (p < ·)) r.1.pwr.reserved } }

/-- Free pages of the pseudo-channels in the plan. -/
def State.planFree (s : State) : Nat := (((List.range 32).filter (s.pcUp ·)).map (s.pcFree ·)).sum

/-- Pages for `n` pages of HBM, or none. -/
def State.allocHbm (s : State) (n : Nat) : Option (State × List Nat) :=
  if n ≤ s.planFree then some (s.fillPcs n 32) else none

/-- Two pages of one pseudo-channel for a canvas tile (R128). -/
def State.allocTile (s : State) : Option (State × List Nat) := (s.bestPc 2).map (fun pc => s.takePages pc 2)

/-- `n` Stage SRAM blocks; which ones is an open choice. -/
def State.takeBlocks (s : State) : Nat → State × List Nat
  | 0 => (s, [])
  | n + 1 =>
    let b := s.pickFree (fun i => s.blockSt i != pgFree) sramBlocks
    let r := State.takeBlocks ((s.setBlock b pgUsed).freeStep) n
    (r.1, b :: r.2)

def State.allocSram (s : State) (n : Nat) : Option (State × List Nat) :=
  if n ≤ s.sramFree then some (s.takeBlocks n) else none

/-- Memory of one kind. -/
def State.allocUnits (s : State) (sram : Bool) (n : Nat) : Option (State × List Nat) :=
  if sram then s.allocSram n else s.allocHbm n

/-- Memory of one kind for a number of bytes, with a further area that is an allocation of its own (R61, R201); all or none. -/
def State.allocPair (s : State) (sram : Bool) (bytes aux : Nat) : Option (State × List Nat × List Nat) :=
  let unit := if sram then blockSize else pageSize
  match s.allocUnits sram (ceilDiv bytes unit) with
  | none => none
  | some (s, pages) => match s.allocUnits sram (ceilDiv aux unit) with
    | none => none
    | some (s, more) => some (s, pages, more)

/-- Pages or blocks become free; a retired page stays retired. -/
def State.freeUnits (s : State) (sram : Bool) (l : List Nat) : State :=
  l.foldl (fun s u => if sram then s.setBlock u pgFree
    else if s.pageSt u = pgRetired then s else s.setPage u pgFree) s

/-- A move stops: its new pages or blocks are free at once. -/
def State.stopMove (s : State) (m : PageMove) : State :=
  ({ s with blk := { s.blk with moves := s.blk.moves.filter (· ≠ m) } }).freeUnits m.toSram m.units

/-- The moves to a pseudo-channel that has left the plan stop (R130): what evacuation and pins still want waits again, and the next plan
makes anew the candidates of the dwell. -/
def State.stopMovesTo (s : State) (pc : Nat) : State :=
  let out := s.blk.moves.filter (fun m => !m.toSram && m.units.any (fun p => pagePc p == pc))
  let again := (out.filter (fun m => m.evac && m.obj == 0)).map (fun m => (⟨m.pages, 0, 32⟩ : MoveReq))
  let s := out.foldl State.stopMove s
  { s with blk := { s.blk with waitEvac := s.blk.waitEvac ++ again } }

/-! ### Corrected and uncorrectable errors; retirement (R63, R65) -/

/-- A bit of a health mask clears, with `BLK_HEALTH` (R133). Mask 0 RE, 1 FE, 2 PC. -/
def State.clearHealth (s : State) (mask n cause : Nat) : State :=
  let f := if mask = 0 then F.BLK_HEALTH_RE.MASK else if mask = 1 then F.BLK_HEALTH_FE.MASK else F.BLK_HEALTH_PC.MASK
  if bit (s.fld f) n then
    let s := (s.setFld f (s.fld f - 2 ^ n)).raise Src.blocking E.BLK_HEALTH [mask, n, cause]
    if mask = 0 then s.settleEngines [.re n] else if mask = 1 then s.settleEngines [.fe n] else s.stopMovesTo n
  else s

/-- Causes of R133. -/
def hcHost : Nat := 0
def hcHang : Nat := 1
def hcFault : Nat := 2
def hcPcFail : Nat := 3

/-- Retired pages of a pseudo-channel. -/
def State.pcRetired (s : State) (pc : Nat) : Nat :=
  (s.mem.pages.filter (fun e => e.2 = pgRetired ∧ pagePc e.1 = pc)).length

/-- A page is retired (R65): never allocated again before `COLD`. A pseudo-channel with too many is reported failed. -/
def State.retirePage (s : State) (p : Nat) : State :=
  if s.pageSt p = pgRetired then s
  else
    let s := (s.setPage p pgRetired).raise Src.obj E.PAGE_RETIRED (words2 (p * pageSize))
    let pc := pagePc p
    if s.fld F.OBJ_SCRUB.PC_FAIL_PAGES ≤ s.pcRetired pc ∧ ¬ s.mem.pcFailed.contains pc then
      ({ s with mem := { s.mem with pcFailed := s.mem.pcFailed ++ [pc] } }).clearHealth 2 pc hcPcFail
    else s

/-- The page of an HBM codeword. -/
def cwPage (cw : Nat) : Nat := cw * 16 / pageSize

/-- A consumer reads a codeword (R63, R65): the second result says that it is poisoned. -/
def State.consume (s : State) (cw : Nat) : State × Bool :=
  if s.mem.ue.contains cw then
    let s := s.noteUe cw
    (if cw < 2 ^ 31 then s.retirePage (cwPage cw) else s, true)
  else if s.mem.ce.contains cw then
    let s := s.noteCe cw
    if cw < 2 ^ 31 then
      let p := cwPage cw
      let s := { s with mem := { s.mem with pageCe := s.mem.pageCe.modify 0 p (· + 1) } }
      (if s.fld F.OBJ_SCRUB.CE_RETIRE ≤ s.mem.pageCe.get 0 p then s.retirePage p else s, false)
    else (s, false)
  else (s, false)

/-- A consumer reads codewords; the poisoned ones are returned. -/
def State.consumeAll (s : State) (cws : List Nat) : State × List Nat :=
  cws.foldl (fun r cw => let c := r.1.consume cw; (c.1, if c.2 then r.2 ++ [cw] else r.2)) (s, [])

/-- A write to memory. A codeword written in part is read first, as a consumer reads it (R62, R63). -/
def State.writeMem (s : State) (p : Place) (bs : List Byte) : State :=
  let s := (s.consumeAll (partCws p bs.length)).1
  ({ s with mem := (s.mem.remark p bs.length).putBytes p bs }).inject p bs.length

/-! ### Handles (R53) -/

def objNone : Obj := ⟨0, [], 0, false, [], [], none, none⟩

def State.obj? (s : State) (idx : Nat) : Obj := s.obj.objs.get objNone idx
def State.setObj (s : State) (idx : Nat) (o : Obj) : State :=
  { s with obj := { s.obj with objs := s.obj.objs.put objNone idx o } }
def State.updObj (s : State) (idx : Nat) (f : Obj → Obj) : State := s.setObj idx (f (s.obj? idx))

/-- The generation of an index: 1 at `COLD` reset. -/
def State.gen (s : State) (idx : Nat) : Nat := s.obj.gens.get 1 idx

def handleIdx (h : Nat) : Nat := h % 65536
def handleGen (h : Nat) : Nat := h / 65536
def State.handleOf (s : State) (idx : Nat) : Nat := idx + s.gen idx * 65536

/-- A handle is live (R53). -/
def State.live (s : State) (h : Nat) : Bool :=
  handleIdx h != 0 && (s.obj? (handleIdx h)).kind != 0 && s.gen (handleIdx h) == handleGen h

/-- An index is freed: its generation increments, skipping 0. -/
def State.freeIndex (s : State) (idx : Nat) : State :=
  let g := (s.gen idx + 1) % 65536
  let s := s.setObj idx objNone
  { s with obj := { s.obj with gens := s.obj.gens.put 1 idx (if g = 0 then 1 else g) } }

/-- Indices of live objects. -/
def State.liveIdx (s : State) : List Nat := s.obj.objs.map (·.1)

/-! ### Kinds (R54, R141, R142, R201) -/

def kSource : Nat := 1
def kPixmap : Nat := 2
def kCalstore : Nat := 3
def kPersonality : Nat := 4
def kCurve : Nat := 5
def kGraphic : Nat := 6
def kPatchBlock : Nat := 7

/-- Limits on live objects of a kind. -/
def kindLimit (k : Nat) : Nat :=
  if k = kSource then 65535 else if k = kCurve then 16384 else if k = kGraphic then 256
  else if k = kPatchBlock then 1024 else 4096

/-- Bytes of `PARAM` a kind uses (assumption 21). -/
def kindParamUsed (k : Nat) : Nat := if k = kSource then 8 else if k = kCalstore then 5 else 4

/-- Reserved bytes and bits of the parameters are 0. -/
def paramClean (k : Nat) (param : List Byte) : Bool :=
  (param.drop (kindParamUsed k)).all (· = 0) && (k != kSource || bits (fieldAt param 3 1) 4 4 == 0)

/-- A range test. -/
def inRange (lo hi v : Nat) : Bool := decide (lo ≤ v ∧ v ≤ hi)

/-- The parameters of a kind are within range (R54, R141). -/
def paramOk (k : Nat) (param : List Byte) : Bool :=
  let n := fieldAt param 0 4
  if k = kSource then
    let i := sourceInfo param
    inRange 1 4 i.format && inRange 0 3 i.transfer && inRange 0 1 (fieldAt param 2 1) && inRange 0 2 i.coverage &&
    inRange 1 32768 i.w && inRange 1 32768 i.h && (i.format != fmtYcc || i.w % 2 == 0) &&
    (i.straight || i.transfer == transferLinear)
  else if k = kPixmap then inRange 1 1048576 n
  else if k = kCalstore then inRange 1 67108864 n && inRange 1 8 (fieldAt param 4 1)
  else if k = kPersonality then inRange 64 65536 n
  else if k = kCurve then inRange 2 1024 n
  else if k = kGraphic then inRange 1 4096 (fieldAt param 0 2) && inRange 1 4096 (fieldAt param 2 2)
  else if k = kPatchBlock then inRange 1 262144 n
  else false

/-- Lamps and emitters of a `CALSTORE`. -/
def calLamps (param : List Byte) : Nat := fieldAt param 0 4
def calEmitters (param : List Byte) : Nat := fieldAt param 4 1
/-- Bytes of a compiled record (R201). -/
def calRecord (e : Nat) : Nat := ceilDiv (6 * e + 2) 8 * 8

/-- Object size (R54, R142). -/
def objSize (k : Nat) (param : List Byte) : Nat :=
  let n := fieldAt param 0 4
  if k = kSource then (sourceInfo param).stride * (sourceInfo param).h
  else if k = kPixmap then 8 * n
  else if k = kCalstore then 6 * calEmitters param * calLamps param
  else if k = kPersonality then n
  else if k = kCurve then 4 * n
  else if k = kGraphic then 4 * fieldAt param 0 2 * fieldAt param 2 2
  else 32 * n

/-- How the pixels of a source or graphic decode. -/
def Obj.info (o : Obj) : SrcInfo := if o.kind = kGraphic then graphicInfo o.param else sourceInfo o.param

/-- Bytes allocated with an object beyond its size (R61). -/
def auxSize (k : Nat) (param : List Byte) : Nat :=
  if k = kSource then (sourceInfo param).coverageBytes
  else if k = kGraphic then (graphicInfo param).coverageBytes
  else if k = kCalstore then 2 * calLamps param * calRecord (calEmitters param) + 128
  else 0

/-- A new object of a kind goes to Stage SRAM (R128, R135). -/
def State.placesInSram (s : State) (k bytes : Nat) : Bool :=
  k == kGraphic ||
  ((k == kCurve || k == kPersonality) &&
    decide (s.fld F.BLK_SRAM_KEEP.BLOCKS + ceilDiv bytes blockSize < s.sramFree)) ||
  !(List.range 32).any (s.pcUp ·)

/-! ### Bytes of an object -/

/-- Where byte `off` of a list of pages or blocks lies. -/
def placeOf (sram : Bool) (units : List Nat) (off : Nat) : Place :=
  if sram then .sram (units.getD (off / blockSize) 0 * blockSize + off % blockSize)
  else .hbm (units.getD (off / pageSize) 0 * pageSize + off % pageSize)

def Obj.place (o : Obj) (off : Nat) : Place := placeOf o.sram o.pages off

/-- A byte of the object's current contents. -/
def State.objByte (s : State) (o : Obj) (off : Nat) : Byte := s.mem.byte (o.place off)

/-- Bytes of the object's current contents. -/
def State.objBytes (s : State) (o : Obj) (off n : Nat) : List Byte :=
  (List.range n).map (fun k => s.objByte o (off + k))

/-- The codewords that hold bytes of the object, in order. -/
def objCws (sram : Bool) (units : List Nat) (off n : Nat) : List Nat :=
  if n = 0 then []
  else (List.range ((off + n - 1) / 16 - off / 16 + 1)).map (fun k => (placeOf sram units ((off / 16 + k) * 16)).cw)

/-- A page holds an uncorrectable codeword. -/
def State.pageBad (s : State) (p : Nat) : Bool := s.mem.ue.any (fun cw => decide (cw < 2 ^ 31 ∧ cwPage cw = p))

/-- Memory is freed after the last frame that may read it (R58) and the last transfer of some Fly channels (R381): at once when there
is neither. -/
def State.freeLater (s : State) (sram : Bool) (units chans : List Nat) : State :=
  let after : Option Nat := (s.frames.getLast?).map (·.seq)
  if after.isNone && chans.isEmpty then s.freeUnits sram units
  else { s with obj := { s.obj with dying := s.obj.dying ++ [⟨sram, units, after, chans⟩] } }

/-- Memory that frames planned so far may still read is freed after the last of them has been presented or dropped (R130). -/
def State.freeAfterFrames (s : State) (sram : Bool) (units : List Nat) : State :=
  match ((s.frames.filter (·.planned)).getLast?).map (·.seq) with
  | none => s.freeUnits sram units
  | some q => { s with obj := { s.obj with dying := s.obj.dying ++ [⟨sram, units, some q, []⟩] } }

/-- Replacement of a page that holds an uncorrectable codeword or is retired, when a write covers it (R130). -/
def State.freshPage (s : State) (p : Nat) : State × Nat :=
  if s.pageSt p = pgRetired || s.pageBad p then
    match s.allocHbm 1 with
    | some (s, q :: _) => (s.freeAfterFrames false [p], q)
    | _ => (s, p)
  else (s, p)

/-- The part of a write that lies in one page or block, then the rest: `units` may change where R130 has it so. -/
def State.writeUnits (s : State) (sram : Bool) (units : List Nat) (off : Nat) (bs : List Byte) :
    Nat → State × List Nat
  | 0 => (s, units)
  | fuel + 1 =>
    if bs.isEmpty then (s, units)
    else
      let unit := if sram then blockSize else pageSize
      let n := unit - off % unit
      let now := bs.take n
      let i := off / unit
      let (s, units) :=
        if !sram && now.length == pageSize then
          let r := s.freshPage (units.getD i 0)
          (r.1, units.set i r.2)
        else (s, units)
      State.writeUnits (s.writeMem (placeOf sram units off) now) sram units (off + n) (bs.drop n) fuel

/-- A write to an object's current contents. -/
def State.objWrite (s : State) (idx off : Nat) (bs : List Byte) : State :=
  let o := s.obj? idx
  let r := s.writeUnits o.sram o.pages off bs (bs.length + 1)
  r.1.updObj idx (fun o => { o with pages := r.2 })

/-- A write to an object's shadow copy. -/
def State.shadowWrite (s : State) (idx off : Nat) (bs : List Byte) : State :=
  let o := s.obj? idx
  match o.shadow with
  | none => s
  | some sh =>
    let r := s.writeUnits sh.sram sh.pages off bs (bs.length + 1)
    r.1.updObj idx (fun o => { o with shadow := some { sh with pages := r.2 } })

/-- A codeword is copied with its check bits, so that its errors go with it (R130). -/
def MemSt.copyCw (m : MemSt) (a b : Place) : MemSt :=
  let mark : List Nat → List Nat := fun l =>
    let l' := l.filter (· ≠ b.cw)
    if l.contains a.cw then l' ++ [b.cw] else l'
  { m.putBytes b (m.bytesAt a 16) with ce := mark m.ce, ue := mark m.ue }

/-- Copy of `n` bytes between two lists of pages or blocks of one kind. -/
def MemSt.copyUnits (m : MemSt) (sram : Bool) (src dst : List Nat) (n : Nat) : MemSt :=
  (List.range (ceilDiv n 16)).foldl (fun m k => m.copyCw (placeOf sram src (16 * k)) (placeOf sram dst (16 * k))) m

/-- Writes of whole codewords to `n` bytes of some pages or blocks have taken place: an error asked for is injected (R66). -/
def State.injectUnits (s : State) (sram : Bool) (units : List Nat) (n : Nat) : State :=
  let unit := if sram then blockSize else pageSize
  units.zipIdx.foldl (fun s u => s.inject (placeOf sram [u.1] 0) (ceilDiv (min unit (n - u.2 * unit)) 16 * 16)) s

/-- Copy of `n` bytes between two lists of pages or blocks of one kind. -/
def State.copyUnits (s : State) (sram : Bool) (src dst : List Nat) (n : Nat) : State :=
  ({ s with mem := s.mem.copyUnits sram src dst n }).injectUnits sram dst n

/-! ### Coverage maps (R142, R148, R149) -/

/-- The class of a block as stored in a map's pages. -/
def State.coverClass (s : State) (sram : Bool) (aux : List Nat) (n : Nat) : Nat :=
  bits (s.mem.byte (placeOf sram aux (n / 4))).toNat (2 * (n % 4)) 2

/-- The class of a block is written. -/
def State.setCover (s : State) (sram : Bool) (aux : List Nat) (n c : Nat) : State :=
  let p := placeOf sram aux (n / 4)
  s.writeMem p [BitVec.ofNat 8 (setBits (s.mem.byte p).toNat (2 * (n % 4)) 2 c)]

/-- The blocks that bytes [off, off + n) of the object's storage touch. -/
def touchedBlocks (i : SrcInfo) (off n : Nat) : List (Nat × Nat) :=
  if n = 0 ∨ i.stride = 0 then []
  else
    let rows := (List.range ((off + n - 1) / i.stride - off / i.stride + 1)).map (off / i.stride + ·)
    let blockRows := ((rows.map (· / 16)).dedup).filter (· < i.blocksY)
    blockRows.flatMap (fun by_ => ((List.range i.blocksX).filter (fun bx =>
      rows.any (fun y => y / 16 == by_ &&
        (let a := i.offset (16 * bx) y
         let b := i.offset (min (16 * bx + 15) (i.w - 1)) y + (if i.format = fmtYcc then 8 else fmtBytes i.format)
         decide (a < off + n ∧ off < b))))).map (fun bx => (bx, by_)))

/-- The classes of touched blocks are computed anew from the given pages (R149). -/
def State.recover (s : State) (o : Obj) (sram : Bool) (pages aux : List Nat) (off n : Nat) : State :=
  if o.kind = kSource ∨ o.kind = kGraphic then
    let i := o.info
    (touchedBlocks i off n).foldl (fun s b =>
      s.setCover sram aux (b.2 * i.blocksX + b.1)
        (blockClass i (fun k => s.mem.byte (placeOf sram pages k)) b.1 b.2)) s
  else s

/-- The blocks an aperture write touches become `MIXED` (R149). -/
def State.coverMixed (s : State) (o : Obj) (off n : Nat) : State :=
  if o.kind = kSource ∨ o.kind = kGraphic then
    (touchedBlocks o.info off n).foldl (fun s b => s.setCover o.sram o.aux (b.2 * o.info.blocksX + b.1) cMixed) s
  else s

/-! ### Creation, shadow copies, destruction (R55, R56, R58) -/

/-- Zeros in whole pages or blocks. -/
def State.zeroUnits (s : State) (sram : Bool) (units : List Nat) : State :=
  let n := if sram then blockSize else pageSize
  units.foldl (fun s u => s.writeMem (placeOf sram [u] 0) (zeros n)) s

/-- The coverage map of a new object, whose contents are zero. -/
def State.initCover (s : State) (o : Obj) : State :=
  if o.kind = kSource ∨ o.kind = kGraphic then
    (List.range (o.info.blocksX * o.info.blocksY)).foldl (fun s n =>
      s.setCover o.sram o.aux n (blockClass o.info (fun _ => 0) (n % o.info.blocksX) (n / o.info.blocksX))) s
  else s

/-- Creation of an object whose parameters have passed the checks: a handle, or the failing status. -/
def State.createObj (s : State) (k : Nat) (param : List Byte) : State × (Nat × Nat) :=
  let live := s.liveIdx
  if 65535 ≤ live.length ∨ kindLimit k ≤ (live.filter (fun i => (s.obj? i).kind = k)).length then (s, (0x17, 0))
  else
    let size := objSize k param
    let sram := s.placesInSram k (size)
    match s.allocPair sram size (auxSize k param) with
    | none => (s, (0x16, 0))
    | some (s, pages, aux) =>
      let idx := 1 + s.pickFree (fun i => (s.obj? (i + 1)).kind != 0) 65535
      let o : Obj := ⟨k, param, size, sram, pages, aux, none, none⟩
      let s := ((s.freeStep).setObj idx o).zeroUnits sram (pages ++ aux)
      (s.initCover o, (0, s.handleOf idx))

/-- The memory whose last frame and last transfer have gone is freed. -/
def State.reap (s : State) : State :=
  let oldest : Option Nat := (s.frames.head?).map (·.seq)
  let frameGone : Dying → Bool := fun d => match oldest, d.after with | some q, some a => decide (a < q) | _, _ => true
  let gone : Dying → Bool := fun d => frameGone d && d.chans.isEmpty
  let out := s.obj.dying.filter gone
  let s := { s with obj := { s.obj with dying := s.obj.dying.filter (fun d => !gone d) } }
  out.foldl (fun s d => s.freeUnits d.sram d.pages) s

/-- Fly channels whose transfers name a live object: as source, destination or index table. -/
def flyHandles (img : List Byte) : List (Nat × Nat) :=
  let cfg := fieldAt img 20 4
  (if bits cfg 9 3 = 3 then [(0, fieldAt img 4 4)] else []) ++ (if bits cfg 12 3 = 3 then [(1, fieldAt img 12 4)] else []) ++
    (if bits cfg 6 1 = 1 ∧ bits cfg 15 1 = 1 then [(2, fieldAt img 24 4)] else [])

/-- An object that is destroyed stays at hand for the transfers that name it; the channels are returned. -/
def State.keepForFly (s : State) (h : Nat) (o : Obj) : State × List Nat :=
  let uses : Nat × Option FlySt → Bool := fun e => match e.2 with
    | some x => (flyHandles x.img).any (·.2 = h)
    | none => false
  let keep : FlySt → FlySt := fun x =>
    { x with gone := ((flyHandles x.img).filter (·.2 = h)).foldl (fun m e => m.put none e.1 (some o)) x.gone }
  ({ s with fly := s.fly.map (fun e => if uses e then (e.1, e.2.map keep) else e) }, (s.fly.filter uses).map (·.1))

/-- Where a copy of an object goes (R128): by the rule of its kind. DESIGN CHOICE (assumption 172): to the memory that its pin names, or
that it lies in now when it is pinned there; a `CALSTORE`'s copy to that of its compiled area, which the copy does not take along. -/
def State.copySram (s : State) (o : Obj) : Bool :=
  if o.kind = kCalstore then o.sram
  else match o.pin with
    | some p => if p.mode = 1 then false else if p.mode = 2 then true else o.sram
    | none => s.placesInSram o.kind o.size

/-- Copy of an object's bytes from one memory to another, check bits included. -/
def MemSt.copyAcross (m : MemSt) (fromSram toSram : Bool) (src dst : List Nat) (n : Nat) : MemSt :=
  (List.range (ceilDiv n 16)).foldl (fun m k => m.copyCw (placeOf fromSram src (16 * k)) (placeOf toSram dst (16 * k))) m

def State.copyAcross (s : State) (fromSram toSram : Bool) (src dst : List Nat) (n : Nat) : State :=
  ({ s with mem := s.mem.copyAcross fromSram toSram src dst n }).injectUnits toSram dst n

/-- A shadow copy of the whole object, with its own coverage map (R56), or none when memory is short. A waiting copy
serves again. -/
def State.openShadow (s : State) (idx : Nat) : Option State :=
  let o := s.obj? idx
  match o.shadow with
  | some sh => some (s.updObj idx (fun o => { o with shadow := some { sh with open_ := sh.open_ + 1 } }))
  | none =>
    let auxN := if o.kind = kSource ∨ o.kind = kGraphic then auxSize o.kind o.param else 0
    let dst := s.copySram o
    match s.allocPair dst o.size auxN with
    | none => none
    | some (s, pages, aux) =>
      let s := (s.copyAcross o.sram dst o.pages pages o.size).copyAcross o.sram dst o.aux aux auxN
      some (s.updObj idx (fun o => { o with shadow := some ⟨dst, pages, aux, 1, []⟩ }))

/-- The copy is discarded (R56). -/
def State.dropShadow (s : State) (idx : Nat) : State :=
  match (s.obj? idx).shadow with
  | none => s
  | some sh =>
    (s.updObj idx (fun o => { o with shadow := none })).freeUnits sh.sram (sh.pages ++ sh.aux)

/-- A write to the copy has finished. -/
def State.closeShadow (s : State) (idx : Nat) : State :=
  s.updObj idx (fun o => { o with shadow := o.shadow.map (fun sh => { sh with open_ := sh.open_ - 1 }) })

/-- A finished copy becomes current (R56); the old pages are freed after the last frame that may read them. -/
def State.activateShadow (s : State) (idx : Nat) : State :=
  let o := s.obj? idx
  match o.shadow with
  | some sh =>
    if sh.open_ = 0 then
      let aux := if sh.aux.isEmpty then o.aux else sh.aux
      let old := o.pages ++ (if sh.aux.isEmpty then [] else o.aux)
      (s.setObj idx { o with sram := sh.sram, pages := sh.pages, aux := aux, shadow := none }).freeAfterFrames o.sram old
    else s
  | none => s

end Sys2Proof.Machine
end

