-- ==== Sys2Proof/Machine/Time.lean ====
section
/-! DEFINITION. Stage clocks, references, the arbiter, LTC and show time (R68 to R84). Times are counts of 2^−32 ns. -/

namespace Sys2Proof.Machine

/-- Counts of 2^−32 ns in a nanosecond and in a second; a time value wraps at 2^48 s (R70). -/
def nsU : Nat := 2 ^ 32
def secU : Nat := 1000000000 * 2 ^ 32
def timeMod : Nat := 2 ^ 48 * secU

/-- The seconds, nanoseconds and fraction of a time value (R70). -/
def secOf (t : Nat) : Nat := t / secU
def nsOf (t : Nat) : Nat := t % secU / nsU
def fracOf (t : Nat) : Nat := t % nsU
/-- A time value from seconds and nanoseconds. -/
def timeOf (sec ns : Nat) : Nat := sec * secU + ns * nsU

/-- The clock code of R501. -/
def clkIx : StageClk → Nat
  | .A => 0
  | .B => 1

def State.clk (s : State) : StageClk → ClockSt
  | .A => s.time.a
  | .B => s.time.b

def State.setClk (s : State) (x : StageClk) (c : ClockSt) : State :=
  match x with
  | .A => { s with time := { s.time with a := c } }
  | .B => { s with time := { s.time with b := c } }

/-- `TIM_x_RATE`. -/
def State.rate (s : State) (x : StageClk) : Int := signedOf 23 (s.fld (F.TIM_RATE.RATE (clkIx x)))

/-- The addend of a stage clock (R71). -/
def State.addend (s : State) (x : StageClk) : Nat := ((0x140000000 : Int) + s.rate x).toNat

/-- The stage clock that show time follows (`SEL`). -/
def State.showSel (s : State) : StageClk := if s.flag F.TIM_SHOW_CTRL.SEL then .B else .A

/-- Show time (R83): while `FREE`, the selected clock's value. -/
def State.showNow (s : State) : Nat :=
  if s.time.show_.locked then s.time.show_.val else (s.clk s.showSel).val

def State.setShow (s : State) (x : ShowSt) : State := { s with time := { s.time with show_ := x } }

/-- The addend of show time (R83). -/
def State.showAddend (s : State) : Nat :=
  if s.time.show_.locked then (((s.addend s.showSel : Nat) : Int) + s.time.show_.corr).toNat else s.addend s.showSel

/-- The correction c of R83 for an offset d in 2^−32 ns: d × 4,096 per ns is d ÷ 2^20. -/
def slewOf (slew : Nat) (d : Int) : Int :=
  let l : Int := ((slew * 5368709120 / 1000000 : Nat) : Int)
  max (-l) (min l (roundEven ((d : Rat) / 1048576)))

/-- Computation of d and c (R83). -/
def State.slewCalc (s : State) : State :=
  let d : Int := ((s.clk s.showSel).val : Int) - (s.time.show_.val : Int)
  s.setShow { s.time.show_ with d := d, corr := slewOf (s.fld F.TIM_SHOW_CTRL.SLEW) d, calcAt := s.time.house }

/-- d in 2^−16 ns, saturated to 64 bits (`TIM_SHOW_OFFSET`). -/
def showOffset (d : Int) : Nat :=
  ofSigned 64 (max (-((2 : Int) ^ 63 - 1)) (min ((2 : Int) ^ 63 - 1) (d / 65536)))

/-- A frame would be marked now (R74). -/
def State.marked (s : State) : Bool := !s.time.show_.locked || !(s.clk s.showSel).locked

/-! ### One HCLK cycle -/

/-- `GLB`'s real-time clock counts at 32,768 Hz (R22): 32,768 counts in 800,000,000 HCLK cycles. -/
def TimeSt.rtcTick (t : TimeSt) : TimeSt :=
  let f := t.rtcFrac + 32768
  if hclkPerSecond ≤ f then { t with rtc := (t.rtc + 1) % 2 ^ 64, rtcFrac := f - hclkPerSecond }
  else { t with rtcFrac := f }

/-- The root-derived clocks advance by one HCLK cycle (R68, R70, R83). -/
def State.clockCycle (s : State) : State :=
  let s := if s.time.show_.locked ∧ s.time.show_.calcAt + 65536 ≤ s.time.house then s.slewCalc else s
  { s with time := { s.time with
      house := (s.time.house + 1) % 2 ^ 64
      a := { s.time.a with val := (s.time.a.val + s.addend .A) % timeMod }
      b := { s.time.b with val := (s.time.b.val + s.addend .B) % timeMod }
      show_ := { s.time.show_ with val := (s.showNow + s.showAddend) % timeMod } } }

/-! ### References and the arbiter (R75 to R78) -/

/-- The codes a priority list names, in order (R75). -/
def State.prioList (s : State) (x : StageClk) : List Nat :=
  let n := clkIx x
  (([s.fld (F.TIM_PRIO.P0 n), s.fld (F.TIM_PRIO.P1 n), s.fld (F.TIM_PRIO.P2 n), s.fld (F.TIM_PRIO.P3 n)]).takeWhile
    (· ≠ 0)).foldl (fun l c => if l.contains c then l else l ++ [c]) []

/-- `RATE` takes a value, in effect from the next cycle; the history needed for the held rate is kept. -/
def State.putRate (s : State) (x : StageClk) (r : Int) : State :=
  let c := s.clk x
  let from_ := s.time.house + 1 - 2 ^ 34
  let old := c.hist.takeWhile (fun h => from_ < h.1)
  let keep := old ++ (c.hist.drop old.length).take 1
  (s.setClk x { c with hist := (s.time.house + 1, r) :: keep }).setFld (F.TIM_RATE.RATE (clkIx x)) (ofSigned 23 r)

/-- The sum of `RATE` over the cycles from `lo` up to `hi`, from a history with the newest rate first. -/
def rateSum (lo hi : Nat) : List (Nat × Int) → Int
  | [] => 0
  | (h, r) :: rest =>
    let a := max lo (min h hi)
    ((hi - a : Nat) : Int) * r + rateSum lo a rest

/-- The held rate (R78): the mean of `RATE` over the 2^34 cycles before now, or since `COLD` reset (assumption 20). -/
def State.heldRate (s : State) (x : StageClk) : Int :=
  let hi := s.time.house
  let lo := hi - 2 ^ 34
  if hi = lo then s.rate x else roundEven ((rateSum lo hi (s.clk x).hist : Rat) / ((hi - lo : Nat) : Rat))

def arbFreerun : Nat := 0
def arbTrack : Nat := 1
def arbHoldover : Nat := 2

/-- The arbiter selects a reference. -/
def State.selectRef (s : State) (x : StageClk) (src : Nat) : State :=
  (s.setClk x { s.clk x with arb := arbTrack, src := src }).raise Src.clocks E.REF_SELECT [clkIx x, src]

/-- The arbiter enters `HOLDOVER`. -/
def State.enterHoldover (s : State) (x : StageClk) : State :=
  let r := s.heldRate x
  ((s.putRate x r).setClk x { (s.putRate x r).clk x with arb := arbHoldover, src := 0 }).raise
    Src.clocks E.HOLDOVER [clkIx x, ofSigned 32 r]

/-- The arbiter's table (R77) after an event; `newly` is a reference that has just qualified. -/
def State.arbiter (s : State) (x : StageClk) (newly : Option Nat) : State :=
  let c := s.clk x
  let list := s.prioList x
  let best := list.find? (c.qual.contains ·)
  if c.arb = arbTrack then
    if list.contains c.src && c.qual.contains c.src then
      match newly with
      | some r => if s.flag (F.TIM_CTRL.REVERT (clkIx x)) && list.idxOf r < list.idxOf c.src then s.selectRef x r else s
      | none => s
    else
      match best with
      | some b => s.selectRef x b
      | none => s.enterHoldover x
  else
    match best with
    | some b => s.selectRef x b
    | none => s

/-- A reference disqualifies on a stage clock. -/
def State.disqualify (s : State) (x : StageClk) (code : Nat) : State :=
  let c := s.clk x
  if c.qual.contains code then (s.setClk x { c with qual := c.qual.filter (· ≠ code) }).arbiter x none else s

/-- A reference qualifies on a stage clock. -/
def State.qualify (s : State) (x : StageClk) (code : Nat) : State :=
  let c := s.clk x
  if c.qual.contains code then s else (s.setClk x { c with qual := c.qual ++ [code] }).arbiter x (some code)

/-- The code of hardware reference input r (R75, `TIM_REF_r_CFG`). -/
def refCode (r : Nat) : Nat := r + 2

def refReset : RefSt := ⟨none, false, 0, 0, 0⟩
def State.refSt (s : State) (r : Nat) : RefSt := s.time.refs.get refReset r
def State.setRef (s : State) (r : Nat) (x : RefSt) : State :=
  { s with time := { s.time with refs := s.time.refs.put refReset r x } }

/-- Both clocks lose a reference; its edges are absent (R76). -/
def State.loseRef (s : State) (r : Nat) : State :=
  let s := s.setRef r { s.refSt r with present := false, last := none }
  (s.disqualify .A (refCode r)).disqualify .B (refCode r)

/-- An interval in 2^−32 ns is within tolerance of `DEN`/`NUM` seconds (R76). -/
def intervalGood (iv num den tol : Nat) : Bool :=
  decide (((iv : Int) * num - (den * secU : Nat)).natAbs * 1000000 ≤ tol * den * secU)

/-- The phase of an edge (R80) in 2^−32 ns: its time minus the nearest grid instant. -/
def phaseOf (t num den : Nat) : Rat :=
  let p : Rat := ((den * secU : Nat) : Rat) / ((num : Nat) : Rat)
  (t : Rat) - (roundEven ((t : Rat) / p) : Rat) * p

/-- An edge of reference input r (R76, R80). -/
def State.refEdge (s : State) (r : Nat) : State :=
  let num := s.fld (F.TIM_REF_NUM.VALUE r)
  let den := s.fld (F.TIM_REF_DEN.VALUE r)
  let tol := s.fld (F.TIM_REF_CFG.TOL r)
  let ta := s.time.a.val
  let tb := s.time.b.val
  let x := s.refSt r
  let s1 := match x.last with
    | none => s
    | some (la, lb) =>
      let s := if intervalGood (ta - la) num den tol then s else s.disqualify .A (refCode r)
      if intervalGood (tb - lb) num den tol then s else s.disqualify .B (refCode r)
  let sumA := x.sumA + phaseOf ta num den
  let sumB := x.sumB + phaseOf tb num den
  let n := x.n + 1
  let group := 2 ^ s.fld (F.TIM_REF_CFG.AVG_LOG2 r)
  if n < group then s1.setRef r ⟨some (ta, tb), true, sumA, sumB, n⟩
  else
    let avg : Rat → Nat := fun q => ofSigned 64 (roundEven (q / ((n : Nat) : Rat) / 65536))
    ((s1.setRef r ⟨some (ta, tb), true, 0, 0, 0⟩).setRv (R.TIM_REF_PHASE_A r) (avg sumA)).setRv
      (R.TIM_REF_PHASE_B r) (avg sumB)

/-! ### LTC (R81, R82) -/

/-- Frames per second of `TIM_LTC_OUT_CFG.RATE` as a ratio, and the label's frames per second. -/
def ltcRate (rate : Nat) : Nat × Nat × Nat :=
  if rate = 0 then (24, 1, 24) else if rate = 1 then (25, 1, 25) else if rate = 2 then (30000, 1001, 30) else (30, 1, 30)

/-- Drop-frame numbering of a frame count within the day: 2 numbers are skipped each minute but every tenth. -/
def dropFrameNumber (n : Nat) : Nat :=
  let d := n / 17982
  let m := n % 17982
  n + 18 * d + (if m < 2 then 0 else 2 * ((m - 2) / 1798))

/-- The label of the LTC frame that begins at a show time: hours, minutes, seconds and frames (R82). -/
def ltcLabel (show_ : Nat) (offset : Int) (rate : Nat) : Nat × Nat × Nat × Nat :=
  let (num, den, fps) := ltcRate rate
  let t : Int := (show_ : Int) + offset * (secU : Nat)
  let k : Int := t * num / ((den * secU : Nat) : Int)
  let perDay : Nat := if rate = 2 then 2589408 else 86400 * fps
  let n := (k % (perDay : Int)).toNat
  let m := if rate = 2 then dropFrameNumber n else n
  (m / (3600 * fps), m / (60 * fps) % 60, m / fps % 60, m % fps)

/-! ### The schedule (R89) -/

/-- The instant of index k: the anchor and k periods, truncated to 2^−32 ns. -/
def SchedSt.instant (x : SchedSt) (k : Int) : Int := (x.anchor : Int) + k * ((x.den * secU : Nat) : Int) / ((x.num : Nat) : Int)

/-- The cue deadline of index k: `LEAD` periods before its instant. -/
def SchedSt.deadline (x : SchedSt) (k : Int) : Int :=
  (x.anchor : Int) + (k - (x.lead : Int)) * ((x.den * secU : Nat) : Int) / ((x.num : Nat) : Int)

/-- The schedule goes on at index k (R89, R97): with the number above the highest given, or, where it has given none, with its first
frame, which takes its grid index. -/
def SchedSt.resume (x : SchedSt) (k : Int) : SchedSt :=
  if x.numbered then { x with k := k, seq := x.given + 1 } else { x with k := max 0 k, seq := (max 0 k).toNat }

/-! ### Stage-clock and show-time events (R501) -/

def causeCold : Nat := 0
def causeDeclared : Nat := 1
def causePll : Nat := 2
def causePower : Nat := 3

/-- The sequence number of the first frame not yet presented or dropped: the first that would be marked. -/
def State.firstUnpresented (s : State) : Nat :=
  match s.frames with
  | f :: _ => f.seq
  | [] => s.time.sched.seq

/-- A stage clock becomes `FREE` (R72). -/
def State.freeClock (s : State) (x : StageClk) (cause : Nat) : State :=
  s.setClk x { s.clk x with locked := false, cause := cause }

/-- `STAGE_UNLOCK` (R501). -/
def State.stageUnlock (s : State) (x : StageClk) : State :=
  s.raise Src.clocks E.STAGE_UNLOCK [clkIx x + 2 * (s.clk x).cause, s.firstUnpresented]

/-- `SHOW_UNLOCK` (R501). -/
def State.showUnlock (s : State) : State :=
  s.raise Src.clocks E.SHOW_UNLOCK [clkIx s.showSel + 2 * s.time.show_.cause, s.firstUnpresented]

/-- Show time locks when its clock is `LOCKED` (R84). -/
def State.showLock (s : State) : State :=
  if s.time.show_.locked || !(s.clk s.showSel).locked then s
  else
    let v := (s.clk s.showSel).val
    (s.setShow { s.time.show_ with val := v, locked := true, corr := 0, d := 0, calcAt := s.time.house }).raise
      Src.clocks E.SHOW_LOCK [clkIx s.showSel, s.time.lastMarked]

end Sys2Proof.Machine
end

