-- ==== Sys2Proof/Machine/Tables.lean ====
section
/-! DEFINITION. The configuration tables: entry layouts, the checks of an entry, and the checks of a whole cue
(R43, R44, R88, R139, R145, R156, R179, R180, R185 to R189, R221, R222, R327, R500). -/

namespace Sys2Proof.Machine

def tCanvas : Nat := 1
def tLayer : Nat := 2
def tSurface : Nat := 3
def tPush : Nat := 4
def tSpot : Nat := 5
def tPatch : Nat := 6
def tProfile : Nat := 7
def tFeed : Nat := 8
def tTiming : Nat := 9

/-- Entry size of a table, 0 where there is no such table (R43). -/
def tabSize (t : Nat) : Nat :=
  if t = tCanvas ∨ t = tLayer ∨ t = tSurface then 64 else if t = tFeed then 8
  else if t = tPush ∨ t = tSpot ∨ t = tPatch ∨ t = tProfile ∨ t = tTiming then 32 else 0

/-- Entries of a table. -/
def tabCount (t : Nat) : Nat :=
  if t = tCanvas then 64 else if t = tLayer then 512 else if t = tSurface then 4096 else if t = tPush then 66
  else if t = tSpot then 48 else if t = tPatch then 262144 else if t = tProfile then 1024 else if t = tFeed then 96
  else if t = tTiming then 1 else 0

/-- The defaults of an entry never written (R7): those its layout gives in parentheses, else 0 (assumption 23). -/
def tabDefault (t : Nat) : List Byte :=
  if t = tLayer then patch (zeros 64) 6 (leBytes 2 0x3C00)
  else if t = tPush then patch (patch (patch (zeros 32) 4 (leBytes 2 256)) 6 (leBytes 1 2)) 8 (leBytes 2 20)
  else if t = tSpot then patch (zeros 32) 0 (leBytes 2 4)
  else if t = tProfile then
    leBytes 2 8 ++ leBytes 1 16 ++ leBytes 1 1 ++ leBytes 4 1000000 ++ leBytes 2 0 ++ leBytes 2 0 ++ leBytes 2 0 ++
      leBytes 2 1000 ++ leBytes 2 8 ++ leBytes 2 100 ++ leBytes 2 16 ++ leBytes 1 0xFF ++ leBytes 1 0 ++ zeros 8
  else if t = tTiming then patch (patch (zeros 32) 8 (leBytes 1 2)) 12 (leBytes 4 100)
  else zeros (tabSize t)

def tabKey (t e : Nat) : Nat := t * 2 ^ 20 + e

/-- An entry of a configuration. -/
def CfgTab.entry (c : CfgTab) (t e : Nat) : List Byte := FMap.get (tabDefault t) c (tabKey t e)

/-- A configuration with an entry written. -/
def CfgTab.write (c : CfgTab) (w : CfgWrite) : CfgTab :=
  FMap.put (tabDefault w.table) c (tabKey w.table w.entry) w.bytes

def CfgTab.writeAll (c : CfgTab) (l : List CfgWrite) : CfgTab := l.foldl CfgTab.write c

/-- The numbers of a table's entries that differ from the default. -/
def CfgTab.entriesOf (c : CfgTab) (t : Nat) : List Nat :=
  (List.filter (fun (e : Nat × List Byte) => decide (e.1 / 2 ^ 20 = t)) c).map (fun e => e.1 % 2 ^ 20)

/-! ### Fields -/

def Cv.width (e : List Byte) : Nat := fieldAt e 0 2
def Cv.height (e : List Byte) : Nat := fieldAt e 2 2
def Cv.prim2020 (e : List Byte) : Bool := bit (fieldAt e 4 1) 0
def Cv.count (e : List Byte) : Nat := fieldAt e 5 1
def Cv.layer (e : List Byte) (i : Nat) : Nat := fieldAt e (0x20 + 2 * i) 2
def Cv.layers (e : List Byte) : List Nat := (List.range (Cv.count e)).map (Cv.layer e)
def Cv.background (e : List Byte) : Pix := pixOfBytes (slice e 8 8)

def Ly.source (e : List Byte) : Nat := fieldAt e 0 4
def Ly.enable (e : List Byte) : Bool := bit (fieldAt e 4 2) 0
def Ly.blend (e : List Byte) : Nat := bits (fieldAt e 4 2) 1 3
def Ly.opacity (e : List Byte) : FP := f16 (fieldAt e 6 2)
def Ly.cropX (e : List Byte) : Nat := fieldAt e 8 2
def Ly.cropY (e : List Byte) : Nat := fieldAt e 10 2
def Ly.cropW (e : List Byte) : Nat := fieldAt e 12 2
def Ly.cropH (e : List Byte) : Nat := fieldAt e 14 2
def Ly.posX (e : List Byte) : Int := signedOf 32 (fieldAt e 16 4)
def Ly.posY (e : List Byte) : Int := signedOf 32 (fieldAt e 20 4)
def Ly.colour (e : List Byte) : LayerPix := ⟨f16 (fieldAt e 24 2), f16 (fieldAt e 26 2), f16 (fieldAt e 28 2), (f16 (fieldAt e 30 2)).toRat⟩

def Sf.enable (e : List Byte) : Bool := bit (fieldAt e 0 2) 0
def Sf.usesPixmap (e : List Byte) : Bool := bit (fieldAt e 0 2) 1
def Sf.filter (e : List Byte) : Nat := bits (fieldAt e 0 2) 2 2
def Sf.canvas (e : List Byte) : Nat := fieldAt e 2 1
def Sf.link (e : List Byte) : Nat := fieldAt e 3 1
def Sf.width (e : List Byte) : Nat := fieldAt e 4 2
def Sf.height (e : List Byte) : Nat := fieldAt e 6 2
def Sf.pixmap (e : List Byte) : Nat := fieldAt e 8 4
def Sf.cal (e : List Byte) : Nat := fieldAt e 12 4
def Sf.calBase (e : List Byte) : Nat := fieldAt e 16 4
def Sf.profile (e : List Byte) : Nat := fieldAt e 20 2
def Sf.node (e : List Byte) : Nat := fieldAt e 22 2
def Sf.feed (e : List Byte) : Nat := fieldAt e 24 1
def Sf.coef (e : List Byte) (i : Nat) : FP := f32 (fieldAt e (32 + 4 * i) 4)
def Sf.affine (e : List Byte) : Affine :=
  ⟨(Sf.coef e 0).toRat, (Sf.coef e 1).toRat, (Sf.coef e 2).toRat, (Sf.coef e 3).toRat, (Sf.coef e 4).toRat,
    (Sf.coef e 5).toRat⟩
def Sf.lamps (e : List Byte) : Nat := Sf.width e * Sf.height e

def Ps.full (e : List Byte) : Bool := bit (fieldAt e 0 2) 0
def Ps.commitLine (e : List Byte) : Nat := fieldAt e 2 2
def Ps.refresh (e : List Byte) : Nat := fieldAt e 4 2
def Ps.retries (e : List Byte) : Nat := fieldAt e 6 1
def Ps.ackWait (e : List Byte) : Nat := fieldAt e 8 2

def Sp.en (e : List Byte) : Bool := bit (fieldAt e 0 2) 0
def Sp.canvas (e : List Byte) : Bool := bit (fieldAt e 0 2) 1
def Sp.capture (e : List Byte) : Bool := bit (fieldAt e 0 2) 2
def Sp.target (e : List Byte) : Nat := fieldAt e 2 2
def Sp.x (e : List Byte) : Nat := fieldAt e 4 2
def Sp.y (e : List Byte) : Nat := fieldAt e 6 2
def Sp.w (e : List Byte) : Nat := fieldAt e 8 2
def Sp.h (e : List Byte) : Nat := fieldAt e 10 2
def Sp.expect (e : List Byte) : Nat := fieldAt e 12 4

/-- `TYPE` of a patch entry: 0 `EMPTY`, 1 `FIXTURE`, 2 `SURFACE`. -/
def Pt.type (e : List Byte) : Nat := bits (fieldAt e 0 1) 0 2
def Pt.route (e : List Byte) : Nat := bits (fieldAt e 0 1) 2 2
def Pt.canvas (e : List Byte) : Nat := fieldAt e 1 1
def Pt.personality (e : List Byte) : Nat := if Pt.type e = 2 then fieldAt e 4 2 else fieldAt e 2 2
def Pt.surface (e : List Byte) : Nat := fieldAt e 2 2
def Pt.calstore (e : List Byte) : Nat := fieldAt e 4 2
def Pt.feed (e : List Byte) : Nat := fieldAt e 6 1
def Pt.points (e : List Byte) : Nat := fieldAt e 7 1
def Pt.calBase (e : List Byte) : Nat := bits (fieldAt e 8 4) 0 26
def Pt.pointBlock (e : List Byte) : Nat := fieldAt e 12 2
def Pt.safeLook (e : List Byte) : Nat := fieldAt e 14 2
def Pt.pointFirst (e : List Byte) : Nat := bits (fieldAt e 16 4) 0 20
def Pt.routeA (e : List Byte) : Nat := fieldAt e 20 2
def Pt.routeB (e : List Byte) : Nat := fieldAt e 22 2
def Pt.start (e : List Byte) : Nat := fieldAt e 24 2
def routeSacn : Nat := 0
def routeLine : Nat := 1
def routeLink : Nat := 2

def Pf.topology (e : List Byte) : Nat := bits (fieldAt e 0 2) 0 2
def Pf.dither (e : List Byte) : Bool := bit (fieldAt e 0 2) 2
def Pf.diag (e : List Byte) : Bool := bit (fieldAt e 0 2) 3
def Pf.local_ (e : List Byte) : Bool := bit (fieldAt e 0 2) 4
def Pf.pwmBits (e : List Byte) : Nat := fieldAt e 2 1
def Pf.scanLines (e : List Byte) : Nat := fieldAt e 3 1
def Pf.period (e : List Byte) : Nat := fieldAt e 4 4
def Pf.blank (e : List Byte) : Nat := fieldAt e 8 2
def Pf.tDiag (e : List Byte) : Nat := fieldAt e 14 2
def Pf.stride (e : List Byte) : Nat := fieldAt e 16 2
def Pf.interval (e : List Byte) : Nat := fieldAt e 18 2
def Pf.group (e : List Byte) : Nat := fieldAt e 20 2
def Pf.func (e : List Byte) : Nat := fieldAt e 22 1
def Pf.sigBase (e : List Byte) : Nat := fieldAt e 23 1

def Fd.limit (e : List Byte) : FP := f32 (fieldAt e 0 4)
def Fd.en (e : List Byte) : Bool := bit (fieldAt e 4 1) 0

def Tm.num (e : List Byte) : Nat := bits (fieldAt e 0 4) 0 20
def Tm.den (e : List Byte) : Nat := bits (fieldAt e 4 4) 0 20
def Tm.lead (e : List Byte) : Nat := fieldAt e 8 1
def Tm.epochMode (e : List Byte) : Bool := bit (fieldAt e 9 1) 0
def Tm.dropAll (e : List Byte) : Bool := bit (fieldAt e 9 1) 1
def Tm.margin (e : List Byte) : Nat := fieldAt e 12 4
def Tm.epoch (e : List Byte) : Nat := timeOf (bits (fieldAt e 16 8) 0 48) (bits (fieldAt e 24 4) 0 30)

/-! ### Personalities (R193 to R197) -/

/-- Header fields of a personality's bytes. -/
def Pn.version (b : List Byte) : Nat := fieldAt b 0 2
def Pn.footprint (b : List Byte) : Nat := fieldAt b 2 2
def Pn.emitters (b : List Byte) : Nat := fieldAt b 4 1
def Pn.attrs (b : List Byte) : Nat := fieldAt b 5 1
def Pn.colourPoints (b : List Byte) : Nat := fieldAt b 6 1
def Pn.dither (b : List Byte) : Bool := bit (fieldAt b 7 1) 0
def Pn.baseW (b : List Byte) : FP := f16 (fieldAt b 8 2)
/-- The record of emitter i, and of attribute j. -/
def Pn.emitter (b : List Byte) (i : Nat) : List Byte := slice b (32 + 16 * i) 16
def Pn.attr (b : List Byte) (j : Nat) : List Byte := slice b (32 + 16 * Pn.emitters b + 8 * j) 8
def Em.cx (r : List Byte) : FP := f16 (fieldAt r 0 2)
def Em.cy (r : List Byte) : FP := f16 (fieldAt r 2 2)
def Em.flux (r : List Byte) : FP := f16 (fieldAt r 4 2)
def Em.watts (r : List Byte) : FP := f16 (fieldAt r 6 2)
def Em.curve (r : List Byte) : Nat := fieldAt r 8 2
def Em.slot (r : List Byte) : Nat := fieldAt r 10 2
def Em.width (r : List Byte) : Nat := fieldAt r 12 1
def At.kind (r : List Byte) : Nat := fieldAt r 0 1
def At.width (r : List Byte) : Nat := fieldAt r 1 1
def At.slot (r : List Byte) : Nat := fieldAt r 2 2
def At.default (r : List Byte) : Nat := fieldAt r 4 2
def At.arg (r : List Byte) : Nat := fieldAt r 6 1
def aFixed : Nat := 0
def aIntensity : Nat := 1
def aChannel : Nat := 2
def aControl : Nat := 3

def Pn.emitterList (b : List Byte) : List (List Byte) := (List.range (Pn.emitters b)).map (Pn.emitter b)
def Pn.attrList (b : List Byte) : List (List Byte) := (List.range (Pn.attrs b)).map (Pn.attr b)

/-- The slots a record writes. -/
def slotsOf (slot width : Nat) : List Nat := (List.range width).map (slot + ·)

/-- Finite and not negative. -/
def finNonNeg (x : FP) : Bool := match x with | .fin q => decide (0 ≤ q) | _ => false

/-- The last condition of R197 on an emitter: its chromaticity and flux. -/
def chromaOk (cx cy flux : FP) : Bool :=
  match cx, cy, flux with
  | .fin x, .fin y, .fin f => decide (0 ≤ x ∧ 0 ≤ f ∧ 0 < y ∧ x + y ≤ 1)
  | _, _, _ => false

/-- A personality is valid (R197). -/
def persValid (b : List Byte) : Bool :=
  let es := Pn.emitterList b
  let as_ := Pn.attrList b
  let used := es.flatMap (fun r => slotsOf (Em.slot r) (Em.width r)) ++
    as_.flatMap (fun r => slotsOf (At.slot r) (At.width r))
  Pn.version b == 1 && inRange 1 512 (Pn.footprint b) && inRange 0 8 (Pn.emitters b) && inRange 0 64 (Pn.attrs b) &&
  inRange 0 16 (Pn.colourPoints b) && bits (fieldAt b 7 1) 1 7 == 0 && finNonNeg (Pn.baseW b) &&
  (slice b 10 22).all (· = 0) && decide (32 + 16 * Pn.emitters b + 8 * Pn.attrs b ≤ b.length) &&
  es.all (fun r => inRange 1 2 (Em.width r) && finNonNeg (Em.watts r) && chromaOk (Em.cx r) (Em.cy r) (Em.flux r) &&
    (slice r 13 3).all (· = 0)) &&
  as_.all (fun r => inRange 0 3 (At.kind r) && inRange 1 2 (At.width r) && fieldAt r 7 1 == 0 &&
    (if At.kind r = aChannel then decide (At.arg r < 4) else if At.kind r = aControl then decide (At.arg r < 64)
     else At.arg r == 0)) &&
  used.all (fun n => decide (n < Pn.footprint b)) && used.dedup.length == used.length &&
  decide ((as_.filter (fun r => At.kind r = aIntensity)).length ≤ 1)

/-- The highest point a control attribute names, plus 1; 0 without one. -/
def Pn.controlPoints (b : List Byte) : Nat :=
  (Pn.attrList b).foldl (fun m r => if At.kind r = aControl then max m (bits (At.arg r) 2 4 + 1) else m) 0

/-- A curve is valid (R198). -/
def curveValid (b : List Byte) : Bool :=
  let n := b.length / 4
  let x : Nat → FP := fun j => f16 (fieldAt b (4 * j) 2)
  let y : Nat → Nat := fun j => fieldAt b (4 * j + 2) 2
  decide (2 ≤ n) && x 0 == .fin 0 && x (n - 1) == .fin 1 &&
  (List.range (n - 1)).all (fun j => (x j).isFin && (x (j + 1)).isFin && decide ((x j).toRat < (x (j + 1)).toRat) &&
    decide (y j ≤ y (j + 1)))

/-- The whole current contents of a live object. -/
def State.contents (s : State) (idx : Nat) : List Byte := s.objBytes (s.obj? idx) 0 (s.obj? idx).size

def checkNone : CheckSt := ⟨⟨false, false, []⟩, none, none⟩
def State.check (s : State) (idx : Nat) : CheckSt := s.fix.checks.get checkNone idx

/-! ### Checks of one entry (R44) -/

def allZero (b : List Byte) (off n : Nat) : Bool := (slice b off n).all (· = 0)

/-- Check 3: reserved bits and bytes, and the bytes an `EMPTY` patch entry requires to be 0. -/
def entryClean (t : Nat) (e : List Byte) : Bool :=
  if t = tCanvas then bits (fieldAt e 4 1) 1 7 == 0 && allZero e 6 2 && allZero e 16 16
  else if t = tLayer then bits (fieldAt e 4 2) 4 12 == 0 && allZero e 32 32
  else if t = tSurface then bits (fieldAt e 0 2) 4 12 == 0 && allZero e 25 7 && allZero e 56 8
  else if t = tPush then bits (fieldAt e 0 2) 1 15 == 0 && allZero e 7 1 && allZero e 10 22
  else if t = tSpot then bits (fieldAt e 0 2) 3 13 == 0 && allZero e 16 16
  else if t = tPatch then
    if Pt.type e = 0 then e.all (· = 0)
    else if Pt.type e = 1 then
      bits (fieldAt e 0 1) 4 4 == 0 && bits (fieldAt e 8 4) 26 6 == 0 && bits (fieldAt e 16 4) 20 12 == 0 && allZero e 26 6
    else if Pt.type e = 2 then bits (fieldAt e 0 1) 2 6 == 0 && allZero e 1 1 && allZero e 6 26
    else true
  else if t = tProfile then bits (fieldAt e 0 2) 5 11 == 0 && allZero e 24 8
  else if t = tFeed then bits (fieldAt e 4 1) 1 7 == 0 && allZero e 5 3
  else if t = tTiming then
    bits (fieldAt e 0 4) 20 12 == 0 && bits (fieldAt e 4 4) 20 12 == 0 && bits (fieldAt e 9 1) 2 6 == 0 && allZero e 10 2 &&
    bits (fieldAt e 16 8) 48 16 == 0 && bits (fieldAt e 24 4) 30 2 == 0 && allZero e 28 4
  else true

/-- A value from 0 to 1. -/
def unitRange (x : FP) : Bool := match x with | .fin q => decide (0 ≤ q ∧ q ≤ 1) | _ => false

def rangeCanvas (e : List Byte) : Bool :=
  decide (Cv.width e ≤ 32768 ∧ Cv.height e ≤ 32768 ∧ Cv.count e ≤ 16) && (Cv.layers e).all (fun i => decide (i < 512)) &&
  (f16 (fieldAt e 8 2)).isFin && (f16 (fieldAt e 10 2)).isFin && (f16 (fieldAt e 12 2)).isFin && unitRange (f16 (fieldAt e 14 2))

/-- A layer's source is a live `SOURCE` or `GRAPHIC`. -/
def State.layerSource (s : State) (h : Nat) : Bool :=
  s.live h && ((s.obj? (handleIdx h)).kind == kSource || (s.obj? (handleIdx h)).kind == kGraphic)

def State.rangeLayer (s : State) (e : List Byte) : Bool :=
  let h := Ly.source e
  decide (Ly.blend e ≤ 4) && unitRange (Ly.opacity e) &&
  decide (-65536 ≤ Ly.posX e ∧ Ly.posX e ≤ 65535 ∧ -65536 ≤ Ly.posY e ∧ Ly.posY e ≤ 65535) &&
  (if h = 0 then unitRange (f16 (fieldAt e 30 2))
   else if s.layerSource h then
     let i := (s.obj? (handleIdx h)).info
     decide (Ly.cropX e + Ly.cropW e ≤ i.w ∧ Ly.cropY e + Ly.cropH e ≤ i.h)
   else !Ly.enable e)

/-- A live object of a kind at an index. -/
def State.isKind (s : State) (idx k : Nat) : Bool := idx != 0 && (s.obj? idx).kind == k

def State.rangeSurface (s : State) (e : List Byte) : Bool :=
  decide (Sf.filter e ≤ 2 ∧ Sf.node e ≤ 255 ∧ Sf.canvas e < 64 ∧ Sf.link e < 64 ∧ Sf.width e ≤ 32768 ∧ Sf.height e ≤ 32768 ∧
    Sf.profile e < 1024) && (decide (Sf.feed e < 96) || Sf.feed e == 0xFF) &&
  (!Sf.enable e ||
    ((List.range 6).all (fun i => (Sf.coef e i).isFin) &&
     (Sf.filter e != filterBox || Sf.usesPixmap e ||
       boxFits (Sf.affine e)) &&
     (!Sf.usesPixmap e || !(s.live (Sf.pixmap e) && s.isKind (handleIdx (Sf.pixmap e)) kPixmap) ||
       fieldAt (s.obj? (handleIdx (Sf.pixmap e))).param 0 4 == Sf.lamps e)))

def rangePush (n : Nat) (e : List Byte) : Bool :=
  if 64 ≤ n then e.all (· = 0) else decide (Ps.retries e ≤ 7) && inRange 1 1000 (Ps.ackWait e)

def rangeSpot (e : List Byte) : Bool :=
  decide (Sp.target e < (if Sp.canvas e then 64 else 4096) ∧ Sp.x e ≤ 32767 ∧ Sp.y e ≤ 32767 ∧ Sp.w e ≤ 32768 ∧
    Sp.h e ≤ 32768)

/-- A personality fits a `FIXTURE` entry (R188). -/
def fixtureFits (b : List Byte) (e : List Byte) : Bool :=
  decide (Pt.start e + Pn.footprint b ≤ (if Pt.route e = routeLink then 65535 else 512) + 1) &&
  decide (Pn.colourPoints b ≤ Pt.points e) && decide (Pn.controlPoints b ≤ Pt.points e)

def State.rangePatch (s : State) (e : List Byte) : Bool :=
  let p := Pt.personality e
  if Pt.type e = 0 then true
  else if Pt.type e = 2 then decide (Pt.surface e < 4096) && p != 0
  else if Pt.type e = 1 then
    let b := s.contents p
    let cal := s.obj? (Pt.calstore e)
    decide (Pt.route e ≤ 2 ∧ Pt.canvas e < 64 ∧ p ≠ 0 ∧ Pt.points e ≤ 16) &&
    (decide (Pt.feed e < 96) || Pt.feed e == 0xFF) && (decide (Pt.safeLook e < 4096) || Pt.safeLook e == 0xFFFF) &&
    (Pt.points e != 0 || Pt.pointBlock e == 0) &&
    (if Pt.route e = routeSacn then inRange 1 63999 (Pt.routeA e) && Pt.routeB e == 0 && inRange 1 512 (Pt.start e)
     else if Pt.route e = routeLine then decide (Pt.routeA e < 16) && Pt.routeB e == 0 && inRange 1 512 (Pt.start e)
     else decide (Pt.routeA e < 64 ∧ Pt.routeB e ≤ 255)) &&
    (!s.isKind p kPersonality ||
      ((s.check p).cur.valid && fixtureFits b e &&
       (!s.isKind (Pt.calstore e) kCalstore || calEmitters cal.param == Pn.emitters b))) &&
    (!s.isKind (Pt.calstore e) kCalstore || decide (Pt.calBase e < calLamps cal.param)) &&
    (!s.isKind (Pt.pointBlock e) kPatchBlock ||
      decide (Pt.pointFirst e + Pt.points e ≤ 4 * fieldAt (s.obj? (Pt.pointBlock e)).param 0 4))
  else false

/-- Slots of a PWM period of a signal-string port, and of its longest window (R233), in ns. -/
def sigPeriod (e : List Byte) : Nat := (2 ^ Pf.pwmBits e - 1) * 680
def sigWindow (e : List Byte) : Nat := 17 * ceilDiv (Pf.tDiag e) 680 * 680

def rangeProfile (e : List Byte) : Bool :=
  let b := Pf.pwmBits e
  decide (Pf.topology e ≤ 2) && (if Pf.local_ e then inRange 4 12 b else inRange 1 16 b) &&
  inRange 1 64 (Pf.scanLines e) && (Pf.topology e == 2 || Pf.scanLines e == 1) &&
  (Pf.local_ e || inRange 1000 10000000 (Pf.period e)) && inRange 100 65535 (Pf.tDiag e) &&
  inRange 1 65535 (Pf.stride e) && inRange 1 60000 (Pf.interval e) && (Pf.local_ e || inRange 1 1024 (Pf.group e)) &&
  (decide (Pf.func e < 64) || Pf.func e == 0xFF) && decide (Pf.sigBase e < 16) &&
  (Pf.topology e != 2 ||
    decide ((2 ^ b - 1 + Pf.blank e) * Pf.scanLines e ≤ Pf.period e)) &&
  (!Pf.diag e || Pf.local_ e || decide (Pf.group e * Pf.period e ≤ Pf.interval e * 1000000)) &&
  (!Pf.local_ e || Pf.topology e == 1) &&
  (!Pf.local_ e || !Pf.diag e || decide (16 * (2 * sigPeriod e + sigWindow e) ≤ Pf.interval e * 1000000))

def rangeFeed (e : List Byte) : Bool :=
  !Fd.en e || (match Fd.limit e with | .fin q => decide (1 ≤ q ∧ q ≤ 1000000) | _ => false)

/-- DESIGN CHOICE (assumption 171): nanoseconds of 1,000,000,000 and more are out of range, as R70 bounds them; R88 does not list it. -/
def rangeTiming (e : List Byte) : Bool :=
  let num := Tm.num e
  let den := Tm.den e
  decide (1 ≤ num ∧ 1 ≤ den) && inRange 1 8 (Tm.lead e) && inRange 10 10000 (Tm.margin e) &&
  decide (24000 * den ≤ 1001 * num ∧ num ≤ 240 * den) &&
  decide (Tm.margin e * num < Tm.lead e * den * 1000000) && decide (bits (fieldAt e 24 4) 0 30 < 1000000000)

/-- Check 4 on an entry. -/
def State.entryRange (s : State) (t n : Nat) (e : List Byte) : Bool :=
  if t = tCanvas then rangeCanvas e else if t = tLayer then s.rangeLayer e else if t = tSurface then s.rangeSurface e
  else if t = tPush then rangePush n e else if t = tSpot then rangeSpot e else if t = tPatch then s.rangePatch e
  else if t = tProfile then rangeProfile e else if t = tFeed then rangeFeed e else rangeTiming e

/-- The objects an entry must name: a full handle, or an index, with the kind required. -/
def entryNames (t : Nat) (e : List Byte) : List (Sum Nat Nat × Nat) :=
  if t = tSurface then
    (if Sf.enable e || Sf.cal e != 0 then [(.inl (Sf.cal e), kCalstore)] else []) ++
    (if Sf.usesPixmap e then [(.inl (Sf.pixmap e), kPixmap)] else [])
  else if t = tPatch then
    if Pt.type e = 1 then
      [(.inr (Pt.personality e), kPersonality)] ++
      (if Pt.calstore e = 0 then [] else [(.inr (Pt.calstore e), kCalstore)]) ++
      (if Pt.points e = 0 then [] else [(.inr (Pt.pointBlock e), kPatchBlock)])
    else if Pt.type e = 2 then [(.inr (Pt.personality e), kPersonality)]
    else []
  else []

/-- A named object is live. -/
def State.namesLive (s : State) : Sum Nat Nat → Bool
  | .inl h => s.live h
  | .inr i => i != 0 && (s.obj? i).kind != 0

def nameIdx : Sum Nat Nat → Nat
  | .inl h => handleIdx h
  | .inr i => i

/-- The status of the checks of the entries a `SET` writes, from check 3 on (R44); 0 when they pass. -/
def State.entriesStatus (s : State) (t first : Nat) (es : List (List Byte)) : Nat :=
  if es.any (fun e => !entryClean t e) then St.malformed
  else if (es.zipIdx first).any (fun p => !s.entryRange t p.2 p.1) then St.outOfRange
  else if es.any (fun e => (entryNames t e).any (fun n => !s.namesLive n.1)) then St.staleHandle
  else if es.any (fun e => (entryNames t e).any (fun n => (s.obj? (nameIdx n.1)).kind != n.2)) then St.badKind
  else 0

/-! ### What a configuration samples and needs (R120, R140, R157, R222) -/

/-- The sample point of lamp (u, v) of a surface; none when unmapped (R158). -/
def State.samplePoint (s : State) (e : List Byte) (u v : Nat) : Option (Rat × Rat) :=
  if Sf.usesPixmap e then
    let o := s.obj? (handleIdx (Sf.pixmap e))
    let b := s.objBytes o (8 * (v * Sf.width e + u)) 8
    if fieldAt b 0 8 = 2 ^ 64 - 1 then none
    else some ((fieldAt b 0 4 : Nat) / (65536 : Rat), (fieldAt b 4 4 : Nat) / (65536 : Rat))
  else affinePoint (Sf.affine e) u v

/-- The taps of lamp (u, v) of a surface. -/
def State.lampTaps (s : State) (e : List Byte) (u v : Nat) : List Tap :=
  match s.samplePoint e u v with
  | none => []
  | some (x, y) => taps (Sf.filter e) (if Sf.usesPixmap e then none else some (boxOf (Sf.affine e))) x y

/-- The tile of a tap that lies in the canvas, as an item number (R120). -/
def tapTile (c : Nat) (cv : List Byte) (t : Tap) : Option Nat :=
  if 0 ≤ t.1 ∧ t.1 < Cv.width cv ∧ 0 ≤ t.2.1 ∧ t.2.1 < Cv.height cv then
    some (c * 65536 + t.2.1.toNat / 128 * 256 + t.1.toNat / 128)
  else none

/-- A sampling point of a patch block (R191); none when unmapped. -/
def State.blockPoint (s : State) (blk p : Nat) : Option (Rat × Rat) :=
  let b := s.objBytes (s.obj? blk) (32 * (p / 4) + 8 * (p % 4)) 8
  if fieldAt b 0 8 = 2 ^ 64 - 1 then none
  else some ((fieldAt b 0 4 : Nat) / (65536 : Rat), (fieldAt b 4 4 : Nat) / (65536 : Rat))

/-- A number is added to an ascending list without repeats. -/
def insertAsc (n : Nat) : List Nat → List Nat
  | [] => [n]
  | m :: rest => if n < m then n :: m :: rest else if n = m then m :: rest else m :: insertAsc n rest

/-- The lamps (u, v) of a surface in raster order. -/
def lampsOf (e : List Byte) : List (Nat × Nat) :=
  (List.range (Sf.height e)).flatMap (fun v => (List.range (Sf.width e)).map (fun u => (u, v)))

/-- The per-line fields of an old entry in a new one. -/
def mixEntry (new old : List Byte) : List Byte :=
  let fl := setBits (fieldAt new 0 2) 1 3 (bits (fieldAt old 0 2) 1 3)
  patch (patch (patch (patch new 0 (leBytes 2 fl)) 2 (slice old 2 1)) 8 (slice old 8 12)) 32 (slice old 32 24)

/-- The commit line of a surface in a frame (R178). -/
def FrameRec.commitLine (f : FrameRec) (surf : Nat) : Nat :=
  Ps.commitLine (f.cfg.entry tPush (Sf.link (f.cfg.entry tSurface surf)))

/-- A surface's entry as the lamps of line v use it. -/
def FrameRec.lineEntry (f : FrameRec) (surf v : Nat) : List Byte :=
  let e := f.cfg.entry tSurface surf
  if f.commitLine surf ≤ v then e else mixEntry e (f.cfgPrev.entry tSurface surf)

/-- Tiles an enabled surface samples under a configuration (R140), with the entry that each line's lamps use (R178). -/
def State.surfaceTiles (s : State) (c : CfgTab) (e : List Byte) (line : Nat → List Byte) : List Nat :=
  if Sf.enable e then
    (lampsOf e).flatMap (fun l =>
      let x := line l.2
      (s.lampTaps x l.1 l.2).filterMap (tapTile (Sf.canvas x) (c.entry tCanvas (Sf.canvas x))))
  else []

/-- Tiles the points of a fixture sample (R192). -/
def State.fixtureTiles (s : State) (c : CfgTab) (e : List Byte) : List Nat :=
  if Pt.type e = 1 then
    let cv := c.entry tCanvas (Pt.canvas e)
    (List.range (Pt.points e)).flatMap (fun k =>
      match s.blockPoint (Pt.pointBlock e) (Pt.pointFirst e + k) with
      | none => []
      | some (x, y) => (taps filterBilinear none x y).filterMap (tapTile (Pt.canvas e) cv))
  else []

/-- The tiles that a configuration samples, given each surface's entry by line, in item-number order (R140). -/
def State.tilesBy (s : State) (c : CfgTab) (line : Nat → Nat → List Byte) : List Nat :=
  let a := (c.entriesOf tSurface).flatMap (fun i => s.surfaceTiles c (c.entry tSurface i) (line i))
  let b := (c.entriesOf tPatch).flatMap (fun i => s.fixtureTiles c (c.entry tPatch i))
  (a ++ b).foldl (fun l n => insertAsc n l) []

/-- The sampled tiles of a configuration, in item-number order (R140). -/
def State.sampledTiles (s : State) (c : CfgTab) : List Nat := s.tilesBy c (fun i _ => c.entry tSurface i)

/-- The sampled tiles of a frame (R140): lines above a commit line sample with the entry before (R178). -/
def State.frameTiles (s : State) (f : FrameRec) : List Nat := s.tilesBy f.cfg f.lineEntry

/-- Enabled surfaces of a configuration that hold a lamp. -/
def CfgTab.liveSurfaces (c : CfgTab) : List Nat :=
  (c.entriesOf tSurface).filter (fun i => Sf.enable (c.entry tSurface i) && Sf.lamps (c.entry tSurface i) != 0)

/-- Lamp chunks of a configuration, as item numbers (R120). -/
def CfgTab.chunkItems (c : CfgTab) (chunk : Nat) : List Nat :=
  c.liveSurfaces.flatMap (fun i => (List.range (ceilDiv (Sf.lamps (c.entry tSurface i)) chunk)).map (i * 1024 + ·))

/-- `FIXTURE` entries of a configuration. -/
def CfgTab.fixtures (c : CfgTab) : List Nat := (c.entriesOf tPatch).filter (fun i => Pt.type (c.entry tPatch i) = 1)

/-- Patch ranges of a configuration, as item numbers. -/
def CfgTab.rangeItems (c : CfgTab) : List Nat := ((c.fixtures.map (· / 512)).dedup).map (4194304 + ·)

/-- Work items of a configuration (R120). -/
def State.itemCount (s : State) (c : CfgTab) : Nat :=
  (s.sampledTiles c).length + (c.chunkItems (s.fld F.BLK_FE_CHUNK.LAMPS)).length + c.rangeItems.length

/-- Lamps of the enabled surfaces of a link (R157). -/
def CfgTab.linkLamps (c : CfgTab) (link : Nat) : Nat :=
  ((c.liveSurfaces.filter (fun i => Sf.link (c.entry tSurface i) = link)).map (fun i => Sf.lamps (c.entry tSurface i))).sum

/-- The profile of a surface. -/
def CfgTab.profileOf (c : CfgTab) (i : Nat) : List Byte := c.entry tProfile (Sf.profile (c.entry tSurface i))

/-- Emitters of a surface's lamps (R163). -/
def State.surfaceEmitters (s : State) (e : List Byte) : Nat := calEmitters (s.obj? (handleIdx (Sf.cal e))).param

/-- Signal-string ports an enabled surface needs (R231): they may lie beyond 15. -/
def State.portsOf (s : State) (c : CfgTab) (i : Nat) : List Nat :=
  let e := c.entry tSurface i
  if Sf.enable e && Pf.local_ (c.profileOf i) then
    (List.range (ceilDiv (Sf.lamps e * s.surfaceEmitters e) 16)).map (Pf.sigBase (c.profileOf i) + ·)
  else []

/-! ### Checks on the whole cue (R500) -/

/-- The first member that writes one of some entries. -/
def firstWriter (ws : List CfgWrite) (keys : List Nat) : Nat :=
  ((ws.find? (fun w => keys.contains (tabKey w.table w.entry))).map (·.member)).getD 0

/-- The first member after all of whose writes a need is greater than before it. -/
def firstRaiser (need : CfgTab → Nat) (c : CfgTab) (ws : List CfgWrite) : Nat :=
  (((ws.map (·.member)).dedup).find? (fun m =>
    decide (need (c.writeAll (ws.filter (fun w => decide (w.member < m)))) <
      need (c.writeAll (ws.filter (fun w => decide (w.member ≤ m))))))).getD 0

/-- Canvases that list a layer index that is listed twice. -/
def CfgTab.layerConflict (c : CfgTab) : Option (List Nat) :=
  let all := (c.entriesOf tCanvas).flatMap (fun i => (Cv.layers (c.entry tCanvas i)).map (fun l => (l, i)))
  match all.find? (fun p => 1 < (all.filter (fun q => q.1 = p.1)).length) with
  | none => none
  | some p => some ((all.filter (fun q => q.1 = p.1)).map (fun q => tabKey tCanvas q.2))

/-- Entries in conflict over signal-string ports. -/
def State.portConflict (s : State) (c : CfgTab) : Option (List Nat) :=
  let keys : Nat → List Nat := fun i => [tabKey tSurface i, tabKey tProfile (Sf.profile (c.entry tSurface i))]
  let all := c.liveSurfaces.flatMap (fun i => (s.portsOf c i).map (fun p => (p, i)))
  match all.find? (fun p => 16 ≤ p.1) with
  | some p => some (keys p.2)
  | none =>
    match all.find? (fun p => all.any (fun q => q.1 = p.1 ∧ q.2 ≠ p.2)) with
    | none => none
    | some p => some ((all.filter (fun q => q.1 = p.1)).flatMap (fun q => keys q.2))

/-- The checks of a whole cue but for memory: the failing status and member. DESIGN CHOICE (assumption 164): where several fail, the
order is layers, lamps of a link, signal-string ports, work items. -/
def State.cueConflict (s : State) (base : CfgTab) (ws : List CfgWrite) : Option (Nat × Nat) :=
  let c := base.writeAll ws
  match c.layerConflict with
  | some keys => some (St.outOfRange, firstWriter ws keys)
  | none =>
    match (List.range 64).find? (fun l => 1048576 < c.linkLamps l) with
    | some l => some (St.outOfRange, firstRaiser (fun x => x.linkLamps l) base ws)
    | none =>
      match s.portConflict c with
      | some keys => some (St.outOfRange, firstWriter ws keys)
      | none =>
        if 32768 < s.itemCount c then some (St.outOfRange, firstRaiser (fun x => s.itemCount x) base ws) else none

/-- Tiles without pages that a configuration samples. -/
def State.newTiles (s : State) (c : CfgTab) : List Nat :=
  (s.sampledTiles c).filter (fun n => (s.cmp.tiles.get none n).isNone)

/-- Pages the output records of `n` `FIXTURE` entries take, packed densely (assumption 24). -/
def recordPages (n : Nat) : Nat := ceilDiv (n * 1056) pageSize

/-- The configurations that frames to come may have: the one in effect, and with each accepted cue in turn. -/
def State.cfgsAhead (s : State) : List CfgTab :=
  ((List.range (s.cues.length + 1)).map (fun n => s.cfgApp.writeAll ((s.cues.take n).flatMap (·.writes))) ++ [s.cfgAcc]).dedup

/-- Fixture entries whose records some configuration in use needs: of a frame on its way, in effect, or to come. -/
def State.fixtureCount (s : State) (c : CfgTab) : Nat :=
  ((c.fixtures ++ s.cfgsAhead.flatMap CfgTab.fixtures ++ s.frames.flatMap (fun f => f.cfg.fixtures)).dedup).length

/-- A tile receives its two pages. -/
def State.storeTile (s : State) (n : Nat) : Option State :=
  s.allocTile.map (fun r =>
    { r.1 with cmp := { r.1.cmp with tiles := r.1.cmp.tiles.put none n (some ⟨r.2.getD 0 0, r.2.getD 1 0⟩) } })

/-- Every tile of a list receives pages, or none does. -/
def State.storeTiles (s : State) : List Nat → Option State
  | [] => some s
  | n :: rest => match s.storeTile n with
    | none => none
    | some s' => State.storeTiles s' rest

/-- The memory a configuration needs is allocated (R140, R188), or the cue fails with `NO_SPACE`. -/
def State.cueMemory (s : State) (base : CfgTab) (ws : List CfgWrite) : State × Option (Nat × Nat) :=
  let c := base.writeAll ws
  match s.storeTiles (s.newTiles c) with
  | none => (s, some (St.noSpace, firstRaiser (fun x => (s.newTiles x).length) base ws))
  | some s1 =>
    match s1.allocHbm (recordPages (s.fixtureCount c) - s.fix.recPages.length) with
    | none => (s, some (St.noSpace, firstRaiser (fun x => x.fixtures.length) base ws))
    | some (s2, ps) => ({ s2 with fix := { s2.fix with recPages := s2.fix.recPages ++ ps } }, none)

/-- An object as seen with its waiting copy in place of its contents. -/
def Obj.asCopy (o : Obj) : Obj :=
  match o.shadow with
  | some sh => { o with sram := sh.sram, pages := sh.pages }
  | none => o

/-- A tile's pages are freed (R140); a move under way of one of them stops. -/
def State.freeTile (s : State) (n : Nat) : State :=
  match s.cmp.tiles.get none n with
  | none => s
  | some t =>
    let mine : PageMove → Bool := fun m => m.obj = 0 && m.pages.any ([t.page0, t.page1].contains ·)
    let news := (s.blk.moves.filter mine).flatMap (·.units)
    let s := { s with blk := { s.blk with moves := s.blk.moves.filter (fun m => !mine m) }
                      cmp := { s.cmp with tiles := s.cmp.tiles.erase n } }
    s.freeUnits false (news ++ [t.page0, t.page1])

/-- Waiting copies of maps and point blocks, seen in place of what they will replace. -/
def State.seenAhead (s : State) : State :=
  { s with obj := { s.obj with objs := s.obj.objs.map (fun e =>
      if e.2.kind = kPixmap ∨ e.2.kind = kPatchBlock then (e.1, e.2.asCopy) else e) } }

/-- Tiles that no frame under way samples, nor any to come under the accepted cues, are freed (R140), and so are output records that
no configuration in use needs (R188). -/
def State.reapTiles (s : State) : State :=
  let planned := s.frames.flatMap (fun f => (f.plan.filter (·.render)).map (·.num))
  let rest := (s.cmp.tiles.map (·.1)).filter (fun n => !planned.contains n)
  let s :=
    if rest.isEmpty then s
    else
      let kept := (s.frames.filter (fun f => !f.planned)).flatMap s.frameTiles ++ s.cfgsAhead.flatMap s.sampledTiles ++
        (if s.obj.objs.any (fun e => e.2.shadow.isSome) then s.cfgsAhead.flatMap s.seenAhead.sampledTiles else [])
      (rest.filter (fun n => !kept.contains n)).foldl State.freeTile s
  let need := recordPages (s.fixtureCount [])
  let surplus := s.fix.recPages.drop need
  ({ s with fix := { s.fix with recPages := s.fix.recPages.take need } }).freeUnits false surplus

/-- An object is referenced by an entry (R58). -/
def State.entryRefers (s : State) (t : Nat) (e : List Byte) (idx : Nat) : Bool :=
  let h := s.handleOf idx
  if t = tLayer then Ly.source e == h
  else if t = tSurface then Sf.cal e == h || (Sf.usesPixmap e && Sf.pixmap e == h)
  else if t = tPatch then
    if Pt.type e = 1 then Pt.personality e == idx || Pt.calstore e == idx || Pt.pointBlock e == idx
    else Pt.type e == 2 && Pt.personality e == idx
  else false

/-- An object is referenced by a configuration table or by an accepted cue not yet applied (R58). -/
def State.referenced (s : State) (idx : Nat) : Bool :=
  let inTab : CfgTab → Bool := fun c => List.any c (fun (p : Nat × List Byte) => s.entryRefers (p.1 / 2 ^ 20) p.2 idx)
  inTab s.cfgApp || inTab s.cfgAcc || s.cues.any (fun c => c.writes.any (fun w => s.entryRefers w.table w.bytes idx))

end Sys2Proof.Machine
end

