-- ==== Sys2Proof/Machine/Compose.lean ====
section
/-! DEFINITION. Composition of canvas tiles (R139 to R155): what a Render Engine reads, blends, holds and writes back. -/

namespace Sys2Proof.Machine

/-! ### Frames -/

def State.frame? (s : State) (seq : Nat) : Option FrameRec := s.frames.find? (·.seq = seq)

/-- The frame that a call belongs to: calls already posted run to their end, also after their frame (R127). -/
def State.callFrame? (s : State) (seq : Nat) : Option FrameRec := (s.frames ++ s.gone).find? (·.seq = seq)

/-- The state as a frame reads it: objects, tiles, verdicts and compiled banks as they stood at its sample. -/
def State.atSnap (s : State) (f : FrameRec) : State :=
  { s with obj := { s.obj with objs := f.snap.objs }
           cmp := { s.cmp with tiles := f.snap.tiles }
           fix := { s.fix with checks := f.snap.checks, cal := f.snap.cals } }

/-! ### Tiles and layers (R146, R150) -/

/-- Canvas, column and row of a render item (R120). -/
def tileCanvas (n : Nat) : Nat := n / 65536
def tileX (n : Nat) : Nat := n % 256
def tileY (n : Nat) : Nat := n / 256 % 256

/-- The region T of a tile: [x0, x1) × [y0, y1), inside the canvas. -/
structure Region where
  x0 : Nat
  x1 : Nat
  y0 : Nat
  y1 : Nat
  deriving DecidableEq, Repr

def tileRegion (cv : List Byte) (n : Nat) : Region :=
  ⟨128 * tileX n, min (128 * tileX n + 128) (Cv.width cv), 128 * tileY n, min (128 * tileY n + 128) (Cv.height cv)⟩

def Region.pixels (t : Region) : List (Nat × Nat) :=
  (List.range (t.y1 - t.y0)).flatMap (fun j => (List.range (t.x1 - t.x0)).map (fun i => (t.x0 + i, t.y0 + j)))

/-- Canvas pixel (x, y) lies in a layer's rectangle. -/
def Ly.covers (e : List Byte) (x y : Nat) : Bool :=
  decide (Ly.posX e ≤ x ∧ (x : Int) < Ly.posX e + Ly.cropW e ∧ Ly.posY e ≤ y ∧ (y : Int) < Ly.posY e + Ly.cropH e)

/-- The source pixel that lands on canvas pixel (x, y). -/
def Ly.sourcePixel (e : List Byte) (x y : Nat) : Nat × Nat :=
  (((x : Int) - Ly.posX e + Ly.cropX e).toNat, ((y : Int) - Ly.posY e + Ly.cropY e).toNat)

/-- The source pixels of a layer that lie under a region. -/
def Ly.pixelsIn (e : List Byte) (t : Region) : List (Nat × Nat) :=
  (t.pixels.filter (fun p => Ly.covers e p.1 p.2)).map (fun p => Ly.sourcePixel e p.1 p.2)

/-- The rectangle contains the region. -/
def Ly.contains (e : List Byte) (t : Region) : Bool := t.pixels.all (fun p => Ly.covers e p.1 p.2)

def Ly.fill (e : List Byte) : Bool := Ly.source e == 0
def Ly.opacityQ (e : List Byte) : Rat := (Ly.opacity e).toRat

/-- The object of a layer. -/
def State.layerObj (s : State) (e : List Byte) : Obj := s.obj? (handleIdx (Ly.source e))

/-- The coverage block of a source pixel. -/
def SrcInfo.blockOf (i : SrcInfo) (p : Nat × Nat) : Nat := p.2 / 16 * i.blocksX + p.1 / 16

/-- Coverage blocks under a region. -/
def State.blocksUnder (s : State) (e : List Byte) (t : Region) : List Nat :=
  ((Ly.pixelsIn e t).map (s.layerObj e).info.blockOf).dedup

/-- Coverage classes of the blocks under a region; those that poison has made `MIXED` for the frame count so (R155). -/
def State.classesUnder (s : State) (mixed : List (Nat × Nat)) (e : List Byte) (t : Region) : List Nat :=
  let o := s.layerObj e
  (s.blocksUnder e t).map (fun n => if mixed.contains (Ly.source e, n) then cMixed else s.coverClass o.sram o.aux n)

/-- A layer is opaque over T (R150). -/
def State.layerOpaque (s : State) (mixed : List (Nat × Nat)) (e : List Byte) (t : Region) : Bool :=
  Ly.enable e && Ly.blend e == blendNormal && Ly.opacityQ e == 1 && Ly.contains e t &&
  (if Ly.fill e then (Ly.colour e).a == 1 else (s.classesUnder mixed e t).all (· = cOpaque))

/-- A layer is empty over T (R150). -/
def State.layerEmpty (s : State) (mixed : List (Nat × Nat)) (e : List Byte) (t : Region) : Bool :=
  Ly.enable e && Ly.blend e != blendMax &&
  ((Ly.pixelsIn e t).isEmpty || Ly.opacityQ e == 0 ||
   (if Ly.fill e then Ly.colour e == Pix.zero.layer else (s.classesUnder mixed e t).all (· = cEmpty)))

/-- Codewords that a pixel's decoding reads: that of its storage and, for an odd pixel of `YCC422_10`, that of the next pair (R143). -/
def Obj.pixelCws (o : Obj) (p : Nat × Nat) : List Nat :=
  [(o.place (o.info.offset p.1 p.2)).cw] ++
    (if o.info.format = fmtYcc ∧ p.1 % 2 = 1 ∧ p.1 + 1 < o.info.w then [(o.place (o.info.offset (p.1 + 1) p.2)).cw] else [])

/-- The codewords of a source that the pixels under a region lie in. -/
def State.layerCws (s : State) (e : List Byte) (t : Region) : List Nat :=
  ((Ly.pixelsIn e t).flatMap (s.layerObj e).pixelCws).dedup

/-- The coverage blocks of a layer's source that hold pixels of some codewords (R155). -/
def State.blocksOf (s : State) (e : List Byte) (t : Region) (bad : List Nat) : List Nat :=
  let o := s.layerObj e
  (((Ly.pixelsIn e t).filter (fun p => (o.pixelCws p).any (bad.contains ·))).map o.info.blockOf).dedup

/-- A layer to be blended: its entry and the poisoned codewords under the tile. -/
abbrev Fetched := List Byte × List Nat

/-- Poisoned codewords of a source are counted, latched and reported once per source and frame (R155). -/
def State.notePoison (s : State) (seq handle : Nat) (o : Obj) (bad : List Nat) : State :=
  match bad.getLast? with
  | none => s
  | some cw =>
    let s := s.bumpBy F.CMP_POISON_CNT.COUNT bad.length
    let blk := ((List.range (ceilDiv o.size 16)).find? (fun k => (o.place (16 * k)).cw = cw)).getD 0
    let s := (s.setFld F.CMP_LAST_POISON.HANDLE handle).setFld F.CMP_LAST_POISON.BLOCK blk
    match s.callFrame? seq with
    | none => s
    | some f =>
      if f.toldPoison.contains handle then s
      else (s.updFrame seq (fun f => { f with toldPoison := f.toldPoison ++ [handle] })).raise Src.cmp E.CMP_POISON []

/-- The coverage blocks that hold a poisoned codeword are `MIXED` for the frame (R155). -/
def State.noteMixed (s : State) (seq handle : Nat) (blocks : List Nat) : State :=
  if blocks.isEmpty then s
  else s.updFrame seq (fun f => { f with mixed := (f.mixed ++ blocks.map (fun n => (handle, n))).dedup })

/-- The layers fetched for a tile, from the top down (R151): the result lists them bottom first. -/
def State.fetchLayers (s : State) (f : FrameRec) (t : Region) : List (List Byte) → Bool → State × List Fetched
  | [], _ => (s, [])
  | e :: rest, hidden =>
    let v := s.atSnap f
    if !Ly.enable e then State.fetchLayers s f t rest hidden
    else if hidden && bit f.snap.ctrl 0 then
      State.fetchLayers (s.bump F.CMP_OCCLUDED_CNT.COUNT) f t rest hidden
    else if v.layerEmpty f.mixed e t && bit f.snap.ctrl 1 then
      State.fetchLayers (s.bump F.CMP_EMPTY_CNT.COUNT) f t rest hidden
    else
      let s := s.bump F.CMP_FETCH_CNT.COUNT
      let r := if Ly.fill e then (s, []) else s.consumeAll (v.layerCws e t)
      let s := if Ly.fill e then r.1 else r.1.notePoison f.seq (Ly.source e) (v.layerObj e) r.2
      let s := s.noteMixed f.seq (Ly.source e) (if Ly.fill e then [] else v.blocksOf e t r.2)
      let q := State.fetchLayers s f t rest (hidden || (v.layerOpaque f.mixed e t && r.2.isEmpty))
      (q.1, q.2 ++ [(e, r.2)])

/-- A layer's pixel at canvas pixel (x, y), with the replacements counted (R143, R144, R155). DESIGN CHOICE (assumption 173): an odd pixel
of `YCC422_10` whose right-hand chroma alone is poisoned decodes to zero too. -/
def State.layerPixel (s : State) (canvas2020 : Bool) (l : Fetched) (x y : Nat) : LayerPix × Nat :=
  if Ly.fill l.1 then (Ly.colour l.1, 0)
  else
    let o := s.layerObj l.1
    let p := Ly.sourcePixel l.1 x y
    if (o.pixelCws p).any (l.2.contains ·) then (Pix.zero.layer, 0)
    else
      let r := decodePixel o.info canvas2020 (fun k => s.objByte o k) p.1 p.2
      (r.1.layer, r.2)

/-- One pixel of a tile (R146), with the replacements counted. -/
def State.tilePixel (s : State) (cv : List Byte) (ls : List Fetched) (x y : Nat) : Pix × Nat :=
  ls.foldl (fun d l =>
    if Ly.covers l.1 x y then
      let p := s.layerPixel (Cv.prim2020 cv) l x y
      let r := blendPixel (Ly.blend l.1) (Ly.opacityQ l.1) p.1 d.1
      (r.1, d.2 + p.2 + r.2)
    else d) (Cv.background cv, 0)

/-- All 16,384 pixels of a tile, rows top first; a pixel outside the canvas is zero. -/
def State.tilePixels (s : State) (cv : List Byte) (n : Nat) (ls : List Fetched) : List (Pix × Nat) :=
  (List.range 16384).map (fun i =>
    let x := 128 * tileX n + i % 128
    let y := 128 * tileY n + i / 128
    if x < Cv.width cv ∧ y < Cv.height cv then s.tilePixel cv ls x y else (Pix.zero, 0))

/-- A tile is composited (R146, R151, R152): its 131,072 bytes. -/
def State.composite (s : State) (f : FrameRec) (n : Nat) : State × List Byte :=
  let cv := f.cfg.entry tCanvas (tileCanvas n)
  let entries := ((Cv.layers cv).map (fun i => f.cfg.entry tLayer i)).reverse
  let r := s.fetchLayers f (tileRegion cv n) entries false
  let px := (r.1.atSnap f).tilePixels cv n r.2
  let s := (r.1.bump F.CMP_TILE_CNT.COUNT).bumpBy F.CMP_NONFINITE_CNT.COUNT ((px.map (·.2)).sum)
  (s, px.flatMap (fun p => p.1.bytes))

/-! ### Held tiles and write-back (R154) -/

def State.heldTiles (s : State) (n : Nat) : List HeldTile := s.cmp.held.get [] n
def State.setHeld (s : State) (n : Nat) (l : List HeldTile) : State :=
  { s with cmp := { s.cmp with held := s.cmp.held.put [] n l } }

/-- Every pass-1 call of a frame has retired, or will not be posted. A frame that is not planned has none. -/
def FrameRec.pass1Over (f : FrameRec) : Bool :=
  f.plan.all (fun i => i.render || i.p1 == 2 || i.p1 == 3 || (f.abandoned && i.p1 == 0))

/-- A held tile may be written back: the pass-1 calls of all earlier frames have retired. -/
def State.fenceOver (s : State) (t : HeldTile) : Bool :=
  (s.frames ++ s.gone).all (fun f => decide (t.frame ≤ f.seq) || f.pass1Over)

/-- The place of byte k of a stored tile: its first 65,536 bytes lie in its first page. -/
def TileSt.place (t : TileSt) (k : Nat) : Place := placeOf false [t.page0, t.page1] k

/-- An enabled canvas window lies over the canvas of a tile (R181). -/
def FrameRec.watched (f : FrameRec) (item : Nat) : Bool :=
  (List.range 48).any (fun w =>
    let e := f.cfg.entry tSpot w
    Sp.en e && Sp.canvas e && Sp.target e == tileCanvas item)

/-- A tile of a frame is written to its pages; that of a frame that is over is not, since nothing reads it any more. -/
def State.writeTile (s : State) (t : HeldTile) : State :=
  match s.frame? t.frame with
  | none => s
  | some f =>
    match f.snap.tiles.get none t.item with
    | none => s
    | some p =>
      let s := (s.writeMem (p.place 0) (t.bytes.take pageSize)).writeMem (p.place pageSize) (t.bytes.drop pageSize)
      s.updFrame t.frame (fun f => { f with
        tiles := f.tiles ++ [t.item], shots := if f.watched t.item then f.shots.put [] t.item t.bytes else f.shots })

/-- A canvas pixel as a frame's gather reads it, with its codeword; none where the tile has no composite of the frame. -/
def State.canvasPixel (s : State) (f : FrameRec) (c x y : Nat) : Option (Pix × Nat) :=
  let n := c * 65536 + y / 128 * 256 + x / 128
  match f.snap.tiles.get none n with
  | none => none
  | some t =>
    if f.tiles.contains n then
      let p := t.place ((y % 128 * 128 + x % 128) * 8)
      some (pixOfBytes (s.mem.bytesAt p 8), p.cw)
    else none

/-- A retired call's consumer has run it. -/
def State.markRan (s : State) (c : Consumer) : State :=
  { s with cb := { s.cb with held := s.cb.held.map (fun h => if h.1 = c then (h.1, { h.2 with ran := true }) else h) } }

/-- The call of a kind that a consumer holds and has not run. -/
def State.toRun (s : State) (c : Consumer) (kind : Nat) : Option CallRec :=
  match s.heldCall c with
  | some r => if r.word.kind = kind ∧ !r.ran then some r else none
  | none => none

/-! ### The commands -/

/-- A Render Engine composites the tile of its call (R152) and holds it; an eighth held tile blocks its start (R154). -/
def State.renderTile (s : State) (n : Nat) : State :=
  match s.toRun (.re n) kRenderTile with
  | none => s
  | some r =>
    if 7 ≤ (s.heldTiles n).length then s
    else match s.callFrame? r.word.frame with
      | none => s.markRan (.re n)
      | some f =>
        let q := s.composite f r.word.item
        (q.1.setHeld n (q.1.heldTiles n ++ [⟨r.word.item, r.word.frame, q.2⟩])).markRan (.re n)

def execRenderTile (n : Fin 16) (s : State) : Host.Outcome State Fault Refusal :=
  s.done (s.when (s.evtUp && s.engineRuns (.eng (Fin.ofNat 8 (n / 4)))) (s.renderTile n))

/-- The oldest held tile is written back once the fence is over (R154). -/
def State.tileWriteback (s : State) (n : Nat) : State :=
  match s.heldTiles n with
  | [] => s
  | t :: rest => if s.fenceOver t then (s.setHeld n rest).writeTile t else s

def execTileWriteback (n : Fin 16) (s : State) : Host.Outcome State Fault Refusal :=
  s.done (s.when (s.evtUp && s.engineRuns (.eng (Fin.ofNat 8 (n / 4)))) (s.tileWriteback n))

end Sys2Proof.Machine
end

