-- ==== Sys2Proof/Machine/Fixtures.lean ====
section
/-! DEFINITION. Personality and curve checks (R197, R199), the two fixture passes (R206 to R216), the feed power cap (R217 to
R220) and what a frame reads per line (R178), as shared operations. -/

namespace Sys2Proof.Machine

/-! ### Checks (R197, R199) -/

def State.setCheck (s : State) (idx : Nat) (c : CheckSt) : State :=
  { s with fix := { s.fix with checks := s.fix.checks.put checkNone idx c } }

/-- Nominal emitter data of a personality: the compiled record of one lamp and its gamut (R197). -/
def nominalOf (b : List Byte) : List Byte :=
  let es : List EmitData := (Pn.emitterList b).map (fun r => (Em.cx r, Em.cy r, Em.flux r))
  let r := compileRecord es
  r ++ nominalGamut es.length r (!lampInvalid es)

/-- The verdict on the bytes of a personality or curve. -/
def verdictOf (kind : Nat) (b : List Byte) : Verdict :=
  if kind = kPersonality then (if persValid b then ⟨true, true, nominalOf b⟩ else ⟨false, false, []⟩) else ⟨curveValid b, true, []⟩

/-- Every `FIXTURE` entry that names a personality still fits it (R188). -/
def State.fitsAll (s : State) (idx : Nat) (b : List Byte) : Bool :=
  (s.cfgApp.fixtures.filter (fun i => Pt.personality (s.cfgApp.entry tPatch i) = idx)).all (fun i =>
    let e := s.cfgApp.entry tPatch i
    fixtureFits b e && (!s.isKind (Pt.calstore e) kCalstore ||
      calEmitters (s.obj? (Pt.calstore e)).param == Pn.emitters b))

/-- The event of a failing check. -/
def State.noteCheck (s : State) (idx : Nat) (v : Verdict) : State :=
  if (s.obj? idx).kind = kPersonality then
    if v.valid && v.fits then s
    else (s.bump F.FIX_INVALID_CNT.COUNT).raise Src.fix E.PERSONALITY_INVALID [s.handleOf idx]
  else if v.valid then s else s.raise Src.fix E.CURVE_INVALID []

/-- Bytes of a list of pages or blocks. -/
def State.unitBytes (s : State) (sram : Bool) (units : List Nat) (off n : Nat) : List Byte :=
  (List.range n).map (fun k => s.mem.byte (placeOf sram units (off + k)))

/-- The check of a new object, whose verdict is in force at once; of a completed write to the contents, in force from the next
frame-start; or of a completed write to the waiting copy, in force with the copy. -/
inductive CheckWhen where
  | created | written | copied
  deriving DecidableEq, Repr

def State.examine (s : State) (idx : Nat) (w : CheckWhen) : State :=
  let o := s.obj? idx
  if o.kind = kPersonality ∨ o.kind = kCurve then
    let at_ := match w, o.shadow with
      | .copied, some sh => (sh.sram, sh.pages)
      | _, _ => (o.sram, o.pages)
    let b := s.unitBytes at_.1 at_.2 0 o.size
    let v := verdictOf o.kind b
    let v := if o.kind = kPersonality then { v with fits := s.fitsAll idx b } else v
    let c := s.check idx
    let c := match w with
      | .created => { c with cur := v, next := none, shadow := none }
      | .written => { c with next := some v }
      | .copied => { c with shadow := some v }
    (s.setCheck idx c).noteCheck idx v
  else s

/-- At a frame-start: pending verdicts take effect. -/
def State.takeVerdicts (s : State) : State :=
  { s with fix := { s.fix with checks := s.fix.checks.map (fun p =>
      match p.2.next with
      | some v => (p.1, { p.2 with cur := v, next := none })
      | none => p) } }

/-- The verdict on a copy becomes current with it. -/
def State.takeShadowVerdict (s : State) (idx : Nat) : State :=
  let c := s.check idx
  match c.shadow with
  | some v => s.setCheck idx { c with cur := v, next := none, shadow := none }
  | none => s

/-! ### Configuration line by line (R177, R178, R190) -/

/-- The personality index that the `SURFACE` entries of a configuration give a surface, the higher-numbered entry
applying (R189); 0 without one. -/
def CfgTab.surfacePers (c : CfgTab) (surf : Nat) : Nat :=
  let l := (c.entriesOf tPatch).filter (fun i => Pt.type (c.entry tPatch i) = 2 ∧ Pt.surface (c.entry tPatch i) = surf)
  match l.getLast? with
  | some i => Pt.personality (c.entry tPatch i)
  | none => 0

def FrameRec.linePers (f : FrameRec) (surf v : Nat) : Nat :=
  if f.commitLine surf ≤ v then f.cfg.surfacePers surf else f.cfgPrev.surfacePers surf

/-! ### Reading what the passes need -/

/-- A valid personality's bytes, as the frame reads them. -/
def State.persBytes (s : State) (idx : Nat) : Option (List Byte) :=
  if s.isKind idx kPersonality && (s.check idx).cur.valid then some (s.contents idx) else none

/-- The bytes of a personality as surfaces use it (R197): also every `FIXTURE` entry of it must have fitted it at its last check. -/
def State.surfacePersBytes (s : State) (idx : Nat) : Option (List Byte) :=
  if (s.check idx).cur.fits then s.persBytes idx else none

/-- The bytes of a live, valid curve. -/
def State.curveBytes (s : State) (idx : Nat) : Option (List Byte) :=
  if idx != 0 && s.isKind idx kCurve && (s.check idx).cur.valid then some (s.contents idx) else none

/-- The output of a curve index for w (R198, R199). -/
def State.throughCurve (s : State) (idx : Nat) (w : Rat) : Rat :=
  match s.curveBytes idx with
  | some b => curveOut b w
  | none => w

def calNone : CalSt := ⟨0, false, false, false, 0, 0, 0, 0, 0⟩
def State.cal (s : State) (idx : Nat) : CalSt := s.fix.cal.get calNone idx
def State.setCal (s : State) (idx : Nat) (c : CalSt) : State :=
  { s with fix := { s.fix with cal := s.fix.cal.put calNone idx c } }

/-- Offset of lamp l's record in a bank of the compiled area (R201). -/
def recordOffset (param : List Byte) (bank l : Nat) : Nat := (bank * calLamps param + l) * calRecord (calEmitters param)

/-- Places of a lamp's record. -/
def recordPlace (o : Obj) (bank l k : Nat) : Place := placeOf o.sram o.aux (recordOffset o.param bank l + k)

/-- Codewords of a lamp's record. -/
def recordCws (o : Obj) (bank l : Nat) : List Nat :=
  objCws o.sram o.aux (recordOffset o.param bank l) (calRecord (calEmitters o.param))

/-- A lamp's record, zeros where one of its codewords is poisoned (R215). -/
def State.lampRecord (s : State) (idx l : Nat) (bad : List Nat) : List Byte :=
  let o := s.obj? idx
  let bank := (s.cal idx).bank
  let n := calRecord (calEmitters o.param)
  if (recordCws o bank l).any (bad.contains ·) then zeros n
  else (List.range n).map (fun k => s.mem.byte (recordPlace o bank l k))

/-- σ and L of a `CALSTORE` for a canvas's primaries. -/
def CalSt.sigma (c : CalSt) (p2020 : Bool) : Rat := (f32 (if p2020 then c.s2020 else c.s709)).toRat
def CalSt.gain (c : CalSt) (p2020 : Bool) : Rat := (f32 (if p2020 then c.l2020 else c.l709)).toRat

/-- Taps that lie in a canvas: column and row. -/
def tapsInside (cv : List Byte) (ts : List Tap) : List (Nat × Nat) :=
  ts.filterMap (fun (t : Tap) =>
    if 0 ≤ t.1 ∧ t.1 < Cv.width cv ∧ 0 ≤ t.2.1 ∧ t.2.1 < Cv.height cv then some (t.1.toNat, t.2.1.toNat) else none)

/-- Codewords of the canvas pixels that taps read. -/
def State.tapCws (s : State) (f : FrameRec) (c : Nat) (ts : List Tap) : List Nat :=
  (tapsInside (f.cfg.entry tCanvas c) ts).filterMap (fun p => (s.canvasPixel f c p.1 p.2).map (·.2))

/-- The tiles of the taps that miss a tile of the frame (R158). -/
def State.tapMisses (s : State) (f : FrameRec) (c : Nat) (ts : List Tap) : List Nat :=
  ((tapsInside (f.cfg.entry tCanvas c) ts).filter (fun p => (s.canvasPixel f c p.1 p.2).isNone)).map (fun p =>
    c * 65536 + p.2 / 128 * 256 + p.1 / 128)

/-- The value a tap reads. -/
def State.tapValue (s : State) (f : FrameRec) (c : Nat) (bad : List Nat) (t : Tap) : Pix :=
  let cv := f.cfg.entry tCanvas c
  if 0 ≤ t.1 ∧ t.1 < Cv.width cv ∧ 0 ≤ t.2.1 ∧ t.2.1 < Cv.height cv then
    match s.canvasPixel f c t.1.toNat t.2.1.toNat with
    | some (p, cw) => if bad.contains cw then Pix.zero else p
    | none => Pix.zero
  else Pix.zero

def State.gather (s : State) (f : FrameRec) (c filter : Nat) (bad : List Nat) (ts : List Tap) : Pix :=
  weighTaps filter (ts.map (fun t => (t.2.2, s.tapValue f c bad t)))

/-! ### Feeds (R209, R216) -/

/-- A feed is metered and its limit enabled. -/
def FrameRec.limited (f : FrameRec) (feed : Nat) : Bool := decide (feed < 96) && Fd.en (f.cfg.entry tFeed feed)

/-- a_f as binary32: the principal's where a `STATE` gives it (R337), else `FIX_FEED_n_SCALE`. -/
def State.scaleBits (s : State) (f : FrameRec) (feed : Nat) : Nat :=
  match f.given with
  | some m => m.get 0x3F800000 feed
  | none => s.fld (F.FIX_FEED_SCALE.SCALE feed)

/-- The scale a_f in force (R209, R218). -/
def State.feedScale (s : State) (f : FrameRec) (feed : Nat) : Rat :=
  if f.limited feed && s.flag F.FIX_CTRL.CAP_EN then (f32 (s.scaleBits f feed)).toRat else 1

/-- Sums of P and U in binary64, and B. -/
structure Sums where
  b : Rat
  p : Rat
  u : Rat
  deriving DecidableEq, Repr

def Sums.zero : Sums := ⟨0, 0, 0⟩
def Sums.add (x y : Sums) : Sums := ⟨r64 (x.b + y.b), r64 (x.p + y.p), r64 (x.u + y.u)⟩

/-! ### One lamp of a surface (R206 to R212) -/

/-- Lamp numbers of a surface: (u, v) of lamp n. -/
def lampUV (e : List Byte) (n : Nat) : Nat × Nat := (n % Sf.width e, n / Sf.width e)

/-- What pass 1 finds for a lamp or fixture. -/
structure Result1 where
  record : List Byte
  sums : Sums
  clipped : Bool
  deriving DecidableEq, Repr

/-- Watts and curve of emitter i of a surface's lamps (R189). -/
def emitterOf (pers : Option (List Byte)) (i : Nat) : Rat × Nat :=
  match pers with
  | some b => if i < Pn.emitters b then ((Em.watts (Pn.emitter b i)).toRat, Em.curve (Pn.emitter b i)) else (0, 0)
  | none => (0, 0)

/-- Key of a drive record. -/
def driveKey (surf lamp bank : Nat) : Nat := (surf * 2 ^ 20 + lamp) * 2 + bank
def State.driveRec (s : State) (surf lamp bank : Nat) : List Byte := s.fix.drive.get [] (driveKey surf lamp bank)
/-- The 16-byte codewords (R62) that a drive record of `size` bytes lies in. DEDUCED (assumption 177): the records of a surface lie
one after the other, lamp 0 at the start of a codeword. -/
def driveCws (surf lamp bank size : Nat) : List Nat :=
  let first := lamp * size / 16
  (List.range (if size = 0 then 0 else (lamp * size + size - 1) / 16 + 1 - first)).map (fun i => (surf * 2 ^ 22 + first + i) * 2 + bank)
def State.setDrive (s : State) (surf lamp bank : Nat) (b : List Byte) : State :=
  { s with fix := { s.fix with drive := s.fix.drive.put [] (driveKey surf lamp bank) b
                               badRec := s.fix.badRec.filter (fun q => !(driveCws surf lamp bank b.length).contains q) } }
/-- The poisoned codewords of a drive record. -/
def State.drivePoison (s : State) (surf lamp bank : Nat) : List Nat :=
  (driveCws surf lamp bank (s.driveRec surf lamp bank).length).filter (fun q => s.fix.badRec.contains q)
/-- A drive record holds a poisoned codeword. -/
def State.driveBad (s : State) (surf lamp bank : Nat) : Bool := !(s.drivePoison surf lamp bank).isEmpty
/-- A drive record as a later pass reads it: zeros where it is poisoned (R171, R215). -/
def State.driveRead (s : State) (surf lamp bank : Nat) : List Byte :=
  let b := s.driveRec surf lamp bank
  if s.driveBad surf lamp bank then zeros b.length else b
/-- Key of an output record, among the records that hold poison or have a power. -/
def outRecKey (entry bank : Nat) : Nat := 2 ^ 60 + (entry * 2 + bank)

/-- The modelled power of a record: B and P (R216). -/
def State.recPower (s : State) (key : Nat) : Rat × Rat := s.fix.recPow.get (0, 0) key
def State.setRecPower (s : State) (key : Nat) (x : Rat × Rat) : State :=
  { s with fix := { s.fix with recPow := s.fix.recPow.put (0, 0) key x } }
/-- The power of a record as it would be held (R215, R217): none where it is poisoned. -/
def State.heldPower (s : State) (bad : Bool) (key : Nat) : Rat × Rat := if bad then (0, 0) else s.recPower key

/-- Error injection into the codewords of records just written (R66): which of them lies in the chosen memory is an open choice. -/
def State.injectRecords (s : State) (keys : List Nat) : State :=
  if s.fld F.OBJ_INJECT.MODE = 0 ∨ keys = [] then s
  else if s.freeVal % 33 = s.fld F.OBJ_INJECT.TARGET then
    let bad := if s.fld F.OBJ_INJECT.MODE = 2 then s.fix.badRec ++ [pickOf (s.freeVal / 33) keys] else s.fix.badRec
    ({ s with fix := { s.fix with badRec := bad } }.setFld F.OBJ_INJECT.MODE 0).freeStep
  else s.freeStep

/-- Width and dither of a profile's codes. -/
def profileBits (p : List Byte) : Nat := Pf.pwmBits p

/-- Lamp n of a surface in pass 1; `v` is the state as the frame reads it. -/
def State.lampPass1 (s v : State) (f : FrameRec) (surf n prevBank : Nat) (bad : List Nat) : Result1 :=
  let uv := lampUV (f.cfg.entry tSurface surf) n
  let e := f.lineEntry surf uv.2
  let c := Sf.canvas e
  let p2020 := Cv.prim2020 (f.cfg.entry tCanvas c)
  let px := v.gather f c (Sf.filter e) bad (v.lampTaps e uv.1 uv.2)
  let calIdx := handleIdx (Sf.cal e)
  let ne := v.surfaceEmitters e
  let r := v.lampRecord calIdx (Sf.calBase e + n) bad
  let cal := v.cal calIdx
  let w := emitterWeights p2020 (cal.sigma p2020) (cal.gain p2020) (recordK ne r) (recordShift ne r) [px.r, px.g, px.b]
  let pers := v.surfacePersBytes (f.linePers surf uv.2)
  let feed := Sf.feed (f.cfg.entry tSurface surf)
  let a := s.feedScale f feed
  let prof := f.cfg.profileOf surf
  let prev := s.driveRead surf n prevBank
  let one : Nat → Rat → (Nat × Int) × Rat × Rat := fun i wi =>
    let em := emitterOf pers i
    let d := v.throughCurve em.2 (r32 (a * wi))
    (quantise (profileBits prof) (Pf.dither prof) d (driveError prev i), r64 (em.1 * d), r64 (em.1 * v.throughCurve em.2 wi))
  let es := (w.1.zipIdx).map (fun p => one p.2 p.1)
  ⟨driveRecord (es.map (·.1)), ⟨0, (es.map (·.2.1)).foldl (fun x y => r64 (x + y)) 0, (es.map (·.2.2)).foldl (fun x y => r64 (x + y)) 0⟩,
    w.2⟩

/-! ### One fixture (R192, R195, R196) -/

/-- Bytes of an output record (R188): 512 slots, 8 dither errors, 8 bytes not used (assumption 26). -/
def outKey (entry bank : Nat) : Nat := entry * 2 + bank
def State.outRecord (s : State) (entry bank : Nat) : List Byte := padTo 528 (s.fix.outRec.get [] (outKey entry bank))
def State.setOut (s : State) (entry bank : Nat) (b : List Byte) : State :=
  { s with fix := { s.fix with outRec := s.fix.outRec.put [] (outKey entry bank) b
                               badRec := s.fix.badRec.filter (· ≠ 2 ^ 60 + outKey entry bank) } }
def State.outBad (s : State) (entry bank : Nat) : Bool := s.fix.badRec.contains (2 ^ 60 + outKey entry bank)
def State.outRead (s : State) (entry bank : Nat) : List Byte :=
  if s.outBad entry bank then zeros 528 else s.outRecord entry bank
def outError (b : List Byte) (i : Nat) : Int := signedOf 8 (fieldAt b (512 + i) 1)

/-- The bytes of a patch block's point are poisoned. -/
def State.pointCw (s : State) (blk p : Nat) : Nat := ((s.obj? blk).place (32 * (p / 4) + 8 * (p % 4))).cw

/-- A point's sample (R192): none when unmapped. -/
def State.pointSample (v : State) (f : FrameRec) (e : List Byte) (bad : List Nat) (k : Nat) : Option Pix :=
  let p := Pt.pointFirst e + k
  if bad.contains (v.pointCw (Pt.pointBlock e) p) then none
  else match v.blockPoint (Pt.pointBlock e) p with
    | none => none
    | some (x, y) => some (v.gather f (Pt.canvas e) filterBilinear bad (taps filterBilinear none x y))

/-- The mean of a fixture's mapped colour points. -/
def colourSample (ps : List Pix) : Pix :=
  match ps with
  | [] => Pix.zero
  | _ =>
    let t := ps.foldl (fun (a : Pix) p => ⟨r32 (a.r + p.r), r32 (a.g + p.g), r32 (a.b + p.b), r32 (a.a + p.a)⟩) Pix.zero
    let m : Rat := (ps.length : Nat)
    ⟨r32 (t.r / m), r32 (t.g / m), r32 (t.b / m), r32 (t.a / m)⟩

/-- A channel of a sample: 0 R, 1 G, 2 B, 3 A. -/
def Pix.channel (p : Pix) (c : Nat) : Rat := if c = 0 then p.r else if c = 1 then p.g else if c = 2 then p.b else p.a

/-- The value an attribute's code is made from, or its fixed code. -/
def attrValue (smp : Pix) (point : Nat → Option Pix) (r : List Byte) : Nat :=
  let w := At.width r
  if At.kind r = aFixed then At.default r % 2 ^ (8 * w)
  else if At.kind r = aIntensity then attrCode w smp.a
  else if At.kind r = aChannel then attrCode w (smp.channel (bits (At.arg r) 0 2))
  else attrCode w (((point (bits (At.arg r) 2 4)).getD Pix.zero).channel (bits (At.arg r) 0 2))

/-- A fixture's entry runs on its personality: valid, and it fits the entry. -/
def State.fixtureReady (v : State) (e : List Byte) : Option (List Byte) :=
  match v.persBytes (Pt.personality e) with
  | some b =>
    if fixtureFits b e && (!v.isKind (Pt.calstore e) kCalstore || calEmitters (v.obj? (Pt.calstore e)).param == Pn.emitters b)
    then some b else none
  | none => none

/-- K′, s, σ and L of a fixture. -/
def State.fixtureColour (v : State) (e b : List Byte) (p2020 : Bool) (bad : List Nat) : List (List Rat) × Int × Rat × Rat :=
  let n := Pn.emitters b
  if Pt.calstore e = 0 then
    let x := (v.check (Pt.personality e)).cur.nominal
    let g := x.drop (x.length - 16)
    let o := if p2020 then 8 else 0
    (recordK n x, recordShift n x, (f32 (fieldAt g o 4)).toRat, (f32 (fieldAt g (o + 4) 4)).toRat)
  else
    let r := v.lampRecord (Pt.calstore e) (Pt.calBase e) bad
    let c := v.cal (Pt.calstore e)
    (recordK n r, recordShift n r, c.sigma p2020, c.gain p2020)

/-- A `FIXTURE` entry in pass 1: its output record and its share of the sums. -/
def State.fixturePass1 (s v : State) (f : FrameRec) (entry prevBank : Nat) (bad : List Nat) : Result1 :=
  let e := f.cfg.entry tPatch entry
  match v.fixtureReady e with
  | none => ⟨zeros 528, Sums.zero, false⟩
  | some b =>
    let point : Nat → Option Pix := v.pointSample f e bad
    let smp := colourSample ((List.range (Pn.colourPoints b)).filterMap point)
    let intens := (Pn.attrList b).any (fun r => At.kind r = aIntensity)
    let div : Rat → Rat := fun x => if intens then (if smp.a = 0 then 0 else r32 (x / smp.a)) else x
    let p2020 := Cv.prim2020 (f.cfg.entry tCanvas (Pt.canvas e))
    let kc := v.fixtureColour e b p2020 bad
    let w := emitterWeights p2020 kc.2.2.1 kc.2.2.2 kc.1 kc.2.1 [div smp.r, div smp.g, div smp.b]
    let a := s.feedScale f (Pt.feed e)
    let prev := s.outRead entry prevBank
    let es := (w.1.zipIdx).map (fun p =>
      let r := Pn.emitter b p.2
      let d := v.throughCurve (Em.curve r) (r32 (a * p.1))
      let q := quantise (8 * Em.width r) (Pn.dither b) d (outError prev p.2)
      (r, q, r64 ((Em.watts r).toRat * d), r64 ((Em.watts r).toRat * v.throughCurve (Em.curve r) p.1)))
    let slots := es.foldl (fun m x => patch m (Em.slot x.1) (slotBytes (Em.width x.1) x.2.1.1)) (zeros 512)
    let slots := (Pn.attrList b).foldl (fun m r => patch m (At.slot r) (slotBytes (At.width r) (attrValue smp point r))) slots
    let k : Rat := if intens then smp.a else 1
    let sum : List Rat → Rat := fun l => l.foldl (fun x y => r64 (x + r64 (y * k))) 0
    ⟨padTo 528 (slots ++ es.flatMap (fun x => leBytes 1 (ofSigned 8 x.2.1.2))),
      ⟨(Pn.baseW b).toRat, sum (es.map (·.2.2.1)), sum (es.map (·.2.2.2))⟩, w.2⟩

/-! ### Pass 1 of an item (R212) -/

/-- A fixture item covers lamps of a surface, or a range of the patch table. -/
def isRange (n : Nat) : Bool := decide (4194304 ≤ n)

/-- The entries of a range that are fixtures. -/
def FrameRec.rangeFixtures (f : FrameRec) (n : Nat) : List Nat :=
  f.cfg.fixtures.filter (fun i => decide (i / 512 = n - 4194304))

/-- Codewords a lamp's pass reads. -/
def State.lampCws (v : State) (f : FrameRec) (surf n : Nat) : List Nat :=
  let uv := lampUV (f.cfg.entry tSurface surf) n
  let e := f.lineEntry surf uv.2
  let idx := handleIdx (Sf.cal e)
  v.tapCws f (Sf.canvas e) (v.lampTaps e uv.1 uv.2) ++ recordCws (v.obj? idx) (v.cal idx).bank (Sf.calBase e + n)

def State.lampMisses (v : State) (f : FrameRec) (surf n : Nat) : List Nat :=
  let uv := lampUV (f.cfg.entry tSurface surf) n
  let e := f.lineEntry surf uv.2
  v.tapMisses f (Sf.canvas e) (v.lampTaps e uv.1 uv.2)

/-- The taps of a fixture's points. -/
def State.fixtureTaps (v : State) (e : List Byte) : List Tap :=
  (List.range (Pt.points e)).flatMap (fun k =>
    match v.blockPoint (Pt.pointBlock e) (Pt.pointFirst e + k) with
    | none => []
    | some (x, y) => taps filterBilinear none x y)

def State.fixtureCws (v : State) (f : FrameRec) (entry : Nat) : List Nat :=
  let e := f.cfg.entry tPatch entry
  (List.range (Pt.points e)).map (fun k => v.pointCw (Pt.pointBlock e) (Pt.pointFirst e + k)) ++
  v.tapCws f (Pt.canvas e) (v.fixtureTaps e) ++
  (if Pt.calstore e = 0 then [] else recordCws (v.obj? (Pt.calstore e)) (v.cal (Pt.calstore e)).bank (Pt.calBase e))

/-- Poisoned codewords of the colour path are counted, and reported once per surface or range and frame (R215). -/
def State.noteFixPoison (s : State) (seq key count : Nat) : State :=
  if count = 0 then s
  else
    let s := s.bumpBy F.FIX_POISON_CNT.COUNT count
    match s.callFrame? seq with
    | none => s
    | some f =>
      if f.toldPoison.contains key then s
      else (s.updFrame seq (fun f => { f with toldPoison := f.toldPoison ++ [key] })).raise Src.fix E.FIX_POISON []

/-- Tile misses are counted, and reported once per surface or range and frame; the tiles without pages receive them for the next frame,
where pages are free (R158). -/
def State.noteMisses (s : State) (seq key : Nat) (tiles : List Nat) : State :=
  if tiles.isEmpty then s
  else
    let s := s.bumpBy F.CMP_TILE_MISS_CNT.COUNT tiles.length
    let s := tiles.dedup.foldl (fun s n => if (s.cmp.tiles.get none n).isNone then (s.storeTile n).getD s else s) s
    match s.callFrame? seq with
    | none => s
    | some f =>
      if f.toldMiss.contains key then s
      else (s.updFrame seq (fun f => { f with toldMiss := f.toldMiss ++ [key] })).raise Src.cmp E.CMP_TILE_MISS []

/-- Personalities that name a missing curve are reported once per frame (R199). -/
def State.noteCurves (s v : State) (seq : Nat) (pers : List Nat) : State :=
  pers.dedup.foldl (fun s idx =>
    match v.persBytes idx, s.callFrame? seq with
    | some b, some f =>
      if (Pn.emitterList b).any (fun r => Em.curve r != 0 && !v.isKind (Em.curve r) kCurve) ∧ ¬ f.toldPoison.contains (2 ^ 35 + idx)
      then (s.updFrame seq (fun f => { f with toldPoison := f.toldPoison ++ [2 ^ 35 + idx] })).raise Src.fix E.CURVE_INVALID []
      else s
    | _, _ => s) s

/-- The bank that an item's pointer names (R214). -/
def State.itemBank (s : State) (n : Nat) : Nat := s.fix.bank.get 0 n

/-- Partial sums by feed, in binary64. -/
def addSums (l : List (Nat × Sums)) (feed : Nat) (x : Sums) : List (Nat × Sums) :=
  match l with
  | [] => [(feed, Sums.zero.add x)]
  | (k, y) :: rest => if k = feed then (k, y.add x) :: rest else (k, y) :: addSums rest feed x

/-- The partial sums of an item are kept with the frame. -/
def State.keepSums (s : State) (seq n : Nat) (l : List (Nat × Sums)) : State :=
  let add := l.map (fun x => (n, x.1, x.2.b, x.2.p, x.2.u))
  s.updFrame seq (fun f => { f with partials := (f.partials.filter (fun x => decide (x.1 ≠ n))) ++ add })

/-- Pass 1 of a lamp chunk: lamps `first` to `first + count − 1` of its surface. -/
def State.chunkPass1 (s : State) (f : FrameRec) (n first count : Nat) : State :=
  let surf := n / 1024
  let v := s.atSnap f
  let lamps := (List.range count).map (first + ·)
  let r := s.consumeAll ((lamps.flatMap (v.lampCws f surf)).dedup)
  let old := s.itemBank n
  let out := lamps.map (fun i => (i, r.1.lampPass1 v f surf i old r.2))
  let bad := (lamps.flatMap (fun i => r.1.drivePoison surf i old)).dedup.length
  let s := out.foldl (fun s x =>
    (s.setDrive surf x.1 (1 - old) x.2.record).setRecPower (driveKey surf x.1 (1 - old)) (x.2.sums.b, x.2.sums.p)) r.1
  let s := s.injectRecords (out.flatMap (fun x => driveCws surf x.1 (1 - old) x.2.record.length)).dedup
  let s := (s.bumpBy F.FIX_LAMP_CNT.COUNT count).bumpBy F.FIX_CLIP_CNT.COUNT ((out.filter (·.2.clipped)).length)
  let s := (s.noteFixPoison f.seq (2 ^ 33 + surf) (r.2.length + bad)).noteMisses f.seq surf (lamps.flatMap (v.lampMisses f surf))
  let s := s.noteCurves v f.seq ((lamps.map (fun i => f.linePers surf (lampUV (f.cfg.entry tSurface surf) i).2)).filter (· ≠ 0))
  let feed := Sf.feed (f.cfg.entry tSurface surf)
  s.keepSums f.seq n (if feed < 96 then [(feed, (out.map (·.2.sums)).foldl Sums.add Sums.zero)] else [])

/-- Pass 1 of a patch range. -/
def State.rangePass1 (s : State) (f : FrameRec) (n : Nat) : State :=
  let v := s.atSnap f
  let es := f.rangeFixtures n
  let r := s.consumeAll ((es.flatMap (v.fixtureCws f)).dedup)
  let old := s.itemBank n
  let out := es.map (fun i => (i, r.1.fixturePass1 v f i old r.2))
  let bad := (es.filter (fun i => r.1.outBad i old)).length
  let s := out.foldl (fun s x => (s.setOut x.1 (1 - old) x.2.record).setRecPower (outRecKey x.1 (1 - old)) (x.2.sums.b, x.2.sums.p)) r.1
  let s := s.injectRecords (es.map (fun i => 2 ^ 60 + outKey i (1 - old)))
  let s := (s.bumpBy F.FIX_FIXTURE_CNT.COUNT es.length).bumpBy F.FIX_CLIP_CNT.COUNT ((out.filter (·.2.clipped)).length)
  let misses := es.flatMap (fun i => v.tapMisses f (Pt.canvas (f.cfg.entry tPatch i)) (v.fixtureTaps (f.cfg.entry tPatch i)))
  let s := (s.noteFixPoison f.seq (2 ^ 34 + n) (r.2.length + bad)).noteMisses f.seq n misses
  let s := s.noteCurves v f.seq (es.map (fun i => Pt.personality (f.cfg.entry tPatch i)))
  s.keepSums f.seq n (out.foldl (fun l x =>
    let feed := Pt.feed (f.cfg.entry tPatch x.1)
    if feed < 96 then addSums l feed x.2.sums else l) [])

/-! ### The barrier (R213, R217, R218) -/

/-- First lamp and lamp count of a chunk. -/
def CfgTab.chunkSpan (c : CfgTab) (chunk n : Nat) : Nat × Nat :=
  let first := n % 1024 * chunk
  (first, min chunk (Sf.lamps (c.entry tSurface (n / 1024)) - first))

/-- Keys of an item's records that belong to a feed, as the item's pointer names them, each with whether it holds poison. -/
def State.itemRecKeys (s : State) (f : FrameRec) (feed n : Nat) : List (Bool × Nat) :=
  if isRange n then
    ((f.rangeFixtures n).filter (fun i => decide (Pt.feed (f.cfg.entry tPatch i) = feed))).map (fun i =>
      (s.outBad i (s.itemBank n), outRecKey i (s.itemBank n)))
  else if Sf.feed (f.cfg.entry tSurface (n / 1024)) = feed then
    let span := f.cfg.chunkSpan f.chunk n
    (List.range span.2).map (fun k =>
      (s.driveBad (n / 1024) (span.1 + k) (s.itemBank n), driveKey (n / 1024) (span.1 + k) (s.itemBank n)))
  else []

/-- B and P of the records that a hold of the feed would show (R217), summed as pass 1 sums what it writes. -/
def State.heldSums (s : State) (f : FrameRec) (feed : Nat) : Sums :=
  let items := (f.plan.filter (fun i => !i.render)).map (·.num)
  let sorted := items.foldl (fun l n => insertAsc n l) []
  sorted.foldl (fun a n => a.add ((s.itemRecKeys f feed n).foldl (fun x k =>
    x.add ⟨(s.heldPower k.1 k.2).1, (s.heldPower k.1 k.2).2, 0⟩) Sums.zero)) Sums.zero

/-- A feed's combined sums, in item-number order (R213). -/
def FrameRec.feedSums (f : FrameRec) (feed : Nat) : Sums :=
  let items := (f.plan.filter (fun i => !i.render)).map (·.num)
  let sorted := items.foldl (fun l n => insertAsc n l) []
  sorted.foldl (fun a n =>
    match f.partials.find? (fun x => x.1 = n ∧ x.2.1 = feed) with
    | some x => a.add ⟨x.2.2.1, x.2.2.2.1, x.2.2.2.2⟩
    | none => a) Sums.zero

def outPass : Nat := 1
def outHold : Nat := 2
def outDark : Nat := 3

def feedNone : FeedRec := ⟨0, 0, 0, 0⟩

/-- The gain G_f of a feed, as sampled at the plan (R219). -/
def FrameRec.gain (f : FrameRec) (feed : Nat) : Rat := (f32 (f.scales.get 0x3F800000 (128 + feed))).toRat

/-- t_f of R218, in binary32 in the order written. -/
def feedTarget (limit g b u : Rat) (margin : Nat) : Rat :=
  if u = 0 then 1
  else clampRat 0 1 (r32 (r32 (r32 (r32 (limit * r32 (1 - (margin : Rat) / 256)) / g) - b) / u))

/-- A feed at the barrier: its outcome, counts and events, its power registers, and the next frame's scale. -/
def State.feedBarrier (s : State) (f : FrameRec) (feed : Nat) : State :=
  let t := f.feedSums feed
  let b := r32 t.b
  let p := r32 t.p
  let u := r32 t.u
  let g := f.gain feed
  let cap := s.flag F.FIX_CTRL.CAP_EN
  let limit := (Fd.limit (f.cfg.entry tFeed feed)).toRat
  let now := r32 (b + p)
  let held := s.heldSums f feed
  let last := r32 (r32 held.b + r32 held.p)
  let exceeds := f.limited feed && decide (limit < r32 (g * now))
  let dark := exceeds && decide (limit < r32 (g * last))
  let s := if exceeds then (s.bump F.FIX_HOLD_CNT.COUNT).raise Src.fix E.CAP_HOLD ([feed] ++ words2 f.seq) else s
  let s := if dark then (s.bump F.FIX_DARK_CNT.COUNT).raise Src.fix E.CAP_DARK [] else s
  let outcome := if exceeds && cap then (if dark then outDark else outHold) else outPass
  let r := if outcome = outPass then now else if outcome = outHold then last else b
  let s := s.setRv (R.FIX_FEED_POWER feed) (r32bits r + r32bits (r32 (b + u)) * 2 ^ 32)
  let s := s.updFrame f.seq (fun x => { x with feeds := x.feeds.put feedNone feed ⟨r32bits u, r32bits r, r32bits last, outcome⟩ })
  let a := (f32 (s.scaleBits f feed)).toRat
  let next := if f.limited feed && cap then
      ratMin (feedTarget limit g b u (s.fld F.FIX_CAP.MARGIN)) (r32 (a + (s.fld F.FIX_CAP.UP : Nat) / (256 : Rat)))
    else 1
  s.setFld (F.FIX_FEED_SCALE.SCALE feed) (r32bits next)

/-- The pass-1 barrier of a frame (R213): every feed in number order. -/
def State.barrier (s : State) (f : FrameRec) : State := (List.range 96).foldl (fun s n => s.feedBarrier f n) s

/-! ### Pass 2 (R213, R217) -/

/-- A feed's outcome in a frame; lamps without a limited feed pass. -/
def FrameRec.outcome (f : FrameRec) (feed : Nat) : Nat :=
  if feed < 96 then (f.feeds.get feedNone feed).outcome else outPass

/-- A drive record with every code 0 and the errors kept. -/
def darkDrive (b : List Byte) : List Byte :=
  driveRecord ((List.range (b.length / 8 * 3)).map (fun i => (0, driveError b i)))

/-- A lamp chunk in pass 2. -/
def State.chunkPass2 (s : State) (f : FrameRec) (n first count : Nat) : State :=
  let surf := n / 1024
  let old := s.itemBank n
  let o := f.outcome (Sf.feed (f.cfg.entry tSurface surf))
  if o = outHold ∨ o = outDark then
    ((List.range count).map (first + ·)).foldl (fun s i =>
      let prev := padTo ((s.driveRec surf i (1 - old)).length) (s.driveRead surf i old)
      let power := if o = outDark then (0, 0) else s.heldPower (s.driveBad surf i old) (driveKey surf i old)
      (s.setDrive surf i (1 - old) (if o = outDark then darkDrive prev else prev)).setRecPower (driveKey surf i (1 - old)) power) s
  else s

/-- The image a fixture's route names: sACN universe, line port, or node slot space, with the image number of a slot and the
slot within it. -/
def routeSlot (e : List Byte) (k : Nat) : Nat × Nat :=
  let n := Pt.start e + k
  if Pt.route e = routeSacn then (Pt.routeA e, n - 1)
  else if Pt.route e = routeLine then (65536 + Pt.routeA e, n - 1)
  else (2 ^ 20 + (Pt.routeA e * 65536 + Pt.routeB e) * 256 + n / 512, n % 512)

/-- Footprint of a fixture as its personality's contents give it. -/
def State.footprint (v : State) (e : List Byte) : Nat :=
  min 512 (Pn.footprint (v.contents (Pt.personality e)))

/-- Slots of a fixture, with their places. -/
def State.fixtureSlots (v : State) (e : List Byte) : List (Nat × Nat) :=
  (List.range (v.footprint e)).map (fun k => routeSlot e k)

/-- A slot of a frame's images takes a value. -/
def putSlot (m : FMap (List Byte)) (key : Nat × Nat) (x : Byte) : FMap (List Byte) :=
  m.put [] key.1 (patch (padTo 512 (m.get [] key.1)) key.2 [x])

/-- A fixture's slots enter the frame's images, but for those that a higher-numbered entry drives (R164, R213). -/
def State.fillSlots (v : State) (f : FrameRec) (m : FMap (List Byte)) (entry : Nat) (rec_ : List Byte) : FMap (List Byte) :=
  let e := f.cfg.entry tPatch entry
  let above := (f.cfg.fixtures.filter (fun i => decide (entry < i))).flatMap (fun i => v.fixtureSlots (f.cfg.entry tPatch i))
  ((v.fixtureSlots e).zipIdx).foldl (fun m p => if above.contains p.1 then m else putSlot m p.1 (rec_.getD p.2 0)) m

/-- An output record of a darkened feed: every emitter code 0, attributes and errors kept. -/
def State.darkOut (v : State) (e rec_ : List Byte) : List Byte :=
  match v.fixtureReady e with
  | some b => (Pn.emitterList b).foldl (fun m r => patch m (Em.slot r) (zeros (Em.width r))) rec_
  | none => rec_

/-- A patch range in pass 2: outcomes, then slot images in ascending entry order. -/
def State.rangePass2 (s : State) (f : FrameRec) (n : Nat) : State :=
  let v := s.atSnap f
  let old := s.itemBank n
  (f.rangeFixtures n).foldl (fun s i =>
    let e := f.cfg.entry tPatch i
    let o := f.outcome (Pt.feed e)
    let s := if o = outHold then (s.setOut i (1 - old) (s.outRead i old)).setRecPower (outRecKey i (1 - old)) (s.heldPower (s.outBad i old) (outRecKey i old))
      else if o = outDark then
        (s.setOut i (1 - old) (v.darkOut e (s.outRead i old))).setRecPower (outRecKey i (1 - old)) ((s.recPower (outRecKey i (1 - old))).1, 0)
      else s
    s.updFrame f.seq (fun x => { x with slots := v.fillSlots f x.slots i (s.outRecord i (1 - old)) })) s

/-- The pointer of an item flips when its pass 2 retires (R214). -/
def State.flipBank (s : State) (n : Nat) : State :=
  { s with fix := { s.fix with bank := s.fix.bank.modify 0 n (1 - ·) } }

/-! ### The commands of the two passes -/

/-- The range of lamps a fixture call names, as `ARG_1` and `ARG_2`. -/
def State.runPass1 (s : State) (n : Nat) : State :=
  match s.toRun (.fe n) kPass1 with
  | none => s
  | some r =>
    match s.callFrame? r.word.frame with
    | none => s.markRan (.fe n)
    | some f =>
      (if isRange r.word.item then s.rangePass1 f r.word.item
       else s.chunkPass1 f r.word.item r.word.arg1 r.word.arg2).markRan (.fe n)

def execFixturePass1 (n : Fin 32) (s : State) : Host.Outcome State Fault Refusal :=
  s.done (s.when (s.evtUp && s.engineRuns (.eng (Fin.ofNat 8 (4 + n / 8)))) (s.runPass1 n))

def State.runPass2 (s : State) (n : Nat) : State :=
  match s.toRun (.fe n) kPass2 with
  | none => s
  | some r =>
    match s.callFrame? r.word.frame with
    | none => s.markRan (.fe n)
    | some f =>
      (if isRange r.word.item then s.rangePass2 f r.word.item
       else s.chunkPass2 f r.word.item r.word.arg1 r.word.arg2).markRan (.fe n)

def execFixturePass2 (n : Fin 32) (s : State) : Host.Outcome State Fault Refusal :=
  s.done (s.when (s.evtUp && s.engineRuns (.eng (Fin.ofNat 8 (4 + n / 8)))) (s.runPass2 n))

/-! ### The gain trim (R219, R220) -/

/-- The gains at a plan's sample: a write takes effect, then the gain in force is sampled. -/
def State.takeGains (s : State) : State :=
  let s' := s.fix.gainWr.foldl (fun s p => s.setFld (F.FIX_FEED_GAIN.GAIN p.1) p.2) s
  { s' with fix := { s'.fix with gainWr := [] } }

def State.gainMap (s : State) : FMap Nat :=
  (List.range 96).foldl (fun m n => m.put 0x3F800000 (128 + n) (s.fld (F.FIX_FEED_GAIN.GAIN n))) []

/-- The update of a feed's gain from a measured mean power (R219). -/
def State.trimGain (s : State) (feed : Nat) (measured modelled : Rat) : State :=
  if s.flag F.FIX_CTRL.TRIM_EN && decide (((s.fld F.FIX_TRIM_MIN.WATTS : Nat) : Rat) ≤ modelled) then
    let g := (f32 (s.fld (F.FIX_FEED_GAIN.GAIN feed))).toRat
    let step := r32 (r32 ((s.fld F.FIX_CAP.TRIM : Nat) / (65536 : Rat)) * r32 (r32 (measured / modelled) - g))
    s.setFld (F.FIX_FEED_GAIN.GAIN feed) (r32bits (clampRat (1 / 4) 4 (r32 (g + step))))
  else s

end Sys2Proof.Machine
end

