-- ==== Sys2Proof/Machine/Roles.lean ====
section
/-! DEFINITION. Roles and claims of a pair (R330, R331, R339, R342, R343, R346): what a change of them does at once. -/

namespace Sys2Proof.Machine

def roleAlone : Nat := 0
def rolePrincipal : Nat := 1
def roleUnderstudy : Nat := 2
def pairNone : Nat := 0
def pairJoining : Nat := 1
def pairSyncing : Nat := 2
def pairPaired : Nat := 3
def State.role (s : State) : Nat := s.fld F.TDM_STATE.ROLE
def State.pair (s : State) : Nat := s.fld F.TDM_STATE.PAIR
def State.understudy (s : State) : Bool := s.role == roleUnderstudy
/-- A principal that mirrors (R331, R335). -/
def State.mirrors (s : State) : Bool := s.role == rolePrincipal && (s.pair == pairSyncing || s.pair == pairPaired)

def tdmReset : TdmSt :=
  ⟨1, [], [], 0, false, false, [], false, [], [], [], [], [], 0, 1, [], [], none, [], 0, 0, 0, [], [], [], 1, []⟩

def State.setTdm (s : State) (x : TdmSt) : State := { s with tdm := x }

/-- A push pass runs on a link. -/
def State.passRuns (s : State) (l : Nat) : Bool := s.psh.any (fun e => e.1 = l && e.2.pass.isSome)

/-- The own claim takes a value (R343): on each link at its next pass boundary, at once where no pass runs. -/
def State.setClaim (s : State) (c : Nat) : State :=
  (List.range 64).foldl (fun s l => if s.passRuns l then s else s.setFld (F.CL_CLAIM.OWN l) c) (s.setFld F.TDM_CLAIM.CLAIM c)

def State.setPair (s : State) (p : Nat) : State := s.setFld F.TDM_STATE.PAIR p
def State.setRole (s : State) (r : Nat) : State := s.setFld F.TDM_STATE.ROLE r

/-- The line ports idle: `LINE_n_DE` is released, and a packet under way is cut (R340). -/
def State.linesIdle (s : State) : State :=
  ((List.range 16).filter (fun n => s.flag (F.LINE_CFG.EN n) && !bit (s.fld F.CUR_SEL_PORT.LINE) n)).foldl
    (fun s n => s.send (.pin "LINE_DE" n (!s.flag (F.LINE_CFG.DE_POL n))))
    { s with line := s.line.map (fun e => (e.1, { e.2 with until_ := min e.2.until_ s.time.house })) }

/-- `UNDERSTUDY`, `JOINING`, with own claim 0 (R331): nothing of the former pairing is kept. -/
def State.toJoining (s : State) : State :=
  let s := if s.understudy then s else s.linesIdle
  let s := ((s.setRole roleUnderstudy).setPair pairJoining).setFld F.TDM_STATE.ADRIFT 0
  ((s.setFld F.TDM_STATE.DIVERGED 0).setTdm tdmReset).setClaim 0

/-- Ethernet ports with sACN enabled. -/
def State.sacnPorts (s : State) : List Nat := (List.range 8).filter (fun p => s.flag (F.NET_SACN_CTRL.EN p))

/-- Promotion (R331, R343): the claim becomes C + 1 and every enabled port's priority P + 1. -/
def State.promote (s : State) : State :=
  let c := s.tdm.claim + 2
  let p := s.tdm.prio + 1
  let s := ((s.setRole rolePrincipal).setPair pairNone).setFld F.TDM_STATE.ADRIFT 0
  let s := (s.setFld F.TDM_STATE.DIVERGED 0).setTdm tdmReset
  let s := (s.sacnPorts.foldl (fun s n => s.setFld (F.NET_SACN_CTRL.PRIORITY n) p) s).setClaim c
  (s.bump F.TDM_PROMOTE_CNT.COUNT).raise Src.tandem E.PROMOTED []

/-- A show claim (R339). -/
def showClaim (c : Nat) : Bool := decide (1 ≤ c ∧ c ≤ 0xEFFF)

def State.activeLink (s : State) (l : Nat) : Bool := s.fld (F.CL_STATE.STATE l) == 7

/-- `ACTIVE` links whose node has accepted the own claim. -/
def State.witnesses (s : State) : Nat :=
  ((List.range 64).filter (fun l => s.activeLink l && s.fld (F.CL_CLAIM.NODE l) == s.fld F.TDM_CLAIM.CLAIM)).length

/-- The condition that `PROMOTE` chooses holds for an Understudy in `PAIRED` (R342); `ADRIFT` stands for the tandem lost. -/
def State.promoteHolds (s : State) : Bool :=
  s.understudy && s.pair == pairPaired &&
    ((decide (s.fld F.TDM_ROLE.PROMOTE ≤ 1 ∧ s.fld F.TDM_CLAIM.CLAIM ≠ 0 ∧ s.fld F.TDM_ROLE.WITNESS ≤ s.witnesses)) ||
      (s.fld F.TDM_ROLE.PROMOTE == 1 && s.flag F.TDM_STATE.ADRIFT))

/-- An Understudy whose condition holds is promoted. -/
def State.tryPromote (s : State) : State := if s.promoteHolds then s.promote else s

/-- What a node's accepted claim brings about (R342, R346): a principal is outranked, an Understudy promoted. -/
def State.claimSeen (s : State) (l : Nat) : State :=
  if !s.activeLink l then s
  else if s.role = rolePrincipal then
    if showClaim (s.fld (F.CL_CLAIM.NODE l)) && decide (s.fld (F.CL_CLAIM.OWN l) < s.fld (F.CL_CLAIM.NODE l)) then
      (s.toJoining).raise Src.tandem E.CLAIM_OUTRANKED []
    else s
  else s.tryPromote

end Sys2Proof.Machine
end

