-- ==== Sys2Proof/Machine/Blocking.lean ====
section
/-! DEFINITION. The Blocking Unit (R119 to R138): costs, the plan, posting, page moves, health, parking and the placement
report, as shared operations. -/

namespace Sys2Proof.Machine

/-! ### Items and their costs (R120 to R122) -/

def histNone : ItemHist := ⟨0, 0, 0xFFFFFFFF, 0, 0, 0, 0, false, false, 0⟩

/-- Key of an item's history: render items as they are, fixture items above them. -/
def histKey (render : Bool) (n : Nat) : Nat := if render then n else 2 ^ 24 + n

def State.hist (s : State) (k : Nat) : ItemHist := s.blk.hist.get histNone k
def State.setHist (s : State) (k : Nat) (h : ItemHist) : State :=
  { s with blk := { s.blk with hist := s.blk.hist.put histNone k h } }

/-- Layers of a tile that cover it and are not occluded, top first. -/
def State.visibleLayers (v : State) (t : Region) : List (List Byte) → List (List Byte)
  | [] => []
  | e :: rest =>
    if !Ly.enable e || (Ly.pixelsIn e t).isEmpty then v.visibleLayers t rest
    else if v.layerOpaque [] e t then [e] else e :: v.visibleLayers t rest

def State.tileLayers (v : State) (c : CfgTab) (n : Nat) : List (List Byte) :=
  let cv := c.entry tCanvas (tileCanvas n)
  v.visibleLayers (tileRegion cv n) ((Cv.layers cv).map (fun i => c.entry tLayer i)).reverse

/-- First number and count of what a fixture item covers. -/
def CfgTab.itemSpan (c : CfgTab) (chunk n : Nat) : Nat × Nat :=
  if isRange n then ((n - 4194304) * 512, 512) else c.chunkSpan chunk n

/-- Fixtures of a patch range. -/
def CfgTab.rangeCount (c : CfgTab) (n : Nat) : Nat := (c.fixtures.filter (fun i => decide (i / 512 = n - 4194304))).length

/-- Layers of a render item, or lamps of a fixture item. -/
def State.itemSize (v : State) (c : CfgTab) (chunk : Nat) (render : Bool) (n : Nat) : Nat :=
  if render then (v.tileLayers c n).length else if isRange n then c.rangeCount n else (c.chunkSpan chunk n).2

/-- The estimate of R122. -/
def State.estimate (s : State) (render : Bool) (n size : Nat) : Nat :=
  if render then s.fld F.BLK_EST.RE_LAYER * size
  else if isRange n then s.fld F.BLK_EST.FE_FIXTURE * size else 2 * size

/-- A saturated cost. -/
def costSat : Nat := 0xFFFFFFFF

/-- Base cost of an item, and whether it is an estimate. -/
def State.baseCost (s : State) (render : Bool) (n size : Nat) : Nat × Bool :=
  let h := s.hist (histKey render n)
  if h.ok1 && (render || h.ok2) && h.size == size then (h.base1 + (if render then 0 else h.base2), false)
  else (s.estimate render n size, true)

/-! ### Where the data of an item lies (R121) -/

/-- Bytes by pseudo-channel. -/
def addBytes (m : FMap Nat) (p : Place) (n : Nat) : FMap Nat :=
  match p with
  | .hbm a => m.modify 0 (a / (pagesPerPc * pageSize)) (· + n)
  | .sram _ => m

/-- The key with the most bytes, the lower number on a tie. -/
def mostBytes (m : FMap Nat) : Option Nat :=
  (List.foldl (fun (best : Option (Nat × Nat)) e => match best with
    | none => some e
    | some b => if b.2 < e.2 then some e else best) none m).map (·.1)

/-- Bytes of a coverage map that the blocks under a region lie in. -/
def State.coverPlaces (v : State) (e : List Byte) (t : Region) : List Place :=
  (((v.blocksUnder e t).map (· / 4)).dedup).map (fun k => placeOf (v.layerObj e).sram (v.layerObj e).aux k)

/-- Places that a render item reads and writes, with their bytes: coverage maps and source pixels of visible layers, and its tile. -/
def State.renderBytes (v : State) (c : CfgTab) (n : Nat) : List (Place × Nat) :=
  let t := tileRegion (c.entry tCanvas (tileCanvas n)) n
  let reads := (v.tileLayers c n).flatMap (fun e =>
    if Ly.fill e then []
    else
      let o := v.layerObj e
      (v.coverPlaces e t).map (fun p => (p, 1)) ++
      (((Ly.pixelsIn e t).map (fun p => o.info.offset p.1 p.2)).dedup).map (fun k =>
        (o.place k, if o.info.format = fmtYcc then 8 else fmtBytes o.info.format)))
  let tile := match v.cmp.tiles.get none n with
    | some x => [(x.place 0, pageSize), (x.place pageSize, pageSize)]
    | none => []
  reads ++ tile

/-- Places of canvas pixels that taps read. -/
def State.tapPlaces (v : State) (c : CfgTab) (cv : Nat) (ts : List Tap) : List Place :=
  (tapsInside (c.entry tCanvas cv) ts).filterMap (fun p =>
    (v.cmp.tiles.get none (cv * 65536 + p.2 / 128 * 256 + p.1 / 128)).map (fun t =>
      t.place ((p.2 % 128 * 128 + p.1 % 128) * 8)))

/-- Place of a fixture entry's output records, packed densely in ascending entry order (assumption 24). -/
def State.recPlace (s : State) (c : CfgTab) (entry : Nat) : Place :=
  placeOf false s.fix.recPages ((c.fixtures.idxOf entry) * 1056)

/-- Bytes of an object, by page or block. -/
def Obj.bytePlaces (o : Obj) : List (Place × Nat) :=
  let unit := if o.sram then blockSize else pageSize
  (List.range (ceilDiv o.size unit)).map (fun k => (o.place (k * unit), min unit (o.size - k * unit)))

/-- A personality's bytes, and those of the curves that its emitters name. -/
def State.persPlaces (v : State) (idx : Nat) : List (Place × Nat) :=
  match v.persBytes idx with
  | none => []
  | some b => (v.obj? idx).bytePlaces ++
      ((((Pn.emitterList b).map Em.curve).dedup).filter (fun i => i != 0 && v.isKind i kCurve)).flatMap (fun i => (v.obj? i).bytePlaces)

/-- Places that a fixture item reads and writes: canvas pixels, maps or points, compiled records, personalities and curves, output records.
The spec gives the drive records of lamps no pages, so that they count for no pseudo-channel (assumption 174). -/
def State.fixtureBytes (v : State) (c : CfgTab) (chunk n : Nat) : List (Place × Nat) :=
  if isRange n then
    let es := (c.fixtures.filter (fun i => decide (i / 512 = n - 4194304))).map (fun i => (i, c.entry tPatch i))
    ((es.flatMap (fun x => v.tapPlaces c (Pt.canvas x.2) (v.fixtureTaps x.2))).dedup).map (fun p => (p, 8)) ++
    ((es.flatMap (fun x => (List.range (Pt.points x.2)).map (fun k =>
      (v.obj? (Pt.pointBlock x.2)).place (32 * ((Pt.pointFirst x.2 + k) / 4) + 8 * ((Pt.pointFirst x.2 + k) % 4))))).dedup).map (fun p => (p, 8)) ++
    ((es.filter (fun x => decide (Pt.calstore x.2 ≠ 0))).map (fun x =>
      (recordPlace (v.obj? (Pt.calstore x.2)) (v.cal (Pt.calstore x.2)).bank (Pt.calBase x.2) 0,
        calRecord (calEmitters (v.obj? (Pt.calstore x.2)).param)))).dedup ++
    ((es.map (fun x => Pt.personality x.2)).dedup).flatMap v.persPlaces ++
    es.map (fun x => (v.recPlace c x.1, 1056))
  else
    let e := c.entry tSurface (n / 1024)
    let span := c.chunkSpan chunk n
    let lamps := (List.range span.2).map (span.1 + ·)
    let cal := v.obj? (handleIdx (Sf.cal e))
    let px := (lamps.flatMap (fun l => v.tapPlaces c (Sf.canvas e) (v.lampTaps e (lampUV e l).1 (lampUV e l).2))).dedup
    px.map (fun p => (p, 8)) ++
    lamps.map (fun l => (recordPlace cal (v.cal (handleIdx (Sf.cal e))).bank (Sf.calBase e + l) 0, calRecord (calEmitters cal.param))) ++
    (if Sf.usesPixmap e then lamps.map (fun l => ((v.obj? (handleIdx (Sf.pixmap e))).place (8 * l), 8)) else []) ++
    v.persPlaces (c.surfacePers (n / 1024))

def State.itemBytes (v : State) (c : CfgTab) (chunk : Nat) (render : Bool) (n : Nat) : List (Place × Nat) :=
  if render then v.renderBytes c n else v.fixtureBytes c chunk n

/-- The home group of an item. -/
def State.homeGroup (s : State) (c : CfgTab) (chunk : Nat) (render : Bool) (n : Nat) : Nat :=
  match mostBytes ((s.itemBytes c chunk render n).foldl (fun m p => addBytes m p.1 p.2) []) with
  | some g => g
  | none =>
    let r := (s.hist (histKey render n)).ranBy
    if r = 0 then 0 else if render then 2 * (r - 1) else r - 1

/-! ### The plan (R123, R124, R132) -/

def engineQuadrant (render : Bool) (e : Nat) : Nat := if render then e / 4 else e / 8
def servesGroup (render : Bool) (e g : Nat) : Bool := if render then g / 2 == e else g == e
def engineCount (render : Bool) : Nat := if render then 16 else 32
def lowestGroup (render : Bool) (e : Nat) : Nat := if render then 2 * e else e

/-- The drain quadrant of a fixture item. -/
def CfgTab.drainQuadrant (c : CfgTab) (render : Bool) (n : Nat) : Option Nat :=
  if render || isRange n then none else some (Sf.link (c.entry tSurface (n / 1024)) / 16)

/-- The weight W of an engine for an item. -/
def State.weight (s : State) (render : Bool) (home : Nat) (drain : Option Nat) (e : Nat) : Nat :=
  let w := if servesGroup render e home then 16
    else if engineQuadrant render e = home / 8 then 16 + s.fld F.BLK_WEIGHT.REMOTE
    else 16 + s.fld F.BLK_WEIGHT.FAR
  match drain with
  | some q => if engineQuadrant render e = q then w else w + s.fld F.BLK_WEIGHT.DRAIN
  | none => w

/-- Consumers by class. -/
def planConsumer (render : Bool) (e : Nat) : Consumer := if render then .re e else .fe e

/-- Engines of a class that are in the plan. -/
def State.planEngines (s : State) (render : Bool) : List Nat :=
  (List.range (engineCount render)).filter (fun e => s.serves (planConsumer render e))

/-- What the plan knows of an item before it places it. -/
structure PlanIn where
  num : Nat
  base : Nat
  estimated : Bool
  measured : Nat
  home : Nat
  drain : Option Nat
  prev : Nat
  pin : Option Nat
  deriving DecidableEq, Repr

/-- The pin of an item's canvas or surface; none for a patch range. -/
def State.itemPin (s : State) (render : Bool) (n : Nat) : Option Nat :=
  if render then (let g := s.blk.canvasPins.get 0 (tileCanvas n); if g = 0 then none else some (g - 1))
  else if isRange n then none
  else (let g := s.blk.surfacePins.get 0 (n / 1024); if g = 0 then none else some (g - 1))

def State.planIn (s : State) (c : CfgTab) (chunk : Nat) (render : Bool) (n : Nat) : PlanIn :=
  let h := s.hist (histKey render n)
  let b := s.baseCost render n (s.itemSize c chunk render n)
  ⟨n, b.1, b.2, h.measured, s.homeGroup c chunk render n, c.drainQuadrant render n, h.prev, s.itemPin render n⟩

/-- Planned loads by engine, and the items placed so far. -/
abbrev PlanAcc := FMap Nat × List Item

def adjCost (s : State) (render : Bool) (i : PlanIn) (e : Nat) : Nat := i.base * s.weight render i.home i.drain e / 16

/-- The engine with the least load after the item, the lower number on a tie. -/
def bestEngine (s : State) (render : Bool) (i : PlanIn) (load : FMap Nat) (es : List Nat) : Option (Nat × Nat) :=
  es.foldl (fun (best : Option (Nat × Nat)) e =>
    let t := load.get 0 e + adjCost s render i e
    match best with
    | none => some (e, t)
    | some b => if t < b.2 then some (e, t) else best) none

def flPinned : Nat := 1
def flKept : Nat := 2
def flMoving : Nat := 4
def flEstimated : Nat := 8
def flBroken : Nat := 16

/-- An item takes its engine. -/
def placeItem (s : State) (render : Bool) (i : PlanIn) (a : PlanAcc) (e flags : Nat) (local_ : Bool) (group : Nat) : PlanAcc :=
  let adj := adjCost s render i e
  (a.1.modify 0 e (· + adj),
    a.2 ++ [⟨i.num, render, i.base, i.measured, e, group, i.home, local_,
      flags + (if i.estimated then flEstimated else 0), adj, 0, 0⟩])

/-- The group a call is posted to (R124). -/
def postGroup (render : Bool) (e home : Nat) : Nat := if servesGroup render e home then home else lowestGroup render e

/-- An unpinned item is placed (R123). -/
def placeFree (s : State) (render : Bool) (es : List Nat) (flags : Nat) (a : PlanAcc) (i : PlanIn) : PlanAcc :=
  match bestEngine s render i a.1 es with
  | none => a
  | some (b, t) =>
    let p := i.prev - 1
    let keep := decide (0 < i.prev) && es.contains p && p != b &&
      decide ((a.1.get 0 p + adjCost s render i p) * 256 ≤ t * (256 + s.fld F.BLK_HYST.HYST))
    let e := if keep then p else b
    placeItem s render i a e (flags + (if keep then flKept else 0)) false (postGroup render e i.home)

/-- A pinned item is placed (R132), as unpinned when no engine in the plan serves its group. -/
def placePinned (s : State) (render : Bool) (es : List Nat) (a : PlanAcc) (i : PlanIn) : PlanAcc :=
  match i.pin with
  | none => a
  | some g =>
    match es.find? (fun e => servesGroup render e g) with
    | some e => placeItem s render i a e flPinned true g
    | none => a

/-- Base cost descending, item number ascending. -/
def planBefore (x y : PlanIn) : Bool := decide (y.base < x.base ∨ (x.base = y.base ∧ x.num ≤ y.num))

/-- The plan of one class over the given engines (R123): loads and items. -/
def planClass (s : State) (render : Bool) (es : List Nat) (ins : List PlanIn) : PlanAcc :=
  let ok : PlanIn → Bool := fun i => match i.pin with
    | some g => es.any (fun e => servesGroup render e g)
    | none => false
  let a := (ins.filter ok).foldl (placePinned s render es) (([] : FMap Nat), ([] : List Item))
  ((ins.filter (fun i => !ok i)).mergeSort planBefore).foldl
    (fun a i => placeFree s render es (if i.pin.isSome then flBroken else 0) a i) a

/-- The predicted finish of a class. -/
def planFinish (a : PlanAcc) : Nat := List.foldl (fun m (e : Nat × Nat) => max m e.2) 0 a.1

/-! ### Moves (R129, R130, R134) -/

/-- Pages that objects, tiles and output records use now. -/
def State.refPages (s : State) : List Nat :=
  List.flatMap (fun (p : Nat × Obj) => if p.2.sram then [] else p.2.pages ++ p.2.aux ++
    []) s.obj.objs ++
  List.flatMap (fun (p : Nat × Obj) => match p.2.shadow with | some sh => if sh.sram then [] else sh.pages ++ sh.aux | none => []) s.obj.objs ++
  List.flatMap (fun (p : Nat × Option TileSt) => match p.2 with | some t => [t.page0, t.page1] | none => []) s.cmp.tiles ++
  s.fix.recPages

def renamePage (p q : Nat) (l : List Nat) : List Nat := l.map (fun x => if x = p then q else x)

/-- A page is replaced by another wherever it is in use (R130). -/
def State.replacePage (s : State) (p q : Nat) : State :=
  { s with
    obj := { s.obj with objs := s.obj.objs.map (fun e => (e.1,
      let o := if e.2.sram then e.2 else { e.2 with pages := renamePage p q e.2.pages, aux := renamePage p q e.2.aux }
      { o with shadow := o.shadow.map (fun sh => if sh.sram then sh
          else { sh with pages := renamePage p q sh.pages, aux := renamePage p q sh.aux }) })) }
    cmp := { s.cmp with tiles := s.cmp.tiles.map (fun e => (e.1, e.2.map (fun t =>
      ⟨if t.page0 = p then q else t.page0, if t.page1 = p then q else t.page1⟩))) }
    fix := { s.fix with recPages := renamePage p q s.fix.recPages } }

def State.setBlk (s : State) (b : BlkSt) : State := { s with blk := b }

/-- A group that `n` pages may move to: its pseudo-channel is in the plan and has room. -/
def State.groupRoom (s : State) (g n : Nat) : Bool := s.pcUp g && decide (n ≤ s.pcFree g)

/-- The pages that move with a page: the two of a canvas tile are never split (R128). -/
def State.together (s : State) (p : Nat) : List Nat :=
  match s.cmp.tiles.find? (fun e => match e.2 with | some t => t.page0 == p || t.page1 == p | none => false) with
  | some (_, some t) => [t.page0, t.page1]
  | _ => [p]

/-- Pages as they move, each group of them once. -/
def State.groups (s : State) (l : List Nat) : List (List Nat) := (l.map s.together).dedup

/-- The pseudo-channel that `n` pages go to now; 32 stands for the rule of R128. -/
def State.moveTarget (s : State) (g n : Nat) : Option Nat :=
  if g = 32 then s.bestPc n else if s.groupRoom g n then some g else none

/-- Bytes of a move. -/
def PageMove.bytes (m : PageMove) : Nat := m.units.length * (if m.toSram then blockSize else pageSize)

/-- Bytes that moves under way will spend of a budget. -/
def State.underWay (s : State) (evac : Bool) : Nat := ((s.blk.moves.filter (fun m => m.evac = evac)).map PageMove.bytes).sum

/-- Pages may move: none of them holds an uncorrectable codeword, lies under a move already, or is no longer in use. -/
def State.mayMove (s : State) (pages : List Nat) : Bool :=
  pages.all (fun p => !s.pageBad p && s.refPages.contains p && !s.blk.moves.any (fun m => m.pages.contains p))

def State.addMove (s : State) (m : PageMove) : State := s.setBlk { s.blk with moves := s.blk.moves ++ [m] }

/-- What waits to move starts, where there is room for it: an object as a whole (R131), or pages. -/
def State.startMove (s : State) (evac : Bool) (r : MoveReq) : State :=
  if r.obj ≠ 0 then
    let o := s.obj? r.obj
    let aux := auxSize o.kind o.param
    if s.blk.moves.any (fun m => m.obj = r.obj) then s
    else if r.group = 33 then
      if o.sram then s else match s.allocPair true o.size aux with
        | some (s, b, c) => s.addMove ⟨[], r.obj, evac, true, b ++ c⟩
        | none => s
    else
      let n := ceilDiv o.size pageSize + ceilDiv aux pageSize
      if o.sram && s.groupRoom r.group n then
        let t := s.takePages r.group n
        t.1.addMove ⟨[], r.obj, evac, false, t.2⟩
      else s
  else if s.mayMove r.pages then
    match s.moveTarget r.group r.pages.length with
    | none => s
    | some pc =>
      let t := s.takePages pc r.pages.length
      t.1.addMove ⟨r.pages, 0, evac, false, t.2⟩
  else s

/-- The next waiting moves of a budget, in bytes, start while it lasts. DESIGN CHOICE (assumption 175): a move starts while the budget is not
spent, and counts whole against that of the frame in which it finishes. -/
def State.startMoves (s : State) (evac : Bool) (budget : Nat) : Nat → State
  | 0 => s
  | fuel + 1 =>
    match (if evac then s.blk.waitEvac else s.blk.waitMig) with
    | [] => s
    | r :: rest =>
      if budget ≤ (if evac then s.blk.evacDone else s.blk.migDone) + s.underWay evac then s
      else ((s.setBlk (if evac then { s.blk with waitEvac := rest } else { s.blk with waitMig := rest })).startMove evac r).startMoves
        evac budget fuel

/-- Bytes of a budget in MiB. -/
def budgetBytes (mib : Nat) : Nat := mib * 2 ^ 20

/-- Evacuation and pins go first (R134). -/
def State.pumpMoves (s : State) : State :=
  let s := s.startMoves true (budgetBytes (s.fld F.BLK_EVAC_BUDGET.MIB)) s.blk.waitEvac.length
  s.startMoves false (budgetBytes (s.fld F.BLK_MIG_BUDGET.MIB)) s.blk.waitMig.length

/-- Bytes that a waiting move is to move. -/
def State.reqBytes (s : State) (r : MoveReq) : Nat :=
  if r.obj = 0 then r.pages.length * pageSize
  else
    let o := s.obj? r.obj
    let unit := if r.group = 33 then blockSize else pageSize
    (ceilDiv o.size unit + ceilDiv (auxSize o.kind o.param) unit) * unit

/-- Bytes waiting to move (`BLK_MIG_PENDING`). -/
def State.migPending (s : State) : Nat :=
  ((s.blk.waitEvac ++ s.blk.waitMig).map s.reqBytes).sum + (s.blk.moves.map PageMove.bytes).sum

/-- A whole object has been copied between Stage SRAM and HBM (R131). -/
def State.objMoved (s : State) (m : PageMove) : State :=
  let o := s.obj? m.obj
  let n := ceilDiv o.size (if m.toSram then blockSize else pageSize)
  let pages := m.units.take n
  let aux := m.units.drop n
  let s := (s.copyAcross o.sram m.toSram o.pages pages o.size).copyAcross o.sram m.toSram o.aux aux (auxSize o.kind o.param)
  (s.setObj m.obj { o with sram := m.toSram, pages := pages, aux := aux }).freeAfterFrames o.sram (o.pages ++ o.aux)

/-- The pages of a move have been copied (R130). -/
def State.pagesMoved (s : State) (m : PageMove) : State :=
  let s := s.copyUnits false m.pages m.units (m.pages.length * pageSize)
  ((m.pages.zip m.units).foldl (fun s x => s.replacePage x.1 x.2) s).freeAfterFrames false m.pages

/-- The oldest move finishes (R130). -/
def State.moveDone (s : State) : State :=
  match s.blk.moves with
  | [] => s
  | m :: rest =>
    let s := s.setBlk { s.blk with moves := rest
                                   evacDone := s.blk.evacDone + (if m.evac then m.bytes else 0)
                                   migDone := s.blk.migDone + (if m.evac then 0 else m.bytes) }
    let s := s.bumpBy F.BLK_MIG_BYTES_CNT.COUNT m.bytes
    (if m.obj = 0 then s.pagesMoved m else s.objMoved m).pumpMoves

/-! ### Displacement (R129) -/

/-- The items of a plan that read a page, as engines. -/
def pageEngines (uses : List (Nat × List Nat)) (p : Nat) : List Nat :=
  ((uses.filter (fun u => u.2.contains p)).map (·.1)).dedup

/-- Pages of an item. -/
def placesPages (l : List (Place × Nat)) : List Nat :=
  (l.filterMap (fun p => match p.1 with | .hbm a => some (a / pageSize) | .sram _ => none)).dedup

/-- Pages of pinned objects. -/
def State.pinnedPages (s : State) : List Nat :=
  List.flatMap (fun (e : Nat × Obj) => if e.2.pin.isSome ∧ ¬ e.2.sram then e.2.pages ++ e.2.aux else []) s.obj.objs

/-- An item that is not in a plan has not been displaced in it. -/
def State.noteAbsent (s : State) (plan : List Item) : State :=
  let keys := plan.map (fun i => histKey i.render i.num)
  s.setBlk { s.blk with hist := s.blk.hist.map (fun e => if keys.contains e.1 then e else (e.1, { e.2 with dispEngine := 0, dispPlans := 0 })) }

/-- The history of an item after a plan: its engine, and how long it has been displaced onto it. -/
def State.notePlan (s : State) (i : Item) : State :=
  let k := histKey i.render i.num
  let h := s.hist k
  let disp := !servesGroup i.render i.engine i.home
  let h := { h with prev := i.engine + 1
                    dispPlans := if disp then (if h.dispEngine = i.engine + 1 then h.dispPlans + 1 else 1) else 0
                    dispEngine := if disp then i.engine + 1 else 0 }
  s.setHist k h

/-- The candidates of a plan, in order: their pages with the group wanted. -/
def State.candidates (s : State) (c : CfgTab) (chunk : Nat) (plan : List Item) : List MoveReq :=
  let uses := plan.map (fun i => ((if i.render then 0 else 100) + i.engine, placesPages (s.itemBytes c chunk i.render i.num)))
  let pinned := s.pinnedPages
  let cands := plan.filter (fun i => decide (s.fld F.BLK_MIG_DWELL.PLANS ≤ (s.hist (histKey i.render i.num)).dispPlans) &&
    !servesGroup i.render i.engine i.home)
  let sorted := cands.mergeSort (fun x y => decide (y.adj - y.base < x.adj - x.base ∨
    (x.adj - x.base = y.adj - y.base ∧ x.num ≤ y.num)))
  (sorted.flatMap (fun i =>
    let g := lowestGroup i.render i.engine
    let may : Nat → Bool := fun p => !pinned.contains p && !s.pageBad p && (pageEngines uses p).length == 1
    (s.groups (placesPages (s.itemBytes c chunk i.render i.num))).filterMap (fun ps =>
      let want := if s.groupRoom g ps.length then some g
        else if i.render && s.groupRoom (g + 1) ps.length then some (g + 1) else none
      match want with
      | none => none
      | some g => if ps.all may && ps.any (fun p => pagePc p != g) then some ⟨ps, 0, g⟩ else none)))

/-- What an object's pin still wants moved (R131). -/
def State.pinReqs (s : State) (idx : Nat) : List MoveReq :=
  let o := s.obj? idx
  match o.pin with
  | some pin =>
    if pin.mode = 1 then
      (if o.sram then [⟨[], idx, pin.group⟩]
       else ((o.pages ++ o.aux).filter (fun p => pagePc p != pin.group && s.pcUp (pagePc p))).map (fun p => ⟨[p], 0, pin.group⟩))
    else if pin.mode = 2 ∧ ¬ o.sram then [⟨[], idx, 33⟩] else []
  | none => []

/-- Pages to evacuate: of pseudo-channels out of the plan (R134), and retired pages whose contents can be corrected (R65); then what pins
want. -/
def State.evacList (s : State) : List MoveReq :=
  let out := (s.groups s.refPages.dedup).filter (fun ps =>
    ps.any (fun p => !s.pcUp (pagePc p) || s.pageSt p == pgRetired) && ps.all (fun p => !s.pageBad p))
  out.map (fun ps => ⟨ps, 0, 32⟩) ++ (s.obj.objs.map (·.1)).flatMap s.pinReqs

/-! ### The report (R138) -/

/-- Pages (below 2^20) and blocks (from 2^20) of some places. -/
def placesUnits (l : List (Place × Nat)) : List Nat :=
  (l.map (fun p => match p.1 with | .hbm a => a / pageSize | .sram a => 2 ^ 20 + a / blockSize)).dedup

/-- Pages and blocks under move. -/
def State.movingUnits (s : State) : List Nat :=
  s.blk.moves.flatMap (fun m => if m.obj = 0 then m.pages
    else ((s.obj? m.obj).pages ++ (s.obj? m.obj).aux).map (fun u => if (s.obj? m.obj).sram then 2 ^ 20 + u else u))

def recordBytes (moving : List Nat) (units : Item → List Nat) (i : Item) : List Byte :=
  let fl := i.flags + (if (units i).any (moving.contains ·) then flMoving else 0)
  leBytes 4 (i.num % 2 ^ 24 + (if i.render then kRenderTile else kPass1) * 2 ^ 24) ++ leBytes 4 i.base ++
  leBytes 4 i.measured ++ leBytes 1 i.engine ++ leBytes 1 i.group ++ leBytes 1 i.home ++ leBytes 1 fl

/-- `BLK_PARKED` as a mask. -/
def maskOf (l : List Nat) : Nat := (l.dedup.map (2 ^ ·)).sum

def State.placementReport (s : State) (seq eclk : Nat) (re fe : PlanAcc) (c : CfgTab) (chunk : Nat) : List Byte :=
  let plan := re.2 ++ fe.2
  let count : (Item → Bool) → Nat := fun p => (plan.filter p).length
  padTo 256 (leBytes 8 seq ++ leBytes 4 eclk ++ leBytes 4 plan.length ++
    leBytes 4 (count (fun i => !servesGroup i.render i.engine i.home)) ++ leBytes 4 (count (fun i => bit i.flags 1)) ++
    leBytes 4 (count (fun i => bit i.flags 4)) ++ leBytes 4 0 ++ leBytes 8 s.blk.bytesPrev ++ leBytes 8 s.migPending ++
    leBytes 2 (s.fld F.BLK_HEALTH_RE.MASK) ++ leBytes 1 (maskOf s.blk.parked) ++ leBytes 1 0 ++
    leBytes 4 (s.fld F.BLK_HEALTH_FE.MASK) ++ leBytes 4 (s.fld F.BLK_HEALTH_PC.MASK) ++ leBytes 4 0 ++
    (List.range 16).flatMap (fun e => leBytes 4 (re.1.get 0 e)) ++ (List.range 32).flatMap (fun e => leBytes 4 (fe.1.get 0 e))) ++
  plan.flatMap (recordBytes s.movingUnits (fun i => placesUnits (s.itemBytes c chunk i.render i.num)))

/-! ### Parking (R136, R424) -/

/-- Clusters of a class by number. -/
def classClusters (render : Bool) : List Nat := if render then [0, 1, 2, 3] else [4, 5, 6, 7]

def engineCluster (render : Bool) (e : Nat) : Nat := if render then e / 4 else 4 + e / 8

/-- M in units of 1/16 ns: an ECLK cycle is 0.9375 ns. -/
def finishNs (re fe : PlanAcc) : Nat := (planFinish re + planFinish fe) * 15

/-- The decision of a plan on one cluster: park, restore, or neither. -/
def State.parkDecision (s : State) (f : FrameRec) (re fe : PlanAcc) (ri fi : List PlanIn) : State :=
  if !s.flag F.BLK_PARK.EN then s
  else
    let tm := f.cfg.entry tTiming 0
    let window := (Tm.lead tm * Tm.den tm * 1000000000 / Tm.num tm - Tm.margin tm * 1000) * 16
    let h := s.fld F.BLK_PARK.HEADROOM
    let m := finishNs re fe
    if window * (256 - h) < m * 256 then
      let render := decide (planFinish fe ≤ planFinish re)
      match (classClusters render).find? (fun k => s.blk.parked.contains k) with
      | some k => s.setBlk { s.blk with restoreReq := some k }
      | none => s
    else
      let lower : Bool → Option Nat := fun render =>
        match ((classClusters render).filter (fun k => s.clusterUp k)).getLast? with
        | none => none
        | some k =>
          if k = 0 ∨ k = 4 then none
          else
            let es := (s.planEngines render).filter (fun e => engineCluster render e != k)
            let m' := if render then finishNs (planClass s true es ri) fe else finishNs re (planClass s false es fi)
            if es.isEmpty then none else if m' * 256 ≤ window * (256 - 2 * h) then some k else none
      match lower true with
      | some k => s.setBlk { s.blk with parkReq := some k }
      | none => match lower false with
        | some k => s.setBlk { s.blk with parkReq := some k }
        | none => s

/-- The cluster decided on leaves `CB_ENGINE_UP` at the end of the plan (R424): its engines finish their calls. -/
def State.takePark (s : State) : State :=
  match s.blk.parkReq with
  | none => s
  | some k =>
    let s := s.setBlk { s.blk with parked := insertAsc k s.blk.parked }
    let s := { s with cb := { s.cb with waiting := s.cb.waiting.filter (fun c => !(clusterEngines k).contains c) } }
    (s.rebalance).dispatchAll

/-! ### Phases and completion (R126) -/

/-- Pass-2 results become the frame's. -/
def State.frameComplete (s : State) (seq : Nat) : State :=
  s.updFrame seq (fun f => { f with phase := 4, banks := s.fix.bank })

/-- A frame moves on to the phase that its retirements allow; the barrier stands between pass 1 and pass 2. A frame abandoned before its
barrier has none (R218). -/
def State.advancePhase (s : State) (seq : Nat) : Nat → State
  | 0 => s
  | fuel + 1 =>
    match s.frame? seq with
    | none => s
    | some f =>
      let ended : Nat → Bool := fun x => x == 2 || x == 3
      if f.abandoned ∧ (f.phase = 1 ∨ f.phase = 2) then s.updFrame seq (fun f => { f with phase := 5 })
      else if f.phase = 1 ∧ (f.plan.filter (·.render)).all (fun i => ended i.p1) then
        (s.updFrame seq (fun f => { f with phase := 2 })).advancePhase seq fuel
      else if f.phase = 2 ∧ (f.plan.filter (fun i => !i.render)).all (fun i => ended i.p1) then
        ((s.updFrame seq (fun f => { f with phase := 3
                                            plan := f.plan.map (fun i => if !i.render ∧ i.p1 = 3 then { i with p2 := 3 } else i) })).barrier
          f).advancePhase seq fuel
      else if f.phase = 3 ∧ (f.plan.filter (fun i => !i.render)).all (fun i => ended i.p2) then
        if f.plan.all (fun i => i.p1 == 2 && (i.render || i.p2 == 2)) && !f.abandoned then s.frameComplete seq
        else s.updFrame seq (fun f => { f with phase := 5 })
      else s

def State.advanceFrame (s : State) (seq : Nat) : State := s.advancePhase seq 4

/-- Every frame moves on (after an engine loss). -/
def State.advanceAll (s : State) : State := (s.frames.map (·.seq)).foldl State.advanceFrame s

/-! ### The post sequencer (R126, R127) -/

/-- Calls of the sequencer queued or dispatched. -/
def State.inFlight (s : State) : Nat :=
  (s.cb.queue.filter (fun r => r.word.producer = Src.blocking)).length +
  (s.cb.held.filter (fun h => h.2.word.producer = Src.blocking)).length

/-- The word of an item's next call. -/
def State.itemWord (s : State) (f : FrameRec) (i : Item) : CallWord :=
  let base : CallWord := ⟨0, 0, 0, i.group, i.local_, false, 0, 0, 0xFFFF, f.seq, 0, 0, 0, 0⟩
  if i.render then
    { base with kind := kRenderTile, cls := clsRE, prio := s.fld F.BLK_PRIO.RENDER
                arg0 := tileCanvas i.num + tileX i.num * 2 ^ 8 + tileY i.num * 2 ^ 16 }
  else
    let sp := f.cfg.itemSpan f.chunk i.num
    { base with kind := if f.phase = 3 then kPass2 else kPass1, cls := clsFE, prio := s.fld F.BLK_PRIO.FIXTURE
                arg0 := i.num, arg1 := sp.1, arg2 := sp.2 }

/-- The next item of a frame whose call its phase lets be posted. -/
def FrameRec.nextItem (f : FrameRec) : Option Item :=
  if f.abandoned ∨ ¬ f.planned then none
  else if f.phase = 1 then f.plan.find? (fun i => i.render && i.p1 == 0)
  else if f.phase = 2 then f.plan.find? (fun i => !i.render && i.p1 == 0)
  else if f.phase = 3 then f.plan.find? (fun i => !i.render && i.p2 == 0)
  else none

/-- Every call of a frame has been posted, or never will be. -/
def FrameRec.allPosted (f : FrameRec) : Bool :=
  f.abandoned || !f.planned || f.plan.all (fun i => i.p1 != 0 && (i.render || i.p1 == 3 || i.p2 != 0))

/-- The frame whose call is posted next, with its item: the oldest frame that has one. Fixture calls wait until every call of the frames
before has been posted, so that these stand ahead in every list and their barriers precede (R126, R218). -/
def nextPost : List FrameRec → Option (FrameRec × Item)
  | [] => none
  | f :: rest =>
    match f.nextItem with
    | some i => some (f, i)
    | none =>
      match nextPost rest with
      | some (g, i) => if i.render || f.allPosted then some (g, i) else none
      | none => none

/-- An item's call has been posted. -/
def State.markPosted (s : State) (seq : Nat) (render : Bool) (num : Nat) (pass2 : Bool) : State :=
  s.updFrame seq (fun f => { f with plan := f.plan.map (fun i =>
    if i.num = num ∧ i.render = render then (if pass2 then { i with p2 := 1 } else { i with p1 := 1 }) else i) })

def State.markWord (s : State) (w : CallWord) : State :=
  s.markPosted w.frame (w.kind == kRenderTile) w.item (w.kind == kPass2)

/-- The Blocking Unit's producer is stalled. -/
def State.blkStalled (s : State) : Bool := s.cb.stalled.any (fun x => x.producer = .blocking)

/-- The sequencer posts nothing now: a post of it stalls, or its calls have reached `BLK_INFLIGHT` (R126). -/
def State.seqWaits (s : State) : Bool := s.blkStalled || decide (s.fld F.BLK_INFLIGHT.LIMIT ≤ s.inFlight)

/-- A frame is abandoned by a refused post (R127). -/
def State.abandon (s : State) (seq : Nat) : State :=
  match s.frame? seq with
  | some f => if f.abandoned then s
    else ((s.updFrame seq (fun f => { f with abandoned := true })).raise Src.blocking E.BLK_REFUSED (words2 seq)).advanceFrame seq
  | none => s

/-- What a frame's post leaves: it is marked, waits, or abandons its frame when it is refused. -/
def State.posted (w : CallWord) (r : State × PostOut) : State :=
  match r.2 with
  | .ok _ => r.1.markWord w
  | .refused => r.1.abandon w.frame
  | _ => r.1

/-- The sequencer posts the next call: of the oldest frame that has one to post. -/
def State.seqPost (s : State) : State :=
  if s.seqWaits then s
  else match nextPost s.frames with
    | none => s
    | some (f, i) =>
      let w := s.itemWord f i
      State.posted w (s.cbPost .blocking Src.blocking 0 w 0)

/-! ### Costs reported at a standby (R108, R122) -/

/-- The history of an item of a size after a call of it: the call's base cost, unless it is saturated. -/
def ItemHist.reported (h : ItemHist) (kind num cost base size : Nat) : ItemHist :=
  let same := size == h.size
  let ok := cost != costSat
  let h := { h with measured := cost, ranBy := num + 1, size := size, ok1 := h.ok1 && same, ok2 := h.ok2 && same }
  if kind = kPass2 then { h with base2 := if ok then base else h.base2, ok2 := ok }
  else { h with base1 := if ok then base else h.base1, ok1 := ok }

/-- An item's history takes the cost of a call, also one whose frame is over. A chunk of another size than the present one is no item any
more (R120). -/
def State.learn (s : State) (c : Consumer) (w : CallWord) (cost : Nat) : State :=
  let render := w.kind == kRenderTile
  match s.callFrame? w.frame with
  | none => s
  | some f =>
    match f.plan.find? (fun i => i.num = w.item ∧ i.render = render) with
    | none => s
    | some i =>
      if !render && !isRange i.num && f.chunk != s.blk.chunk then s
      else
        let k := histKey render i.num
        let base := cost * 16 / s.weight render i.home (f.cfg.drainQuadrant render i.num) c.num
        s.setHist k ((s.hist k).reported w.kind c.num cost base ((s.atSnap f).itemSize f.cfg f.chunk render i.num))

/-- The records of a fixture item that its pointer now names: drive records in lamp order, or output records in entry order. -/
def State.itemRecords (s : State) (c : CfgTab) (n : Nat) : List Byte :=
  let bank := s.itemBank n
  if isRange n then
    (c.fixtures.filter (fun i => decide (i / 512 = n - 4194304))).flatMap (fun i => s.outRead i bank)
  else
    let e := c.entry tSurface (n / 1024)
    let size := ceilDiv (s.surfaceEmitters e) 3 * 8
    let span := c.chunkSpan s.blk.chunk n
    (List.range span.2).flatMap (fun k => padTo size (s.driveRead (n / 1024) (span.1 + k) bank))

/-- The records of an item that its pointer names take the bytes given for them. -/
def State.setItemRecords (s : State) (c : CfgTab) (n : Nat) (b : List Byte) : State :=
  let bank := s.itemBank n
  if isRange n then
    ((c.fixtures.filter (fun i => decide (i / 512 = n - 4194304))).foldl (fun (r : State × List Byte) i =>
      let k := (s.outRead i bank).length
      (r.1.setOut i bank (r.2.take k), r.2.drop k)) (s, b)).1
  else
    let e := c.entry tSurface (n / 1024)
    let size := ceilDiv (s.surfaceEmitters e) 3 * 8
    let span := c.chunkSpan s.blk.chunk n
    (List.range span.2).foldl (fun s k => s.setDrive (n / 1024) (span.1 + k) bank (slice b (k * size) size)) s

/-- Streamed records become the item's previous records (R348). -/
def State.adoptRecords (s : State) (c : CfgTab) (n off : Nat) (b : List Byte) : State :=
  s.setItemRecords c n (patch (s.itemRecords c n) off b)

/-- Streamed records that waited for the item's own pass 2 of their frame. -/
def State.adoptWaiting (s : State) (n frame : Nat) : State :=
  let due := s.tdm.adopt.filter (fun x => x.1 = n && x.2.1 == frame)
  let s := s.setTdm { s.tdm with adopt := s.tdm.adopt.filter (fun x => !(x.1 = n && x.2.1 == frame)) }
  due.foldl (fun s x => s.adoptRecords s.cfgApp n x.2.2.1 x.2.2.2) s

/-- An item's call retires as run. -/
def State.markRetired (s : State) (w : CallWord) : State :=
  let s := s.updFrame w.frame (fun f => { f with plan := f.plan.map (fun i =>
    if i.num = w.item ∧ i.render = (w.kind == kRenderTile) then
      (if w.kind = kPass2 then { i with p2 := 2 } else { i with p1 := 2 }) else i) })
  if w.kind = kPass2 then
    let s := (s.flipBank w.item).adoptWaiting w.item w.frame
    if s.tdm.streaming ∧ ¬ s.tdm.adopted.contains w.item then
      { s with fix := { s.fix with lampDue := (s.fix.lampDue.filter (fun x => decide (x.1 ≠ w.item))) ++ [(w.item, w.frame)] } }
    else s
  else s

/-- A call of a frame has not retired. -/
def State.runsFor (s : State) (f : FrameRec) : Bool :=
  s.cb.queue.any (fun r => r.word.producer == Src.blocking && r.word.kind != kCalCompile && r.word.frame == f.seq) ||
    s.cb.held.any (fun h => h.2.word.producer == Src.blocking && h.2.word.kind != kCalCompile && h.2.word.frame == f.seq)

/-- Frames that are over are forgotten with their last call. -/
def State.pruneGone (s : State) : State := { s with gone := s.gone.filter s.runsFor }

/-! ### Compiles (R202 to R205) -/

def compNone : CompSt := ⟨0, 0, [], [], [], [], sigmaAll, sigmaAll, none, none, 0, false, false, false, 0, 0⟩

def leafNone : LeafRes := ⟨sigmaAll, sigmaAll, none, none, 0⟩

def State.comp? (s : State) (idx : Nat) : Option CompSt := (s.fix.comps.find? (·.1 = idx)).map (·.2)
def State.setComp (s : State) (idx : Nat) (c : CompSt) : State :=
  { s with fix := { s.fix with comps := s.fix.comps.insert idx c } }
def State.dropComp (s : State) (idx : Nat) : State := { s with fix := { s.fix with comps := s.fix.comps.erase idx } }

/-- The roots of a phase: 983,040 lamps each. -/
def compRoots (n : Nat) : List (Nat × Nat) :=
  (List.range (ceilDiv n 983040)).map (fun i => (i * 983040, min 983040 (n - i * 983040)))

/-- The leaves of a root. -/
def rootLeaves (r : Nat × Nat) : List (Nat × Nat) :=
  if r.2 ≤ 65536 then [r]
  else
    let k := ceilDiv r.2 65536
    let each := ceilDiv r.2 k
    (List.range k).map (fun i => (r.1 + i * each, min each (r.2 - i * each)))

/-- Children of a root. -/
def rootChildren (n : Nat) : Nat := if n ≤ 65536 then 0 else ceilDiv n 65536

/-- The group for a compile's roots (R127). -/
def State.compGroup (s : State) (idx : Nat) : Nat :=
  let o := s.obj? idx
  let aux := auxSize o.kind o.param
  if o.sram then 0
  else (mostBytes ((o.bytePlaces ++ (List.range (ceilDiv aux pageSize)).map (fun k =>
    (placeOf o.sram o.aux (k * pageSize), min pageSize (aux - k * pageSize)))).foldl (fun m p => addBytes m p.1 p.2) [])).getD 0

def State.compWord (s : State) (idx : Nat) (c : CompSt) (r : Nat × Nat) (child : Bool) : CallWord :=
  ⟨kCalCompile, clsFE, s.fld F.BLK_PRIO.COMPILE, s.compGroup idx, false, child, if child then 0 else rootChildren r.2, 0, 0xFFFF,
    noFrame, c.handle, r.1, r.2, c.phase - 1⟩

/-- A root has been posted: its leaves are to retire. -/
def State.rootPosted (s : State) (idx : Nat) (r : Nat × Nat) : State :=
  match s.comp? idx with
  | none => s
  | some c => s.setComp idx { c with roots := c.roots.filter (· ≠ r), todo := c.todo ++ rootLeaves r }

/-- A root's post has been refused (R205). -/
def State.rootRefused (s : State) (idx : Nat) (r : Nat × Nat) : State :=
  match s.comp? idx with
  | none => s
  | some c => s.setComp idx { c with roots := c.roots.filter (· ≠ r), refused := c.refused ++ [r], partial_ := true }

/-- The roots of a compile are posted, until one stalls the sequencer or its calls reach their limit. -/
def State.postRoots (s : State) (idx : Nat) : List (Nat × Nat) → State
  | [] => s
  | r :: rest =>
    if s.seqWaits then s
    else match s.comp? idx with
      | none => s
      | some c =>
        let q := s.cbPost .blocking Src.blocking 0 (s.compWord idx c r false) 0
        match q.2 with
        | .ok _ => (q.1.rootPosted idx r).postRoots idx rest
        | .stalls => q.1
        | _ => (q.1.rootRefused idx r).postRoots idx rest

def State.postAllRoots (s : State) (idx : Nat) : State :=
  match s.comp? idx with
  | some c => s.postRoots idx c.roots
  | none => s

/-- A compile starts with phase A. -/
def State.startComp (s : State) (idx handle mseq : Nat) : State :=
  s.setComp idx { compNone with handle := handle, phase := 1, roots := compRoots (calLamps (s.obj? idx).param), mseq := mseq }

/-- The gamut header of the inactive bank (R201, R203), as σ and L for each primaries setting. -/
def CompSt.header (c : CompSt) : List Byte :=
  let l : Option Rat → Nat := fun x => r32bits (r32down (x.getD 0))
  leBytes 4 (r32bits ((sigmaBest c.ok709 : Rat) / 256)) ++ leBytes 4 (l c.l709) ++
    leBytes 4 (r32bits ((sigmaBest c.ok2020 : Rat) / 256)) ++ leBytes 4 (l c.l2020) ++ zeros 48

/-- Place of a bank's gamut header. -/
def headerPlace (o : Obj) (bank k : Nat) : Place :=
  placeOf o.sram o.aux (2 * calLamps o.param * calRecord (calEmitters o.param) + 64 * bank + k)

/-- Phase B is over: the inactive bank's gamut header is written, and the bank waits for its frame. -/
def State.headerWritten (s : State) (idx : Nat) : State :=
  match s.comp? idx with
  | none => s
  | some c =>
    let o := s.obj? idx
    let b := c.header
    let bank := 1 - (s.cal idx).bank
    let s := (List.range 64).foldl (fun s k => s.writeMem (headerPlace o bank k) [b.getD k 0]) s
    let s := s.setComp idx { c with phase := 3 }
    if s.understudy ∧ c.mseq ≠ 0 then s.setTdm { s.tdm with up := s.tdm.up ++ [(0x93, leBytes 4 c.mseq ++ zeros 4)] } else s

/-- A phase whose calls have all retired gives way to the next (R204). Roots refused in phase A take no part in phase B (R205). -/
def State.settleComp (s : State) (idx : Nat) : State :=
  match s.comp? idx with
  | none => s
  | some c =>
    if !c.roots.isEmpty || !c.todo.isEmpty then s
    else if c.phase = 1 then
      let e := calEmitters (s.obj? idx).param
      let empty : Nat → Bool := fun mask => decide (3 ≤ e) && sigmaBest mask == 0
      let s := if empty c.ok709 then s.raise Src.fix E.CAL_GAMUT_EMPTY [c.handle, 0] else s
      let s := if empty c.ok2020 then s.raise Src.fix E.CAL_GAMUT_EMPTY [c.handle, 1] else s
      let roots := (compRoots (calLamps (s.obj? idx).param)).filter (fun r => !c.refused.contains r)
      let s := s.setComp idx { c with phase := 2, roots := roots }
      if roots.isEmpty then s.headerWritten idx else s.postAllRoots idx
    else if c.phase = 2 then s.headerWritten idx
    else s

def State.settleComps (s : State) : State := (s.fix.comps.map (·.1)).foldl State.settleComp s

/-- A leaf's lamps no longer wait: their calls are lost. A root that has run covers no leaf any more. -/
def State.dropLost (s : State) (idx : Nat) : State :=
  match s.comp? idx with
  | none => s
  | some c =>
    let live : List CallRec := s.cb.queue ++ (s.cb.held.map (·.2)).filter (fun r => r.word.children = 0 ∨ ¬ r.ran)
    let there : Nat × Nat → Bool := fun r => live.any (fun x => x.word.kind = kCalCompile ∧ x.word.arg0 = c.handle ∧
      x.word.arg1 ≤ r.1 ∧ r.1 + r.2 ≤ x.word.arg1 + x.word.arg2)
    if c.todo.all there then s
    else s.setComp idx { c with todo := c.todo.filter there, partial_ := true }

/-- After engines have left: compiles whose calls are lost, and frames, go on (R115, R205). -/
def State.afterLoss (s : State) : State :=
  ((((s.fix.comps.map (·.1)).foldl State.dropLost s).settleComps).advanceAll).pruneGone

/-- The bytes of a lamp's binning data in a `CALSTORE` (R200). -/
def binCws (o : Obj) (l : Nat) : List Nat :=
  objCws o.sram o.pages (6 * calEmitters o.param * l) (6 * calEmitters o.param)

def State.lampData (s : State) (o : Obj) (l : Nat) : List EmitData :=
  let e := calEmitters o.param
  (List.range e).map (fun i =>
    let b := s.objBytes o (6 * (l * e + i)) 6
    (f16 (fieldAt b 0 2), f16 (fieldAt b 2 2), f16 (fieldAt b 4 2)))

/-- What a leaf, named by its first lamp, finds grows. -/
def State.updLeaf (s : State) (idx leaf : Nat) (f : LeafRes → LeafRes) : State :=
  match s.comp? idx with
  | none => s
  | some c => s.setComp idx { c with found := c.found.modify leafNone leaf f }

/-- Phase A of one lamp: its record goes to the inactive bank, and its bound on σ to the leaf's findings. -/
def State.leafA (s : State) (idx leaf l : Nat) (bad : List Nat) : State :=
  let o := s.obj? idx
  let bank := 1 - (s.cal idx).bank
  let poisoned := (binCws o l).any (bad.contains ·)
  let es := s.lampData o l
  let e := calEmitters o.param
  let rec_ := if poisoned then zeros (calRecord e) else compileRecord es
  let inv := poisoned || lampInvalid es
  let s := (List.range rec_.length).foldl (fun s k => s.writeMem (recordPlace o bank l k) [rec_.getD k 0]) s
  let lim := decide (3 ≤ e) && !inv
  s.updLeaf idx leaf (fun x => { x with
    invalid := x.invalid + b2n inv
    ok709 := if lim then x.ok709 &&& sigmaMask false (recordK e rec_) (recordShift e rec_) else x.ok709
    ok2020 := if lim then x.ok2020 &&& sigmaMask true (recordK e rec_) (recordShift e rec_) else x.ok2020 })

/-- Phase B of one lamp: its contribution to L. -/
def State.leafB (s : State) (idx leaf l : Nat) : State :=
  match s.comp? idx with
  | none => s
  | some c =>
    let o := s.obj? idx
    let bank := 1 - (s.cal idx).bank
    let e := calEmitters o.param
    let r := (List.range (calRecord e)).map (fun k => s.mem.byte (recordPlace o bank l k))
    s.updLeaf idx leaf (fun x => { x with
      l709 := optMin x.l709 (lampL false (recordK e r) (recordShift e r) (sigmaBest c.ok709))
      l2020 := optMin x.l2020 (lampL true (recordK e r) (recordShift e r) (sigmaBest c.ok2020)) })

/-- A leaf call runs over its lamps; what an earlier run of it found is put aside. -/
def State.runLeaf (s : State) (idx : Nat) (w : CallWord) : State :=
  let o := s.obj? idx
  let lamps := (List.range w.arg2).map (w.arg1 + ·)
  let s := s.updLeaf idx w.arg1 (fun _ => leafNone)
  if bit w.arg3 0 then lamps.foldl (fun s l => s.leafB idx w.arg1 l) s
  else
    let r := s.consumeAll ((lamps.flatMap (binCws o)).dedup)
    lamps.foldl (fun s l => s.leafA idx w.arg1 l r.2) r.1

/-- A compile call runs: a root with children posts its leaves, a leaf works on its lamps. -/
def State.runCompile (s : State) (n : Nat) : State :=
  match s.toRun (.fe n) kCalCompile with
  | none => s
  | some r =>
    let idx := handleIdx r.word.arg0
    match s.comp? idx with
    | none => s.markRan (.fe n)
    | some c =>
      if c.handle ≠ r.word.arg0 ∨ c.phase ≠ r.word.arg3 % 2 + 1 then s.markRan (.fe n)
      else if r.word.children = 0 then (s.runLeaf idx r.word).markRan (.fe n)
      else ((rootLeaves (r.word.arg1, r.word.arg2)).foldl (fun s l =>
        (s.cbChild (.fe n) (s.compWord idx c l true) 0).1) s).markRan (.fe n)

/-- What a leaf has found becomes the compile's. -/
def CompSt.take (c : CompSt) (leaf : Nat) : CompSt :=
  let x := c.found.get leafNone leaf
  { c with found := c.found.erase leaf, ok709 := c.ok709 &&& x.ok709, ok2020 := c.ok2020 &&& x.ok2020
           l709 := optMin c.l709 x.l709, l2020 := optMin c.l2020 x.l2020, invalid := c.invalid + x.invalid }

/-- A leaf's call retires. -/
def State.leafRetired (s : State) (w : CallWord) : State :=
  let idx := handleIdx w.arg0
  match s.comp? idx with
  | none => s
  | some c =>
    if c.handle ≠ w.arg0 ∨ w.children ≠ 0 ∨ c.phase ≠ w.arg3 % 2 + 1 then s
    else (s.setComp idx { c.take w.arg1 with todo := c.todo.filter (· ≠ (w.arg1, w.arg2)) }).settleComp idx

/-- A finished compile's bank becomes current with a frame (R204 step 6); a held request then starts. -/
def State.finishComp (s : State) (seq idx : Nat) : State :=
  match s.comp? idx with
  | none => s
  | some c =>
    let h := c.header
    let s := s.setCal idx ⟨1 - (s.cal idx).bank, true, c.stale, c.partial_, c.invalid, fieldAt h 0 4, fieldAt h 4 4, fieldAt h 8 4,
      fieldAt h 12 4⟩
    let s := s.raise Src.fix E.CAL_DONE [c.handle, c.invalid, b2n c.stale + 2 * b2n c.partial_, seq]
    if c.again then (s.startComp idx c.handle c.mseqNext).postAllRoots idx else s.dropComp idx

/-- The Blocking Unit takes the oldest handed call (R204 step 1, R205), and posts roots that still wait. -/
def State.takeCompile (s : State) : State :=
  match s.cb.handed with
  | r :: rest =>
    let s := { s with cb := { s.cb with handed := rest } }
    let idx := handleIdx r.word.arg0
    if !s.live r.word.arg0 then s
    else match s.comp? idx with
      | some c => s.setComp idx { c with again := true, mseqNext := r.word.arg1 }
      | none => (s.startComp idx r.word.arg0 r.word.arg1).postAllRoots idx
  | [] => (s.fix.comps.map (·.1)).foldl State.postAllRoots s

/-! ### Frame start (R121, R56, R204, R336) -/

/-- A mirrored activation is due in the frame: the list of its messages is empty, or the last of them is listed. -/
def FrameRec.admits (f : FrameRec) (mseqs : List Nat) : Bool :=
  match f.acts, mseqs.getLast? with
  | some l, some m => l.contains m
  | _, _ => true

/-- Finished copies and compiled banks become current. -/
def State.activate (s : State) (f : FrameRec) : State :=
  let s := (s.obj.objs.map (·.1)).foldl (fun s idx =>
    match (s.obj? idx).shadow with
    | some sh => if sh.open_ = 0 ∧ f.admits sh.mseqs then (s.activateShadow idx).takeShadowVerdict idx else s
    | none => s) s
  (s.fix.comps.map (·.1)).foldl (fun s idx =>
    match s.comp? idx with
    | some c => if c.phase = 3 ∧ f.admits (if c.mseq = 0 then [] else [c.mseq]) then s.finishComp f.seq idx else s
    | none => s) s

/-- Pseudo-channels whose retired pages reach the limit fail at the sample (R133). -/
def State.samplePcs (s : State) : State :=
  (List.range 32).foldl (fun s pc =>
    if s.pcUp pc && decide (0 < s.pcRetired pc) && decide (s.fld F.OBJ_SCRUB.PC_FAIL_PAGES ≤ s.pcRetired pc)
    then s.clearHealth 2 pc hcPcFail else s) s

/-- Gains and scales given by a `STATE` take the place of the part's own. -/
def State.takeGiven (s : State) (f : FrameRec) : State :=
  match f.given with
  | none => s
  | some m => (List.range 96).foldl (fun s n =>
      (s.setFld (F.FIX_FEED_GAIN.GAIN n) (m.get 0x3F800000 (128 + n))).setFld (F.FIX_FEED_SCALE.SCALE n) (m.get 0x3F800000 n)) s

/-- A class without an engine in the plan is told once, until it has one again (R135). -/
def State.noteNoEngine (s : State) (re fe : Bool) : State :=
  let s := if re && !s.blk.noReTold then s.raise Src.blocking E.BLK_NO_ENGINE [clsRE] else s
  let s := if fe && !s.blk.noFeTold then s.raise Src.blocking E.BLK_NO_ENGINE [clsFE] else s
  s.setBlk { s.blk with noReTold := re, noFeTold := fe }

/-- A broken pin is counted and told (R132). -/
def State.noteBroken (s : State) (i : Item) : State :=
  if bit i.flags 4 then
    (s.bump F.BLK_PIN_BROKEN_CNT.COUNT).raise Src.blocking E.PIN_BROKEN [if i.render then tileCanvas i.num else i.num / 1024]
  else s

/-- A new chunk size renumbers the fixture items (R120). DESIGN CHOICE (assumption 176): the bank pointers stay by item number. -/
def State.takeChunk (s : State) : State :=
  let n := s.fld F.BLK_FE_CHUNK.LAMPS
  if n = s.blk.chunk then s
  else s.setBlk { s.blk with chunk := n, hist := s.blk.hist.filter (fun e => decide (e.1 < 2 ^ 24)) }

/-- The inputs of a frame's plan. -/
def State.planInputs (s : State) (f : FrameRec) (render : Bool) : List PlanIn :=
  let c := f.cfg
  let ns := if render then s.frameTiles f else c.chunkItems s.blk.chunk ++ c.rangeItems
  (ns.foldl (fun l n => insertAsc n l) []).map (s.planIn c s.blk.chunk render)

/-- The plan of a frame, from the state at its sample: the frame's record and the unit's memory of it. -/
def State.planFrame (s : State) (seq : Nat) (f : FrameRec) : State :=
  let ri := s.planInputs f true
  let fi := s.planInputs f false
  let res := s.planEngines true
  let fes := s.planEngines false
  let re := planClass s true res ri
  let fe := planClass s false fes fi
  let noRe := res.isEmpty && !ri.isEmpty
  let s := s.noteNoEngine res.isEmpty fes.isEmpty
  let plan := re.2 ++ fe.2
  let s := plan.foldl State.notePlan ((plan.foldl State.noteBroken s).noteAbsent plan)
  let eclk := s.freeVal % 21334
  let s := s.freeStep
  let s := s.updFrame seq (fun f => { f with planned := true, plan := plan, chunk := s.blk.chunk, phase := 1, abandoned := f.abandoned || noRe || fes.isEmpty })
  let s := s.setBlk { s.blk with bytesPrev := s.blk.evacDone + s.blk.migDone, evacDone := 0, migDone := 0 }
  let s := (s.setBlk { s.blk with waitEvac := s.evacList, waitMig := s.candidates f.cfg s.blk.chunk plan }).pumpMoves
  let s := s.setBlk { s.blk with report := s.placementReport seq eclk re fe f.cfg s.blk.chunk, parkReq := none }
  let s := (s.parkDecision f re fe ri fi).takePark
  let s := (s.setRv R.BLK_LAST_FRAME seq).setFld F.BLK_PLAN_TIME.ECLK eclk
  let s := s.setFld F.BLK_PLAN_MAX.ECLK (max eclk (s.fld F.BLK_PLAN_MAX.ECLK))
  (s.setFld F.BLK_ITEMS.COUNT plan.length).advanceFrame seq

/-- The Blocking Unit runs the `FRAME_START` call that it holds, and issues its standby. -/
def State.frameStart (s : State) : State :=
  match s.heldCall .blk with
  | none => s
  | some r =>
    if r.word.kind ≠ kFrameStart then s
    else
      let seq := r.word.frame
      let t := match s.frame? seq with
        | none => s
        | some f =>
          if f.planned then s
          else
            let s := ((s.samplePcs.topUpReserved).takeVerdicts).activate f
            let s := (s.takeGains.takeGiven f).takeChunk
            let s := s.updFrame seq (fun f => { f with scales := s.gainMap
                                                       snap := ⟨s.obj.objs, s.cmp.tiles, s.fix.checks, s.fix.cal, s.rv R.CMP_CTRL⟩ })
            s.planFrame seq f
      ((t.retire .blk).wait .blk).dispatchAll

end Sys2Proof.Machine
end

