-- ==== Sys2Proof/Machine/Blocks.lean ====
section
/-! DEFINITION. 66-bit blocks, their scrambling and striping over the lanes, the block form of a link frame and its check (R238 to R241),
block lock (R239), lane test patterns (R283), and the choice of a calibration run (R274). -/

namespace Sys2Proof

open Machine

/-! ### Blocks (R238, R239) -/

/-- A data block: sync header 0b01, eight payload bytes, zero bytes after the last (R240). -/
def dataBlock (b : List Byte) : Block := ⟨1, BitVec.ofNat 64 (leNat b)⟩
/-- A control block: sync header 0b10, its type in byte 0, then up to seven bytes. -/
def controlBlock (type : Nat) (b : List Byte) : Block := ⟨2, BitVec.ofNat 64 (type + 256 * leNat b)⟩

def btIdle : Nat := 0x1E
def btStart : Nat := 0x78
def btTerm : Nat := 0xE1
def btAbort : Nat := 0x55
def btAlign : Nat := 0x2D

def Block.byte (x : Block) (k : Nat) : Nat := bits x.payload.toNat (8 * k) 8
def Block.isData (x : Block) : Bool := x.sync == 1
/-- A sync header of 0b01 or 0b10. -/
def syncValid (h : BitVec 2) : Bool := h == 1 || h == 2
/-- A block that is not invalid: a valid sync header, and a type of R239 in a control block. -/
def Block.valid (x : Block) : Bool :=
  x.isData || (x.sync == 2 && [btIdle, btStart, btTerm, btAbort, btAlign].contains (x.byte 0))
def Block.isControl (x : Block) (type : Nat) : Bool := x.sync == 2 && x.byte 0 == type

def idleBlock : Block := controlBlock btIdle []
def abortBlock : Block := controlBlock btAbort []
/-- An `ALIGN` block of a lane: flags [0] `DOWN_LOCK`, [1] `CLEAN`; the block counter; errors seen. -/
def alignBlock (lane flags counter errors : Nat) : Block :=
  controlBlock btAlign (leBytes 1 lane ++ leBytes 1 flags ++ leBytes 2 (counter % 65536) ++ leBytes 3 (min 0xFFFFFF errors))

/-- A lane's sync headers give block lock: the last 64 are valid (R239). -/
def headLock (h : List (BitVec 2)) : Bool := decide (64 ≤ h.length) && (h.drop (h.length - 64)).all syncValid
/-- A lane's blocks lose block lock: 16 of some 64 consecutive ones are invalid (R239). -/
def lockLost (x : List Block) : Bool :=
  (List.range (x.length + 1)).any (fun i => decide (16 ≤ (((x.drop i).take 64).filter (fun b => !b.valid)).length))

/-! ### A link frame as blocks (R240, R241) -/

/-- The CRC of a frame: over `START` bytes 1 to 7 and the payload. -/
def frameCrc (type claim lseq : Nat) (payload : List Byte) : Nat :=
  crc32c (leBytes 1 type ++ leBytes 2 claim ++ leBytes 2 lseq ++ leBytes 2 payload.length ++ payload)

def dataBlocks : Nat → List Byte → List Block
  | 0, _ => []
  | n + 1, b => dataBlock (b.take 8) :: dataBlocks n (b.drop 8)

/-- A frame: `START`, ⌈`LEN` ÷ 8⌉ data blocks, `TERM`. -/
def frameBlocks (type claim lseq : Nat) (payload : List Byte) : List Block :=
  controlBlock btStart (leBytes 1 type ++ leBytes 2 claim ++ leBytes 2 lseq ++ leBytes 2 payload.length) ::
    (dataBlocks ((payload.length + 7) / 8) payload ++ [controlBlock btTerm (leBytes 4 (frameCrc type claim lseq payload))])

/-- The lengths of an up message (R243, and R333 on a tandem link): least, greatest, and the unit it is a multiple of. -/
def upLength (tandem : Bool) (type : Nat) : Option (Nat × Nat × Nat) :=
  if type = 0x82 ∨ type = 0x86 then some (8, 8, 8)
  else if type = 0x85 then some (8, 264, 4)
  else if tandem then (if type = 0x91 then some (24, 24, 8) else if type = 0x92 then some (16, 16, 8) else if type = 0x93 then some (8, 8, 8) else none)
  else if type = 0x81 ∨ type = 0x84 then some (16, 16, 8)
  else if type = 0x83 then some (8, 64, 8)
  else none

/-- The lengths of a down message on a tandem link (R243, R333). -/
def downLength (type : Nat) : Option (Nat × Nat × Nat) :=
  if type = 0x05 then some (8, 264, 4)
  else if type = 0x06 then some (8, 8, 8)
  else if type = 0x11 then some (16, 4096, 8)
  else if type = 0x12 ∨ type = 0x14 then some (24, 4096, 8)
  else if type = 0x13 then some (808, 1832, 8)
  else none

def lengthFits (r : Option (Nat × Nat × Nat)) (len : Nat) : Bool :=
  match r with
  | some (lo, hi, m) => decide (lo ≤ len ∧ len ≤ hi) && len % m == 0
  | none => false

/-- A receiver discards the frame that these blocks begin with (R241); `lengths` is the table of the direction. Blocks that begin with
no `START` are none. -/
def frameBad (lengths : Nat → Option (Nat × Nat × Nat)) (x : List Block) : Bool :=
  match x with
  | [] => false
  | b :: rest =>
    if !b.isControl btStart then false
    else
      let type := b.byte 1
      let claim := b.byte 2 + 256 * b.byte 3
      let lseq := b.byte 4 + 256 * b.byte 5
      let len := b.byte 6 + 256 * b.byte 7
      let body := rest.takeWhile Block.isData
      match rest.drop body.length with
      | [] => false
      | t :: _ =>
        let payload := (body.flatMap (fun d => leBytes 8 d.payload.toNat)).take len
        !t.isControl btTerm || body.length != (len + 7) / 8 || !lengthFits (lengths type) len ||
          bits t.payload.toNat 8 32 != frameCrc type claim lseq payload

/-! ### Scrambling and striping (R238) -/

/-- n bits, at most 39, through the scrambler x^58 + x^39 + 1: the state is the last 58 bits sent, the oldest at bit 0. -/
def scrambleChunk (n st x : Nat) : Nat × Nat :=
  let c := (x ^^^ (st >>> 19) ^^^ st) % 2 ^ n
  (c, (st + c * 2 ^ 58) / 2 ^ n)

/-- A 64-bit payload through the scrambler, payload bit 0 first, with the state after it. -/
def scramble (st x : Nat) : Nat × Nat :=
  let a := scrambleChunk 39 st (x % 2 ^ 39)
  let b := scrambleChunk 25 a.2 (x / 2 ^ 39)
  (a.1 + b.1 * 2 ^ 39, b.2)

/-- The descrambler: its state is the last 58 bits received. -/
def descramble (st y : Nat) : Nat × Nat :=
  let w := st + y * 2 ^ 58
  ((y ^^^ (w >>> 19) ^^^ w) % 2 ^ 64, w / 2 ^ 64)

/-- Blocks as 66-bit words of one physical lane: the sync header, not scrambled, in bits 1 to 0, then the scrambled payload. -/
def laneWords : Nat → List Block → List Nat
  | _, [] => []
  | st, b :: rest => let r := scramble st b.payload.toNat; (b.sync.toNat + 4 * r.1) :: laneWords r.2 rest

/-- The blocks of a stream that go to logical lane x, where the first block goes to lane `first`. -/
def lanePart (first x : Nat) (bs : List Block) : List Block :=
  (bs.zipIdx).filterMap (fun b => if (first + b.2) % 2 = x then some b.1 else none)

/-! ### Lane test patterns (R283) -/

/-- The taps of a PRBS by pattern code. -/
def prbsTaps (sel : Nat) : Nat × Nat :=
  if sel = 0 then (7, 6) else if sel = 1 then (9, 5) else if sel = 2 then (15, 14) else if sel = 3 then (23, 18) else (31, 28)

/-- The next bit of a PRBS after the bits sent so far, newest first. -/
def prbsNext (sel : Nat) (sent : List Bool) : Bool :=
  xor (sent.getD ((prbsTaps sel).1 - 1) false) (sent.getD ((prbsTaps sel).2 - 1) false)

/-- Bit i of the `USER` pattern, repeated with bit 0 first. -/
def userBit (user i : Nat) : Bool := bit user (i % 64)

/-! ### A calibration run (R274) -/

/-- The combination with the largest eye: ties go to the lower peaking code, then the lower gain. -/
def LaneRun.best (r : LaneRun) : Nat :=
  ((r.eye.zipIdx).foldl (fun (a : Nat × Nat) x => if a.1 < x.1 then (x.1, x.2) else a) (r.eye.headD 0, 0)).2

/-- Length of the span of open phases that begins at phase i. -/
def spanFrom (m i : Nat) : Nat := ((List.range 64).takeWhile (fun k => bit m ((i + k) % 64))).length

/-- The phases that are a centre of a widest open span: two where it has an even number of steps, more where spans tie, all where no
span begins. -/
def LaneRun.phases (r : LaneRun) : List Nat :=
  let m := r.opened.toNat
  let starts := (List.range 64).filter (fun i => bit m i && !bit m ((i + 63) % 64))
  if starts.isEmpty then List.range 64
  else
    let w := (starts.map (spanFrom m)).foldl max 0
    ((starts.filter (fun i => spanFrom m i = w)).flatMap (fun i => [(i + (w - 1) / 2) % 64, (i + w / 2) % 64])).dedup

/-- The settings of a run, as `CL_n_RXL_k_SETTINGS` lays them out, with a phase. -/
def LaneRun.settings (r : LaneRun) (phase : Nat) : Nat :=
  r.best / 16 + r.best % 16 * 2 ^ 5 + r.offset.toNat * 2 ^ 9 + phase * 2 ^ 16

end Sys2Proof
end

