-- ==== Sys2Proof/Machine/Link.lean ====
section
/-! DEFINITION. Cheane Links: framing, credits, training, delay, the requests on a node's registers (R235 to R271),
the lane map and calibration (R272 to R285), as shared operations over one link, 0 to 65. -/

namespace Sys2Proof.Machine

/-! ### States and fields -/

def lkDisabled : Nat := 0
def lkDetect : Nat := 1
def lkClock : Nat := 2
def lkAlign : Nat := 3
def lkReturn : Nat := 4
def lkDelay : Nat := 5
def lkIdent : Nat := 6
def lkActive : Nat := 7

def laneCalNone : LaneCal := ⟨[], false, [], none, 0, 0, 0, false⟩
def linkReset : LinkSt := ⟨0, 0, false, 0, [], [], 0, [], 0, 0, [], [], [], 0, [], [], false, laneCalNone, [], 0, []⟩

def State.link (s : State) (l : Nat) : LinkSt := s.links.get linkReset l
def State.setLink (s : State) (l : Nat) (x : LinkSt) : State := { s with links := s.links.put linkReset l x }
def State.updLink (s : State) (l : Nat) (f : LinkSt → LinkSt) : State := s.setLink l (f (s.link l))

def State.linkState (s : State) (l : Nat) : Nat := s.fld (F.CL_STATE.STATE l)
def State.linkActive (s : State) (l : Nat) : Bool := s.linkState l == lkActive

/-- The domain of a link (R24). -/
def linkDomain (l : Nat) : Domain := if l < 64 then .lq (Fin.ofNat 16 (l / 4)) else .core

/-- A link's hardware is powered and out of reset. -/
def State.linkUp (s : State) (l : Nat) : Bool := s.powered (linkDomain l) && s.evtUp && !s.absent (0x01000000 + l * 0x10000)

/-- The Curtain's selector puts the Curtain source on link l (R18). -/
def State.curtainOn (s : State) (l : Nat) : Bool := decide (l < 64) && bit (s.fld F.CUR_SEL_LINK.LINKS) l

/-! ### Lane roles (R272, R273, R280) -/

/-- Directions: 0 up, 1 down. -/
def dirUp : Nat := 0
def dirDown : Nat := 1

def markNone : Nat := 0
def markSuspect : Nat := 1
def markFailed : Nat := 2

def State.laneMark (s : State) (l dir k : Nat) : Nat :=
  if dir = dirUp then s.fld (F.CL_RXL_ROLE.MARK l k) else s.fld (F.CL_TXL_ROLE.MARK l k)
def State.setMark (s : State) (l dir k m : Nat) : State :=
  if dir = dirUp then s.setFld (F.CL_RXL_ROLE.MARK l k) m else s.setFld (F.CL_TXL_ROLE.MARK l k) m

/-- The Swing lane of a direction; 3 none. -/
def State.swingLane (s : State) (l dir : Nat) : Nat :=
  if dir = dirUp then s.fld (F.CL_LANE_MAP.RX_SWING l) else s.fld (F.CL_LANE_MAP.TX_SWING l)
def State.setSwing (s : State) (l dir k : Nat) : State :=
  if dir = dirUp then s.setFld (F.CL_LANE_MAP.RX_SWING l) k else s.setFld (F.CL_LANE_MAP.TX_SWING l) k

/-- The lane that carries logical lane x of the down direction. -/
def State.downLane (s : State) (l x : Nat) : Nat :=
  if x = 0 then s.fld (F.CL_LANE_MAP.TX_L0 l) else s.fld (F.CL_LANE_MAP.TX_L1 l)
def State.setDownLane (s : State) (l x k : Nat) : State :=
  if x = 0 then s.setFld (F.CL_LANE_MAP.TX_L0 l) k else s.setFld (F.CL_LANE_MAP.TX_L1 l) k

/-- `ROLE` of a physical lane: 0 L0, 1 L1, 2 Swing, 3 none. -/
def State.laneRole (s : State) (l dir k : Nat) : Nat :=
  if dir = dirUp then
    (if s.fld (F.CL_LANE_MAP.RX_L0 l) = k then 0 else if s.swingLane l dirUp = k then 2 else 3)
  else if s.downLane l 0 = k then 0 else if s.downLane l 1 = k then 1 else if s.swingLane l dirDown = k then 2 else 3

/-- The down map returns to its default on entry to `CLOCK` (R273); a marked lane is no Swing lane. -/
def State.defaultDown (s : State) (l : Nat) : State :=
  (((s.setDownLane l 0 0).setDownLane l 1 1).setFld (F.CL_LANE_MAP.TX_MIRROR l) 0).setSwing l dirDown
    (if s.laneMark l dirDown 2 = markNone then 2 else 3)

/-! ### What the lanes carry (R238, R257, R272, R283) -/

/-- The link is a tandem link on which this unit plays the node (R332, R442): it sends up. -/
def State.nodeSide (s : State) (l : Nat) : Bool := decide (64 ≤ l) && (s.understudy || s.romNode)

/-- The stream of TX lane k; a quad without power holds its lanes electrically idle (R432). The `ALIGN` counter's first value and the flags are the caller's. -/
def State.laneStream (s : State) (l k flags first : Nat) : LaneStream :=
  let st := s.linkState l
  if !s.powered (linkDomain l) then .idle
  else if s.nodeSide l then
    if 1 < k ∨ st < lkClock then .idle else if st = lkClock then .clock
    else if st < lkDelay then .align flags first else if k = 0 then .logical 0 else .mirror 0
  else if st = lkDisabled then
    (if s.flag (F.CL_TXL_GEN.EN l k) then
      .pattern (s.fld (F.CL_TXL_GEN.PATTERN l k)) (s.fld (F.CL_TXL_USER.PATTERN l k)) (s.flag (F.CL_TXL_GEN.LOOP l k) && decide (k < 2)) else .idle)
  else if st < lkAlign then .idle
  else if st < lkDelay then .align flags first
  else
    let role := s.laneRole l dirDown k
    if role < 2 then .logical role
    else if role = 2 ∧ s.laneMark l dirDown k = markNone then .mirror (s.fld (F.CL_LANE_MAP.TX_MIRROR l)) else .idleBlocks

/-- The forwarded clock runs: from `CLOCK` on, and in `DISABLED` while any generator is enabled. A node forwards none. -/
def State.clockRuns (s : State) (l : Nat) : Bool :=
  s.powered (linkDomain l) && !s.nodeSide l && (decide (lkClock ≤ s.linkState l) ||
    (s.linkState l == lkDisabled && (List.range 3).any (fun k => s.flag (F.CL_TXL_GEN.EN l k))))

/-- The streams of a link's lanes, and its clock. -/
def State.laneStreams (s : State) (l flags first : Nat) : List Sent :=
  (List.range 3).map (fun k => .lane l k (s.laneStream l k flags first)) ++ [.txClock l (s.clockRuns l)]

/-- The lanes of a link carry what their state gives. -/
def State.showLanes (s : State) (l : Nat) : State := { s with sent := s.sent ++ s.laneStreams l 0 0 }

/-- The lanes go over to `ALIGN` blocks; their counter's first value is open (R258). -/
def State.showAlign (s : State) (l flags : Nat) : State :=
  ({ s with sent := s.sent ++ s.laneStreams l flags (s.freeVal % 65536) }).freeStep

/-- The physical TX lanes that carry the block stream, each with its logical lane (R238, R272): down, L0, L1 and the mirror on an unmarked
Swing lane; up, L0 on both lanes. -/
def State.carriers (s : State) (l : Nat) : List (Nat × Nat) :=
  let sw := s.swingLane l dirDown
  [(s.downLane l 0, 0), (s.downLane l 1, 1)] ++
    (if sw < 3 ∧ s.laneMark l dirDown sw = markNone then [(sw, s.fld (F.CL_LANE_MAP.TX_MIRROR l))] else [])

/-- A run of blocks as the lanes carry it: striped over the logical lanes, scrambled on each physical lane (R238). The `IDLE` blocks before it
leave each scrambler's state and the logical lane of the first block open (assumption 181). -/
def State.blockWords (s : State) (l : Nat) (bs : List Block) : List Sent :=
  let n := (s.link l).runs
  let st : Nat → Nat := fun k => Config.laneState l k s.time.house n % 2 ^ 58
  if s.nodeSide l then [.laneBlocks l 0 (laneWords (st 0) bs), .laneBlocks l 1 (laneWords (st 1) bs)]
  else (s.carriers l).map (fun x => .laneBlocks l x.1 (laneWords (st x.1) (lanePart (st 3) x.2 bs)))

/-- A run of blocks departs. -/
def State.sendBlocks (s : State) (l : Nat) (bs : List Block) : State :=
  ({ s with sent := s.sent ++ s.blockWords l bs }).updLink l (fun x => { x with runs := x.runs + 1 })

/-- A link frame departs: its record, and its blocks (R240). -/
def State.sendFrame (s : State) (l type claim lseq : Nat) (payload : List Byte) : State :=
  (s.send (.linkFrame l type claim lseq payload)).sendBlocks l (frameBlocks type claim lseq payload)

/-! ### Sending (R240, R242, R245, R254) -/

def ltRegion : Nat := 0x01
def ltGo : Nat := 0x02
def ltTime : Nat := 0x03
def ltProfile : Nat := 0x04
def ltCfg : Nat := 0x05
def ltEcho : Nat := 0x06

/-- The claim of a show frame: 0 before `ACTIVE` (R258). A tandem link carries the unit's own claim. -/
def State.claimOn (s : State) (l : Nat) : Nat :=
  if s.linkActive l then (if l < 64 then s.fld (F.CL_CLAIM.OWN l) else s.fld F.TDM_CLAIM.CLAIM) else 0

/-- A frame of the show source departs; nothing does on an `ACTIVE` link while the selector carries the Curtain's stream. A link
trains during a drop (R361, assumption 62): the frames of its training depart. -/
def State.txFrame (s : State) (l type : Nat) (payload : List Byte) : State :=
  if s.curtainOn l && s.linkActive l then s
  else
    let x := s.link l
    ((s.sendFrame l type (s.claimOn l) x.txSeq payload).updLink l
      (fun x => { x with txSeq := (x.txSeq + 1) % 65536 })).bump (F.CL_TX_FRAME_CNT.COUNT l)

/-- Credits a buffered frame costs (R254). -/
def frameCost (payload : List Byte) : Nat := ceilDiv payload.length 512

def costSum (l : List (Nat × Nat)) : Nat := (l.map (·.2)).sum

/-- The credit registers follow the record of costs (R255). -/
def State.showCredits (s : State) (l : Nat) : State :=
  let out := costSum (s.link l).costs
  (s.setFld (F.CL_CRED_OUT.COUNT l) out).setFld (F.CL_CRED_HELD.COUNT l) (s.fld (F.CL_CRED_ADV.COUNT l) - out)

/-- A buffered frame may depart: its cost is covered in `ACTIVE`; before, one at a time (R254). -/
def State.mayBuffer (s : State) (l : Nat) (payload : List Byte) : Bool :=
  if s.linkActive l then decide (frameCost payload ≤ s.fld (F.CL_CRED_HELD.COUNT l)) && !s.curtainOn l
  else (s.linkState l == lkDelay || s.linkState l == lkIdent) && (s.link l).cfg.isEmpty

/-- A buffered frame departs: its cost is recorded against its `LSEQ`. -/
def State.txBuffered (s : State) (l type : Nat) (payload : List Byte) : State :=
  let n := (s.link l).txSeq
  let s := s.txFrame l type payload
  if s.linkActive l then (s.updLink l (fun x => { x with costs := x.costs ++ [(n, frameCost payload)] })).showCredits l
  else s

/-- A waiting frame may pass the Curtain's selector before `ACTIVE` (R18): only the training's own. -/
def State.passesDrop (s : State) (l : Nat) (w : TxWait) : Bool :=
  !s.curtainOn l || (match w.req with | some r => r.2 == .ident | none => false)

/-- The frames that wait depart in order while credits cover them; at most `n`. -/
def State.drainN (s : State) (l : Nat) : Nat → State
  | 0 => s
  | n + 1 =>
    match (s.link l).wait with
    | [] => s
    | w :: rest =>
      if s.mayBuffer l w.payload && s.passesDrop l w then
        let s := s.updLink l (fun x => { x with
          wait := rest, cfg := match w.req with | some r => x.cfg ++ [r] | none => x.cfg })
        State.drainN (s.txBuffered l w.type w.payload) l n
      else s

def State.drain (s : State) (l : Nat) : State := s.drainN l (s.link l).wait.length

/-- A buffered frame is sent as soon as it may be. -/
def State.txWait (s : State) (l : Nat) (w : TxWait) : State :=
  (s.updLink l (fun x => { x with wait := x.wait ++ [w] })).drain l

/-! ### Requests on a node's registers (R250, R278) -/

/-- The payload of a request: `OP`, `COUNT`, `TAG`, `ADDR`, and the words of a write. -/
def cfgPayload (write : Bool) (tag addr count : Nat) (words : List Nat) : List Byte :=
  leBytes 1 (b2n write) ++ leBytes 1 count ++ leBytes 2 tag ++ leBytes 4 addr ++ words.flatMap (leBytes 4)

/-- The map write of R273. -/
def CfgReq.isInitial : CfgReq → Bool
  | .laneMap true _ _ _ => true
  | _ => false

/-- A request of the mailbox. -/
def CfgReq.isMailbox : CfgReq → Bool
  | .mailbox _ => true
  | _ => false

/-- The `TAG` class of a requester (R278). -/
def CfgReq.tagBase : CfgReq → Nat
  | .laneMap _ _ _ _ | .laneCal => 0x8000
  | .funcClear _ | .elemClear _ _ _ => 0x4000
  | _ => 0

/-- A request is issued with the next tag of its class. -/
def State.cfgRequest (s : State) (l : Nat) (req : CfgReq) (write : Bool) (addr count : Nat) (words : List Nat) : State :=
  let tag := req.tagBase + (s.link l).tagNext % 0x4000
  (s.updLink l (fun x => { x with tagNext := x.tagNext + 1 })).txWait l
    ⟨ltCfg, cfgPayload write tag addr count words, some (tag, req)⟩

/-- The mailbox's request ends (R250): 0 `OK`, 1 `BAD_ADDR`, 2 `REFUSED`, 3 `TIMEOUT`. -/
def State.mailboxEnds (s : State) (l result : Nat) : State :=
  ((s.setFld (F.CL_CFG_STATUS.BUSY l) 0).setFld (F.CL_CFG_STATUS.DONE l) 1).setFld (F.CL_CFG_STATUS.RESULT l) result

/-! ### Calibration (R274 to R279) -/

def cpIdle : Nat := 0
def cpQualify : Nat := 1
def cpSwitch : Nat := 2
def cpRun : Nat := 3
def cpNodeWait : Nat := 4
def cpWaiting : Nat := 5

def State.calPhase (s : State) (l : Nat) : Nat := s.fld (F.CL_CAL_STATE.PHASE l)
def State.setCalPhase (s : State) (l p : Nat) : State := s.setFld (F.CL_CAL_STATE.PHASE l) p
def State.calDir (s : State) (l : Nat) : Nat := s.fld (F.CL_CAL_STATE.DIR l)
def State.calLane (s : State) (l : Nat) : Nat := s.fld (F.CL_CAL_STATE.LANE l)
def State.updCal (s : State) (l : Nat) (f : LaneCal → LaneCal) : State := s.updLink l (fun x => { x with cal := f x.cal })

/-- Physical lanes of a direction without a mark. -/
def State.goodLanes (s : State) (l dir : Nat) : List Nat :=
  (List.range (if dir = dirUp then 2 else 3)).filter (fun k => s.laneMark l dir k = markNone)

/-- `CAL_LAST` of a lane. -/
def State.calLast (s : State) (l dir k : Nat) : Nat :=
  if dir = dirUp then s.fld (F.CL_RXL_CAL_LAST.HOUSE l k) else s.fld (F.CL_TXL_CAL_LAST.HOUSE l k)

/-- Lane number of the Prompt Book (R462). -/
def pbkLane (l dir k : Nat) : Nat := 5 * l + (if dir = dirUp then 3 + k else k)

/-- A calibration is accepted: counted, with its house-clock value (R274). -/
def State.calAccepted (s : State) (l dir k : Nat) : State :=
  let s := { s with pbk := { s.pbk with cal := s.pbk.cal.modify 0 (pbkLane l dir k) (· + 1) } }
  if dir = dirUp then (s.bump (F.CL_RXL_CAL_COUNT.COUNT l k)).setFld (F.CL_RXL_CAL_LAST.HOUSE l k) s.time.house
  else (s.bump (F.CL_TXL_CAL_COUNT.COUNT l k)).setFld (F.CL_TXL_CAL_LAST.HOUSE l k) s.time.house
def State.calRejected (s : State) (l dir k : Nat) : State :=
  let s := { s with pbk := { s.pbk with calRej := s.pbk.calRej.modify 0 (pbkLane l dir k) (· + 1) } }
  if dir = dirUp then s.bump (F.CL_RXL_CAL_REJECT.COUNT l k) else s.bump (F.CL_TXL_CAL_REJECT.COUNT l k)

/-- Two runs agree (R274): settings as `CL_n_RXL_k_SETTINGS` lays them out. -/
def runsAgree (a b : Nat) : Bool :=
  let d := (bits a 16 6 + 64 - bits b 16 6) % 64
  decide (bits a 0 5 ≤ bits b 0 5 + 1 ∧ bits b 0 5 ≤ bits a 0 5 + 1) && (decide (d ≤ 2) || decide (62 ≤ d))

/-- The quad whose calibration unit a link uses. -/
def calQuad (l : Nat) : Nat := l / 4

/-- Another link of the quad is using the calibration unit. -/
def State.calUnitBusy (s : State) (l : Nat) : Bool :=
  (List.range 66).any (fun m => m != l && calQuad m == calQuad l && s.calPhase m == cpRun)

/-- The freed lane's runs begin, or wait for the quad's unit (R276). -/
def State.beginRuns (s : State) (l : Nat) : State :=
  (s.updCal l (fun c => { c with run1 := none })).setCalPhase l (if s.calUnitBusy l then cpWaiting else cpRun)

/-- The quad's unit goes to the waiting link of lowest number. -/
def State.serveQuad (s : State) (l : Nat) : State :=
  match (List.range 66).find? (fun m => calQuad m == calQuad l && s.calPhase m == cpWaiting && s.calDir m == dirUp) with
  | some m => if s.calUnitBusy m then s else s.setCalPhase m cpRun
  | none => s

/-- The lane a rotation frees (R276): of the lanes that carry traffic and are still to be calibrated, the one with the
oldest `CAL_LAST`, the lower number on a tie. -/
def State.toFree (s : State) (l dir : Nat) : Option Nat :=
  let traffic := if dir = dirUp then [s.fld (F.CL_LANE_MAP.RX_L0 l)] else [s.downLane l 0, s.downLane l 1]
  let c := ((List.range 3).filter (fun k => traffic.contains k && (s.link l).cal.left.contains (dir, k)))
  c.foldl (fun best k => match best with
    | none => some k
    | some b => if s.calLast l dir k < s.calLast l dir b then some k else best) none

/-- The logical lane that a down lane carries. -/
def State.logicalOf (s : State) (l k : Nat) : Nat := if s.downLane l 0 = k then 0 else 1

/-- The map write of a rotation (R278, step 2). -/
def State.sendLaneMap (s : State) (l : Nat) : State :=
  let q := s.calLane l
  let sw := s.swingLane l dirDown
  let l0 := if s.downLane l 0 = q then sw else s.downLane l 0
  let l1 := if s.downLane l 1 = q then sw else s.downLane l 1
  (s.setCalPhase l cpNodeWait).cfgRequest l (.laneMap false l0 l1 q) true 0x28 1 [l0 + l1 * 4 + q * 16]

/-- The calibration command of a rotation (R278, step 4). -/
def State.sendLaneCal (s : State) (l : Nat) : State :=
  (s.setCalPhase l cpNodeWait).cfgRequest l .laneCal true 0x2C 1 [s.calLane l]

/-- A down rotation begins (R278, step 1). -/
def State.beginDown (s : State) (l q : Nat) : State :=
  let x := s.logicalOf l q
  let s := ((s.setFld (F.CL_CAL_STATE.DIR l) dirDown).setFld (F.CL_CAL_STATE.LANE l) q).updCal l
    (fun c => { c with tries := 0, refusals := 0, deferred := 0 })
  if s.fld (F.CL_LANE_MAP.TX_MIRROR l) = x then s.sendLaneMap l
  else ((s.setFld (F.CL_LANE_MAP.TX_MIRROR l) x).send (.lane l (s.swingLane l dirDown) (.mirror x))).setCalPhase l cpWaiting

/-- An up rotation begins (R277, step 1), or the runs of a Swing lane to be calibrated on its own mirror. -/
def State.beginUp (s : State) (l q : Nat) : State :=
  let s := ((s.setFld (F.CL_CAL_STATE.DIR l) dirUp).setFld (F.CL_CAL_STATE.LANE l) q).updCal l
    (fun c => { c with tries := 0, refusals := 0, run1 := none })
  if s.fld (F.CL_LANE_MAP.RX_L0 l) = q then s.setCalPhase l cpQualify else s.beginRuns l

/-- Lanes to calibrate that are left in a direction. -/
def State.leftIn (s : State) (l dir : Nat) : List Nat :=
  ((s.link l).cal.left.filter (·.1 = dir)).map (·.2)

/-- A direction's lanes are left out of the running calibration; `cut` where one of them is unmarked. -/
def State.leaveOut (s : State) (l dir : Nat) : State :=
  let good := (s.leftIn l dir).any (fun k => s.laneMark l dir k == markNone)
  s.updCal l (fun c => { c with left := c.left.filter (·.1 ≠ dir), cut := c.cut || good })

/-- `CAL_NO_SWING` for a direction without a Swing lane that has lanes to calibrate (R279): its lanes are left. -/
def State.noSwing (s : State) (l dir : Nat) : State :=
  if s.swingLane l dir = 3 ∧ s.leftIn l dir ≠ [] then (s.leaveOut l dir).raise (Src.link l) E.CAL_NO_SWING []
  else s

/-- The calibration of a link ends (R275): `CAL_TEMP` takes the temperature after a link calibration that left no unmarked lane out. -/
def State.calEnds (s : State) (l : Nat) : State :=
  let wasLink := (s.link l).cal.link && !(s.link l).cal.cut
  let s := (((s.setCalPhase l cpIdle).setFld (F.CL_CAL_STATE.PENDING l) 0).updCal l
    (fun c => { c with left := [], link := false, run1 := none, tries := 0, refusals := 0, deferred := 0, cut := false }))
  if wasLink ∧ l < 64 then s.setFld (F.CL_CAL_TEMP.CAL_TEMP l) (s.fld (F.CL_CAL_TEMP.NOW l)) else s

/-- The next rotation, up before down (R276); with none left the calibration ends and a queued trigger starts. -/
def State.nextRotation (s : State) (l : Nat) : State :=
  let s := s.noSwing l dirUp
  match s.leftIn l dirUp with
  | k :: _ =>
    if (s.link l).cal.link then
      match s.toFree l dirUp with
      | some q => s.beginUp l q
      | none => s.beginUp l k
    else s.beginUp l k
  | [] =>
    let s := s.noSwing l dirDown
    match s.leftIn l dirDown with
    | _ :: _ =>
      match s.toFree l dirDown with
      | some q => s.beginDown l q
      | none => s.calEnds l
    | [] =>
      let s := s.calEnds l
      match (s.link l).cal.queued with
      | [] => s
      | k :: rest =>
        if s.swingLane l dirUp = 3 then
          (k :: rest).foldl (fun s _ => s.raise (Src.link l) E.CAL_NO_SWING []) (s.updCal l (fun c => { c with queued := [] }))
        else (s.updCal l (fun c => { c with left := [(dirUp, k)], queued := rest })).beginUp l k

/-- A link calibration is started or merged into the running one (R275, R276). -/
def State.linkCalibration (s : State) (l : Nat) : State :=
  if !s.linkActive l ∨ (s.link l).cal.link then s
  else if s.calPhase l ≠ cpIdle then
    let lanes := (s.goodLanes l dirUp).map (fun k => (dirUp, k)) ++ (s.goodLanes l dirDown).map (fun k => (dirDown, k))
    ((s.updCal l (fun c => { c with link := true, left := (c.left ++ lanes).dedup, cut := false })).setFld (F.CL_CAL_STATE.PENDING l) 1).noSwing
      l dirDown
  else
    let lanes := (s.goodLanes l dirUp).map (fun k => (dirUp, k)) ++ (s.goodLanes l dirDown).map (fun k => (dirDown, k))
    let s := (s.updCal l (fun c => { c with link := true, left := lanes, cut := false })).setFld (F.CL_CAL_STATE.PENDING l) 1
    ((s.noSwing l dirUp).noSwing l dirDown).nextRotation l

/-- An error-rate trigger of an up lane (R275, R276). -/
def State.errorTrigger (s : State) (l k : Nat) : State :=
  if !s.linkActive l ∨ s.laneMark l dirUp k ≠ markNone then s
  else if s.calPhase l ≠ cpIdle ∨ (s.link l).cal.link then
    if (s.link l).cal.left.contains (dirUp, k) ∨ (s.link l).cal.queued.contains k then s
    else s.updCal l (fun c => { c with queued := c.queued ++ [k] })
  else if s.swingLane l dirUp = 3 then s.raise (Src.link l) E.CAL_NO_SWING []
  else (s.updCal l (fun c => { c with left := [(dirUp, k)] })).beginUp l k

/-- The freed lane has been calibrated: it becomes the Swing lane, and the next rotation follows. -/
def State.laneCalibrated (s : State) (l : Nat) : State :=
  let dir := s.calDir l
  let q := s.calLane l
  ((((s.calAccepted l dir q).setSwing l dir q).updCal l
    (fun c => { c with left := c.left.filter (· ≠ (dir, q)) })).setCalPhase l cpIdle).nextRotation l

/-- The freed lane's fourth calibration disagrees (R279): it is `SUSPECT`, and its direction has no Swing lane. -/
def State.laneSuspect (s : State) (l : Nat) : State :=
  let dir := s.calDir l
  let q := s.calLane l
  (((((s.setMark l dir q markSuspect).setSwing l dir 3).raise (Src.link l) E.LANE_SUSPECT [l, dir, q]).leaveOut l dir).setCalPhase
    l cpIdle).nextRotation l

/-- A down rotation is abandoned with `CAL_ABORT` (R278); the down direction is left as it stands. -/
def State.calAbort (s : State) (l : Nat) : State :=
  (((s.raise (Src.link l) E.CAL_ABORT []).leaveOut l dirDown).setCalPhase l cpIdle).nextRotation l

/-- The link leaves `ACTIVE` during a rotation (R282): it is abandoned, and the calibration is dropped. A freed up lane is the
Swing lane again. -/
def State.dropCalibration (s : State) (l : Nat) : State :=
  let s := if s.calPhase l ≠ cpIdle ∧ s.calDir l = dirUp ∧ s.swingLane l dirUp = 3 ∧
      s.laneMark l dirUp (s.calLane l) = markNone ∧ s.fld (F.CL_LANE_MAP.RX_L0 l) ≠ s.calLane l
    then s.setSwing l dirUp (s.calLane l) else s
  ((((s.setCalPhase l cpIdle).setFld (F.CL_CAL_STATE.PENDING l) 0).setFld (F.CL_CAL_STATE.MAP_PENDING l) 0).updCal l
    (fun _ => laneCalNone)).serveQuad l

/-! ### Training (R257 to R259) -/

/-- Causes of `LINK_DOWN` in the model's own numbering: reset, disable, partner lost, block lock lost, credit, retrain. -/
def downReset : Nat := 0
def downDisable : Nat := 1
def downPartner : Nat := 2
def downLock : Nat := 3
def downCredit : Nat := 4
def downRetrain : Nat := 5

/-- What ends with a link's training or service: requests outstanding, frames that wait, credits, echo sets, the addresses served. -/
def State.linkClear (s : State) (l : Nat) : State :=
  let hadMail := (s.link l).cfg.any (·.2.isMailbox) || (s.link l).wait.any (fun w => match w.req with
    | some r => r.2.isMailbox
    | none => false)
  let s := s.updLink l (fun x => { x with
    rejects := 0, echoSent := 0, echoTags := [], echoVals := [], jumps := [], costs := [], wait := [], cfg := [] })
  let s := if hadMail then s.mailboxEnds l 3 else s
  let s := s.setFld (F.CL_STATE.ADDRS l) 0
  ((s.setFld (F.CL_CRED_ADV.COUNT l) 0).setFld (F.CL_CRED_HELD.COUNT l) 0).setFld (F.CL_CRED_OUT.COUNT l) 0

def pushReset : PushSt := ⟨[], none, false, [], false, []⟩
def State.push (s : State) (l : Nat) : PushSt := s.psh.get pushReset l
def State.updPush (s : State) (l : Nat) (f : PushSt → PushSt) : State :=
  { s with psh := s.psh.put pushReset l (f (s.push l)) }

def phIdle : Nat := 0
def phWalk : Nat := 1
def phAckWait : Nat := 2

/-- A pass has ended: a claim written meanwhile is taken over (R343). -/
def State.passEnds (s : State) (l : Nat) (ok : Bool) : State :=
  let s := s.updPush l (fun p => { p with pass := none })
  let s := (s.setFld (F.PSH_STATE.PHASE l) phIdle).setFld (F.PSH_STATE.LAST_OK l) (b2n ok)
  s.setFld (F.CL_CLAIM.OWN l) (s.fld F.TDM_CLAIM.CLAIM)

/-- A link's push pass goes on under R175: it sends nothing and waits for nothing, so it ends at once when its walk is over. -/
def State.skipPass (s : State) (l : Nat) : State :=
  match (s.push l).pass with
  | none => s.updPush l (fun p => { p with forget := true })
  | some p =>
    let s := (s.updFrame p.frame (fun f => { f with skipped := f.skipped ++ [l] })).setFld (F.PSH_STATE.SKIPPED l) 1
    let s := s.updPush l (fun x => { x with
      pass := some { p with skip := true, sendQ := [], waiting := [], failed := [] }, forget := true })
    if p.units.length ≤ p.next then s.passEnds l true else s

/-- A link leaves `ACTIVE` (R257): counted and reported; its push pass goes on under R175. -/
def State.leaveActive (s : State) (l cause : Nat) : State :=
  if s.linkActive l then
    (((s.dropCalibration l).skipPass l).bump (F.CL_DOWN_CNT.COUNT l)).raise (Src.link l) E.LINK_DOWN
      [Config.causeCode E.LINK_DOWN cause]
  else s

/-- A link enters a training state. -/
def State.setLinkState (s : State) (l st : Nat) : State := s.setFld (F.CL_STATE.STATE l) st

/-- `DETECT` (R257). -/
def State.toDetect (s : State) (l : Nat) : State :=
  (((s.linkClear l).setLinkState l lkDetect).updLink l (fun x => { x with absentTold := false })).showLanes l

/-- `DISABLED` (R257): H, D and the lane phases are cleared. -/
def State.toDisabled (s : State) (l cause : Nat) : State :=
  let s := (s.leaveActive l cause).linkClear l
  let s := (s.setFld (F.CL_DELAY.VALUE l) 0).setLinkState l lkDisabled
  let s := (s.setFld (F.CL_RXL_SETTINGS.PHASE l 0) 0).setFld (F.CL_RXL_SETTINGS.PHASE l 1) 0
  (s.updLink l (fun x => { x with fails := 0 })).showLanes l

/-- `CLOCK` (R257, R273). -/
def State.toClock (s : State) (l : Nat) : State :=
  (((s.linkClear l).setLinkState l lkClock).defaultDown l).showLanes l

/-- A training failure (R257). -/
def State.trainFail (s : State) (l : Nat) : State :=
  let st := s.linkState l
  ((((s.bump (F.CL_RETRY_CNT.COUNT l)).setFld (F.CL_STATE.LAST_FAIL l) st).updLink l
    (fun x => { x with fails := x.fails + 1 })).raise (Src.link l) E.LINK_TRAIN_FAIL [st]).toDetect l

/-- The one-way delay D in 2^−32 ns: 1/64 UI is 5,242,880 of them. -/
def State.delayU (s : State) (l : Nat) : Nat := s.fld (F.CL_DELAY.VALUE l) * 5242880

/-- A microsecond in 2^−32 ns. -/
def usU : Nat := 1000 * 2 ^ 32

/-- `LINK_MARGIN` in force, in µs: its default before a schedule runs. -/
def State.linkMargin (s : State) : Nat := if s.time.sched.running then s.time.sched.margin else Tm.margin (s.cfgApp.entry tTiming 0)

/-- `LINK_MARGIN_SHORT` (R264). -/
def State.marginCheck (s : State) (l : Nat) : State :=
  if s.linkActive l ∧ l < 64 ∧ s.linkMargin * usU ≤ s.delayU l + usU then
    s.raise (Src.link l) E.LINK_MARGIN_SHORT [l, s.fld (F.CL_DELAY.VALUE l)]
  else s

/-- The payload of a `TIME` (R248). -/
def State.timePayload (s : State) (l : Nat) : List Byte :=
  let t := (s.showNow + s.delayU l) % timeMod
  leBytes 8 (secOf t) ++ leBytes 4 (nsOf t) ++ leBytes 4 (fracOf t) ++ leBytes 8 s.showAddend ++
    leBytes 4 s.time.sched.num ++ leBytes 4 s.time.sched.den ++ leBytes 1 (s.fld (F.CL_CFG.HOLD l)) ++
    leBytes 1 (b2n (s.link l).jumped + 2 * b2n (!s.time.show_.locked)) ++ zeros 6

/-- A `TIME` departs, unless the unit's own claim is 0 (R340) or the Curtain's stream is on the link. -/
def State.sendTime (s : State) (l : Nat) : State :=
  if l < 64 ∧ (s.claimOn l = 0 ∨ s.curtainOn l) then s
  else (s.txFrame l ltTime (s.timePayload l)).updLink l (fun x => { x with jumped := false })

/-- The payload of a `PROFILE` (R249). -/
def State.profilePayload (s : State) (c : CfgTab) (surf : Nat) (enable : Bool) : List Byte :=
  let e := c.entry tSurface surf
  leBytes 2 (Sf.node e) ++ leBytes 2 surf ++ leBytes 2 (Sf.width e) ++ leBytes 2 (Sf.height e) ++
    leBytes 1 (s.surfaceEmitters e) ++ leBytes 1 (b2n enable) ++ zeros 6 ++ c.profileOf surf

/-- Enabled surfaces of a link. -/
def CfgTab.linkSurfaces (c : CfgTab) (l : Nat) : List Nat :=
  (c.entriesOf tSurface).filter (fun i => Sf.enable (c.entry tSurface i) && Sf.link (c.entry tSurface i) == l)

/-- `PROFILE` frames for the surfaces whose payload differs from the last one sent, and one with `ENABLE` = 0 for each surface
that has left the link (R249); `v` is the state that gives the emitters. -/
def State.sendProfiles (s v : State) (l : Nat) (c : CfgTab) : State :=
  if s.claimOn l = 0 then s
  else
  let on := c.linkSurfaces l
  let s := on.foldl (fun s i =>
    let p := v.profilePayload c i true
    if (s.link l).profiles.get [] i = p then s
    else (s.updLink l (fun x => { x with profiles := x.profiles.put [] i p })).txWait l ⟨ltProfile, p, none⟩) s
  let gone := ((s.link l).profiles.map (·.1)).filter (fun i => !on.contains i)
  gone.foldl (fun s i =>
    let p := ((s.link l).profiles.get [] i)
    (s.updLink l (fun x => { x with profiles := x.profiles.put [] i [] })).txWait l ⟨ltProfile, patch p 9 [0], none⟩) s

/-- A marked down lane at physical lane 0 or 1 (R273). -/
def State.misplaced (s : State) (l : Nat) : Option Nat :=
  ([0, 1] : List Nat).find? (fun k => s.laneMark l dirDown k ≠ markNone && s.laneMark l dirDown 2 = markNone &&
    (s.downLane l 0 = k || s.downLane l 1 = k))

/-- The map write that moves a marked lane to the Swing position (R273). -/
def State.sendInitialMap (s : State) (l : Nat) : State :=
  match s.misplaced l with
  | none => s
  | some q =>
    let l0 := if s.downLane l 0 = q then 2 else s.downLane l 0
    let l1 := if s.downLane l 1 = q then 2 else s.downLane l 1
    (s.setFld (F.CL_CAL_STATE.MAP_PENDING l) 1).cfgRequest l (.laneMap true l0 l1 q) true 0x28 1 [l0 + l1 * 4 + q * 16]

/-- `ACTIVE` (R259), with A credits; the link's units are forgotten before its next pass (R176). -/
def State.toActive (s : State) (l credits : Nat) : State :=
  let s := (s.setLinkState l lkActive).updLink l (fun x => { x with
    fails := 0, txSeq := 0, rxSeq := 0, costs := [], missing := [], profiles := [], jumps := [], echoVals := [],
    echoTags := [], echoSent := 0 })
  let s := s.updPush l (fun p => { p with forget := true })
  let s := ((s.setFld (F.CL_CRED_ADV.COUNT l) credits).showCredits l).raise (Src.link l) E.LINK_UP
    [s.fld (F.CL_NODE_ID.VALUE l), s.fld (F.CL_NODE_SERIAL.VALUE l), s.fld (F.CL_NODE_CAPS.VALUE l)]
  if l < 64 then
    let s := (s.setFld (F.CL_CAL_TEMP.CAL_TEMP l) (s.fld (F.CL_CAL_TEMP.NOW l))).sendTime l
    ((s.sendProfiles s l s.cfgApp).sendInitialMap l).marginCheck l
  else s.sendInitialMap l

/-! ### Receiving (R240, R241, R255) -/

/-- A valid up frame: counted, its `LSEQ` checked (outside the Curtain's claim range, R242), its claim kept. -/
def State.rxFrame (s : State) (l : Nat) (h : UpHdr) : State :=
  let s := s.bump (F.CL_RX_FRAME_CNT.COUNT l)
  let own := s.claimOn l
  let gained := decide (l < 64) && own != 0 && s.fld (F.CL_CLAIM.NODE l) != own && h.claim.toNat == own
  let s := if l < 64 then s.setFld (F.CL_CLAIM.NODE l) h.claim.toNat else s
  let s := if gained then s.updPush l (fun p => { p with pass := p.pass.map (fun x => { x with caught := true }) }) else s
  let s := if l < 64 then s.claimSeen l else s
  if 0xF000 ≤ h.claim.toNat then s
  else
    let s := if h.lseq.toNat = (s.link l).rxSeq then s else s.bump (F.CL_RX_GAP_CNT.COUNT l)
    s.updLink l (fun x => { x with rxSeq := (h.lseq.toNat + 1) % 65536 })

/-- A frame was sent after the one whose `LSEQ` is `seen`, where `next` is the next to send. -/
def sentAfter (seen next n : Nat) : Bool :=
  decide ((n + 65535 - seen) % 65536 < (next + 65535 - seen) % 65536)

/-- A `CREDIT` (R255). -/
def State.credit (s : State) (l seen : Nat) : State :=
  ((s.updLink l (fun x => { x with costs := x.costs.filter (fun c => sentAfter seen x.txSeq c.1) })).showCredits l).drain l

/-- The KX64 answers up frames from `DELAY` on. -/
def State.linkTalks (s : State) (l : Nat) : Bool := s.linkUp l && decide (lkDelay ≤ s.linkState l)

/-- Node addresses the node serves (`ADDRS`). -/
def State.nodeAddrs (s : State) (l : Nat) : Nat := s.fld (F.CL_STATE.ADDRS l)

/-! ### Delay (R260, R261) -/

/-- The mean of R_k ÷ 2 in 1/64 UI. -/
def echoMean (vals : List Int) : Rat := ((vals.foldl (· + ·) 0 : Int) : Rat) / ((2 * vals.length : Nat) : Rat)

/-- Spread of a set. -/
def echoSpread (vals : List Int) : Int := vals.foldl max (vals.headD 0) - vals.foldl min (vals.headD 0)

/-- D takes a value. -/
def State.setDelay (s : State) (l : Nat) (d : Rat) : State := s.setFld (F.CL_DELAY.VALUE l) (roundEven d).toNat

/-- A full set of 64 values in `DELAY` (R260). -/
def State.delaySet (s : State) (l : Nat) : State :=
  let v := (s.link l).echoVals
  let s := s.updLink l (fun x => { x with echoVals := [], echoTags := [], echoSent := 0 })
  if echoSpread v ≤ 64 then
    let s := ((s.setDelay l (echoMean v)).updLink l (fun x => { x with rejects := 0 })).setLinkState l lkIdent
    s.cfgRequest l .ident false 0 5 []
  else
    let n := (s.link l).rejects + 1
    if n = 3 then s.trainFail l else s.updLink l (fun x => { x with rejects := n })

/-- A full set of 16 values in `ACTIVE` (R261): 1 ns is 819.2 of 1/64 UI. -/
def State.trackSet (s : State) (l : Nat) : State :=
  let m := echoMean (s.link l).echoVals
  let d : Rat := (s.fld (F.CL_DELAY.VALUE l) : Nat)
  let s := s.updLink l (fun x => { x with echoVals := [], echoTags := [], echoSent := 0 })
  if ratAbs (m - d) ≤ 8192 / 10 then
    (s.setDelay l (d + (m - d) / 16)).updLink l (fun x => { x with jumps := [] })
  else
    let s := s.bump (F.CL_ECHO_REJECT_CNT.COUNT l)
    let j := (s.link l).jumps ++ [m]
    if j.length = 4 then
      ((s.setDelay l (j.foldl (· + ·) 0 / 4)).updLink l (fun x => { x with jumps := [] })).raise (Src.link l)
        E.DELAY_JUMP []
    else s.updLink l (fun x => { x with jumps := j })

end Sys2Proof.Machine
end

