-- ==== Sys2Proof/Machine/Lamp.lean ====
section
/-! DEFINITION. Lamp drive: failed elements, functions, and signal-string ports (R225 to R234, R367, R370). -/

namespace Sys2Proof.Machine

/-! ### Failed elements and functions (R228, R229, R253) -/

def resOk : Nat := 0
def resOpen : Nat := 1
def resShort : Nat := 2

/-- Failed elements, listed or not. -/
def State.failed (s : State) : List FailEnt := (s.lmp.fails.filterMap (·.2)) ++ s.lmp.lost

/-- Entries of the failed list in use (`LMP_FAILED_COUNT`). -/
def State.failedCount (s : State) : Nat := (s.lmp.fails.filter (fun e => e.2.isSome)).length

/-- An element without its result. -/
def FailEnt.same (a b : FailEnt) : Bool :=
  a.surface == b.surface && a.lamp == b.lamp && a.emitter == b.emitter && a.node == b.node && a.link == b.link &&
    a.port == b.port && a.pos == b.pos

/-- The function of a surface (R229): 255 none. DEDUCED (assumption 178): as the newest configuration that a frame has taken names it. -/
def State.funcOf (s : State) (surf : Nat) : Nat := Pf.func (s.cfgApp.profileOf surf)

/-- A function is off. -/
def State.funcIsOff (s : State) (f : Nat) : Bool := decide (f < 64) && bit (s.fld F.LMP_FUNC_OFF.FUNC) f

/-- The function of a failed element goes off. -/
def State.functionOff (s : State) (e : FailEnt) : State :=
  let f := s.funcOf e.surface
  if s.flag F.LMP_CTRL.FUNC_EN && decide (f < 64) && !s.funcIsOff f then
    (s.setFld F.LMP_FUNC_OFF.FUNC (s.fld F.LMP_FUNC_OFF.FUNC + 2 ^ f)).raise Src.lmp E.FUNC_OFF [f, e.surface, e.lamp, e.emitter]
  else s

/-- While an element of a function remains failed, its function goes off again (R229): after a write that brings functions into force, and
after a commit that gives a failed element a function. -/
def State.functionsAgain (s : State) : State := s.failed.foldl State.functionOff s

/-- An element enters the failed state: in the list, or counted as lost when the list is full; its function goes off. -/
def State.addFailed (s : State) (e : FailEnt) (source : Nat) : State :=
  if s.failed.any (fun x => FailEnt.same x e) then s
  else
    let s := match (List.range 1024).find? (fun i => (s.lmp.fails.get none i).isNone) with
      | some i => { s with lmp := { s.lmp with fails := s.lmp.fails.put none i (some e) } }
      | none => (({ s with lmp := { s.lmp with lost := s.lmp.lost ++ [e] } }).bump F.LMP_FAILED_LOST_CNT.COUNT).raise
          Src.lmp E.LMP_FAILED_FULL []
    (s.raise source E.LAMP_FAULT [e.surface, e.lamp, e.emitter, e.result]).functionOff e

/-- Failed elements leave the list. -/
def State.dropFailed (s : State) (p : FailEnt → Bool) : State :=
  { s with lmp := ⟨s.lmp.fails.filter (fun e => match e.2 with | some x => !p x | none => true), s.lmp.lost.filter (fun x => !p x)⟩ }

/-! ### Clears at nodes (R229, R269) -/

/-- The request that carries a clear to a link's node. -/
def State.sendClear (s : State) (l : Nat) (r : CfgReq) : State :=
  match r with
  | .funcClear f => s.cfgRequest l r true (if f < 32 then 0x14 else 0x18) 1 [2 ^ (f % 32)]
  | .elemClear surf lamp em => s.cfgRequest l r true 0x1C 2 [surf, lamp % 2 ^ 26 + em * 2 ^ 26 + 2 ^ 31]
  | _ => s

/-- A clear is sent at once on an `ACTIVE` link, and kept until its node answers `OK`. -/
def State.clearAtNode (s : State) (l : Nat) (r : CfgReq) : State :=
  let s := s.updLink l (fun x => { x with clears := x.clears.filter (· ≠ r) ++ [r] })
  if s.linkActive l then s.sendClear l r else s

/-- The clears that wait are sent again: at the start of a pass, and on entry to `ACTIVE`. -/
def State.sendClears (s : State) (l : Nat) : State :=
  let out := (s.link l).cfg.map (·.2) ++ (s.link l).wait.filterMap (fun w => w.req.map (·.2))
  ((s.link l).clears.filter (fun r => !out.contains r)).foldl (fun s r => s.sendClear l r) s

/-- Links that carry a surface whose profile names function f. -/
def CfgTab.funcLinks (c : CfgTab) (f : Nat) : List Nat :=
  ((c.liveSurfaces.filter (fun i => Pf.func (c.profileOf i) = f)).map (fun i => Sf.link (c.entry tSurface i))).dedup

/-- A write of 1 to bit f of `LMP_FUNC_OFF`: without effect while an element of the function is failed. -/
def State.clearFunc (s : State) (f : Nat) : State :=
  if !s.funcIsOff f || (s.flag F.LMP_CTRL.FUNC_EN && s.failed.any (fun e => s.funcOf e.surface = f)) then s
  else
    let s := s.setFld F.LMP_FUNC_OFF.FUNC (s.fld F.LMP_FUNC_OFF.FUNC - 2 ^ f)
    (s.cfgApp.funcLinks f).foldl (fun s l => s.clearAtNode l (.funcClear f)) s

/-! ### Signal-string ports: the elements of a port (R231) -/

def sigReset : SigSt := ⟨(0, 0), none, [], 0, 0, [], [], [], false, [], [], 0, 0⟩

def State.sigSt (s : State) (n : Nat) : SigSt := s.sig.get sigReset n
def State.setSig (s : State) (n : Nat) (x : SigSt) : State := { s with sig := s.sig.put sigReset n x }
def State.updSig (s : State) (n : Nat) (f : SigSt → SigSt) : State := s.setSig n (f (s.sigSt n))

def State.sigLength (s : State) (n : Nat) : Nat := s.fld (F.SIG_CFG.LENGTH n)
def State.sigFailed (s : State) (n p : Nat) : Bool := bit (s.fld (F.SIG_STATE.FAILED n)) p

/-- The element at a position: surface, lamp and emitter. -/
def SigFrame.element (x : SigFrame) (p : Nat) : Option (Nat × Nat × Nat) :=
  if x.base + p < x.count ∧ 0 < x.emitters then some (x.surf, (x.base + p) / x.emitters, (x.base + p) % x.emitters) else none

/-- The code that drives a position: 0 beyond the string or the surface. -/
def State.sigCode (s : State) (n p : Nat) : Nat :=
  match (s.sigSt n).cur with
  | some x => if p < s.sigLength n ∧ (x.element p).isSome then x.codes.getD p 0 else 0
  | none => 0

/-- A position is held off: failed, or its function is off. -/
def State.sigHeld (s : State) (n p : Nat) : Bool :=
  s.sigFailed n p || (match (s.sigSt n).cur with
    | some x => s.funcIsOff (Pf.func x.prof)
    | none => false)

/-- The Curtain drives the port. -/
def State.sigCurtain (s : State) (n : Nat) : Bool := bit (s.fld F.CUR_SEL_SIG.SIG) n

/-! ### Frames and periods (R225, R226, R227, R233) -/

/-- Slots of a test, and of the PWM part of a period. -/
def testSlots (prof : List Byte) : Nat := ceilDiv (Pf.tDiag prof) 680
def pwmSlots (prof : List Byte) : Nat := 2 ^ Pf.pwmBits prof - 1

/-- Periods in a frame, at the rate of the frame now presented. -/
def State.sigPeriods (s : State) (n : Nat) (prof : List Byte) : Nat :=
  let r := (s.sigSt n).rate
  (r.2 * 1000000000 - sigWindow prof * r.1) / (sigPeriod prof * r.1)

/-- The effective stride: at least 1. -/
def State.sigStride (s : State) (n : Nat) (prof : List Byte) : Nat :=
  let r := (s.sigSt n).rate
  let k := Pf.interval prof * 1000000 * s.sigPeriods n prof * r.1 / (s.sigLength n * r.2 * 1000000000)
  max 1 (min (Pf.stride prof) k)

/-- Positions in ascending order from a start, wrapping. -/
def fromPointer (len start : Nat) : List Nat := (List.range len).map (fun i => (start + i) % len)

/-- A period begins: its tests, and each position's PWM slots with what is borrowed and paid. -/
def State.beginPeriod (s : State) (n : Nat) : State :=
  match (s.sigSt n).cur with
  | none => s
  | some x =>
    let st := s.sigSt n
    let len := s.sigLength n
    let number := st.count + 1
    let diag := Pf.diag x.prof && s.flag F.LMP_CTRL.DIAG_EN
    let able : Nat → Bool := fun p => diag && decide (0 < s.sigCode n p) && !s.sigHeld n p
    let first := (List.range len).filter (fun p => st.firstDue.contains p && able p)
    let counted := decide (number % s.sigStride n x.prof = 0)
    let free : Nat → Bool := fun p => able p && !first.contains p
    let again := (List.range len).find? (fun p => free p && st.lastFail.get 0 p != 0)
    let byPtr := (fromPointer len (s.fld (F.SIG_STATE.POINTER n))).find? free
    let stride : List Nat := if counted then (again.or byPtr).toList else []
    let s := if counted && again.isNone then
        (match byPtr with | some p => s.setFld (F.SIG_STATE.POINTER n) ((p + 1) % len) | none => s) else s
    let tests := stride ++ first
    let t := testSlots x.prof
    let one : FMap Nat × FMap Nat × Nat → Nat → FMap Nat × FMap Nat × Nat := fun a p =>
      let on := if s.sigHeld n p then 0 else s.sigCode n p
      let debt := a.2.1.get 0 p
      if tests.contains p then
        (a.1.put 0 p (on - t), a.2.1.put 0 p (debt + (t - on)), a.2.2 + b2n (decide (on < t)))
      else
        let pay := min on debt
        (a.1.put 0 p (on - pay), a.2.1.put 0 p (debt - pay), a.2.2)
    let r := (List.range 16).foldl one ([], st.debt, 0)
    let s := s.bumpBy F.LMP_BORROW_CNT.COUNT r.2.2
    s.updSig n (fun y => { y with left := y.left - 1, count := number, running := true, pwm := r.1, debt := r.2.1, tests := tests, slot := 0,
                                  tslot := 0, firstDue := y.firstDue.filter (fun p => s.sigCode n p = 0 || s.sigHeld n p) })

/-- The signal-string surface that needs a port under a configuration. -/
def State.portSurface (s : State) (c : CfgTab) (n : Nat) : Option Nat := c.liveSurfaces.find? (fun i => (s.portsOf c i).contains n)

/-- A frame is presented: a port takes its rate, and drives nothing when no surface of the frame needs it (R231). -/
def State.portShows (s : State) (f : FrameRec) (n : Nat) : State :=
  let tm := f.cfg.entry tTiming 0
  let s := s.updSig n (fun y => { y with rate := (Tm.num tm, Tm.den tm) })
  if ((s.atSnap f).portSurface f.cfg n).isSome then s
  else s.updSig n (fun y => { y with
    cur := none, next := y.next.filter (fun x => decide (f.seq < x.frame)), left := 0, running := false, tests := [] })

/-- A frame is not presented: no port takes its codes. -/
def State.portForgets (s : State) (f : FrameRec) (n : Nat) : State :=
  s.updSig n (fun y => { y with next := y.next.filter (fun x => decide (x.frame ≠ f.seq)) })

/-- A frame reaches the ports: its presentation instant, or a jump that drops it. -/
def State.portsFollow (s : State) (f : FrameRec) (jumped : Bool) : State :=
  (List.range 16).foldl (fun s n => if jumped then s.portForgets f n else s.portShows f n) s

/-- The positions of a port keep their elements from one frame to the next. -/
def SigFrame.sameElements (x y : SigFrame) : Bool := x.surf == y.surf && x.base == y.base

/-- The codes of the frame now presented are taken over (R231, R234). An element new to its position begins without debt or test results
(R227). -/
def State.sigTake (s : State) (n : Nat) : State :=
  let st := s.sigSt n
  let seq := s.fld F.TIM_FRAME_SEQ.SEQ
  let ready := st.next.filter (fun x => decide (x.frame ≤ seq))
  let rest := st.next.filter (fun x => decide (seq < x.frame))
  match ready.getLast? with
  | none => s
  | some x =>
    let kept := match st.cur with | some y => x.sameElements y | none => false
    let old : Nat → Nat := fun p => if kept then s.sigCode n p else 0
    let s1 := s.updSig n (fun y => { y with cur := some x, next := rest, lastFail := if kept then y.lastFail else [] })
    let now : Nat → Nat := fun p => s1.sigCode n p
    let due := (List.range 16).filter (fun p => decide (0 < now p) && (old p == 0 || st.firstDue.contains p))
    let debt := (List.range 16).foldl (fun m p => if now p = 0 then FMap.put 0 m p 0 else m) (if kept then st.debt else [])
    let changed := match st.cur with | some y => y.prof != x.prof | none => true
    let s1 := s1.updSig n (fun y => { y with firstDue := due, debt := debt, count := if changed then 0 else y.count })
    if changed then s1.setFld (F.SIG_STATE.POINTER n) 0 else s1

/-- All switches closed, the current source released. -/
def State.sigClosed (s : State) (n : Nat) : State :=
  s.send (.sigWord n (if s.flag (F.SIG_CFG.BYP_POL n) then 0xFFFF else 0) false)

/-- A word with the given positions open goes out. -/
def State.sigOut (s : State) (n : Nat) (opened : List Nat) : State :=
  let closed := maskOf ((List.range 16).filter (fun p => !opened.contains p))
  s.send (.sigWord n (if s.flag (F.SIG_CFG.BYP_POL n) then closed else 0xFFFF - closed) true)

/-- A port on its way back to the show source returns at a presentation instant (R371). -/
def State.sigReturn (s : State) (n : Nat) : State :=
  if s.cur.retSig.contains n then
    ({ s with cur := { s.cur with retSig := s.cur.retSig.filter (· ≠ n) } }).setFld F.CUR_SEL_SIG.SIG
      (s.fld F.CUR_SEL_SIG.SIG - b2n (s.sigCurtain n) * 2 ^ n)
  else s

/-- A frame starts on a port: its codes, the check of the bypass switches with all closed and the source on, and its periods. -/
def State.sigFrame (s : State) (n : Nat) (sense : List SenseCode) : State :=
  if !s.flag (F.SIG_CFG.ENABLE n) || s.understudy then s
  else
    let s := s.sigTake n
    match (s.sigSt n).cur with
    | none => (s.updSig n (fun y => { y with left := 0, running := false })).setFld (F.SIG_STATE.ACTIVE n) 0
    | some x =>
      let s := if s.sigCurtain n then s else s.sigOut n []
      let s := match sense.head? with
        | none => s
        | some v =>
          if s.sigCurtain n then s
          else if s.fld (F.SIG_THRESH.SHORT n) < v.toNat then
            (s.setFld (F.SIG_STATE.BYPASS_FAULT n) 1).raise (Src.sig n) E.SIG_BYPASS_FAULT []
          else s.setFld (F.SIG_STATE.BYPASS_FAULT n) 0
      let k := s.sigPeriods n x.prof
      (s.updSig n (fun y => { y with left := k, running := false, tests := [] })).setFld (F.SIG_STATE.ACTIVE n) (b2n (decide (0 < k)))

/-! ### Slots (R228, R232, R370) -/

/-- The Curtain's pattern for a port (R367): `MODE`, `FLAGS`, `OPEN`, `FLASH_MS`. -/
def State.sigPattern (s : State) (n : Nat) : List Byte := s.curBytes (0x030B2000 + 8 * n) 8

/-- What the Curtain drives: the pattern's open positions, dark in every second half period of `FLASH`. -/
def State.curtainWord (s : State) (n : Nat) : State :=
  let b := s.sigPattern n
  let mode := fieldAt b 0 1
  let half := fieldAt b 4 2 * 800000
  let dark := mode == 0 || decide (2 < mode) || (bit (fieldAt b 1 1) 0 && s.fld (F.SIG_STATE.FAILED n) != 0) ||
    (mode == 2 && decide (0 < half) && decide ((s.time.house - s.fld F.CUR_LAST_DROP.HOUSE) / half % 2 = 1))
  if dark then s.sigClosed n
  else s.sigOut n ((List.range 16).filter (fun p => bit (fieldAt b 2 2) p && !s.sigFailed n p))

/-- A test of a position has its result (R228). -/
def State.testResult (s : State) (n p code : Nat) : State :=
  match (s.sigSt n).cur with
  | none => s
  | some x =>
    let res := if s.fld (F.SIG_THRESH.OPEN n) ≤ code then resOpen else if code ≤ s.fld (F.SIG_THRESH.SHORT n) then resShort else resOk
    let s := (s.bump (F.SIG_TEST_CNT.COUNT n)).bump F.LMP_TEST_CNT.COUNT
    let s := ((s.setFld (F.SIG_SENSE_LAST.CODE n) code).setFld (F.SIG_SENSE_LAST.POSITION n) p).setFld (F.SIG_SENSE_LAST.RESULT n) res
    let s := if res = resOk then s else s.bump F.LMP_FAIL_CNT.COUNT
    let last := (s.sigSt n).lastFail.get 0 p
    let s := s.updSig n (fun y => { y with lastFail := y.lastFail.put 0 p res })
    if res ≠ resOk ∧ last = res then
      match x.element p with
      | none => s
      | some (surf, lamp, em) =>
        (s.setFld (F.SIG_STATE.FAILED n) (s.fld (F.SIG_STATE.FAILED n) ||| 2 ^ p)).addFailed
          ⟨surf, lamp, em, res, false, 0, n, p⟩ (Src.sig n)
    else s

/-- A slot of a running period goes by: `sense` is what the converter reads in it. -/
def State.runSlot (s : State) (n : Nat) (x : SigFrame) (sense : Nat) : State :=
  let st := s.sigSt n
  if st.slot < pwmSlots x.prof then
    let opened := (List.range 16).filter (fun p => decide (st.slot < st.pwm.get 0 p) && !s.sigHeld n p)
    let s := s.sigOut n opened
    let last := decide (st.slot + 1 = pwmSlots x.prof) && st.tests.isEmpty
    s.updSig n (fun y => { y with slot := y.slot + 1, running := !last })
  else match st.tests with
    | [] => s.updSig n (fun y => { y with running := false })
    | p :: rest =>
      let s := s.sigOut n (if s.sigHeld n p then [] else [p])
      if st.tslot + 1 < testSlots x.prof then s.updSig n (fun y => { y with tslot := y.tslot + 1 })
      else
        let held := s.sigHeld n p
        let s := s.updSig n (fun y => { y with tslot := 0, tests := rest, running := !rest.isEmpty })
        if held then s else s.testResult n p sense

/-- A slot on a port: the Curtain's selector comes before every setting of the host (R18). An Understudy's ports it does not drive (R368). -/
def State.sigSlot (s : State) (n : Nat) (sense : Nat) : State :=
  if s.sigCurtain n then
    let s := s.updSig n (fun y => { y with tests := [], tslot := 0 })
    if s.understudy then s.sigClosed n else s.curtainWord n
  else if !s.flag (F.SIG_CFG.ENABLE n) || s.understudy then (s.sigClosed n).setFld (F.SIG_STATE.ACTIVE n) 0
  else
    let s := if !(s.sigSt n).running && decide (0 < (s.sigSt n).left) then s.beginPeriod n else s
    match (s.sigSt n).cur with
    | some x =>
      if (s.sigSt n).running then
        let s := s.runSlot n x sense
        s.setFld (F.SIG_STATE.ACTIVE n) (b2n ((s.sigSt n).running || decide (0 < (s.sigSt n).left)))
      else (s.sigClosed n).setFld (F.SIG_STATE.ACTIVE n) 0
    | none => (s.sigClosed n).setFld (F.SIG_STATE.ACTIVE n) 0

/-! ### Clears on ports (R228, R234) -/

/-- A position leaves the failed state, and is tested in its next period with a code above 0. -/
def State.clearPosition (s : State) (n p : Nat) : State :=
  if s.sigFailed n p then
    let s := s.setFld (F.SIG_STATE.FAILED n) (s.fld (F.SIG_STATE.FAILED n) - 2 ^ p)
    (s.updSig n (fun y => { y with lastFail := y.lastFail.put 0 p 0, firstDue := insertAsc p y.firstDue })).dropFailed
      (fun e => !e.node && e.port == n && e.pos == p)
  else s

def State.clearPositions (s : State) (n mask : Nat) : State :=
  ((List.range 16).filter (fun p => bit mask p)).foldl (fun s p => s.clearPosition n p) s

/-- `LMP_FAILED_CLEAR` (R229). -/
def State.clearEntry (s : State) (index : Nat) : State :=
  match s.lmp.fails.get none index with
  | none => s
  | some e =>
    if e.node then (s.dropFailed (fun x => x == e)).clearAtNode e.link (.elemClear e.surface e.lamp e.emitter)
    else s.clearPosition e.port e.pos

/-! ### The commands -/

def execSigFrameStart (port : Ix16) (sense : List SenseCode) (s : State) : Host.Outcome State Fault Refusal :=
  s.done (s.when s.evtUp ((s.sigReturn port).sigFrame port sense))

def execSigSlot (port : Ix16) (sense : SenseCode) (s : State) : Host.Outcome State Fault Refusal :=
  s.done (s.when s.evtUp (s.sigSlot port sense.toNat))

def State.clearFuncs (s : State) (mask : Nat) : State :=
  ((List.range 64).filter (fun f => bit mask f)).foldl State.clearFunc s

def execLmpFuncOffClear (mask : BitVec 64) (s : State) : Host.Outcome State Fault Refusal :=
  s.done (s.when s.evtUp (s.clearFuncs mask.toNat))

def execLmpFailedClear (index : BitVec 10) (s : State) : Host.Outcome State Fault Refusal :=
  s.done (s.when s.evtUp (s.clearEntry index.toNat))

def execSigClear (port : Ix16) (mask : BitVec 16) (s : State) : Host.Outcome State Fault Refusal :=
  s.done (s.when s.evtUp (s.clearPositions port mask.toNat))

/-- A node's `FAULT` (R253): in the failed list, with its function off. -/
def State.nodeFault (s : State) (l surf lamp em result : Nat) : State :=
  s.addFailed ⟨surf, lamp, em, result, true, l, 0, 0⟩ Src.lmp

def execFaultReceived (link : LinkIx) (hdr : UpHdr) (node surface : BitVec 16) (lamp : Word) (emitter result : Byte) (s : State) :
    Host.Outcome State Fault Refusal :=
  let _ := node
  s.done (s.when (s.linkTalks link)
    ((s.rxFrame link hdr).nodeFault link (surface.toNat % 4096) (lamp.toNat % 2 ^ 26) (emitter.toNat % 8) result.toNat))

end Sys2Proof.Machine
end

