-- ==== Sys2Proof/Machine/Push.lean ====
section
/-! DEFINITION. Region push and Spot windows (R162 to R184, R244 to R247, R344): as shared operations and commands. -/

namespace Sys2Proof.Machine

/-! ### Units (R162 to R165) -/

/-- A surface tile's key is its `ID`. -/
def tileKey (surf tx ty : Nat) : Nat := surf + tx * 2 ^ 12 + ty * 2 ^ 20
def blockKey (node blk : Nat) : Nat := 2 ^ 40 + node * 256 + blk
def isBlock (k : Nat) : Bool := decide (2 ^ 40 ≤ k)
def keySurf (k : Nat) : Nat := k % 4096
def keyTx (k : Nat) : Nat := k / 2 ^ 12 % 256
def keyTy (k : Nat) : Nat := k / 2 ^ 20 % 256
def keyBlock (k : Nat) : Nat := k % 256

/-- The node address of a unit. -/
def CfgTab.unitNode (c : CfgTab) (k : Nat) : Nat := if isBlock k then (k - 2 ^ 40) / 256 else Sf.node (c.entry tSurface (keySurf k))

/-- Fixture blocks of a link, in order. -/
def State.linkBlocks (v : State) (c : CfgTab) (l : Nat) : List Nat :=
  let es := (c.fixtures.map (fun i => c.entry tPatch i)).filter (fun e => Pt.route e == routeLink && Pt.routeA e == l)
  (es.flatMap (fun e => (List.range (v.footprint e)).map (fun k => blockKey (Pt.routeB e) ((Pt.start e + k) / 512)))).foldl
    (fun a k => insertAsc k a) []

/-- The units of a link in walk order (R162). -/
def State.walkUnits (v : State) (c : CfgTab) (l : Nat) : List Nat :=
  let surfs := c.linkSurfaces l
  let bands := surfs.foldl (fun m i => max m (ceilDiv (Sf.height (c.entry tSurface i)) 128)) 0
  ((List.range bands).flatMap (fun b => surfs.flatMap (fun i =>
    if b < ceilDiv (Sf.height (c.entry tSurface i)) 128 then
      (List.range (ceilDiv (Sf.width (c.entry tSurface i)) 128)).map (fun tx => tileKey i tx b)
    else []))) ++ v.linkBlocks c l

/-- The bank that holds a lamp's record of a frame. -/
def FrameRec.lampBank (f : FrameRec) (surf lamp : Nat) : Nat := f.banks.get 0 (surf * 1024 + lamp / f.chunk)

/-- The emitter count of a lamp: that of the `CALSTORE` its line uses in the frame (R163, R178). -/
def State.lampEmitters (s : State) (f : FrameRec) (surf lamp : Nat) : Nat :=
  (s.atSnap f).surfaceEmitters (f.lineEntry surf (lampUV (f.cfg.entry tSurface surf) lamp).2)

/-- The codes of a lamp as formatted (R163, R171, R229). -/
def State.lampCodes (s : State) (f : FrameRec) (funcOff surf lamp : Nat) : List Nat :=
  let r := s.driveRead surf lamp (f.lampBank surf lamp)
  let fn := Pf.func (f.cfg.profileOf surf)
  (List.range (s.lampEmitters f surf lamp)).map (fun i => if fn < 64 ∧ bit funcOff fn then 0 else driveCode r i)

/-- Lamps of a tile in raster order. -/
def tileLamps (e : List Byte) (tx ty : Nat) : List Nat :=
  let w := min 128 (Sf.width e - 128 * tx)
  let h := min 128 (Sf.height e - 128 * ty)
  (List.range h).flatMap (fun j => (List.range w).map (fun i => (128 * ty + j) * Sf.width e + 128 * tx + i))

/-- Formatted data of a unit (R163, R164). -/
def State.unitData (s : State) (f : FrameRec) (funcOff l k : Nat) : List Byte :=
  if isBlock k then padTo 512 (f.slots.get [] (2 ^ 20 + (l * 65536 + (k - 2 ^ 40) / 256) * 256 + keyBlock k))
  else
    let e := f.cfg.entry tSurface (keySurf k)
    (tileLamps e (keyTx k) (keyTy k)).flatMap (fun n => (s.lampCodes f funcOff (keySurf k) n).flatMap (leBytes 2))

/-- Poisoned codewords among the drive records of a unit (R171). -/
def State.unitPoison (s : State) (f : FrameRec) (k : Nat) : Nat :=
  if isBlock k then 0
  else
    let surf := keySurf k
    ((tileLamps (f.cfg.entry tSurface surf) (keyTx k) (keyTy k)).flatMap (fun n =>
      s.drivePoison surf n (f.lampBank surf n))).dedup.length

/-- The hash of a unit (R165). -/
def unitHash (b : List Byte) : Nat :=
  crcResult 64 (2 ^ 64 - 1) true (b.foldl (crcByte 64 0x42F0E1EBA9EA3693 true) (2 ^ 64 - 1))

/-! ### Forgetting (R176, R177) -/

def unitNone : UnitRec := ⟨none, none, 0⟩

def State.forgetUnits (s : State) (l : Nat) (p : Nat × UnitRec → Bool) : State :=
  (s.updPush l (fun x => { x with units := x.units.filter (fun u => !p u) })).bump (F.PSH_FORGET_CNT.COUNT l)

/-- The forgets that are due before the pass of a frame. -/
def State.takeForgets (s : State) (l seq : Nat) : State :=
  let p := s.push l
  let s := if p.forget then (s.forgetUnits l (fun _ => true)).updPush l (fun x => { x with forget := false }) else s
  let due := (p.forgetSurf.filter (fun x => decide (x.2 ≤ seq))).map (·.1)
  let s := due.dedup.foldl (fun s surf => s.forgetUnits l (fun u => !isBlock u.1 && keySurf u.1 == surf)) s
  s.updPush l (fun x => { x with forgetSurf := x.forgetSurf.filter (fun x => decide (seq < x.2)) })

/-- Surfaces that a whole-frame change makes a frame forget (R177): the entries and profiles before and after it. -/
def forgetsOf (old new : CfgTab) : List Nat :=
  let all := ((old.entriesOf tSurface) ++ (new.entriesOf tSurface)).dedup
  let whole : List Byte → List Byte := fun e =>
    [BitVec.ofNat 8 (b2n (Sf.enable e))] ++ slice e 3 5 ++ slice e 20 4
  all.filter (fun i =>
    whole (old.entry tSurface i) != whole (new.entry tSurface i) || old.profileOf i != new.profileOf i)

/-! ### Spot windows (R180 to R184) -/

/-- The clipped rectangle of a window: columns and rows. -/
def clipWindow (e : List Byte) (w h : Nat) : List Nat × List Nat :=
  ((List.range (min (Sp.w e) (w - Sp.x e))).map (Sp.x e + ·), (List.range (min (Sp.h e) (h - Sp.y e))).map (Sp.y e + ·))

/-- The bytes a surface window covers. -/
def State.surfaceWindow (s : State) (f : FrameRec) (funcOff : Nat) (e : List Byte) : List Byte :=
  let t := f.cfg.entry tSurface (Sp.target e)
  let r := clipWindow e (Sf.width t) (Sf.height t)
  r.2.flatMap (fun v => r.1.flatMap (fun u => (s.lampCodes f funcOff (Sp.target e) (v * Sf.width t + u)).flatMap (leBytes 2)))

/-- The units a surface window covers. -/
def windowUnits (c : CfgTab) (e : List Byte) : List Nat :=
  let t := c.entry tSurface (Sp.target e)
  let r := clipWindow e (Sf.width t) (Sf.height t)
  (r.2.map (· / 128)).dedup.flatMap (fun ty => (r.1.map (· / 128)).dedup.map (fun tx => tileKey (Sp.target e) tx ty))

/-- The bytes a canvas window covers: of the tiles as the frame wrote them back. -/
def State.canvasWindow (s : State) (f : FrameRec) (e : List Byte) : List Byte :=
  let cv := f.cfg.entry tCanvas (Sp.target e)
  let r := clipWindow e (Cv.width cv) (Cv.height cv)
  r.2.flatMap (fun y => r.1.flatMap (fun x =>
    let n := Sp.target e * 65536 + y / 128 * 256 + x / 128
    match f.snap.tiles.get none n, f.shots.get [] n with
    | none, _ => zeros 8
    | some t, [] => s.mem.bytesAt (t.place ((y % 128 * 128 + x % 128) * 8)) 8
    | some _, b => slice b ((y % 128 * 128 + x % 128) * 8) 8))

/-- CRC of a window's bytes: 0 for an empty one. -/
def windowCrc (b : List Byte) : Nat := if b.isEmpty then 0 else crc32c b

/-- A result enters the history of a window, newest first. -/
def State.pushHist (s : State) (w crc seq : Nat) : State :=
  let s := (List.range 7).foldl (fun s i => s.setRv (R.SPT_HIST w (7 - i)) (s.rv (R.SPT_HIST w (6 - i)))) s
  let s := s.setRv (R.SPT_HIST w 0) (crc + seq % 2 ^ 32 * 2 ^ 32)
  s.setFld (F.SPT_STATUS.HIST_COUNT w) (min 8 (s.fld (F.SPT_STATUS.HIST_COUNT w) + 1))

/-- A result of a window (R182); `dropped` says that its frame has been dropped already. -/
def State.spotResult (s : State) (w : Nat) (e : List Byte) (seq crc : Nat) (dropped : Bool) : State :=
  let s := ((s.setFld (F.SPT_STATUS.VALID w) 1).setRv (R.SPT_RESULT w) crc).setRv (R.SPT_FRAME w) seq
  let s := s.setFld (F.SPT_STATUS.DROPPED w) (b2n dropped)
  if Sp.capture e then s.pushHist w crc seq
  else if crc = Sp.expect e then s.setFld (F.SPT_STATUS.MATCH w) 1
  else
    let s := (s.setFld (F.SPT_STATUS.MATCH w) 0).setRv R.SPT_MISMATCH (s.rv R.SPT_MISMATCH ||| 2 ^ w)
    (s.bump (F.SPT_MISMATCH_CNT.COUNT w)).raise Src.psh E.SPOT_MISMATCH ([w] ++ words2 seq ++ [crc])

/-- A window without a result (R183). -/
def State.spotLost (s : State) (w : Nat) : State :=
  ((s.setRv R.SPT_INCOMPLETE (s.rv R.SPT_INCOMPLETE ||| 2 ^ w)).bump (F.SPT_INCOMPLETE_CNT.COUNT w)).raise Src.psh
    E.SPOT_INCOMPLETE []

/-- The entry of window w: from its table, or from the Curtain's memory (R180, R373). -/
def State.windowEntry (s : State) (c : CfgTab) (w : Nat) : List Byte :=
  if w < 48 then c.entry tSpot w else s.curBytes (0x03002000 + (w - 48) * 0x20) 32

/-- Windows 48 to 63 (R373). -/
def Sp.safeOnly (e : List Byte) : Bool := bit (fieldAt e 0 2) 3
def Sp.expectSafe (e : List Byte) : Nat := fieldAt e 12 4
def Sp.expectShow (e : List Byte) : Nat := fieldAt e 16 4

/-- A result of a Curtain window (R182, R373); `safe` while its link is on the Curtain source. One in `CAPTURE` mode is compared with
nothing. -/
def State.curtainResult (s : State) (w : Nat) (e : List Byte) (seq crc : Nat) (safe : Bool) : State :=
  let n := w - 48
  let want := if safe then Sp.expectSafe e else Sp.expectShow e
  let s := ((s.setFld (F.CUR_WIN_STATUS.VALID n) 1).setFld (F.CUR_WIN_RESULT.CRC n) crc).setFld (F.CUR_WIN_SEQ.SEQ n) seq
  let s := s.setFld (F.CUR_WIN_STATUS.SAFE n) (b2n safe)
  if Sp.capture e then s
  else if crc = want then s.setFld (F.CUR_WIN_STATUS.MATCH n) 1
  else
    let s := s.setFld (F.CUR_WIN_STATUS.MATCH n) 0
    let s := if safe then s.setFld F.CUR_STATE.LOOK_BAD 1 else s
    (s.bump (F.CUR_WIN_MISMATCH_CNT.COUNT n)).raise Src.curtain E.CUR_SPOT_MISMATCH ([w] ++ words2 seq ++ [crc])

/-- Surface windows that a link's walk serves. -/
def State.linkWindows (s : State) (c : CfgTab) (l : Nat) : List Nat :=
  (List.range 64).filter (fun w =>
    let e := s.windowEntry c w
    Sp.en e && !Sp.canvas e && (c.linkSurfaces l).contains (Sp.target e) && (decide (w < 48) || !Sp.safeOnly e))

/-! ### A pass begins (R169, R175) -/

/-- The frame whose pass a link begins next. -/
def State.nextPass (s : State) (l : Nat) : Option FrameRec :=
  match s.frames.find? (fun f => !f.begun.contains l && !f.abandoned && !f.sendPassed && f.phase != 5) with
  | some f => if f.phase = 4 then some f else none
  | none => none

/-- The pass runs under R175, also with claim 0 (R340). -/
def State.passSkips (s : State) (l : Nat) : Bool :=
  !s.linkActive l || s.curtainOn l || s.flag (F.CL_CAL_STATE.MAP_PENDING l) || s.claimOn l == 0

def State.passOf (s : State) (l : Nat) : Option PassSt := (s.push l).pass
def State.updPass (s : State) (l : Nat) (f : PassSt → PassSt) : State :=
  s.updPush l (fun p => { p with pass := p.pass.map f })

/-- The data of a unit goes into the send queue. -/
def newBuf (k : Nat) (data : List Byte) (retry : Bool) (retries : Nat) : UnitBuf := ⟨k, data, 0, retries, retry, false⟩

/-- The catch-up set is sent again after the walk (R344). -/
def State.catchStart (s : State) (l : Nat) : State :=
  match s.passOf l with
  | none => s
  | some p =>
    match s.frame? p.frame with
    | none => s
    | some f =>
      if p.caught ∧ p.catchUp.isNone ∧ !p.skip ∧ p.units.length ≤ p.next then
        let set := p.units.filter (fun k => p.unstored.contains k || p.failed.contains k || p.waiting.any (fun u => u.key = k))
        let bufs := set.map (fun k => newBuf k (s.unitData f p.funcOff l k) true 0)
        s.updPass l (fun p => { p with catchUp := some set, waiting := [], failed := [], sendQ := p.sendQ ++ bufs })
      else s

/-- A pass finishes when its walk is over and every send is acknowledged (R173, R344). -/
def State.passCheck (s : State) (l : Nat) : State :=
  let s := s.catchStart l
  match s.passOf l with
  | none => s
  | some p =>
    if p.next < p.units.length then s
    else if p.skip then s.passEnds l true
    else if p.sendQ.isEmpty && p.waiting.isEmpty && p.failed.isEmpty && (p.catchUp.getD []).isEmpty then
      ((s.updFrame p.frame (fun f => { f with finished := f.finished ++ [l] })).updPush l
        (fun x => { x with noAckTold := false })).passEnds l true
    else s.setFld (F.PSH_STATE.PHASE l) phAckWait

/-- Canvas windows have their results when the frame's passes begin (R181). -/
def State.canvasSpots (s : State) (f : FrameRec) : State :=
  if f.spotDone then s
  else
    let s := s.updFrame f.seq (fun x => { x with spotDone := true })
    (List.range 48).foldl (fun s w =>
      let e := f.cfg.entry tSpot w
      if Sp.en e && Sp.canvas e then s.spotResult w e f.seq (windowCrc (s.canvasWindow f e)) (!f.dropped.isEmpty) else s) s

/-- A result of a surface window of a pass. -/
def State.recordWindow (s : State) (f : FrameRec) (p : PassSt) (l w : Nat) : State :=
  let e := s.windowEntry f.cfg w
  let crc := windowCrc (s.surfaceWindow f p.funcOff e)
  if w < 48 then s.spotResult w e f.seq crc (f.dropped.contains l)
  else if p.skip then s else s.curtainResult w e f.seq crc false

/-- Windows whose units have all been walked have their results. -/
def State.walkWindows (s : State) (l : Nat) : State :=
  match s.passOf l with
  | none => s
  | some p =>
    match s.frame? p.frame with
    | none => s
    | some f =>
      let doneUnits := p.units.take p.next
      let due := (s.linkWindows f.cfg l).filter (fun w => !p.seen.contains w &&
        (windowUnits f.cfg (s.windowEntry f.cfg w)).all (fun k => doneUnits.contains k))
      (due.foldl (fun s w => s.recordWindow f p l w) s).updPass l (fun p => { p with seen := p.seen ++ due })

/-- Functions off in a pass: as the principal gave them, or as the register has them. -/
def State.passFuncOff (s : State) (f : FrameRec) : Nat := if f.given.isSome then f.funcOff else s.fld F.LMP_FUNC_OFF.FUNC

/-- A link's pass of a frame begins. -/
def State.beginPass (s : State) (l : Nat) (f : FrameRec) : State :=
  let s := s.takeForgets l f.seq
  let skip := s.passSkips l
  let units := (s.atSnap f).walkUnits f.cfg l
  let t := units.length
  let rf := Ps.refresh (f.cfg.entry tPush l)
  let n := if rf = 0 then 0 else ceilDiv t rf
  let s := s.setFld (F.PSH_SWEEP.COUNT l) (if t = 0 then 0 else s.fld (F.PSH_SWEEP.COUNT l) % t)
  let first := s.fld (F.PSH_SWEEP.COUNT l)
  let s := ((s.setFld (F.PSH_UNITS.COUNT l) t).setFld (F.PSH_DIRTY.COUNT l) 0).setFld (F.PSH_STATE.SKIPPED l) (b2n skip)
  let s := (s.setFld (F.PSH_STATE.PHASE l) phWalk).updFrame f.seq (fun x =>
    { x with begun := x.begun ++ [l], skipped := if skip then x.skipped ++ [l] else x.skipped })
  let s := s.updPush l (fun p => { p with
    forget := p.forget || skip
    pass := some ⟨f.seq, units, 0, skip, first, n, [], [], [], false, [], s.passFuncOff f, [], false, none⟩
    walked := units.map (fun k => (k, f.cfg.unitNode k)) })
  let s := if skip then s else (s.sendProfiles (s.atSnap f) l f.cfg).sendClears l
  ((s.canvasSpots f).walkWindows l).passCheck l

def State.pushPassBegin (s : State) (l : Nat) : State :=
  match s.passOf l, s.nextPass l with
  | none, some f => s.beginPass l f
  | _, _ => s

def execPushPassBegin (link : LinkIx) (s : State) : Host.Outcome State Fault Refusal :=
  s.done (s.when s.evtUp (s.pushPassBegin link))

/-! ### The walk (R166, R170 to R172, R231) -/

/-- The refresh sweep selects a walk index. -/
def PassSt.swept (p : PassSt) (i : Nat) : Bool :=
  decide ((i + p.units.length - p.sweepFirst) % p.units.length < p.sweepCount)

/-- The node serves an address (R259); an address it does not serve is told once. -/
def State.noteNode (s : State) (l node : Nat) : State × Bool :=
  if node < s.nodeAddrs l then (s, true)
  else if (s.link l).missing.contains node then (s, false)
  else ((s.updLink l (fun x => { x with missing := x.missing ++ [node] })).raise (Src.link l) E.NODE_MISSING [], false)

/-- A surface of signal strings. -/
def FrameRec.localUnit (f : FrameRec) (k : Nat) : Bool := !isBlock k && Pf.local_ (f.cfg.profileOf (keySurf k))

/-- The codes of a signal-string surface go to its ports when its last tile has been walked (R231). -/
def State.handPorts (s : State) (f : FrameRec) (p : PassSt) (surf : Nat) : State :=
  let e := f.cfg.entry tSurface surf
  let prof := f.cfg.profileOf surf
  let v := s.atSnap f
  let ne := v.surfaceEmitters e
  let codes := (List.range (Sf.lamps e)).flatMap (fun n => s.lampCodes f p.funcOff surf n)
  if f.sendPassed then s
  else ((v.portsOf f.cfg surf).zipIdx).foldl (fun s x =>
    s.updSig x.1 (fun y => { y with next := y.next ++
      [⟨f.seq, surf, ne, codes.length, 16 * x.2, prof, (codes.drop (16 * x.2)).take 16⟩] })) s

/-- Poisoned drive records of a unit are counted, and told once per link and frame (R171). -/
def State.notePushPoison (s : State) (f : FrameRec) (l k : Nat) : State :=
  let n := s.unitPoison f k
  if n = 0 then s
  else
    let s := s.bumpBy F.PSH_POISON_CNT.COUNT n
    match s.passOf l with
    | some p => if p.poisonTold then s
      else (s.updPass l (fun p => { p with poisonTold := true })).raise Src.psh E.PUSH_POISON [l, keySurf k, k]
    | none => s

/-- A unit is judged: dirty units go to the send queue. -/
def State.judge (s : State) (f : FrameRec) (p : PassSt) (l i k : Nat) (data : List Byte) (hash : Nat) : State :=
  if p.skip || f.localUnit k then s
  else
    let n := s.noteNode l (f.cfg.unitNode k)
    if !n.2 then n.1
    else
      let s := n.1
      let r := (s.push l).units.get unitNone k
      let dirty := r.acked != some hash || Ps.full (f.cfg.entry tPush l)
      let swept := p.swept i
      if dirty || swept then
        s.updPass l (fun p => { p with sendQ := p.sendQ ++ [{ newBuf k data false 0 with swept := !dirty }] })
      else s

/-- The next unit of the walk is formatted and hashed; at the end of the walk the sweep pointer advances. -/
def State.walkUnit (s : State) (l : Nat) (p : PassSt) (f : FrameRec) : State :=
  match p.units[p.next]? with
  | none => s
  | some k =>
    let s := s.notePushPoison f l k
    let data := s.unitData f p.funcOff l k
    let hash := unitHash data
    let s := s.judge f p l p.next k data hash
    let s := s.updFrame f.seq (fun x => { x with hashes := x.hashes.modify [] l (· ++ [hash]) })
    let s := s.updPass l (fun p => { p with next := p.next + 1 })
    let rest := p.units.drop (p.next + 1)
    let s := if f.localUnit k && !rest.any (fun j => !isBlock j && keySurf j == keySurf k) then s.handPorts f p (keySurf k) else s
    let s := s.walkWindows l
    let s := if rest.isEmpty then s.setFld (F.PSH_SWEEP.COUNT l) ((p.sweepFirst + p.sweepCount) % p.units.length) else s
    s.passCheck l

/-- A buffer is free: a pass that sends holds at most two units that are not retries. -/
def PassSt.bufferFree (p : PassSt) : Bool := p.skip || decide ((p.sendQ.filter (fun u => !u.retry)).length < 2)

def State.unitWalk (s : State) (l : Nat) : State :=
  match s.passOf l with
  | none => s
  | some p =>
    match s.frame? p.frame with
    | none => s
    | some f => if p.bufferFree then s.walkUnit l p f else s

def execUnitWalk (link : LinkIx) (s : State) : Host.Outcome State Fault Refusal :=
  s.done (s.when s.evtUp (s.unitWalk link))

/-! ### Sending (R166, R244, R245) -/

/-- The payload of a `REGION`. -/
def regionPayload (f : FrameRec) (u : UnitBuf) : List Byte :=
  let n := min 4080 (u.data.length - u.off)
  let last := decide (u.data.length ≤ u.off + n)
  leBytes 2 (f.cfg.unitNode u.key) ++ leBytes 1 (b2n (isBlock u.key)) ++ leBytes 1 (b2n (decide (u.off = 0)) + 2 * b2n last) ++
    leBytes 4 (if isBlock u.key then keyBlock u.key else u.key) ++ leBytes 4 u.off ++ leBytes 4 f.seq ++ slice u.data u.off n

/-- A segment of the unit at the head departs; its first sets the unit's hashes. -/
def State.sendSegment (s : State) (l : Nat) (f : FrameRec) (u : UnitBuf) (rest : List UnitBuf) : State :=
  let pay := regionPayload f u
  let s := s.txBuffered l ltRegion pay
  let s := if u.off = 0 then
      s.updPush l (fun x => { x with units := x.units.put unitNone u.key ⟨some (unitHash u.data), none, f.cfg.unitNode u.key⟩ }) else s
  let u' : UnitBuf := { u with off := u.off + (pay.length - 16) }
  if u'.data.length ≤ u'.off then
    let s := (s.bump (F.PSH_SENT_CNT.COUNT l)).bumpBy (F.PSH_BYTES_CNT.COUNT l) u.data.length
    let s := if u.retry then s.bump (F.PSH_RESEND_CNT.COUNT l) else s.bump (F.PSH_DIRTY.COUNT l)
    let s := if u.swept then s.bump (F.PSH_REFRESH_CNT.COUNT l) else s
    s.updPass l (fun p => { p with sendQ := rest, waiting := p.waiting ++ [u'] })
  else s.updPass l (fun p => { p with sendQ := u' :: rest })

/-- Earlier frames have been presented or dropped (R245). -/
def State.isHead (s : State) (f : FrameRec) : Bool := s.frames.all (fun x => decide (f.seq ≤ x.seq))

def State.regionSend (s : State) (l : Nat) : State :=
  match s.passOf l with
  | none => s
  | some p =>
    match p.sendQ, s.frame? p.frame with
    | u :: rest, some f =>
      if s.isHead f && (s.link l).wait.isEmpty && s.mayBuffer l (regionPayload f u) then s.sendSegment l f u rest else s
    | _, _ => s

def execRegionSend (link : LinkIx) (s : State) : Host.Outcome State Fault Refusal :=
  s.done (s.when (s.linkTalks link && s.linkActive link) (s.regionSend link))

/-! ### Acknowledgements (R167, R173, R344) -/

/-- The key that an `ACK` names: none where its `KIND` or its `ID` is none of a unit's (R244). -/
def ackKey (kind id : Nat) (node : Nat) : Option Nat :=
  if kind = 0 ∧ id < 2 ^ 28 then some id else if kind = 1 ∧ id < 128 then some (blockKey node id) else none

/-- An `ACK` of a unit at a node address is applied, if that unit exists. -/
def State.ack (s : State) (l node key : Nat) (stored : Bool) (hash : Nat) : State :=
  let r := (s.push l).units.get unitNone key
  if (s.push l).walked.contains (key, node) ∧ r.sent = some hash then
    let s := s.updPush l (fun x => { x with
      units := x.units.put unitNone key ⟨none, if stored then some hash else none, r.node⟩ })
    let s := s.updPass l (fun p => { p with
      failed := p.failed.filter (· ≠ key)
      waiting := p.waiting.filter (fun u => u.key ≠ key)
      sendQ := p.sendQ.filter (fun u => !(u.retry && u.key == key && u.off == 0))
      unstored := if stored then p.unstored.filter (· ≠ key) else p.unstored ++ [key]
      catchUp := if stored then p.catchUp.map (fun c => c.filter (· ≠ key)) else p.catchUp })
    s.passCheck l
  else s.bump (F.PSH_STALE_CNT.COUNT l)

def execAckReceived (link : LinkIx) (hdr : UpHdr) (node : BitVec 16) (kind : Byte) (stored : Bool) (id : Word) (hash : BitVec 64)
    (s : State) : Host.Outcome State Fault Refusal :=
  s.done (s.when (s.linkTalks link)
    (match ackKey kind.toNat id.toNat node.toNat with
      | some key => (s.rxFrame link hdr).ack link node.toNat key stored hash.toNat
      | none => (s.rxFrame link hdr).bump (F.PSH_STALE_CNT.COUNT link)))

/-- A unit's acknowledgement has not come in time: it is sent again, or its retries are exhausted. -/
def State.ackTimeout (s : State) (l : Nat) : State :=
  match s.passOf l with
  | none => s
  | some p =>
    match p.waiting, s.frame? p.frame with
    | u :: rest, some f =>
      if p.caught ∧ p.catchUp.isNone then s
      else if u.retries < Ps.retries (f.cfg.entry tPush l) then
        s.updPass l (fun p => { p with waiting := rest, sendQ := p.sendQ ++ [newBuf u.key u.data true (u.retries + 1)] })
      else
        let s := s.updPass l (fun p => { p with waiting := rest, failed := p.failed ++ [u.key] })
        if (s.push l).noAckTold then s
        else (s.updPush l (fun x => { x with noAckTold := true })).raise Src.psh E.PUSH_NO_ACK []
    | _, _ => s

def execAckWaitTimeout (link : LinkIx) (s : State) : Host.Outcome State Fault Refusal :=
  s.done (s.when s.evtUp (s.ackTimeout link))

/-! ### The end of a pass: `GO`, and abandonment (R94, R95, R174) -/

/-- The payload of a `GO` (R247). -/
def goPayload (f : FrameRec) : List Byte := leBytes 8 f.seq ++ leBytes 8 (secOf f.tPres) ++ leBytes 4 (nsOf f.tPres) ++ zeros 4

/-- The `GO` of a frame departs on a link. -/
def State.sendGo (s : State) (l : Nat) (f : FrameRec) : State :=
  (s.txFrame l ltGo (goPayload f)).updFrame f.seq (fun x => { x with goSent := x.goSent ++ [l] })

/-- The frame whose `GO` a link sends next: the oldest one, finished, its send deadline not past. -/
def State.goSend (s : State) (l : Nat) : State :=
  match s.frames.head? with
  | none => s
  | some f =>
    if f.finished.contains l && !f.goSent.contains l && !f.sendPassed && !Tm.dropAll (f.cfg.entry tTiming 0) && s.linkActive l &&
      !s.curtainOn l then s.sendGo l f else s

def execGoSend (link : LinkIx) (s : State) : Host.Outcome State Fault Refusal :=
  s.done (s.when (s.linkTalks link) (s.goSend link))

/-- A pass is abandoned (R174, R183): windows it has not covered are lost. -/
def State.abandonPass (s : State) (l : Nat) : State :=
  match s.passOf l with
  | none => s
  | some p =>
    let s := match s.frame? p.frame with
      | none => s
      | some f =>
        let lost := if p.next < p.units.length then
            (s.linkWindows f.cfg l).filter (fun w => decide (w < 48) && !p.seen.contains w) else []
        let s := lost.foldl State.spotLost s
        s.updFrame f.seq (fun x => { x with walkLost := x.walkLost || decide (p.next < p.units.length) })
    s.passEnds l false

/-- The windows of the links whose pass of a frame never began have no result either (R174, R183). -/
def State.neverBegun (s : State) (seq : Nat) : State :=
  match s.frame? seq with
  | none => s
  | some f =>
    ((List.range 64).filter (fun l => !f.begun.contains l)).foldl (fun s l =>
      ((s.linkWindows f.cfg l).filter (fun w => decide (w < 48))).foldl State.spotLost s) s

/-! ### Writes and reads -/

def execPshForget (link : LinkIx) (s : State) : Host.Outcome State Fault Refusal :=
  s.done (s.when s.evtUp (s.updPush link (fun x => { x with forget := true })))

/-- The eight entries of a history are latched, and entry 0's low half returned (R182). -/
def State.readHist (s : State) (w : Nat) : State :=
  let l := (List.range 8).map (fun k => s.rv (R.SPT_HIST w k))
  ({ s with spt := s.spt.put [] w l }).send (.readData (l.headD 0 % 2 ^ 32))

def execSptHistRead (w : Fin 48) (s : State) : Host.Outcome State Fault Refusal :=
  s.done (s.when s.evtUp (s.readHist w))

end Sys2Proof.Machine
end

