-- ==== Sys2Proof/Machine/Tandem.lean ====
section
/-! DEFINITION. What a principal sends to its Understudy (R332 to R336, R347, R348, R350): messages and their numbers, mirrored
operations, `STATE`, and digests, as shared operations. -/

namespace Sys2Proof.Machine

/-- The link number of tandem link t. -/
def tdLink (t : Nat) : Nat := 64 + t

def tmMirror : Nat := 0x11
def tmBulk : Nat := 0x12
def tmState : Nat := 0x13
def tmLampstate : Nat := 0x14
def tmHello : Nat := 0x91
def tmDigest : Nat := 0x92
def tmReady : Nat := 0x93

/-- `MSEQ` counts in 32 bits; the first message of a resynchronisation carries 1 (assumption 44). -/
def mseqMod : Nat := 2 ^ 32
/-- Message a comes before message b. -/
def mseqBefore (a b : Nat) : Bool := a != b && decide ((b + mseqMod - a) % mseqMod < 2 ^ 31)
def mseqNext (n : Nat) : Nat := (n + 1) % mseqMod
def mseqPrev (n : Nat) : Nat := (n + mseqMod - 1) % mseqMod

/-- Bytes of a message as the replay store counts them: data that is read again from the principal's copy is not in it (R333,
assumption 45). -/
def TdmMsg.kept (m : TdmMsg) : Nat := m.head.length

/-- The replay store holds 4 MiB: the oldest messages already sent leave it. -/
def trimReplay (msgs : List TdmMsg) : Nat → List TdmMsg
  | 0 => msgs
  | fuel + 1 =>
    match msgs with
    | [] => []
    | m :: rest => if m.sent && decide (4194304 < (msgs.map TdmMsg.kept).sum) then trimReplay rest fuel else msgs

/-- A message takes the next number. -/
def State.tdmAdd (s : State) (type : Nat) (head : Nat → List Byte) (src : Option (Nat × Nat × Nat)) (copy : Bool) : State :=
  let n := s.tdm.nextMseq
  let msgs := s.tdm.msgs ++ [⟨n, type, head n, src, copy, false⟩]
  s.setTdm { s.tdm with nextMseq := mseqNext n, msgs := trimReplay msgs msgs.length }

/-! ### Mirrored operations (R333, R335) -/

/-- The head of a `MIRROR` segment. -/
def mirrorHead (ring : Nat) (first last : Bool) (result off mseq : Nat) : List Byte :=
  leBytes 4 mseq ++ leBytes 1 ring ++ leBytes 1 (b2n first + 2 * b2n last) ++ zeros 2 ++ leBytes 4 result ++ leBytes 4 off

/-- Offsets and lengths of an operation's data by segment: 64 bytes of the first segment hold the descriptor. -/
def mirrorSegs (n : Nat) : List (Nat × Nat) :=
  (0, min 4016 n) :: (List.range (ceilDiv (n - 4016) 4080)).map (fun i => (4016 + i * 4080, min 4080 (n - 4016 - i * 4080)))

/-- An operation is mirrored: its descriptor, its result, and its data, which stands in `data` or is read from an object, from its
waiting copy with `copy`. -/
def State.mirrorOp (s : State) (ring : Nat) (desc : List Byte) (result : Nat) (data : List Byte) (src : Option (Nat × Nat × Nat))
    (copy : Bool) : State :=
  let n := match src with | some x => x.2.2 | none => data.length
  let segs := mirrorSegs n
  (segs.zipIdx).foldl (fun s x =>
    let first := x.2 == 0
    let last := x.2 + 1 == segs.length
    let piece := (data.drop x.1.1).take x.1.2
    (s.tdmAdd tmMirror (fun m => mirrorHead ring first last result x.1.1 m ++ (if first then desc else []) ++ piece)
      (src.map (fun y => (y.1, y.2.1 + x.1.1, x.1.2))) copy).bump F.TDM_MIRROR_CNT.COUNT) s

/-- The number of the message added last: that of a mirrored operation's last segment, which `READY` and `ACT` name. -/
def State.lastMseq (s : State) : Nat := mseqPrev s.tdm.nextMseq

/-- Bytes of an object as they are sent: of its waiting copy where they are asked for and it has one, or else the current ones. Handle 0
stands for the `ACTIVE` package (R442). -/
def State.mirroredBytes (s : State) (h off n : Nat) (copy : Bool) : List Byte :=
  if h = 0 then s.flashBytes (activeAt + off) n else
  let o := s.obj? (handleIdx h)
  let at_ := match o.shadow with
    | some sh => if copy then (sh.sram, sh.pages) else (o.sram, o.pages)
    | none => (o.sram, o.pages)
  (List.range n).map (fun k => s.mem.byte (placeOf at_.1 at_.2 (off + k)))

/-- The payload of a message as it is sent. -/
def State.msgPayload (s : State) (m : TdmMsg) : List Byte :=
  m.head ++ (match m.src with | some (h, off, n) => s.mirroredBytes h off n m.copy | none => [])

/-! ### `STATE` (R334, R336) -/

/-- The payload of a `STATE`. -/
def State.statePayload (s : State) (seq tPres : Nat) (flags : Nat) (acts : List Nat) : List Byte :=
  let g := s.takeGains
  leBytes 8 seq ++ leBytes 8 (secOf tPres) ++ leBytes 4 (nsOf tPres) ++ leBytes 4 s.lastMseq ++
    leBytes 2 (s.fld F.TDM_CLAIM.CLAIM - 1) ++
    leBytes 1 ((s.sacnPorts.map (fun p => s.fld (F.NET_SACN_CTRL.PRIORITY p))).headD (s.fld (F.NET_SACN_CTRL.PRIORITY 0))) ++
    leBytes 1 flags ++ leBytes 2 acts.length ++ zeros 2 ++ leBytes 8 (s.fld F.LMP_FUNC_OFF.FUNC) ++
    (List.range 96).flatMap (fun n => leBytes 4 (g.fld (F.FIX_FEED_GAIN.GAIN n))) ++
    (List.range 96).flatMap (fun n => leBytes 4 (s.fld (F.FIX_FEED_SCALE.SCALE n))) ++ acts.flatMap (leBytes 4)

def State.queueState (s : State) (b : List Byte) : State := s.setTdm { s.tdm with states := s.tdm.states ++ [b] }

def stResyncStart : Nat := 1
def stResyncDone : Nat := 2

/-- A further operation's messages are listed while 256 are not exceeded. -/
def addActs (acts : List Nat) (ms : List Nat) : List Nat :=
  let ms := ms.drop (ms.length - 256)
  if acts.length + ms.length ≤ 256 then acts ++ ms else acts

/-- The activations of the next frame-start (R336): finished copies and compiles, in `PAIRED` those that the Understudy has ready. -/
def State.dueActs (s : State) : List Nat :=
  let ready : List Nat → Bool := fun ms => s.pair != pairPaired || ms.all (s.tdm.ready.contains ·)
  let a := List.foldl (fun a (e : Nat × Obj) => match e.2.shadow with
    | some sh => if sh.open_ = 0 ∧ ready sh.mseqs then addActs a sh.mseqs else a
    | none => a) [] s.obj.objs
  List.foldl (fun a (e : Nat × CompSt) =>
    if e.2.phase = 3 ∧ e.2.mseq ≠ 0 ∧ ready [e.2.mseq] then addActs a [e.2.mseq] else a) a s.fix.comps

/-! ### Records of an item (R347, R348) -/

/-- The fixture items of a configuration. -/
def State.fixtureItems (s : State) (c : CfgTab) : List Nat := c.chunkItems s.blk.chunk ++ c.rangeItems

/-- The head of a `LAMPSTATE`. -/
def lampHead (item frame off : Nat) (b : List Byte) (mseq : Nat) : List Byte :=
  leBytes 4 mseq ++ leBytes 4 item ++ leBytes 8 frame ++ leBytes 4 off ++ zeros 4 ++ b

/-- An item's records of a frame go out (R348). -/
def State.streamItem (s : State) (item frame : Nat) : State :=
  let b := s.itemRecords s.cfgApp item
  let n := max 1 (ceilDiv b.length 4072)
  let s := (List.range n).foldl (fun s i =>
    s.tdmAdd tmLampstate (lampHead item frame (4072 * i) ((b.drop (4072 * i)).take 4072)) none false) s
  s.setTdm { s.tdm with inFlight := (s.tdm.inFlight.filter (·.1 ≠ item)) ++ [(item, frame, s.lastMseq)] }

/-- Records of retired items that are due go out, unless the item is on its way or adopted. -/
def State.streamDue (s : State) : State :=
  let due := s.fix.lampDue.filter (fun x => !s.tdm.adopted.contains x.1 && !s.tdm.inFlight.any (·.1 = x.1))
  let s := { s with fix := { s.fix with lampDue := [] } }
  if s.tdm.streaming then due.foldl (fun s x => s.streamItem x.1 x.2) s else s

/-- Every fixture item of the configuration in effect has been adopted. -/
def State.allAdopted (s : State) : Bool := (s.fixtureItems s.cfgApp).all (s.tdm.adopted.contains ·)

/-! ### Digests (R350) -/

/-- The digest of a frame: CRC-32C over the unit hashes of links 0 to 63. -/
def FrameRec.digest (f : FrameRec) : Nat :=
  crc32c ((List.range 64).flatMap (fun l => (f.hashes.get [] l).flatMap (leBytes 8)))

/-! ### Resynchronisation (R347) -/

/-- Ring numbers that mark the records of a resynchronisation: of the configuration applied to frames with the object table, and of
the one that holds every accepted cue (assumption 46). -/
def ringApplied : Nat := 0xFE
def ringAccepted : Nat := 0xFF

/-- A descriptor (R39). -/
def descriptor (opcode len handle arg0 off : Nat) (param : List Byte) : List Byte :=
  leBytes 1 opcode ++ zeros 3 ++ leBytes 4 len ++ leBytes 4 handle ++ leBytes 4 arg0 ++ zeros 8 ++ leBytes 8 off ++ padTo 32 param

def opNop : Nat := 0x00
def opCreate : Nat := 0x01
def opWrite : Nat := 0x02
def opRead : Nat := 0x03
def opDestroy : Nat := 0x04
def opPin : Nat := 0x05
def opCue : Nat := 0x10
def opSet : Nat := 0x11
def opCall : Nat := 0x12
def opCompile : Nat := 0x13
def opMove : Nat := 0x14
def opReport : Nat := 0x15
def opPower : Nat := 0x16
def opUpdate : Nat := 0x17
def opAck : Nat := 0x18

/-- The entries of a configuration are mirrored as `SET` records. -/
def State.mirrorTable (s : State) (ring : Nat) (c : CfgTab) : State :=
  List.foldl (fun (s : State) (e : Nat × List Byte) =>
    s.mirrorOp ring (descriptor opSet e.2.length 0 (e.1 / 2 ^ 20) (e.1 % 2 ^ 20) []) 0 e.2 none false) s c

/-- The object table is mirrored as `OBJ_CREATE` records. -/
def State.mirrorObjects (s : State) : State :=
  List.foldl (fun (s : State) (e : Nat × Obj) =>
    s.mirrorOp ringApplied (descriptor opCreate 0 0 e.2.kind 0 e.2.param) (s.handleOf e.1) [] none false) s s.obj.objs

/-- Resynchronisation starts from the beginning: the series of messages starts anew. -/
def State.startResync (s : State) : State :=
  let x := s.time.sched
  let s := (s.setPair pairSyncing).setTdm { tdmReset with streaming := true, told := s.tdm.told, toldMismatch := s.tdm.toldMismatch, turn := s.tdm.turn }
  let s := { s with fix := { s.fix with lampDue := [] } }
  let s := s.queueState (({ s with tdm := { s.tdm with nextMseq := 1 } }).statePayload x.given (x.instant (x.k - 1)).toNat stResyncStart [])
  let s := ((s.mirrorTable ringApplied s.cfgApp).mirrorTable ringAccepted s.cfgAcc).mirrorObjects
  s.setTdm { s.tdm with bulk := ((List.map (·.1) s.obj.objs).mergeSort (fun a b => decide (s.handleOf a ≤ s.handleOf b))).map (·, 0) }

/-- An object's contents have been copied: a compiled `CALSTORE` is compiled, and a waiting copy is sent (R347 step 2). -/
def State.bulkEnds (s : State) (idx : Nat) : State :=
  let o := s.obj? idx
  let h := s.handleOf idx
  let s := if (s.cal idx).compiled then s.mirrorOp ringApplied (descriptor opCompile 0 h 0 0 []) 0 [] none false else s
  match o.shadow with
  | some sh =>
    let s := s.mirrorOp ringApplied (descriptor opWrite o.size h 0 0 [1]) 0 [] (some (h, 0, o.size)) true
    s.updObj idx (fun o => { o with shadow := some { sh with mseqs := sh.mseqs ++ [s.lastMseq] } })
  | none => s

/-- The next part of the copied contents takes its place in the series. -/
def State.nextBulk (s : State) : State :=
  match s.tdm.bulk with
  | [] => s
  | (idx, off) :: rest =>
    let size := (s.obj? idx).size
    let n := min 4072 (size - off)
    let h := s.handleOf idx
    let s := if n = 0 then s
      else s.tdmAdd tmBulk (fun m => leBytes 4 m ++ leBytes 4 h ++ leBytes 8 off ++ zeros 8) (some (h, off, n)) false
    if size ≤ off + n then (s.setTdm { s.tdm with bulk := rest }).bulkEnds idx
    else s.setTdm { s.tdm with bulk := (idx, off + n) :: rest }

/-- Bytes of a message. -/
def TdmMsg.size (m : TdmMsg) : Nat := m.head.length + (match m.src with | some x => x.2.2 | none => 0)

/-- `TDM_SYNC_LEFT`: bytes of objects still to copy, and of messages not sent, while `SYNCING`. -/
def State.syncLeft (s : State) : Nat :=
  if s.role = rolePrincipal ∧ s.pair = pairSyncing then
    (s.tdm.bulk.map (fun x => (s.obj? x.1).size - x.2)).sum + ((s.tdm.msgs.filter (!·.sent)).map TdmMsg.size).sum
  else 0

/-- Every item is streamed again (R350). -/
def State.restream (s : State) : State :=
  s.setTdm { s.tdm with streaming := true, adopted := [], inFlight := [], differ := 0 }

/-- Two complete digests of a frame are compared (R350). A divergence that persists after the stream has ended starts
resynchronisation again, whose `STATE` sends the Understudy back to `JOINING` (assumption 47). -/
def State.compareDigests (s : State) (own partner : Nat) : State :=
  let s := s.setRv R.TDM_DIGEST (own + partner * 2 ^ 32)
  if own = partner then (s.setFld F.TDM_STATE.DIVERGED 0).setTdm { s.tdm with differ := 0 }
  else
    let told := s.flag F.TDM_STATE.DIVERGED
    let s := (s.setFld F.TDM_STATE.DIVERGED 1).bump F.TDM_DIVERGE_CNT.COUNT
    if !told then s.restream
    else if s.tdm.streaming then s
    else if s.fld F.TDM_TIMING.DIVERGE_MAX ≤ s.tdm.differ + 1 then (s.setFld F.TDM_STATE.DIVERGED 0).startResync
    else s.setTdm { s.tdm with differ := s.tdm.differ + 1 }

end Sys2Proof.Machine
end

