-- ==== Sys2Proof/Machine/CallRows.lean ====
section
/-! DEFINITION. The commands of the Call Board, the Blocking Unit and compiles (R98 to R138, R204, R205, R424). -/

namespace Sys2Proof.Machine

/-! ### Producers (R103) -/

/-- The source number a producer posts under (R452). -/
def producerSource : Producer → Nat
  | .trigger _ => Src.trigger
  | .schedule => Src.trigger
  | .host _ => Src.rings
  | .core n => Src.core n
  | .blocking => Src.blocking
  | .link n => Src.link n
  | .other x => x.toNat

/-- `CB_POST_n` as a core's read returns it. -/
def postResult : PostOut → Nat
  | .ok slot => slot * 2 ^ 16
  | .refused => 1 + 0xFFFF * 2 ^ 16
  | _ => 2 + 0xFFFF * 2 ^ 16

/-- A principal mirrors an accepted request for a compile (R335); the handed call keeps the number of its message in `ARG_1`, which
nothing else uses (the model's own: that word is never dispatched). -/
def State.mirrorCompile (s : State) (id : Nat) : State :=
  match s.entry? id with
  | some e =>
    if s.mirrors then
      let s := s.mirrorOp e.ring e.bytes 0 [] none false
      let m := s.lastMseq
      { s with cb := { s.cb with handed := s.cb.handed.dropLast ++
          (s.cb.handed.getLast?.toList.map (fun r => { r with word := { r.word with arg1 := m } })) } }
    else s
  | none => s

/-- What a producer does with its post's outcome once it is known: not a stall. -/
def State.settlePost (s : State) (p : Producer) (ref : Nat) (w : CallWord) (o : PostOut) : State :=
  match p, o with
  | _, .stalls => s
  | .trigger _, .refused => s.raise Src.trigger E.TRIGGER_REFUSED []
  | .schedule, .refused => s.raise Src.trigger E.TRIGGER_REFUSED []
  | .host _, .ok slot => (if w.kind = kCalCompile then s.mirrorCompile ref else s).finish ref St.ok slot
  | .host _, .refused => s.finish ref St.refused 0
  | .host _, .invalid => s.finish ref St.outOfRange 0
  | .core _, o => s.send (.readData (postResult o))
  | .blocking, .ok _ =>
    if w.kind = kCalCompile then s.rootPosted (handleIdx w.arg0) (w.arg1, w.arg2) else s.markWord w
  | .blocking, .refused =>
    if w.kind = kCalCompile then (s.rootRefused (handleIdx w.arg0) (w.arg1, w.arg2)).settleComp (handleIdx w.arg0)
    else s.abandon w.frame
  | .link _, .refused => s.raise Src.callBoard E.CB_REFUSED []
  | _, _ => s

/-- The trigger unit's posts queue behind a stalled one (R86, R105). -/
def isTrigger : Producer → Bool
  | .trigger _ => true
  | .schedule => true
  | _ => false

/-- Some producer of the same unit is stalled. -/
def State.producerStalled (s : State) (p : Producer) : Bool :=
  s.cb.stalled.any (fun x => producerSource x.producer == producerSource p)

/-- A whole word reaches the Call Board from a producer; with `CHILD` it is a core's child post (R106). A post of the trigger unit behind
a stalled one of it waits unissued, with its reserved byte. -/
def State.postFrom (s : State) (p : Producer) (ref : Nat) (w : CallWord) (reserved : Nat) : State :=
  if s.producerStalled p then
    (if isTrigger p then { s with cb := { s.cb with behind := s.cb.behind ++ [⟨p, reserved, w, ref, false⟩] } } else s)
  else
    let r := match p, w.child with
      | .core n, true => s.cbChild (.sm n) w reserved
      | _, _ => s.cbPost p (producerSource p) ref w reserved
    r.1.settlePost p ref w r.2

/-- The 32 bytes of eight words. -/
def wordBytes (v : Vector Word 8) : List Byte := v.toList.flatMap (fun x => leBytes 4 x.toNat)

def execCbPost (p : Producer) (word : Vector Word 8) (s : State) : Host.Outcome State Fault Refusal :=
  s.done (s.when s.evtUp (s.postFrom p 0 (callOfBytes (wordBytes word)) (callReserved (wordBytes word))))

/-! ### Stalls (R105, R118) -/

/-- The trigger unit issues the posts that a stalled one has held back, until one of them stalls. -/
def State.issueBehind (s : State) : Nat → State
  | 0 => s
  | fuel + 1 =>
    match s.cb.behind with
    | [] => s
    | x :: rest =>
      if s.producerStalled x.producer then s
      else (({ s with cb := { s.cb with behind := rest } }).postFrom x.producer x.ref x.word x.source).issueBehind fuel

/-- A stalled post would find space now. -/
def State.stalledFits (s : State) (x : Stalled) : Bool :=
  match x.producer with
  | .host _ => if x.word.kind = kCalCompile then s.slotSpace x.source x.word else s.findsSpace x.source x.word
  | _ => s.findsSpace x.source x.word

/-- A stalled post is accepted. -/
def State.acceptStalled (s : State) (x : Stalled) : State :=
  let s := { s with cb := { s.cb with stalled := s.cb.stalled.erase x } }
  let hand := match x.producer with
    | .host _ => x.word.kind == kCalCompile
    | _ => false
  let r := if hand then s.cbHand x.producer x.source x.ref x.word else s.cbPost x.producer x.source x.ref x.word 0
  let s := r.1.settlePost x.producer x.ref x.word r.2
  s.issueBehind s.cb.behind.length

/-- The earliest stalled post that finds space is accepted, when it is the producer's. -/
def State.stalledAccept (s : State) (p : Producer) : State :=
  match s.cb.stalled.find? (fun x => s.stalledFits x) with
  | some x => if x.producer = p then s.acceptStalled x else s
  | none => s

def execCbStalledPostAccept (p : Producer) (s : State) : Host.Outcome State Fault Refusal :=
  s.done (s.when s.evtUp (s.stalledAccept p))

/-- `CB_STALL` (R118): once for each stall, unless switched off. -/
def State.stallReport (s : State) (p : Producer) : State :=
  match s.cb.stalled.find? (fun x => x.producer = p) with
  | none => s
  | some x =>
    if x.told ∨ s.fld F.CB_STALL_WD.LIMIT = 0 then s
    else ({ s with cb := { s.cb with stalled := s.cb.stalled.map (fun y => if y = x then { y with told := true } else y) } }).raise
      Src.callBoard E.CB_STALL [x.source, 32 * x.word.prio + s.placeGroup x.word.cls x.word.group]

def execCbStall (p : Producer) (s : State) : Host.Outcome State Fault Refusal :=
  s.done (s.when s.evtUp (s.stallReport p))

/-! ### Children, standbys (R106, R108) -/

def Engine.consumer : Engine → Consumer
  | .re n => .re n
  | .fe n => .fe n

/-- The power domain of an engine. -/
def engineDomain (e : Consumer) : Domain := .eng (Fin.ofNat 8 ((e.cluster).getD 0))

def execCbChildPost (e : Engine) (word : Vector Word 8) (s : State) : Host.Outcome State Fault Refusal :=
  s.done (s.when (s.evtUp && s.engineRuns (engineDomain (Engine.consumer e)) && (callOfBytes (wordBytes word)).child)
    (s.cbChild (Engine.consumer e) (callOfBytes (wordBytes word)) (callReserved (wordBytes word))).1)

/-- What the retirement of an engine's call brings with it: its cost is learnt, its item or leaf has run, and its frame goes
on. -/
def State.retireRun (s : State) (c : Consumer) (r : CallRec) (cost : Nat) : State :=
  let s := s.retire c
  if r.word.kind = kCalCompile then s.leafRetired r.word
  else (((s.learn c r.word cost).markRetired r.word).advanceFrame r.word.frame).pruneGone

/-- An engine's standby (R108): its call retires, and it waits while it serves. -/
def State.standby (s : State) (c : Consumer) (cost : Nat) : State :=
  match s.heldCall c with
  | some r =>
    if r.ran then
      let s := s.retireRun c r cost
      (if s.serves c then s.wait c else s).dispatchAll
    else s
  | none => (if s.serves c then s.wait c else s).dispatchAll

def execCbStandby (e : Engine) (cost : Word) (s : State) : Host.Outcome State Fault Refusal :=
  s.done (s.when (s.evtUp && s.engineRuns (engineDomain (Engine.consumer e))) (s.standby (Engine.consumer e) cost.toNat))

/-! ### The mode (R105) -/

/-- Every stalled post is refused, and the posts that they have held back are issued. -/
def State.refuseStalled (s : State) : State :=
  let l := s.cb.stalled
  let s := { s with cb := { s.cb with stalled := [] } }
  let s := l.foldl (fun s x => (s.bump F.CB_REFUSED_CNT.COUNT).settlePost x.producer x.ref x.word .refused) s
  s.issueBehind s.cb.behind.length

/-- A new dispatch mode takes effect. -/
def State.setMode (s : State) (m : Nat) : State :=
  let old := s.fld F.CB_MODE.MODE
  let s := s.setFld F.CB_MODE.MODE m
  let s := if old = modeService ∧ m ≠ modeService then s.refuseStalled else s
  if old = modeTest ∧ m ≠ modeTest then (s.setFld F.CB_CTRL.HOLD 0).dispatchAll else s

def execCbModeWrite (mode : BitVec 2) (s : State) : Host.Outcome State Fault Refusal :=
  s.done (s.when s.evtUp (s.setMode mode.toNat))

/-! ### Stage Manager cores (R112 to R114) -/

def nullCall : Nat := 0xFFFF

/-- A core's read of its own standby port. -/
def State.coreStandby (s : State) (n : Nat) : State :=
  let s := s.retire (.sm n)
  if s.cb.wdPend.contains n then
    ({ s with cb := { s.cb with wdPend := s.cb.wdPend.filter (· ≠ n) } }).send (.readData nullCall)
  else
    let s := (s.wait (.sm n)).dispatchAll
    if s.cb.waiting.contains (.sm n) then s.send .readStalls else s

/-- A read of `CB_STANDBY_n`. -/
def State.standbyRead (s : State) (n : Nat) (a : Agent) : State :=
  match a with
  | .core c => if c.val = n then s.coreStandby n else (s.send (.readData nullCall)).raise Src.callBoard E.CB_PORT_MISUSE []
  | _ => (s.send (.readData nullCall)).raise Src.callBoard E.CB_PORT_MISUSE []

def execCbStandbyRead (port : Fin 4) (agent : Agent) (s : State) : Host.Outcome State Fault Refusal :=
  s.done (s.when s.evtUp (s.standbyRead port agent))

/-- A withdraw of a core's standby. -/
def State.withdraw (s : State) (n : Nat) : State :=
  if s.cb.waiting.contains (.sm n) then
    ({ s with cb := { s.cb with waiting := s.cb.waiting.filter (· ≠ Consumer.sm n) } }).send (.readData nullCall)
  else { s with cb := { s.cb with wdPend := insertAsc n s.cb.wdPend } }

def execCbWithdraw (n : Fin 4) (s : State) : Host.Outcome State Fault Refusal :=
  s.done (s.when s.evtUp (s.withdraw n))

/-- The word in a core's post registers. -/
def State.postWord (s : State) (n : Nat) : List Byte :=
  (List.range 8).flatMap (fun m => leBytes 4 (s.rv (R.CB_POST_WORD n m)))

/-- A read of `CB_POST_n`. -/
def State.postRead (s : State) (n : Fin 4) (a : Agent) : State :=
  if a = .core n then
    let b := s.postWord n
    let s' := s.postFrom (.core n) 0 (callOfBytes b) (callReserved b)
    if s'.producerStalled (.core n) then s'.send .readStalls else s'
  else s.send (.readData (postResult .invalid))

def execCbPostRead (port : Fin 4) (agent : Agent) (s : State) : Host.Outcome State Fault Refusal :=
  s.done (s.when s.evtUp (s.postRead port agent))

/-! ### The Blocking Unit -/

def execFrameStart (s : State) : Host.Outcome State Fault Refusal := s.done (s.when s.evtUp s.frameStart)

def execSequencerPost (s : State) : Host.Outcome State Fault Refusal := s.done (s.when s.evtUp s.seqPost)

def execPageMoveComplete (s : State) : Host.Outcome State Fault Refusal :=
  s.done (s.when (s.evtUp && s.powered .hbm) s.moveDone)

def execCalCompileRoots (s : State) : Host.Outcome State Fault Refusal := s.done (s.when s.evtUp s.takeCompile.settleComps)

def execCalCompileCall (n : Fin 32) (s : State) : Host.Outcome State Fault Refusal :=
  s.done (s.when (s.evtUp && s.engineRuns (engineDomain (.fe n))) (s.runCompile n))

/-! ### Health (R133, R115) -/

/-- Engines that serve and neither hold a call nor wait issue their standbys. -/
def State.standbyIdle (s : State) (l : List Consumer) : State :=
  l.foldl (fun s c => if s.serves c && (s.heldCall c).isNone then s.wait c else s) s

def healthFld (which : Nat) : Fld :=
  if which = 0 then F.BLK_HEALTH_RE.MASK else if which = 1 then F.BLK_HEALTH_FE.MASK else F.BLK_HEALTH_PC.MASK

/-- A bit of a health mask written 1 ends its engine's `FAULT` (`CMP_RE_n_STATUS`, `FIX_FE_n_STATUS`). -/
def State.clearFaults (s : State) (which mask : Nat) : State :=
  { s with cmp := { s.cmp with faulted := s.cmp.faulted.filter (fun n =>
      !(if which = 0 then decide (n < 16) && bit mask n else which == 1 && decide (16 ≤ n) && bit mask (n - 16))) } }

/-- A health mask is written: bits written 0 are cleared by the host, bits written 1 take part again. -/
def State.healthWrite (s : State) (which mask : Nat) : State :=
  let f := healthFld which
  let bits_ := List.range f.width
  let s := bits_.foldl (fun s n => if bit mask n then s else s.clearHealth which n hcHost) s
  let s := s.setFld f (s.fld f ||| mask)
  let s := s.clearFaults which mask
  let s := if which = 0 then s.standbyIdle (bits_.map .re) else if which = 1 then s.standbyIdle (bits_.map .fe) else s
  ((s.rebalance).dispatchAll).afterLoss

def execBlkHealthWrite (which : Fin 3) (mask : Word) (s : State) : Host.Outcome State Fault Refusal :=
  s.done (s.when s.evtUp (s.healthWrite which mask.toNat))

/-- The mask and bit of an engine. -/
def engineBit : Engine → Nat × Nat
  | .re n => (0, n)
  | .fe n => (1, n)

/-- A dispatched call has not retired within `BLK_HANG`. -/
def State.hang (s : State) (e : Engine) : State :=
  if s.fld F.BLK_HANG.LIMIT = 0 ∨ (s.heldCall (Engine.consumer e)).isNone then s
  else (s.clearHealth (engineBit e).1 (engineBit e).2 hcHang).afterLoss

def execBlkHangExpiry (e : Engine) (s : State) : Host.Outcome State Fault Refusal := s.done (s.when s.evtUp (s.hang e))

/-- The number of an engine in the list of faulted engines. -/
def faultNum : Engine → Nat
  | .re n => n
  | .fe n => 16 + n

/-- An engine reports a fault: its `FAULT` bit sets, and it leaves the plan. -/
def State.engineFaulted (s : State) (e : Engine) : State :=
  let s := { s with cmp := { s.cmp with faulted := insertAsc (faultNum e) s.cmp.faulted } }
  (s.clearHealth (engineBit e).1 (engineBit e).2 hcFault).afterLoss

def execEngineFault (e : Engine) (s : State) : Host.Outcome State Fault Refusal :=
  s.done (s.when (s.evtUp && s.engineRuns (engineDomain (Engine.consumer e))) (s.engineFaulted e))

/-! ### Parking (R424) -/

/-- A parked cluster has ended its calls and written back its tiles. -/
def State.clusterIdle (s : State) (k : Nat) : Bool :=
  (clusterEngines k).all (fun c => (s.heldCall c).isNone && (match c with | .re n => (s.heldTiles n).isEmpty | _ => true))

def State.parkOff (s : State) (k : Fin 8) : State :=
  if s.blk.parked.contains k.val ∧ s.clusterIdle k ∧ s.powered (.eng k) then
    ({ s with off := s.off ++ [Domain.eng k] }).setBlk { s.blk with parkReq := none }
  else s

def execClusterPark (k : Fin 8) (s : State) : Host.Outcome State Fault Refusal := s.done (s.when s.evtUp (s.parkOff k))

/-- The cluster decided on is powered, and issues its standbys. -/
def State.parkOn (s : State) (k : Fin 8) : State :=
  if s.blk.restoreReq = some k.val ∧ s.blk.parked.contains k.val then
    let s := ({ s with off := s.off.filter (· ≠ Domain.eng k) }).setBlk
      { s.blk with restoreReq := none, parked := s.blk.parked.filter (· ≠ k.val) }
    ((s.standbyIdle (clusterEngines k)).rebalance).dispatchAll
  else s

def execClusterRestore (k : Fin 8) (s : State) : Host.Outcome State Fault Refusal := s.done (s.when s.evtUp (s.parkOn k))

end Sys2Proof.Machine
end

