-- ==== Sys2Proof/Machine/Packets.lean ====
section
/-! DEFINITION. Ethernet, IP and UDP frames as the ports read and build them, and the ANSI E1.31 packets of sACN. What R300
leaves to E1.31 and to the IP standards is taken from them (assumption 40). -/

namespace Sys2Proof.Machine

/-! ### Reading a frame (R291). Frames are without their FCS. -/

/-- The big-endian number of `n` bytes at `off`. -/
def beAt (b : List Byte) (off n : Nat) : Nat := beNat (slice b off n)

def vlanType (t : Nat) : Bool := t == 0x8100 || t == 0x88A8

/-- Offset of the EtherType after any VLAN tags, with at most `fuel` of them. -/
def typeOffset (b : List Byte) (off : Nat) : Nat → Nat
  | 0 => off
  | fuel + 1 => if vlanType (beAt b off 2) then typeOffset b (off + 4) fuel else off

/-- Offset of the EtherType. -/
def etherOff (b : List Byte) : Nat := typeOffset b 12 b.length
def etherType (b : List Byte) : Nat := beAt b (etherOff b) 2

/-- PCP of the outer VLAN tag. -/
def outerPcp (b : List Byte) : Option Nat := if vlanType (beAt b 12 2) then some (beAt b 14 2 / 2 ^ 13) else none

/-- Offset of the UDP header of an IPv4 or IPv6 UDP frame. -/
def udpOff (b : List Byte) : Option Nat :=
  let ip := etherOff b + 2
  if etherType b = 0x0800 then (if beAt b (ip + 9) 1 = 17 then some (ip + beAt b ip 1 % 16 * 4) else none)
  else if etherType b = 0x86DD then (if beAt b (ip + 6) 1 = 17 then some (ip + 40) else none)
  else none

/-- Destination port of a UDP frame. -/
def udpPort (b : List Byte) : Option Nat := (udpOff b).map (fun o => beAt b (o + 2) 2)

/-! ### Checksums -/

/-- Sum of big-endian 16-bit words, an odd last byte padded with 0. -/
def wordSum : List Byte → Nat
  | [] => 0
  | [a] => a.toNat * 256
  | a :: b :: rest => a.toNat * 256 + b.toNat + wordSum rest

/-- End-around carry. -/
def foldCarry (n : Nat) : Nat := let m := n % 65536 + n / 65536; m % 65536 + m / 65536

/-- The Internet checksum. -/
def inetSum (b : List Byte) : Nat := 65535 - foldCarry (wordSum b)

/-! ### Building a frame -/

/-- Source of a packet: MAC address, the IPv4 or IPv6 address, and the VLAN tag, if one is inserted. -/
structure NetSrc where
  mac : Nat
  ip4 : Nat
  ip6 : List Byte
  v6 : Bool
  vlan : Option (Nat × Nat)
  deriving DecidableEq, Repr

/-- The multicast address of a universe (R298). -/
def group4 (u : Nat) : List Byte := beBytes 4 (0xEFFF0000 + u % 65536)
def group6 (u : Nat) : List Byte := beBytes 2 0xFF18 ++ zeros 10 ++ beBytes 2 0x8300 ++ beBytes 2 u

/-- Ethernet header to the multicast address of a universe. -/
def etherHeader (x : NetSrc) (u : Nat) : List Byte :=
  let dst := if x.v6 then beBytes 2 0x3333 ++ (group6 u).drop 12
    else beBytes 3 0x01005E ++ beBytes 3 ((0xFF0000 + u % 65536) % 2 ^ 23)
  let tag : List Byte := match x.vlan with
    | some (id, pcp) => beBytes 2 0x8100 ++ beBytes 2 (pcp * 2 ^ 13 + id)
    | none => []
  dst ++ beBytes 6 x.mac ++ tag ++ beBytes 2 (if x.v6 then 0x86DD else 0x0800)

/-- A UDP header and payload; the checksum covers `pseudo`. -/
def udpBytes (pseudo payload : List Byte) (withSum : Bool) : List Byte :=
  let head := beBytes 2 5568 ++ beBytes 2 5568 ++ beBytes 2 (payload.length + 8)
  let c := inetSum (pseudo ++ head ++ zeros 2 ++ payload)
  head ++ beBytes 2 (if withSum then (if c = 0 then 65535 else c) else 0) ++ payload

/-- An sACN frame to the group of a universe. `open_` is an open value: of the IP header fields and the IPv4 UDP checksum,
which no rule gives. -/
def sacnFrame (x : NetSrc) (u : Nat) (payload : List Byte) (open_ : Nat) : List Byte :=
  let n := payload.length + 8
  if x.v6 then
    let dst := group6 u
    let pseudo := x.ip6 ++ dst ++ beBytes 4 n ++ beBytes 4 17
    etherHeader x u ++ beBytes 4 (0x60000000 + open_ % 2 ^ 28) ++ beBytes 2 n ++ beBytes 1 17 ++ beBytes 1 64 ++ x.ip6 ++ dst ++
      udpBytes pseudo payload true
  else
    let src := beBytes 4 x.ip4
    let dst := group4 u
    let head : Nat → List Byte := fun c => beBytes 1 0x45 ++ beBytes 1 (open_ % 256) ++ beBytes 2 (n + 20) ++
      beBytes 2 (open_ / 256 % 65536) ++ beBytes 2 (open_ / 2 ^ 24 % 2 * 0x4000) ++ beBytes 1 64 ++ beBytes 1 17 ++ beBytes 2 c ++
      src ++ dst
    etherHeader x u ++ head (inetSum (head 0)) ++
      udpBytes (src ++ dst ++ beBytes 2 17 ++ beBytes 2 n) payload (open_ / 2 ^ 25 % 2 == 1)

/-! ### ANSI E1.31 -/

/-- Flags and length of a PDU of `n` bytes. -/
def pduLen (n : Nat) : List Byte := beBytes 2 (0x7000 + n)

/-- The root layer with its vector, over a framing layer. -/
def e131Root (vector : Nat) (cid framing : List Byte) : List Byte :=
  let acn : List Byte := [0x41, 0x53, 0x43, 0x2D, 0x45, 0x31, 0x2E, 0x31, 0x37, 0, 0, 0]
  beBytes 2 0x0010 ++ beBytes 2 0 ++ acn ++ pduLen (framing.length + 22) ++ beBytes 4 vector ++ cid ++ framing

/-- A data packet (R300): 638 bytes. -/
def e131Data (cid name : List Byte) (prio sync seq options univ : Nat) (vals : List Byte) : List Byte :=
  let dmp := pduLen 523 ++ beBytes 1 0x02 ++ beBytes 1 0xA1 ++ beBytes 2 0 ++ beBytes 2 1 ++ beBytes 2 513 ++ beBytes 1 0 ++ padTo 512 vals
  e131Root 4 cid (pduLen 600 ++ beBytes 4 2 ++ name ++ beBytes 1 prio ++ beBytes 2 sync ++ beBytes 1 seq ++ beBytes 1 options ++
    beBytes 2 univ ++ dmp)

/-- A synchronisation packet: 49 bytes. -/
def e131Sync (cid : List Byte) (seq sync : Nat) : List Byte :=
  e131Root 8 cid (pduLen 11 ++ beBytes 4 1 ++ beBytes 1 seq ++ beBytes 2 sync ++ zeros 2)

/-- A universe discovery packet. -/
def e131Discovery (cid name : List Byte) (page last : Nat) (us : List Nat) : List Byte :=
  let list := pduLen (8 + 2 * us.length) ++ beBytes 4 1 ++ beBytes 1 page ++ beBytes 1 last ++ us.flatMap (beBytes 2)
  e131Root 8 cid (pduLen (74 + list.length) ++ beBytes 4 2 ++ name ++ zeros 4 ++ list)

/-- The universe of discovery packets. -/
def discUniverse : Nat := 64214

end Sys2Proof.Machine
end

