-- ==== Sys2Proof/Machine/Operands.lean ====
section
/-! DEFINITION. The operands of register commands: the agent that accesses, and the values a field accepts (R7, R14, R452). -/

namespace Sys2Proof.Machine

/-- The source number of an agent that accesses registers (R452). -/
def agentSource : Agent → Nat
  | .host => Src.hostRegs
  | .core n => Src.core n
  | .fly n => Src.fly n

/-- A field accepts a value (R7, R14). -/
def Check.ok (c : Check) (width v : Nat) : Bool :=
  match c with
  | .any => true
  | .range lo hi => decide (lo ≤ v ∧ v ≤ hi)
  | .enum hi => decide (v ≤ hi)
  | .signed lo hi => decide (lo ≤ signedOf width v ∧ signedOf width v ≤ hi)
  | .zeroOr lo hi => decide (v = 0 ∨ (lo ≤ v ∧ v ≤ hi))
  | .gain32 => match f32 v with | .fin q => decide (1 / 4 ≤ q ∧ q ≤ 4) | _ => false
  | .pos32 => match f32 v with | .fin q => decide (0 < q) | _ => false

/-- The check has reserved encodings, so that a refused value is one. -/
def Check.enumerated : Check → Bool
  | .enum _ => true
  | _ => false

/-- A refused value of a field raises `RESERVED_ENCODING`: of an enumerated field, and of any `WO` field (R14). -/
def FieldDef.bad (f : FieldDef) (v : Nat) : Bool :=
  (f.access == .rw || f.access == .wo) && !f.check.ok f.width v && (f.check.enumerated || f.access == .wo)

end Sys2Proof.Machine
end

