-- ==== Sys2Proof/Machine/Flags.lean ====
section
/-! DEFINITION. Status flags and fields of registers: what writes, reads and resets make of them (R11, R12, R14, R15). -/

namespace Sys2Proof.Machine

/-- A value with its write-only fields read as 0. -/
def RegDef.readMask (r : RegDef) (v : Nat) : Nat :=
  r.fields.foldl (fun v f => if f.access = .wo then setBits v f.lsb f.width 0 else v) v

/-- The value left in a register after its `RC` fields have been read. -/
def RegDef.afterRead (r : RegDef) (v : Nat) : Nat :=
  r.fields.foldl (fun v f => if f.access = .rc then setBits v f.lsb f.width 0 else v) v

/-- What a write of `v` makes of the value `old` of a field (R12). -/
def FieldDef.next (f : FieldDef) (old v : Nat) : Nat :=
  match f.access with
  | .rw => if f.check.ok f.width v then v else old
  | .w1c => old - (old &&& v)
  | .w1s => old ||| v
  | _ => old

/-- The value of a register after a write of all its bits. -/
def RegDef.written (r : RegDef) (old v : Nat) : Nat :=
  r.fields.foldl (fun acc f => setBits acc f.lsb f.width (f.next (bits old f.lsb f.width) (bits v f.lsb f.width))) old

/-- A write carries a refused value that is reported. -/
def RegDef.refuses (r : RegDef) (v : Nat) : Bool := r.fields.any (fun f => f.bad (bits v f.lsb f.width))

/-- The fields of a register take the values written, each by its own rule. -/
def State.writeFields (s : State) (r : RegDef) (off v source : Nat) : State :=
  let s' := s.setRv off (r.written (s.rv off) v)
  if r.refuses v then s'.reservedEncoding source else s'

/-- A write to the register at an offset. -/
def State.writeReg (s : State) (off v source : Nat) : State :=
  match findReg off with
  | some (r, base) => s.writeFields r base v source
  | none => s

/-- The value a register keeps when the selected fields return to their reset values. -/
def RegDef.afterReset (r : RegDef) (sel : FieldDef → Bool) (old : Nat) : Nat :=
  r.fields.foldl (fun acc f => if sel f then setBits acc f.lsb f.width f.reset else acc) old

/-- Selected fields, of the registers whose offsets are in scope, return to their reset values. -/
def State.resetSel (s : State) (scope : Nat → Bool) (sel : FieldDef → Bool) : State :=
  (s.regs.map (·.1)).foldl (fun s off =>
    if scope off then
      match findReg off with
      | some (r, _) => s.setRv off (r.afterReset sel (s.rv off))
      | none => s
    else s) s

/-- Fields of some letters, of the registers whose offsets are in scope, return to their reset values (R15). -/
def State.resetFields (s : State) (scope : Nat → Bool) (letters : Letter → Bool) : State := s.resetSel scope (fun f => letters f.letter)

/-- Letters that each reset returns (R15). -/
def lettersBlock : Letter → Bool := (· == .B)
def lettersHost : Letter → Bool := fun l => l == .H || l == .B
def lettersWarm : Letter → Bool := fun l => l == .W || l == .H || l == .B
def lettersCold : Letter → Bool := (· != .G)

/-- Read-only B fields that show what runs on: where a link, its credits, its node and its calibration stand, an Ethernet or line port, a pass
under way, and a signal string's drive. `HOST` and `FLR` do not reach these machines (R433), and R52 has the show go on (assumption 186). -/
def showsRunning (reg field : String) : Bool :=
  ["CL_DELAY", "CL_CRED_ADV", "CL_CRED_HELD", "CL_CRED_OUT", "CL_CLAIM", "CL_NODE_ID", "CL_NODE_SERIAL", "CL_NODE_CAPS", "CL_CAL_STATE",
   "CL_RXL_SETTINGS", "NET_STATE", "NET_SACN_STATUS", "LINE_STATE", "SIG_STATE"].contains reg ||
    [("CL_STATE", "STATE"), ("CL_STATE", "ABSENT"), ("CL_STATE", "ADDRS"), ("CL_CFG_STATUS", "BUSY"), ("PSH_STATE", "PHASE")].contains (reg, field)

/-- What a `HOST` or `FLR` reset returns: H and B fields, but for those that show what runs on (R15, R52, R436). -/
def hostSel (r : RegDef) (f : FieldDef) : Bool := lettersHost f.letter && !(f.letter == .B && f.access == .ro && showsRunning r.name f.name)

/-- Selected fields, by their register, return to their reset values. -/
def State.resetBy (s : State) (scope : Nat → Bool) (sel : RegDef → FieldDef → Bool) : State :=
  (s.regs.map (·.1)).foldl (fun s off =>
    if scope off then
      match findReg off with
      | some (r, _) => s.setRv off (r.afterReset (sel r) (s.rv off))
      | none => s
    else s) s

end Sys2Proof.Machine
end

