-- ==== Sys2Proof/Machine/Queue.lean ====
section
/-! DEFINITION. Queue blocks (R395 to R403) and check units (R404 to R408). -/

namespace Sys2Proof.Machine

/-! ### Queue blocks -/

def qbReset : QbSt := ⟨[], 0, false, none, false, none, false⟩
def State.qbSt (s : State) (q : Nat) : QbSt := s.qb.get qbReset q
def State.setQb (s : State) (q : Nat) (x : QbSt) : State := { s with qb := s.qb.put qbReset q x }

/-- Words of a queue block. -/
def qbWords : Nat := 256

/-- The item of a word has ended. -/
def QbSt.ended (x : QbSt) (w : QWord) : Bool := w.item != x.item || !x.open_

/-- A word may be read (R397). -/
def QbSt.mayRead (x : QbSt) (w : QWord) : Bool :=
  w.complete && (x.ended w || x.reading == some w.item || (match w.ct with
    | none => false
    | some n => decide (n = 0 ∨ n ≤ (x.words.filter (fun y => y.item = w.item)).length)))

/-- The oldest word, if it may be read. -/
def QbSt.readable (x : QbSt) : Option QWord :=
  match x.words with
  | w :: _ => if x.mayRead w then some w else none
  | [] => none

/-- The oldest word is removed. -/
def QbSt.take (x : QbSt) (w : QWord) : QbSt :=
  { x with words := x.words.drop 1, reading := if w.last then none else some w.item }

/-- The word being packed, if there is one. -/
def QbSt.packing (x : QbSt) : Option QWord :=
  match x.words.getLast? with
  | some w => if x.open_ && !w.complete then some w else none
  | none => none

/-- Room for `n` bytes without a new word. -/
def QbSt.fits (x : QbSt) (n : Nat) : Bool :=
  match x.packing with
  | some w => decide (w.bytes.length + n ≤ 16)
  | none => false

/-- One byte is packed (R395): into the word being packed, or into a new one, which begins an item when none is open. -/
def QbSt.push (x : QbSt) (ct : Option Nat) (b : Byte) : QbSt :=
  match x.packing with
  | some w =>
    let w' : QWord := { w with bytes := w.bytes ++ [b], complete := w.bytes.length + 1 == 16 }
    { x with words := x.words.dropLast ++ [w'] }
  | none =>
    let item := if x.open_ then x.item else x.item + 1
    let c := if x.open_ then x.ct else ct
    { x with words := x.words ++ [⟨[b], !x.open_, false, x.gap, false, item, c⟩]
             item := item, open_ := true, ct := c, gap := false }

/-- The open item ends: its last word is tagged `LAST` (R396). -/
def QbSt.close (x : QbSt) : QbSt :=
  match x.words.getLast? with
  | some w => { x with words := x.words.dropLast ++ [{ w with last := true, complete := true }], open_ := false }
  | none => { x with open_ := false }

/-- The open item ends without a word tagged `LAST` (R399). -/
def QbSt.breakOff (x : QbSt) : QbSt :=
  match x.packing with
  | some w => { x with words := x.words.dropLast ++ [{ w with complete := true }], open_ := false, gap := true }
  | none => { x with open_ := false, gap := true }

/-- The threshold for the next item. -/
def State.qbCt (s : State) (q : Nat) : Option Nat :=
  if s.flag (F.QB_CFG.CT_EN q) then some (s.fld (F.QB_CFG.CT_THRESH q)) else none

/-- The value of a tag read that removed a word. -/
def QWord.tagWord (w : QWord) : Nat := w.bytes.length + b2n w.first * 32 + b2n w.last * 64 + b2n w.gap * 128 + 256

/-- A word is read through `QB_q_RD_TAG` (R398): its bytes are latched and its tags returned. -/
def State.qbGive (s : State) (q : Nat) (w : QWord) : State :=
  let s := s.setQb q { (s.qbSt q).take w with readWait := false }
  let b := padTo 16 w.bytes
  let s := (List.range 4).foldl (fun s k => s.setRv (R.QB_RD_DATA q k) (fieldAt b (4 * k) 4)) s
  s.send (.readData w.tagWord)

/-- A waiting register read takes a word that has become readable (R403). -/
def State.qbServe (s : State) (q : Nat) : State :=
  if (s.qbSt q).readWait then
    match (s.qbSt q).readable with
    | some w => s.qbGive q w
    | none => s
  else s

/-- Bytes are appended, and the item ended with `last`. -/
def State.qbStore (s : State) (q : Nat) (bs : List Byte) (last : Bool) : State :=
  let x := bs.foldl (fun x b => x.push (s.qbCt q) b) (s.qbSt q)
  let s := s.setQb q (if last then x.close else x)
  (if last then s.bump (F.QB_ITEM_CNT.COUNT q) else s).qbServe q

/-- A write of software through an alias (R396, R399, R401). -/
def State.qbWrite (s : State) (q : Nat) (bs : List Byte) (last : Bool) : State :=
  let x := s.qbSt q
  if s.flag (F.QB_CFG.WRITER q) then (s.setFld (F.QB_STATE.WR_REFUSED q) 1).bump (F.QB_IGNORED_CNT.COUNT q)
  else if x.fits bs.length || decide (x.words.length < qbWords) then s.qbStore q bs last
  else
    let s := (s.setFld (F.QB_STATE.OVERRUN q) 1).bump (F.QB_IGNORED_CNT.COUNT q)
    if last then ((s.setQb q x.breakOff).bump (F.QB_ITEM_CNT.COUNT q)).qbServe q
    else s.setQb q { x with gap := true }

/-- A whole item of a producer fits (R401). -/
def State.qbTakes (s : State) (q n : Nat) : Bool :=
  s.flag (F.QB_CFG.WRITER q) && decide ((s.qbSt q).words.length + ceilDiv n 16 ≤ qbWords)

/-- A producer writes a whole item, if it fits. -/
def State.qbProduce (s : State) (q : Nat) (item : List Byte) : State :=
  if s.qbTakes q item.length && !item.isEmpty then s.qbStore q item true else s

/-- A flush (R400). -/
def State.qbFlush (s : State) (q : Nat) : State :=
  let x := s.qbSt q
  (s.setQb q { qbReset with readWait := x.readWait }).bump (F.QB_FLUSH_CNT.COUNT q)

/-- A tag read that removes nothing: `VALID` is 0, and what the other bits hold is an open value. -/
def State.qbNothing (s : State) (q : Nat) : State :=
  ((s.setQb q { s.qbSt q with readWait := false }).send (.readData (s.freeVal % 256))).freeStep

/-- A register read of `QB_q_RD_TAG` (R398). -/
def State.qbReadTag (s : State) (q : Nat) : State :=
  match (s.qbSt q).readable with
  | some w => s.qbGive q w
  | none =>
    if s.fld F.QB_RD_STALL.NS = 0 then s.qbNothing q
    else (s.setQb q { s.qbSt q with readWait := true }).send .readStalls

/-- The wait of a tag read ends. -/
def State.qbStallEnds (s : State) (q : Nat) : State := if (s.qbSt q).readWait then s.qbNothing q else s

/-- Bytes that one alias write carries: 1, 2 or 4. -/
def aliasBytes (bs : List Byte) : Bool := bs.length == 1 || bs.length == 2 || bs.length == 4

/-- `QB_q_STATE` as read (R402). -/
def State.qbStateWord (s : State) (q : Nat) : Nat :=
  let x := s.qbSt q
  x.words.length + b2n (x.words.length == qbWords) * 512 + s.fld (F.QB_STATE.OVERRUN q) * 1024 +
    s.fld (F.QB_STATE.WR_REFUSED q) * 2048 + b2n x.open_ * 4096

def execQbWriteData (q : Ix32) (bytes : List Byte) (s : State) : Host.Outcome State Fault Refusal :=
  if aliasBytes bytes then s.done (s.when s.evtUp (s.qbWrite q bytes false)) else .fault .illFormed

def execQbWriteLast (q : Ix32) (bytes : List Byte) (s : State) : Host.Outcome State Fault Refusal :=
  if aliasBytes bytes then s.done (s.when s.evtUp (s.qbWrite q bytes true)) else .fault .illFormed

def execQbFlush (q : Ix32) (s : State) : Host.Outcome State Fault Refusal := s.done (s.when s.evtUp (s.qbFlush q))

def execQbRdTagRead (q : Ix32) (s : State) : Host.Outcome State Fault Refusal := s.done (s.when s.evtUp (s.qbReadTag q))

def execQbRdStallExpiry (q : Ix32) (s : State) : Host.Outcome State Fault Refusal := s.done (s.when s.evtUp (s.qbStallEnds q))

def execQbProducerWrite (q : Ix32) (item : List Byte) (s : State) : Host.Outcome State Fault Refusal :=
  s.done (s.when s.evtUp (s.qbProduce q item))

/-! ### Check units -/

/-- Preset values: width, polynomial, initial value, reflection, final exclusive-or (R404). -/
def chkPreset (p : Nat) : Nat × Nat × Nat × Bool × Nat :=
  if p = 1 then (32, 0x04C11DB7, 0xFFFFFFFF, true, 0xFFFFFFFF)
  else if p = 2 then (32, 0x1EDC6F41, 0xFFFFFFFF, true, 0xFFFFFFFF)
  else if p = 3 then (16, 0x1021, 0xFFFF, false, 0)
  else (8, 0x1D, 0xFF, false, 0xFF)

def State.chkWidth (s : State) (c : Nat) : Nat := s.fld (F.CHK_CFG.WIDTH c)
/-- `POLY`, `INIT` and `XOROUT` read 0 at and above `WIDTH`. -/
def State.chkPoly (s : State) (c : Nat) : Nat := s.rv (R.CHK_POLY c) % 2 ^ s.chkWidth c
def State.chkInitVal (s : State) (c : Nat) : Nat := s.rv (R.CHK_INIT c) % 2 ^ s.chkWidth c
def State.chkXor (s : State) (c : Nat) : Nat := s.rv (R.CHK_XOROUT c) % 2 ^ s.chkWidth c

/-- `INIT` (R405). -/
def State.chkInit (s : State) (c : Nat) : State := (s.setRv (R.CHK_CRC c) (s.chkInitVal c)).setRv (R.CHK_POS c) 0

/-- A write of `CFG` (R404): a preset loads its values; the running value starts anew. -/
def State.chkCfg (s : State) (c v source : Nat) : State :=
  let s := s.writeReg (R.CHK_CFG c) v source
  let p := s.fld (F.CHK_CFG.PRESET c)
  let s := if p = 0 then s
    else
      let x := chkPreset p
      let s := (s.setFld (F.CHK_CFG.WIDTH c) x.1).setRv (R.CHK_POLY c) x.2.1
      let s := (s.setRv (R.CHK_INIT c) x.2.2.1).setRv (R.CHK_XOROUT c) x.2.2.2.2
      (s.setFld (F.CHK_CFG.REFIN c) (b2n x.2.2.2.1)).setFld (F.CHK_CFG.REFOUT c) (b2n x.2.2.2.1)
  s.chkInit c

/-- `RESULT` (R405). -/
def State.chkResult (s : State) (c : Nat) : Nat :=
  crcResult (s.chkWidth c) (s.chkXor c) (s.flag (F.CHK_CFG.REFOUT c)) (s.rv (R.CHK_CRC c))

/-- The alive counter in the byte at its position (R408). -/
def State.chkAlive (s : State) (c : Nat) (b : Byte) : State :=
  let wide := s.flag (F.CHK_ALIVE_CFG.WIDTH8 c)
  let m := if wide then 256 else 16
  let v := if wide then b.toNat else if s.flag (F.CHK_ALIVE_CFG.NIBBLE c) then b.toNat / 16 else b.toNat % 16
  let l := s.fld (F.CHK_ALIVE_STATE.L c)
  let take : State → Nat → State := fun s r =>
    ((s.setFld (F.CHK_ALIVE_STATE.L c) v).setFld (F.CHK_ALIVE_STATE.HAVE c) 1).setFld (F.CHK_ALIVE_STATE.RESULT c) r
  if !s.flag (F.CHK_ALIVE_STATE.HAVE c) || v == (l + s.fld (F.CHK_ALIVE_CFG.INC c)) % m then take s 1
  else if v = l then (s.bumpSat (F.CHK_ALIVE_CNT.REPEAT_CNT c) 1).setFld (F.CHK_ALIVE_STATE.RESULT c) 2
  else take (s.bumpSat (F.CHK_ALIVE_CNT.SKIP_CNT c) 1) 3

/-- One byte is fed (R405, R408). -/
def State.chkByte (s : State) (c : Nat) (b : Byte) : State :=
  let pos := s.fld (F.CHK_POS.POS c)
  let s := s.setRv (R.CHK_CRC c) (crcByte (s.chkWidth c) (s.chkPoly c) (s.flag (F.CHK_CFG.REFIN c)) (s.rv (R.CHK_CRC c)) b)
  let s := s.setFld (F.CHK_POS.POS c) (min (pos + 1) 65535)
  if s.flag (F.CHK_ALIVE_CFG.EN c) && pos == s.fld (F.CHK_ALIVE_CFG.BYTE c) then s.chkAlive c b else s

def State.chkData (s : State) (c : Nat) (bs : List Byte) : State := bs.foldl (fun s b => s.chkByte c b) s

/-- `ALIVE_RESET`: the next value is accepted. -/
def State.aliveReset (s : State) (c : Nat) : State := s.setFld (F.CHK_ALIVE_STATE.HAVE c) 0

def execChkCfgWrite (c : Ix16) (value : Word) (s : State) : Host.Outcome State Fault Refusal :=
  s.done (s.when s.evtUp (s.chkCfg c value.toNat Src.hostRegs))

def execChkDataWrite (c : Ix16) (bytes : List Byte) (s : State) : Host.Outcome State Fault Refusal :=
  if aliasBytes bytes then s.done (s.when s.evtUp (s.chkData c bytes)) else .fault .illFormed

def execChkInit (c : Ix16) (s : State) : Host.Outcome State Fault Refusal := s.done (s.when s.evtUp (s.chkInit c))

def execChkAliveReset (c : Ix16) (s : State) : Host.Outcome State Fault Refusal := s.done (s.when s.evtUp (s.aliveReset c))

end Sys2Proof.Machine
end

