-- ==== Sys2Proof/Machine/Net.lean ====
section
/-! DEFINITION. Ethernet ports and sACN (R286 to R304). -/

namespace Sys2Proof.Machine

def netReset : NetSt := ⟨[], [], [], false, [], 0, none, [], [], [], [], [], [], [], [], [], 0⟩
def State.netSt (s : State) (p : Nat) : NetSt := s.net.get netReset p
def State.setNet (s : State) (p : Nat) (x : NetSt) : State := { s with net := s.net.put netReset p x }
def State.updNet (s : State) (p : Nat) (f : NetSt → NetSt) : State := s.setNet p (f (s.netSt p))

/-- The ports are powered and out of reset. -/
def State.netUp (s : State) : Bool := s.powered .net && s.evtUp

/-- Bytes of a port's TX buffer, and of its RX buffer (R287). -/
def txBuffer : Nat := 262144
def rxBuffer : Nat := 262144

/-! ### Clocks and stamps (R293 to R297) -/

/-- A stage clock's value in 2^−16 ns. -/
def State.stampOf (s : State) (clock : Nat) : Nat := (s.clk (if clock = 1 then .B else .A)).val / 65536

/-- Fields of a stamp in 2^−16 ns: seconds, nanoseconds and fraction. -/
def stampSec (t : Nat) : Nat := t / 65536 / 1000000000 % 2 ^ 48
def stampNs (t : Nat) : Nat := t / 65536 % 1000000000
def stampFrac (t : Nat) : Nat := t % 65536

/-- The KX64's own delays of a mode (R294) in 2^−16 ns, to the nearest, TX then RX; 0 with the port off (assumption 41). -/
def modeDelays (mode : Nat) : Nat × Nat :=
  let u : Nat → Nat := fun n => (n * 65536 + 50) / 100
  if mode = 1 then (u 3840, u 5220) else if mode = 2 then (u 14110, u 23650) else if mode = 3 then (u 7040, u 9600)
  else if mode = 4 ∨ mode = 5 then (u 18400, u 24800) else (0, 0)

/-- `NET_p_TS_DLY_TX` and `NET_p_TS_DLY_RX`: the delays of the mode in force (R294). -/
def State.portDelays (s : State) (p : Nat) : Nat × Nat := modeDelays (s.fld (F.NET_CFG.MODE p))

/-- TX stamp = captured + `TS_DLY_TX` + `TS_CORR_TX` (R295). -/
def State.txStamp (s : State) (p clock : Nat) : Nat :=
  ((s.stampOf clock + (s.portDelays p).1 : Nat) + signedOf 32 (s.rv (R.NET_TS_CORR_TX p)) : Int).toNat

/-- RX stamp = captured − `TS_DLY_RX` − `TS_CORR_RX` (R295). -/
def State.rxStamp (s : State) (p clock : Nat) : Nat :=
  ((s.stampOf clock : Int) - (s.portDelays p).2 - signedOf 32 (s.rv (R.NET_TS_CORR_RX p))).toNat

/-- An entry of the timestamp queue (R297). -/
def State.tsqPush (s : State) (p tag clock stamp : Nat) : State :=
  let x := s.netSt p
  if x.tsq.length < 128 then s.setNet p { x with tsq := x.tsq ++ [⟨tag, x.tsqLost, clock, stamp⟩], tsqLost := 0 }
  else (s.setNet p { x with tsqLost := x.tsqLost + 1 }).bump (F.NET_TSQ_LOST_CNT.COUNT p)

/-- A read of `NET_p_TSQ_TAG` (R297): the rest of the entry is latched. With an empty queue `TAG` is an open value. -/
def State.tsqRead (s : State) (p : Nat) : State :=
  let x := s.netSt p
  match x.tsq with
  | e :: rest =>
    let s := s.setNet p { x with tsq := rest }
    let s := s.setRv (R.NET_TSQ_1 p) (min e.lost 65535 + 65536 + e.clock * 131072)
    let s := s.setRv (R.NET_TSQ_2 p) (stampSec e.stamp % 2 ^ 32)
    let s := s.setRv (R.NET_TSQ_3 p) (stampSec e.stamp / 2 ^ 32 + stampFrac e.stamp * 65536)
    (s.setRv (R.NET_TSQ_4 p) (stampNs e.stamp)).send (.readData e.tag)
  | [] => ((s.setFld (F.NET_TSQ_1.VALID p) 0).send (.readData (s.freeVal % 2 ^ 32))).freeStep

def execTsqRead (port : PortIx) (s : State) : Host.Outcome State Fault Refusal := s.done (s.when s.netUp (s.tsqRead port))

/-! ### Pause (R292) -/

/-- The port honours PAUSE frames (R292). -/
def State.honoursPause (s : State) (p : Nat) : Bool := !s.flag (F.NET_STATE.PAUSE_IGNORED p) && s.fld (F.NET_PAUSE.WD p) != 0

/-- A PAUSE frame (R292): quanta of 0 end the pause. -/
def State.pauseRx (s : State) (p quanta : Nat) : State :=
  let s := s.bump (F.NET_PAUSE_RX_CNT.COUNT p)
  if s.honoursPause p then s.updNet p (fun x => { x with paused := quanta != 0 }) else s

def execPauseFrameRx (port : PortIx) (quanta : BitVec 16) (s : State) : Host.Outcome State Fault Refusal :=
  s.done (s.when (s.netUp && s.flag (F.NET_STATE.LINK_UP port)) (s.pauseRx port quanta.toNat))

/-- The pause watchdog trips (R292). -/
def State.pauseTrips (s : State) (p : Nat) : State :=
  if (s.netSt p).paused then
    ((s.updNet p (fun x => { x with paused := false })).setFld (F.NET_STATE.PAUSE_IGNORED p) 1).raise (Src.eth p)
      E.NET_PAUSE_IGNORED [p]
  else s

def execPauseWdExpiry (port : PortIx) (s : State) : Host.Outcome State Fault Refusal := s.done (s.when s.netUp (s.pauseTrips port))

/-- The requested pause runs out. -/
def State.pauseEnds (s : State) (p : Nat) : State := s.updNet p (fun x => { x with paused := false })

def execPauseTimerExpiry (port : PortIx) (s : State) : Host.Outcome State Fault Refusal := s.done (s.when s.netUp (s.pauseEnds port))

/-- `REARM` (R292): the total lies with the timer that PAUSE_WD_EXPIRY stands for. -/
def State.pauseRearm (s : State) (p : Nat) : State := s.setFld (F.NET_STATE.PAUSE_IGNORED p) 0

def execNetPauseRearm (port : PortIx) (s : State) : Host.Outcome State Fault Refusal := s.done (s.when s.netUp (s.pauseRearm port))

/-! ### Rings (R289, R290) -/

/-- Stage SRAM bytes, and a write of them, by the KX64's own ports. -/
def State.sramRead (s : State) (off n : Nat) : List Byte := s.mem.bytesAt (.sram (off % sramBytes)) n
def State.sramPut (s : State) (off : Nat) (b : List Byte) : State := s.writeMem (.sram (off % sramBytes)) b

def State.txDesc (s : State) (p q slot : Nat) : Nat := s.fld (F.NET_TXQ_BASE.OFFSET p q) * 8192 + slot * 32
def State.rxDesc (s : State) (p q slot : Nat) : Nat := s.fld (F.NET_RXQ_BASE.OFFSET p q) * 8192 + slot * 32

/-- A `ONE_STEP` header, the 34 bytes of the PTP common header, lies wholly within the frame (R289). -/
def oneStepFits (off len : Nat) : Bool := decide (off + 34 ≤ len)

/-- The descriptor at a slot, as it enters the buffer (R289). -/
def State.txLoad (s : State) (p q slot : Nat) : TxPkt :=
  let d := s.sramRead (s.txDesc p q slot) 32
  let len := fieldAt d 4 2
  let flags := fieldAt d 6 2
  let bad := !(decide (60 ≤ len ∧ len ≤ 9596)) || (bit flags 2 && !oneStepFits (fieldAt d 8 2) len)
  ⟨q, some slot, flags, fieldAt d 8 2, fieldAt d 12 4, if bad then [] else s.sramRead (fieldAt d 0 4) len, 0, bad, 0⟩

/-- Bytes a port's buffer holds. -/
def NetSt.bytes (x : NetSt) : Nat := (x.txq.map (fun k => k.bytes.length)).sum

/-- A frame of a lower queue than `q`, of the lowest such queue and the last of it: what gives way to a frame of queue `q`. -/
def NetSt.givesWay (x : NetSt) (q : Nat) : Option TxPkt :=
  ((List.range q).filterMap (fun r => (x.txq.filter (·.q = r)).getLast?)).head?

/-- A frame goes back: a ring's to its ring, a packetiser's to the packetiser. -/
def NetSt.giveBack (x : NetSt) (k : TxPkt) : NetSt :=
  let x := { x with txq := (x.txq.reverse.erase k).reverse }
  match k.slot with
  | some slot => { x with fetched := x.fetched.put 0 k.q slot }
  | none => { x with build := k :: x.build }

/-- Room is made in the buffer for `n` bytes of queue `q`: frames of lower queues go back while they must, at most `fuel` (R288,
assumption 183). -/
def NetSt.makeRoom (x : NetSt) (q n : Nat) : Nat → NetSt
  | 0 => x
  | fuel + 1 =>
    if x.bytes + n ≤ txBuffer then x
    else match x.givesWay q with
      | some k => NetSt.makeRoom (x.giveBack k) q n fuel
      | none => x

/-- A frame enters the buffer if there is room for it once lower queues have given way; what to do then is `taken`. -/
def State.enterTx (s : State) (p : Nat) (k : TxPkt) (taken : NetSt → NetSt) : Option State :=
  let x := s.netSt p
  let y := x.makeRoom k.q k.bytes.length x.txq.length
  if y.bytes + k.bytes.length ≤ txBuffer then some (s.setNet p (taken { y with txq := y.txq ++ [k] })) else none

/-- Posted descriptors enter the buffer while it has room; at most `n`. -/
def State.loadRing (s : State) (p q : Nat) : Nat → State
  | 0 => s
  | n + 1 =>
    let slot := (s.netSt p).fetched.get 0 q
    if slot = s.fld (F.NET_TXQ_PTR.TAIL p q) ∨ ¬ s.flag (F.NET_TXQ_BASE.EN p q) then s
    else match s.enterTx p (s.txLoad p q slot) (fun y => { y with fetched := y.fetched.put 0 q ((slot + 1) % 256) }) with
      | some t => State.loadRing t p q n
      | none => s

/-- The packetisers' packets of a queue enter the buffer while it has room; at most `n`. -/
def State.loadBuild (s : State) (p q : Nat) : Nat → State
  | 0 => s
  | n + 1 =>
    match (s.netSt p).build.find? (·.q = q) with
    | some k =>
      match s.enterTx p k (fun y => { y with build := y.build.erase k }) with
      | some t => State.loadBuild t p q n
      | none => s
    | none => s

/-- A descriptor of a TX ring completes: `DONE`, with `ERR` for a bad one, and `HEAD` advances. -/
def State.txComplete (s : State) (p : Nat) (k : TxPkt) : State :=
  match k.slot with
  | none => s
  | some slot =>
    let s := s.sramPut (s.txDesc p k.q slot + 6) (leBytes 2 (k.flags % 32 + 1 - k.flags % 2 + b2n k.bad * 32))
    let s := if k.bad then s.bump (F.NET_TX_BAD_CNT.COUNT p) else s
    s.setFld (F.NET_TXQ_PTR.HEAD p k.q) ((slot + 1) % 256)

/-- Bad descriptors at the head of a queue complete; at most `n`. -/
def State.dropBad (s : State) (p q : Nat) : Nat → State
  | 0 => s
  | n + 1 =>
    let x := s.netSt p
    match x.txq.find? (·.q = q) with
    | some k => if k.bad then State.dropBad ((s.setNet p { x with txq := x.txq.erase k }).txComplete p k) p q n else s
    | none => s

/-- The buffer takes what it can, of the highest queue first (R288). -/
def State.fillTx (s : State) (p : Nat) : State :=
  ([7, 6, 5, 4, 3, 2, 1, 0] : List Nat).foldl (fun s q =>
    ((s.loadBuild p q (s.netSt p).build.length).loadRing p q 255).dropBad p q 256) s

/-- A `BLOCK` reset of a port (R286): B fields, buffers, pause and timestamp queue. The settings stand, and so do the
sequence numbers and what was last sent (R304). What is posted enters the buffer anew. -/
def State.netBlock (s : State) (p : Nat) : State :=
  let lo := 0x01800000 + p * 0x10000
  let s := s.resetFields (fun off => decide (lo ≤ off ∧ off < lo + 0x480)) lettersBlock
  let s := s.updNet p (fun x => { x with txq := [], build := [], fetched := [], paused := false, tsq := [], tsqLost := 0,
                                         syncDue := [], syncHeld := [], rxHeld := 0 })
  let s := (List.range 8).foldl (fun s q => s.updNet p (fun x => { x with
    fetched := x.fetched.put 0 q (s.fld (F.NET_TXQ_PTR.HEAD p q)) })) s
  ({ s with sacnDue := true }).fillTx p

/-- `MODE` is written (R286): a change resets the port. -/
def State.netMode (s : State) (p mode source : Nat) : State :=
  if 6 ≤ mode then s.reservedEncoding source
  else if mode = s.fld (F.NET_CFG.MODE p) then s
  else (s.setFld (F.NET_CFG.MODE p) mode).netBlock p

def execNetModeWrite (port : PortIx) (mode : BitVec 3) (s : State) : Host.Outcome State Fault Refusal :=
  s.done (s.when (s.netUp && !s.absent (R.NET_CFG port)) (s.netMode port mode.toNat Src.hostRegs))

/-- `TAIL` of a ring is written (R289). -/
def State.ringTail (s : State) (p : Nat) (tx : Bool) (q tail : Nat) : State :=
  if tx then (s.setFld (F.NET_TXQ_PTR.TAIL p q) tail).fillTx p else s.setFld (F.NET_RXQ_PTR.TAIL p q) tail

def execEthTxPost (port : PortIx) (tx : Bool) (q : Fin 8) (tail : Byte) (s : State) : Host.Outcome State Fault Refusal :=
  s.done (s.when s.netUp (s.ringTail port tx q tail.toNat))

/-! ### Sending (R288, R296, R369) -/

/-- A one-step stamp is written into a departing frame (R296). -/
def stampFrame (b : List Byte) (off stamp flags : Nat) : List Byte :=
  let corr := ofSigned 64 (signedOf 64 (beAt b (off + 8) 8) + (stampFrac stamp : Int))
  let b' := patch (patch b (off + 8) (beBytes 8 corr)) (off + 34) (beBytes 6 (stampSec stamp) ++ beBytes 4 (stampNs stamp))
  match udpOff b with
  | none => b'
  | some u =>
    if etherType b = 0x0800 then patch b' (u + 6) (zeros 2)
    else if bit flags 4 then
      let n := beAt b (u + 4) 2
      let old := wordSum (slice b u n)
      let last := u + n - 2
      let cleared := patch b' last (zeros 2)
      let want := foldCarry (foldCarry (old + 65535 * 65536 - wordSum (slice cleared u n)))
      patch cleared last (beBytes 2 (if n % 2 = 0 then want else want % 256 * 256 + want / 256))
    else b'

/-- Frames that a switched port discards (R369). -/
def TxPkt.show_ (k : TxPkt) : Bool := k.sacn != 0 || (k.sacn == 0 && udpPort k.bytes == some 5568)

/-- The Curtain's selector of an Ethernet port. -/
def State.netCurtain (s : State) (p : Nat) : Bool := bit (s.fld F.CUR_SEL_PORT.NET) p

/-- The next frame: the highest non-empty queue, in order. -/
def NetSt.nextTx (x : NetSt) : Option TxPkt :=
  ([7, 6, 5, 4, 3, 2, 1, 0] : List Nat).findSome? (fun q => x.txq.find? (·.q = q))

/-- A sync packet enters queue 6 (R301). -/
def State.queueSync (s : State) (p : Nat) (k : TxPkt) : State := (s.updNet p (fun x => { x with build := x.build ++ [k] })).fillTx p

/-- Source identity of a port (R298, R300). -/
def State.netSrc (s : State) (p : Nat) : NetSrc :=
  ⟨s.fld (F.NET_MAC.MAC p), s.rv (R.NET_IP4 p), ((List.range 4).flatMap (fun k => leBytes 4 (s.rv (R.NET_IP6 p k)))).reverse,
    s.flag (F.NET_CFG.IP6 p),
    if s.flag (F.NET_CFG.VLAN_EN p) then some (s.fld (F.NET_CFG.VLAN_ID p), s.fld (F.NET_CFG.PCP p)) else none⟩
def State.sacnCid (s : State) : List Byte := (List.range 4).flatMap (fun k => leBytes 4 (s.rv (R.NET_SACN_CID k)))
def State.sacnName (s : State) : List Byte := (List.range 16).flatMap (fun k => leBytes 4 (s.rv (R.NET_SACN_NAME k)))

/-- A packet of the packetisers to a universe's group, with the next sequence number of its own sequence, which `key` names. -/
def State.mkPacket (s : State) (p q sacn u key frame : Nat) (payload : Nat → List Byte) : State × TxPkt :=
  let seq := (s.netSt p).seqs.get 0 key
  let k : TxPkt := ⟨q, none, 0, 0, 0, sacnFrame (s.netSrc p) u (payload seq) s.freeVal, sacn, false, frame⟩
  (((s.updNet p (fun x => { x with seqs := x.seqs.put 0 key ((seq + 1) % 256) }))).freeStep, k)

/-- The sync packet of a port for a universe, numbered in a sequence of its own (ANSI E1.31). -/
def State.syncPacket (s : State) (p u : Nat) : State × TxPkt :=
  s.mkPacket p 6 2 u (65536 + u) 0 (fun seq => e131Sync s.sacnCid seq u)

/-- Data packets of a sending frame are still to depart. -/
def NetSt.dataLeft (x : NetSt) (frame : Nat) : Bool := (x.txq ++ x.build).any (fun k => k.sacn = 1 && k.frame = frame)

/-- Held sync packets go, oldest first, when nothing holds them any longer. -/
def State.releaseSync (s : State) (p : Nat) : State :=
  (s.netSt p).syncHeld.foldl (fun s d =>
    if (s.netSt p).dataLeft d.1 then s
    else
      let r := (s.updNet p (fun x => { x with syncHeld := x.syncHeld.erase d })).syncPacket p d.2
      r.1.queueSync p r.2) s

/-- A frame leaves the port. -/
def State.txDepart (s : State) (p : Nat) (k : TxPkt) : State :=
  let s := s.updNet p (fun x => { x with txq := x.txq.erase k })
  let s :=
    if s.netCurtain p && k.show_ then s.bump F.CUR_NET_DISCARD_CNT.COUNT
    else
      let clock := bits k.flags 3 1
      let stamp := s.txStamp p clock
      let b := if bit k.flags 2 then stampFrame k.bytes k.ptpOff stamp k.flags else k.bytes
      let s := s.send (.ethFrame p b)
      let s := (s.bump (F.NET_TX_FRAME_CNT.COUNT p)).bumpBy (F.NET_TX_BYTE_CNT.COUNT p) (b.length + 4)
      let s := if k.sacn = 1 then s.bump (F.NET_SACN_DATA_CNT.COUNT p) else s
      if bit k.flags 1 then s.tsqPush p k.tag clock stamp else s
  (((s.txComplete p k).dropBad p k.q 256).fillTx p).releaseSync p

/-- The port may send: its link is up and no pause is in force. -/
def State.maySend (s : State) (p : Nat) : Bool := s.flag (F.NET_STATE.LINK_UP p) && !(s.netSt p).paused

def State.departNext (s : State) (p : Nat) : State :=
  match (s.netSt p).nextTx with
  | some k => if s.maySend p then s.txDepart p k else s
  | none => s

def execEthTxFrameDepart (port : PortIx) (s : State) : Host.Outcome State Fault Refusal :=
  s.done (s.when s.netUp (s.departNext port))

/-- The link goes down (R304): frames in the buffer are discarded, and a ring's descriptors complete. -/
def State.linkDown (s : State) (p : Nat) : State :=
  let l := (s.netSt p).txq
  let s := (s.setFld (F.NET_STATE.LINK_UP p) 0).setFld (F.NET_STATE.FEC_LOCK p) 0
  let s := (s.updNet p (fun x => { x with txq := [] })).bumpBy (F.NET_TX_DROP_CNT.COUNT p) l.length
  ((l.foldl (fun s k => s.txComplete p k) s).fillTx p).releaseSync p

def execEthLinkDown (port : PortIx) (s : State) : Host.Outcome State Fault Refusal :=
  s.done (s.when (s.netUp && s.flag (F.NET_STATE.LINK_UP port)) (s.linkDown port))

/-- The link comes up (R286). -/
def State.linkComesUp (s : State) (p : Nat) : State :=
  ((s.setFld (F.NET_STATE.LINK_UP p) 1).setFld (F.NET_STATE.FEC_LOCK p) (b2n (s.fld (F.NET_CFG.MODE p) == 2))).fillTx p

def execEthLinkUp (port : PortIx) (s : State) : Host.Outcome State Fault Refusal :=
  s.done (s.when (s.netUp && s.fld (F.NET_CFG.MODE port) != 0) (s.linkComesUp port))

/-! ### Receiving (R287, R290, R291) -/

/-- A rule's tests hold (R291). -/
def State.ruleHits (s : State) (p k : Nat) (b : List Byte) : Bool :=
  let ty := s.fld (F.NET_RULE.ETHERTYPE p k)
  let port := s.fld (F.NET_RULE.UDP_PORT p k)
  s.flag (F.NET_RULE.EN p k) &&
    (!s.flag (F.NET_RULE.PCP_EN p k) || outerPcp b == some (s.fld (F.NET_RULE.PCP p k))) &&
    (ty == 0 || etherType b == ty) && (port == 0 || udpPort b == some port)

/-- A frame is delivered to a queue (R289, R290). -/
def State.rxDeliver (s : State) (p q clock rule : Nat) (b : List Byte) : State :=
  let head := s.fld (F.NET_RXQ_PTR.HEAD p q)
  if ¬ s.flag (F.NET_RXQ_BASE.EN p q) ∨ head = s.fld (F.NET_RXQ_PTR.TAIL p q) then s.bump (F.NET_RX_NODESC_CNT.COUNT p)
  else
    let d := s.rxDesc p q head
    let buf := leNat (s.sramRead d 4)
    let size := leNat (s.sramRead (d + 4) 2)
    if size < b.length then s.bump (F.NET_RX_DROP_CNT.COUNT p)
    else
      let t := s.rxStamp p clock
      let s := s.sramPut buf b
      let s := s.sramPut (d + 6) (leBytes 2 b.length ++ leBytes 8 (stampSec t) ++ leBytes 4 (stampNs t) ++ leBytes 2 (stampFrac t) ++
        leBytes 1 rule ++ leBytes 1 (1 + clock * 2))
      s.setFld (F.NET_RXQ_PTR.HEAD p q) ((head + 1) % 256)

/-- A received frame (R287, R291). The room that it takes in the RX buffer is free again at the next tick (assumption 184). -/
def State.rxEth (s : State) (p : Nat) (b : List Byte) (fcsOk : Bool) : State :=
  let n := b.length + 4
  if n < 64 ∨ 9600 < n then s.bump (F.NET_RX_SIZE_ERR_CNT.COUNT p)
  else if !fcsOk then s.bump (F.NET_RX_FCS_ERR_CNT.COUNT p)
  else if rxBuffer < (s.netSt p).rxHeld + n then s.bump (F.NET_RX_DROP_CNT.COUNT p)
  else
    let s := s.updNet p (fun x => { x with rxHeld := x.rxHeld + n })
    let s := (s.bump (F.NET_RX_FRAME_CNT.COUNT p)).bumpBy (F.NET_RX_BYTE_CNT.COUNT p) n
    match (List.range 16).find? (fun k => s.ruleHits p k b) with
    | some k =>
      if s.flag (F.NET_RULE.DROP p k) then s.bump (F.NET_RX_RULE_DROP_CNT.COUNT p)
      else s.rxDeliver p (s.fld (F.NET_RULE.QUEUE p k)) (s.fld (F.NET_RULE.CLOCK p k)) k b
    | none => s.rxDeliver p 0 0 0xFF b

def execEthRxFrame (port : PortIx) (frame : List Byte) (fcsOk : Bool) (s : State) : Host.Outcome State Fault Refusal :=
  s.done (s.when (s.netUp && s.flag (F.NET_STATE.LINK_UP port)) (s.rxEth port frame fcsOk))

/-! ### Admission (R298, R303) -/

/-- Universes live on a port under a configuration, ascending (R298). -/
def State.liveUniverses (s : State) (c : CfgTab) (p : Nat) : List Nat :=
  let lo := s.fld (F.NET_SACN_RANGE.LO p)
  let hi := s.fld (F.NET_SACN_RANGE.HI p)
  ((c.fixtures.map (c.entry tPatch)).filter (fun e => Pt.route e == routeSacn && decide (lo ≤ Pt.routeA e ∧ Pt.routeA e ≤ hi))).foldl
    (fun l e => insertAsc (Pt.routeA e) l) []

/-- Packets per second of the whole KX64, and of a port at 1 Gb/s and below. -/
def budgetAll : Nat := 720896
def budgetSlow : Nat := 160000

/-- Universes of a port admitted, with the budget spent: `total` before the port. -/
def admitPort (slow : Bool) (rate : Nat) : List Nat → Nat → Nat → List Nat × Nat
  | [], total, _ => ([], total)
  | u :: rest, total, port =>
    if total + rate ≤ budgetAll ∧ (¬ slow ∨ port + rate ≤ budgetSlow) then
      let r := admitPort slow rate rest (total + rate) (port + rate)
      (u :: r.1, r.2)
    else admitPort slow rate rest total port

/-- Admission on one port after those before it. -/
def State.admitOn (c : CfgTab) (a : State × Nat) (p : Nat) : State × Nat :=
  let s := a.1
  let live := s.liveUniverses c p
  let mode := s.fld (F.NET_CFG.MODE p)
  let r := admitPort (mode == 4 || mode == 5) (s.fld (F.NET_SACN_CTRL.MAX_RATE p)) live a.2 0
  let s := (s.updNet p (fun x => { x with admitted := r.1 })).setFld (F.NET_SACN_STATUS.ADMITTED p) r.1.length
  match live.find? (fun u => !r.1.contains u) with
  | some u => ((s.setFld (F.NET_SACN_STATUS.OVERLOAD p) 1).raise (Src.eth p) E.SACN_OVERLOAD [p, u], r.2)
  | none => (s.setFld (F.NET_SACN_STATUS.OVERLOAD p) 0, r.2)

/-- Admission is computed anew (R303). -/
def State.admitSacn (s : State) (c : CfgTab) : State :=
  { ((List.range 8).foldl (State.admitOn c) (s, 0)).1 with sacnDue := false }

/-! ### The packetiser (R299 to R301, R339) -/

/-- The universes to send, and those being terminated, in ascending order; the second part says terminated. -/
def sendList (live : List Nat) (term : FMap Nat) : List (Nat × Bool) :=
  (((live ++ term.map (·.1)).foldl (fun l u => insertAsc u l) [])).map (fun u => (u, !live.contains u))

/-- The images of the latest frame complete that is not later than a frame, with its number. -/
def State.imagesFor (s : State) (seq : Nat) : FMap (List Byte) × Nat :=
  match (s.frames.filter (fun f => decide (f.seq ≤ seq) && f.phase == 4)).getLast? with
  | some f => (f.slots, f.seq + 1)
  | none => (s.fix.slots, s.fix.slotsSeq)

/-- The first frame, scheduled or to come, whose T_present is at or after a bound: its T_present and, once its cues have closed,
its number. -/
def State.nextFrameFrom (s : State) (bound : Option Nat) : Option (Nat × Option Nat) :=
  let ok : Nat → Bool := fun t => match bound with | none => true | some b => decide (b ≤ t)
  match s.frames.find? (fun f => ok f.tPres) with
  | some f => some (f.tPres, some f.seq)
  | none =>
    let c := s.time.sched
    if !c.running then none
    else
      let at_ : Int → Int := fun k => (c.anchor : Int) + k * ((c.den * secU : Nat) : Int) / (c.num : Int)
      match bound with
      | none => some ((at_ c.k).toNat, none)
      | some b =>
        let k := max c.k (-(-(((b : Int) - c.anchor) * c.num) / ((c.den * secU : Nat) : Int)))
        some ((at_ (if at_ k < b then k + 1 else k)).toNat, none)

/-- The tables of a frame on its way; those in force where its cues have not closed yet. -/
def State.configOf (s : State) (seq : Option Nat) : CfgTab :=
  match s.frames.find? (fun f => seq = some f.seq) with
  | some f => f.cfg
  | none => s.cfgApp

/-- sACN priority in force (R339). -/
def State.sacnPrio (s : State) (p : Nat) : Nat :=
  if s.understudy then s.tdm.prio - 1 else s.fld (F.NET_SACN_CTRL.PRIORITY p)

/-- The least T_present of the port's next sending frame. -/
def State.sendBound (s : State) (p : Nat) : Option Nat :=
  (s.netSt p).lastSend.map (fun t => t + ceilDiv secU (s.fld (F.NET_SACN_CTRL.MAX_RATE p)))

/-- The data packet of one universe at a sending frame. -/
def State.dataPacket (s : State) (p prio frame : Nat) (u : Nat × Bool) (vals : List Byte) : State :=
  let r := s.mkPacket p 4 1 u.1 u.1 frame (fun seq => e131Data s.sacnCid s.sacnName prio (s.fld (F.NET_SACN_SYNC.UNIV p)) seq
    (if u.2 then 0x40 else 0) u.1 vals)
  r.1.updNet p (fun x => { x with build := x.build ++ [r.2] })

/-- The send instant of a port's next sending frame (R299). -/
def State.sacnSend (s : State) (p : Nat) : State :=
  match s.nextFrameFrom (s.sendBound p) with
  | none => s
  | some (t, seq) =>
    let x := s.netSt p
    let img := s.imagesFor (match seq with | some q => q | none => 2 ^ 64)
    let fresh := match seq with | some q => img.2 == q + 1 | none => false
    let s := if fresh then s else s.bump (F.NET_SACN_STALE_CNT.COUNT p)
    let live := s.liveUniverses (s.configOf seq) p
    let sent := x.admitted.filter (fun u => live.contains u)
    let gone := x.live.filter (fun u => !live.contains u)
    let term := gone.foldl (fun (m : FMap Nat) u => m.put 0 u 3) x.term
    let term := term.filter (fun e => !live.contains e.1)
    let vals : Nat → List Byte := fun u => padTo 512 (img.1.get [] u)
    let old := x.vals
    let left := (term.map (fun e => (e.1, e.2 - 1))).filter (fun e => e.2 != 0)
    let kept := sent.foldl (fun (m : FMap (List Byte)) u => m.put [] u (vals u)) (old.filter (fun e => term.any (·.1 = e.1)))
    let sync := s.fld (F.NET_SACN_SYNC.UNIV p)
    let due := if sync = 0 then x.syncDue else x.syncDue ++ [(t, sync)]
    let s := s.setNet p { x with lastSend := some t, live := sent, syncDue := due, term := left, vals := kept }
    let s := (sendList sent term).foldl (fun s u =>
      s.dataPacket p (s.sacnPrio p) t u (if u.2 then old.get [] u.1 else vals u.1)) s
    s.fillTx p

/-- The unit sends sACN: the port is enabled, and the claim in force is not 0 (R339). -/
def State.sendsSacn (s : State) (p : Nat) : Bool := s.flag (F.NET_SACN_CTRL.EN p) && s.fld F.TDM_CLAIM.CLAIM != 0

def execSacnSendInstant (port : PortIx) (s : State) : Host.Outcome State Fault Refusal :=
  s.done (s.when (s.netUp && s.sendsSacn port) (s.sacnSend port))

/-- The sync instant of the oldest sending frame that awaits one (R301): its sync packet enters queue 6, or is held until the
frame's last data packet has left. -/
def State.syncSend (s : State) (p : Nat) : State :=
  let x := s.netSt p
  match x.syncDue with
  | [] => s
  | d :: rest =>
    let s := s.setNet p { x with syncDue := rest, syncHeld := x.syncHeld ++ [d] }
    if x.dataLeft d.1 then s.bump (F.NET_SYNC_LATE_CNT.COUNT p) else s.releaseSync p

def execSacnSyncSend (port : PortIx) (s : State) : Host.Outcome State Fault Refusal :=
  s.done (s.when (s.netUp && s.sendsSacn port) (s.syncSend port))

/-- Pages of 512 universes. -/
def pagesOf (n : Nat) (l : List Nat) : List (List Nat) := (List.range (ceilDiv l.length n)).map (fun i => (l.drop (i * n)).take n)

/-- Universe discovery packets (R301). -/
def State.discovery (s : State) (p : Nat) : State :=
  let pages := pagesOf 512 (s.liveUniverses s.cfgApp p)
  let pages := if pages.isEmpty then [[]] else pages
  let s := (pages.zipIdx).foldl (fun s x =>
    let k : TxPkt := ⟨4, none, 0, 0, 0, sacnFrame (s.netSrc p) discUniverse
      (e131Discovery s.sacnCid s.sacnName x.2 (pages.length - 1) x.1) s.freeVal, 3, false, 0⟩
    (s.freeStep).updNet p (fun y => { y with build := y.build ++ [k] })) s
  s.fillTx p

def execSacnDiscovery (port : PortIx) (s : State) : Host.Outcome State Fault Refusal :=
  s.done (s.when (s.netUp && s.sendsSacn port && s.flag (F.NET_SACN_CTRL.DISC_EN port)) (s.discovery port))

end Sys2Proof.Machine
end

