-- ==== Sys2Proof/Machine/Frames.lean ====
section
/-! DEFINITION. The frame timeline (R88 to R97, R119, R127, R334 to R337): cue deadlines, send deadlines, presentations, jumps of
show time, and what a pair does at each. -/

namespace Sys2Proof.Machine

/-- The schedule changes: with a new `LINK_MARGIN` every `ACTIVE` link is judged anew (R264). -/
def State.setSched (s : State) (x : SchedSt) : State :=
  let t := { s with time := { s.time with sched := x } }
  if t.linkMargin = s.linkMargin then t else (List.range 64).foldl State.marginCheck t

/-! ### Changes of frame timing (R90) -/

/-- ⌊t × `NUM` ÷ (`DEN` s)⌋: the periods in a signed time. -/
def periodsFloor (num den : Nat) (t : Int) : Int := t * (num : Int) / ((den * secU : Nat) : Int)
/-- ⌈t × `NUM` ÷ (`DEN` s)⌉. -/
def periodsCeil (num den : Nat) (t : Int) : Int := -periodsFloor num den (-t)

/-- The timing that an entry of table 0x0009 sets, with an anchor. -/
def schedOf (e : List Byte) (anchor : Nat) (k : Int) (seq given : Nat) (numbered : Bool) : SchedSt :=
  ⟨true, anchor, Tm.num e, Tm.den e, Tm.lead e, Tm.margin e, k, seq, given, numbered⟩

/-- The schedule that starts while none runs: anchored at the epoch, with the least k ≥ 0 whose cue deadline is after `now`; its first
sequence number is k. -/
def firstSched (e : List Byte) (now given : Nat) : SchedSt :=
  let k : Int := max 0 ((Tm.lead e : Int) + periodsFloor (Tm.num e) (Tm.den e) ((now : Int) - (Tm.epoch e : Int)) + 1)
  schedOf e (Tm.epoch e) k k.toNat given false

/-- The schedule after a frame in which a cue writes frame timing: the first instant at least one new period after T_present(f), its
cue deadline not before the frame's. DESIGN CHOICE (assumption 168): in `CONTINUE` mode with a longer `LEAD`, where T_present(f) + P_new would
have its cue deadline before the frame's, the later instant stands. -/
def nextSched (e : List Byte) (tPres : Nat) (deadline : Int) (seq given : Nat) : SchedSt :=
  let anchor := if Tm.epochMode e then Tm.epoch e else tPres
  let k1 := 1 + periodsCeil (Tm.num e) (Tm.den e) ((tPres : Int) - (anchor : Int))
  let k2 := (Tm.lead e : Int) + periodsCeil (Tm.num e) (Tm.den e) (deadline - (anchor : Int))
  schedOf e anchor (max k1 k2) seq given true

/-! ### A frame's cues (R91, R92) -/

/-- A cue takes effect in a frame presented at `tPres`: it is untimed, or its target is not after that instant. -/
def CueRec.dueIn (c : CueRec) (tPres : Nat) : Bool :=
  match c.target with
  | none => true
  | some t => decide (t ≤ tPres)

def newFrame (seq tPres : Nat) (cfg prev : CfgTab) (waits : Bool) : FrameRec :=
  ⟨seq, tPres, cfg, prev, [], false, [], 0, 0, false, false, [], false, [], [], [], [], false, [], [], [], [], [], [], [], [], 0, [], [], [], false,
    false, none, none, waits, ⟨[], [], [], [], 0⟩⟩

/-- Writes of the patch table in a list of cues. -/
def patchWritten (cues : List CueRec) : Bool := cues.any (fun c => c.writes.any (fun w => w.table == tPatch))

/-- A commit that changes the patch table passes every entry with a safe look to the Curtain (R366). -/
def State.patchCommitted (s : State) (c : CfgTab) : State :=
  let es := (c.entriesOf tPatch).filter (fun i => Pt.type (c.entry tPatch i) == 1 && Pt.safeLook (c.entry tPatch i) != 0xFFFF)
  { s with cur := { s.cur with patchq := s.cur.patchq ++ es.map (fun i => (i, c.entry tPatch i)) } }

/-- Units that the frame's whole-frame changes forget (R177), on the link the surface leaves and the one it comes to. -/
def State.noteForgets (s : State) (old new : CfgTab) (seq : Nat) : State :=
  (forgetsOf old new).foldl (fun s i =>
    ([Sf.link (old.entry tSurface i), Sf.link (new.entry tSurface i)].dedup).foldl (fun s l =>
      s.updPush l (fun p => { p with forgetSurf := p.forgetSurf ++ [(i, seq)] })) s) s

/-- Frame timing written in frame f changes the schedule after it (R90). Frames after f that a unit has scheduled and that still wait
(on an Understudy, R337) are scheduled anew. -/
def State.retime (s : State) (f : FrameRec) (e : List Byte) : State :=
  let x := s.time.sched
  let later := s.frames.filter (fun g => decide (f.seq < g.seq))
  let k := x.k - 1 - (later.length : Int)
  let given := if later.isEmpty then x.given else f.seq
  let s := if later.isEmpty then s else { s with frames := s.frames.filter (fun g => decide (g.seq ≤ f.seq)) }
  s.setSched (nextSched e f.tPres (x.deadline k) (if later.isEmpty then x.seq else f.seq + 1) given)

/-- The cues of a frame are applied in order of acceptance, and the settings they commit take effect. DESIGN CHOICE (assumption 169): the cue
that started a schedule, applied in its first frame, anchors a `CONTINUE` schedule anew at that frame's instant. -/
def State.applyCues (s : State) (seq : Nat) (due : CueRec → Bool) : State :=
  let now := s.cues.filter due
  let old := s.cfgApp
  let new := old.writeAll (now.flatMap (·.writes))
  let s := { s with cfgApp := new, cues := s.cues.filter (fun c => !due c) }
  let s := s.updFrame seq (fun f => { f with cfg := new, cfgPrev := old, cues := (now.filter (·.mseq = 0)).map (·.id) })
  let s := s.noteForgets old new seq
  let patch := patchWritten now && ((old.entriesOf tPatch ++ new.entriesOf tPatch).any (fun i => old.entry tPatch i != new.entry tPatch i))
  let s := if patch || s.sacnDue then s.admitSacn new else s
  let s := (if patch then s.patchCommitted new else s).functionsAgain
  match s.frame? seq with
  | some f => if now.any (fun c => c.writes.any (fun w => w.table == tTiming)) then s.retime f (new.entry tTiming 0) else s
  | none => s

/-- `FRAME_START` is posted (R119). -/
def State.postFrameStart (s : State) (seq tPres : Nat) : State :=
  s.postFrom .schedule 0 ⟨kFrameStart, clsBLK, 7, 0, false, false, 0, 0, 0xFFFF, seq, nsOf tPres, secOf tPres % 2 ^ 32, secOf tPres / 2 ^ 32 % 2 ^ 16, 0⟩ 0

/-- The cues of a frame are mirrored before its `STATE` (R335, R345). -/
def State.mirrorCues (s : State) (cues : List CueRec) (seq : Nat) : State :=
  cues.foldl (fun s c => c.ops.foldl (fun s o => s.mirrorOp c.ring o.1 (seq % 2 ^ 32) o.2 none false) s) s

/-- A principal's `STATE` for a frame (R334, R336), with `RESYNC_DONE` once the Understudy has adopted every item (R347 step 5). -/
def State.sendState (s : State) (seq tPres : Nat) : State :=
  let done := s.pair == pairSyncing && s.tdm.bulk.isEmpty && s.allAdopted
  let acts := s.dueActs
  let s := (s.updFrame seq (fun f => { f with acts := some acts })).setTdm { s.tdm with ready := s.tdm.ready.filter (!acts.contains ·) }
  let s := s.queueState (s.statePayload seq tPres (if done then stResyncDone else 0) acts)
  if done then ((s.setPair pairPaired).setTdm { s.tdm with streaming := false, adopted := [], inFlight := [] }).raise Src.tandem E.PAIR_SYNCED []
  else s

/-- A frame's cues close on a unit that follows no principal. -/
def State.closeCues (s : State) (seq tPres : Nat) : State :=
  let s := if s.mirrors then s.mirrorCues (s.cues.filter (·.dueIn tPres)) seq else s
  let s := s.applyCues seq (·.dueIn tPres)
  let s := if s.mirrors then s.sendState seq tPres else s
  s.postFrameStart seq tPres

/-! ### A frame of an Understudy (R337) -/

/-- Gains and scales of a `STATE`, by the keys of `FrameRec.given`. -/
def stateGiven (b : List Byte) : FMap Nat :=
  (List.range 96).foldl (fun m n => (m.put 0x3F800000 n (fieldAt b (0x1A8 + 4 * n) 4)).put 0x3F800000 (128 + n) (fieldAt b (0x28 + 4 * n) 4)) []

def stFrame (b : List Byte) : Nat := fieldAt b 0 8
def stPres (b : List Byte) : Nat := timeOf (bits (fieldAt b 8 8) 0 48) (fieldAt b 0x10 4)
def stLast (b : List Byte) : Nat := fieldAt b 0x14 4
def stClaim (b : List Byte) : Nat := fieldAt b 0x18 2
def stPrio (b : List Byte) : Nat := fieldAt b 0x1A 1
def stFlags (b : List Byte) : Nat := fieldAt b 0x1B 1
def stActs (b : List Byte) : List Nat := (List.range (fieldAt b 0x1C 2)).map (fun i => fieldAt b (0x328 + 4 * i) 4)

/-- The oldest frame that waits. -/
def State.waitingFrame (s : State) : Option FrameRec := s.frames.find? (·.waits)

/-- A waiting frame begins with its `STATE`. Activations listed for earlier frames that have not become current stand. -/
def State.beginWith (s : State) (f : FrameRec) (b : List Byte) : State :=
  let acts := s.tdm.ready ++ stActs b
  let s := s.setTdm { s.tdm with ready := acts, got := s.tdm.got.erase f.seq }
  let s := s.updFrame f.seq (fun x => { x with
    waits := false, tPres := stPres b, acts := some acts, given := some (stateGiven b), funcOff := fieldAt b 0x20 8 })
  let s := s.applyCues f.seq (fun c => c.mseq != 0 && !mseqBefore (stLast b) c.mseq)
  s.postFrameStart f.seq (stPres b)

/-- A waiting frame begins alone: no new cues, and the gains, scales and functions last received. -/
def State.beginAlone (s : State) (f : FrameRec) : State :=
  let s := s.updFrame f.seq (fun x => { x with
    waits := false, alone := true, acts := some s.tdm.ready, given := if s.understudy then some s.tdm.given else none,
    funcOff := if s.understudy then s.tdm.funcOff else s.fld F.LMP_FUNC_OFF.FUNC })
  let s := s.setTdm { s.tdm with alone := s.tdm.alone ++ [f.seq] }
  let s := s.applyCues f.seq (fun _ => false)
  let s := (s.bump F.TDM_LATE_CNT.COUNT).raise Src.tandem E.TDM_LATE []
  s.postFrameStart f.seq f.tPres

/-- What the oldest waiting frame needs has come: its `STATE`, and every message up to its `MSEQ_LAST`. -/
def State.mayBegin (s : State) (f : FrameRec) : Option (List Byte) :=
  match (s.tdm.got.find? (·.1 = f.seq)).map (·.2) with
  | some b => if mseqBefore (stLast b) s.tdm.rxNext then some b else none
  | none => none

/-- Waiting frames begin, in order, while what they need has come. -/
def State.beginWaiting (s : State) : Nat → State
  | 0 => s
  | fuel + 1 =>
    match s.waitingFrame with
    | none => s
    | some f => match s.mayBegin f with
      | some b => (s.beginWith f b).beginWaiting fuel
      | none => s

def State.tryBegin (s : State) : State := s.beginWaiting s.frames.length

/-! ### The cue deadline -/

/-- The next frame's cue deadline. -/
def State.cueDeadline (s : State) : State :=
  let x := s.time.sched
  if !x.running then s
  else
    let t := (x.instant x.k).toNat
    let s := s.setSched { x with k := x.k + 1, seq := x.seq + 1, given := x.seq, numbered := true }
    let s := { s with time := { s.time with lastClosed := some t }
                      frames := s.frames ++ [newFrame x.seq t s.cfgApp s.cfgApp s.understudy] }
    if s.understudy then s.tryBegin else s.closeCues x.seq t

/-- The frame schedule runs in `RUN`, outside an entry or exit (R414, R418). -/
def State.showRuns (s : State) : Bool := s.evtUp && s.pwr.state == 0 && s.pwr.seq.isNone

def execCueDeadline (s : State) : Host.Outcome State Fault Refusal := s.done (s.when s.showRuns s.cueDeadline)

/-! ### Dropping (R94 to R96, R127, R183) -/

/-- A link that a frame is counted on: `ACTIVE`, on the show source, and its pass of the frame not under R175. -/
def State.counted (s : State) (f : FrameRec) (l : Nat) : Bool := decide (l < 64) && !s.passSkips l && !f.skipped.contains l

/-- A frame is dropped on links: told and counted once. DESIGN CHOICE (assumption 170): `FRAME_LATE` is raised under the trigger unit's source
number. -/
def State.noteLate (s : State) (seq : Nat) (links : List Nat) (incomplete : Bool) : State :=
  match s.frame? seq with
  | none => s
  | some f =>
    let all := links.foldl (fun l n => insertAsc n l) f.dropped
    let s := s.updFrame seq (fun f => { f with dropped := all })
    if (all.isEmpty && !incomplete) || f.late then s
    else
      let lowest := match all with | l :: _ => l | [] => s.freeVal
      let s := if all.isEmpty then s.freeStep else s
      ((s.updFrame seq (fun f => { f with late := true })).bump F.TIM_FRAME_LATE_CNT.COUNT).raise Src.trigger E.FRAME_LATE
        (words2 seq ++ [all.length, lowest])

/-- Windows whose latest result is the dropped frame's show `DROPPED` (R183). -/
def State.noteDroppedSpots (s : State) (f : FrameRec) (links : List Nat) : State :=
  (List.range 48).foldl (fun s w =>
    let e := f.cfg.entry tSpot w
    if s.flag (F.SPT_STATUS.VALID w) && s.rv (R.SPT_FRAME w) == f.seq &&
        (if Sp.canvas e then !links.isEmpty else links.contains (Sf.link (f.cfg.entry tSurface (Sp.target e)))) then
      s.setFld (F.SPT_STATUS.DROPPED w) 1 else s) s

/-- An item still has a call that is not posted. -/
def Item.unposted (i : Item) : Bool := i.p1 == 0 || (!i.render && i.p1 != 3 && i.p2 == 0)

/-- Items with unposted calls are discarded at the send deadline (R127). -/
def State.discardItems (s : State) (f : FrameRec) : State :=
  if f.phase = 4 then s
  else
    let n := (f.plan.filter Item.unposted).length
    let mark : Item → Item := fun i =>
      if i.unposted then { i with p1 := if i.p1 = 0 then 3 else i.p1, p2 := if i.render then i.p2 else 3 } else i
    let s := { s with cb := { s.cb with stalled := s.cb.stalled.filter (fun x =>
      !(x.producer == Producer.blocking && x.word.frame == f.seq && x.word.kind != kCalCompile)) } }
    let s := s.bumpBy F.BLK_DISCARD_CNT.COUNT n
    let s := s.updFrame f.seq (fun f => { f with plan := f.plan.map mark, abandoned := f.abandoned || decide (0 < n) || !f.planned })
    if 0 < n then s.advanceFrame f.seq else s

/-- Links with units whose walk has not been made (R350). -/
def State.unwalked (s : State) (f : FrameRec) : Bool :=
  f.walkLost || f.phase != 4 ||
    (List.range 64).any (fun l => !f.begun.contains l && !((s.atSnap f).walkUnits f.cfg l).isEmpty)

/-- The digest of a frame is known (R350): a principal compares it when the partner's has come, an Understudy sends it up. -/
def State.digestKnown (s : State) (f : FrameRec) : State :=
  let d := f.digest
  let inc := s.unwalked f
  if s.understudy then
    (s.setFld F.TDM_DIGEST.OWN d).setTdm { s.tdm with
      up := s.tdm.up ++ [(tmDigest, leBytes 8 f.seq ++ leBytes 4 d ++ leBytes 4 (b2n inc))] }
  else if s.mirrors then
    match (s.tdm.partner.find? (·.1 = f.seq)).map (·.2) with
    | some (p, pinc) =>
      let s := s.setTdm { s.tdm with partner := s.tdm.partner.erase f.seq }
      if inc || pinc then s else s.compareDigests d p
    | none => s.setTdm { s.tdm with own := (s.tdm.own.insert f.seq (d, inc)).drop ((s.tdm.own.length + 1) - 64) }
  else s

/-- The send deadline of the oldest frame that has not reached it. -/
def State.sendDeadline (s : State) : State :=
  match s.frames.find? (fun f => !f.sendPassed) with
  | none => s
  | some f =>
    let links := (List.range 64).filter (fun l => s.counted f l)
    let allDone := links.all (fun l => f.finished.contains l)
    let s := s.updFrame f.seq (fun f => { f with sendPassed := true })
    let s := (List.range 64).foldl (fun s l => match s.passOf l with
      | some p => if p.frame = f.seq then s.abandonPass l else s
      | none => s) (s.neverBegun f.seq)
    let s := if Tm.dropAll (f.cfg.entry tTiming 0) && allDone then
        links.foldl (fun s l => if f.goSent.contains l then s else s.sendGo l f) s else s
    let s := s.discardItems f
    match s.frame? f.seq with
    | none => s
    | some g =>
      let out := links.filter (fun l => !g.goSent.contains l)
      let s := s.noteLate f.seq out g.abandoned
      let s := if out.isEmpty then s else s.noteDroppedSpots g out
      s.digestKnown g

def execSendDeadline (s : State) : Host.Outcome State Fault Refusal := s.done (s.when s.evtUp s.sendDeadline)

/-! ### Presentation (R42, R89, R96) -/

/-- Links that carry lamps or fixtures of a feed. -/
def FrameRec.feedLinks (f : FrameRec) (feed : Nat) : List Nat :=
  ((f.cfg.liveSurfaces.filter (fun i => Sf.feed (f.cfg.entry tSurface i) = feed)).map (fun i => Sf.link (f.cfg.entry tSurface i))) ++
  ((f.cfg.fixtures.filter (fun i => Pt.feed (f.cfg.entry tPatch i) = feed ∧ Pt.route (f.cfg.entry tPatch i) = routeLink)).map
    (fun i => Pt.routeA (f.cfg.entry tPatch i)))

/-- Modelled powers of a presented frame wait for their measurement (R219). -/
def FrameRec.trims (f : FrameRec) : List (Nat × Nat × Rat) :=
  if f.phase = 4 then
    (f.feeds.filter (fun e => !(f.feedLinks e.1).any (f.dropped.contains ·))).map (fun e => (f.seq, e.1, (f32 e.2.p).toRat))
  else []

/-- The presentation interval of a frame begins, and that of the frame before it ends (R328). -/
def State.openWindow (s : State) (f : FrameRec) : State :=
  if s.powered .mt && s.flag F.MTR_CFG.EN then
    { s with mtr := { s.mtr with wins := (s.mtr.wins.map (fun w => if w.hi.isNone then { w with hi := some f.tPres } else w)) ++
        [⟨f.seq, f.tPres, none, [], []⟩] }
             fix := { s.fix with waitTrim := s.fix.waitTrim ++ f.trims } }
  else s

/-- No channel has a report for an interval that holds a jump of show time (R328). -/
def State.spoilWindows (s : State) : State :=
  { s with mtr := { s.mtr with wins := s.mtr.wins.map (fun w => if w.hi.isNone then { w with bad := List.range 96 } else w) } }

/-- A frame's record goes; it stays at hand, over, while calls posted for it still run (R127). -/
def State.leaveFrame (s : State) (seq : Nat) : State :=
  let over_ := (s.frames.filter (fun x => decide (x.seq = seq))).map (fun x => { x with abandoned := true, phase := 5 })
  ({ s with frames := s.frames.filter (fun x => decide (x.seq ≠ seq)), gone := s.gone ++ over_ }).pruneGone

/-- The oldest frame ends: presented, or dropped by a jump of show time. -/
def State.endFrame (s : State) (f : FrameRec) (jumped : Bool) : State :=
  let s := f.cues.foldl (fun s id => s.finish id (if f.late then St.late else St.ok) (f.seq % 2 ^ 32)) s
  let s := s.setRv R.TIM_FRAME_SEQ f.seq
  let s := if s.marked && !jumped then { s with time := { s.time with lastMarked := f.seq } } else s
  let s := if f.phase = 4 then { s with fix := { s.fix with slots := f.slots, slotsSeq := f.seq + 1 } } else s
  let s := (if jumped then s else s.openWindow f).portsFollow f jumped
  (s.leaveFrame f.seq).reap.reapTiles

/-- The oldest frame's presentation instant, once its send deadline has passed. -/
def State.presentation (s : State) : State :=
  match s.frames.head? with
  | none => s
  | some f =>
    if !f.sendPassed then s
    else
      let s := s.noteLate f.seq [] (f.abandoned || f.phase != 4)
      match s.frame? f.seq with
      | some g => s.endFrame g false
      | none => s

def execPresentation (s : State) : Host.Outcome State Fault Refusal := s.done (s.when s.evtUp s.presentation)

/-! ### A jump of show time (R97) -/

/-- A frame that is not latched is dropped by a jump, on every link counted or that sent its `GO`. -/
def State.dropFrame (s : State) (seq : Nat) : State :=
  match s.frame? seq with
  | none => s
  | some f =>
    let links := ((List.range 64).filter (fun l => s.counted f l)) ++ f.goSent
    let s := (List.range 64).foldl (fun s l => match s.passOf l with
      | some p => if p.frame = seq then s.abandonPass l else s
      | none => s) (if f.sendPassed then s else s.neverBegun seq)
    let s := (s.noteLate seq links true).noteDroppedSpots f links
    match s.frame? seq with
    | some g => s.endFrame g true
    | none => s

/-- Show time has jumped: every frame on its way is dropped, and the schedule resumes after the jump. -/
def State.jump (s : State) : State :=
  let s := (s.frames.map (·.seq)).foldl State.dropFrame s.spoilWindows
  let x := s.time.sched
  let k : Int := (x.lead : Int) + periodsFloor x.num x.den ((s.showNow : Int) - (x.anchor : Int)) + 1
  let s := if x.running then s.setSched (x.resume k) else s
  let s := { s with time := { s.time with lastClosed := none } }
  (List.range 66).foldl (fun s l => s.updLink l (fun y => { y with jumped := true })) s

/-! ### The waits of a pair -/

def execTdmWaitExpiry (s : State) : Host.Outcome State Fault Refusal :=
  s.done (s.when s.evtUp (match s.waitingFrame with
    | some f => (s.beginAlone f).tryBegin
    | none => s))

end Sys2Proof.Machine
end

