-- ==== Sys2Proof/Machine/Writes.lean ====
section
/-! DEFINITION. What follows a write to an object, and the end of an object (R56, R58, R130, R131, R149, R158, R197, R199, R205),
as operations that descriptors, mirrored operations and Fly transfers share. -/

namespace Sys2Proof.Machine

/-- Tiles that a changed `PIXMAP` or `PATCH_BLOCK` newly samples receive pages, where pages are free (R158). -/
def State.resample (s : State) (idx : Nat) (copy : Bool) : State :=
  let o := s.obj? idx
  if o.kind = kPixmap ∨ o.kind = kPatchBlock then
    let seen := if copy then s.setObj idx o.asCopy else s
    ((seen.newTiles s.cfgAcc).foldl (fun s n => (s.storeTile n).getD s) s).reapTiles
  else s

/-- A compile under way of a `CALSTORE` that is written finishes on the data it read (R205). -/
def State.noteStale (s : State) (idx : Nat) : State :=
  match s.comp? idx with
  | some c => s.setComp idx { c with stale := true }
  | none => s

/-- A completed write of `n` bytes at `off` to an object's contents, or to its waiting copy: coverage, checks and sampling follow. -/
def State.writeEnds (s : State) (idx off n : Nat) (copy : Bool) : State :=
  let o := s.obj? idx
  let units := match copy, o.shadow with
    | true, some sh => (sh.sram, sh.pages, sh.aux)
    | _, _ => (o.sram, o.pages, o.aux)
  let s := s.recover o units.1 units.2.1 units.2.2 off n
  ((s.examine idx (if copy then .copied else .written)).noteStale idx).resample idx copy

/-- The moves of an object's pages, or of the object as a whole (R130). -/
def State.objMoves (s : State) (idx : Nat) : List PageMove :=
  s.blk.moves.filter (fun m => m.obj = idx || (m.obj = 0 && !(s.obj? idx).sram && m.pages.any (((s.obj? idx).pages ++ (s.obj? idx).aux).contains ·)))

/-- An object is destroyed (R58): its handle is stale at once, and its memory is freed after the last frame that reads it. -/
def State.destroyObj (s : State) (idx : Nat) : State :=
  let s := ((s.objMoves idx).foldl State.stopMove s).dropShadow idx
  let o := s.obj? idx
  let kept := s.keepForFly (s.handleOf idx) o
  let s := (kept.1.freeLater o.sram (o.pages ++ o.aux) kept.2).dropComp idx
  let s := { s with fix := { s.fix with checks := s.fix.checks.erase idx, cal := s.fix.cal.erase idx } }
  s.freeIndex idx

/-- An object is created, and checked (R55, R197, R199). -/
def State.makeObj (s : State) (k : Nat) (param : List Byte) : State × (Nat × Nat) :=
  let r := s.createObj k param
  if r.2.1 = 0 then (r.1.examine (handleIdx r.2.2) .created, r.2) else r

/-! ### Host memory reads (R56) -/

/-- Read requests for `n` bytes: none longer than the Max Read Request Size, none across a 4 KiB boundary. -/
def readReqs (mrrs addr n : Nat) : Nat → List (Nat × Nat)
  | 0 => []
  | fuel + 1 =>
    if n = 0 then []
    else
      let k := min (min n mrrs) (4096 - addr % 4096)
      (addr, k) :: readReqs mrrs (addr + k) (n - k) fuel

/-- The data of a descriptor is requested, in ascending address order. -/
def State.requestData (s : State) (e : StoreEntry) : State :=
  let reqs := readReqs s.host.mrrs e.hostAddr e.length e.length
  let s := s.updEntry e.id (fun x => { x with reqs := reqs })
  reqs.foldl (fun s r => s.send (.hostRead r.1 r.2)) s

/-- Bytes of a descriptor's data that have been answered. -/
def StoreEntry.answered (e : StoreEntry) : Nat := e.length - (e.reqs.map (·.2)).sum

/-! ### `OBJ_WRITE` (R56) -/

/-- The write goes to a copy: it asks for it, or the unit is a principal that mirrors under `FORCE_SHADOW` (R335). -/
def State.writesCopy (s : State) (e : StoreEntry) : Bool :=
  bit (fieldAt e.param 0 1) 0 || (s.mirrors && s.flag F.TDM_ROLE.FORCE_SHADOW)

/-- The mode a write began in: `OFFSET` and `HANDLE` are the descriptor's; the store entry's `data` marks a write to a copy. -/
def StoreEntry.copy (e : StoreEntry) : Bool := !e.data.isEmpty

/-- A completed write is mirrored (R335); the activation of a copy waits for the number of its last message. -/
def State.mirrorWrite (s : State) (e : StoreEntry) : State :=
  if s.mirrors then
    let s := s.mirrorOp e.ring e.bytes e.length [] (some (e.handle, e.offset, e.length)) e.copy
    let m := s.lastMseq
    if e.copy then s.updObj (handleIdx e.handle) (fun o => { o with shadow := o.shadow.map (fun sh => { sh with mseqs := sh.mseqs ++ [m] }) })
    else s
  else s

/-- The whole 16-byte blocks that a write touches. -/
def StoreEntry.blocks (e : StoreEntry) : Nat × Nat := (e.offset / 16 * 16, ceilDiv (e.offset + e.length) 16 * 16)

/-- A write begins: those of other rings under way to the same bytes of the same contents yield it the blocks they share (R46). DESIGN
CHOICE (assumption 165): for good, also where the write that begins fails later. -/
def State.overtake (s : State) (e : StoreEntry) (copy : Bool) : State :=
  s.setStore (s.host.store.map (fun x =>
    if x.ring ≠ e.ring ∧ x.opcode = opWrite ∧ x.phase = .begun ∧ x.handle = e.handle ∧ x.copy = copy then { x with yielded := x.yielded ++ [e.blocks] }
    else x))

/-- An `OBJ_WRITE` begins. -/
def State.writeBegins (s : State) (e : StoreEntry) : State :=
  let s := s.overtake e (s.writesCopy e)
  if s.writesCopy e then
    match s.openShadow (handleIdx e.handle) with
    | none => s.finish e.id St.noSpace 0
    | some s => (s.updEntry e.id (fun x => { x with data := [1] })).requestData e
  else s.requestData e

/-- The parts of some bytes of a write, from object byte `at_`, that still land: all but the blocks it has yielded (R46). -/
def StoreEntry.parts (e : StoreEntry) (at_ : Nat) (b : List Byte) : List (Nat × List Byte) :=
  if e.yielded.isEmpty then [(at_, b)]
  else
    (List.range (ceilDiv (at_ + b.length) 16 - at_ / 16)).filterMap (fun k =>
      let block := (at_ / 16 + k) * 16
      let lo := max block at_
      if e.yielded.any (fun r => decide (r.1 ≤ block ∧ block < r.2)) then none
      else some (lo, slice b (lo - at_) (min (block + 16) (at_ + b.length) - lo)))

/-- Bytes of an `OBJ_WRITE` land, but for blocks that a write begun later has taken over (R46). An object destroyed since takes none.
DESIGN CHOICE (assumption 161): an `IN_PLACE` write goes to the current contents alone, so that a copy which waits meanwhile replaces
what it wrote. -/
def State.landBytes (s : State) (e : StoreEntry) (b : List Byte) : State :=
  if s.live e.handle then
    (e.parts (e.offset + e.answered) b).foldl (fun s x =>
      if e.copy then s.shadowWrite (handleIdx e.handle) x.1 x.2 else s.objWrite (handleIdx e.handle) x.1 x.2) s
  else s

/-- Every request of an `OBJ_WRITE` has been answered. After a failed one the copy is discarded (R56); bytes that landed in place have
their coverage and checks follow (R149). -/
def State.writeFinishes (s : State) (e : StoreEntry) : State :=
  let idx := handleIdx e.handle
  if e.status = St.hostAbort then
    let s := if s.live e.handle then (if e.copy then s.dropShadow idx else s.writeEnds idx e.offset e.length false) else s
    s.finish e.id St.hostAbort e.result
  else
    let s := if s.live e.handle then
        let s := s.writeEnds idx e.offset e.length e.copy
        let s := if e.copy then s.closeShadow idx else s
        s.mirrorWrite e
      else s
    s.finish e.id St.ok e.length

/-- An answer to the oldest request of an `OBJ_WRITE`. After a failed one, whether the bytes of a later one land is left open. -/
def State.writeAnswer (s : State) (e : StoreEntry) (n : Nat) (d : HostData) : State :=
  let failed := e.status = St.hostAbort
  let s := match d with
    | .failed => if failed then s else s.updEntry e.id (fun x => { x with status := St.hostAbort, result := e.answered })
    | .bytes b =>
      if failed then (if s.freeVal % 2 = 1 then s.freeStep.landBytes e (padTo n b) else s.freeStep)
      else s.landBytes e (padTo n b)
  let s := s.updEntry e.id (fun x => { x with reqs := x.reqs.drop 1 })
  match s.entry? e.id with
  | some x => if x.reqs.isEmpty then s.writeFinishes x else s
  | none => s

end Sys2Proof.Machine
end

