-- ==== Sys2Proof/Machine/Cues.lean ====
section
/-! DEFINITION. The checks of a descriptor (R39 to R45), the order in which descriptors begin, and cues from their opening to their
acceptance (R42, R43, R90, R91, R500), as operations that the rows of the opcodes share. -/

namespace Sys2Proof.Machine

/-! ### Checks that the descriptor alone decides (R44, checks 1 to 4) -/

/-- Opcodes a ring of a class admits outside a cue (R40). -/
def admitted (cls op : Nat) : Bool :=
  ([opNop, opCreate, opWrite, opRead, opDestroy, opPin, opCompile, opReport].contains op && (cls == clsShow || cls == clsMgmt)) ||
  (op == opCue && cls == clsShow) || ([opCall, opMove, opPower, opUpdate, opAck].contains op && cls == clsMgmt)

def listedOp (op : Nat) : Bool := op ≤ 5 || inRange 0x10 0x18 op

/-- Opcodes that transfer data. -/
def transfers (op : Nat) : Bool := [opWrite, opRead, opSet, opReport, opUpdate].contains op

/-- Opcodes that use `HANDLE`, `HOST_ADDR` and `OFFSET`. -/
def usesHandle (op : Nat) : Bool := [opWrite, opRead, opDestroy, opPin, opCompile].contains op
def usesAddr (op : Nat) : Bool := [opWrite, opRead, opSet, opReport, opUpdate].contains op
def usesOffset (op : Nat) : Bool := [opWrite, opRead, opSet, opPin].contains op

def Pa.target (a : Nat) : Nat := bits a 0 8
def Pa.mode (a : Nat) : Nat := bits a 8 8
def Pa.group (a : Nat) : Nat := bits a 16 8

/-- Reserved bits of `ARG0` are 0, except where the opcode's rule makes them a matter of range. -/
def argClean (op a : Nat) : Bool :=
  if op = opCreate then decide (a < 2 ^ 8) else if op = opCue then decide (a < 2 ^ 10) else if op = opSet then decide (a < 2 ^ 16)
  else if op = opUpdate then decide (a < 2 ^ 14) else if op = opPin then bits a 24 8 == 0
  else if [opReport, opMove, opPower, opAck].contains op then true
  else a == 0

/-- Reserved bytes of `PARAM` are 0. -/
def paramReserved (e : StoreEntry) : Bool :=
  let p := e.param
  let op := e.opcode
  if op = opCreate then (if inRange 1 7 (bits e.arg0 0 8) then paramClean (bits e.arg0 0 8) p else true)
  else if op = opWrite then decide (fieldAt p 0 1 < 2) && allZero p 1 31
  else if op = opCue then
    decide (fieldAt p 0 1 < 2) && allZero p 1 7 && allZero p 20 12 &&
      (if fieldAt p 0 1 = 1 then bits (fieldAt p 8 8) 48 16 == 0 && bits (fieldAt p 16 4) 30 2 == 0 else allZero p 8 12)
  else if op = opSet then (if e.inline_ then allZero p e.length (32 - e.length) else allZero p 0 32)
  else if op = opCall then callReserved p == 0
  else if op = opMove then bits (fieldAt p 20 4) 30 2 == 0 && fieldAt p 31 1 == 0
  else if op = opUpdate then allZero p 20 12
  else allZero p 0 32

/-- Check 3, but for the entries a `SET` writes. -/
def descClean (e : StoreEntry) : Bool :=
  let op := e.opcode
  bits e.flags 4 4 == 0 && (!e.inline_ || op == opSet) && (transfers op || e.length == 0) && argClean op e.arg0 &&
  (usesHandle op && (op != opPin || Pa.target e.arg0 == 0) || e.handle == 0) &&
  (usesAddr op || e.hostAddr == 0) && (usesOffset op && (op != opPin || Pa.target e.arg0 != 0) || e.offset == 0) && paramReserved e

/-- The fields of an `OBJ_PIN` are within range (R131). -/
def pinRange (a off : Nat) : Bool :=
  decide (Pa.target a ≤ 2) && decide (Pa.mode a ≤ (if Pa.target a = 0 then 3 else 1)) && (Pa.mode a != 1 || decide (Pa.group a ≤ 31)) &&
  (Pa.target a != 1 || decide (off < 64)) && (Pa.target a != 2 || decide (off < 4096))

/-- The enumerated fields of a Fly image (R393). -/
def flyFieldsOk (cfg : Nat) : Bool :=
  decide (bits cfg 0 3 ≤ 4 ∧ bits cfg 3 3 ≤ 4 ∧ bits cfg 9 3 ≤ 4 ∧ bits cfg 12 3 ≤ 4)

/-- Check 4, but for the entries that a `SET` writes. -/
def State.descRange (s : State) (e : StoreEntry) : Bool :=
  let op := e.opcode
  if op = opCreate then inRange 1 7 e.arg0 && paramOk e.arg0 e.param
  else if op = opPin then pinRange e.arg0 e.offset
  else if op = opCue then decide (1 ≤ e.arg0) && (fieldAt e.param 0 1 == 0 || decide (fieldAt e.param 16 4 < 1000000000))
  else if op = opSet then
    tabSize e.arg0 != 0 && e.length % (max 1 (tabSize e.arg0)) == 0 && (!e.inline_ || decide (e.length ≤ 32))
  else if op = opCall then
    decide ((callOfBytes e.param).prio ≤ s.fld F.CB_CTRL.HOST_PRIO_MAX) && (callOfBytes e.param).cls == clsSM
  else if op = opMove then decide (e.arg0 < 32) && flyFieldsOk (fieldAt e.param 20 4)
  else if op = opReport then inRange 1 4 e.arg0
  else if op = opPower then decide (e.arg0 ≤ 5)
  else if op = opUpdate then e.length == 4096 || e.length == 0
  else if op = opAck then eventCodes.contains e.arg0
  else true

/-- The status of the checks that a descriptor alone decides; 0 where it passes them. -/
def State.descStatus (s : State) (e : StoreEntry) (member : Bool) : Nat :=
  if !listedOp e.opcode then St.badOpcode
  else if member && !(e.opcode == opNop || e.opcode == opSet) then St.malformed
  else if !member && !admitted (s.ringClass e.ring) e.opcode then St.wrongRing
  else if !descClean e then St.malformed
  else if !s.descRange e then St.outOfRange
  else 0

/-! ### Checks that the state decides (R44, checks 5 to 8) -/

/-- The status of checks 5 to 8 as the descriptor begins; 0 where it passes them. -/
def State.beginStatus (s : State) (e : StoreEntry) : Nat :=
  let op := e.opcode
  let o := s.obj? (handleIdx e.handle)
  if usesHandle op && (op != opPin || Pa.target e.arg0 == 0) && !s.live e.handle then St.staleHandle
  else if (op == opCompile && o.kind != kCalstore) || (op == opPin && Pa.target e.arg0 == 0 && Pa.mode e.arg0 == 1 && o.kind == kGraphic) then
    St.badKind
  else if (op == opWrite || op == opRead) && decide (o.size < e.offset + e.length) then St.outOfRange
  else if transfers op && e.length == 0 then St.zeroLength
  else 0

def pwrIdle : Nat := 1

/-- Descriptors that the state of the part refuses: work on an Understudy's own rings (R338), and in `IDLE` all but `POWER_STATE`,
`REPORT` and `NOP` (R411), and a `CUE` after a retention fault (R430). -/
def State.refusedNow (s : State) (op : Nat) : Bool :=
  (s.understudy && [opCreate, opWrite, opDestroy, opPin, opCue, opCompile].contains op) ||
  (s.fld F.PWR_STATE.STATE == pwrIdle && !([opPower, opReport, opNop].contains op)) || (op == opCue && s.flag F.PWR_STATE.RET_FAULT)

/-- The ring processor runs. -/
def State.hostUp (s : State) : Bool := s.powered .host && s.evtUp

/-- The ring's next descriptor runs if it has the opcode: it begins and takes effect, or completes with the status of a check. A
`ZERO_LENGTH` write is mirrored. DESIGN CHOICE (assumption 160): `REFUSED`, which R44's list of checks does not hold, is judged after
checks 1 to 4 and before checks 5 to 8. -/
def State.runNext (s : State) (ring : Nat) (want : StoreEntry → Bool) (run : State → StoreEntry → State) : State :=
  match s.nextToBegin ring with
  | none => s
  | some e =>
    if !want e then s
    else if s.refusedNow e.opcode then s.finish e.id St.refused 0
    else
      let st := s.beginStatus e
      if st = St.zeroLength then
        (if e.opcode = opWrite ∧ s.mirrors then s.mirrorOp e.ring e.bytes 0 [] none false else s).finish e.id st 0
      else if st ≠ 0 then s.finish e.id st 0
      else run (s.begin e.id) e

/-! ### Open cues (R42, R500) -/

def State.openCue (s : State) (ring : Nat) : Option CueRec := s.host.openCues.find? (·.ring = ring)

def State.setOpenCues (s : State) (l : List CueRec) : State := { s with host := { s.host with openCues := l } }

/-- The members of a cue release their store entries. -/
def State.releaseMembers (s : State) (id : Nat) : State :=
  s.setStore (s.host.store.filter (fun e => match e.member with | some (c, _) => decide (c ≠ id) | none => true))

/-- A cue is rejected as a whole: its `CUE` completes, its members are released, and those still to be fetched are passed over. -/
def State.rejectCue (s : State) (c : CueRec) (status index : Nat) : State :=
  let s := (s.setOpenCues (s.host.openCues.filter (·.id ≠ c.id))).releaseMembers c.id
  let r := s.ring c.ring
  let s := match r.cueFetch with
    | some (id, left) => if id = c.id then s.setRing c.ring { r with cueFetch := none, skip := left } else s
    | none => s
  s.finish c.id status index

/-- A cue is accepted before another one: in the same cycle, from a lower ring of the unit's own (R92). -/
def CueRec.goesBefore (c d : CueRec) : Bool := d.mseq == 0 && c.at_ == d.at_ && decide (c.ring < d.ring)

/-- The cue joins those accepted, in the order of R92. -/
def State.enqueueCue (s : State) (c : CueRec) : State :=
  let after := s.cues.filter (fun d => c.goesBefore d)
  { s with cfgAcc := (s.cfgAcc.writeAll c.writes).writeAll (after.flatMap (·.writes)), cues := s.cues.filter (fun d => !c.goesBefore d) ++ c :: after }

/-- A cue is accepted (R90, R91): its memory is its own already. -/
def State.acceptCue (s : State) (c : CueRec) : State :=
  let s := (s.setOpenCues (s.host.openCues.filter (·.id ≠ c.id))).releaseMembers c.id
  let s := (s.enqueueCue { c with accepted := true, at_ := s.time.house }).reapTiles
  let x := s.time.sched
  let s := if !x.running && c.writes.any (fun w => w.table == tTiming) then
      s.setSched (firstSched (s.cfgAcc.entry tTiming 0) s.showNow x.given)
    else s
  match c.target, s.time.lastClosed with
  | some t, some p => if t ≤ p then s.raise Src.rings E.CUE_MISSED_TARGET [c.ring, c.tag] else s
  | _, _ => s

/-- The checks made on a cue as a whole. -/
def State.judgeCue (s : State) (c : CueRec) : State :=
  match s.cueConflict s.cfgAcc c.writes with
  | some (st, m) => s.rejectCue c st m
  | none =>
    match s.cueMemory s.cfgAcc c.writes with
    | (_, some (st, m)) => s.rejectCue c st m
    | (s, none) => s.acceptCue c

/-- A member of a cue by its index. -/
def State.memberOf (s : State) (id index : Nat) : Option StoreEntry := s.host.store.find? (fun e => e.member = some (id, index))

/-- The next member of an open cue has failed a check on arrival: the cue fails with it. -/
def State.settleCue (s : State) (ring : Nat) : State :=
  match s.openCue ring with
  | none => s
  | some c => match s.memberOf c.id c.taken with
    | some e => if e.verdict ≠ 0 then s.rejectCue c e.verdict c.taken else s
    | none => s

/-- A member has passed its checks: its writes join the cue's, and after the last one the whole cue is judged. -/
def State.takeMember (s : State) (c : CueRec) (e : StoreEntry) (ws : List CfgWrite) (data : List Byte) : State :=
  let c := { c with taken := c.taken + 1, writes := c.writes ++ ws, ops := c.ops ++ [(e.bytes, data)] }
  let s := (s.updEntry e.id (fun x => { x with phase := .begun })).setOpenCues (s.host.openCues.map (fun x => if x.id = c.id then c else x))
  if c.taken = c.count then s.judgeCue c else s.settleCue c.ring

/-- The next member of a ring's open cue, once it has arrived and every earlier one has been taken; with `FENCE`, once every
descriptor before the cue has completed. -/
def State.nextMember (s : State) (ring : Nat) : Option (CueRec × StoreEntry) :=
  match s.openCue ring with
  | none => none
  | some c => match s.memberOf c.id c.taken with
    | some e =>
      if e.phase == .arrived && (!e.fence || s.host.store.all (fun x => x.ring ≠ ring || c.id ≤ x.id || s.pastFence x)) then some (c, e) else none
    | none => none

/-- The entries that a `SET`'s bytes spell. -/
def setEntries (table : Nat) (b : List Byte) : List (List Byte) :=
  (List.range (b.length / max 1 (tabSize table))).map (fun i => slice b (i * tabSize table) (tabSize table))

/-- The bytes of a `SET` are at hand: its entries are checked (R44), and the member is taken or fails its cue. -/
def State.setData (s : State) (c : CueRec) (e : StoreEntry) (b : List Byte) : State :=
  let es := setEntries e.arg0 b
  let st := if es.any (fun x => !entryClean e.arg0 x) then St.malformed
    else if tabCount e.arg0 < e.offset + es.length then St.outOfRange
    else s.entriesStatus e.arg0 e.offset es
  if st ≠ 0 then s.rejectCue c st c.taken
  else s.takeMember c e ((es.zipIdx e.offset).map (fun x => ⟨e.arg0, x.2, x.1, c.taken⟩)) b

/-- A `SET` in a member position. -/
def State.setMember (s : State) (c : CueRec) (e : StoreEntry) : State :=
  if e.length = 0 ∨ e.inline_ then s.setData c e (slice e.param 0 e.length)
  else if e.reqs.isEmpty then s.requestData e
  else s

/-- An answer to the oldest request of a `SET`. -/
def State.setAnswer (s : State) (e : StoreEntry) (n : Nat) (d : HostData) : State :=
  match s.openCue e.ring with
  | none => s
  | some c => match d with
    | .failed => s.rejectCue c St.hostAbort c.taken
    | .bytes b =>
      let s := s.updEntry e.id (fun x => { x with reqs := x.reqs.drop 1, data := x.data ++ padTo n b })
      match s.entry? e.id with
      | some x => if x.reqs.isEmpty then s.setData c x x.data else s
      | none => s

/-- A `CUE` opens its cue. -/
def State.cueOpens (s : State) (e : StoreEntry) : State :=
  let target := if fieldAt e.param 0 1 = 1 then some (timeOf (bits (fieldAt e.param 8 8) 0 48) (fieldAt e.param 16 4)) else none
  let c : CueRec := ⟨e.id, e.ring, e.tag, e.arg0, 0, [], target, false, [(e.bytes, [])], 0, 0⟩
  (s.setOpenCues (s.host.openCues ++ [c])).settleCue e.ring

/-- A `CUE` that the state of the part refuses is rejected with its members. -/
def State.cueRefused (s : State) (e : StoreEntry) : State :=
  s.rejectCue ⟨e.id, e.ring, e.tag, e.arg0, 0, [], none, false, [], 0, 0⟩ St.refused 0xFFFFFFFF

/-- The commands of the opcodes `CUE` and `SET`. -/
def State.runCue (s : State) (ring : Nat) : State :=
  match s.nextToBegin ring with
  | some e => if e.opcode ≠ opCue then s else if s.refusedNow opCue then s.cueRefused e else (s.begin e.id).cueOpens e
  | none => s

def execCue (ring : RingIx) (s : State) : Host.Outcome State Fault Refusal := s.done (s.when s.hostUp (s.runCue ring))

def State.runSet (s : State) (ring : Nat) : State :=
  match s.nextMember ring with
  | some (c, e) => if e.opcode = opSet then s.setMember c e else s
  | none => s

def execSet (ring : RingIx) (s : State) : Host.Outcome State Fault Refusal := s.done (s.when s.hostUp (s.runSet ring))

/-- A `NOP`, as a member or on its own. -/
def State.runNop (s : State) (ring : Nat) : State :=
  match s.nextMember ring with
  | some (c, e) => if e.opcode = opNop then s.takeMember c e [] [] else s
  | none => s.runNext ring (fun e => e.opcode == opNop) (fun s e => s.finish e.id St.ok 0)

def execNop (ring : RingIx) (s : State) : Host.Outcome State Fault Refusal := s.done (s.when s.hostUp (s.runNop ring))

end Sys2Proof.Machine
end

