-- ==== Sys2Proof/Machine/Fly.lean ====
section
/-! DEFINITION. The Fly Engine (R380 to R394) and the opcode `MOVE`. -/

namespace Sys2Proof.Machine

/-! ### Images (R380, R381) -/

def Fly.src (img : List Byte) : Nat := fieldAt img 0 8
def Fly.dst (img : List Byte) : Nat := fieldAt img 8 8
def Fly.count (img : List Byte) : Nat := fieldAt img 16 4
def Fly.cfg (img : List Byte) : Nat := fieldAt img 20 4
def Fly.idxBase (img : List Byte) : Nat := fieldAt img 24 4
def Fly.idxCount (img : List Byte) : Nat := fieldAt img 28 4
def Fly.srcW (img : List Byte) : Nat := 2 ^ bits (Fly.cfg img) 0 3
def Fly.dstW (img : List Byte) : Nat := 2 ^ bits (Fly.cfg img) 3 3
def Fly.indexed (img : List Byte) : Bool := bit (Fly.cfg img) 6
def Fly.srcSpace (img : List Byte) : Nat := bits (Fly.cfg img) 9 3
def Fly.dstSpace (img : List Byte) : Nat := bits (Fly.cfg img) 12 3
def Fly.idxObj (img : List Byte) : Bool := bit (Fly.cfg img) 15
def Fly.elem (img : List Byte) : Nat := bits (Fly.cfg img) 16 8
def Fly.winLog2 (img : List Byte) : Nat := bits (Fly.cfg img) 24 5
def Fly.evt (img : List Byte) : Bool := bit (Fly.cfg img) 29

def spHost : Nat := 0
def spHbm : Nat := 1
def spStage : Nat := 2
def spObject : Nat := 3
def spPort : Nat := 4

/-- An address stays fixed. -/
def Fly.srcFix (img : List Byte) : Bool := bit (Fly.cfg img) 7 || Fly.srcSpace img == spPort
def Fly.dstFix (img : List Byte) : Bool := bit (Fly.cfg img) 8 || Fly.dstSpace img == spPort

/-- Bytes of the transfer, and of one indexed element group. -/
def Fly.total (img : List Byte) : Nat := Fly.count img * Fly.srcW img
def Fly.group (img : List Byte) : Nat := Fly.elem img * Fly.srcW img

/-- The part of an address that advances: the offset of an object. -/
def spaceAddr (space a : Nat) : Nat := if space = spObject then a % 2 ^ 32 else a

/-- A range lies within its space. -/
def State.inSpace (s : State) (space a n : Nat) : Bool :=
  n == 0 ||
  (if space = spHost then decide (a + n ≤ 2 ^ 64)
   else if space = spHbm then decide (a + n ≤ hbmBytes)
   else if space = spStage then decide (a + n ≤ sramBytes)
   else if space = spObject then decide (a % 2 ^ 32 + n ≤ min (2 ^ 32) (s.obj? (handleIdx (a / 2 ^ 32))).size)
   else true)

/-- Source and destination ports, and the widths they take. -/
def srcPort (a : Nat) : Bool := inRange 0x40 0x5F a
def dstPort (a : Nat) : Bool := decide (a < 0x20) || inRange 0x100 0x11F a || inRange 0x200 0x20F a

def portWidths (img : List Byte) : Bool :=
  (Fly.srcSpace img != spPort || !srcPort (Fly.src img) || Fly.srcW img == 16) &&
  (Fly.dstSpace img != spPort || !dstPort (Fly.dst img) || decide (Fly.dstW img ≤ 4))

/-- Check 1 of R382. -/
def flyCfgOk (img : List Byte) : Bool :=
  portWidths img && Fly.total img % Fly.dstW img == 0 &&
  (Fly.srcFix img || spaceAddr (Fly.srcSpace img) (Fly.src img) % Fly.srcW img == 0) &&
  (Fly.dstFix img || spaceAddr (Fly.dstSpace img) (Fly.dst img) % Fly.dstW img == 0) &&
  (!Fly.indexed img ||
    (decide (1 ≤ Fly.elem img ∧ Fly.group img ≤ 256) && Fly.count img == Fly.idxCount img * Fly.elem img && !Fly.srcFix img &&
      (Fly.idxObj img || Fly.idxBase img % 4 == 0)))

/-- The source range of `LINEAR` mode, or the source window; and the destination range: first address and bytes. -/
def Fly.srcRange (img : List Byte) : Nat × Nat :=
  (Fly.src img, if Fly.indexed img then 2 ^ Fly.winLog2 img * Fly.group img
    else if Fly.count img = 0 then 0 else if Fly.srcFix img then Fly.srcW img else Fly.total img)
def Fly.dstRange (img : List Byte) : Nat × Nat :=
  (Fly.dst img, if Fly.count img = 0 then 0 else if Fly.dstFix img then Fly.dstW img else Fly.total img)
/-- The index table: its space, as an address of `OBJECT` or `STAGE`, and its range. -/
def Fly.tabSpace (img : List Byte) : Nat := if Fly.idxObj img then spObject else spStage
def Fly.tabRange (img : List Byte) : Nat × Nat :=
  (if Fly.idxObj img then Fly.idxBase img * 2 ^ 32 else Fly.idxBase img, 4 * Fly.idxCount img)

/-- Codes of `ERR`. -/
def feCfg : Nat := 1
def feAddr : Nat := 2
def feIndex : Nat := 3
def feStale : Nat := 4
def feUncorrectable : Nat := 5
def feHost : Nat := 6

/-- The checks of R382: 0, or the code of the first that fails. A port that the engine does not have lies outside its space. -/
def State.flyCheck (s : State) (img : List Byte) : Nat :=
  if !flyCfgOk img then feCfg
  else if (flyHandles img).any (fun e => !s.live e.2) then feStale
  else if (Fly.srcSpace img == spPort && !srcPort (Fly.src img)) || (Fly.dstSpace img == spPort && !dstPort (Fly.dst img)) ||
      !s.inSpace (Fly.srcSpace img) (Fly.srcRange img).1 (Fly.srcRange img).2 ||
      !s.inSpace (Fly.dstSpace img) (Fly.dstRange img).1 (Fly.dstRange img).2 ||
      (Fly.indexed img && !s.inSpace (Fly.tabSpace img) (Fly.tabRange img).1 (Fly.tabRange img).2) then feAddr
  else 0

/-- Ranges of two spaces meet. -/
def meets (sp1 : Nat) (r1 : Nat × Nat) (sp2 : Nat) (r2 : Nat × Nat) : Bool :=
  sp1 == sp2 && decide (0 < r1.2 ∧ 0 < r2.2 ∧ r1.1 < r2.1 + r2.2 ∧ r2.1 < r1.1 + r1.2)

/-- `OVLP` (R386). -/
def Fly.overlaps (img : List Byte) : Bool :=
  meets (Fly.srcSpace img) (Fly.srcRange img) (Fly.dstSpace img) (Fly.dstRange img) ||
  (Fly.indexed img && meets (Fly.tabSpace img) (Fly.tabRange img) (Fly.dstSpace img) (Fly.dstRange img))

/-- Descending order (R384). -/
def Fly.descends (img : List Byte) : Bool :=
  !Fly.indexed img && !Fly.srcFix img && !Fly.dstFix img && Fly.srcSpace img == Fly.dstSpace img &&
  (Fly.srcSpace img != spObject || Fly.src img / 2 ^ 32 == Fly.dst img / 2 ^ 32) && decide (Fly.src img < Fly.dst img)

/-! ### Channels -/

def fsIdle : Nat := 0
def fsBusy : Nat := 1
def fsDone : Nat := 2
def fsAborted : Nat := 3
def fsFenced : Nat := 4
def fsError : Nat := 5

def State.flyBusy (s : State) (n : Nat) : Bool := s.fld (F.FLY_STATUS.STATE n) == fsBusy
def State.flyOf (s : State) (n : Nat) : Option FlySt := s.fly.get none n
def State.setFly (s : State) (n : Nat) (x : Option FlySt) : State := { s with fly := s.fly.put none n x }

/-- The image in a channel's registers. -/
def State.flyImage (s : State) (n : Nat) : List Byte :=
  leBytes 8 (s.rv (R.FLY_SRC n)) ++ leBytes 8 (s.rv (R.FLY_DST n)) ++ leBytes 4 (s.rv (R.FLY_COUNT n)) ++ leBytes 4 (s.rv (R.FLY_CFG n)) ++
  leBytes 4 (s.rv (R.FLY_IDX_BASE n)) ++ leBytes 4 (s.rv (R.FLY_IDX_COUNT n))

/-- An image is loaded into a channel's registers (R393). -/
def State.flyLoad (s : State) (n : Nat) (img : List Byte) : State :=
  let s := ((s.setRv (R.FLY_SRC n) (Fly.src img)).setRv (R.FLY_DST n) (Fly.dst img)).setRv (R.FLY_COUNT n) (Fly.count img)
  ((s.setRv (R.FLY_CFG n) (Fly.cfg img)).setRv (R.FLY_IDX_BASE n) (Fly.idxBase img)).setRv (R.FLY_IDX_COUNT n) (Fly.idxCount img)

/-- Elements read and written of a transfer. -/
def FlySt.readElems (x : FlySt) : Nat := x.read / Fly.srcW x.img
def FlySt.writtenElems (x : FlySt) : Nat := x.written / Fly.srcW x.img

/-- The channel's books (R388). -/
def State.flyBooks (s : State) (n : Nat) (x : FlySt) (held : Nat) : State :=
  let s := (s.setFld (F.FLY_STATUS.HELD n) held).setRv (R.FLY_WRITTEN n) (x.writtenElems % 2 ^ 32)
  s.setRv (R.FLY_RESIDUE n) ((Fly.count x.img - x.writtenElems - held) % 2 ^ 32)

/-- Objects written by a channel: checks and coverage follow, as after every write in place (R56). -/
def State.flyWrote (s : State) (x : FlySt) : State :=
  let h := Fly.dst x.img / 2 ^ 32
  let off := Fly.dst x.img % 2 ^ 32
  if Fly.dstSpace x.img = spObject ∧ 0 < x.written ∧ s.live h = true then
    let lo := if Fly.dstFix x.img then off else if Fly.descends x.img then off + Fly.total x.img - x.written else off
    s.writeEnds (handleIdx h) lo (if Fly.dstFix x.img then Fly.dstW x.img else x.written) false
  else s

/-- Status of a `MOVE` by the end of its channel (R393). -/
def flyStatus (state err : Nat) : Nat :=
  if state = fsDone then St.ok
  else if state = fsError then
    if err = feStale then St.staleHandle else if err = feUncorrectable then St.uncorrectable
    else if err = feHost then St.hostAbort else St.outOfRange
  else St.refused

/-- A channel ends (R390): its end is signalled. -/
def State.flyEnd (s : State) (n : Nat) (x : FlySt) (state err : Nat) : State :=
  let s := (s.setFld (F.FLY_STATUS.STATE n) state).setFld (F.FLY_STATUS.ERR n) err
  let s := (s.flyBooks n x 0).setRv R.FLY_BUSY (setBits (s.rv R.FLY_BUSY) n 1 0)
  let s := (s.setFly n none).flyWrote x
  let free : Dying → Dying := fun d => { d with chans := d.chans.filter (· ≠ n) }
  let s := ({ s with obj := { s.obj with dying := s.obj.dying.map free } } : State).reap
  match x.move with
  | some id => s.finish id (flyStatus state err) x.writtenElems
  | none =>
    if Fly.evt x.img || state == fsError then s.raise (Src.fly n) E.FLY_END [n, state, err, s.rv (R.FLY_RESIDUE n)] else s

/-- A channel is started with an image (R382, R383). -/
def State.flyStart (s : State) (n : Nat) (img : List Byte) (move : Option Nat) : State :=
  let x : FlySt := ⟨img, move, [], 0, 0, [], none, 0, none, 0⟩
  let err := s.flyCheck img
  let s := s.setRv (R.FLY_STATUS n) 0
  if err ≠ 0 then s.flyEnd n x fsError err
  else if Fly.count img = 0 then s.flyEnd n x fsDone 0
  else
    let s := (s.setFld (F.FLY_STATUS.STATE n) fsBusy).setFld (F.FLY_STATUS.OVLP n) (b2n (Fly.overlaps img))
    let s := (s.setFld (F.FLY_STATUS.DESC n) (b2n (Fly.descends img))).setRv R.FLY_BUSY (setBits (s.rv R.FLY_BUSY) n 1 1)
    (s.setFly n (some x)).flyBooks n x 0

/-- `START` written. -/
def State.flyStartReg (s : State) (n : Nat) : State := if s.flyBusy n then s else s.flyStart n (s.flyImage n) none

/-- A busy channel is stopped: at once when no burst is in flight, otherwise when it retires. -/
def State.flyStop (s : State) (n how : Nat) : State :=
  match s.flyOf n with
  | none => s
  | some x =>
    if x.flight.isNone then s.flyEnd n x (if how = 2 then fsFenced else fsAborted) 0
    else s.setFly n (some { x with stop := max x.stop how })

/-! ### Bursts (R384 to R389) -/

/-- The object that an address of a transfer names: 0 source, 1 destination, 2 index table. -/
def State.flyObj (s : State) (x : FlySt) (which h : Nat) : Obj :=
  match x.gone.get none which with
  | some o => o
  | none => s.obj? (handleIdx h)

/-- Where an address of a memory space lies. -/
def State.flyPlace (s : State) (x : FlySt) (which space a : Nat) : Place :=
  if space = spHbm then .hbm a
  else if space = spStage then .sram a
  else (s.flyObj x which (a / 2 ^ 32)).place (a % 2 ^ 32)

/-- Bytes read from memory, each with its poison. -/
def State.flyRead (s : State) (ps : List Place) : State × List (Byte × Bool) :=
  let r := s.consumeAll ((ps.map Place.cw).dedup)
  (r.1, ps.map (fun p => (s.mem.byte p, r.2.contains p.cw)))

/-- Bus Master Enable, and a link to the host. -/
def State.flyHostOk (s : State) : Bool := bit (s.host.pciCfg.get 0 4) 2 && s.powered .host

/-- Bytes up to the next 256-byte boundary from `a`, upward or downward. -/
def burstRoom (fix desc : Bool) (a : Nat) : Nat := if fix then 256 else if desc then (a - 1) % 256 + 1 else 256 - a % 256

/-- Source and destination addresses of the transfer's next bytes: in descending order, the ends of what is left. -/
def FlySt.srcAt (x : FlySt) : Nat :=
  if Fly.descends x.img then Fly.src x.img + (Fly.total x.img - x.read) else Fly.src x.img + (if Fly.srcFix x.img then 0 else x.read)
def FlySt.dstAt (x : FlySt) : Nat :=
  if Fly.descends x.img then Fly.dst x.img + (Fly.total x.img - x.written) else Fly.dst x.img + (if Fly.dstFix x.img then 0 else x.written)

/-- Room at the destination for a burst. -/
def FlySt.dstRoom (x : FlySt) : Nat :=
  if Fly.indexed x.img then 512 else burstRoom (Fly.dstFix x.img) (Fly.descends x.img) x.dstAt

/-- Source bytes of the next burst. -/
def FlySt.burstBytes (x : FlySt) : Nat :=
  let left := Fly.total x.img - x.read
  if Fly.indexed x.img then min left (256 / Fly.group x.img * Fly.group x.img)
  else
    let w := Fly.srcW x.img
    min (min left (burstRoom (Fly.srcFix x.img) (Fly.descends x.img) x.srcAt)) (ceilDiv (x.dstRoom - x.hold.length) w * w)

/-- The words a burst takes from a queue block: those readable, up to one tagged `LAST`. -/
def State.flyWords (s : State) (q : Nat) : Nat → State × List (Byte × Bool) × Option Nat
  | 0 => (s, [], none)
  | k + 1 =>
    match (s.qbSt q).readable with
    | none => (s, [], none)
    | some w =>
      let s := s.setQb q ((s.qbSt q).take w)
      let b := (padTo 16 w.bytes).map (fun b => (b, false))
      if w.last then (s, b, some w.bytes.length)
      else
        let r := State.flyWords s q k
        (r.1, b ++ r.2.1, r.2.2)

/-- The indices of an indexed burst that begins at entry `j`. -/
def State.flyIndices (s : State) (x : FlySt) (j n : Nat) : State × List Nat × Bool :=
  let at_ := (Fly.tabRange x.img).1
  let r := s.flyRead ((List.range (4 * n)).map (fun k => s.flyPlace x 2 (Fly.tabSpace x.img) (at_ + 4 * j + k)))
  (r.1, (List.range n).map (fun k => fieldAt (r.2.map (·.1)) (4 * k) 4), r.2.any (·.2))

/-- What the reads of a burst give. -/
structure FlyGot where
  bytes : List (Byte × Bool)
  err : Nat
  last : Option Nat
  poison : Bool
  deriving DecidableEq, Repr

/-- Offsets as runs that ascend by one and do not cross from one access group of `g` bytes into another: first offset and length. -/
def readRuns (g : Nat) : List Nat → List (Nat × Nat)
  | [] => []
  | k :: ks =>
    match readRuns g ks with
    | (a, n) :: rest => if a = k + 1 ∧ n % g ≠ 0 then (k, n + 1) :: rest else (k, 1) :: (a, n) :: rest
    | [] => [(k, 1)]

/-- Source bytes at places given by their offsets from `SRC`. -/
def State.flySource (s : State) (x : FlySt) (offs : List Nat) (host : HostData) : State × FlyGot :=
  let a := Fly.src x.img
  if Fly.srcSpace x.img = spHost then
    let g := if Fly.indexed x.img then Fly.group x.img else if Fly.srcFix x.img then Fly.srcW x.img else 256
    let s := (readRuns g offs).foldl (fun s r => s.send (.hostRead (a + r.1) r.2)) s
    match host with
    | .bytes b => if s.flyHostOk then (s, ⟨(padTo offs.length b).map (fun b => (b, false)), 0, none, false⟩) else (s, ⟨[], feHost, none, false⟩)
    | .failed => (s, ⟨[], feHost, none, false⟩)
  else
    let r := s.flyRead (offs.map (fun k => s.flyPlace x 0 (Fly.srcSpace x.img) (a + k)))
    (r.1, ⟨r.2, 0, none, r.2.any (·.2)⟩)

/-- The reads of a burst of `n` source bytes. -/
def State.flyReads (s : State) (x : FlySt) (n : Nat) (host : HostData) : State × FlyGot :=
  if Fly.indexed x.img then
    let g := Fly.group x.img
    let r := s.flyIndices x (x.read / g) (n / g)
    if r.2.1.any (fun i => decide (2 ^ Fly.winLog2 x.img ≤ i)) then (r.1, ⟨[], feIndex, none, r.2.2⟩)
    else
      let y := r.1.flySource x (r.2.1.flatMap (fun i => (List.range g).map (i * g + ·))) host
      (y.1, { y.2 with poison := y.2.poison || r.2.2 })
  else if Fly.srcSpace x.img = spPort then
    let r := s.flyWords (Fly.src x.img - 0x40) (n / 16)
    (r.1, ⟨r.2.1, 0, r.2.2, false⟩)
  else
    let w := Fly.srcW x.img
    let offs := if Fly.srcFix x.img then (List.range n).map (· % w)
      else if Fly.descends x.img then (List.range n).map (Fly.total x.img - x.read - n + ·) else (List.range n).map (x.read + ·)
    s.flySource x offs host

/-- A busy channel accesses a domain: `HOST` in its own space, HBM in its own and through objects with pages there (R392). -/
def State.flyUses (s : State) (n : Nat) (d : Domain) : Bool :=
  match s.flyOf n with
  | none => false
  | some x =>
    let sp := [Fly.srcSpace x.img, Fly.dstSpace x.img]
    if d = .host then sp.contains spHost
    else if d = .hbm then
      sp.contains spHbm || (flyHandles x.img).any (fun e => !(s.flyObj x e.1 e.2).sram)
    else false

/-- The channel has work: a burst could be issued now. -/
def State.flyWork (s : State) (n : Nat) : Bool :=
  match s.flyOf n with
  | none => false
  | some x => s.flyBusy n && x.flight.isNone && x.stop == 0 &&
      (Fly.srcSpace x.img != spPort || ((s.qbSt (Fly.src x.img - 0x40)).readable).isSome) &&
      (s.powered .hbm || !s.flyUses n .hbm)

/-- Channels with work are served in turn, in ascending number, wrapping. -/
def State.flyNext (s : State) : Option Nat :=
  ((List.range 32).map (fun k => (s.flyTurn + 1 + k) % 32)).find? (fun n => s.flyWork n)

/-- Poison does not go to a host or a port (R389). -/
def Fly.poisonStops (img : List Byte) : Bool := Fly.dstSpace img == spHost || Fly.dstSpace img == spPort

/-- A burst is issued: its reads are made, and what it will write is settled. -/
def State.flyIssue (s : State) (n : Nat) (host : HostData) : State :=
  match s.flyOf n with
  | none => s
  | some x =>
    let r := s.flyReads x x.burstBytes host
    let s := (({ r.1 with flyTurn := n } : State).bump F.FLY_BURSTS_ISSUED.COUNT).bump F.FLY_BURSTS_OPEN.COUNT
    let g := r.2
    let err := if g.err ≠ 0 then g.err
      else if g.poison && Fly.poisonStops x.img then feUncorrectable
      else if Fly.dstSpace x.img = spHost ∧ s.flyHostOk = false then feHost else 0
    if err ≠ 0 then s.setFly n (some { x with flight := some 0, fail := err })
    else
      let hold := if Fly.descends x.img then g.bytes ++ x.hold else x.hold ++ g.bytes
      let w := Fly.dstW x.img
      let x := { x with read := x.read + g.bytes.length, hold := hold, flight := some (min hold.length x.dstRoom / w * w), lastWord := g.last }
      let s := if g.poison then s.setFld (F.FLY_STATUS.POISON n) 1 else s
      (s.setFly n (some x)).flyBooks n x (x.readElems - x.writtenElems)

/-- Bytes cut into accesses of `w`, with the offset of each from the first. -/
def accesses (w : Nat) (b : List (Byte × Bool)) : List (Nat × List (Byte × Bool)) :=
  (List.range (b.length / w)).map (fun k => (k * w, (b.drop (k * w)).take w))

/-- A codeword becomes poisoned. -/
def State.poison (s : State) (cw : Nat) : State :=
  if s.mem.ue.contains cw then s else { s with mem := { s.mem with ue := s.mem.ue ++ [cw] } }

/-- One access of a write; `last`: the access ends the transfer. -/
def State.flyAccess (s : State) (x : FlySt) (a : Nat) (b : List (Byte × Bool)) (last : Bool) : State :=
  let bs := b.map (·.1)
  let sp := Fly.dstSpace x.img
  if sp = spHost then s.send (.hostWrite a bs)
  else if sp = spPort then
    (if a < 0x200 then s.qbWrite (a % 0x100) bs (last && decide (0x100 ≤ a)) else s.chkData (a - 0x200) bs)
  else
    let p := s.flyPlace x 1 sp a
    let s := s.writeMem p bs
    if b.any (·.2) then s.poison p.cw else s

/-- The writes of a burst. -/
def State.flyWrites (s : State) (x : FlySt) (w : Nat) : State × FlySt :=
  let desc := Fly.descends x.img
  let out := if desc then x.hold.drop (x.hold.length - w) else x.hold.take w
  let first := if desc then x.dstAt - w else x.dstAt
  let ends := x.written + w = Fly.total x.img ∨ (x.lastWord.isSome ∧ w = x.hold.length)
  let s := (accesses (Fly.dstW x.img) out).foldl (fun s c =>
    s.flyAccess x (if Fly.dstFix x.img then Fly.dst x.img else first + c.1) c.2 (decide (ends ∧ c.1 + Fly.dstW x.img = w))) s
  (s, { x with written := x.written + w, flight := none, hold := if desc then x.hold.take (x.hold.length - w) else x.hold.drop w })

/-- The burst in flight retires (R387, R390). -/
def State.flyRetire (s : State) (n : Nat) : State :=
  match s.flyOf n with
  | none => s
  | some x => match x.flight with
    | none => s
    | some w =>
      let s := (s.bump F.FLY_BURSTS_RETIRED.COUNT).setRv R.FLY_BURSTS_OPEN (s.rv R.FLY_BURSTS_OPEN - 1)
      let err := if x.fail ≠ 0 then x.fail else if Fly.dstSpace x.img = spHost ∧ s.flyHostOk = false then feHost else 0
      if err ≠ 0 then s.flyEnd n x fsError err
      else
        let r := s.flyWrites x w
        let x := r.2
        let s := r.1
        let word := x.lastWord.isSome && x.hold.isEmpty
        let s := if word then s.setFld (F.FLY_STATUS.VBYTES n) (x.lastWord.getD 0) else s
        if x.stop = 2 then s.flyEnd n x fsFenced 0
        else if x.stop = 1 then s.flyEnd n x fsAborted 0
        else if word ∨ x.written = Fly.total x.img then s.flyEnd n x fsDone 0
        else (s.setFly n (some x)).flyBooks n x (x.readElems - x.writtenElems)

/-! ### Fences (R392) -/

/-- Busy channels that access a domain are fenced. -/
def State.flyFence (s : State) (d : Domain) : State :=
  ((List.range 32).filter (fun n => s.flyBusy n && s.flyUses n d)).foldl (fun s n => s.flyStop n 2) s

/-- A fenced channel has not ended yet. -/
def State.flyFencing (s : State) (d : Domain) : Bool := (List.range 32).any (fun n => s.flyBusy n && s.flyUses n d)

/-! ### Commands -/

def execFlyStart (n : Ix32) (s : State) : Host.Outcome State Fault Refusal := s.done (s.when s.evtUp (s.flyStartReg n))

def execFlyAbort (n : Ix32) (s : State) : Host.Outcome State Fault Refusal := s.done (s.when s.evtUp (s.flyStop n 1))

def execFlyBurstIssue (n : Ix32) (host : HostData) (s : State) : Host.Outcome State Fault Refusal :=
  s.done (s.when (s.evtUp && s.flyNext == some n.val) (s.flyIssue n host))

def execFlyBurstRetire (n : Ix32) (s : State) : Host.Outcome State Fault Refusal := s.done (s.when s.evtUp (s.flyRetire n))

/-- A `MOVE` that `SERVICE` refuses (R393). -/
def State.moveRefused (s : State) (img : List Byte) : Bool :=
  s.fld F.CB_MODE.MODE == modeService &&
  ([spHbm, spStage].contains (Fly.srcSpace img) || [spHbm, spStage].contains (Fly.dstSpace img) || (Fly.indexed img && !Fly.idxObj img))

/-- A `MOVE` waits for its channel, loads its image and starts it. -/
def State.doMove (s : State) (ring : Nat) : State :=
  match s.nextToBegin ring with
  | none => s
  | some e =>
    if e.opcode = opMove ∧ s.flyBusy (e.arg0 % 32) ∧ ¬ s.moveRefused e.param ∧ ¬ s.refusedNow opMove then s
    else s.runNext ring (·.opcode == opMove) (fun s e =>
      if s.moveRefused e.param then s.finish e.id St.refused 0
      else (s.flyLoad (e.arg0 % 32) e.param).flyStart (e.arg0 % 32) e.param (some e.id))

def execMove (ring : RingIx) (s : State) : Host.Outcome State Fault Refusal := s.done (s.when s.hostUp (s.doMove ring))

end Sys2Proof.Machine
end

