-- ==== Sys2Proof/Machine/Line.lean ====
section
/-! DEFINITION. Line ports: DMX512-A and RDM (R305 to R308, R340, R370). -/

namespace Sys2Proof.Machine

def lineReset : LineSt := ⟨none, false, false, 0, 0⟩
def State.lineSt (s : State) (n : Nat) : LineSt := s.line.get lineReset n
def State.setLine (s : State) (n : Nat) (x : LineSt) : State := { s with line := s.line.put lineReset n x }
def State.updLine (s : State) (n : Nat) (f : LineSt → LineSt) : State := s.setLine n (f (s.lineSt n))

/-- The Curtain's selector of a line port. -/
def State.lineCurtain (s : State) (n : Nat) : Bool := bit (s.fld F.CUR_SEL_PORT.LINE) n

/-- The show drives the port: enabled, not an Understudy's (R340), not on the Curtain source. -/
def State.lineRuns (s : State) (n : Nat) : Bool := s.flag (F.LINE_CFG.EN n) && !s.understudy && !s.lineCurtain n

def linePhIdle : Nat := 0
def linePhDmx : Nat := 1
def linePhRdm : Nat := 2
def linePhCurtain : Nat := 3

/-- `LINE_n_STATE.PHASE` as read: a DMX packet lasts its time on the wire. -/
def State.linePhase (s : State) (n : Nat) : Nat :=
  let x := s.lineSt n
  if s.lineCurtain n then linePhCurtain else if x.rdmRun then linePhRdm
  else if s.time.house < x.until_ then linePhDmx else linePhIdle

/-- `LINE_n_STATE` as read. -/
def State.lineStateWord (s : State) (n : Nat) : Nat := s.linePhase n + b2n (s.lineSt n).rdm.isSome * 4

/-- HCLK cycles of a DMX packet (R305). -/
def State.dmxCycles (s : State) (n : Nat) : Nat :=
  (s.fld (F.LINE_TIMING.BREAK n) + s.fld (F.LINE_TIMING.MAB n) +
    (s.fld (F.LINE_CFG.SLOTS n) + 1) * 44 + s.fld (F.LINE_CFG.SLOTS n) * s.fld (F.LINE_TIMING.MTBS n)) * 800

/-- HCLK cycles from one break to the next, at the least: 1,204 µs (R305). -/
def breakSpacing : Nat := 1204 * 800

/-- A break may begin: the packet before it has ended, no transaction runs, and the spacing of R305 is over. -/
def State.lineFree (s : State) (n : Nat) : Bool :=
  let x := s.lineSt n
  !x.rdmRun && decide (x.until_ ≤ s.time.house ∧ x.nextBreak ≤ s.time.house)

/-- The active level of `LINE_n_DE`. -/
def State.lineDe (s : State) (n : Nat) (active : Bool) : State := s.send (.pin "LINE_DE" n (active == s.flag (F.LINE_CFG.DE_POL n)))

/-- A DMX packet starts (R305, R306) with the values of the frame now presented, or of the latest earlier complete one. -/
def State.dmxStart (s : State) (n : Nat) : State :=
  let fresh := s.fix.slotsSeq == s.fld F.TIM_FRAME_SEQ.SEQ + 1
  let vals := padTo (s.fld (F.LINE_CFG.SLOTS n)) (padTo 512 (s.fix.slots.get [] (65536 + n)))
  let s := (s.lineDe n true).send (.linePacket n (s.fld (F.LINE_TIMING.BREAK n)) (s.fld (F.LINE_TIMING.MAB n)) (0 :: vals))
  let s := (if fresh then s else s.bump (F.LINE_STALE_CNT.COUNT n)).bump (F.LINE_DMX_CNT.COUNT n)
  s.updLine n (fun x => { x with rdmRan := false, until_ := s.time.house + s.dmxCycles n, nextBreak := s.time.house + breakSpacing })

def execDmxPacketStart (port : Ix16) (s : State) : Host.Outcome State Fault Refusal :=
  s.done (s.when (s.evtUp && s.lineRuns port && s.lineFree port) (s.dmxStart port))

/-- `LINE_n_CFG` is written: with `EN` at 0 the line idles at mark with `DE` released. -/
def State.lineCfg (s : State) (n : Nat) : State :=
  if s.flag (F.LINE_CFG.EN n) || s.lineCurtain n then s
  else (s.lineDe n false).updLine n (fun x => { x with until_ := min x.until_ s.time.house })

/-! ### RDM (R307, R308) -/

/-- `GO` (R307): the request as its registers hold it is queued; without `RDM_EN`, or while `RDM_BUSY`, nothing happens. -/
def State.rdmGo (s : State) (n : Nat) : State :=
  if !s.flag (F.LINE_CFG.RDM_EN n) || (s.lineSt n).rdm.isSome then s
  else
    let all := (List.range 64).flatMap (fun k => leBytes 4 (s.rv (R.LINE_RDM_DATA n k)))
    let r : RdmReq := ⟨padTo (s.fld (F.LINE_RDM_CTRL.LENGTH n)) all, s.flag (F.LINE_RDM_CTRL.DISC n),
      s.flag (F.LINE_RDM_CTRL.NO_RESP n), s.fld (F.LINE_RDM_CTRL.QB n), s.fld (F.LINE_RDM_TAG.TAG n)⟩
    s.updLine n (fun x => { x with rdm := some r })

def execRdmGo (port : Ix16) (s : State) : Host.Outcome State Fault Refusal := s.done (s.when s.evtUp (s.rdmGo port))

/-- The sum of bytes, modulo 2^16. -/
def byteSum (b : List Byte) : Nat := (b.map BitVec.toNat).sum % 65536

/-- The request goes out with its checksum (R307). -/
def State.rdmStart (s : State) (n : Nat) : State :=
  match (s.lineSt n).rdm with
  | none => s
  | some r =>
    let s := (s.lineDe n true).send (.linePacket n (s.fld (F.LINE_TIMING.BREAK n)) (s.fld (F.LINE_TIMING.MAB n))
      (r.data ++ beBytes 2 (byteSum r.data)))
    (s.lineDe n false).updLine n (fun x => { x with rdmRun := true, rdmRan := true, nextBreak := s.time.house + breakSpacing })

def execRdmTransactionStart (port : Ix16) (s : State) : Host.Outcome State Fault Refusal :=
  s.done (s.when (s.evtUp && s.lineRuns port && s.lineFree port && !(s.lineSt port).rdmRan) (s.rdmStart port))

def rsOk : Nat := 0
def rsTimeout : Nat := 1
def rsCollision : Nat := 2
def rsBad : Nat := 3
def rsCurtain : Nat := 4
def rsFull : Nat := 5

/-- The item of a transaction. -/
def rdmItem (tag status : Nat) (b : List Byte) : List Byte := leBytes 4 tag ++ leBytes 1 status ++ zeros 1 ++ leBytes 2 b.length ++ b

/-- A transaction ends (R308). -/
def State.rdmEnds (s : State) (n status : Nat) (b : List Byte) : State :=
  match (s.lineSt n).rdm with
  | none => s
  | some r =>
    let item := rdmItem r.tag status b
    let fits := s.qbTakes r.qb item.length
    let st := if fits then status else rsFull
    let s := if fits then s.qbProduce r.qb item
      else (s.qbProduce r.qb (rdmItem r.tag rsFull [])).bump (F.LINE_RDM_LOST_CNT.COUNT n)
    let s := s.bump (F.LINE_RDM_CNT.ALL n)
    let s := if st = rsOk then s else s.bump (F.LINE_RDM_CNT.BAD n)
    let s := s.updLine n (fun x => { x with rdm := none, rdmRun := false })
    (s.raise (Src.line n) E.RDM_DONE [n, r.tag]).lineDe n true

/-- The checksum of an ordinary response holds. -/
def rdmSumOk (b : List Byte) : Bool :=
  decide (2 < b.length) && beAt b (b.length - 2) 2 == byteSum (b.take (b.length - 2))

/-- A discovery response: a preamble of at most 7 bytes of FEH, the separator AAH, 12 bytes of identifier and 4 of checksum, each
pair of bytes holding one (ANSI E1.20, assumption 42). -/
def discSumOk (b : List Byte) : Bool :=
  let pre := b.takeWhile (· = 0xFE)
  let r := b.drop pre.length
  let at_ : Nat → Nat := fun i => (r.getD (1 + i) 0).toNat
  decide (pre.length ≤ 7) && r.head? == some 0xAA && decide (17 ≤ r.length) &&
    ((at_ 12 &&& at_ 13) * 256 + (at_ 14 &&& at_ 15) == byteSum ((r.drop 1).take 12))

/-- A response has ended. -/
def State.rdmResponse (s : State) (n : Nat) (b : List Byte) (framing : Bool) : State :=
  match (s.lineSt n).rdm with
  | none => s
  | some r =>
    let status := if r.disc then (if framing then rsCollision else if discSumOk b then rsOk else rsBad)
      else if rdmSumOk b && !framing then rsOk else rsBad
    s.rdmEnds n status b

/-- A transaction that awaits a response runs. -/
def State.rdmAwaits (s : State) (n : Nat) : Bool :=
  (s.lineSt n).rdmRun && (match (s.lineSt n).rdm with | some r => !r.noResp | none => false)

def execRdmResponse (port : Ix16) (bytes : List Byte) (framingError : Bool) (s : State) : Host.Outcome State Fault Refusal :=
  s.done (s.when (s.evtUp && s.rdmAwaits port) (s.rdmResponse port bytes framingError))

def execRdmTimeout (port : Ix16) (s : State) : Host.Outcome State Fault Refusal :=
  s.done (s.when (s.evtUp && s.rdmAwaits port) (s.rdmEnds port rsTimeout []))

/-- The hold of a transaction without response ends. -/
def execRdmNoResponseEnd (port : Ix16) (s : State) : Host.Outcome State Fault Refusal :=
  s.done (s.when (s.evtUp && (s.lineSt port).rdmRun && !s.rdmAwaits port) (s.rdmEnds port rsOk []))

end Sys2Proof.Machine
end

