-- ==== Sys2Proof/Machine/Wake.lean ====
section
/-! DEFINITION. Rails, wake sources and the beginning of an exit (R412, R416 to R418, R420 to R422, R479), as operations that the
Curtain, metering and the power rows share. -/

namespace Sys2Proof.Machine

/-! ### Power states and rails -/

def psRun : Nat := 0
def psIdle : Nat := 1
def psSleep : Nat := 2
def psDeep : Nat := 3
def psDark : Nat := 4
def psOff : Nat := 5
def phSteady : Nat := 0
def phEntering : Nat := 1
def phExiting : Nat := 2

/-- Rails are numbered in the order of R478 step 5: `VDD_RET`, `VPP_HBM`, `VDD_HBM`, `VDDQ_HBM`, `VDD_CORE`, `VDD_SRAM`, `VDD_PCIE`, `VDD_ETH`,
`VDD_LINK`, `VDD_LINKH`. -/
def railCore : Nat := 4
def allRails : List Nat := List.range 10

/-- Rails that a state turns off (R409). -/
def railsOff (st : Nat) : List Nat :=
  if st = psSleep then [7, 8, 9] else if st = psDeep ∨ st = psDark then [4, 5, 6, 7, 8, 9] else if st = psOff then allRails else []

/-- The PMBus address of each rail's regulator (R479). -/
def railAddr (r : Nat) : Nat := [0x42, 0x49, 0x47, 0x48, 0x40, 0x41, 0x46, 0x45, 0x43, 0x44].getD r 0

/-- A PMBus write with its packet error code. PRESUMED (assumption 187): the code is SMBus's, a CRC-8 over x^8 + x^2 + x + 1 from 0 over
address byte, command and data. -/
def State.pmbusWrite (s : State) (r command : Nat) (data : List Byte) : State :=
  s.send (.pmbus (railAddr r) command data ((leBytes 1 (railAddr r * 2) ++ leBytes 1 command ++ data).foldl (crcByte 8 0x07 false) 0))

/-- A rail is turned on or off over PMBus (R479): `CLEAR_FAULTS` goes before an enable, and `OPERATION` does it. -/
def State.railSet (s : State) (r : Nat) (on : Bool) : State :=
  let s := { s with pwr := { s.pwr with rails := if on then (s.pwr.rails ++ [r]).dedup else s.pwr.rails.filter (· ≠ r) } }
  let s := if on then s.pmbusWrite r 0x03 [] else s
  s.pmbusWrite r 0x01 (leBytes 1 (if on then 0x80 else 0x00))

/-- The core voltage is asked for over AVSBus (R416). -/
def State.coreVolts (s : State) (mv : Nat) : State := s.send (.volts mv)

/-- The request that a step waits for: a rail, or in `IDLE` the core voltage. -/
def State.requestRail (s : State) (volts : Bool) (on : Bool) (rails : List Nat) : State :=
  match rails with
  | [] => s
  | r :: _ =>
    if volts then s.coreVolts (s.fld (if on then F.PWR_AVS.RUN_MV else F.PWR_AVS.IDLE_MV))
    else
      let s := s.railSet r on
      if on ∧ r = railCore then s.coreVolts (s.fld F.PWR_AVS.RUN_MV) else s

/-- The sequence under way, as `PWR_STATE` shows it. -/
def State.setSeq (s : State) (q : Option PwrSeq) : State :=
  let s := { s with pwr := { s.pwr with seq := q } }
  match q with
  | none => s.setFld F.PWR_STATE.PHASE phSteady
  | some x => (s.setFld F.PWR_STATE.PHASE (if x.exit then phExiting else phEntering)).setFld F.PWR_STATE.TARGET x.target

/-- The power state in force. -/
def State.setPower (s : State) (st : Nat) : State :=
  ({ s with pwr := { s.pwr with state := st } }).setFld F.PWR_STATE.STATE st

/-- An exit begins (R418 step 1): the rails that are off are turned on, the first at once. -/
def State.beginExit (s : State) (target : Nat) (desc deeper : Option Nat) (ackFail : Bool) : State :=
  let idle := s.pwr.state == psIdle
  let rails := if idle then [railCore] else allRails.filter (fun r => !s.pwr.rails.contains r)
  (s.setSeq (some ⟨true, target, 2, rails, desc, deeper, ackFail⟩)).requestRail idle true rails

/-! ### Wake sources (R420 to R422) -/

def wkInput : Nat := 0
def wkHost : Nat := 1
def wkRtc : Nat := 2
def wkCurtain : Nat := 3
def wkAlert : Nat := 4
def wkPower : Nat := 5
def wkTemp : Nat := 6

/-- A source is enabled; the Curtain's always is. -/
def State.wakeEnabled (s : State) (n : Nat) : Bool := n == wkCurtain || bit (s.fld F.PWR_WAKE_EN.EN) n

/-- Enabled sources that are pending. -/
def State.wakePending (s : State) : List Nat := (List.range 7).filter (fun n => bit (s.fld F.PWR_WAKE_PEND.PEND) n && s.wakeEnabled n)

/-- A wake source occurs: it is pending, and an enabled one begins the exit of a low state. -/
def State.wake (s : State) (n : Nat) : State :=
  if s.pwr.state = psOff ∧ n ≠ wkInput then s
  else
    let s := s.setFld F.PWR_WAKE_PEND.PEND (s.fld F.PWR_WAKE_PEND.PEND ||| 2 ^ n)
    if s.wakeEnabled n && s.pwr.state != psRun && s.pwr.seq.isNone then s.beginExit psRun none none false else s

end Sys2Proof.Machine
end

