-- ==== Sys2Proof/Machine/Curtain.lean ====
section
/-! DEFINITION. The Safety Curtain (R352 to R379): its selectors, modes, looks, sweeps, outputs and SPI port. -/

namespace Sys2Proof.Machine

/-! ### Modes and causes (R356 to R359) -/

def cmBoot : Nat := 0
def cmArmed : Nat := 1
def cmDropped : Nat := 2
def cmTest : Nat := 3
def cmFault : Nat := 4

def State.curMode (s : State) : Nat := s.fld F.CUR_STATE.MODE

/-- The Curtain is in service. -/
def curServes (m : Nat) : Bool := m == cmArmed || m == cmDropped || m == cmTest

def State.setCur (s : State) (x : CurSt) : State := { s with cur := x }
def State.updCur (s : State) (f : CurSt → CurSt) : State := s.setCur (f s.cur)

/-- An alarm input that is enabled is active. -/
def State.alarmActive (s : State) (k : Nat) : Bool := s.flag (F.CUR_ALARM_CFG.EN k) && bit (s.fld F.CUR_INPUTS.ALARMS) k

/-- The drop causes active now, as `CUR_CAUSE` lays them out. -/
def State.curCauses (s : State) : Nat :=
  ((List.range 8).map (fun k => b2n (s.alarmActive k && s.fld (F.CUR_ALARM_CFG.ACTION k) == 2) * 2 ^ k)).sum + b2n s.cur.low * 2 ^ 8 +
    b2n s.cur.spiDrop * 2 ^ 9 + b2n (s.cur.silent && s.flag F.CUR_SPI_CFG.SPI_WD_DROP) * 2 ^ 10

/-- Outputs of R368 go to the Curtain source. -/
def CurSt.dropAll (x : CurSt) (link net line sig : Nat) : CurSt := { x with selLink := link, selNet := net, selLine := line, selSig := sig, testOut := 0 }

/-- Every output is left to the show source, but for those that the hardware path holds. -/
def CurSt.showAll (x : CurSt) : CurSt := x.dropAll 0 0 0 0

/-- `DROPPED` is entered (R359). -/
def State.curDrop (s : State) (causes : Nat) : State :=
  let s := ((s.setFld F.CUR_STATE.MODE cmDropped).setFld F.CUR_CAUSE.CAUSES causes).setFld F.CUR_LAST_DROP.HOUSE s.time.house
  let s := s.updCur (fun x => x.dropAll (s.fld F.CUR_MASK_LINK.LINKS) (s.fld F.CUR_MASK_PORT.NET) (s.fld F.CUR_MASK_PORT.LINE)
    (s.fld F.CUR_MASK_SIG.SIG))
  let s := { s with pbk := { s.pbk with drops := s.pbk.drops + 1 } }
  ((s.bump F.CUR_DROP_CNT.COUNT).raise Src.curtain E.CUR_DROP [causes]).wake wkCurtain

/-- A drop cause takes effect, or latches while a drop lasts. -/
def State.curJudge (s : State) : State :=
  let c := s.curCauses
  if (s.curMode = cmArmed ∨ s.curMode = cmTest) ∧ c ≠ 0 then s.curDrop c
  else if s.curMode = cmDropped then s.setFld F.CUR_CAUSE.CAUSES (s.fld F.CUR_CAUSE.CAUSES ||| c)
  else s

/-! ### Selectors (R357, R360, R368, R371) -/

/-- An `ABORT` heads each new stream of an `ACTIVE` link (R242). -/
def State.abortOn (s : State) (l : Nat) : State := if s.linkActive l then (s.send (.abort l)).sendBlocks l [abortBlock] else s

/-- A link goes to the Curtain source: its push pass goes on under R175. -/
def State.linkToCurtain (s : State) (l : Nat) : State := (s.abortOn l).skipPass l

/-- A link returns to the show source: its units are forgotten (R371). -/
def State.linkToShow (s : State) (l : Nat) : State := (s.abortOn l).updPush l (fun p => { p with forget := true })

/-- A line port goes to the Curtain source: an RDM transaction ends at once (R308, R370). -/
def State.lineToCurtain (s : State) (n : Nat) : State :=
  let s := s.updLine n (fun x => { x with until_ := s.time.house })
  if (s.lineSt n).rdmRun then s.rdmEnds n rsCurtain [] else s

/-! ### Fixture looks (R365) -/

def fixLookAddr (i : Nat) : Nat := 0x03070000 + 64 * i
def State.fixLook (s : State) (i : Nat) : List Byte := s.curBytes (fixLookAddr i) 64
def Fl.route (e : List Byte) : Nat := bits (fieldAt e 0 1) 0 2
def Fl.count (e : List Byte) : Nat := min 56 (fieldAt e 1 1)
def Fl.routeA (e : List Byte) : Nat := fieldAt e 2 2
def Fl.routeB (e : List Byte) : Nat := fieldAt e 4 2
def Fl.start (e : List Byte) : Nat := fieldAt e 6 2

/-- A codeword of Curtain SRAM is poisoned; what it holds is sent as 0 (R374). -/
def State.curBad (s : State) (a : Nat) : Bool := s.cur.ue.contains (a / 16)
def State.curSafe (s : State) (a : Nat) : Byte := if s.curBad a then BitVec.ofNat 8 0 else s.curByte a

/-- Entries of a route, ascending. -/
def State.looksTo (s : State) (route : Nat) : List Nat := (List.range 4096).filter (fun i => Fl.route (s.fixLook i) == route)

/-- The value that entries, the later ones first, give a slot; 0 from none. -/
def State.lookSlot (s : State) (es : List Nat) (slot : Nat) : Byte :=
  match es.reverse.find? (fun i => decide (Fl.start (s.fixLook i) ≤ slot ∧ slot < Fl.start (s.fixLook i) + Fl.count (s.fixLook i))) with
  | some i => s.curSafe (fixLookAddr i + 8 + (slot - Fl.start (s.fixLook i)))
  | none => BitVec.ofNat 8 0

/-- Universes that looks route to, ascending. -/
def State.curUniverses (s : State) : List Nat :=
  (s.looksTo routeSacn).foldl (fun l i => insertAsc (Fl.routeA (s.fixLook i)) l) []

/-- Slots 1 to 512 of a universe or a line port. -/
def State.lookImage (s : State) (route a : Nat) : List Byte :=
  let es := (s.looksTo route).filter (fun i => Fl.routeA (s.fixLook i) == a)
  (List.range 512).map (fun k => s.lookSlot es (k + 1))

/-- Fixture blocks of a link: entries, then the blocks they give slots in, by node address and block (R367). -/
def State.linkLooks (s : State) (l : Nat) : List Nat := (s.looksTo routeLink).filter (fun i => Fl.routeA (s.fixLook i) == l)
def State.lookBlocks (s : State) (l : Nat) : List Nat :=
  ((s.linkLooks l).flatMap (fun i => (List.range (Fl.count (s.fixLook i))).map (fun k =>
    blockKey (Fl.routeB (s.fixLook i)) ((Fl.start (s.fixLook i) + k) / 512)))).foldl (fun a k => insertAsc k a) []

/-- The 512 bytes of a block. -/
def State.lookBlock (s : State) (l key : Nat) : List Byte :=
  let es := (s.linkLooks l).filter (fun i => Fl.routeB (s.fixLook i) == (key - 2 ^ 40) / 256)
  (List.range 512).map (fun k => s.lookSlot es (keyBlock key * 512 + k))

/-! ### Every selector and relay follows (R357, R358, R371) -/

/-- The positions the mode machine and the hardware path give: links, Ethernet, line, signal strings. -/
def State.curWant (s : State) : Nat × Nat × Nat × Nat :=
  let x := s.cur
  let m : Nat → Nat := fun v => b2n x.low * v
  (x.selLink ||| m (s.fld F.CUR_MASK_LINK.LINKS), x.selNet ||| m (s.fld F.CUR_MASK_PORT.NET),
    x.selLine ||| m (s.fld F.CUR_MASK_PORT.LINE), x.selSig ||| m (s.fld F.CUR_MASK_SIG.SIG))

/-- Each link's selector takes its position. -/
def State.selectLinks (s : State) (want : Nat) : State :=
  let old := s.fld F.CUR_SEL_LINK.LINKS
  let s := s.setFld F.CUR_SEL_LINK.LINKS want
  (List.range 64).foldl (fun s l =>
    if bit want l && !bit old l then s.linkToCurtain l else if !bit want l && bit old l then s.linkToShow l else s) s

/-- An Ethernet port on its way back terminates the Curtain's universes first (R369, R371). -/
def State.netLeaves (s : State) (p : Nat) (univ : List Nat) : State :=
  if univ.isEmpty then s
  else (s.updNet p (fun x => { x with curTerm := univ.map (fun u => (u, 3)) })).updCur (fun x => { x with retNet := (x.retNet ++ [p]).dedup })

def State.selectNet (s : State) (want : Nat) : State :=
  let old := s.fld F.CUR_SEL_PORT.NET
  let leaving := (List.range 8).filter (fun p => bit old p && !bit want p && !s.cur.retNet.contains p)
  let univ := if leaving.isEmpty then [] else s.curUniverses
  let s := s.updCur (fun x => { x with retNet := x.retNet.filter (fun p => !bit want p) })
  let s := leaving.foldl (fun s p => s.netLeaves p univ) s
  s.setFld F.CUR_SEL_PORT.NET (want ||| maskOf s.cur.retNet)

/-- A line port returns at the end of its Curtain packet (R371). -/
def State.selectLines (s : State) (want : Nat) : State :=
  let old := s.fld F.CUR_SEL_PORT.LINE
  let ret := ((List.range 16).filter (fun n => bit old n && !bit want n))
  let s := (s.updCur (fun x => { x with retLine := ret })).setFld F.CUR_SEL_PORT.LINE (want ||| maskOf ret)
  ((List.range 16).filter (fun n => bit want n && !bit old n)).foldl State.lineToCurtain s

/-- A signal-string port returns at the next presentation instant (R371). -/
def State.selectSigs (s : State) (want : Nat) : State :=
  let old := s.fld F.CUR_SEL_SIG.SIG
  let ret := ((List.range 16).filter (fun n => bit old n && !bit want n))
  (s.updCur (fun x => { x with retSig := ret })).setFld F.CUR_SEL_SIG.SIG (want ||| maskOf ret)

def State.curSelect (s : State) : State :=
  let w := s.curWant
  (((s.selectLinks w.1).selectNet w.2.1).selectLines w.2.2.1).selectSigs w.2.2.2

/-- The level of a relay output (R358); the hardware path stands above the mode. -/
def State.relayLevel (s : State) (k : Nat) : Bool :=
  let pol := s.flag (F.CUR_OUT_CFG.POL k)
  let onDrop := s.flag (F.CUR_OUT_CFG.ON_DROP k)
  if s.cur.low && onDrop then pol
  else if curServes s.curMode then
    (if (s.curMode == cmDropped && onDrop) || (s.curMode == cmTest && s.flag (F.CUR_OUT_CFG.ON_TEST k) && bit s.cur.testOut k) then pol
     else !pol)
  else s.flag (F.CUR_OUT_CFG.FAULT_LEVEL k)

/-- Relays whose level has changed since `s0` are driven, and `CUR_OK` is low out of service. -/
def State.curPins (s s0 : State) : State :=
  let moved := (List.range 4).filter (fun k => s.relayLevel k != s0.relayLevel k)
  let s := moved.foldl (fun s k => s.send (.pin "CUR_OUT" k (s.relayLevel k))) s
  let act := maskOf ((List.range 4).filter (fun k => s.relayLevel k == s.flag (F.CUR_OUT_CFG.POL k)))
  let s := s.setFld F.CUR_INPUTS.RELAYS act
  if !curServes s.curMode && s.flag F.CUR_INPUTS.CUR_OK then (s.setFld F.CUR_INPUTS.CUR_OK 0).send (.pin "CUR_OK" 0 false) else s

/-- What follows every change at the Curtain: causes are judged, selectors and relays follow. -/
def State.curAfter (s s0 : State) : State := ((s.curJudge).curSelect).curPins s0

/-! ### Inputs -/

/-- An alarm input has held a level for its debounce time (R356). -/
def State.curAlarm (s : State) (k : Nat) (level : Bool) : State :=
  let act := level == s.flag (F.CUR_ALARM_CFG.POL k)
  let old := s.fld F.CUR_INPUTS.ALARMS
  if !s.flag (F.CUR_ALARM_CFG.EN k) || s.curMode == cmFault || bit old k == act then s
  else
    let s1 := s.setFld F.CUR_INPUTS.ALARMS (setBits old k 1 (b2n act))
    let a := s.fld (F.CUR_ALARM_CFG.ACTION k)
    (if act && (a == 1 || a == 2) then s1.raise Src.curtain E.CUR_ALARM [k] else s1).curAfter s

def execCurAlarmDebounce (k : Fin 8) (level : Bool) (s : State) : Host.Outcome State Fault Refusal :=
  s.done (s.when (s.powered .cu) (s.curAlarm k level))

/-- `CUR_DROP_N` takes a level (R357). -/
def State.curDropN (s : State) (low : Bool) : State :=
  let s1 := s.updCur (fun x => { x with low := low })
  if s.powered .cu then
    ((s1.setFld F.CUR_STATE.HW_DROP (b2n low)).setFld F.CUR_INPUTS.DROP_N (b2n low)).curAfter s
  else s1

def execCurDropNFall (s : State) : Host.Outcome State Fault Refusal := s.done (s.curDropN true)

def execCurDropNRise (s : State) : Host.Outcome State Fault Refusal := s.done (s.curDropN false)

/-! ### Transitions (R359) -/

/-- A drop ends. -/
def State.curRelease (s : State) : State :=
  (((s.setFld F.CUR_STATE.MODE cmArmed).setFld F.CUR_CAUSE.CAUSES 0).updCur CurSt.showAll).raise Src.curtain E.CUR_RELEASE []

def execCurReleaseTimer (s : State) : Host.Outcome State Fault Refusal :=
  s.done (s.when (s.powered .cu && s.curMode == cmDropped && s.fld F.CUR_RELEASE.RELEASE != 0 && s.curCauses == 0) (s.curRelease.curAfter s))

/-- A test ends. -/
def State.curTestEnds (s : State) : State := (s.setFld F.CUR_STATE.MODE cmArmed).updCur CurSt.showAll

def execCurTestExpiry (s : State) : Host.Outcome State Fault Refusal :=
  s.done (s.when (s.powered .cu && s.curMode == cmTest) (s.curTestEnds.curAfter s))

/-- The bit of `CUR_FAULT` of a cause. -/
def curFaultPos : CurFaultCause → Nat
  | .lockstep => 0
  | .clock => 1
  | .sram => 2
  | .image => 3
  | .selftest => 4
  | .selector => 5

/-- Causes that a Curtain in service meets; the others end `BOOT`. -/
def curFaultRuns : CurFaultCause → Bool
  | .image => false
  | .selftest => false
  | _ => true

/-- `FAULT`: the selectors stay where they are. -/
def State.curFault (s : State) (causes : Nat) : State := (s.setFld F.CUR_STATE.MODE cmFault).setFld F.CUR_FAULT.CAUSES causes

def State.curFaultFound (s : State) (c : CurFaultCause) : State :=
  if curFaultRuns c && curServes s.curMode then ((s.curFault (2 ^ curFaultPos c)).raise Src.curtain E.CUR_FAULT []).curAfter s
  else if !(curFaultRuns c) && s.curMode == cmBoot then (s.curFault (2 ^ curFaultPos c)).curAfter s
  else s

def execCurFaultDetect (c : CurFaultCause) (s : State) : Host.Outcome State Fault Refusal :=
  s.done (s.when (s.powered .cu) (s.curFaultFound c))

/-- `BOOT` begins: C fields of the `CUR` range and Curtain SRAM return to their defaults; the selectors stay (R354, R359). -/
def State.curBoot (s : State) : State :=
  let keep : List Nat := [R.CUR_SEL_LINK, R.CUR_SEL_PORT, R.CUR_SEL_SIG]
  let s1 := s.resetFields (fun off => decide (0x03000000 ≤ off ∧ off < 0x03100000) && !keep.contains off) (· == .C)
  let s1 := s1.updCur (fun x => { x with
    sram := [], ue := [], badG := [], alive := none, ownAlive := 0, resp := [], stage := [], spiDrop := false, silent := false, testOut := 0
    sweeps := [], refusedAt := 0 })
  let s1 := (s1.setFld F.CUR_STATE.HW_DROP (b2n s.cur.low)).setFld F.CUR_INPUTS.DROP_N (b2n s.cur.low)
  let s1 := s1.setFld F.CUR_INPUTS.CUR_OK (s.fld F.CUR_INPUTS.CUR_OK)
  s1.curAfter s

/-- The Curtain's own watchdog expires. -/
def State.curReset (s : State) : State :=
  (({ s with pbk := { s.pbk with resets := s.pbk.resets.modify 0 5 (· + 1) } }).bump F.CUR_RESET_CNT.COUNT).curBoot

def execCurWatchdogExpiry (s : State) : Host.Outcome State Fault Refusal := s.done (s.when (s.powered .cu) s.curReset)

/-! ### Graphics (R364) -/

def storeBase : Nat := 2 ^ 32
def storeSize : Nat := 1048576
def graphicAddr (g : Nat) : Nat := 0x030B0000 + 0x200 * g
def State.graphicHead (s : State) (g : Nat) : List Byte := s.curBytes (graphicAddr g) 16
def Gr.w (h : List Byte) : Nat := fieldAt h 0 2
def Gr.h (h : List Byte) : Nat := fieldAt h 2 2
def Gr.off (h : List Byte) : Nat := fieldAt h 4 4
def Gr.crc (h : List Byte) : Nat := fieldAt h 8 4
def Gr.size (h : List Byte) : Nat := Gr.h h * ceilDiv (Gr.w h) 2

/-- A graphic passes its check: it lies within the store, and its pixel bytes have its CRC. -/
def State.graphicOk (s : State) (g : Nat) : Bool :=
  let h := s.graphicHead g
  decide (Gr.w h ≤ 4096) && inRange 1 4096 (Gr.h h) && decide (Gr.off h + Gr.size h ≤ storeSize) &&
    crc32c (s.curBytes (storeBase + Gr.off h) (Gr.size h)) == Gr.crc h

/-- Every graphic is checked. -/
def State.checkGraphics (s : State) : State :=
  let bad := (List.range 16).filter (fun g => Gr.w (s.graphicHead g) != 0 && !s.graphicOk g)
  let s := s.updCur (fun x => { x with badG := bad })
  bad.foldl (fun s g => (s.setFld F.CUR_STATE.LOOK_BAD 1).raise Src.curtain E.CUR_LOOK_BAD [g]) s

/-! ### Parameters (R354, R376) -/

/-- A field takes a committed value that it accepts (R7). -/
def FieldDef.commit (f : FieldDef) (old v : Nat) : Nat := if f.check.ok f.width v then v else old
def RegDef.commit (r : RegDef) (old v : Nat) : Nat :=
  r.fields.foldl (fun acc f => setBits acc f.lsb f.width (f.commit (bits old f.lsb f.width) (bits v f.lsb f.width))) old

/-- Parameter registers, and the memories: window settings, look tables, graphic store. -/
def isCurReg (a : Nat) : Bool := decide (0x03001000 ≤ a ∧ a < 0x03002000)
def isCurMem (a : Nat) : Bool :=
  decide (0x03002000 ≤ a ∧ a < 0x03002200) || decide (0x03040000 ≤ a ∧ a < 0x030B2080) || decide (storeBase ≤ a ∧ a < storeBase + storeSize)

/-- A register's value with bytes written over it. -/
def overlay (base v : Nat) (bs : List (Nat × Byte)) : Nat :=
  bs.foldl (fun v x => if base ≤ x.1 ∧ x.1 < base + 8 then setBits v (8 * (x.1 - base)) 8 x.2.toNat else v) v

/-- Bytes of parameters are applied at once. -/
def State.curApply (s : State) (ws : List (Nat × List Byte)) : State :=
  let bs := ws.flatMap (fun w => (w.2.zipIdx).map (fun x => (w.1 + x.2, x.1)))
  let mem := bs.filter (fun x => isCurMem x.1)
  let regs := bs.filter (fun x => isCurReg x.1)
  let s := s.updCur (fun x => { x with
    sram := mem.foldl (fun m y => FMap.put (curDefault y.1) m y.1 y.2) x.sram
    ue := x.ue.filter (fun c => !mem.any (fun y => y.1 / 16 == c)) })
  let touched := (regs.filterMap (fun x => (findReg x.1).map (·.2))).dedup
  let s := touched.foldl (fun s off => match findReg off with
    | some (r, base) => s.setRv base (r.commit (s.rv base) (overlay base (s.rv base) regs))
    | none => s) s
  let on := maskOf ((List.range 8).filter (fun k => s.alarmActive k))
  s.setFld F.CUR_INPUTS.ALARMS on

/-- An `ADDR` as an address of the model. -/
def spiAddr (a : Nat) : Nat := if 2 ^ 31 ≤ a then storeBase + (a - 2 ^ 31) else 0x03000000 + a

/-- `BOOT` ends (R359). -/
def State.curBooted (s : State) (imageOk testOk : Bool) (version : Nat) (params : List (Nat × List Byte)) : State :=
  let s1 := if imageOk then ((s.curApply params).setFld F.CUR_IMAGE.VERSION version).setFld F.CUR_STATE.IMAGE_VALID 1 else s
  if imageOk && testOk then ((s1.checkGraphics.setFld F.CUR_STATE.MODE cmArmed).updCur CurSt.showAll).curAfter s
  else (s1.curFault (b2n (!imageOk) * 8 + b2n (!testOk) * 16)).curAfter s

def execCurBootComplete (imageOk selftestOk : Bool) (version : Word) (params : List (Word × List Byte)) (s : State) :
    Host.Outcome State Fault Refusal :=
  s.done (s.when (s.powered .cu && s.curMode == cmBoot)
    (s.curBooted imageOk selftestOk version.toNat (params.map (fun p => (spiAddr p.1.toNat, p.2)))))

/-- `CUR_OK` toggles while the Curtain is in service. -/
def State.curOk (s : State) : State :=
  let v := !s.flag F.CUR_INPUTS.CUR_OK
  (s.setFld F.CUR_INPUTS.CUR_OK (b2n v)).send (.pin "CUR_OK" 0 v)

def execCurOkToggle (s : State) : Host.Outcome State Fault Refusal :=
  s.done (s.when (s.powered .cu && curServes s.curMode) s.curOk)

/-! ### Surface looks (R363) -/

def lookAddr (i : Nat) : Nat := 0x03040000 + 48 * i
def State.look (s : State) (i : Nat) : List Byte := s.curBytes (lookAddr i) 48
def Lk.surface (e : List Byte) : Nat := fieldAt e 0 2
def Lk.link (e : List Byte) : Nat := fieldAt e 2 1
def Lk.en (e : List Byte) : Bool := bit (fieldAt e 3 1) 0
def Lk.useGraphic (e : List Byte) : Bool := bit (fieldAt e 3 1) 1
def Lk.node (e : List Byte) : Nat := fieldAt e 4 2
def Lk.width (e : List Byte) : Nat := fieldAt e 6 2
def Lk.height (e : List Byte) : Nat := fieldAt e 8 2
def Lk.emitters (e : List Byte) : Nat := fieldAt e 10 1
def Lk.graphic (e : List Byte) : Nat := fieldAt e 11 1 % 16
def Lk.gx (e : List Byte) : Nat := fieldAt e 12 2
def Lk.gy (e : List Byte) : Nat := fieldAt e 14 2

/-- Enabled surface looks of a link, in entry order. -/
def State.surfaceLooks (s : State) (l : Nat) : List Nat :=
  (List.range 4096).filter (fun i => Lk.en (s.look i) && Lk.link (s.look i) == l)

/-- Emitter codes at an address, poisoned ones as 0. -/
def State.codesAt (s : State) (a n : Nat) : List Byte := (List.range (2 * n)).map (fun k => s.curSafe (a + k))

/-- The codes of lamp (u, v) of a look. -/
def State.lookCodes (s : State) (i u v : Nat) : List Byte :=
  let e := s.look i
  let g := Lk.graphic e
  let h := s.graphicHead g
  let n := Lk.emitters e
  if Lk.useGraphic e && !s.cur.badG.contains g && decide (Lk.gx e ≤ u ∧ u < Lk.gx e + Gr.w h ∧ Lk.gy e ≤ v ∧ v < Lk.gy e + Gr.h h) then
    let x := u - Lk.gx e
    let a := storeBase + Gr.off h + (v - Lk.gy e) * ceilDiv (Gr.w h) 2 + x / 2
    if s.curBad a then zeros (2 * n)
    else s.codesAt (graphicAddr g + 16 + 16 * (if x % 2 = 0 then bits (s.curByte a).toNat 0 4 else bits (s.curByte a).toNat 4 4)) n
  else s.codesAt (lookAddr i + 16) n

/-- The bytes of columns and rows of a look. -/
def State.lookRect (s : State) (i : Nat) (us vs : List Nat) : List Byte := vs.flatMap (fun v => us.flatMap (fun u => s.lookCodes i u v))

/-- The units of a look with their data. -/
def State.lookUnits (s : State) (i : Nat) : List (Nat × List Byte) :=
  let e := s.look i
  (List.range (ceilDiv (Lk.height e) 128)).flatMap (fun ty => (List.range (ceilDiv (Lk.width e) 128)).map (fun tx =>
    (tileKey (Lk.surface e) tx ty,
      s.lookRect i ((List.range (min 128 (Lk.width e - 128 * tx))).map (128 * tx + ·))
        ((List.range (min 128 (Lk.height e - 128 * ty))).map (128 * ty + ·)))))

/-! ### Sweeps (R361, R373) -/

/-- A frame of a link generator, with the Curtain's claim; it stands outside the `LSEQ` series, so its `LSEQ` is open. -/
def State.curFrame (s : State) (l type : Nat) (payload : List Byte) : State :=
  s.sendFrame l type (s.fld F.CUR_CLAIM.CLAIM) (s.freeVal % 65536) payload

/-- A unit as `REGION` frames. -/
def State.curUnit (s : State) (l node n : Nat) (u : Nat × List Byte) : State :=
  (List.range (ceilDiv u.2.length 4080)).foldl (fun s k =>
    let off := 4080 * k
    let last := decide (u.2.length ≤ off + 4080)
    s.curFrame l ltRegion (leBytes 2 node ++ leBytes 1 (b2n (isBlock u.1)) ++ leBytes 1 (b2n (k == 0) + 2 * b2n last) ++
      leBytes 4 (if isBlock u.1 then keyBlock u.1 else u.1) ++ leBytes 4 off ++ leBytes 4 n ++ (u.2.drop off).take 4080)) s

/-- An immediate `GO`. -/
def State.curGo (s : State) (l n : Nat) : State := s.curFrame l ltGo (leBytes 8 n ++ zeros 16)

/-- Enabled windows 48 to 63 on a look of a link, each with the look. -/
def State.curWindows (s : State) (l : Nat) : List (Nat × Nat) :=
  ((List.range 16).map (48 + ·)).filterMap (fun w =>
    let e := s.windowEntry [] w
    if Sp.en e && !Sp.canvas e then ((s.surfaceLooks l).find? (fun i => Lk.surface (s.look i) == Sp.target e)).map (fun i => (w, i)) else none)

/-- The results of a sweep. -/
def State.sweepWindows (s : State) (l n : Nat) : State :=
  let s := (s.curWindows l).foldl (fun s x =>
    let e := s.windowEntry [] x.1
    let r := clipWindow e (Lk.width (s.look x.2)) (Lk.height (s.look x.2))
    s.curtainResult x.1 e n (windowCrc (s.lookRect x.2 r.1 r.2)) true) s
  let all := (((List.range 64).filter (fun m => s.curtainOn m)).flatMap (fun m => (s.curWindows m).map (·.1))).filter
    (fun w => !Sp.capture (s.windowEntry [] w))
  if !all.isEmpty && all.all (fun w => s.flag (F.CUR_WIN_STATUS.SAFE (w - 48)) && s.flag (F.CUR_WIN_STATUS.MATCH (w - 48))) then
    s.setFld F.CUR_STATE.LOOK_BAD 0
  else s

/-- A sweep of a link: its surface looks, each with a `GO`, then its fixture blocks, and one more (R361). -/
def State.curSweep (s : State) (l : Nat) : State :=
  let looks := s.surfaceLooks l
  let blocks := s.lookBlocks l
  if looks.isEmpty && blocks.isEmpty then s
  else
    let n := s.cur.sweeps.get 0 l + 1
    let s := s.updCur (fun x => { x with sweeps := x.sweeps.put 0 l n })
    let s := looks.foldl (fun s i => ((s.lookUnits i).foldl (fun s u => s.curUnit l (Lk.node (s.look i)) n u) s).curGo l n) s
    let s := (blocks.foldl (fun s k => s.curUnit l ((k - 2 ^ 40) / 256) n (k, s.lookBlock l k)) s).curGo l n
    (s.freeStep).sweepWindows l n

/-- The link generator runs: the selector carries its stream on an `ACTIVE` link. -/
def State.curLinkRuns (s : State) (l : Nat) : Bool := s.powered .cu && s.linkUp l && s.linkActive l && s.curtainOn l

def execCurSweep (link : LinkIx) (s : State) : Host.Outcome State Fault Refusal :=
  s.done (s.when (s.curLinkRuns link) (s.curSweep link))

/-- An `ECHO` with the Curtain's claim. -/
def State.curEcho (s : State) (l : Nat) : State :=
  if (s.surfaceLooks l).isEmpty && (s.lookBlocks l).isEmpty then s
  else
    ((s.curFrame l ltEcho (leBytes 4 s.cur.echoTag ++ zeros 4)).freeStep).updCur (fun x => { x with echoTag := (x.echoTag + 1) % 2 ^ 32 })

def execCurEcho (link : LinkIx) (s : State) : Host.Outcome State Fault Refusal :=
  s.done (s.when (s.curLinkRuns link) (s.curEcho link))

/-! ### Ethernet and line ports (R369, R370) -/

def State.curNetSrc (s : State) (p : Nat) : NetSrc :=
  ⟨s.fld (F.CUR_NET_MAC.MAC p), s.rv (R.CUR_NET_IP4 p), [], false,
    if s.flag (F.CUR_NET_VLAN.EN p) then some (s.fld (F.CUR_NET_VLAN.ID p), s.fld (F.CUR_NET_VLAN.PCP p)) else none⟩
def State.curCid (s : State) : List Byte := (List.range 4).flatMap (fun k => leBytes 4 (s.rv (R.CUR_SACN_CID k)))
def State.curName (s : State) : List Byte := (List.range 16).flatMap (fun k => leBytes 4 (s.rv (R.CUR_SACN_NAME k)))

/-- A packet of the Curtain's packetiser. -/
def State.curPacket (s : State) (p u options : Nat) : State :=
  let seq := (s.netSt p).curSeqs.get 0 u
  let b := e131Data s.curCid s.curName 200 0 seq options u (s.lookImage routeSacn u)
  let s := s.send (.ethFrame p (sacnFrame (s.curNetSrc p) u b s.freeVal))
  (s.freeStep).updNet p (fun x => { x with curSeqs := x.curSeqs.put 0 u ((seq + 1) % 256) })

/-- The packets of one period: of every universe, or of those being terminated; with the last of these the port returns. -/
def State.curSacn (s : State) (p : Nat) : State :=
  if s.cur.retNet.contains p then
    let s := ((s.netSt p).curTerm.map (·.1)).foldl (fun s u => s.curPacket p u 0x40) s
    let left := ((s.netSt p).curTerm.map (fun x => (x.1, x.2 - 1))).filter (fun x => x.2 != 0)
    let s := s.updNet p (fun x => { x with curTerm := left })
    if left.isEmpty then
      (s.updCur (fun x => { x with retNet := x.retNet.filter (· ≠ p) })).setFld F.CUR_SEL_PORT.NET
        (setBits (s.fld F.CUR_SEL_PORT.NET) p 1 0)
    else s
  else s.curUniverses.foldl (fun s u => s.curPacket p u 0) s

def execCurSacnPacket (port : PortIx) (s : State) : Host.Outcome State Fault Refusal :=
  s.done (s.when (s.powered .cu && s.netUp && s.netCurtain port && s.flag (F.NET_STATE.LINK_UP port)) (s.curSacn port))

/-- The Curtain packet on a line port ends: the port returns, or the next one starts. -/
def State.curLine (s : State) (n : Nat) : State :=
  if s.cur.retLine.contains n then
    (s.updCur (fun x => { x with retLine := x.retLine.filter (· ≠ n) })).setFld F.CUR_SEL_PORT.LINE
      (setBits (s.fld F.CUR_SEL_PORT.LINE) n 1 0)
  else if s.understudy then s
  else (s.lineDe n true).send (.linePacket n 176 12 (0 :: s.lookImage routeLine n))

def execCurLinePacket (port : Ix16) (s : State) : Host.Outcome State Fault Refusal :=
  s.done (s.when (s.powered .cu && s.evtUp && s.lineCurtain port) (s.curLine port))

/-! ### Patch comparison, scrub, refused writes (R353, R366, R374) -/

/-- A fixture look is the safe look of a patch entry. -/
def State.lookFits (s : State) (i : Nat) (e : List Byte) : Bool :=
  let k := s.fixLook i
  decide (i < 4096) && Fl.route k != 3 && Fl.route k == Pt.route e && Fl.routeA k == Pt.routeA e && Fl.routeB k == Pt.routeB e &&
    Fl.start k == Pt.start e

def State.curCompare (s : State) : State :=
  match s.cur.patchq with
  | [] => s
  | (n, e) :: rest =>
    let s := s.updCur (fun x => { x with patchq := rest })
    if s.lookFits (Pt.safeLook e) e then s
    else (s.bump F.CUR_LOOK_MISMATCH_CNT.COUNT).raise Src.curtain E.CUR_LOOK_MISMATCH [n, Pt.safeLook e]

def execCurPatchCompare (s : State) : Host.Outcome State Fault Refusal := s.done (s.when (s.powered .cu) s.curCompare)

/-- A scrub (R374): what it finds, then every graphic's check. Poison in a look table or the graphic store sets `LOOK_BAD`. -/
def State.curScrub (s : State) (corrected : Nat) (bad : List Nat) : State :=
  let s := s.bumpBy F.CUR_SRAM_CE_CNT.COUNT corrected
  let s := s.updCur (fun x => { x with ue := (x.ue ++ bad.map (fun a => spiAddr a / 16)).dedup })
  let s := bad.foldl (fun s a =>
    let s := if spiAddr a < storeBase ∧ spiAddr a < 0x03040000 then s else s.setFld F.CUR_STATE.LOOK_BAD 1
    (s.bump F.CUR_SRAM_UE_CNT.COUNT).raise Src.curtain E.CUR_SRAM_UE [a]) s
  s.checkGraphics

def execCurSramScrub (corrected : Nat) (bad : List Word) (s : State) : Host.Outcome State Fault Refusal :=
  s.done (s.when (s.powered .cu) (s.curScrub corrected (bad.map BitVec.toNat)))

/-- A write to the `CUR` range from outside (R353): it changes nothing, and is counted and latched. -/
def State.curRefuse (s : State) (offset source : Nat) : State :=
  let s := s.bump F.CUR_WRITE_REFUSED_CNT.COUNT
  let s := (s.setFld F.CUR_LAST_REFUSED.OFFSET offset).setFld F.CUR_LAST_REFUSED.SOURCE source
  if s.cur.refusedAt = 0 ∨ s.cur.refusedAt - 1 + hclkPerSecond ≤ s.time.house then
    (s.updCur (fun x => { x with refusedAt := s.time.house + 1 })).raise Src.curtain E.CUR_WRITE_REFUSED []
  else s

def execCurWriteRefused (offset : Fin 1048576) (source : BitVec 16) (s : State) : Host.Outcome State Fault Refusal :=
  s.done (s.when (s.powered .cu) (s.curRefuse offset source.toNat))

/-! ### The SPI port (R375 to R377) -/

def spOk : Nat := 0
def spBadCrc : Nat := 1
def spRepeat : Nat := 2
def spSkip : Nat := 3
def spBadAddr : Nat := 4
def spBadLength : Nat := 5
def spRefused : Nat := 6

/-- The response to a message. -/
def State.spiResponse (s : State) (type result : Nat) (data : List Byte) : List Byte :=
  let b := leBytes 1 type ++ leBytes 1 s.cur.ownAlive ++ leBytes 2 data.length ++ leBytes 1 result ++ leBytes 1 s.curMode ++ zeros 2 ++
    leBytes 4 (s.fld F.CUR_CAUSE.CAUSES + s.fld F.CUR_STATE.LOOK_BAD * 2 ^ 31) ++ data
  b ++ leBytes 4 (crc32c b)

/-- The verdict on a message's `CRC` and `ALIVE`, and what it does to the counters. -/
def State.spiTake (s : State) (m : SpiMsg) : State × Nat :=
  if !m.crcOk then (s.bump F.CUR_SPI_CRC_CNT.COUNT, spBadCrc)
  else
    let a := m.alive.toNat
    match s.cur.alive with
    | some p =>
      if a = p then (s.bump F.CUR_SPI_ALIVE_CNT.COUNT, spRepeat)
      else
        let s1 := s.updCur (fun x => { x with alive := some a })
        if a = (p + 1) % 256 then ((s1.updCur (fun x => { x with silent := false })).bump F.CUR_SPI_OK_CNT.COUNT, spOk)
        else (s1.bump F.CUR_SPI_ALIVE_CNT.COUNT, spSkip)
    | none => ((s.updCur (fun x => { x with alive := some a, silent := false })).bump F.CUR_SPI_OK_CNT.COUNT, spOk)

/-- A length is one a message can have. -/
def spiLength (n : Nat) : Bool := decide (n ≤ 1024 ∧ n % 4 = 0)

/-- A transaction: the response to the message before goes out, and the message is judged; an accepted one acts. The Curtain answers
its port while it is in service. -/
def State.spi (s : State) (type : Nat) (m : SpiMsg) (len : Nat) (act : State → State × Nat × List Byte) : State :=
  if !(s.powered .cu && curServes s.curMode) then s
  else
    let s1 := if s.cur.resp.isEmpty then s else s.send (.spi s.cur.resp)
    let t := s1.spiTake m
    let r := if t.2 ≠ spOk then (t.1, t.2, []) else if !spiLength len then (t.1, spBadLength, []) else act t.1
    let s2 := (r.1.curAfter s).updCur (fun x => { x with ownAlive := (x.ownAlive + 1) % 256 })
    s2.updCur (fun x => { x with resp := s2.spiResponse type r.2.1 r.2.2 })

def execSpiStatus (m : SpiMsg) (s : State) : Host.Outcome State Fault Refusal :=
  s.done (s.spi 0x01 m m.data.length (fun s => (s, spOk, [])))

/-- A byte of the `CUR` range or the graphic store as an SPI `READ` gives it. -/
def State.spiByte (s : State) (a : Nat) : Byte :=
  if isCurMem a then s.curByte a
  else match findReg a with
    | some (_, base) => BitVec.ofNat 8 (bits (s.rv base) (8 * (a - base)) 8)
    | none => BitVec.ofNat 8 0

/-- A run of bytes lies within the `CUR` range or the graphic store. -/
def spiInside (addr n : Nat) : Bool := if 2 ^ 31 ≤ addr then decide (addr - 2 ^ 31 + n ≤ storeSize) else decide (addr + n ≤ 0x100000)

def State.spiReads (s : State) (addr n : Nat) : State × Nat × List Byte :=
  if spiInside addr n then (s, spOk, (List.range n).map (fun k => s.spiByte (spiAddr addr + k))) else (s, spBadAddr, [])

def execSpiRead (m : SpiMsg) (length : Nat) (s : State) : Host.Outcome State Fault Refusal :=
  s.done (s.spi 0x02 m length (fun s => s.spiReads m.addr.toNat length))

/-- A run of bytes lies within the parameter areas or the graphic store. -/
def spiWritable (addr n : Nat) : Bool :=
  if 2 ^ 31 ≤ addr then decide (addr - 2 ^ 31 + n ≤ storeSize)
  else decide (0x1000 ≤ addr ∧ addr + n ≤ 0x3000) || decide (0x40000 ≤ addr ∧ addr + n ≤ 0xB2080)

def State.spiStage (s : State) (addr : Nat) (d : List Byte) : State × Nat × List Byte :=
  if !spiWritable addr d.length then (s, spBadAddr, [])
  else if 65536 < (s.cur.stage.map (fun w => w.2.length)).sum + d.length then (s, spRefused, [])
  else (s.updCur (fun x => { x with stage := x.stage ++ [(spiAddr addr, d)] }), spOk, [])

def execSpiWrite (m : SpiMsg) (s : State) : Host.Outcome State Fault Refusal :=
  s.done (s.spi 0x03 m m.data.length (fun s => s.spiStage m.addr.toNat m.data))

/-- Everything staged is applied at once; not while a look is shown, and only with its check value. -/
def State.spiCommits (s : State) (arg : Nat) : State × Nat × List Byte :=
  if s.curMode ≠ cmArmed ∨ s.curCauses ≠ 0 ∨ crc32c (s.cur.stage.flatMap (·.2)) ≠ arg then (s, spRefused, [])
  else
    let s := (s.curApply s.cur.stage).updCur (fun x => { x with stage := [] })
    ((s.checkGraphics.setFld F.CUR_STATE.SPI_PARAMS 1).raise Src.curtain E.CUR_PARAM_CHANGED [], spOk, [])

def execSpiCommit (m : SpiMsg) (s : State) : Host.Outcome State Fault Refusal :=
  s.done (s.spi 0x04 m m.data.length (fun s => s.spiCommits m.arg.toNat))

def execSpiDiscard (m : SpiMsg) (s : State) : Host.Outcome State Fault Refusal :=
  s.done (s.spi 0x05 m m.data.length (fun s => (s.updCur (fun x => { x with stage := [] }), spOk, [])))

def execSpiDrop (m : SpiMsg) (s : State) : Host.Outcome State Fault Refusal :=
  s.done (s.spi 0x06 m m.data.length (fun s => (s.updCur (fun x => { x with spiDrop := true }), spOk, [])))

/-- `RELEASE`: the SPI `DROP` ends with it; another active cause refuses it. -/
def State.spiReleases (s : State) : State × Nat × List Byte :=
  let s1 := s.updCur (fun x => { x with spiDrop := false })
  if s.curMode ≠ cmDropped ∨ s1.curCauses ≠ 0 then (s, spRefused, []) else (s1.curRelease, spOk, [])

def execSpiRelease (m : SpiMsg) (s : State) : Host.Outcome State Fault Refusal :=
  s.done (s.spi 0x07 m m.data.length State.spiReleases)

/-- `TEST_START` (R372, R376, R428). -/
def State.spiTests (s : State) (arg : Nat) (d : List Byte) : State × Nat × List Byte :=
  if d.length ≠ 16 then (s, spBadLength, [])
  else if s.curMode ≠ cmArmed ∨ s.curCauses ≠ 0 ∨ ¬ inRange 1 3600 arg ∨ s.pwr.state = psDark then (s, spRefused, [])
  else
    let w := fieldAt d 8 4
    let s := (s.setFld F.CUR_STATE.MODE cmTest).updCur (fun x => { x with
      selLink := fieldAt d 0 8, selNet := bits w 0 8, selLine := bits w 8 16, testOut := bits w 24 4, selSig := fieldAt d 12 4 % 65536 })
    (s.raise Src.curtain E.CUR_TEST [], spOk, [])

def execSpiTestStart (m : SpiMsg) (s : State) : Host.Outcome State Fault Refusal :=
  s.done (s.spi 0x08 m m.data.length (fun s => s.spiTests m.arg.toNat m.data))

/-- `TEST_END`; outside `TEST` there is no test to end. -/
def execSpiTestEnd (m : SpiMsg) (s : State) : Host.Outcome State Fault Refusal :=
  s.done (s.spi 0x09 m m.data.length (fun s => if s.curMode = cmTest then (s.curTestEnds, spOk, []) else (s, spRefused, [])))

/-- The SPI watchdog expires (R377). -/
def State.spiSilent (s : State) : State :=
  ((s.updCur (fun x => { x with silent := true })).raise Src.curtain E.CUR_SPI_SILENT []).curAfter s

def execCurSpiSilent (s : State) : Host.Outcome State Fault Refusal :=
  s.done (s.when (s.powered .cu && curServes s.curMode && s.fld F.CUR_SPI_CFG.SPI_WD != 0) s.spiSilent)

end Sys2Proof.Machine
end

