-- ==== Sys2Proof/WellFormed.lean ====
section
/-! DEFINITION. Which commands stand for a happening at all. The operand types rule out the indices the spec does not have; what is
left is checked here. A command that fails its check stands for nothing that can happen to a KX64. -/

namespace Sys2Proof

/-- The host's data, when there is some, has `n` bytes. -/
def HostData.hasLength (n : Nat) : HostData → Bool
  | .bytes b => b.length == n
  | .failed => true

/-- The bytes that one alias write of a queue block or check unit carries: 1, 2 or 4 (R396, R405). -/
def aliasLength (b : List Byte) : Bool := b.length == 1 || b.length == 2 || b.length == 4

/-- A run measures the eye at every one of the 512 combinations (R274). -/
def LaneRun.whole (r : LaneRun) : Bool := r.eye.length == 512

/-- The check of a command. Commands not named here have none beyond the types of their operands. -/
def Instr.wf : Instr → Bool
  | .regAccessUnsupported offset size _ => !(size == 4 && offset.val % 4 == 0)
  | .doorbellVectorArrival data => data.hasLength 256
  | .descriptorArrival _ data => data.hasLength 64
  | .cfgResponse _ _ _ _ words => decide (words.length ≤ 64)
  | .statusReceived _ _ _ _ _ extra => decide (extra.length ≤ 56) && extra.length % 8 == 0
  | .stateReceived _ _ payload => decide (808 ≤ payload.length)
  | .mirrorReceived _ _ payload => decide (16 ≤ payload.length)
  | .bulkReceived _ _ payload => decide (24 ≤ payload.length)
  | .lampstateReceived _ _ payload => decide (24 ≤ payload.length)
  | .tandemNodeRequest _ _ _ payload => decide (8 ≤ payload.length)
  | .qbWriteData _ bytes => aliasLength bytes
  | .qbWriteLast _ bytes => aliasLength bytes
  | .chkDataWrite _ bytes => aliasLength bytes
  | .linkBlockLock x => x.lane0a.whole && x.lane0b.whole && x.lane1a.whole && x.lane1b.whole
  | .calRunDone _ run => run.whole
  | .pbkSecondTick temps => temps.length == 19
  | _ => true

end Sys2Proof
end

