-- ==== Sys2Proof/Machine/HostRows.lean ====
section
/-! DEFINITION. The commands of the host interface and of content objects (R30 to R67, R131, R138). -/

namespace Sys2Proof.Machine

/-! ### Doorbells (R33, R35) -/

/-- The doorbell vector is read, or one further read is owed. -/
def State.pollDoorbell (s : State) : State :=
  if !s.flag F.HST_CTRL.ENABLE then s
  else if s.host.dbOutstanding then { s with host := { s.host with dbAgain := true } }
  else ({ s with host := { s.host with dbOutstanding := true } }).send (.hostRead (s.fld F.HST_DB_ADDR.ADDR * 256) 256)

def execDoorbellPoll (s : State) : Host.Outcome State Fault Refusal := s.done (s.when s.hostUp s.pollDoorbell)

def State.nudge (s : State) : State := s.pollDoorbell

def execHstNudge (s : State) : Host.Outcome State Fault Refusal := s.done (s.when s.hostUp s.nudge)

/-- A ring takes over its doorbell word, or is stopped by it (R35). DESIGN CHOICE (assumption 159): the word of a ring whose `ENABLE` is 0
is ignored, as that of an `OFF` ring is. -/
def State.takeWord (s : State) (n word : Nat) : State :=
  let tail := bits word 0 16
  let head := bits word 16 16
  let r := s.ring n
  let headOk := decide (head < s.cqSlots n)
  if s.isEventRing n then
    (if headOk then s.setRing n { r with cqHead := head }
     else if r.stopped then s else (s.stopRing n).raise Src.rings E.RING_FAULT [n])
  else if s.isDescRing n then
    (if r.stopped then (if headOk then (s.setRing n { r with cqHead := head }).noteFull n else s)
     else if headOk && decide (tail < s.ringSlots n) then (s.setRing n { r with tail := tail, cqHead := head }).noteFull n
     else (s.stopRing n).raise Src.rings E.RING_FAULT [n])
  else s

/-- The further read that polls and nudges have asked for since. -/
def State.pollAgain (s : State) : State :=
  if s.host.dbAgain then ({ s with host := { s.host with dbAgain := false } }).pollDoorbell else s

/-- A read of the vector has failed. -/
def State.doorbellFails (s : State) : State :=
  let s := s.bump F.HST_DB_FAIL_CNT.COUNT
  let n := s.host.dbFails + 1
  let s := { s with host := { s.host with dbFails := n } }
  if 3 ≤ n ∧ ¬ s.host.dbTold then ({ s with host := { s.host with dbTold := true } }).raise Src.rings E.DOORBELL_FAULT [] else s

/-- The vector read returns. -/
def State.vectorArrives (s : State) (d : HostData) : State :=
  if !s.host.dbOutstanding then s
  else
    let s := { s with host := { s.host with dbOutstanding := false } }
    let s := match d with
      | .failed => s.doorbellFails
      | .bytes b =>
        (List.range 64).foldl (fun s n => s.takeWord n (fieldAt b (4 * n) 4)) { s with host := { s.host with dbFails := 0, dbTold := false } }
    s.pollAgain

def execDoorbellVectorArrival (data : HostData) (s : State) : Host.Outcome State Fault Refusal :=
  if data.hasLength 256 then s.done (s.when s.hostUp (s.vectorArrives data)) else .fault .illFormed

/-! ### Descriptors (R37, R44) -/

/-- A descriptor is fetched while the ring's share and the store have a free entry. -/
def State.fetchNext (s : State) (n : Nat) : State :=
  let r := s.ring n
  if !s.flag F.HST_CTRL.ENABLE || !s.isDescRing n || r.stopped || r.tail == r.fetchHead || decide (1024 ≤ s.heldBy n) ||
      decide (8192 ≤ s.host.store.length) then s
  else
    let e : StoreEntry := ⟨s.host.nextId, n, r.fetchHead, [], .fetching, 0, none, false, [], [], 0, 0, []⟩
    let s := { s with host := { s.host with store := s.host.store ++ [e], nextId := s.host.nextId + 1 } }
    (s.setRing n { r with fetchHead := (r.fetchHead + 1) % s.ringSlots n }).send (.hostRead (s.ringBase n + r.fetchHead * 64) 64)

def execDescriptorFetch (ring : RingIx) (s : State) : Host.Outcome State Fault Refusal := s.done (s.when s.hostUp (s.fetchNext ring))

/-- The place of an arriving descriptor: a member of the cue being fetched, with its index, or none. -/
def State.placeMember (s : State) (n : Nat) : State × Option (Nat × Nat) :=
  let r := s.ring n
  match r.cueFetch with
  | some (id, left) =>
    let count := ((s.entry? id).map (·.arg0)).getD 0
    (s.setRing n { r with cueFetch := if left ≤ 1 then none else some (id, left - 1) }, some (id, count - left))
  | none => (s, none)

/-- A descriptor has arrived, and is validated as far as it alone decides. -/
def State.validate (s : State) (e : StoreEntry) (b : List Byte) : State :=
  let (s, member) := s.placeMember e.ring
  let e := { e with bytes := b, phase := .arrived, member := member }
  let st := s.descStatus e member.isSome
  let s := s.updEntry e.id (fun _ => { e with verdict := st })
  if member.isSome then s.settleCue e.ring
  else if st ≠ 0 then s.finish e.id st (if e.opcode = opCue then 0xFFFFFFFF else 0)
  else if e.opcode = opCue then s.setRing e.ring { s.ring e.ring with cueFetch := some (e.id, e.arg0) }
  else s

/-- The oldest descriptor on its way to a ring arrives. One whose ring was restarted meanwhile is flushed; members of a cue already
rejected are passed over. A fetch that fails stops the ring (assumption 49). -/
def State.descArrives (s : State) (n : Nat) (d : HostData) : State :=
  match s.host.store.find? (fun e => e.ring = n && e.phase == .fetching) with
  | none => s
  | some e =>
    let r := s.ring n
    match d with
    | .failed => ((s.dropEntry e.id).stopRing n).raise Src.rings E.RING_FAULT [n]
    | .bytes b =>
      if 0 < r.skip then (s.setRing n { r with skip := r.skip - 1 }).dropEntry e.id
      else if e.verdict = St.flushed then
        (s.updEntry e.id (fun e => { e with bytes := b, phase := .arrived })).finish e.id St.flushed 0
      else s.validate e b

def execDescriptorArrival (ring : RingIx) (data : HostData) (s : State) : Host.Outcome State Fault Refusal :=
  if data.hasLength 64 then s.done (s.when s.hostUp (s.descArrives ring data)) else .fault .illFormed

/-! ### Opcodes of objects (R55 to R58, R131) -/

/-- `OBJ_CREATE`. -/
def State.doCreate (s : State) (e : StoreEntry) : State :=
  let (s, st, h) := s.makeObj e.arg0 e.param
  if st = 0 then (if s.mirrors then s.mirrorOp e.ring e.bytes h [] none false else s).finish e.id St.ok h
  else s.finish e.id st 0

def execObjCreate (ring : RingIx) (s : State) : Host.Outcome State Fault Refusal :=
  s.done (s.when s.hostUp (s.runNext ring (·.opcode == opCreate) State.doCreate))

def execObjWrite (ring : RingIx) (s : State) : Host.Outcome State Fault Refusal :=
  s.done (s.when s.hostUp (s.runNext ring (·.opcode == opWrite) State.writeBegins))

/-- The object bytes a read delivers, zeros in each 16-byte block that is poisoned, and the first such block. -/
def State.readObj (s : State) (o : Obj) (off n : Nat) : State × List Byte × Option Nat :=
  let cws := objCws o.sram o.pages off n
  let (s, bad) := s.consumeAll cws
  let isBad : Nat → Bool := fun k => bad.contains (o.place k).cw
  (s, (List.range n).map (fun k => if isBad (off + k) then 0 else s.objByte o (off + k)),
    (cws.zipIdx.find? (fun x => bad.contains x.1)).map (fun x => off / 16 + x.2))

/-- `OBJ_READ` (R57): the object's current contents. DESIGN CHOICE (assumption 161): they are not those of a copy that still waits for
its frame-start. -/
def State.doRead (s : State) (e : StoreEntry) : State :=
  let (s, b, bad) := s.readObj (s.obj? (handleIdx e.handle)) e.offset e.length
  let s := s.send (.hostWrite e.hostAddr b)
  match bad with
  | some k => s.finish e.id St.uncorrectable k
  | none => s.finish e.id St.ok e.length

def execObjRead (ring : RingIx) (s : State) : Host.Outcome State Fault Refusal :=
  s.done (s.when s.hostUp (s.runNext ring (·.opcode == opRead) State.doRead))

/-- `OBJ_DESTROY`. -/
def State.doDestroy (s : State) (e : StoreEntry) : State :=
  let idx := handleIdx e.handle
  if s.referenced idx then s.finish e.id St.inUse 0
  else
    let s := s.destroyObj idx
    (if s.mirrors then s.mirrorOp e.ring e.bytes 0 [] none false else s).finish e.id St.ok 0

def execObjDestroy (ring : RingIx) (s : State) : Host.Outcome State Fault Refusal :=
  s.done (s.when s.hostUp (s.runNext ring (·.opcode == opDestroy) State.doDestroy))

/-- Bytes an object must still move for a pin (R131): in whole pages or blocks. -/
def State.pinBytes (s : State) (idx mode group : Nat) : Nat :=
  let o := s.obj? idx
  let units := o.pages ++ o.aux
  if mode = 1 then (if o.sram then units.length * blockSize else (units.filter (fun p => pagePc p != group)).length * pageSize)
  else if mode = 2 then (if o.sram then 0 else units.length * pageSize)
  else 0

/-- What a pin wants moved waits in place of what was wanted of the object before, and starts within `BLK_EVAC_BUDGET` (R129, R131). -/
def State.startPinMove (s : State) (idx : Nat) : State :=
  let o := s.obj? idx
  let mine : MoveReq → Bool := fun r => r.obj == idx || (!o.sram && r.obj == 0 && r.pages.any ((o.pages ++ o.aux).contains ·))
  let evac : MoveReq → Bool := fun r => mine r && r.group != 32
  (s.setBlk { s.blk with waitEvac := s.blk.waitEvac.filter (fun r => !evac r) ++ s.pinReqs idx
                         waitMig := if o.pin.isSome then s.blk.waitMig.filter (fun r => !mine r) else s.blk.waitMig }).pumpMoves

/-- The target of a move agrees with a pin (R130). -/
def moveAgrees (mode group : Nat) (m : PageMove) : Bool :=
  mode == 0 || (mode == 1 && !m.toSram && m.units.all (fun p => pagePc p == group)) || (mode == 2 && m.toSram)

/-- Some engine of a class in the plan serves a group. -/
def State.planServes (s : State) (render : Bool) (g : Nat) : Bool := (s.planEngines render).any (fun e => servesGroup render e g)

/-- A pin of an object. -/
def State.pinObj (s : State) (e : StoreEntry) (idx mode group : Nat) : State :=
  if mode = 1 ∧ ¬ s.pcUp group then s.finish e.id St.refused 0
  else if mode = 2 ∧ ¬ (s.obj? idx).sram ∧
      s.sramFree < ceilDiv (s.obj? idx).size blockSize + ceilDiv (auxSize (s.obj? idx).kind (s.obj? idx).param) blockSize then
    s.finish e.id St.noSpace 0
  else
    let s := ((s.objMoves idx).filter (fun m => !moveAgrees mode group m)).foldl State.stopMove s
    let s := s.updObj idx (fun o => { o with pin := if mode = 0 then none else some ⟨mode, group⟩ })
    let n := s.pinBytes idx mode group
    let s := s.startPinMove idx
    s.finish e.id St.ok (min n 0xFFFFFFFF)

/-- A pin of a canvas's render items or of a surface's lamp chunks. -/
def State.pinWork (s : State) (e : StoreEntry) (render : Bool) (mode group : Nat) : State :=
  if mode = 1 ∧ ¬ s.planServes render group then s.finish e.id St.refused 0
  else
    let v := if mode = 0 then 0 else group + 1
    let s := if render then s.setBlk { s.blk with canvasPins := s.blk.canvasPins.put 0 e.offset v }
      else s.setBlk { s.blk with surfacePins := s.blk.surfacePins.put 0 e.offset v }
    s.finish e.id St.ok 0

/-- `OBJ_PIN`. -/
def State.doPin (s : State) (e : StoreEntry) : State :=
  let a := e.arg0
  if Pa.target a = 0 then s.pinObj e (handleIdx e.handle) (Pa.mode a) (Pa.group a)
  else s.pinWork e (Pa.target a == 1) (Pa.mode a) (Pa.group a)

def execObjPin (ring : RingIx) (s : State) : Host.Outcome State Fault Refusal :=
  s.done (s.when s.hostUp (s.runNext ring (·.opcode == opPin) State.doPin))

/-! ### Calls (R103, R204) -/

/-- `CALL`. -/
def State.doCall (s : State) (ring : RingIx) (e : StoreEntry) : State :=
  s.postFrom (.host ring) e.id (callOfBytes e.param) 0

/-- The ring processor posts only while no post of its own is stalled (R105). -/
def execCall (ring : RingIx) (s : State) : Host.Outcome State Fault Refusal :=
  s.done (s.when (s.hostUp && !s.producerStalled (.host ring)) (s.runNext ring (·.opcode == opCall) (fun s e => s.doCall ring e)))

/-- The word of a request for a compile (R204). -/
def compileWord (s : State) (e : StoreEntry) : CallWord :=
  ⟨kCalCompile, clsFE, s.fld F.BLK_PRIO.COMPILE, 0, false, false, 0, 0, 0xFFFF, noFrame, e.handle, 0, 0, 0⟩

/-- `CAL_COMPILE`. -/
def State.doCompile (s : State) (ring : RingIx) (e : StoreEntry) : State :=
  let w := compileWord s e
  let r := s.cbHand (.host ring) Src.rings e.id w
  r.1.settlePost (.host ring) e.id w r.2

def execCalCompile (ring : RingIx) (s : State) : Host.Outcome State Fault Refusal :=
  s.done (s.when (s.hostUp && !s.producerStalled (.host ring)) (s.runNext ring (·.opcode == opCompile) (fun s e => s.doCompile ring e)))

/-! ### Reports (R41) -/

/-- A report goes to host memory, cut to `LENGTH`. -/
def State.report (s : State) (b : List Byte) (e : StoreEntry) : State :=
  (s.send (.hostWrite e.hostAddr (b.take e.length))).finish e.id St.ok b.length

/-- A `REPORT` descriptor of a kind runs. -/
def State.runReport (s : State) (ring kind : Nat) (bytes : State → List Byte) : State :=
  s.runNext ring (fun e => e.opcode == opReport && e.arg0 == kind) (fun s e => s.report (bytes s) e)

def execReportPlacement (ring : RingIx) (s : State) : Host.Outcome State Fault Refusal :=
  s.done (s.when s.hostUp (s.runReport ring 1 (·.blk.report)))

/-- The object table: for every live object, 24 bytes: handle (4), kind (1), location (1: 0 HBM, 1 Stage SRAM), two zeros, size (8), the
address of its first byte (8) in the BAR4 layout or in Stage SRAM. The spec names the fields; their places are assumption 50. -/
def State.objectTable (s : State) : List Byte :=
  List.flatMap (fun (x : Nat × Obj) =>
    leBytes 4 (s.handleOf x.1) ++ leBytes 1 x.2.kind ++ leBytes 1 (b2n x.2.sram) ++ zeros 2 ++ leBytes 8 x.2.size ++
      leBytes 8 (x.2.pages.headD 0 * (if x.2.sram then blockSize else pageSize))) s.obj.objs

def execReportObjectTable (ring : RingIx) (s : State) : Host.Outcome State Fault Refusal :=
  s.done (s.when s.hostUp (s.runReport ring 4 State.objectTable))

/-! ### Completions, head vector, MSI-X (R36, R47, R48, R50) -/

/-- The oldest waiting completion is written once its queue has room. -/
def State.writeCompletion (s : State) (n : Nat) : State :=
  let r := s.ring n
  match r.waiting with
  | [] => s
  | id :: rest =>
    if s.cqFull n then s
    else match s.entry? id with
      | none => s.setRing n { r with waiting := rest }
      | some e =>
        let s := s.send (.hostWrite (s.cqBase n + r.cqTail * 16) (completionBytes e r s.time.house))
        let s := ((s.setRing n { r with waiting := rest }).dropEntry id).advanceCq n
        (if e.irq then s.signal n else s).noteFull n

def execCompletionWrite (ring : RingIx) (s : State) : Host.Outcome State Fault Refusal :=
  s.done (s.when s.hostUp (s.writeCompletion ring))

/-- A changed head-vector word is written. -/
def State.writeHead (s : State) (n : Nat) : State :=
  if s.headWord n = (s.ring n).headWritten then s
  else (s.setRing n { s.ring n with headWritten := s.headWord n }).send
    (.hostWrite (s.fld F.HST_HEADVEC_ADDR.ADDR * 256 + 4 * n) (leBytes 4 (s.headWord n)))

def execHeadVectorWrite (ring : RingIx) (s : State) : Host.Outcome State Fault Refusal := s.done (s.when s.hostUp (s.writeHead ring))

/-- The head-vector words that cover a vector's causes have been written. -/
def State.headsWritten (s : State) (v : Nat) : Bool :=
  (List.range 64).all (fun n => !s.ringEnabled n || s.fld (F.HST_RING_CFG.VEC n) != v || s.headWord n == (s.ring n).headWritten)

/-- The holdoff of a vector's last message is over (R50): its value is in µs, 800 cycles of the house clock each. -/
def State.holdoffOver (s : State) (v : Nat) : Bool :=
  match (s.vec v).sentAt with
  | some t => decide (t + s.fld (F.HST_VEC_HOLDOFF.HOLDOFF v) * 800 ≤ s.time.house)
  | none => true

/-- A message departs. -/
def State.msixDeparts (s : State) (v : Nat) (x : VecSt) : State :=
  (s.setVec v { x with sentAt := some s.time.house }).send (.msix v x.addr x.data)

/-- A vector's message: sent, or pending while the vector is masked. Causes within the holdoff wait for its end. DESIGN CHOICE
(assumption 162): a cause that arises while MSI-X is disabled waits, and is sent once MSI-X is enabled. -/
def State.sendMsix (s : State) (v : Nat) : State :=
  let x := s.vec v
  if x.cause && s.host.msixEnabled && s.headsWritten v then
    if x.masked then s.setVec v { x with cause := false, pendingBit := true }
    else if s.holdoffOver v then s.msixDeparts v { x with cause := false } else s
  else s

def execMsixMessage (vector : Fin 64) (s : State) : Host.Outcome State Fault Refusal := s.done (s.when s.hostUp (s.sendMsix vector))

/-- A vector is unmasked: its pending message departs, at the end of the holdoff where one runs. -/
def State.unmask (s : State) (v : Nat) : State :=
  let x := s.vec v
  if x.pendingBit && s.host.msixEnabled then
    if s.holdoffOver v then s.msixDeparts v { x with masked := false, pendingBit := false }
    else s.setVec v { x with masked := false, pendingBit := false, cause := true }
  else s.setVec v { x with masked := false }

/-- The word at an offset of BAR2 (R29): the MSI-X table's entries, each address, data and vector control with its mask bit, and from
0x1000 the Pending Bit Array. -/
def State.bar2Word (s : State) (off : Nat) : Nat :=
  let x := s.vec (off / 16)
  if off < 0x400 then
    (if off % 16 = 0 then x.addr % 2 ^ 32 else if off % 16 = 4 then x.addr / 2 ^ 32 else if off % 16 = 8 then x.data else b2n x.masked)
  else if off = 0x1000 ∨ off = 0x1004 then
    bits (maskOf ((List.range 64).filter (fun v => (s.vec v).pendingBit))) ((off - 0x1000) * 8) 32
  else 0

/-- A word of BAR2 is written (R29, R50): an address (its two lowest bits are 0), data, or a vector's mask. The Pending Bit Array is
read-only. -/
def State.bar2Write (s : State) (off w : Nat) : State :=
  let v := off / 16
  let x := s.vec v
  if 0x400 ≤ off then s
  else if off % 16 = 0 then s.setVec v { x with addr := setBits x.addr 0 32 (w / 4 * 4) }
  else if off % 16 = 4 then s.setVec v { x with addr := setBits x.addr 32 32 w }
  else if off % 16 = 8 then s.setVec v { x with data := w }
  else if bit w 0 then s.setVec v { x with masked := true }
  else s.unmask v

def execMsixVectorUnmask (vector : Fin 64) (s : State) : Host.Outcome State Fault Refusal :=
  s.done (s.when s.hostUp (s.bar2Write (vector.val * 16 + 12) 0))

/-! ### Ring configuration and restart (R30, R51) -/

/-- Unbegun descriptors of a ring are discarded: those that have arrived complete with `FLUSHED`, those on their way will. -/
def State.flushRing (s : State) (n : Nat) : State :=
  let r := s.ring n
  let coming := (s.host.store.filter (fun e => e.ring = n && e.phase == .fetching)).length
  let skip := match r.cueFetch with | some (_, left) => min left coming | none => min r.skip coming
  let s := match s.openCue n with
    | some c => s.rejectCue c St.flushed 0
    | none => s
  let s := s.setStore (s.host.store.filter (fun e => !(e.ring = n && e.member.isSome)))
  let s := s.setStore (s.host.store.map (fun e => if e.ring = n ∧ e.phase = .fetching then { e with verdict := St.flushed } else e))
  let s := s.setRing n { s.ring n with cueFetch := none, skip := skip }
  ((s.host.store.filter (fun e => e.ring = n && e.phase == .arrived)).map (·.id)).foldl (fun s id => s.finish id St.flushed 0) s

/-- `HST_RING_n_CTRL.RESTART`. -/
def State.restart (s : State) (n head : Nat) : State :=
  if s.ringSlots n ≤ head then s.raise Src.rings E.RING_FAULT [n]
  else
    let s := s.flushRing n
    s.setRing n { s.ring n with fetchHead := head, stopped := false }

def execRingRestart (ring : RingIx) (head : BitVec 16) (s : State) : Host.Outcome State Fault Refusal :=
  s.done (s.when s.hostUp (s.restart ring head.toNat))

/-- `HST_RING_n_CFG` is written: class and sizes change only while the ring is disabled and holds no store entry. A `TAIL` taken over
under the old sizes no longer counts: the next doorbell read gives a new one (assumption 52). -/
def State.ringCfg (s : State) (n v source : Nat) : State :=
  let off := R.HST_RING_CFG n
  let old := s.rv off
  let asked := match findReg off with | some (r, _) => r.written old v | none => old
  let shape : Nat → Nat := fun x => bits x 0 2 + bits x 4 8 * 4
  if shape asked = shape old then s.setRv off asked
  else if bit old 2 ∨ 0 < s.heldBy n then
    (s.setRv off (setBits (setBits asked 0 2 (bits old 0 2)) 4 8 (bits old 4 8))).reservedEncoding source
  else
    let s := s.setRv off asked
    s.setRing n { s.ring n with fetchHead := 0, tail := 0, cqTail := 0, phase := true }

def execRingCfgWrite (ring : RingIx) (cls : BitVec 2) (enable irq : Bool) (sizeLog2 cqSizeLog2 : BitVec 4) (vec : Fin 64) (s : State) :
    Host.Outcome State Fault Refusal :=
  s.done (s.when s.hostUp (s.ringCfg ring (cls.toNat + b2n enable * 4 + b2n irq * 8 + sizeLog2.toNat * 16 + cqSizeLog2.toNat * 256 +
    vec.val * 4096) Src.hostRegs))

/-! ### Aperture, debug window, patrol scrubber (R59, R64, R67) -/

/-- Accesses the aperture accepts. -/
def apertureOk (off : Nat) : WindowOp → Bool
  | .read n => [1, 2, 4, 8].contains n && off % n == 0
  | .write b => (!b.isEmpty) && (([1, 2, 4, 8].contains b.length && off % b.length == 0) || decide (off % 256 + b.length ≤ 256))

def opSize : WindowOp → Nat
  | .read n => n
  | .write b => b.length

/-- An access beyond the object or with a stale handle. -/
def State.apertureMiss (s : State) : State :=
  if s.host.aptTold then s else ({ s with host := { s.host with aptTold := true } }).raise Src.obj E.APERTURE_MISS []

/-- An aperture write while a principal is paired is not mirrored (R335). -/
def State.noteUnmirrored (s : State) : State :=
  if s.role = rolePrincipal ∧ s.pair = pairPaired ∧ ¬ s.host.unmirroredTold then
    ({ s with host := { s.host with unmirroredTold := true } }).raise Src.tandem E.TDM_UNMIRRORED []
  else s

/-- An access through the object aperture. -/
def State.aperture (s : State) (off : Nat) (op : WindowOp) : State :=
  if !apertureOk off op then s.send .unsupported
  else
    let h := s.fld F.OBJ_APT_HANDLE.HANDLE
    let pos := s.rv R.OBJ_APT_BASE + off
    let o := s.obj? (handleIdx h)
    let there := s.live h && decide (pos + opSize op ≤ o.size)
    match op with
    | .read n =>
      if there then
        let (s, b, bad) := s.readObj o pos n
        s.send (if bad.isSome then .readPoisoned else .readData (leNat b))
      else (s.send (.readData 0)).apertureMiss
    | .write b =>
      if there then ((s.objWrite (handleIdx h) pos b).coverMixed o pos b.length).noteUnmirrored
      else s.apertureMiss

/-- An access through the load window, which stands in its place while the ROM waits for a package: Stage SRAM (R441). -/
def State.loadWindow (s : State) (off : Nat) (op : WindowOp) : State :=
  if !apertureOk off op then s.send .unsupported
  else match op with
    | .read n =>
      if sramBytes < off + n then s.send (.readData 0)
      else
        let (s, bad) := s.consumeAll (cwsOf (.sram off) n)
        s.send (if bad.isEmpty then .readData (leNat (s.mem.bytesAt (.sram off) n)) else .readPoisoned)
    | .write b => if sramBytes < off + b.length then s else s.writeMem (.sram off) b

/-- A window whose memory cannot be reached: in reset and boot BAR0 outside `GLB` and `CUR` reads 0 and ignores writes (R434), and so does the
debug window, whose `BAR4` is 0 then (R67). -/
def State.windowOff (s : State) : WindowOp → State
  | .read _ => s.send (.readData 0)
  | .write _ => s

def execApertureAccess (offset : Fin 134217728) (op : WindowOp) (s : State) : Host.Outcome State Fault Refusal :=
  s.done (if s.boot.window && s.powered .host then s.loadWindow offset op
    else if s.hostUp then s.aperture offset op
    else if s.powered .host && !s.boot.held then (if apertureOk offset op then s.windowOff op else s.send .unsupported)
    else s)

/-- A range of HBM holds output records (R188): where each lies in their pages the spec does not say. -/
def State.inRecords (s : State) (off n : Nat) : Bool :=
  s.fix.recPages.any (fun p => decide (p * pageSize < off + n ∧ off < (p + 1) * pageSize))

/-- Bytes of the debug window. A read of pages that hold output records gives a free value (assumption 163). -/
def State.window (s : State) (off : Nat) (op : WindowOp) : State :=
  match op with
  | .read n =>
    if !s.flag F.HST_DBG_EN.BAR4 || decide (hbmBytes ≤ off) then s.send (.readData 0)
    else if s.inRecords off n then (s.send (.readData (s.freeVal % 2 ^ (8 * n)))).freeStep
    else
      let (s, bad) := s.consumeAll (cwsOf (.hbm off) n)
      s.send (if bad.isEmpty then .readData (leNat (s.mem.bytesAt (.hbm off) n)) else .readPoisoned)
  | .write b =>
    if !s.flag F.HST_DBG_EN.BAR4 || decide (hbmBytes ≤ off) then s else s.writeMem (.hbm off) (b.take (hbmBytes - off))

def execDebugWindowAccess (offset : Fin 34359738368) (op : WindowOp) (s : State) : Host.Outcome State Fault Refusal :=
  s.done (if s.hostUp && s.powered .hbm then s.window offset op
    else if s.powered .host && !s.boot.held then s.windowOff op else s)

/-- The number of a codeword as the error marks use it. -/
def codewordNum : Codeword → Nat
  | .hbm n => n
  | .sram n => 2 ^ 31 + n

/-- The scrubber reads a codeword and writes back what it corrected. The count of a page's corrected errors starts anew when the
scrubber comes to the page's first codeword: once per scrub period (assumption 51). -/
def State.scrub (s : State) (cw : Nat) : State :=
  let s := if cw < 2 ^ 31 ∧ cw * 16 % pageSize = 0 then { s with mem := { s.mem with pageCe := s.mem.pageCe.put 0 (cwPage cw) 0 } } else s
  let s := (s.consume cw).1
  { s with mem := { s.mem with ce := s.mem.ce.filter (· ≠ cw) } }

def execPatrolScrub (cw : Codeword) (s : State) : Host.Outcome State Fault Refusal :=
  s.done (s.when (s.evtUp && (match cw with | .hbm _ => s.powered .hbm | .sram _ => true)) (s.scrub (codewordNum cw)))

end Sys2Proof.Machine
end

