-- ==== Sys2Proof/Machine/Meter.lean ====
section
/-! DEFINITION. Metering, energy records and the frame power report (R309 to R328): operations and commands. -/

namespace Sys2Proof.Machine

def State.setMtr (s : State) (x : MtrSt) : State := { s with mtr := x }

/-- HCLK cycles of a sample interval of 125 µs. -/
def sampleCycles : Nat := 100000

def mtrVReset : MtrV := ⟨0, 0, 0, 0, 0, 0, 0, 0, false, 0⟩
def mtrCReset : MtrC := ⟨0, 0, 0, 0, 0, 0, 0, 0, 0, 0, 0, 0, [], [], 0, none, none⟩
def State.mtrV (s : State) (k : Nat) : MtrV := s.mtr.v.get mtrVReset k
def State.mtrC (s : State) (n : Nat) : MtrC := s.mtr.c.get mtrCReset n
def State.setMtrV (s : State) (k : Nat) (x : MtrV) : State := s.setMtr { s.mtr with v := s.mtr.v.put mtrVReset k x }
def State.setMtrC (s : State) (n : Nat) (x : MtrC) : State := s.setMtr { s.mtr with c := s.mtr.c.put mtrCReset n x }

def MtrV.en (x : MtrV) : Bool := bit x.cfg 0
def MtrC.en (x : MtrC) : Bool := bit x.cfg 0
def MtrC.vsel (x : MtrC) : Nat := bits x.cfg 1 3
def MtrC.noloadOn (x : MtrC) : Bool := bit x.cfg 4
def MtrC.autogain (x : MtrC) : Bool := bit x.cfg 5

/-! ### Samples (R311, R313, R317) -/

/-- A stream delayed by a signed phase in 1/1,024 sample: between the sample before and the sample after (the stream as a whole
stands one sample back, so that a negative delay has its neighbour; rounded to nearest, assumption 48). -/
def phased (phase : Nat) (older now newer : Int) : Int :=
  let p := signedOf 8 phase
  if 0 ≤ p then now + roundEven (((older - now) * p : Int) / (1024 : Rat))
  else now + roundEven (((newer - now) * (-p) : Int) / (1024 : Rat))

def curNone : MtrCur := ⟨0, 0, 0⟩
def voltNone : MtrVolt := ⟨0, 0, false⟩
def MtrRaw.c (r : MtrRaw) (n : Nat) : MtrCur := r.cur.getD n curNone
def MtrRaw.v (r : MtrRaw) (k : Nat) : MtrVolt := r.volt.getD k voltNone

/-- The multiplier of an automatic gain: 1, 8 or 64. -/
def gainOf (g : Nat) : Nat := 8 ^ g

/-- A raw value as a sample at a gain. -/
def atGain (g : Nat) (x : Int) : Int := roundEven ((x * (gainOf g : Int) : Int) / (64 : Rat))

/-- The highest gain, at most `g`, at which a magnitude fits. -/
def fitGain (peak : Nat) : Nat → Nat
  | 0 => 0
  | g + 1 => if peak * gainOf (g + 1) ≤ (2 ^ 23 - 1) * 64 then g + 1 else fitGain peak g

/-- A channel's gain changes. -/
def State.setGain (s : State) (n g : Nat) : State :=
  let c := s.mtrC n
  if c.g = g then s
  else ((s.setMtrC n { c with g := g }).setFld (F.MTR_CH_STATUS.GAIN n) g).bump (F.MTR_CH_GAIN_SWITCH_CNT.COUNT n)

/-- The voltage channel serves: enabled and not faulted. -/
def State.voltOk (s : State) (k : Nat) : Bool := (s.mtrV k).en && !s.flag (F.MTR_V_STATUS.INPUT_FAULT k)

/-- A current channel's samples count. -/
def State.chanCounts (s : State) (n : Nat) : Bool :=
  (s.mtrC n).en && !s.flag (F.MTR_CH_STATUS.INPUT_FAULT n) && s.voltOk (s.mtrC n).vsel

/-! ### Accumulators (R315, R318, R319) -/

def aActImp : Nat := 0
def aActExp : Nat := 1
def aQ1 : Nat := 2
def aApp : Nat := 6
def aEstImp : Nat := 7
def aEstExp : Nat := 8
def aBound : Nat := 9

/-- An amount in µWh, not negative, goes to an accumulator: in 2^−32 µWh, rounded to nearest. -/
def State.addEnergy (s : State) (n m : Nat) (q : Rat) : State :=
  let off := R.MTR_CH_ACC n m
  let a := s.mtr.frac.get 0 off + (roundEven (q * 4294967296)).toNat
  (s.setRv off (s.rv off + a / 2 ^ 32)).setMtr { s.mtr with frac := s.mtr.frac.put 0 off (a % 2 ^ 32) }

/-- The accumulators a pulse output sums. -/
def qtyAccs (q : Nat) : List Nat :=
  if q = 0 then [0] else if q = 1 then [1] else if q = 2 then [2, 3] else if q = 3 then [4, 5] else if q = 4 then [6] else []

/-- A pulse output's channel mask. -/
def State.pulseHas (s : State) (k n : Nat) : Bool := bit (s.rv (R.MTR_PULSE_MASK k (n / 32))) (n % 32)

/-- The pin of a pulse output. -/
def State.pulsePin (s : State) (k : Nat) (active : Bool) : State :=
  s.send (.pin "MTR_PULSE" k (active == s.flag (F.MTR_PULSE_CFG.POL k)))

/-- The front end is on. -/
def State.frontEnd (s : State) : Bool := s.powered .mt && s.flag F.MTR_CFG.EN

/-- A pulse begins on an idle output while some are pending (R320); with the front end off they wait. -/
def State.pulseBegin (s : State) (k : Nat) : State :=
  if s.frontEnd ∧ s.mtr.pulse.get 0 k = 0 ∧ 0 < s.fld (F.MTR_PULSE_PENDING.COUNT k) then
    ((s.setFld (F.MTR_PULSE_PENDING.COUNT k) (s.fld (F.MTR_PULSE_PENDING.COUNT k) - 1)).setMtr
      { s.mtr with pulse := s.mtr.pulse.put 0 k 1 }).pulsePin k true
  else s

/-- Whole µWh are added to a pulse output, and quanta spill. -/
def State.pulseAdd (s : State) (k added : Nat) : State :=
  let r := s.rv (R.MTR_PULSE_REMAINDER k) + added
  let p := s.fld (F.MTR_PULSE_PENDING.COUNT k)
  let quantum := max 1 (s.rv (R.MTR_PULSE_QUANTUM k))
  let n := min (r / quantum) (65535 - p)
  let s := (s.setRv (R.MTR_PULSE_REMAINDER k) (r - n * quantum)).setFld (F.MTR_PULSE_PENDING.COUNT k) (p + n)
  let s := if p < 65535 ∧ p + n = 65535 then s.raise Src.metering E.MTR_PULSE_BACKLOG [] else s
  s.pulseBegin k

/-- What the accumulators of a channel have grown by goes to the pulse outputs. -/
def State.pulseGrow (s : State) (n : Nat) (before : List Nat) : State :=
  (List.range 16).foldl (fun s k =>
    if s.flag (F.MTR_PULSE_CFG.EN k) && s.pulseHas k n then
      let d := ((qtyAccs (s.fld (F.MTR_PULSE_CFG.QTY k))).map (fun m => (s.rv (R.MTR_CH_ACC n m) + 2 ^ 64 - before.getD m 0) % 2 ^ 64)).sum
      if d = 0 then s else s.pulseAdd k d
    else s) s

/-! ### Gaps (R318) -/

/-- The mean power of the last cycles added, at most 16. -/
def MtrC.estimate (c : MtrC) : Rat := if c.powers.isEmpty then 0 else c.powers.foldl (· + ·) 0 / ((c.powers.length : Nat) : Rat)

/-- The frames whose interval meets the show times from `a` to `b` have no report of channel n (R328). -/
def MtrWin.spoil (n a : Nat) (b : Option Nat) (w : MtrWin) : MtrWin :=
  if (match w.hi with | some h => decide (a < h) | none => true) && (match b with | some e => decide (w.lo < e) | none => true) then
    { w with bad := n :: w.bad }
  else w
def State.spoilWins (s : State) (n a : Nat) (b : Option Nat) : State :=
  s.setMtr { s.mtr with wins := s.mtr.wins.map (MtrWin.spoil n a b) }

/-- A gap of a channel opens: it began with the last sample that counted. -/
def State.openGap (s : State) (n : Nat) : State :=
  let c := s.mtrC n
  match c.counted with
  | some r => if c.gap.isNone then (s.setMtrC n { c with gap := some r }).spoilWins n r.2 none else s
  | none => s

/-- A gap ends with a sample that counts: estimated energy is added. -/
def State.endGap (s : State) (n rtc stamp : Nat) : State :=
  let c := s.mtrC n
  match c.gap with
  | none => s
  | some g =>
    let p := c.estimate
    let uwh : Rat := r64 (ratAbs p * (((rtc - g.1 : Nat) : Rat) / 32768) * 1000000 / 3600)
    let s := (s.setMtrC n { c with gap := none }).spoilWins n g.2 (some stamp)
    if 0 ≤ p then s.addEnergy n aEstImp uwh else s.addEnergy n aEstExp uwh

/-- Every enabled channel's gap opens: the front end stops. -/
def State.openGaps (s : State) : State :=
  let s := (List.range 96).foldl (fun s n => if (s.mtrC n).en then s.openGap n else s) s
  s.setMtr { s.mtr with prev := none, prev2 := none }

/-! ### The end of a line cycle (R314 to R317) -/

/-- √q in binary64. -/
def sqrt64 (q : Rat) : Rat := r64 (rootRat 2 160 q)

/-- Scale of a voltage sample, and of a current sample in 1/64 of a gain-×1 unit. -/
def voltScale (gain : Nat) : Rat := (f32 gain).toRat / 8388608
def curScale (gain : Nat) : Rat := (f32 gain).toRat / 536870912

/-- Seconds in HCLK cycles. -/
def hclkSeconds (t : Nat) : Rat := (t : Rat) / 800000000

/-- Joules as µWh. -/
def microWh (j : Rat) : Rat := j * 1000000 / 3600

/-- The open cycle of a channel is accumulated as a whole cycle; a channel whose samples do not count adds nothing (R313). -/
def State.accumulate (s : State) (n : Nat) : State :=
  let c := s.mtrC n
  if c.n = 0 ∨ !s.chanCounts n then s
  else
    let kv := voltScale (s.mtrV c.vsel).gain
    let ki := curScale c.gain
    let t := hclkSeconds c.t
    let ep := r64 (((c.sumP : Rat) * kv * ki) / 800000000)
    let eq := r64 (((c.sumQ : Rat) * kv * ki) / 800000000)
    let vrms := sqrt64 ((c.sumV2 : Rat) / ((c.n : Nat) : Rat) * (kv * kv))
    let irms := sqrt64 ((c.sumI2 : Rat) / ((c.n : Nat) : Rat) * (ki * ki))
    let es := r64 (r64 (vrms * irms) * t)
    let va := r64 (es / t)
    let idle := c.noloadOn && decide (va < (f32 c.noload).toRat)
    let s := (((s.setFld (F.MTR_CH_IRMS.A n) (r32bits irms)).setFld (F.MTR_CH_P.W n) (r32bits (ep / t))).setFld (F.MTR_CH_Q.VAR n)
      (r32bits (eq / t))).setFld (F.MTR_CH_S.VA n) (r32bits va)
    let s := s.setMtrC n { c with maxS := ratMax c.maxS va }
    let s := s.setFld (F.MTR_CH_STATUS.NOLOAD_NOW n) (b2n idle)
    if idle then s.bump (F.MTR_CH_NOLOAD_CYC_CNT.COUNT n)
    else
      let s := if 0 ≤ ep then s.addEnergy n aActImp (r64 (microWh ep)) else s.addEnergy n aActExp (r64 (microWh (-ep)))
      let quadrant := if 0 ≤ eq then (if 0 ≤ ep then 0 else 1) else if ep < 0 then 2 else 3
      let s := s.addEnergy n (aQ1 + quadrant) (r64 (microWh (ratAbs eq)))
      let s := s.addEnergy n aApp (r64 (microWh es))
      let c' := s.mtrC n
      s.setMtrC n { c' with powers := (ep / t :: c'.powers).take 16 }

/-- The automatic gain is raised one step at the end of a cycle. -/
def State.raiseGain (s : State) (n : Nat) : State :=
  let c := s.mtrC n
  let ps := (c.peak :: c.peaks).take 4
  let s := s.setMtrC n { c with peaks := ps.take 3 }
  if c.autogain && decide (c.g < 2) && ps.length == 4 && ps.all (fun p => decide (p * gainOf c.g ≤ 2 ^ 19 * 64)) then s.setGain n (c.g + 1)
  else s

/-- A channel's settings take effect, and a cycle begins (R326). A channel that is off has no gap. -/
def State.takeChan (s : State) (n : Nat) : State :=
  let c := s.mtrC n
  let cfg := s.rv (R.MTR_CH_CFG n)
  let s := s.setMtrC n { c with
    cfg := cfg, gain := s.rv (R.MTR_CH_GAIN_I n), phase := s.rv (R.MTR_CH_PHASE n), noload := s.rv (R.MTR_CH_NOLOAD n)
    sumP := 0, sumQ := 0, sumI2 := 0, sumV2 := 0, n := 0, t := 0, peak := 0
    counted := if bit cfg 0 then c.counted else none, gap := if bit cfg 0 then c.gap else none }
  if (s.mtrC n).autogain then s else s.setGain n 0

/-- A channel's cycle ends: it is accumulated, and settings written since take effect. -/
def State.closeChannel (s : State) (n : Nat) : State :=
  (if (s.mtrC n).en then (s.accumulate n).raiseGain n else s).takeChan n

/-- A voltage channel's settings take effect, and a cycle begins (R326). -/
def State.takeVolt (s : State) (k : Nat) : State :=
  s.setMtrV k { s.mtrV k with
    cfg := s.rv (R.MTR_V_CFG k), gain := s.rv (R.MTR_V_GAIN_V k), phase := s.rv (R.MTR_V_PHASE k), n := 0, t := 0, sumV2 := 0 }

/-- A voltage channel's cycle ends. -/
def State.closeCycle (s : State) (k : Nat) : State :=
  let v := s.mtrV k
  let rms := sqrt64 ((v.sumV2 : Rat) / ((max 1 v.n : Nat) : Rat) * (voltScale v.gain * voltScale v.gain))
  let s := s.setFld (F.MTR_V_VRMS.VRMS k) (r32bits rms)
  let mine := (List.range 96).filter (fun n => (s.mtrC n).vsel = k)
  (mine.foldl State.closeChannel s).takeVolt k

/-- Cycles end as `act` says, voltage channel by voltage channel; then what the channels added goes to the pulse outputs, in ascending
channel order (R319). -/
def State.cyclesEnd (s : State) (act : State → Nat → State) : State :=
  let t := (List.range 8).foldl act s
  let ended := (List.range 96).filter (fun n => decide (0 < (s.mtrV (s.mtrC n).vsel).n ∧ (t.mtrV (s.mtrC n).vsel).n = 0))
  ended.foldl (fun u n => u.pulseGrow n ((List.range 7).map (fun m => s.rv (R.MTR_CH_ACC n m)))) t

/-- Samples of a synthesised cycle, by its place in the pattern. -/
def synthSamples (sixty : Bool) (pat : Nat) : Nat := if sixty then (if pat % 3 = 2 then 134 else 133) else 160

/-- A cycle length in range: 14.4 to 23.6 ms. -/
def cycleInRange (t : Nat) : Bool := decide (11520000 ≤ t ∧ t ≤ 18880000)

/-- Cycles are measured or synthesised. -/
def State.setMeasured (s : State) (k : Nat) (m : Bool) : State :=
  (s.setMtrV k { s.mtrV k with measured := m, pat := 0 }).setFld (F.MTR_V_STATUS.CYCLE_VALID k) (b2n m)

/-- A measured cycle ends: its frequency is shown. -/
def State.measuredEnd (s : State) (k t : Nat) : State :=
  (s.setFld (F.MTR_V_FREQ.FREQ k) (r32bits (1 / hclkSeconds t))).closeCycle k

/-- What the sample of a voltage channel does to its cycle (R314). -/
def State.voltCycle (s : State) (k : Nat) (crossing : Bool) (dt : Nat) : State :=
  let v := s.mtrV k
  let since := v.since + dt
  let cross := crossing && s.voltOk k
  let good := if cross then (if cycleInRange since then v.good + 1 else 0) else v.good
  let s := s.setMtrV k { v with since := if cross then 0 else since, good := good }
  if v.measured then
    if !s.voltOk k then s.setMeasured k false
    else if cross && cycleInRange v.t then s.measuredEnd k v.t
    else if cross then s.setMeasured k false
    else if 18880000 < v.t then (s.setMeasured k false).closeCycle k
    else s
  else if 4 ≤ good ∧ cross then (s.setMeasured k true).closeCycle k
  else if synthSamples (s.flag F.MTR_CFG.NOMINAL) v.pat ≤ v.n then (s.closeCycle k).setMtrV k { (s.closeCycle k).mtrV k with pat := (v.pat + 1) % 3 }
  else s

/-! ### One sample -/

/-- A channel's product in one sample: v, h and i, the last in 1/64 of a gain-×1 unit. -/
def State.products (s : State) (n : Nat) (o b w : MtrRaw) : Int × Int × Int :=
  let c := s.mtrC n
  let v := s.mtrV c.vsel
  let k := c.vsel
  let i := phased c.phase (atGain c.g (o.c n).x) (atGain c.g (b.c n).x) (atGain c.g (w.c n).x)
  (phased v.phase (o.v k).x (b.v k).x (w.v k).x, phased v.phase (o.v k).xq (b.v k).xq (w.v k).xq, i * (64 / (gainOf c.g : Nat) : Nat))

/-- v × i in W × HCLK cycles enters the presentation interval that holds the sample. -/
def State.addWindow (s : State) (n : Nat) (b : MtrRaw) (p : Rat) : State :=
  s.setMtr { s.mtr with wins := s.mtr.wins.map (fun w =>
    if w.lo ≤ b.stamp ∧ (match w.hi with | some h => decide (b.stamp < h) | none => true) = true then
      let old := (w.sums.find? (·.1 = n)).map (·.2)
      let x := old.getD (0, 0)
      { w with sums := (n, x.1 + p * ((b.dt : Nat) : Rat), x.2 + b.dt) :: w.sums.filter (·.1 ≠ n) }
    else w) }

/-- v × i of a counted sample of a Dark window (R426). -/
def State.addDark (s : State) (n dt : Nat) (p : Rat) : State :=
  if s.pwr.window then
    { s with pwr := { s.pwr with dark := s.pwr.dark.modify (0, 0) n (fun x => (x.1 + p * ((dt : Nat) : Rat), x.2 + dt)) } }
  else s

/-- A current channel takes a sample. -/
def State.chanSample (s : State) (n : Nat) (o b w : MtrRaw) : State :=
  let c := s.mtrC n
  if !c.en then s
  else
    let s := s.bumpBy (F.MTR_CH_CLIP_CNT.COUNT n) (b.c n).clips
    let s := s.setFld (F.MTR_CH_STATUS.NOVOLT n) (b2n (!s.voltOk c.vsel))
    let s := if c.autogain then s.setGain n (fitGain (b.c n).peak c.g) else s
    let s := s.setMtrC n { s.mtrC n with peak := max (s.mtrC n).peak (b.c n).peak }
    if !s.chanCounts n then s.openGap n
    else
      let s := s.endGap n b.rtc b.stamp
      let x := s.products n o b w
      let p := (x.1 * x.2.2 : Int)
      let q := (x.2.1 * x.2.2 : Int)
      let c := s.mtrC n
      let s := s.setMtrC n { c with
        sumP := c.sumP + p * (b.dt : Nat), sumQ := c.sumQ + q * (b.dt : Nat)
        sumI2 := c.sumI2 + (x.2.2 * x.2.2).natAbs, sumV2 := c.sumV2 + (x.1 * x.1).natAbs
        n := c.n + 1, t := c.t + b.dt, counted := some (b.rtc, b.stamp) }
      let w : Rat := (p : Rat) * voltScale (s.mtrV c.vsel).gain * curScale c.gain
      (s.addWindow n b w).addDark n b.dt w

/-- The sample of one instant, with the ones before and after it. -/
def State.takeSample (s : State) (o b w : MtrRaw) : State :=
  let s := (List.range 96).foldl (fun s n => s.chanSample n o b w) s
  let s := (List.range 8).foldl (fun s k =>
    let v := s.mtrV k
    let x := phased v.phase (o.v k).x (b.v k).x (w.v k).x
    s.setMtrV k { v with n := v.n + 1, t := v.t + b.dt, sumV2 := v.sumV2 + (x * x).natAbs }) s
  s.cyclesEnd (fun s k => s.voltCycle k (b.v k).crossing b.dt)

/-- SCLK clocks the front end: with the root clocks, or in a sampling window of Dark (R22, R425). -/
def State.sclkRuns (s : State) : Bool := (s.time.running || s.pwr.window) && !s.boot.pllLost

/-- The front end runs. -/
def State.mtrRuns (s : State) : Bool := s.frontEnd && s.sclkRuns && s.mtr.frozen.isNone && s.mtr.started

/-- A sample instant (R310): the sample before it, whose neighbour is now known, is taken. -/
def State.mtrSample (s : State) (cur : List MtrCur) (volt : List MtrVolt) : State :=
  let w : MtrRaw := ⟨cur, volt, s.showNow, s.time.rtc, s.mtr.interval⟩
  let s := match s.mtr.prev with
    | none => s
    | some b => s.takeSample (s.mtr.prev2.getD b) b w
  (List.range 16).foldl State.pulseBegin
    (s.setMtr { s.mtr with prev2 := s.mtr.prev, prev := some w, interval := sampleCycles, lastAt := s.time.house })

def execMtrSample (current : Vector MtrCur 96) (voltage : Vector MtrVolt 8) (s : State) : Host.Outcome State Fault Refusal :=
  s.done (s.when s.mtrRuns (s.mtrSample current.toList voltage.toList))

/-- The instants move so that one falls now: the interval under way has its actual length (R312). -/
def State.mtrSync (s : State) (arg : Nat) : State :=
  if arg = 1 then
    let d := (s.time.house + 2 ^ 64 - s.mtr.lastAt) % sampleCycles
    s.setMtr { s.mtr with interval := if d = 0 then sampleCycles else d }
  else s.raise Src.metering E.MTR_SYNC_BAD []

/-- An input is faulted, or its fault clears (R313). -/
def State.setInputFault (s : State) (i : Nat) (on : Bool) : State :=
  if i < 96 then s.setFld (F.MTR_CH_STATUS.INPUT_FAULT i) (b2n on) else s.setFld (F.MTR_V_STATUS.INPUT_FAULT (i - 96)) (b2n on)

def execMtrInputFault (input : Fin 104) (s : State) : Host.Outcome State Fault Refusal :=
  s.done (s.when s.mtrRuns ((s.setInputFault input true).raise Src.metering E.MTR_INPUT_FAULT [input]))

def execMtrInputFaultClear (input : Fin 104) (s : State) : Host.Outcome State Fault Refusal :=
  s.done (s.when s.mtrRuns (s.setInputFault input false))

/-- The active or inactive time of a pulse output ends (R320). -/
def State.pulseTimer (s : State) (k : Nat) : State :=
  let ph := s.mtr.pulse.get 0 k
  if ph = 1 then (s.setMtr { s.mtr with pulse := s.mtr.pulse.put 0 k 2 }).pulsePin k false
  else if ph = 2 then (s.setMtr { s.mtr with pulse := s.mtr.pulse.put 0 k 0 }).pulseBegin k
  else s

def execPulseOutputTimer (k : Ix16) (s : State) : Host.Outcome State Fault Refusal :=
  s.done (s.when (s.powered .mt) (s.pulseTimer k))

/-! ### Energy records (R321 to R324) -/

def recordSize : Nat := 7848
def recMagic : Nat := 0x524D584B
def recPeriodic : Nat := 1
def recPowerfail : Nat := 2
def recShutdown : Nat := 3

/-- Bytes of the external FRAM. -/
def State.framBytes (s : State) (addr n : Nat) : List Byte := FMap.getList 0 s.mtr.fram addr n
def State.framWrite (s : State) (addr : Nat) (b : List Byte) : State := s.setMtr { s.mtr with fram := s.mtr.fram.putList 0 addr b }

/-- The FRAM address of a slot. -/
def State.slotAddr (s : State) (slot : Nat) : Nat := s.fld F.MTR_SAVE.MNV_BASE * 8192 + slot * 8192

/-- A valid record in a slot. -/
def State.slotRecord (s : State) (slot : Nat) : Option (List Byte) :=
  let b := s.framBytes (s.slotAddr slot) recordSize
  if fieldAt b 0 4 = recMagic ∧ fieldAt b 4 2 = 1 ∧ fieldAt b 0x1EA0 4 = crc32c (b.take 0x1EA0) then some b else none

/-- Sequence a is newer than b (R321). -/
def seqNewer (a b : Nat) : Bool := inRange 1 (2 ^ 31 - 1) ((a + 2 ^ 32 - b) % 2 ^ 32)

/-- The newest valid record and its slot. -/
def State.newestRecord (s : State) : Option (Nat × List Byte) :=
  match s.slotRecord 0, s.slotRecord 1 with
  | some a, some b => if seqNewer (fieldAt b 8 4) (fieldAt a 8 4) then some (1, b) else some (0, a)
  | some a, none => some (0, a)
  | none, some b => some (1, b)
  | none, none => none

/-- `BOUND` of a channel at a save (R322), rounded up to whole µWh. -/
def State.boundOf (s : State) (n : Nat) : Nat :=
  let p := ratMax (f32 (s.rv (R.MTR_CH_PMAX n))).toRat (s.mtrC n).maxS
  let dt : Rat := ((s.time.rtc - s.mtr.lastSave : Nat) : Rat) / 32768
  let tb := ratMax dt (s.fld F.MTR_SAVE.SAVE_PERIOD : Nat) + 1
  (-(-(microWh (p * tb))).floor).toNat % 2 ^ 64

/-- Every channel's `BOUND` as R322 computes it. -/
def State.takeBounds (s : State) : State :=
  (List.range 96).foldl (fun s n => s.setRv (R.MTR_CH_ACC n aBound) (s.boundOf n)) s

/-- The record of a save. -/
def State.energyRecord (s : State) (cause seq : Nat) : List Byte :=
  let total := ((List.range 96).map (fun n => s.rv (R.MTR_CH_ACC n aBound))).sum
  let body := leBytes 4 recMagic ++ leBytes 2 1 ++ leBytes 1 cause ++ zeros 1 ++ leBytes 4 seq ++ zeros 4 ++ leBytes 8 s.time.rtc ++
    leBytes 8 total ++ (List.range 96).flatMap (fun n => (List.range 10).flatMap (fun m => leBytes 8 (s.rv (R.MTR_CH_ACC n m)))) ++
    (List.range 16).flatMap (fun k => leBytes 8 (s.rv (R.MTR_PULSE_REMAINDER k) +
      s.fld (F.MTR_PULSE_PENDING.COUNT k) * s.rv (R.MTR_PULSE_QUANTUM k)))
  body ++ leBytes 4 (crc32c body) ++ zeros 4

/-- The slot and sequence number of the next save. -/
def State.nextSlot (s : State) : Nat × Nat :=
  match s.newestRecord with
  | some (slot, b) => (1 - slot, (fieldAt b 8 4 + 1) % 2 ^ 32)
  | none => (0, 1)

/-- The Prompt Book counts a record written (R461). -/
def State.countSave (s : State) : State := { s with pbk := { s.pbk with saves := s.pbk.saves + 1 } }

/-- A record has been written to a slot: it is the newest valid one. -/
def State.recordSaved (s : State) (slot seq : Nat) (b : List Byte) : State :=
  let s := ((s.framWrite (s.slotAddr slot) b).setFld F.MTR_STATE.SLOT slot).setRv R.MTR_SEQ seq
  let s := (List.range 96).foldl (fun s n => s.setMtrC n { s.mtrC n with maxS := 0 }) s
  ((s.bump F.MTR_SAVE_CNT.VALUE).setMtr { s.mtr with lastSave := s.time.rtc, retry := false }).countSave

/-- A save has been written and compared (R323): `ok` says that it read back. A record that did not is left with an open check
code. -/
def State.saveRecord (s : State) (cause : Nat) (ok : Bool) : State :=
  let (slot, seq) := s.nextSlot
  let s := s.takeBounds
  let b := s.energyRecord cause seq
  if ok then s.recordSaved slot seq b
  else
    let s := (s.framWrite (s.slotAddr slot) (patch b 0x1EA0 (leBytes 4 s.freeVal))).freeStep
    ((s.bump F.MTR_SAVE_FAIL_CNT.VALUE).raise Src.metering E.MTR_SAVE_FAIL []).setMtr { s.mtr with retry := true }

/-- Saves are written only once metering has started, and not while it is frozen. -/
def State.maySave (s : State) : Bool := s.powered .gl && s.mtr.started && s.mtr.frozen.isNone

def execPeriodicSave (readBackOk : Bool) (s : State) : Host.Outcome State Fault Refusal :=
  s.done (s.when s.maySave (s.saveRecord recPeriodic readBackOk))

def execMtrSaveRetry (readBackOk : Bool) (s : State) : Host.Outcome State Fault Refusal :=
  s.done (s.when (s.maySave && s.mtr.retry) (s.saveRecord recPeriodic readBackOk))

/-- The last sample is taken, with no sample after it. -/
def State.lastSample (s : State) : State :=
  let s := match s.mtr.prev with
    | none => s
    | some b => s.takeSample (s.mtr.prev2.getD b) b b
  s.setMtr { s.mtr with prev := none, prev2 := none }

/-- The open cycles are closed at the last sample and accumulated (R323 step 3). -/
def State.closeOpen (s : State) : State :=
  s.lastSample.cyclesEnd (fun s k => if 0 < (s.mtrV k).n then s.closeCycle k else s)

/-- SCLK stops: every channel's gap begins, and the cycles under way stay open (R318). -/
def State.sclkStops (s : State) : State := if s.mtrRuns then s.lastSample.openGaps else s

/-- The front end stops with its open cycles accumulated, and every channel's gap begins. -/
def State.frontStops (s : State) : State := (if s.mtrRuns then s.closeOpen else s).openGaps

/-- Metering freezes, and its record begins to be written. -/
def State.freeze (s : State) : State :=
  if s.mtr.started ∧ s.mtr.frozen.isNone then
    let s := s.frontStops
    let (slot, seq) := s.nextSlot
    let s := s.takeBounds
    let b := s.energyRecord recPowerfail seq
    (s.setFld F.MTR_STATE.SAVING 1).setMtr { s.mtr with frozen := some s.time.rtc, pf := some (slot, b), retry := false }
  else s

/-- The last byte of the `POWERFAIL` record is written. -/
def State.powerfailWritten (s : State) : State :=
  match s.mtr.pf with
  | none => s
  | some (slot, b) =>
    let s := s.recordSaved slot (fieldAt b 8 4) b
    ((s.setFld F.MTR_STATE.SAVING 0).setFld F.MTR_STATE.PF_DONE 1).setMtr { s.mtr with pf := none }

def execPowerfailRecordDone (s : State) : Host.Outcome State Fault Refusal := s.done (s.when (s.powered .gl) s.powerfailWritten)

/-- `PFW_N` has been high for 10 ms: metering resumes, and the frozen interval is a gap. -/
def State.pfwResume (s : State) : State :=
  match s.mtr.frozen with
  | none => s
  | some r =>
    let s := s.powerfailWritten
    let s := (s.setFld F.MTR_STATE.PF_DONE 0).raise Src.metering E.MTR_PF_RESUME (words2 (s.time.rtc - r))
    s.setMtr { s.mtr with frozen := none }

def execPfwResume (s : State) : Host.Outcome State Fault Refusal := s.done (s.when (s.powered .gl) s.pfwResume)

/-- A record's fields come back: accumulators, and pulse remainders. -/
def State.restoreRecord (s : State) (b : List Byte) : State :=
  let s := (List.range 96).foldl (fun s n => (List.range 9).foldl (fun s m =>
    s.setRv (R.MTR_CH_ACC n m) (fieldAt b (0x20 + 80 * n + 8 * m) 8)) s) s
  (List.range 16).foldl (fun s k => s.setRv (R.MTR_PULSE_REMAINDER k) (fieldAt b (0x1E20 + 8 * k) 8)) s

/-- The first start of metering (R324): the slots are read. -/
def State.mtrStart (s : State) : State :=
  if s.mtr.started then s
  else
    let s := s.setMtr { s.mtr with started := true, lastSave := s.time.rtc, lastAt := s.time.house, interval := sampleCycles }
    match s.newestRecord with
    | none => (s.setFld F.MTR_STATE.NO_RECORD 1).raise Src.metering E.MTR_NO_RECORD []
    | some (slot, b) =>
      let s := ((s.restoreRecord b).setRv R.MTR_SEQ (fieldAt b 8 4)).setFld F.MTR_STATE.SLOT slot
      if fieldAt b 6 1 = recPeriodic then
        let s := (List.range 96).foldl (fun s n => s.setRv (R.MTR_CH_ACC n aBound) (fieldAt b (0x20 + 80 * n + 72) 8)) s
        let s := { s with pbk := { s.pbk with savesLost := s.pbk.savesLost + 1 } }
        ((s.setFld F.MTR_STATE.SAVE_LOST 1).setRv R.MTR_BOUND_TOTAL (fieldAt b 0x18 8)).raise Src.metering E.MTR_SAVE_LOST
          ([fieldAt b 8 4] ++ words2 (fieldAt b 0x18 8))
      else s

/-- The front end starts: no cycle is open, so every setting takes effect. -/
def State.frontStarts (s : State) : State :=
  (List.range 8).foldl State.takeVolt ((List.range 96).foldl State.takeChan s)

/-- `MTR_CFG.EN` is written 1. -/
def State.mtrEnable (s : State) : State :=
  (if s.flag F.MTR_CFG.EN then s else (s.setFld F.MTR_CFG.EN 1).frontStarts).mtrStart

def execMtrEnable (s : State) : Host.Outcome State Fault Refusal := s.done (s.when (s.powered .gl) s.mtrEnable)

/-- An uncorrectable error in a channel's accumulators (R325). With no valid record, what they hold is an open value (assumption 185). -/
def State.reloadChannel (s : State) (n : Nat) : State :=
  match s.newestRecord with
  | none => (List.range 10).foldl (fun s m => (s.setRv (R.MTR_CH_ACC n m) s.freeVal).freeStep) s
  | some (_, b) =>
    let s := (List.range 10).foldl (fun s m => s.setRv (R.MTR_CH_ACC n m) (fieldAt b (0x20 + 80 * n + 8 * m) 8)) s
    let s := s.setMtr { s.mtr with frac := s.mtr.frac.filter (fun e => !(List.range 10).any (fun m => e.1 = R.MTR_CH_ACC n m)) }
    (s.setFld (F.MTR_CH_STATUS.RELOADED n) 1).raise Src.metering E.MTR_RELOAD [n]

/-- An uncorrectable error in a pulse remainder (R325). -/
def State.reloadPulse (s : State) (k : Nat) : State :=
  match s.newestRecord with
  | none => (s.setRv (R.MTR_PULSE_REMAINDER k) s.freeVal).freeStep
  | some (_, b) => s.setRv (R.MTR_PULSE_REMAINDER k) (fieldAt b (0x1E20 + 8 * k) 8)

/-! ### The frame power report (R219, R328) -/

/-- A feed's mean measured power in a frame's interval; none where it has no report. -/
def MtrWin.mean (w : MtrWin) (n : Nat) : Option Rat :=
  if w.bad.contains n then none
  else match w.sums.find? (·.1 = n) with
    | some (_, p, t) => if t = 0 then none else some (p / ((t : Nat) : Rat))
    | none => none

/-- The oldest frame whose interval has ended is reported: each feed's gain is updated. -/
def State.framePower (s : State) : State :=
  match s.mtr.wins with
  | [] => s
  | w :: rest =>
    if w.hi.isNone then s
    else
      let mine := s.fix.waitTrim.filter (·.1 = w.frame)
      let s := { s with mtr := { s.mtr with wins := rest }
                        fix := { s.fix with waitTrim := s.fix.waitTrim.filter (·.1 ≠ w.frame) } }
      mine.foldl (fun s x => match w.mean x.2.1 with
        | some m => if (s.mtrC x.2.1).en then s.trimGain x.2.1 (r32 m) x.2.2 else s
        | none => s) s

def execMeterFramePower (s : State) : Host.Outcome State Fault Refusal := s.done (s.when (s.evtUp && s.powered .mt) s.framePower)

end Sys2Proof.Machine
end

