-- ==== Sys2Proof/Machine/Ledger.lean ====
section
/-! DEFINITION. The Prompt Book (R461 to R467). -/

namespace Sys2Proof.Machine

/-! ### The live Prompt Book (R461, R462) -/

def bookSlots : Nat := 240
def bookSlot (k : Nat) : Nat := 0x04F00000 + k * 0x4000
def bookLen : Nat := 8744
def bookMagic : Nat := 0x4B425050
def stubMagic : Nat := 0x4B425053
def stubCount : Nat := 1024
def stubAt (k : Nat) : Nat := 0x052C0000 + k * 256
def bookLive : Nat := 0
def bookPeriodic : Nat := 1
def bookShutdown : Nat := 2

def State.setPbk (s : State) (x : PbkSt) : State := { s with pbk := x }

/-- The live copy in the layout of R462. -/
def State.book (s : State) (cause seq : Nat) : List Byte :=
  let p := s.pbk
  let body := leBytes 4 bookMagic ++ leBytes 2 1 ++ leBytes 1 cause ++ zeros 1 ++ leBytes 4 seq ++ zeros 4 ++ leBytes 8 s.time.rtc ++
    leBytes 8 (s.rv R.PBK_POWER_ON) ++ leBytes 2 (s.fld F.PBK_MAX_TJ.TEMP) ++ leBytes 1 (s.fld F.PBK_MAX_TJ.GROUP) ++ zeros 5 ++
    leBytes 8 p.drops ++ (List.range 6).flatMap (fun k => leBytes 8 (p.resets.get 0 k)) ++
    leBytes 8 p.brownouts ++ leBytes 8 p.losses ++ leBytes 8 p.saves ++ leBytes 8 p.savesLost ++
    (List.range 304).flatMap (fun k => leBytes 4 (p.temps.get 0 k)) ++
    (List.range 33).flatMap (fun k => leBytes 8 (p.ce.get 0 k) ++ leBytes 8 (p.ue.get 0 k)) ++
    (List.range 330).flatMap (fun l => leBytes 4 (p.cal.get 0 l) ++ leBytes 4 (p.calRej.get 0 l)) ++
    (List.range 1056).flatMap (fun k => leBytes 4 (p.errs.get 0 k))
  body ++ leBytes 4 (crc32c body) ++ zeros 4

def readCells (b : List Byte) (base step size n : Nat) : FMap Nat :=
  (List.range n).foldl (fun m k => m.put 0 k (fieldAt b (base + step * k) size)) []

/-- A record's counts become the live ones. -/
def State.loadBook (s : State) (b : List Byte) : State :=
  let s := s.setPbk { s.pbk with
    temps := readCells b 0x80 4 4 304, drops := fieldAt b 0x28 8, resets := readCells b 0x30 8 8 6, brownouts := fieldAt b 0x60 8
    losses := fieldAt b 0x68 8, saves := fieldAt b 0x70 8, savesLost := fieldAt b 0x78 8, ce := readCells b 0x540 16 8 33
    ue := readCells b 0x548 16 8 33, cal := readCells b 0x750 8 4 330, calRej := readCells b 0x754 8 4 330, errs := readCells b 0x11A0 4 4 1056 }
  ((s.setRv R.PBK_POWER_ON (fieldAt b 0x18 8)).setFld F.PBK_MAX_TJ.TEMP (fieldAt b 0x20 2)).setFld F.PBK_MAX_TJ.GROUP (fieldAt b 0x22 1)

/-! ### Records and stubs (R463 to R465) -/

/-- The valid record of a slot. -/
def State.bookIn (s : State) (slot : Nat) : Option (List Byte) :=
  let b := s.flashBytes (bookSlot slot) bookLen
  if fieldAt b 0 4 = bookMagic ∧ fieldAt b 4 2 = 1 ∧ fieldAt b 0x2220 4 = crc32c (b.take 0x2220) then some b else none

/-- The newest valid record and its slot. A slot that nothing has written holds none. -/
def State.newestBook (s : State) : Option (Nat × List Byte) :=
  (List.range bookSlots).foldl (fun best k => match s.bookIn k with
    | none => best
    | some b => match best with
      | none => some (k, b)
      | some x => if seqNewer (fieldAt b 8 4) (fieldAt x.2 8 4) then some (k, b) else best) none

/-- A slot fails its read-back: it is left with an open check code. -/
def State.badSlot (s : State) (slot : Nat) (b : List Byte) : State :=
  let s := ((s.flashErase (bookSlot slot) 0x4000).flashProgram (bookSlot slot) (patch b 0x2220 (leBytes 4 s.freeVal))).freeStep
  (s.bump F.PBK_WRITE_FAIL_CNT.COUNT).raise Src.events E.PBK_WRITE_FAIL []

/-- A record is written: `failed` slots do not read back, of at most three tried. The stub area is erased when it is full. -/
def State.writeBook (s : State) (cause failed : Nat) : State :=
  let none_ := s.rv R.PBK_SEQ == 0
  let seq := (s.rv R.PBK_SEQ + 1) % 2 ^ 32
  let slot0 := if none_ then 0 else (s.fld F.PBK_STATE.SLOT + 1) % bookSlots
  let b := s.book cause seq
  let s := (List.range failed).foldl (fun s i => s.badSlot ((slot0 + i) % bookSlots) b) s
  let s := s.setFld F.PBK_STATE.LAST_FAIL (b2n (decide (0 < failed)))
  if 3 ≤ failed then s
  else
    let slot := (slot0 + failed) % bookSlots
    let s := (s.flashErase (bookSlot slot) 0x4000).flashProgram (bookSlot slot) b
    let s := ((s.setFld F.PBK_STATE.SLOT slot).setRv R.PBK_SEQ seq).setRv R.PBK_LAST_WRITE s.time.rtc
    let s := s.bump F.PBK_WRITE_CNT.COUNT
    if s.pbk.stub = stubCount then (s.flashErase (stubAt 0) (stubCount * 256)).setPbk { s.pbk with stub := 0 } else s

/-- The stub of a `PFW_N` fall: its fields in the order of R464, with the check code after them. -/
def State.stubBytes (s : State) : List Byte :=
  let body := leBytes 4 stubMagic ++ leBytes 4 (s.rv R.PBK_SEQ) ++ leBytes 8 s.time.rtc ++ leBytes 8 (s.rv R.PBK_POWER_ON) ++
    leBytes 8 s.pbk.brownouts ++ leBytes 2 (s.fld F.PBK_MAX_TJ.TEMP) ++ leBytes 1 (s.fld F.PBK_MAX_TJ.GROUP)
  body ++ leBytes 4 (crc32c body)

def State.writeStub (s : State) : State :=
  if s.pbk.stub < stubCount then
    (s.flashProgram (stubAt s.pbk.stub) s.stubBytes).setPbk { s.pbk with stub := s.pbk.stub + 1 }
  else s

/-- A valid stub of the newest record is applied. -/
def State.applyStub (s : State) (seq k : Nat) : State :=
  let b := s.flashBytes (stubAt k) 39
  if fieldAt b 0 4 = stubMagic ∧ fieldAt b 4 4 = seq ∧ fieldAt b 35 4 = crc32c (b.take 35) then
    let s := s.setPbk { s.pbk with brownouts := fieldAt b 24 8 }
    ((s.setRv R.PBK_POWER_ON (fieldAt b 16 8)).setFld F.PBK_MAX_TJ.TEMP (fieldAt b 32 2)).setFld F.PBK_MAX_TJ.GROUP (fieldAt b 34 1)
  else s

/-- The first stub position that is erased. -/
def State.firstStub (s : State) : Nat :=
  ((List.range stubCount).find? (fun k => (s.flashBytes (stubAt k) 4).all (· == flashBlank))).getD stubCount

def pbkNone : PbkSt := ⟨[], 0, [], 0, 0, 0, 0, [], [], [], [], [], [], 0⟩

/-- `VDD_GL` has come up: the newest record and its stubs are loaded. -/
def State.restoreBook (s : State) : State :=
  let s := s.setPbk { pbkNone with stub := s.firstStub }
  match s.newestBook with
  | none => s
  | some (slot, b) =>
    let seq := fieldAt b 8 4
    let s := (((s.loadBook b).setFld F.PBK_STATE.VALID 1).setFld F.PBK_STATE.SLOT slot).setRv R.PBK_SEQ seq
    let s := s.setRv R.PBK_LAST_WRITE (fieldAt b 0x10 8)
    ((List.range s.pbk.stub).foldl (fun s k => s.applyStub seq k) s).raise Src.events E.PBK_RESTORED [seq]

/-- A word of the live record through the window. -/
def State.bookWord (s : State) : Nat := fieldAt (s.book bookLive (s.rv R.PBK_SEQ)) (s.fld F.PBK_WIN_OFF.OFFSET * 4) 4

/-! ### Counts (R461) -/

/-- A reset is counted by its kind, in the order of R433. -/
def rkCold : Nat := 0
def rkWarm : Nat := 1
def rkHost : Nat := 2
def rkFlr : Nat := 3
def rkBlock : Nat := 4
def State.countReset (s : State) (kind : Nat) : State := s.setPbk { s.pbk with resets := s.pbk.resets.modify 0 kind (· + 1) }

/-- The sensor group's domain is powered. -/
def State.groupPowered (s : State) (g : Nat) : Bool :=
  if g = 0 then s.powered .core else if g = 1 then s.powered .hbm else if g < 18 then s.powered (.lq (Fin.ofNat 16 (g - 2))) else true

/-- The bin of a temperature in 1/16 °C. -/
def tempBin (t : Nat) : Nat := (max 0 (min 15 ((signedOf 16 t + 640) / 160))).toNat

/-- A group's reading: its bin saturates, and the maximum is kept. -/
def State.noteTemp (s : State) (g t : Nat) : State :=
  let s := s.setPbk { s.pbk with temps := s.pbk.temps.modify 0 (16 * g + tempBin t) (fun n => min (n + 1) (2 ^ 32 - 1)) }
  if signedOf 16 (s.fld F.PBK_MAX_TJ.TEMP) < signedOf 16 t then (s.setFld F.PBK_MAX_TJ.TEMP t).setFld F.PBK_MAX_TJ.GROUP g else s

/-- A second by the real-time clock. -/
def State.bookSecond (s : State) (temps : List Nat) : State :=
  let s := (s.bump F.PBK_POWER_ON.SECONDS).setFld F.GL_TEMP.TEMP (temps.getD 18 0)
  (List.range 19).foldl (fun s g => if s.groupPowered g then s.noteTemp g (temps.getD g 0) else s) s

def execPbkSecondTick (temps : List (BitVec 16)) (s : State) : Host.Outcome State Fault Refusal :=
  if temps.length = 19 then s.done (s.when (s.powered .gl) (s.bookSecond (temps.map BitVec.toNat))) else .fault .illFormed

/-- The error bin of a lane. -/
def errBin (e : Nat) : Nat := if e = 0 then 0 else min 7 (Nat.log2 e + 1)

/-- An hour of a link in `ACTIVE` ends. -/
def State.bookHour (s : State) : State :=
  let on := (List.range 132).filter (fun k => s.powered (linkDomain (k / 2)) && s.linkActive (k / 2))
  on.foldl (fun s k => s.setPbk { s.pbk with
    errs := s.pbk.errs.modify 0 (8 * k + errBin (s.pbk.errAt.get 0 k)) (fun n => min (n + 1) (2 ^ 32 - 1)), errAt := s.pbk.errAt.put 0 k 0 }) s

def execPbkHourTick (s : State) : Host.Outcome State Fault Refusal := s.done (s.when s.evtUp s.bookHour)

/-- The firmware's record every 15 minutes; one that falls due during a power-state entry is merged into the `SHUTDOWN` record (R467). -/
def execPbkPeriodicWrite (slotsFailed : Fin 4) (s : State) : Host.Outcome State Fault Refusal :=
  s.done (s.when (s.evtUp && s.pwr.seq.isNone) (s.writeBook bookPeriodic slotsFailed))

end Sys2Proof.Machine
end

