-- ==== Sys2Proof/Machine/TimeRows.lean ====
section
/-! DEFINITION. The commands of stage time, references, LTC, show time and time triggers (R70 to R87). -/

namespace Sys2Proof.Machine

/-! ### Stage clocks (R72, R73) -/

/-- The offset in `STEP_S`, `STEP_NS` in 2^−32 ns. -/
def State.stepOffset (s : State) (x : StageClk) : Int :=
  signedOf 48 (s.fld (F.TIM_STEP_S.SEC (clkIx x))) * (secU : Nat) + signedOf 31 (s.fld (F.TIM_STEP_NS.NS (clkIx x))) * (nsU : Nat)

/-- The first three arguments of `STAGE_STEP` and `STEP_REFUSED` (R501). -/
def State.stepArgs (s : State) (x : StageClk) : List Nat :=
  let sec := s.fld (F.TIM_STEP_S.SEC (clkIx x))
  [clkIx x + sec / 2 ^ 32 % 2 ^ 16 * 2 ^ 16, sec % 2 ^ 32, ofSigned 32 (signedOf 31 (s.fld (F.TIM_STEP_NS.NS (clkIx x))))]

/-- Show time has taken a new value, or entered `FREE`: it locks if its clock is `LOCKED`, and the frames on their way are dropped. -/
def State.jumpAndLock (s : State) : State := (s.jump).showLock

/-- `CTRL.STEP` is written. -/
def State.stageStep (s : State) (x : StageClk) : State :=
  let v : Int := ((s.clk x).val : Int) + s.stepOffset x
  if (s.clk x).locked || decide (v < 0) || decide ((timeMod : Int) ≤ v) then
    s.raise Src.clocks E.STEP_REFUSED (s.stepArgs x ++ [0])
  else
    let moved := s.stepOffset x != 0 && !s.time.show_.locked && s.showSel == x
    let s := (s.setClk x { s.clk x with val := v.toNat, locked := true }).raise Src.clocks E.STAGE_STEP
      (s.stepArgs x ++ [s.time.lastMarked])
    if moved then s.jumpAndLock else s.showLock

def execStageCtrlStep (x : StageClk) (s : State) : Host.Outcome State Fault Refusal := s.done (s.when s.evtUp (s.stageStep x))

/-- `CTRL.UNLOCK` is written. -/
def State.stageUnlockNow (s : State) (x : StageClk) : State :=
  if (s.clk x).locked then (s.freeClock x causeDeclared).stageUnlock x else s

def execStageCtrlUnlock (x : StageClk) (s : State) : Host.Outcome State Fault Refusal :=
  s.done (s.when s.evtUp (s.stageUnlockNow x))

/-- `TIM_x_RATE` is written (R71, R78). -/
def State.rateWrite (s : State) (x : StageClk) (v : Nat) : State :=
  let r := signedOf 23 v
  if (s.clk x).arb = arbTrack ∧ -2684354 ≤ r ∧ r ≤ 2684354 then s.putRate x r else s

def execTimRateWrite (x : StageClk) (rate : BitVec 23) (s : State) : Host.Outcome State Fault Refusal :=
  s.done (s.when s.evtUp (s.rateWrite x rate.toNat))

/-- `TIM_x_PRIO` is written (R75, R77): codes 7 to 15 are reserved. -/
def State.prioWrite (s : State) (x : StageClk) (v source : Nat) : State :=
  (s.writeReg (R.TIM_PRIO (clkIx x)) v source).arbiter x none

def execTimPrioWrite (x : StageClk) (p0 p1 p2 p3 : BitVec 4) (s : State) : Host.Outcome State Fault Refusal :=
  s.done (s.when s.evtUp (s.prioWrite x (p0.toNat + p1.toNat * 16 + p2.toNat * 256 + p3.toNat * 4096) Src.hostRegs))

/-! ### References (R76, R77, R80) -/

def State.refOn (s : State) (r : Nat) : Bool := s.evtUp && s.flag (F.TIM_REF_CFG.EN r)

def execRefEdge (r : Fin 5) (s : State) : Host.Outcome State Fault Refusal := s.done (s.when (s.refOn r) (s.refEdge r))

def execRefQualify (r : Fin 5) (x : StageClk) (s : State) : Host.Outcome State Fault Refusal :=
  s.done (s.when (s.refOn r) ((s.setRef r { s.refSt r with present := true }).qualify x (refCode r)))

def execRefEdgeMissing (r : Fin 5) (s : State) : Host.Outcome State Fault Refusal := s.done (s.when (s.refOn r) (s.loseRef r))

/-- The servo has not written `TIM_x_RATE` within `SERVO_WD`. -/
def State.servoLate (s : State) (x : StageClk) : State :=
  let c := s.clk x
  if c.arb = arbTrack then (s.setClk x { c with qual := c.qual.filter (· ≠ c.src) }).arbiter x none else s

def execServoWdExpiry (x : StageClk) (s : State) : Host.Outcome State Fault Refusal := s.done (s.when s.evtUp (s.servoLate x))

/-- `HOLD_MAX` has passed in `HOLDOVER`. -/
def State.holdExpired (s : State) (x : StageClk) : State :=
  if (s.clk x).arb = arbHoldover then
    (s.setClk x { s.clk x with arb := arbFreerun, src := 0 }).raise Src.clocks E.HOLDOVER_EXPIRED [clkIx x]
  else s

def execHoldMaxExpiry (x : StageClk) (s : State) : Host.Outcome State Fault Refusal := s.done (s.when s.evtUp (s.holdExpired x))

/-- `PTP_OK` is written: with a change of it reference 1 qualifies or disqualifies. DESIGN CHOICE (assumption 166): after an expiry of
`SERVO_WD` reference 1 qualifies again only once `PTP_OK` has been cleared and set. -/
def State.ptpOk (s : State) (x : StageClk) (ok : Bool) : State :=
  if s.flag (F.TIM_CTRL.PTP_OK (clkIx x)) = ok then s else
  let s := s.setFld (F.TIM_CTRL.PTP_OK (clkIx x)) (b2n ok)
  if ok then s.qualify x 1 else s.disqualify x 1

def execPtpOkWrite (x : StageClk) (ok : Bool) (s : State) : Host.Outcome State Fault Refusal :=
  s.done (s.when s.evtUp (s.ptpOk x ok))

/-! ### LTC (R81, R82) -/

/-- An LTC frame: decoded, or discarded with a bad sync word or bit-cell timing. -/
def State.ltcIn (s : State) (f : Option LtcFrame) : State :=
  match f with
  | some f =>
    let s := { s with time := { s.time with ltcBad := 0 } }
    (s.setRv R.TIM_LTC_IN_LAST (f.frame % 64 + f.sec % 64 * 2 ^ 6 + f.min % 64 * 2 ^ 12 + f.hour % 32 * 2 ^ 18 + b2n f.dropFrame * 2 ^ 23 +
      2 ^ 24)).setRv R.TIM_LTC_IN_USER f.user.toNat
  | none =>
    let s := { s with time := { s.time with ltcBad := s.time.ltcBad + 1 } }
    if s.time.ltcBad = 4 then (s.setFld F.TIM_LTC_IN_LAST.VALID 0).raise Src.clocks E.LTC_LOST [] else s

def execLtcFrame (f : Option LtcFrame) (s : State) : Host.Outcome State Fault Refusal := s.done (s.when s.evtUp (s.ltcIn f))

/-- A generated LTC frame begins. -/
def State.ltcOut (s : State) : State :=
  if s.flag F.TIM_LTC_OUT_CFG.EN then
    let rate := s.fld F.TIM_LTC_OUT_CFG.RATE
    let (h, m, sec, f) := ltcLabel s.showNow (signedOf 32 (s.rv R.TIM_LTC_OUT_OFFSET)) rate
    s.send (.ltc h m sec f (rate == 2) (s.rv R.TIM_LTC_OUT_USER))
  else s

def execLtcOutFrame (s : State) : Host.Outcome State Fault Refusal := s.done (s.when s.evtUp s.ltcOut)

/-! ### Show time (R83, R84) -/

/-- `TIM_SHOW_CTRL.SEL` is written. -/
def State.selWrite (s : State) (x : StageClk) : State :=
  if s.showSel = x then s
  else
    let was := s.showNow
    let s := s.setFld F.TIM_SHOW_CTRL.SEL (clkIx x)
    if s.time.show_.locked then
      let s := s.slewCalc
      s.raise Src.clocks E.SHOW_SELECT ([clkIx x] ++ words2 (showOffset s.time.show_.d))
    else if s.showNow = was then s.showLock
    else s.jumpAndLock

def execShowSelWrite (sel : StageClk) (s : State) : Host.Outcome State Fault Refusal := s.done (s.when s.evtUp (s.selWrite sel))

/-- Show time enters `FREE`: the frames on their way are dropped before the first marked frame is known. -/
def State.showFree (s : State) (cause : Nat) : State :=
  if s.time.show_.locked then
    ((s.setShow { s.time.show_ with locked := false, cause := cause }).jump).showUnlock
  else s

/-- `TIM_SHOW_CTRL.UNLOCK` is written. -/
def State.showUnlockNow (s : State) : State := (s.showFree causeDeclared).showLock

def execShowCtrlUnlock (s : State) : Host.Outcome State Fault Refusal := s.done (s.when s.evtUp s.showUnlockNow)

def execShowSlewUpdate (s : State) : Host.Outcome State Fault Refusal :=
  s.done (s.when (s.time.running && s.time.show_.locked) s.slewCalc)

/-! ### Time triggers and `CUE_IO` (R85 to R87) -/

/-- The value and the addend of a slot's clock. -/
def State.trigClock (s : State) (n : Nat) : Nat × Nat :=
  let c := s.fld (F.TIM_TRIG_CTRL.CLOCK n)
  if c = 1 then (s.time.a.val, s.addend .A) else if c = 2 then (s.time.b.val, s.addend .B) else (s.showNow, s.showAddend)

/-- A `CUE_IO` pin is driven. -/
def State.driveCueIo (s : State) (pin : Nat) (level : Bool) : State :=
  let s := s.setFld (F.TIM_CUEIO_CFG.OUT pin) (b2n level)
  if s.fld (F.TIM_CUEIO_CFG.MODE pin) = 2 then s.send (.pin "CUE_IO" pin level) else s

/-- The call word of a slot. -/
def State.trigWord (s : State) (n : Nat) : List Byte := (List.range 8).flatMap (fun m => leBytes 4 (s.rv (R.TIM_TRIG_WORD n m)))

/-- The target of a slot. -/
def State.trigTarget (s : State) (n : Nat) : Nat :=
  timeOf (s.fld (F.TIM_TRIG_TARGET_S.TARGET_S n)) (s.fld (F.TIM_TRIG_TARGET_NS.TARGET_NS n))

/-- A slot is armed and its clock is at or after its target (R85). -/
def State.trigDue (s : State) (n : Nat) : Bool := s.flag (F.TIM_TRIG_CTRL.ARM n) && decide (s.trigTarget n ≤ (s.trigClock n).1)

/-- A slot of a higher number that fires in the same cycle drives the same pin: the pin takes its level alone (R86). -/
def State.pinOvertaken (s : State) (n : Nat) : Bool :=
  (List.range 256).any (fun m => decide (n < m) && s.trigDue m && s.fld (F.TIM_TRIG_CTRL.ACTION m) == 2 &&
    s.fld (F.TIM_TRIG_CTRL.CUE_IO_PIN m) == s.fld (F.TIM_TRIG_CTRL.CUE_IO_PIN n))

/-- The action of a firing (R86). -/
def State.trigAct (s : State) (slot : Fin 256) : State :=
  let n := slot.val
  let a := s.fld (F.TIM_TRIG_CTRL.ACTION n)
  if a = 1 then s.postFrom (.trigger slot) 0 (callOfBytes (s.trigWord n)) (callReserved (s.trigWord n))
  else if a = 2 then if s.pinOvertaken n then s else s.driveCueIo (s.fld (F.TIM_TRIG_CTRL.CUE_IO_PIN n)) (s.flag (F.TIM_TRIG_CTRL.LEVEL n))
  else if a = 3 then (if s.powered .mt then s.mtrSync (s.fld (F.TIM_TRIG_CTRL.ARG n)) else s)
  else if a = 4 then s.raise Src.trigger E.TRIGGER [n]
  else s

/-- A slot that is due fires (R85); slots that are due together fire in ascending order. -/
def State.triggerFire (s : State) (slot : Fin 256) : State :=
  let n := slot.val
  if !s.trigDue n || (List.range n).any (s.trigDue ·) then s
  else
    let target := s.trigTarget n
    let (now, add) := s.trigClock n
    let past := decide (target + add ≤ now)
    let period := s.fld (F.TIM_TRIG_PERIOD.PERIOD n) * nsU
    let steps := if target ≤ now then (now - target) / max 1 period + 1 else 1
    let next := target + steps * period
    let s := s.bump (F.TIM_TRIG_FIRE_CNT.FIRE_CNT n)
    let s := if period = 0 then s.setFld (F.TIM_TRIG_CTRL.ARM n) 0
      else (s.setFld (F.TIM_TRIG_TARGET_S.TARGET_S n) (secOf next)).setFld (F.TIM_TRIG_TARGET_NS.TARGET_NS n) (nsOf next)
    let s := s.trigAct slot
    if past then s.raise Src.trigger E.TRIGGER_PAST (if period = 0 then [] else [steps - 1]) else s

def execTriggerFire (slot : Fin 256) (s : State) : Host.Outcome State Fault Refusal := s.done (s.when s.evtUp (s.triggerFire slot))

/-- A `CUE_IO` pin selects an edge. -/
def State.edgeSelected (s : State) (pin : Nat) (level : Bool) : Bool :=
  s.fld (F.TIM_CUEIO_CFG.MODE pin) == 1 && bit (s.fld (F.TIM_CUEIO_CFG.EDGE pin)) (if level then 0 else 1)

/-- `TIM_CUEIO_n_CFG` is written: a pin in `OUT` mode holds the level written (R87). -/
def State.writeCueIo (s : State) (pin off v source : Nat) : State :=
  let t := s.writeReg off v source
  let out : State → Bool := fun x => x.fld (F.TIM_CUEIO_CFG.MODE pin) == 2
  let level : State → Bool := fun x => x.flag (F.TIM_CUEIO_CFG.OUT pin)
  if out t && (!out s || level t != level s) then t.send (.pin "CUE_IO" pin (level t)) else t

/-- A pin's level changes after the glitch filter (R87). DESIGN CHOICE (assumption 167): `CUE_IO_EDGE` gives the pin, the level and
seconds [47:32] in `ARG_0` bits [7:0], [8] and [31:16], then seconds [31:0], nanoseconds and fraction. -/
def State.cueIoEdge (s : State) (pin : Nat) (level : Bool) : State :=
  if s.flag (F.TIM_CUEIO_CFG.IN pin) = level ∨ s.fld (F.TIM_CUEIO_CFG.MODE pin) = 2 then s
  else
    let s := s.setFld (F.TIM_CUEIO_CFG.IN pin) (b2n level)
    if s.edgeSelected pin level then
      s.raise Src.trigger E.CUE_IO_EDGE [pin + b2n level * 2 ^ 8 + secOf s.showNow / 2 ^ 32 * 2 ^ 16, secOf s.showNow % 2 ^ 32, nsOf s.showNow,
        fracOf s.showNow]
    else s

def execCueIoEdge (pin : Ix16) (level : Bool) (s : State) : Host.Outcome State Fault Refusal :=
  s.done (s.when s.evtUp (s.cueIoEdge pin level))

end Sys2Proof.Machine
end

