-- ==== Sys2Proof/Machine/Reset.lean ====
section
/-! DEFINITION. What the resets do (R15, R52, R116, R433 to R436, R498). -/

namespace Sys2Proof.Machine

/-! ### Common parts -/

def everywhere : Nat → Bool := fun _ => true
def between (lo hi : Nat) : Nat → Bool := fun off => decide (lo ≤ off ∧ off < hi)

/-- The blocks of the GL domain: `GLB`, `PWR` and `GL` (R26). -/
def inGl (off : Nat) : Bool := between 0 0x100000 off || between 0x02400000 0x02500000 off

/-- Causes of `GLB_RESET_CAUSE`. -/
def rcPowerOn : Nat := 0
def rcRstN : Nat := 1
def rcWarm : Nat := 2
def rcWatchdog : Nat := 3
def rcPll : Nat := 4
def rcOff : Nat := 5

/-- A reset that reaches CORE is recorded with the real-time clock (R435). -/
def State.noteCause (s : State) (cause : Nat) : State := s.setRv R.GLB_RESET_CAUSE (cause + s.time.rtc % 2 ^ 45 * 8)

/-! ### `WARM` (R433, R434, R436) -/

/-- Events that a `WARM` reset discards are counted; those of sources that it does not reach wait as deferred events (R498). -/
def State.discardEvents (s : State) : State :=
  let kept : EvtRec → Bool := fun e => e.source == Src.curtain || ghostKeeps e.source
  let out := s.evt.raised.filter (fun e => !kept e) ++ s.evt.held ++ s.evt.store
  let stay := s.evt.raised.filter kept
  let s := { s with evt := { s.evt with
    raised := [], held := [], store := [], srcLost := s.evt.srcLost.filter (fun x => decide (x.1 ≤ Src.glb))
    warmLost := s.evt.warmLost + out.length
    warmLostHouse := if out.isEmpty then s.evt.warmLostHouse else out.foldl (fun m e => max m e.house) 0 } }
  stay.foldl (fun s e => if e.source = Src.curtain then s.deferCurtain e else s.deferGhost e) s

/-- References stop with their settings, and none is qualified. What the arbiters have selected and `RATE` stand (R501): an arbiter acts on
the loss at its next event. -/
def State.dropRefs (s : State) : State :=
  { s with time := { s.time with refs := [], ltcBad := 0, a := { s.time.a with qual := [] }, b := { s.time.b with qual := [] } } }

/-- Links whose lanes or clock carry anything. -/
def State.soundingLinks (s : State) : List Nat := (List.range 66).filter (fun l => s.linkState l != lkDisabled || s.clockRuns l)

/-- Outputs of the blocks that the reset takes: links leave `ACTIVE`, signal strings close. -/
def State.quietOutputs (s : State) : State :=
  let s := ((List.range 66).filter (fun l => s.linkState l != lkDisabled)).foldl
    (fun s l => (s.leaveActive l downReset).setLinkState l lkDisabled) s
  ((List.range 16).filter (fun n => s.flag (F.SIG_CFG.ENABLE n) && !s.sigCurtain n)).foldl State.sigClosed s

/-- The object table is emptied and each freed index's generation advances (R53). Pages that are neither retired nor reserved, and all
blocks, are free; contents are lost. -/
def State.emptyMemory (s : State) : State :=
  let s := s.liveIdx.foldl State.freeIndex s
  { s with obj := { s.obj with objs := [], dying := [] }
           mem := { s.mem with hbm := [], sram := [], ce := [], ue := [], pageCe := [], pcFailed := [], blocks := []
                               pages := s.mem.pages.filter (fun e => e.2 == pgRetired || s.pwr.reserved.contains e.1) } }

/-- `WARM`: fields with letter W, H or B everywhere but in the `CUR` range; what CORE, the engines, the quads, NET and `HST` hold. Time, the
failed list, the Curtain, metering, the PCIe link and configuration space stand. -/
def State.warm (s : State) (cause : Nat) : State :=
  let r := State.reset
  let links := s.soundingLinks
  let s := (s.quietOutputs.discardEvents).emptyMemory
  let s := ({ s with inReset := true }).resetFields everywhere lettersWarm
  let s := s.dropRefs
  let s := { s with
    regLow := [], regShadow := [], host := { s.host with
      rings := [], store := [], openCues := [], dbOutstanding := false, dbAgain := false, dbFails := 0, dbTold := false, aptTold := false
      unmirroredTold := false, vecs := List.map (fun (v : Nat × VecSt) => (v.1, { v.2 with pendingBit := false, cause := false, sentAt := none })) s.host.vecs }
    cfgAcc := [], cfgApp := [], cues := [], frames := [], gone := []
    time := { s.time with sched := r.time.sched, lastClosed := none, lastMarked := 0 }
    cb := r.cb, blk := r.blk, cmp := r.cmp, fix := r.fix, links := [], psh := [], spt := [], sig := [], qb := [], fly := [], net := [], line := []
    tdm := r.tdm, mtr := { s.mtr with wins := [] }, flyTurn := r.flyTurn, sacnDue := false
    off := if s.pwr.state = psRun then s.off.filter (fun d => match d with | .eng _ => false | _ => true) else s.off
    boot := { s.boot with pkg := 0, window := false, chunks := [], leftOut := [] } }
  ((links.foldl State.showLanes s).noteCause cause).countReset rkWarm

/-! ### Boot begins (R440 step 4, R441, R442) -/

def State.setBoot (s : State) (x : BootSt) : State := { s with boot := x }
def State.bootState (s : State) : Nat := s.fld F.GLB_BOOT.STATE
def State.setBootState (s : State) (n : Nat) : State := s.setFld F.GLB_BOOT.STATE n

/-- From flash: the Wings package where one is complete or being installed, otherwise `ACTIVE`. -/
def State.flashBoot (s : State) : State :=
  let pkg := if s.boot.wings = wgComplete ∨ s.boot.wings = wgInstalling then pkgWings else pkgActive
  ((s.setFld F.GLB_BOOT.SOURCE srcFlash).setBootState btLoading).setBoot { s.boot with pkg := pkg }

/-- The load window opens, and with it retry status ends (R441, R443). -/
def State.hostBoot (s : State) : State :=
  (s.setFld F.GLB_BOOT.SOURCE srcHost).setBoot { s.boot with pkg := 0, window := true, retry := false }

/-- The ROM trains both tandem links as a node (R442). -/
def State.tandemBoot (s : State) : State :=
  let s := (s.setFld F.GLB_BOOT.SOURCE srcTandem).setBootState btLoading
  [64, 65].foldl (fun s l => ((s.setFld (F.CL_CTRL.EN l) 1).setLinkState l lkClock).showLanes l) s

/-- Boot begins from the source that was sampled when `COLD` released, once `COLD` has released and the clocks run. -/
def State.startBoot (s : State) : State :=
  if s.boot.held ∨ s.time.running = false then s
  else if s.fld F.GLB_BOOT.BOOT_SEL = 1 then s.hostBoot
  else if s.fld F.GLB_BOOT.BOOT_SEL = 2 then s.tandemBoot
  else s.flashBoot

/-! ### `COLD` (R433, R436) -/

/-- `COLD`: every domain, but for `glStays` (exit from `OFF`, R413) the GL domain. G fields, Ghost Light SRAM, the FRAM, flash, OTP and the
Prompt Book stand; the rails that are off are still to be enabled. The flash is reset through its pin (R491). -/
def State.cold (s : State) (cause : Nat) (glStays : Bool) : State :=
  let r := State.reset
  let links := s.soundingLinks
  let strings := (List.range 16).filter (fun n => s.flag (F.SIG_CFG.ENABLE n))
  let s := s.sclkStops
  let t := s.resetFields (fun off => !(glStays && inGl off)) lettersCold
  let t := { r with
    regs := t.regs, sent := s.sent
    evt := { r.evt with glQueue := s.evt.glQueue }
    time := { r.time with rtc := s.time.rtc, rtcFrac := s.time.rtcFrac, cueIn := s.time.cueIn }
    cur := { r.cur with low := s.cur.low }
    mtr := { s.mtr with wins := [], lastAt := 0 }
    pwr := { r.pwr with rails := s.pwr.rails }
    boot := { s.boot with pkg := 0, window := false, held := true, retry := true, pllLost := false, chunks := [], leftOut := [] }
    pbk := s.pbk, freeCtr := s.freeCtr, pending := s.pending }
  let t := (t.setFld F.CUR_STATE.HW_DROP (b2n s.cur.low)).setFld F.CUR_INPUTS.DROP_N (b2n s.cur.low)
  let t := if s.flag F.CUR_INPUTS.CUR_OK then t.send (.pin "CUR_OK" 0 false) else t
  let t := strings.foldl State.sigClosed (links.foldl State.showLanes t)
  let t := (t.send (.pin "XSPI_RESET_N" 0 false)).send (.pin "XSPI_RESET_N" 0 true)
  ((t.curAfter t).noteCause cause).countReset rkCold

/-- The answer of a command that leads from `s` to `t` with the clocks at given values; the queue stands. -/
def State.doneAs (s t : State) (house rtc rtcFrac : Nat) : Host.Outcome State Fault Refusal :=
  .next { t with pending := s.pending, time := { t.time with house := house, rtc := rtc, rtcFrac := rtcFrac } }

/-- The answer of a command that resets the house clock if `c`. -/
def State.doneCold (s : State) (c : Bool) (t : State) : Host.Outcome State Fault Refusal :=
  s.doneAs t (if c then 0 else s.time.house) s.time.rtc s.time.rtcFrac

/-! ### `HOST` and `FLR` (R52) -/

/-- Fetching stops, descriptors not begun are discarded, and those begun finish without completions; an open cue is rejected. The
configuration space and with it the MSI-X settings return to their reset values (R436). -/
def State.hostReset (s : State) (kind : Nat) : State :=
  let openIds := s.host.openCues.map (·.id)
  let keep : StoreEntry → Bool := fun e => e.phase == .begun && e.member.isNone && !openIds.contains e.id
  let s := s.setStore ((s.host.store.filter keep).map (fun e => { e with orphan := true }))
  let s := { s with host := { s.host with
    rings := [], openCues := [], dbOutstanding := false, dbAgain := false, dbFails := 0, dbTold := false, aptTold := false, unmirroredTold := false
    vecs := [], msixEnabled := false, mrrs := 512, pciCfg := [] } }
  let links := s.soundingLinks
  let strings := (List.range 16).filter (fun n => s.flag (F.SIG_CFG.ENABLE n) && !bit (s.fld F.CUR_SEL_SIG.SIG) n)
  let s := s.resetBy everywhere hostSel
  ((strings.foldl State.sigClosed ((links.filter (fun l => s.linkState l == lkDisabled)).foldl State.showLanes s))).countReset kind

def execHostReset (s : State) : Host.Outcome State Fault Refusal := s.done (s.when (s.powered .host) (s.hostReset rkHost))

def execFlr (s : State) : Host.Outcome State Fault Refusal := s.done (s.when (s.powered .host) (s.hostReset rkFlr))

/-! ### `BLOCK` (R433) -/

/-- One link with its push state. -/
def State.blockLink (s : State) (l : Nat) : State :=
  let s := (s.toDisabled l downReset).abandonPass l
  let s := (s.forgetUnits l (fun _ => true)).updPush l (fun _ => pushReset)
  let lo := 0x01000000 + l * 0x10000
  let s := s.resetFields (fun off => between lo (lo + 0x10000) off || between (0x501000 + l * 0x40) (0x501040 + l * 0x40) off) lettersBlock
  s.setLink l linkReset

/-- The engines of one cluster (R115): their tiles are lost, and while the cluster is held none of them serves, so their calls go to
others. Once released those in service issue their standbys. -/
def State.blockCluster (s : State) (k : Nat) : State :=
  let es := clusterEngines k
  let parked := s.blk.parked
  let s := { s with cmp := { s.cmp with held := if k < 4 then s.cmp.held.filter (fun h => decide (h.1 / 4 ≠ k)) else s.cmp.held }
                    blk := { s.blk with parked := parked ++ [k] } }
  let s := (s.settleEngines es).afterLoss
  ((({ s with blk := { s.blk with parked := parked } } : State).standbyIdle es).rebalance).dispatchAll

/-- One line port. -/
def State.blockLine (s : State) (n : Nat) : State :=
  let s := if s.lineCurtain n then s else s.lineDe n false
  let s := { s with line := s.line.erase n }
  s.resetFields (between (0x01C01000 + n * 0x200) (0x01C01200 + n * 0x200)) lettersBlock

/-- One signal-string port (R234). -/
def State.blockSig (s : State) (n : Nat) : State :=
  let s := if bit (s.fld F.CUR_SEL_SIG.SIG) n then s else s.sigClosed n
  let s := { s with sig := s.sig.erase n }
  s.resetFields (between (0x781000 + n * 0x40) (0x781040 + n * 0x40)) lettersBlock

/-- The domain of the target of a `BLOCK` reset. -/
def blockDomain (kind index : Nat) : Domain :=
  if kind = 0 then linkDomain index else if kind = 1 then .net else if kind = 2 then .eng (Fin.ofNat 8 index) else .core

/-- The targets of each `KIND`. -/
def blockTargets (kind : Nat) : Nat := if kind = 0 then 64 else if kind = 1 then 8 else if kind = 2 then 8 else if kind ≤ 4 then 16 else 0

def State.blockReset (s : State) (kind index source : Nat) : State :=
  if blockTargets kind ≤ index then s.reservedEncoding source
  else
    let t := if kind = 0 then s.blockLink index else if kind = 1 then s.netBlock index else if kind = 2 then s.blockCluster index
      else if kind = 3 then s.blockLine index else s.blockSig index
    (s.when (s.powered (blockDomain kind index)) t).countReset rkBlock

def execGlbResetBlock (kind : BitVec 3) (index : BitVec 6) (s : State) : Host.Outcome State Fault Refusal :=
  s.done (s.when s.evtUp (s.blockReset kind.toNat index.toNat Src.hostRegs))

/-! ### Root PLL loss (R23, R72, R84) -/

/-- A stage clock that was `LOCKED` reports its unlock when lock returns. -/
def State.pllClock (s : State) (x : StageClk) : State :=
  let c := s.clk x
  if c.locked then (s.freeClock x causePll).setClk x { (s.freeClock x causePll).clk x with unlockDue := true } else s

/-- The root PLL runs: with the clocks, and in `DARK` in windows and for a Curtain that stays powered (R425). -/
def State.pllRuns (s : State) : Bool := !s.boot.pllLost && (s.time.running || (s.pwr.state == psDark && s.powered .cu))

/-- The loss is recorded with the real-time clock, and the Curtain goes over to its backup clock. -/
def State.pllTold (s : State) : State :=
  let s := { s with boot := { s.boot with pllLost := true } }
  let s := s.raise Src.ghostLight E.PLL_UNLOCK (words2 s.time.rtc)
  if s.powered .cu then (s.setFld F.CUR_STATE.BACKUP_CLK 1).raise Src.curtain E.CUR_CLOCK_BACKUP [] else s

/-- The root PLL has lost lock. In `DARK` only metering and the Curtain run from it, and what is off comes back from the save set as it was at
the commit point (R431): `WARM` finds nothing to hold. -/
def State.pllLoss (s : State) : State :=
  let s := s.sclkStops
  if !s.time.running then s.pllTold else
  let s := (s.pllClock .A).pllClock .B
  let s := if s.time.show_.locked then s.setShow { s.time.show_ with locked := false, cause := causePll, unlockDue := true } else s
  let s := s.warm rcPll
  ({ s with time := { s.time with running := false } } : State).pllTold

def execPllUnlock (s : State) : Host.Outcome State Fault Refusal := s.done (s.when s.pllRuns s.pllLoss)

/-- Unlocks that were due are raised; the part then boots (R440 step 4). Nothing was on its way, so the first frame that would be marked is the
schedule's next. After a loss in `DARK` the rest of the part stays off. -/
def State.pllBack (s : State) : State :=
  let s := ({ s with boot := { s.boot with pllLost := false } } : State).setFld F.CUR_STATE.BACKUP_CLK 0
  if !s.inReset && psSleep ≤ s.pwr.state then s else
  let s := { s with time := { s.time with running := true } }
  let due : State → StageClk → State := fun s x =>
    if (s.clk x).unlockDue then
      (s.setClk x { s.clk x with unlockDue := false }).hold Src.clocks E.STAGE_UNLOCK [clkIx x + 2 * (s.clk x).cause, s.firstUnpresented]
    else s
  let s := (due (due s .A) .B).startBoot
  if s.time.show_.unlockDue then
    (s.setShow { s.time.show_ with unlockDue := false }).hold Src.clocks E.SHOW_UNLOCK
      [clkIx s.showSel + 2 * s.time.show_.cause, s.firstUnpresented]
  else s

def execPllLockReturn (s : State) : Host.Outcome State Fault Refusal := s.done (s.when s.boot.pllLost s.pllBack)

end Sys2Proof.Machine
end

