-- ==== Sys2Proof/Machine/Power.lean ====
section
/-! DEFINITION. Power states, Dark and power-up (R409 to R432, R478 to R481). -/

namespace Sys2Proof.Machine

def State.setPwr (s : State) (x : PwrSt) : State := { s with pwr := x }

/-! ### Domains and clamps (R409, R432) -/

def lqDomains : List Domain := (List.range 16).map (fun q => .lq (Fin.ofNat 16 q))
def engDomains : List Domain := (List.range 8).map (fun k => .eng (Fin.ofNat 8 k))

/-- CU stays powered in a state: with `CU_KEEP` in `DARK`, and for a Curtain in `DROPPED` or `TEST` (R409, R428). -/
def State.cuStays (s : State) (st : Nat) : Bool :=
  st != psOff && ((st == psDark && s.flag F.GL_DARK_CFG.CU_KEEP) || s.curMode == cmDropped || s.curMode == cmTest)

/-- Domains that a state turns off. -/
def State.domainsOff (s : State) (st : Nat) : List Domain :=
  if st = psSleep then lqDomains ++ [.net]
  else if st = psDeep ∨ st = psDark then
    (if s.cuStays st then [] else [Domain.cu]) ++ [.mt, .core] ++ engDomains ++ lqDomains ++ [.net, .host]
  else if st = psOff then [.cu, .mt, .core] ++ engDomains ++ lqDomains ++ [.net, .host, .hbm]
  else []

/-- The levels at which the clamps hold pins of CORE. -/
def State.clampCore (s : State) : State :=
  let s := (List.range 16).foldl (fun s n => (s.send (.pin "LINE_TX" n true)).lineDe n false) s
  let s := (List.range 16).foldl (fun s n =>
    (((s.sigClosed n).send (.pin "SIG_SCK" n false)).send (.pin "SIG_SDO" n false)).send (.pin "SIG_LAT" n false)) s
  let s := ((s.send (.pin "LTC_OUT" 0 false)).send (.pin "XSPI_CS_N" 0 true)).send (.pin "XSPI_CLK" 0 false)
  (List.range 8).foldl (fun s k => s.send (.pin "XSPI_DQ" k false)) s

/-- Of MT: the front end stops with its open cycles accumulated and a gap begun (R318). -/
def State.clampMt (s : State) : State :=
  let s := s.frontStops
  let s := s.setMtr { s.mtr with pulse := [] }
  let s := (List.range 4).foldl (fun s k => s.send (.pin "MTR_MODCLK" k false)) s
  (List.range 16).foldl (fun s k => s.pulsePin k false) s

/-- Of CU: `CUR_SPI_SDO` goes to high impedance, told as the pin `CUR_SPI_SDO_HIZ`. -/
def State.clampCu (s : State) : State :=
  ((s.setFld F.CUR_INPUTS.CUR_OK 0).send (.pin "CUR_OK" 0 false)).send (.pin "CUR_SPI_SDO_HIZ" 0 true)

/-- Of NET and HOST: TX lanes electrically idle, told as pins `ETH_TX_IDLE` and `PCIE_TX_IDLE`. Links that are up go down (R304). -/
def State.clampNet (s : State) : State :=
  let s := ((List.range 8).filter (fun p => s.flag (F.NET_STATE.LINK_UP p))).foldl State.linkDown s
  (List.range 8).foldl (fun s p => s.send (.pin "ETH_TX_IDLE" p true)) s
def State.clampHost (s : State) : State := (List.range 8).foldl (fun s k => s.send (.pin "PCIE_TX_IDLE" k true)) s

/-- The clamps of the domains of a state engage, and they are off; clocks stop but in `IDLE`. -/
def State.clamp (s : State) (st : Nat) : State :=
  let ds := s.domainsOff st
  let s := s.setPwr { s.pwr with offBefore := s.off }
  let s := ((List.range 66).filter (fun l => ds.contains (linkDomain l) && s.linkState l != lkDisabled)).foldl
    (fun s l => s.toDisabled l downReset) s
  let gens := (List.range 66).filter (fun l => ds.contains (linkDomain l) && s.clockRuns l)
  let s := if ds.contains .net then s.clampNet else s
  let s := if ds.contains .host then s.clampHost else s
  let s := if ds.contains .core then s.clampCore else s
  let s := if ds.contains .mt then s.clampMt else s
  let s := if ds.contains .cu then s.clampCu else s
  let s := gens.foldl State.showLanes { s with off := (s.off ++ ds).dedup }
  if st = psIdle then s else { s with time := { s.time with running := false } }

/-! ### The Stage SRAM image (R414, R499) -/

/-- Blocks copied: those allocated, and those that hold anything else. -/
def State.imageBlocks (s : State) : List Nat :=
  (s.mem.blocks.map (·.1) ++ s.mem.sram.map (fun e => e.1 / blockSize)).dedup

/-- Where a block of the image lies in HBM. -/
def State.imagePlace (s : State) (b : Nat) : Nat := s.usableReserved.getD (b / 16) 0 * pageSize + b % 16 * blockSize

def State.copyImage (s : State) (out : Bool) (blocks : List Nat) : State :=
  { s with mem := blocks.foldl (fun m b => (List.range 256).foldl (fun m k =>
      let x := Place.sram (b * blockSize + 16 * k)
      let y := Place.hbm (s.imagePlace b + 16 * k)
      if out then m.copyCw x y else m.copyCw y x) m) s.mem }

/-- The image comes back into a Stage SRAM that has lost its contents. -/
def State.restoreImage (s : State) : State :=
  let blocks := s.imageBlocks
  let t := { s with mem := { s.mem with sram := [], ce := s.mem.ce.filter (· < 2 ^ 31), ue := s.mem.ue.filter (· < 2 ^ 31) } }
  t.copyImage false blocks

/-! ### Entry (R410, R414, R415, R422) -/

/-- The frame schedule resumes: with the first frame whose cue deadline is still to come (R97). -/
def State.resumeFrames (s : State) : State :=
  let x := s.time.sched
  let k : Int := (x.lead : Int) + periodsFloor x.num x.den ((s.showNow : Int) - (x.anchor : Int)) + 1
  if x.running ∧ x.k < k then s.setSched (x.resume k) else s

/-- Results of a refused `POWER_STATE`. -/
def prAborted : Nat := 1
def prAckTimeout : Nat := 2
def prBusy : Nat := 3
def prRetFault : Nat := 4
def prNoHbm : Nat := 5

def State.finishPower (s : State) (desc : Option Nat) (status result : Nat) : State :=
  match desc with
  | some id => s.finish id status result
  | none => s

def State.beginEntry (s : State) (st : Nat) (desc : Option Nat) : State := s.setSeq (some ⟨false, st, 2, [], desc, none, false⟩)

/-- A `POWER_STATE` runs. -/
def State.powerState (s : State) (e : StoreEntry) : State :=
  let st := e.arg0
  if s.pwr.seq.isSome then s.finish e.id St.refused prBusy
  else if st = s.pwr.state then s.finish e.id St.ok 0
  else if st ≠ psRun ∧ s.flag F.PWR_STATE.RET_FAULT = true then s.finish e.id St.refused prRetFault
  else if (st = psDeep ∨ st = psDark) ∧ s.usableReserved.length < imagePages then s.finish e.id St.refused prNoHbm
  else if s.pwr.state = psIdle then s.beginExit psRun (some e.id) (if st = psRun then none else some st) false
  else s.beginEntry st (some e.id)

def execPowerState (ring : RingIx) (s : State) : Host.Outcome State Fault Refusal :=
  s.done (s.when s.hostUp (s.runNext ring (·.opcode == opPower) State.powerState))

def State.atStep (s : State) (q : PwrSeq) (n : Nat) : State := s.setSeq (some { q with step := n })

/-- The drain ends: what is still on its way is dropped; the Prompt Book's record is written on the way to a state without CORE. Channels of
domains that go off are fenced. -/
def State.drained (s : State) (q : PwrSeq) (slotsFailed : Nat) : State :=
  let s := (s.frames.map (·.seq)).foldl State.dropFrame s
  let deep := psDeep ≤ q.target
  let s := if deep then s.writeBook bookShutdown slotsFailed else s
  let s := if deep then (List.range 32).foldl (fun s n => if s.flyBusy n then s.flyStop n 2 else s) s else s
  s.atStep q 3

/-- No fenced channel still has a burst in flight. -/
def State.fenced (s : State) (q : PwrSeq) : Bool := decide (q.target < psDeep) || (List.range 32).all (fun n => !s.flyBusy n)

/-- Calls are abandoned, and counted, where CORE goes off; `CB_MODE` is in the save set. -/
def State.dropCalls (s : State) : State :=
  let n := s.cb.queue.length + s.cb.held.length + s.cb.handed.length
  let s := s.setPwr { s.pwr with cbMode := s.fld F.CB_MODE.MODE }
  let s := { s with cb := ⟨[], [], [], [], [], [], []⟩ }
  ((s.setFld F.CB_MODE.MODE modePrep).bumpBy F.PWR_CALLS_DROPPED_CNT.COUNT n).afterLoss

/-- A ring's completions and head-vector word are written, and its vector signals. -/
def State.flushCompletions (s : State) (ring : Nat) : Nat → State
  | 0 => (s.writeHead ring).sendMsix (s.fld (F.HST_RING_CFG.VEC ring))
  | n + 1 => (s.writeCompletion ring).flushCompletions ring n

/-- The descriptor of an entry completes, and its completion is written before HOST goes off (step 8). -/
def State.completeEntry (s : State) (desc : Option Nat) : State :=
  match desc with
  | none => s
  | some id =>
    match s.entry? id with
    | none => s
    | some e =>
      let s := s.finish id St.ok 0
      s.flushCompletions e.ring (s.ring e.ring).waiting.length

/-- Rails of an entry, in their order; in `IDLE` the core voltage is the one wait. -/
def entryRails (st : Nat) : List Nat := if st = psIdle then [railCore] else (railsOff st).reverse

/-- Past the commit point. -/
def State.commit (s : State) (q : PwrSeq) : State :=
  let s := s.completeEntry q.desc
  let s := if psDeep ≤ q.target then s.dropCalls else s
  let s := s.clamp q.target
  let rails := entryRails q.target
  (s.setSeq (some { q with step := 11, rails := rails, desc := none })).requestRail (q.target == psIdle) false rails

/-- The entry aborts: an enabled wake source is pending. -/
def State.abortEntry (s : State) (q : PwrSeq) (source : Nat) : State :=
  let s := (s.raise Src.ghostLight E.ABORTED_WAKE [source]).bump F.PWR_ABORT_CNT.COUNT
  ((s.finishPower q.desc St.refused prAborted).setSeq none).resumeFrames

/-- The commit point. -/
def State.commitPoint (s : State) (q : PwrSeq) : State :=
  match s.wakePending with
  | n :: _ => s.abortEntry q n
  | [] => s.commit q

/-- Sources that act in the state entered. -/
def State.wakesNow (s : State) : List Nat := if s.pwr.state = psOff then s.wakePending.filter (· == wkInput) else s.wakePending

/-- Step 12; an enabled source that became pending since the commit point begins the exit. -/
def State.entryEnds (s : State) (q : PwrSeq) : State :=
  let s := ((s.setPower q.target).setSeq none).bump F.PWR_ENTRY_CNT.COUNT
  if s.wakesNow.isEmpty then s else s.beginExit psRun none none false

/-- A rail, or the voltage, is acknowledged: the next is asked for. -/
def State.entryAck (s : State) (q : PwrSeq) : State :=
  let rest := q.rails.drop 1
  if rest.isEmpty then s.entryEnds q else (s.setSeq (some { q with rails := rest })).requestRail false false rest

/-- The step of an entry that waited ends. -/
def State.entryStep (s : State) (ok : Bool) (slotsFailed : Nat) : State :=
  match s.pwr.seq with
  | none => s
  | some q =>
    if q.exit then s
    else if q.step = 2 then s.drained q slotsFailed
    else if q.step = 3 then
      (if !s.fenced q then s
       else if q.target = psIdle ∨ q.target = psSleep then s.commitPoint q
       else s.atStep q (if q.target = psDark then 5 else 4))
    else if q.step = 4 then
      (if s.maySave then s.saveRecord recShutdown ok else s).atStep q (if q.target = psOff then 6 else 5)
    else if q.step = 5 then (s.copyImage true s.imageBlocks).atStep q 6
    else if q.step = 6 then s.commitPoint q
    else s.entryAck q

def execPowerEntryStep (readBackOk : Bool) (slotsFailed : Fin 4) (s : State) : Host.Outcome State Fault Refusal :=
  s.done (s.entryStep readBackOk slotsFailed)

/-! ### Exit (R413, R418, R430) -/

/-- The registers whose K and C fields a bank holds (R429, R436). -/
def bankRange (b : Nat) : Nat → Bool := fun off =>
  if b = 0 then between 0x800000 0x900000 off
  else if b = 1 then between 0x700000 0x800000 off
  else if b = 2 then between 0x180000 0x400000 off
  else if b = 3 then between 0x100000 0x180000 off
  else if b = 4 then between 0x400000 0x500000 off || between 0x600000 0x700000 off
  else if b = 5 then between 0x01000000 0x01420000 off
  else between 0x01800000 0x01D00000 off

/-- Blocks whose W, H and B fields are in the save set. -/
def inSaveSet (off : Nat) : Bool := !(inGl off || between 0x02000000 0x02100000 off || between 0x03000000 0x03100000 off)

/-- The fields of a bank that does not match return to their reset values. The house clock goes on from its value (R68). -/
def State.loseBank (s : State) (b : Nat) : State :=
  if b = 7 then
    let s := s.resetFields inSaveSet lettersWarm
    { s with host := { s.host with rings := [], store := [], openCues := [], vecs := [], msixEnabled := false, mrrs := 512, pciCfg := [] }
             tdm := State.reset.tdm, pwr := { s.pwr with cbMode := modePrep } }
  else
    let s := s.resetFields (bankRange b) (fun l => l == .K || l == .C)
    if b = 0 then { s with time := { s.time with a := ClockSt.cold, b := ClockSt.cold, show_ := State.reset.time.show_ } }
    else if b = 1 then { s with lmp := State.reset.lmp }
    else s

/-- A bank fails its check. -/
def State.bankFault (s : State) (b : Nat) : State :=
  let s := (s.loseBank b).setFld F.PWR_RET_BANK.BANK (s.fld F.PWR_RET_BANK.BANK ||| 2 ^ b)
  ((s.bump F.PWR_RET_FAULT_CNT.COUNT).setFld F.PWR_STATE.RET_FAULT 1).raise Src.ghostLight E.RETENTION_FAULT [b]

def State.checkBanks (s : State) (banks : Nat) : State :=
  ((List.range 8).filter (fun b => bit banks b)).foldl State.bankFault (s.setFld F.PWR_RET_BANK.BANK 0)

/-- Stage clocks and show time become `FREE` (R72, R84). -/
def State.powerFree (s : State) : State :=
  let one : State → StageClk → State := fun s x => if (s.clk x).locked then (s.freeClock x causePower).stageUnlock x else s
  (one (one s .A) .B).showFree causePower

/-- Links that are enabled leave `DISABLED`; lanes of the others carry what their generators give. -/
def State.linksBack (s : State) : State :=
  let still := (List.range 66).filter (fun l => s.linkState l == lkDisabled && s.powered (linkDomain l))
  let s := (still.filter (fun l => !s.flag (F.CL_CTRL.EN l) && s.clockRuns l)).foldl State.showLanes s
  (still.filter (fun l => s.flag (F.CL_CTRL.EN l))).foldl State.toDetect s

/-- `PWR_LAST_EXIT` (R418). -/
def State.noteExit (s : State) (q : PwrSeq) : State :=
  let s := (s.setFld F.PWR_LAST_EXIT.FROM (s.fld F.PWR_STATE.STATE)).setFld F.PWR_LAST_EXIT.SOURCES (s.fld F.PWR_WAKE_PEND.PEND)
  s.setFld F.PWR_LAST_EXIT.ACK_FAIL (b2n q.ackFail)

/-- `PWR_EXIT`, with both causes and the bank result. -/
def State.tellExit (s : State) (q : PwrSeq) : State :=
  s.raise Src.ghostLight E.PWR_EXIT [s.fld F.PWR_WAKE_PEND.PEND + b2n q.ackFail * 128, s.fld F.PWR_RET_BANK.BANK]

/-- The exit from `OFF`: every domain but GL starts from `COLD` (R413), and the Ghost Light keeps `PWR_EXIT` until CORE takes events. -/
def State.exitOff (s : State) (q : PwrSeq) : State :=
  ((((s.noteExit q).setPower psRun).setSeq none).cold rcOff true).tellExit q

/-- The exit ends in `RUN`. One that a `POWER_STATE` asked for is not reported by `PWR_EXIT`: the descriptor completes, or goes on to the deeper
state that it names. -/
def State.exitEnds (s : State) (q : PwrSeq) : State :=
  let deep := psDeep ≤ s.pwr.state
  let stopped := psSleep ≤ s.pwr.state
  let s := s.noteExit q
  let s := if stopped then { s with off := s.pwr.offBefore } else s
  let s := (s.setPower psRun).setSeq none
  let s := if q.desc.isNone then s.tellExit q else s
  let s := if stopped then s.powerFree.linksBack else s
  let s := if deep then (s.setFld F.CB_MODE.MODE s.pwr.cbMode).standbyIdle allEngines else s
  let s := (s.dispatchAll).resumeFrames
  match q.deeper with
  | some st => s.beginEntry st q.desc
  | none => s.finishPower q.desc St.ok 0

/-- The rails are back: in `IDLE` the exit ends; otherwise the root PLL is waited for. -/
def State.exitRails (s : State) (q : PwrSeq) : State :=
  let rest := q.rails.drop 1
  if !rest.isEmpty then (s.setSeq (some { q with rails := rest })).requestRail false true rest
  else if s.pwr.state = psIdle then s.exitEnds { q with rails := [] }
  else s.setSeq (some { q with step := 3, rails := [] })

/-- The step of an exit that waited ends; none after the rails ends without the root PLL's lock. A Dark window that was open is over when MT and CU
are back for good. -/
def State.exitStep (s : State) (banks : Nat) : State :=
  match s.pwr.seq with
  | none => s
  | some q =>
    if !q.exit then s
    else if q.step = 2 then s.exitRails q
    else if s.boot.pllLost then s
    else
      let s := { s with time := { s.time with running := true } }
      if q.step = 3 then
        (if s.pwr.state = psSleep then s.exitEnds q
         else if s.pwr.state = psOff then s.exitOff q
         else s.atStep q 4)
      else if q.step = 4 then
        (({ s with off := s.off.filter (fun (d : Domain) => !(d == Domain.core || d == Domain.mt || d == Domain.cu))
                   pwr := { s.pwr with window := false } } : State).checkBanks banks).atStep q 6
      else (s.restoreImage).exitEnds q

/-- The exit from `OFF` ends with this step. -/
def State.endsOff (s : State) : Bool :=
  match s.pwr.seq with
  | some q => q.exit && q.step == 3 && s.pwr.state == psOff && !s.boot.pllLost
  | none => false

def execPowerExitStep (banks : BitVec 8) (s : State) : Host.Outcome State Fault Refusal := s.doneCold s.endsOff (s.exitStep banks.toNat)

/-! ### Regulator waits that fail (R417), and power-up (R478, R481) -/

/-- Rails enabled in power-up are disabled in reverse order. -/
def State.undoRails (s : State) : State := (s.pwr.rails.reverse).foldl (fun s r => s.railSet r false) s

/-- A wait of an entry or exit ends without acknowledgement. -/
def State.ackFails (s : State) (q : PwrSeq) : State :=
  if !q.exit then (s.setPwr { s.pwr with state := q.target }).beginExit psRun none none true
  else
    let idle := s.pwr.state == psIdle
    match q.deeper with
    | some _ => ((s.setSeq none).coreVolts (s.fld F.PWR_AVS.IDLE_MV)).finishPower q.desc St.refused prAckTimeout
    | none => s.requestRail idle true q.rails

def State.upFails (s : State) (u : PowerUp) : State :=
  let s := s.undoRails
  s.setPwr { s.pwr with up := some { u with fails := u.fails + 1, waits := decide (u.fails < 2), held := decide (2 ≤ u.fails), rails := [] } }

/-- The rail that is waited for. -/
def State.awaited (s : State) : Option Nat :=
  match s.pwr.up, s.pwr.seq with
  | some u, _ => if u.step = 5 then u.rails.head? else none
  | none, some q => q.rails.head?
  | none, none => none

def State.railTimeout (s : State) (status : Nat) : State :=
  match s.awaited with
  | none => s
  | some r =>
    let s := (s.raise Src.ghostLight E.PWR_ACK_FAIL [Config.causeCode E.PWR_ACK_FAIL r, status]).bump F.PWR_ACK_FAIL_CNT.COUNT
    match s.pwr.up, s.pwr.seq with
    | some u, _ => s.upFails u
    | none, some q => s.ackFails q
    | none, none => s

def execRegulatorAckTimeout (status : BitVec 16) (s : State) : Host.Outcome State Fault Refusal := s.done (s.railTimeout status.toNat)

/-- Domains with a supply of their own, which power-up and `OFF` lack. -/
def switched : List Domain := [.core] ++ engDomains ++ lqDomains ++ [.net, .host, .hbm]

def State.upRails (s : State) (u : PowerUp) (rails : List Nat) : State :=
  (s.setPwr { s.pwr with up := some { u with step := 5, rails := rails, waits := false } }).requestRail false true rails

/-- A power-up wait ends (R478): the crystal, `PFW_N` and `RST_N`, a rail, or the second before a retry. Once every rail is on, `COLD` is about to
release. -/
def State.upStep (s : State) : State :=
  match s.pwr.up with
  | none => s
  | some u =>
    if u.held then s
    else if u.step = 3 then s.setPwr { s.pwr with up := some { u with step := 4 } }
    else if u.step = 4 ∨ u.waits then s.upRails u (allRails.filter (fun r => !s.pwr.rails.contains r))
    else
      let rest := u.rails.drop 1
      if rest.isEmpty then { s with pwr := { s.pwr with up := none }, off := [], time := { s.time with running := true } }
      else s.upRails u rest

def execPowerUpStep (s : State) : Host.Outcome State Fault Refusal := s.done (s.when (s.powered .gl) s.upStep)

/-- `RST_N` is low: `COLD`; the rails that are off are enabled from step 4 of power-up on, also after three failures. -/
def State.rstN (s : State) : State :=
  let t := s.cold rcRstN false
  if allRails.all (s.pwr.rails.contains ·) then t
  else
    let step := match s.pwr.up with | some u => if u.step = 3 then 3 else 4 | none => 4
    { t with off := switched, time := { t.time with running := false }, pwr := { t.pwr with up := some ⟨step, [], 0, false, false⟩ } }

def execRstNLow (s : State) : Host.Outcome State Fault Refusal :=
  if s.powered .gl then s.doneCold true s.rstN else s.doneCold false s

/-- `VDD_GL` is lost: G fields, Ghost Light SRAM, the real-time clock and the live Prompt Book; a `POWERFAIL` record under way is cut short. The
FRAM, flash and OTP keep theirs. -/
def State.glLoss (s : State) : State :=
  let fram := match s.mtr.pf with
    | some (slot, b) => (s.framWrite (s.slotAddr slot) (patch b 0x1EA0 (leBytes 4 s.freeVal))).mtr.fram
    | none => s.mtr.fram
  let r := State.reset
  { r with
    sent := s.sent, off := [.gl, .cu, .mt] ++ switched, time := { r.time with running := false }, cur := { r.cur with low := s.cur.low }
    mtr := { r.mtr with fram := fram }, pwr := { r.pwr with rails := [] }
    boot := { s.boot with pkg := 0, window := false, held := true, retry := true, pllLost := false, chunks := [], leftOut := [] }, pbk := pbkNone
    freeCtr := s.freeCtr + 1, pending := s.pending }

def execVddGlLoss (s : State) : Host.Outcome State Fault Refusal := s.doneAs s.glLoss 0 0 0

/-- The supplies have come up: the Prompt Book is loaded, and power-up waits for the crystal. A newest record that is not a `SHUTDOWN` tells of a
power loss. -/
def State.powerOn (s : State) : State :=
  let s := { s with off := switched, pwr := { s.pwr with up := some ⟨3, [], 0, false, false⟩ } }
  let s := s.restoreBook
  let lost := match s.newestBook with
    | some x => fieldAt x.2 6 1 != bookShutdown
    | none => false
  let s := if lost then s.setPbk { s.pbk with losses := s.pbk.losses + 1 } else s
  (s.noteCause rcPowerOn).countReset rkCold

def execPowerOn (s : State) : Host.Outcome State Fault Refusal :=
  if s.powered .gl then s.done s else s.doneAs s.powerOn 0 0 0

/-- `PFW_N` falls (R323, R464, R481): metering freezes, the brown-out is counted, a stub is written, and power-up of the rails is undone. -/
def State.pfwFalls (s : State) : State :=
  let s := s.freeze
  let s := (s.setPbk { s.pbk with brownouts := s.pbk.brownouts + 1 }).writeStub
  match s.pwr.up with
  | some u => if u.step = 5 ∧ ¬ u.held then s.undoRails.setPwr { s.undoRails.pwr with up := some { u with step := 4, rails := [], waits := false } } else s
  | none => s

def execPfwFall (s : State) : Host.Outcome State Fault Refusal := s.done (s.when (s.powered .gl) s.pfwFalls)

/-- `VDD_IO18` below its minimum is treated as a `PFW_N` fall (R481). -/
def State.io18Loss (s : State) : State := s.pfwFalls

def execVddIo18Loss (s : State) : Host.Outcome State Fault Refusal := s.done (s.when (s.powered .gl) s.io18Loss)

/-! ### Wakes (R420 to R422) -/

def execWakeIn (s : State) : Host.Outcome State Fault Refusal := s.done (s.when (s.powered .gl && s.pwr.up.isNone) (s.wake wkInput))

def execPwrWakeGo (s : State) : Host.Outcome State Fault Refusal :=
  s.done (s.when (s.powered .host && (s.pwr.state == psIdle || s.pwr.state == psSleep)) (s.wake wkHost))

/-- The real-time clock reaches `PWR_WAKE_TIME`. -/
def execRtcWake (s : State) : Host.Outcome State Fault Refusal :=
  s.done (s.when (s.powered .gl && s.pwr.up.isNone && s.rv R.PWR_WAKE_TIME != 0 && s.rv R.PWR_WAKE_TIME == s.time.rtc) (s.wake wkRtc))

/-- `PMB_ALERT_N` outside a regulator wait. -/
def execPmbAlert (s : State) : Host.Outcome State Fault Refusal :=
  s.done (s.when (s.powered .gl && s.pwr.up.isNone && s.awaited.isNone) (s.wake wkAlert))

/-! ### Dark (R425 to R428) -/

def State.inDark (s : State) : Bool := s.pwr.state == psDark && s.pwr.seq.isNone

/-- A window opens: MT and CU are powered. -/
def State.openDark (s : State) : State :=
  let s := { s with off := s.off.filter (fun (d : Domain) => !(d == Domain.mt || d == Domain.cu)) }
  (s.setPwr { s.pwr with window := true, dark := [] }).bump F.GL_WINDOW_CNT.COUNT

def execDarkWindowOpen (s : State) : Host.Outcome State Fault Refusal := s.done (s.when (s.inDark && !s.pwr.window) s.openDark)

/-- A channel's mean active power over the window's counted samples. -/
def State.darkMean (s : State) (n : Nat) : Rat :=
  let x := s.pwr.dark.get (0, 0) n
  if x.2 = 0 then 0 else x.1 / ((x.2 : Nat) : Rat)

def State.darkLimit (s : State) (n : Nat) : Rat := (f32 (s.fld (F.GL_DARK_CH.THRESHOLD n))).toRat

/-- Channels compared. -/
def State.darkChannels (s : State) : List Nat := (List.range 96).filter (fun n => s.fld (F.GL_DARK_CH.ACTION n) != 0)

/-- The comparison of a channel; a faulted input counts as exceeding its limit. -/
def State.darkCompare (s : State) (n : Nat) : State :=
  let m := s.darkMean n
  if s.flag (F.MTR_CH_STATUS.INPUT_FAULT n) || decide (s.darkLimit n < ratAbs m) then
    let s := s.raise Src.ghostLight E.DARK_THRESHOLD [n, r32bits m]
    if s.fld (F.GL_DARK_CH.ACTION n) = 2 then s.wake wkPower else s
  else s

/-- The channel with the highest ratio of power to threshold; the lowest of equals. -/
def State.darkHighest (s : State) : Option Nat :=
  s.darkChannels.foldl (fun best n => match best with
    | none => some n
    | some b => if ratAbs (s.darkMean b) * s.darkLimit n < ratAbs (s.darkMean n) * s.darkLimit b then some n else best) none

def State.darkTemp (s : State) (temp : Nat) : State :=
  let s := s.setFld F.GL_TEMP.TEMP temp
  let act := s.fld F.GL_DARK_CFG.TEMP_ACTION
  if act ≠ 0 ∧ ((s.fld F.GL_DARK_CFG.TEMP_MAX * 16 : Nat) : Int) < signedOf 16 temp then
    let s := s.raise Src.ghostLight E.DARK_TEMP [temp]
    if act = 2 then s.wake wkTemp else s
  else s

/-- The window's samples end: cycles close, the comparisons run, and MT and CU are off again. -/
def State.closeDark (s : State) (temp : Nat) : State :=
  let s := if s.mtrRuns then s.closeOpen else s
  let hi := s.darkHighest
  let s := match hi with
    | some n => s.setFld F.GL_DARK_LAST.CHANNEL n
    | none => s
  let s := (s.darkChannels.foldl State.darkCompare s).darkTemp temp
  let s := s.clampMt
  let s := s.setPwr { s.pwr with window := false }
  let s := { s with off := s.off ++ [Domain.mt] }
  if s.cuStays psDark then s else { s.clampCu with off := s.clampCu.off ++ [Domain.cu] }

def execDarkSampleEnd (temp : BitVec 16) (s : State) : Host.Outcome State Fault Refusal :=
  s.done (s.when (s.pwr.state == psDark && s.pwr.window) (s.closeDark temp.toNat))

/-- An input the Ghost Light watches is enabled. -/
def State.watched (s : State) : AlarmInput → Bool
  | .alarm k => s.flag (F.CUR_ALARM_CFG.EN k)
  | .dropN => true

/-- A watched input changes while CU is off: one that leaves its inactive level powers CU, which applies its own rules, and wakes the part. -/
def State.alarmWatch (s : State) (i : AlarmInput) (active : Bool) : State :=
  let level : State → State := fun s => match i with
    | .dropN => s.curDropN active
    | .alarm _ => s
  if active && s.watched i then (level { s with off := s.off.filter (fun (d : Domain) => d != Domain.cu) }).wake wkCurtain else level s

def execGlAlarmWatch (i : AlarmInput) (active : Bool) (s : State) : Host.Outcome State Fault Refusal :=
  s.done (s.when (!s.powered .cu && (s.pwr.state == psDeep || s.pwr.state == psDark)) (s.alarmWatch i active))

/-- A scrub of Ghost Light SRAM (R325, R430). -/
def State.glScrub (s : State) (f : GlErrors) : State :=
  let s := (s.bumpBy F.GL_SRAM_CE_CNT.COUNT f.corrected).bumpBy F.GL_SRAM_UE_CNT.COUNT f.bad
  (f.pulses.map Fin.val).foldl State.reloadPulse ((f.channels.map Fin.val).foldl State.reloadChannel s)

def execGlSramScrub (found : GlErrors) (s : State) : Host.Outcome State Fault Refusal :=
  s.done (s.when (s.powered .gl && s.pwr.state != psOff) (s.glScrub found))

end Sys2Proof.Machine
end

