-- ==== Sys2Proof/Machine/Boot.lean ====
section
/-! DEFINITION. Boot and field update (R437 to R450). -/

namespace Sys2Proof.Machine

/-! ### Packages (R439, R446) -/

def pkgMagic : Nat := 0x4B585550
def kindFirmware : Nat := 1
def kindCurtain : Nat := 2
def chunkSize : Nat := 4096
def Pk.kind (b : List Byte) : Nat := fieldAt b 6 1
def Pk.rollback (b : List Byte) : Nat := fieldAt b 7 1
def Pk.version (b : List Byte) : Nat := fieldAt b 8 4
def Pk.chunks (b : List Byte) : Nat := fieldAt b 0xC 2
def Pk.bodyLen (b : List Byte) : Nat := fieldAt b 0x10 4
def Pk.ident (b : List Byte) : List Byte := slice b 0x14 16

/-- A header is well formed: its fields are in range, the image ends in the last chunk, and the rest is 0. -/
def headerOk (b : List Byte) : Bool :=
  fieldAt b 0 4 == pkgMagic && fieldAt b 4 2 == 1 && (Pk.kind b == kindFirmware || Pk.kind b == kindCurtain) &&
    decide (Pk.rollback b ≤ 64) && inRange 2 (if Pk.kind b = kindCurtain then 1025 else 8193) (Pk.chunks b) &&
    decide ((Pk.chunks b - 2) * chunkSize < Pk.bodyLen b ∧ Pk.bodyLen b ≤ (Pk.chunks b - 1) * chunkSize) && allZero b 0xA0 3936

/-- Its `ROLLBACK` is at or above the OTP counter of its kind. -/
def State.rollbackOk (s : State) (b : List Byte) : Bool :=
  decide ((if Pk.kind b = kindCurtain then s.boot.otpCur else s.boot.otpFw) ≤ Pk.rollback b)

/-- Where packages lie. -/
def wingsAt : Nat := 0x02200000
def wingsBitmap : Nat := wingsAt + 0x1000
def wingsChunk (i : Nat) : Nat := wingsAt + 0x00100000 + i * chunkSize
def wingsBytes : Nat := 0x02200000
def curtainSlot (n : Nat) : Nat := if n = 0 then 0x04400000 else 0x04880000

/-- The header of the package being checked. -/
def State.pkgHeader (s : State) : List Byte :=
  if s.boot.pkg = pkgActive then s.flashBytes activeAt chunkSize
  else if s.boot.pkg = pkgWings then s.flashBytes wingsAt chunkSize
  else s.mem.bytesAt (.sram 0) chunkSize

/-- Only Wings may hold a Curtain package; a host's package has the length that was written. -/
def State.pkgFits (s : State) (b : List Byte) : Bool :=
  (s.boot.pkg == pkgWings || Pk.kind b == kindFirmware) &&
    (s.boot.pkg != pkgWindow || s.fld F.GLB_LOAD_LEN.LENGTH == Pk.chunks b * chunkSize)

/-- The first check that a package fails (R448), 0 none. What the tag and the signature give depends on the device's keys, and comes
with the command. -/
def State.pkgCheck (s : State) (tagOk sigOk : Bool) : Nat :=
  let b := s.pkgHeader
  if !headerOk b || !s.pkgFits b then 1 else if !s.rollbackOk b then 2 else if !tagOk then 3 else if !sigOk then 4 else 0

/-! ### Boot (R438 to R443) -/

/-- `COLD` releases: `BOOT_SEL` is sampled, and boot begins. -/
def State.coldReleases (s : State) (sel : Nat) : State :=
  let s := (s.setFld F.GLB_BOOT.BOOT_SEL sel).setBoot { s.boot with held := false }
  (if sel = 3 then s.raise Src.glb E.BOOT_SEL_BAD [] else s).startBoot

def execColdRelease (bootSel : BitVec 2) (s : State) : Host.Outcome State Fault Refusal :=
  s.done (s.when (s.boot.held && s.pwr.up.isNone && s.time.running) (s.coldReleases bootSel.toNat))

/-- The boot ROM or the firmware it starts runs. -/
def State.booting (s : State) : Bool := s.inReset && !s.boot.held && s.time.running && s.powered .core

/-- Recovery (R440): the ROM waits as in a `HOST` boot. -/
def State.recovery (s : State) : State :=
  (((s.setFld F.GLB_BOOT.RECOVERY 1).setBootState btRom).raise Src.glb E.BOOT_FALLBACK []).hostBoot

/-- A package fails a check. -/
def State.pkgFails (s : State) (n : Nat) : State :=
  let p := s.boot.pkg
  if p = pkgWings then
    ((s.setBoot { s.boot with wings := wgFailed, fail := n, pkg := pkgActive }).setBootState btLoading).raise Src.glb E.UPDATE_FAIL [n]
  else if p = pkgActive then s.recovery
  else if p = pkgWindow then ((s.setBoot { s.boot with pkg := 0 }).setBootState btFailed).raise Src.glb E.UPDATE_FAIL [n]
  else (s.setBoot { s.boot with pkg := 0 }).setBootState btLoading

/-- A package passes: firmware starts; a Curtain package in Wings is for the Curtain to copy, and `ACTIVE` is read. -/
def State.pkgPasses (s : State) : State :=
  let b := s.pkgHeader
  let p := s.boot.pkg
  let wings := if p = pkgWings then wgInstalling else s.boot.wings
  if p = pkgWings ∧ Pk.kind b = kindCurtain then (s.setBoot { s.boot with wings := wings, pkg := pkgActive }).setBootState btLoading
  else
    let s := s.setBoot { s.boot with wings := wings, pkg := 0, window := false }
    ((s.setBootState btStarting).setFld F.GLB_FW_VERSION.VERSION (Pk.version b)).setFld F.GLB_BOOT.FROM_WINGS (b2n (p == pkgWings))

def State.pkgChecked (s : State) (tagOk sigOk : Bool) : State :=
  let n := s.pkgCheck tagOk sigOk
  if n = 0 then s.pkgPasses else s.pkgFails n

def execBootPackageVerified (tagOk signatureOk : Bool) (s : State) : Host.Outcome State Fault Refusal :=
  s.done (s.when (s.booting && s.boot.pkg != 0) (s.pkgChecked tagOk signatureOk))

/-- `GLB_LOAD_GO`. -/
def State.loadGo (s : State) : State := (s.setBoot { s.boot with pkg := pkgWindow }).setBootState btVerifying

def execHostLoadGo (s : State) : Host.Outcome State Fault Refusal :=
  s.done (s.when (s.booting && s.boot.window && s.boot.pkg == 0) s.loadGo)

/-- The package has arrived over the tandem links. -/
def State.tandemArrives (s : State) : State := (s.setBoot { s.boot with pkg := pkgTandem }).setBootState btVerifying

def execTandemBootPackage (s : State) : Host.Outcome State Fault Refusal :=
  s.done (s.when (s.romNode && s.bootState == btLoading && s.boot.pkg == 0) s.tandemArrives)

/-- No valid package within 10 s. -/
def State.tandemFallback (s : State) : State := ((s.setFld F.GLB_BOOT.FALLBACK 1).raise Src.glb E.BOOT_FALLBACK []).flashBoot

def execTandemBootTimeout (s : State) : Host.Outcome State Fault Refusal :=
  s.done (s.when (s.romNode && decide (s.bootState ≤ btVerifying)) s.tandemFallback)

/-! ### Readiness (R440 steps 7 to 9, R444, R449, R499) -/

/-- What is left makes the minimum service set (R444): a Stage Manager core, and an output path. -/
def serves (d : Degraded) : Bool :=
  d.cores != BitVec.allOnes 4 &&
    (d.quads != BitVec.allOnes 16 || d.macs != BitVec.allOnes 8 || d.lines != BitVec.allOnes 16 || d.sigs != BitVec.allOnes 16)

/-- Some unit failed its self-test. -/
def anyDegraded (d : Degraded) : Bool :=
  d.re != 0 || d.fe != 0 || d.pc != 0 || d.cores != 0 || !d.lanes.isEmpty || d.quads != 0 || d.macs != 0 || d.lines != 0 || d.sigs != 0

def ones (n : Nat) (v : Nat) : List Nat := (List.range n).filter (fun k => bit v k)

/-- Pages reserved in a pseudo-channel: its highest-addressed ones that are not retired. -/
def State.reserveIn (s : State) (pc n : Nat) : List Nat :=
  (((List.range pagesPerPc).reverse.map (pc * pagesPerPc + ·)).filter (fun p => s.pageSt p != pgRetired)).take n

/-- 1,024 pages are reserved, spread over the pseudo-channels in the plan. -/
def State.reservePages (s : State) : State :=
  let pcs := (List.range 32).filter (s.pcUp ·)
  let m := pcs.length
  let l := (pcs.zipIdx).flatMap (fun x => (s.reserveIn x.1 (imagePages / m + b2n (decide (x.2 < imagePages % m)))).reverse)
  let s := { s with mem := { s.mem with pages := s.mem.pages.filter (fun e => e.2 == pgRetired) } }
  let s := l.foldl (fun s p => s.setPage p pgUsed) s
  { s with pwr := { s.pwr with reserved := l } }

/-- Register ranges of the blocks left out. -/
def leftRanges (d : Degraded) : List (Nat × Nat) :=
  (ones 16 d.quads.toNat).flatMap (fun q => [(0x01000000 + q * 0x40000, 0x01000000 + (q + 1) * 0x40000),
      (0x501000 + q * 0x100, 0x501100 + q * 0x100)]) ++
    (ones 8 d.macs.toNat).map (fun p => (0x01800000 + p * 0x10000, 0x01810000 + p * 0x10000)) ++
    (ones 16 d.lines.toNat).map (fun n => (0x01C01000 + n * 0x200, 0x01C01200 + n * 0x200)) ++
    (ones 16 d.sigs.toNat).map (fun n => (0x781000 + n * 0x40, 0x781040 + n * 0x40))

/-- Units that failed are left out. The spec does not lay out the list in the arguments of `BOOT_DEGRADED`. -/
def State.degrade (s : State) (d : Degraded) : State :=
  if !anyDegraded d then s
  else
    let s := (ones 16 d.re.toNat).foldl (fun s n => s.clearHealth 0 n hcFault) s
    let s := (ones 32 d.fe.toNat).foldl (fun s n => s.clearHealth 1 n hcFault) s
    let s := (ones 32 d.pc.toNat).foldl (fun s n => s.clearHealth 2 n hcPcFail) s
    let s := d.lanes.foldl (fun s x => s.setMark x.1 (if x.2.1 then dirUp else dirDown) x.2.2 markSuspect) s
    let s := s.setBoot { s.boot with leftOut := leftRanges d }
    let n := s.freeCtr
    ({ s with freeCtr := n + 4 }).raise Src.glb E.BOOT_DEGRADED ((List.range 4).map (fun k => Config.free (n + k) % 2 ^ 32))

/-- Sections of older format, or all of them where neither copy is valid. -/
def State.settings (s : State) (sections : Nat) (lost : Bool) : State :=
  let s := (s.setFld F.GLB_SETTINGS_RESET.SECTIONS (if lost then 255 else sections)).setFld F.GLB_SETTINGS_RESET.LOST (b2n lost)
  if lost then s.raise Src.glb E.SETTINGS_LOST []
  else if sections = 0 then s
  else s.raise Src.glb E.SETTINGS_RESET [sections]

/-- `READY`. HBM has been written with zeros, and CORE leaves reset. -/
def State.becomesReady (s : State) (d : Degraded) (sections : Nat) (lost : Bool) : State :=
  let tandem := s.fld F.GLB_BOOT.SOURCE == srcTandem
  let s := { s with mem := { s.mem with hbm := [], sram := [], ce := [], ue := [] }, inReset := false }
  let s := ((s.setBoot { s.boot with retry := false }).degrade d).reservePages.setFld F.CB_ENGINE_UP.SM (15 - d.cores.toNat)
  let s := (s.settings sections lost).setBootState btReady
  let s := s.raise Src.glb E.BOOT_DONE [s.fld F.GLB_FW_VERSION.VERSION, s.fld F.GLB_BOOT.SOURCE]
  if tandem then s.toJoining else s

def execBootReady (degraded : Degraded) (sections : BitVec 8) (settingsLost : Bool) (s : State) : Host.Outcome State Fault Refusal :=
  s.done (s.when (s.booting && s.bootState == btStarting && serves degraded) (s.becomesReady degraded sections.toNat settingsLost))

/-! ### Configuration requests (R28, R29, R434, R443) -/

/-- A doubleword of configuration space as read. Identity and class are the spec's, the base address registers have the sizes of R29
in the layout of PCI; the rest is open (assumption 70). -/
def State.cfgSpace (s : State) (off : Nat) : Nat :=
  let v := s.host.pciCfg.get 0 off
  let open_ := Config.pciRead off v % 2 ^ 32
  if off = 0 then Config.vendorId.toNat + 0x0640 * 2 ^ 16
  else if off = 8 then open_ % 2 ^ 8 + 0x048000 * 2 ^ 8
  else if off = 0x10 then v / 2 ^ 28 * 2 ^ 28 + 4
  else if off = 0x18 then v / 2 ^ 13 * 2 ^ 13 + 4
  else if off = 0x20 then 0xC
  else if off = 0x24 then v / 8 * 8
  else if off = 0x14 ∨ off = 0x1C then v
  else open_

/-- Control words: Device Control of the PCIe capability, and Message Control of the MSI-X capability (assumption 70). -/
def pciDevCtl : Nat := 0x78
def pciMsixCtl : Nat := 0xB0

/-- A doubleword of configuration space is written. -/
def State.cfgSpaceWrite (s : State) (off v : Nat) : State :=
  let s := { s with host := { s.host with pciCfg := s.host.pciCfg.put 0 off v } }
  if off = pciDevCtl then { s with host := { s.host with mrrs := 128 * 2 ^ min 5 (bits v 12 3) } }
  else if off = pciMsixCtl then { s with host := { s.host with msixEnabled := bit v 31 && !bit v 30 } }
  else s

/-- A configuration request. -/
def State.pciRequest (s : State) (write : Bool) (off v : Nat) : State :=
  if s.boot.retry then s.send .retry
  else if write then s.cfgSpaceWrite (off / 4 * 4) v
  else s.send (.readData (s.cfgSpace (off / 4 * 4)))

def execPcieConfigRequest (write : Bool) (offset : Fin 4096) (value : Word) (s : State) : Host.Outcome State Fault Refusal :=
  s.done (s.when (s.powered .host && !s.boot.held) (s.pciRequest write offset value.toNat))

/-! ### `WARM` and the watchdog (R433, R450) -/

/-- CORE has left `COLD`, and its clocks run. -/
def State.coreRuns (s : State) : Bool := s.powered .core && !s.boot.held && s.time.running

/-- `GLB_RESET.WARM` is written: the Prompt Book's record comes first (R463). -/
def State.warmCommand (s : State) (slotsFailed : Nat) : State := ((s.writeBook bookShutdown slotsFailed).warm rcWarm).startBoot

def execGlbResetWarm (slotsFailed : Fin 4) (s : State) : Host.Outcome State Fault Refusal :=
  s.done (s.when s.coreRuns (s.warmCommand slotsFailed))

/-- The watchdog expires: while it is enabled, or in a reboot. -/
def execSmWatchdogExpiry (s : State) : Host.Outcome State Fault Refusal :=
  s.done (s.when (s.coreRuns && (s.flag F.GLB_WD.EN || s.inReset)) ((s.warm rcWatchdog).startBoot))

/-- The period starts again; the model keeps no timers. -/
def execGlbWdKick (s : State) : Host.Outcome State Fault Refusal := s.done s

/-! ### Field update (R446 to R450) -/

def State.finishChunk (s : State) (c : ChunkWrite) (status result : Nat) : State := s.finish c.id status result

/-- Wings is erased; chunks on their way are refused. -/
def State.cancel (s : State) : State :=
  if s.boot.wings = wgInstalling then s
  else
    let cs := s.boot.chunks
    let s := s.flashErase wingsAt wingsBytes
    let s := s.setBoot { s.boot with wings := wgEmpty, kind := 0, fail := 0, total := 0, pkgId := [], marks := [], chunks := [] }
    cs.foldl (fun s c => s.finishChunk c St.refused 0) s

def execUpdateCancel (s : State) : Host.Outcome State Fault Refusal := s.done (s.when s.evtUp s.cancel)

/-- A first chunk that Wings accepts: it is erased, and takes the header. -/
def State.acceptHeader (s : State) (e : StoreEntry) (b : List Byte) : State :=
  let s := s.flashErase wingsAt wingsBytes
  s.setBoot { s.boot with wings := wgReceiving, kind := Pk.kind b - 1, fail := 0, total := Pk.chunks b, pkgId := Pk.ident b, marks := [],
                          chunks := s.boot.chunks ++ [⟨e.id, 0, b⟩] }

/-- The table of R447, with the chunk's data at hand. -/
def State.wingsTakes (s : State) (e : StoreEntry) (b : List Byte) : State :=
  let i := bits e.arg0 0 14
  let id := slice e.param 0 16
  let w := s.boot.wings
  if w = wgEmpty ∨ w = wgFailed then
    (if i == 0 && headerOk b && s.rollbackOk b && Pk.ident b == id then s.acceptHeader e b else s.finish e.id St.refused 0)
  else if w ≠ wgReceiving then s.finish e.id St.refused 0
  else if id ≠ s.boot.pkgId then s.finish e.id St.refused 0
  else if s.boot.total ≤ i then s.finish e.id St.outOfRange 0
  else if crc32c b ≠ fieldAt e.param 16 4 then s.finish e.id St.malformed 0
  else if s.boot.marks.contains i then s.finish e.id St.ok 1
  else s.setBoot { s.boot with chunks := s.boot.chunks ++ [⟨e.id, i, b⟩] }

/-- An answer to the oldest request of an `UPDATE_CHUNK`. -/
def State.chunkAnswer (s : State) (e : StoreEntry) (n : Nat) (d : HostData) : State :=
  match d with
  | .failed => s.finish e.id St.hostAbort e.answered
  | .bytes b =>
    let s := s.updEntry e.id (fun x => { x with reqs := x.reqs.drop 1, data := x.data ++ padTo n b })
    match s.entry? e.id with
    | some x => if x.reqs.isEmpty then s.wingsTakes x x.data else s
    | none => s

/-- `UPDATE_CHUNK` begins: its data is fetched. -/
def execUpdateChunk (ring : RingIx) (s : State) : Host.Outcome State Fault Refusal :=
  s.done (s.when s.hostUp (s.runNext ring (·.opcode == opUpdate) State.requestData))

/-- A chunk's bit in the bitmap is programmed to 0. -/
def State.markChunk (s : State) (i : Nat) : State :=
  let a := wingsBitmap + i / 8
  let v := (leNat (s.flashBytes a 1) / 2 ^ (i % 8)) % 2
  let s := s.flashProgram a (leBytes 1 (leNat (s.flashBytes a 1) - v * 2 ^ (i % 8)))
  s.setBoot { s.boot with marks := s.boot.marks ++ [i] }

/-- The oldest chunk has been programmed and read back. -/
def State.chunkDone (s : State) : State :=
  match s.boot.chunks with
  | [] => s
  | c :: rest =>
    let s := s.setBoot { s.boot with chunks := rest }
    if s.boot.marks.contains c.index then s.finishChunk c St.ok 1
    else
      let s := s.flashProgram (wingsChunk c.index) c.bytes
      let s := (if c.index = 0 then s.flashProgram wingsAt c.bytes else s).markChunk c.index
      let s := s.finishChunk c St.ok 0
      if s.boot.marks.length = s.boot.total then
        (s.setBoot { s.boot with wings := wgComplete }).raise Src.glb E.UPDATE_RECEIVED []
      else s

def execWingsChunkProgrammed (s : State) : Host.Outcome State Fault Refusal := s.done (s.when s.evtUp s.chunkDone)

/-- A copy of `n` bytes within the flash. -/
def State.flashCopy (s : State) (a b n : Nat) : State := (s.flashErase b n).flashProgram b (s.flashBytes a n)

/-- The copy of the package in Wings ends, and reads back or does not. -/
def State.install (s : State) (ok : Bool) : State :=
  let b := s.flashBytes wingsAt chunkSize
  let n := Pk.chunks b * chunkSize
  let cur := Pk.kind b == kindCurtain
  let slot := 1 - s.boot.curSlot
  let s := s.flashCopy (wingsChunk 0) (if cur then curtainSlot slot else activeAt) n
  if !ok then (s.setBoot { s.boot with wings := wgFailed, fail := 5 }).raise Src.glb E.UPDATE_FAIL [5]
  else
    let x := s.boot
    let s := s.setBoot (if cur then { x with curSlot := slot, otpCur := max x.otpCur (Pk.rollback b) } else { x with otpFw := max x.otpFw (Pk.rollback b) })
    let s := s.flashErase wingsAt wingsBytes
    (s.setBoot { s.boot with wings := wgEmpty, kind := 0, fail := 0, total := 0, pkgId := [], marks := [] }).raise Src.glb E.UPDATE_INSTALLED []

def execWingsInstall (readBackOk : Bool) (s : State) : Host.Outcome State Fault Refusal :=
  s.done (s.when (s.boot.wings == wgInstalling && s.evtUp) (s.install readBackOk))

/-- `GLB_ROLLBACK`, `GLB_UPD_STATE` and `GLB_UPD_CHUNKS` as read. -/
def State.rollbackWord (s : State) : Nat := s.boot.otpFw + s.boot.otpCur * 2 ^ 8
def State.updState (s : State) : Nat := s.boot.wings + s.boot.kind * 8 + s.boot.fail * 16
def State.updChunks (s : State) : Nat := s.boot.marks.length + s.boot.total * 2 ^ 16

end Sys2Proof.Machine
end

