-- ==== Sys2Proof/Machine/LinkRows.lean ====
section
/-! DEFINITION. The commands of training, delay and lanes (R235 to R285). -/

namespace Sys2Proof.Machine

/-! ### Training (R257, R258) -/

/-- `CTRL.EN` written 1 (R257, R283): generators, checkers and loops are cleared first. -/
def State.linkEnable (s : State) (l : Nat) : State :=
  let t := s.setFld (F.CL_CTRL.EN l) 1
  let t := (List.range 3).foldl (fun t k => (t.setFld (F.CL_TXL_GEN.EN l k) 0).setFld (F.CL_TXL_GEN.LOOP l k) 0) t
  let t := (List.range 2).foldl (fun t k => (t.setFld (F.CL_RXL_CHK.EN l k) 0).setFld (F.CL_RXL_CHK.LOCKED l k) 0) t
  if t.linkState l ≠ lkDisabled then t else t.toDetect l

def execLinkEnable (link : AnyLink) (s : State) : Host.Outcome State Fault Refusal :=
  s.done (s.when (s.linkUp link) (s.linkEnable link))

/-- `CTRL.EN` written 0 (R257). -/
def execLinkDisable (link : AnyLink) (s : State) : Host.Outcome State Fault Refusal :=
  s.done (s.when (s.linkUp link) ((s.setFld (F.CL_CTRL.EN link) 0).toDisabled link downDisable))

/-- `CTRL.RETRAIN` (R257); ignored in `DISABLED` and `DETECT` (R270). -/
def execLinkRetrain (link : AnyLink) (s : State) : Host.Outcome State Fault Refusal :=
  s.done (s.when (s.linkUp link && decide (lkClock ≤ s.linkState link)) ((s.leaveActive link downRetrain).toClock link))

/-- A probe that misses (R257): `LINK_ABSENT` on the first one after entry, only where a partner is expected. -/
def State.probeMiss (s : State) (l : Nat) : State :=
  let t := s.setFld (F.CL_STATE.ABSENT l) 1
  if (s.link l).absentTold ∨ !s.flag (F.CL_CTRL.EXPECTED l) then t.updLink l (fun x => { x with absentTold := true })
  else (t.updLink l (fun x => { x with absentTold := true })).raise (Src.link l) E.LINK_ABSENT []

/-- A probe (R258). -/
def execLinkProbe (link : AnyLink) (found : Bool) (s : State) : Host.Outcome State Fault Refusal :=
  s.done (s.when (s.linkUp link && s.linkState link == lkDetect)
    (if found then (s.setFld (F.CL_STATE.ABSENT link) 0).toClock link else s.probeMiss link))

/-- The phase interpolators of both return lanes are locked at their phases (R237): `ALIGN` (R257). -/
def State.clockLocked (s : State) (l phase0 phase1 : Nat) : State :=
  (((s.setFld (F.CL_RXL_SETTINGS.PHASE l 0) phase0).setFld (F.CL_RXL_SETTINGS.PHASE l 1) phase1).setLinkState l lkAlign).showAlign l 0

def execLinkClockLocked (found : LinkPhases) (s : State) : Host.Outcome State Fault Refusal :=
  s.done (s.when (s.linkUp found.link && s.linkState found.link == lkClock)
    (s.clockLocked found.link found.phase0.toNat found.phase1.toNat))

/-- The settings a run finds (R274). Which of several phases is the centre, where spans tie or have an even number of steps, is an open
value (assumption 182). -/
def State.runSettings (s : State) (r : LaneRun) : State × Nat :=
  match r.phases with
  | [p] => (s, r.settings p)
  | ps => (s.freeStep, r.settings (pickOf s.freeVal ps))

/-- The calibration of a return lane in `ALIGN` (R274): two runs; on agreement the second's settings apply. -/
def State.alignCalibration (s : State) (l k : Nat) (run1 run2 : LaneRun) : State :=
  let a := s.runSettings run1
  let b := a.1.runSettings run2
  if runsAgree a.2 b.2 then (b.1.calAccepted l dirUp k).setRv (R.CL_RXL_SETTINGS l k) b.2 else b.1.calRejected l dirUp k

/-- The node's receivers have calibrated their lanes as well when it shows `DOWN_LOCK` (R274, R281). DEDUCED (assumption 180): they count as
accepted. -/
def State.alignDown (s : State) (l : Nat) : State := (List.range 3).foldl (fun s k => s.calAccepted l dirDown k) s

/-- An `ALIGN` block of the node shows a flag. -/
def alignFlag (x : Block) (n : Nat) : Bool := x.isControl btAlign && bit (x.byte 2) n

/-- Block lock on both return lanes, from their last sync headers, with `DOWN_LOCK` in an `ALIGN` block of the node: `RETURN` (R257). -/
def State.blockLocked (s : State) (l : Nat) (a b c d : LaneRun) : State :=
  (((s.alignCalibration l 0 a b).alignCalibration l 1 c d).alignDown l).setLinkState l lkReturn

def execLinkBlockLock (lock : LinkLock) (s : State) : Host.Outcome State Fault Refusal :=
  let l := lock.link
  if !(lock.lane0a.whole && lock.lane0b.whole && lock.lane1a.whole && lock.lane1b.whole) then .fault .illFormed
  else s.done (s.when (s.linkUp l && s.linkState l == lkAlign && !s.nodeSide l && headLock lock.heads0 && headLock lock.heads1 &&
    alignFlag lock.align 0) (s.blockLocked l lock.lane0a lock.lane0b lock.lane1a lock.lane1b))

/-- 16,384 correct `ALIGN` blocks on each lane: with the node's `CLEAN`, `DELAY` (R257); a unit that plays the node shows `CLEAN` (R258). -/
def State.alignClean (s : State) (l : Nat) : State :=
  if s.nodeSide l then (if s.linkState l = lkAlign then s.showAlign l 3 else s)
  else if s.linkState l = lkReturn then
    ((s.setLinkState l lkDelay).updLink l (fun x => { x with
      rejects := 0, echoSent := 0, echoTags := [], echoVals := [], txSeq := 0, rxSeq := 0 })).showLanes l
  else s

def execLinkAlignClean (link : AnyLink) (s : State) : Host.Outcome State Fault Refusal :=
  s.done (s.when (s.linkUp link) (s.alignClean link))

/-- A training state: `CLOCK` to `IDENT`. -/
def State.training (s : State) (l : Nat) : Bool := decide (lkClock ≤ s.linkState l ∧ s.linkState l ≤ lkIdent)

/-- A training state's time limit (R257). -/
def execTrainTimeLimit (link : AnyLink) (s : State) : Host.Outcome State Fault Refusal :=
  s.done (s.when (s.linkUp link && s.training link) (s.trainFail link))

/-- The partner is lost in training (R257). -/
def State.unplug (s : State) (l : Nat) : State :=
  ((s.bump (F.CL_RETRY_CNT.COUNT l)).raise (Src.link l) E.LINK_UNPLUG [s.linkState l]).toDetect l

/-- The partner is lost (R257). -/
def execLinkPartnerLost (link : AnyLink) (s : State) : Host.Outcome State Fault Refusal :=
  s.done (s.when (s.linkUp link)
    (if s.training link then s.unplug link
     else if s.linkActive link then (s.leaveActive link downPartner).toDetect link else s))

/-- Block lock lost for 4 µs on a logical lane that no Swing lane has taken over (R257), as its blocks show (R239). -/
def execBlockLockLoss (rx : LinkBlocks) (s : State) : Host.Outcome State Fault Refusal :=
  s.done (s.when (s.linkUp rx.link && s.linkActive rx.link && lockLost rx.blocks) ((s.leaveActive rx.link downLock).toDetect rx.link))

/-! ### Delay (R260, R261) -/

/-- Requests in a set: 64 in `DELAY`, 16 in `ACTIVE`. -/
def State.echoCount (s : State) (l : Nat) : Nat := if s.linkActive l then 16 else 64

/-- A set whose replies have not all come is given up when the next one begins (assumption 179). -/
def State.echoBegin (s : State) (l : Nat) : State :=
  if (s.link l).echoSent < s.echoCount l then s else s.updLink l (fun x => { x with echoSent := 0, echoTags := [], echoVals := [] })

/-- An `ECHO` request departs (R251). -/
def State.echoSend (s : State) (l : Nat) : State :=
  let s := s.echoBegin l
  let tag := (s.link l).echoNext
  (s.txFrame l ltEcho (leBytes 4 tag ++ zeros 4)).updLink l (fun x => { x with
    echoNext := (x.echoNext + 1) % 2 ^ 32, echoSent := x.echoSent + 1, echoTags := x.echoTags ++ [tag] })

/-- `ECHO_SEND`: in `DELAY`, and in `ACTIVE` while the link is on the show source. -/
def execEchoSend (link : AnyLink) (s : State) : Host.Outcome State Fault Refusal :=
  s.done (s.when (s.linkUp link && (s.linkState link == lkDelay || (s.linkActive link && !s.curtainOn link))) (s.echoSend link))

/-- A reply that matches a request (R260): R_k is the round trip less 64 × `TURN`, in 1/64 UI. -/
def State.echoValue (s : State) (l tag turn rtt : Nat) : State :=
  let r : Int := (rtt : Int) - 64 * (turn : Int)
  let s := (s.setFld (F.CL_RTT_LAST.VALUE l) (ofSigned 32 (roundEven ((r : Rat) / 2)))).updLink l (fun x => { x with
    echoTags := x.echoTags.filter (· ≠ tag), echoVals := x.echoVals ++ [r] })
  if (s.link l).echoVals.length < s.echoCount l then s
  else if s.linkActive l then s.trackSet l else s.delaySet l

/-- An `ECHO` reply (R251, R260, R270). -/
def execEchoReply (link : AnyLink) (hdr : UpHdr) (tag turn : Word) (rtt : Nat) (s : State) :
    Host.Outcome State Fault Refusal :=
  s.done (s.when (s.linkTalks link)
    (let t := s.rxFrame link hdr
     if (t.link link).echoTags.contains tag.toNat then t.echoValue link tag.toNat turn.toNat rtt else t))

/-! ### Requests, time, credits (R248, R250, R255, R256) -/

/-- `CL_n_CFG_CMD.GO` (R250); ignored while `BUSY` (R270). -/
def State.mailboxGo (s : State) (l : Nat) : State :=
  let write := s.flag (F.CL_CFG_CMD.OP l)
  let n := s.fld (F.CL_CFG_CMD.COUNT l)
  let s := s.setFld (F.CL_CFG_STATUS.BUSY l) 1
  let addr := s.fld (F.CL_CFG_ADDR.ADDR l) * 4
  let words := if write then (List.range n).map (fun k => s.fld (F.CL_CFG_DATA.WORD l k)) else []
  if s.linkState l < lkDelay then s else s.cfgRequest l (.mailbox write) write addr n words

def execCfgMailboxGo (link : LinkIx) (s : State) : Host.Outcome State Fault Refusal :=
  s.done (s.when (s.linkUp link && !s.flag (F.CL_CFG_STATUS.BUSY link)) (s.mailboxGo link))

/-- A `TIME` (R248). -/
def execTimeSend (link : LinkIx) (s : State) : Host.Outcome State Fault Refusal :=
  s.done (s.when (s.linkUp link && s.linkActive link) (s.sendTime link))

/-- No `CREDIT` for 1 ms with frames outstanding (R256). -/
def execCreditTimeout (link : AnyLink) (s : State) : Host.Outcome State Fault Refusal :=
  s.done (s.when (s.linkUp link && s.linkActive link && decide (0 < s.fld (F.CL_CRED_OUT.COUNT link)))
    ((s.leaveActive link downCredit).toDetect link))

/-- The lengths of the messages a link receives: up, or down where this unit plays the node. -/
def State.rxLengths (s : State) (l : Nat) : Nat → Option (Nat × Nat × Nat) :=
  if s.nodeSide l then downLength else upLength (decide (64 ≤ l))

/-- A received frame, as blocks: one that fails the checks is discarded and counted (R241). A frame that passes them is told by a command
of its own message. -/
def execLinkRxBadFrame (rx : LinkBlocks) (s : State) : Host.Outcome State Fault Refusal :=
  s.done (s.when (s.linkTalks rx.link && frameBad (s.rxLengths rx.link) rx.blocks) (s.bump (F.CL_RX_BAD_CNT.COUNT rx.link)))

/-! ### Calibration (R274 to R279) -/

/-- |NOW − `CAL_TEMP`| exceeds `CAL_DELTA`, in 1/16 °C. -/
def State.tempDrift (s : State) (l : Nat) : Bool :=
  let d := signedOf 16 (s.fld (F.CL_CAL_TEMP.NOW l)) - signedOf 16 (s.fld (F.CL_CAL_TEMP.CAL_TEMP l))
  decide (16 * s.fld (F.CL_CAL_CTRL.CAL_DELTA l) < d.natAbs)

/-- The quad temperature is read every 1 ms (R275). -/
def execCalTempTrigger (link : LinkIx) (temp : BitVec 16) (s : State) : Host.Outcome State Fault Refusal :=
  s.done (s.when (s.linkUp link)
    (let t := s.setFld (F.CL_CAL_TEMP.NOW link) temp.toNat
     if t.flag (F.CL_CAL_CTRL.AUTO link) && t.tempDrift link then t.linkCalibration link else t))

/-- `CL_n_CAL_CTRL.GO` (R275). -/
def execCalCtrlGo (link : AnyLink) (s : State) : Host.Outcome State Fault Refusal :=
  s.done (s.when (s.linkUp link) (s.linkCalibration link))

/-- Errors of an up lane are counted, by the lane and by the Prompt Book (R461). -/
def State.laneErrors (s : State) (l k n : Nat) : State :=
  ({ s with pbk := { s.pbk with errAt := s.pbk.errAt.modify 0 (2 * l + k) (· + n) } }).bumpBy (F.CL_RXL_ERR_CNT.COUNT l k) n

/-- Errors of an up lane within one second (R275): counted; the trigger, where they reach `ERR_LIMIT`. A marked lane is ignored (R272). -/
def State.errorWindow (s : State) (l k n : Nat) : State :=
  let t := s.laneErrors l k n
  if t.flag (F.CL_CAL_CTRL.AUTO l) ∧ t.fld (F.CL_CAL_CTRL.ERR_LIMIT l) ≤ n then t.errorTrigger l k else t

def execCalErrRateTrigger (link : AnyLink) (found : LaneErrors) (s : State) : Host.Outcome State Fault Refusal :=
  s.done (s.when (s.linkUp link && decide (lkAlign < s.linkState link) && s.laneMark link dirUp found.lane == markNone)
    (s.errorWindow link found.lane found.errors))

/-- An up rotation is in a phase. -/
def State.upPhase (s : State) (l p : Nat) : Bool :=
  s.linkUp l && s.linkActive l && s.calDir l == dirUp && s.calPhase l == p

/-- The Swing lane has matched L0 for 16,384 blocks (R277, step 2). -/
def execUpMirrorQualified (link : AnyLink) (s : State) : Host.Outcome State Fault Refusal :=
  s.done (s.when (s.upPhase link cpQualify) (s.setCalPhase link cpSwitch))

/-- L0 is taken from the Swing lane (R277, step 3); the runs of the freed lane follow. -/
def State.upSwitch (s : State) (l : Nat) : State :=
  (((s.setFld (F.CL_LANE_MAP.RX_L0 l) (s.swingLane l dirUp)).setSwing l dirUp 3)).beginRuns l

/-- `UP_LANE_SWITCH`: a mirror mismatch in its cycle makes the switch wait, and the count restarts (R282). -/
def execUpLaneSwitch (switch : LinkSwitch) (s : State) : Host.Outcome State Fault Refusal :=
  let l := switch.link
  s.done (s.when (s.upPhase l cpSwitch) (if switch.mismatch then s.setCalPhase l cpQualify else s.upSwitch l))

/-- A run ends (R274): after two, the agreement test. -/
def State.runDone (s : State) (l settings : Nat) : State :=
  match (s.link l).cal.run1 with
  | none => s.updCal l (fun c => { c with run1 := some settings })
  | some a =>
    let q := s.calLane l
    let s := s.updCal l (fun c => { c with run1 := none })
    if runsAgree a settings then
      let s := (s.setRv (R.CL_RXL_SETTINGS l q) settings).setCalPhase l cpIdle
      (s.serveQuad l).laneCalibrated l
    else
      let s := s.calRejected l dirUp q
      let n := (s.link l).cal.tries + 1
      if n = 4 then ((s.setCalPhase l cpIdle).serveQuad l).laneSuspect l
      else s.updCal l (fun c => { c with tries := n })

/-- `CAL_RUN_DONE`: what a run measured. -/
def execCalRunDone (link : AnyLink) (run : LaneRun) (s : State) : Host.Outcome State Fault Refusal :=
  if !run.whole then .fault .illFormed
  else s.done (s.when (s.upPhase link cpRun) (let r := s.runSettings run; r.1.runDone link r.2))

/-- The node accepts the KX64's claim (R278); a tandem link has no claim acceptance (R271). -/
def State.claimAccepted (s : State) (l : Nat) : Bool :=
  decide (64 ≤ l) || s.fld (F.CL_CLAIM.NODE l) == s.fld (F.CL_CLAIM.OWN l)

/-- The wait of a down rotation ends: its map write departs (R278, step 2), or the calibration command that was deferred. -/
def State.downStep (s : State) (l : Nat) : State :=
  let again := (s.link l).cal.deferred
  let s := s.updCal l (fun c => { c with deferred := 0 })
  if again = 2 then s.sendLaneCal l else s.sendLaneMap l

/-- `DOWN_ROTATION_STEP`; a deferred rotation waits until the node accepts the claim. -/
def execDownRotationStep (link : AnyLink) (s : State) : Host.Outcome State Fault Refusal :=
  s.done (s.when (s.linkUp link && s.linkActive link && s.calDir link == dirDown && s.calPhase link == cpWaiting &&
    (decide ((s.link link).cal.deferred = 0) || s.claimAccepted link)) (s.downStep link))

/-- Up L0 loses lock and the Swing lane takes over (R280). -/
def State.upFail (s : State) (l : Nat) : State :=
  let lost := s.fld (F.CL_LANE_MAP.RX_L0 l)
  let sw := s.swingLane l dirUp
  let s := (((s.setFld (F.CL_LANE_MAP.RX_L0 l) sw).setSwing l dirUp 3).setMark l dirUp lost markFailed).raise
    (Src.link l) E.LANE_FAILED [l, dirUp, lost]
  let s := (s.leaveOut l dirUp).updCal l (fun c => { c with queued := [] })
  if s.calPhase l ≠ cpIdle ∧ s.calDir l = dirUp then ((s.setCalPhase l cpIdle).serveQuad l).nextRotation l else s

def execUpLaneFail (link : AnyLink) (s : State) : Host.Outcome State Fault Refusal :=
  s.done (s.when (s.linkUp link && s.linkActive link && s.swingLane link dirUp != 3 &&
    s.laneMark link dirUp (s.swingLane link dirUp) == markNone) (s.upFail link))

/-! ### Lane tests (R272, R282 to R285) -/

/-- Requests of a link outstanding or waiting. -/
def State.requests (s : State) (l : Nat) : List CfgReq := (s.link l).cfg.map (·.2) ++ (s.link l).wait.filterMap (fun w => w.req.map (·.2))

/-- With no marked lane left to move and no map write on its way, `MAP_PENDING` ends (R273). -/
def State.mapSettled (s : State) (l : Nat) : State :=
  if (s.misplaced l).isNone && !(s.requests l).any CfgReq.isInitial then s.setFld (F.CL_CAL_STATE.MAP_PENDING l) 0 else s

/-- A write of `RESTORE` (R272): the lane is the Swing lane where its direction has none. -/
def State.restoreLane (s : State) (l dir k : Nat) : State :=
  if s.calPhase l ≠ cpIdle ∧ s.calDir l = dir ∧ s.calLane l = k then s
  else
    let role := s.laneRole l dir k
    let s := s.setMark l dir k markNone
    let s := if s.swingLane l dir = 3 ∧ role = 3 then s.setSwing l dir k else s
    s.mapSettled l

/-- `LANE_RESTORE`; an RX lane is 0 or 1. -/
def execLaneRestore (link : AnyLink) (tx : Bool) (lane : Fin 3) (s : State) : Host.Outcome State Fault Refusal :=
  s.done (s.when (s.linkUp link && (tx || decide (lane.val < 2)))
    (s.restoreLane link (if tx then dirDown else dirUp) lane))

/-- A TX lane carries blocks or a pattern (R285): blocks from `ALIGN` on, a pattern in `DISABLED` only (R283). -/
def State.carries (s : State) (l k : Nat) : Bool :=
  decide (lkClock < s.linkState l) || (s.linkState l == lkDisabled && s.flag (F.CL_TXL_GEN.EN l k))

/-- A checker that runs and is locked. -/
def State.checks (s : State) (l k : Nat) : Bool :=
  s.linkState l == lkDisabled && s.flag (F.CL_RXL_CHK.EN l k) && s.flag (F.CL_RXL_CHK.LOCKED l k)

/-- One bit of a lane is inverted (R285): a locked checker that the lane is looped to counts it (R283, R284). -/
def State.invertBit (s : State) (l k : Nat) : State :=
  let s := s.send (.invert l k)
  if k < 2 ∧ s.flag (F.CL_TXL_GEN.LOOP l k) ∧ s.checks l k then s.bumpSat (F.CL_RXL_CHK_ERR_CNT.COUNT l k) 1 else s

/-- `INJ.SINGLE` inverts one bit (R285), in any state in which the lane carries blocks or a pattern. -/
def State.injectSingle (s : State) (l k : Nat) : State := if s.carries l k then s.invertBit l k else s

/-- 16 UI pass on a lane, which is 1.25 ns: with `RATE` one bit is inverted every `INTERVAL` bits (R285). -/
def State.injectRate (s : State) (l k : Nat) : State :=
  if s.flag (F.CL_TXL_INJ.RATE l k) && s.carries l k then
    let n := (s.link l).injAt.get 0 k + 16
    let due := decide (s.fld (F.CL_TXL_INTERVAL.BITS l k) ≤ n)
    let s := s.updLink l (fun x => { x with injAt := x.injAt.put 0 k (if due then n - s.fld (F.CL_TXL_INTERVAL.BITS l k) else n) })
    if due then s.invertBit l k else s
  else s

/-- Lane tests over 1.25 ns: periodic injection, and the bits that locked checkers compare (R284, R285). -/
def State.laneTime (s : State) (l : Nat) : State :=
  let s := (List.range 3).foldl (fun s k => s.injectRate l k) s
  (List.range 2).foldl (fun s k => if s.checks l k then s.bumpSat (F.CL_RXL_CHK_BIT_CNT.COUNT l k) 16 else s) s


def execLaneInjectSingle (link : AnyLink) (lane : Fin 3) (s : State) : Host.Outcome State Fault Refusal :=
  s.done (s.when (s.linkUp link) (s.injectSingle link lane))

/-- A checker runs: only in `DISABLED` (R283). -/
def State.checkerRuns (s : State) (l k : Nat) : Bool :=
  s.linkUp l && s.linkState l == lkDisabled && s.flag (F.CL_RXL_CHK.EN l k)

/-- 256 correct bits (R284): the checker locks. One that is locked already counts the errored bits found before them. -/
def State.checkerLocks (s : State) (l k errors : Nat) : State :=
  if s.flag (F.CL_RXL_CHK.LOCKED l k) then s.bumpSat (F.CL_RXL_CHK_ERR_CNT.COUNT l k) errors else s.setFld (F.CL_RXL_CHK.LOCKED l k) 1

def execCheckerLocked (link : AnyLink) (found : LaneErrors) (s : State) : Host.Outcome State Fault Refusal :=
  s.done (s.when (s.checkerRuns link found.lane) (s.checkerLocks link found.lane found.errors))

/-- 64 errors within 1,024 bits (R284): the errored bits found are counted, the checker loses lock and seeds itself again. -/
def State.checkerLost (s : State) (l k errors : Nat) : State :=
  ((s.setFld (F.CL_RXL_CHK.LOCKED l k) 0).bump (F.CL_RXL_RELOCK_CNT.COUNT l k)).bumpSat (F.CL_RXL_CHK_ERR_CNT.COUNT l k) (max 64 errors)

def execCheckerLostLock (link : AnyLink) (found : LaneErrors) (s : State) : Host.Outcome State Fault Refusal :=
  s.done (s.when (s.checkerRuns link found.lane && s.flag (F.CL_RXL_CHK.LOCKED link found.lane)) (s.checkerLost link found.lane found.errors))

end Sys2Proof.Machine
end

