-- ==== Sys2Proof/Machine/Events.lean ====
section
/-! DEFINITION. The event unit and the ledgers (R49, R69, R454 to R460, R498). -/

namespace Sys2Proof.Machine

def State.setEvt (s : State) (x : EvtSt) : State := { s with evt := x }

/-! ### Presentation (R454, R455) -/

/-- An event taken from a queue of deferred ones: it carries the cycle in which it is taken, and its real-time clock value. -/
def deferredRec (e : EvtRec) (rtc house : Nat) : EvtRec :=
  { e with house := house, deferred := true, args := (e.args ++ [0, 0]).take 2 ++ words2 rtc, lost := 0 }

/-- The older of the two queues' first events is taken; the Curtain's where they tie. -/
def State.takeDeferred (s : State) : State :=
  match s.evt.curQueue, s.evt.glQueue with
  | (e, r) :: cs, (g, q) :: gs =>
    if r ≤ q then s.setEvt { s.evt with curQueue := cs, held := s.evt.held ++ [deferredRec e r s.time.house] }
    else s.setEvt { s.evt with glQueue := gs, held := s.evt.held ++ [deferredRec g q s.time.house] }
  | (e, r) :: cs, [] => s.setEvt { s.evt with curQueue := cs, held := s.evt.held ++ [deferredRec e r s.time.house] }
  | [], (g, q) :: gs => s.setEvt { s.evt with glQueue := gs, held := s.evt.held ++ [deferredRec g q s.time.house] }
  | [], [] => s

/-- Sources present what they hold, and one deferred event is taken. -/
def State.presentEvents (s : State) : State :=
  if s.evtUp then (s.setEvt { s.evt with held := s.evt.held ++ s.evt.raised, raised := [] }).takeDeferred else s

/-! ### Release (R69, R454, R456, R498) -/

/-- Edges of different `CUE_IO` pins in one cycle are ordered by pin number (R87). -/
def edgeBefore (x y : EvtRec) : Bool :=
  x.code == E.CUE_IO_EDGE && y.code == E.CUE_IO_EDGE && decide (x.args.headD 0 % 16 < y.args.headD 0 % 16)

/-- The order of R69, ties within a source by ascending code. -/
def evtBefore (x y : EvtRec) : Bool :=
  decide (x.house < y.house) || (x.house == y.house && (decide (x.source < y.source) ||
    (x.source == y.source && (decide (x.code < y.code) || edgeBefore x y))))

/-- The first held record in order, the one presented first of equals. -/
def firstEvt : List EvtRec → Option EvtRec
  | [] => none
  | e :: rest => match firstEvt rest with
    | none => some e
    | some f => if evtBefore f e then some f else some e

def evtStoreSize : Nat := 4096
def State.eventRings (s : State) : List Nat := (List.range 64).filter (fun n => s.isEventRing n)

/-- A record is dropped for a ring: the first and the last are remembered. -/
def State.dropForRing (s : State) (e : EvtRec) (n : Nat) : State :=
  let r := s.ring n
  (s.setRing n { r with lost := r.lost + 1, lostFirst := if r.lost = 0 then e.house else r.lostFirst, lostLast := e.house }).bump
    (F.HST_RING_LOST_CNT.COUNT n)

/-- A record enters the delivery store, or is dropped for every enabled event ring. -/
def State.storeEvt (s : State) (e : EvtRec) : State :=
  let s := (s.bump F.EVT_RAISED_CNT.COUNT).setRv R.EVT_LAST_HOUSE e.house
  if s.evt.store.length < evtStoreSize then s.setEvt { s.evt with store := s.evt.store ++ [e] }
  else (s.eventRings.foldl (fun s n => s.dropForRing e n) s).bump F.EVT_STORE_LOST_CNT.COUNT

/-- An `EVENTS_LOST` record (R456). -/
def lostRec (first count last : Nat) : EvtRec := ⟨first, Src.events, E.EVENTS_LOST, false, [count % 2 ^ 32, 0] ++ words2 last, 0⟩

/-- A record is released, an `EVENT_OVERFLOW` before it where its source has dropped events. -/
def State.releaseEvt (s : State) (e : EvtRec) : State :=
  let s := s.setEvt { s.evt with held := s.evt.held.erase e }
  let s := if e.lost = 0 then s
    else s.storeEvt ⟨e.house, Src.events, E.EVENT_OVERFLOW, false, [e.source, e.lost % 2 ^ 32], 0⟩
  s.storeEvt { e with lost := 0 }

/-- What a `WARM` reset discarded is reported first. -/
def State.reportWarmLost (s : State) : State :=
  let n := s.evt.warmLost
  let t := (s.setEvt { s.evt with warmLost := 0, warmLostHouse := 0 }).bumpBy F.EVT_STORE_LOST_CNT.COUNT n
  t.storeEvt (lostRec s.time.house n s.evt.warmLostHouse)

/-- The first record is released once the house clock has passed its `HOUSE` + 256. -/
def State.eventRelease (s : State) : State :=
  if s.evt.warmLost ≠ 0 then s.reportWarmLost
  else match firstEvt s.evt.held with
    | some e => if e.house + 256 < s.time.house then s.releaseEvt e else s
    | none => s

def execEventRelease (s : State) : Host.Outcome State Fault Refusal := s.done (s.when s.evtUp s.eventRelease)

/-! ### Delivery (R49, R451) -/

/-- The bytes of a record. -/
def EvtRec.bytes (e : EvtRec) : List Byte :=
  leBytes 8 e.house ++ leBytes 2 e.source ++ leBytes 2 e.code ++ leBytes 1 (b2n e.deferred) ++ zeros 3 ++
    ((e.args ++ [0, 0, 0, 0]).take 4).flatMap (leBytes 4)

/-- Records of an event ring that the host has not consumed. -/
def State.unconsumed (s : State) (n : Nat) : Nat :=
  let r := s.ring n
  (r.cqTail + s.cqSlots n - r.cqHead) % s.cqSlots n

/-- A record is written to a ring. -/
def State.writeEvt (s : State) (n : Nat) (e : EvtRec) : State :=
  let s := (s.send (.hostWrite (s.cqBase n + (s.ring n).cqTail * 32) e.bytes)).advanceCq n
  if s.flag (F.HST_RING_CFG.IRQ n) then s.signal n else s

/-- A record for one ring: written, behind an `EVENTS_LOST` where some have been dropped, or dropped. -/
def State.deliverTo (s : State) (e : EvtRec) (n : Nat) : State :=
  if s.unconsumed n + 2 < s.cqSlots n then
    let r := s.ring n
    let s := if r.lost = 0 then s
      else (s.setRing n { r with lost := 0, lostFirst := 0, lostLast := 0 }).writeEvt n (lostRec r.lostFirst r.lost r.lostLast)
    s.writeEvt n e
  else s.dropForRing e n

/-- The oldest record of the store reaches every enabled event ring. The record of what a `WARM` reset discarded waits for the first ring that is
enabled after the reset (R498). -/
def State.eventDeliver (s : State) : State :=
  match s.evt.store with
  | [] => s
  | e :: rest =>
    if e.code == E.EVENTS_LOST && s.eventRings.isEmpty then s
    else s.eventRings.foldl (fun s n => s.deliverTo e n) (s.setEvt { s.evt with store := rest })

def execEventDeliver (s : State) : Host.Outcome State Fault Refusal := s.done (s.when s.hostUp s.eventDeliver)

/-! ### Ledgers (R458 to R460) -/

def State.storeFree (s : State) : Nat := 8192 - s.host.store.length

/-- The identities that hold in every sample: ledger, instance, the sum found and the one that holds. -/
def State.ledgers (s : State) : List (Nat × Nat × Nat × Nat) :=
  [(0, 0, s.storeFree + s.host.store.length, 8192),
   (1, 0, s.slotsFree + s.slotsQueued + s.slotsDispatched + s.slotsHandoff, 8192),
   (2, 0, s.pagesFree + s.pagesUsed + s.pagesRetired, hbmPages)] ++
  (List.range 66).map (fun l => (3, l, s.fld (F.CL_CRED_HELD.COUNT l) + s.fld (F.CL_CRED_OUT.COUNT l), s.fld (F.CL_CRED_ADV.COUNT l))) ++
  (List.range 32).map (fun q => (4, q, (s.qbSt q).words.length + (qbWords - (s.qbSt q).words.length), qbWords)) ++
  [(5, 0, s.rv R.FLY_BURSTS_RETIRED + s.rv R.FLY_BURSTS_OPEN, s.rv R.FLY_BURSTS_ISSUED)] ++
  (List.range 32).filterMap (fun n => (s.flyOf n).map (fun x =>
    (6, n, s.rv (R.FLY_WRITTEN n) + s.fld (F.FLY_STATUS.HELD n) + s.rv (R.FLY_RESIDUE n), Fly.count x.img)))

/-- A ledger that fails. -/
def State.ledgerFails (s : State) (x : Nat × Nat × Nat × Nat) : State :=
  let s := s.setFld F.EVT_LEDGER_FAULT.LEDGER (s.fld F.EVT_LEDGER_FAULT.LEDGER ||| 2 ^ x.1)
  (s.bump F.EVT_LEDGER_FAULT_CNT.COUNT).raise Src.events E.LEDGER_FAULT [x.1, x.2.1, x.2.2.1]

def State.checkLedgers (s : State) : State :=
  (s.ledgers.filter (fun x => x.2.2.1 != x.2.2.2)).foldl State.ledgerFails s

def execLedgerCheck (s : State) : Host.Outcome State Fault Refusal :=
  s.done (s.when (s.evtUp && s.rv R.EVT_LEDGER != 0) s.checkLedgers)

/-- The snapshot of all ledgers. -/
def State.ledgerReport (s : State) : List Byte :=
  leBytes 8 s.time.house ++ leBytes 4 s.storeFree ++ leBytes 4 s.host.store.length ++
    leBytes 4 s.slotsFree ++ leBytes 4 s.slotsQueued ++ leBytes 4 s.slotsDispatched ++ leBytes 4 s.slotsHandoff ++
    leBytes 4 s.pagesFree ++ leBytes 4 s.pagesUsed ++ leBytes 4 s.pagesRetired ++ leBytes 4 s.sramFree ++
    leBytes 8 (s.rv R.FLY_BURSTS_ISSUED) ++ leBytes 8 (s.rv R.FLY_BURSTS_RETIRED) ++ leBytes 4 (s.rv R.FLY_BURSTS_OPEN) ++ zeros 4 ++
    (List.range 32).flatMap (fun q => leBytes 2 (s.qbSt q).words.length ++ leBytes 2 (qbWords - (s.qbSt q).words.length)) ++
    (List.range 66).flatMap (fun l => leBytes 2 (s.fld (F.CL_CRED_ADV.COUNT l)) ++ leBytes 2 (s.fld (F.CL_CRED_HELD.COUNT l)) ++
      leBytes 2 (s.fld (F.CL_CRED_OUT.COUNT l)) ++ zeros 2) ++
    (List.range 64).flatMap (fun n => leBytes 2 (s.ring n).tail ++ leBytes 2 (s.ring n).fetchHead ++ leBytes 2 (s.heldBy n) ++ zeros 2)

def execReportLedgers (ring : RingIx) (s : State) : Host.Outcome State Fault Refusal :=
  s.done (s.when s.hostUp (s.runReport ring 2 State.ledgerReport))

/-- The live Prompt Book (R466). -/
def State.bookReport (s : State) : List Byte := s.book bookLive (s.rv R.PBK_SEQ)

def execReportPromptBook (ring : RingIx) (s : State) : Host.Outcome State Fault Refusal :=
  s.done (s.when s.hostUp (s.runReport ring 3 State.bookReport))

/-! ### `ACKNOWLEDGE` (R430, R457) -/

/-- The one condition that an `ACKNOWLEDGE` clears is a retention fault. -/
def State.acknowledge (s : State) (e : StoreEntry) : State :=
  if e.arg0 = E.RETENTION_FAULT ∧ s.flag F.PWR_STATE.RET_FAULT = true then
    ((s.setFld F.PWR_STATE.RET_FAULT 0).setFld F.PWR_RET_BANK.BANK 0).finish e.id St.ok 1
  else s.finish e.id St.ok 0

def execAcknowledge (ring : RingIx) (s : State) : Host.Outcome State Fault Refusal :=
  s.done (s.when s.hostUp (s.runNext ring (·.opcode == opAck) State.acknowledge))

/-! ### Host read data (R56) -/

/-- Data for the ring's oldest descriptor that waits for some. -/
def State.hostReadArrives (s : State) (ring : Nat) (d : HostData) : State :=
  match s.host.store.find? (fun e => e.ring = ring && !e.reqs.isEmpty) with
  | none => s
  | some e =>
    let n := (e.reqs.headD (0, 0)).2
    if e.opcode = opWrite then s.writeAnswer e n d
    else if e.opcode = opSet then s.setAnswer e n d
    else s.chunkAnswer e n d

def execHostReadCompletion (ring : RingIx) (data : HostData) (s : State) : Host.Outcome State Fault Refusal :=
  s.done (s.when s.hostUp (s.hostReadArrives ring data))

/-! ### One HCLK cycle with nothing commanded -/

/-- ECLK cycles, of 6 root cycles, that end with HCLK cycle h, of 8. -/
def eclkIn (h : Nat) : Nat := (h + 1) * 4 / 3 - h * 4 / 3

/-- The buffered frame that link l sends next: one that waits, or a segment of the pass of the frame whose turn it is (R245). -/
def State.nextBuffered (s : State) (l : Nat) : Option (List Byte) :=
  match (s.link l).wait with
  | w :: _ => some w.payload
  | [] =>
    match s.passOf l with
    | none => none
    | some p =>
      match p.sendQ, s.frame? p.frame with
      | u :: _, some f => if s.isHead f then some (regionPayload f u) else none
      | _, _ => none

/-- A buffered frame waits for credits on link l: not for the Curtain's selector (R254). -/
def State.waitsForCredits (s : State) (l : Nat) : Bool :=
  s.linkActive l && !s.curtainOn l && (match s.nextBuffered l with
    | some p => decide (s.fld (F.CL_CRED_HELD.COUNT l) < frameCost p)
    | none => false)

/-- What counts over 1.25 ns: clock cycles (R105, R255), and the bits of lane tests (R284, R285). -/
def State.cycleCounts (s : State) : State :=
  let s := if s.cb.stalled.isEmpty then s else s.bumpBy F.CB_STALL_CNT.COUNT 2
  ((List.range 66).filter (fun l => s.waitsForCredits l)).foldl (fun s l => s.bumpBy (F.CL_STALL_CNT.COUNT l) (eclkIn s.time.house))
    ((List.range 66).foldl State.laneTime s)

/-- Calls in handoff count as dispatched from the next cycle on (R117). -/
def State.handoffEnds (s : State) : State :=
  { s with cb := { s.cb with held := s.cb.held.map (fun h => (h.1, { h.2 with handoff := false })) } }

/-- A FCLK cycle of the Call Board (R110): what ports can hand out goes. -/
def State.fclkCycle (s : State) : State :=
  let s := s.handoffEnds
  if s.evtUp then s.dispatchAll else s

/-- The RX buffers' room is free again (R287). -/
def State.rxDrain (s : State) : State :=
  ((s.net.filter (fun e => e.2.rxHeld != 0)).map (·.1)).foldl (fun s p => s.updNet p (fun x => { x with rxHeld := 0 })) s

/-- 1.25 ns pass: the real-time clock runs while `VDD_GL` is up, and everything else with the root-derived clocks. -/
def State.tick (s : State) : State :=
  let s := if s.powered .gl then { s with time := s.time.rtcTick } else s
  if s.time.running then (s.cycleCounts.rxDrain.fclkCycle.fclkCycle.presentEvents).clockCycle else s

end Sys2Proof.Machine
end

