-- ==== Sys2Proof/Machine/LinkMsgs.lean ====
section
/-! DEFINITION. `CFG` responses, credits and `STATUS` from a node (R250 to R259, R273, R278, R229). -/

namespace Sys2Proof.Machine

/-! ### Responses by requester (R250, R278) -/

/-- The identity of a node (R257, R259, R269). -/
def State.identity (s : State) (l : Nat) (w : List Nat) : State :=
  let caps := w.getD 2 0
  let credits := w.getD 3 0 % 65536
  let s := ((s.setRv (R.CL_NODE_ID l) (w.getD 0 0)).setRv (R.CL_NODE_SERIAL l) (w.getD 1 0)).setRv (R.CL_NODE_CAPS l) caps
  let s := s.setFld (F.CL_STATE.ADDRS l) (bits caps 4 8 + 1)
  if caps % 16 = 1 ∧ 32 ≤ credits then (s.toActive l credits).sendClears l
  else (s.raise (Src.link l) E.NODE_REFUSED []).toDetect l

/-- The node has performed a map write: both ends hold that map. A marked lane at the Swing position is no Swing lane (R272). -/
def State.takeMap (s : State) (l l0 l1 sw : Nat) : State :=
  (((s.setDownLane l 0 l0).setDownLane l 1 l1).setSwing l dirDown (if s.laneMark l dirDown sw = markNone then sw else 3)).showLanes l

/-- The map write of R273 has been performed: the marked lane lies at the Swing position. -/
def State.initialMapped (s : State) (l l0 l1 sw : Nat) : State := (s.takeMap l l0 l1 sw).setFld (F.CL_CAL_STATE.MAP_PENDING l) 0

/-- The map write of a rotation has been performed (R278, step 3): the calibration command follows. -/
def State.rotationMapped (s : State) (l l0 l1 sw : Nat) : State := (s.takeMap l l0 l1 sw).sendLaneCal l

/-- The map write of a rotation has been refused: repeated up to three times, or deferred until the node accepts the claim. -/
def State.mapRefused (s : State) (l : Nat) : State :=
  let n := (s.link l).cal.refusals
  if s.claimAccepted l then
    (if n = 3 then s.calAbort l else (s.updCal l (fun c => { c with refusals := n + 1 })).setCalPhase l cpWaiting)
  else (s.updCal l (fun c => { c with deferred := 1 })).setCalPhase l cpWaiting

/-- The node's calibration disagreed (R279); or the node accepts another claim, and the command is deferred (R266, R278). -/
def State.laneRefused (s : State) (l : Nat) : State :=
  if s.claimAccepted l then
    let s := s.calRejected l dirDown (s.calLane l)
    let n := (s.link l).cal.tries + 1
    if n = 4 then s.laneSuspect l else (s.updCal l (fun c => { c with tries := n })).sendLaneCal l
  else (s.updCal l (fun c => { c with deferred := 2 })).setCalPhase l cpWaiting

def cfgOk : Nat := 0
def cfgRefused : Nat := 2
def cfgTimedOut : Nat := 3

/-- A request on a node's registers ends: with a response, or with `TIMEOUT`. -/
def State.cfgEnds (s : State) (l : Nat) (req : CfgReq) (result : Nat) (words : List Nat) : State :=
  match req with
  | .mailbox write =>
    let s := if result = cfgOk ∧ write = false then
        (words.zipIdx).foldl (fun s w => s.setRv (R.CL_CFG_DATA l w.2) w.1) s
      else s
    s.mailboxEnds l result
  | .ident => if result = cfgOk ∧ s.linkState l = lkIdent ∧ words.length = 5 then s.identity l words else s
  | .laneMap true l0 l1 sw => if result = cfgOk then s.initialMapped l l0 l1 sw else s.mapSettled l
  | .laneMap false l0 l1 sw =>
    if result = cfgOk then s.rotationMapped l l0 l1 sw else if result = cfgRefused then s.mapRefused l else s.calAbort l
  | .laneCal => if result = cfgOk then s.laneCalibrated l else if result = cfgRefused then s.laneRefused l else s.calAbort l
  | .funcClear f => if result = cfgOk then s.updLink l (fun x => { x with clears := x.clears.filter (· ≠ .funcClear f) }) else s
  | .elemClear a b c => if result = cfgOk then s.updLink l (fun x => { x with clears := x.clears.filter (· ≠ .elemClear a b c) }) else s

/-- A response whose `TAG` matches a request outstanding. -/
def State.cfgAnswer (s : State) (l tag result : Nat) (words : List Nat) : State :=
  match (s.link l).cfg.find? (·.1 = tag) with
  | none => s
  | some r =>
    ((s.updLink l (fun x => { x with cfg := x.cfg.erase r })).cfgEnds l r.2 result words).drain l

/-- `CFG_RESPONSE`: `RESULT` is `OK`, `BAD_ADDR` or `REFUSED`; a response that carries anything else answers nothing. -/
def execCfgResponse (link : AnyLink) (hdr : UpHdr) (tag : BitVec 16) (result : Byte) (words : List Word) (s : State) :
    Host.Outcome State Fault Refusal :=
  if 64 < words.length then .fault .illFormed
  else s.done (s.when (s.linkTalks link)
    (let u := s.rxFrame link hdr
     if result.toNat ≤ cfgRefused then u.cfgAnswer link tag.toNat result.toNat (words.map (·.toNat)) else u))

/-- A request of the mailbox that waits to be sent. -/
def TxWait.ofMailbox (w : TxWait) : Bool :=
  match w.req with
  | some r => r.2.isMailbox
  | none => false

/-- The oldest request outstanding has had no response for 1 ms; a mailbox request that could not be sent ends likewise. -/
def State.cfgTimeout (s : State) (l : Nat) : State :=
  match (s.link l).cfg with
  | r :: rest => ((s.updLink l (fun x => { x with cfg := rest })).cfgEnds l r.2 cfgTimedOut []).drain l
  | [] => if s.flag (F.CL_CFG_STATUS.BUSY l) then
      (s.updLink l (fun x => { x with wait := x.wait.filter (fun w => !w.ofMailbox) })).mailboxEnds l cfgTimedOut else s

def execCfgTimeout (link : AnyLink) (s : State) : Host.Outcome State Fault Refusal := s.done (s.when (s.linkUp link) (s.cfgTimeout link))

/-! ### Credits (R255) -/

/-- The map write of R273 goes again once the node accepts the claim, while none is on its way. -/
def State.retryMap (s : State) (l : Nat) : State :=
  if s.flag (F.CL_CAL_STATE.MAP_PENDING l) && s.claimAccepted l && !(s.requests l).any CfgReq.isInitial then s.sendInitialMap l else s

def execCreditReceived (link : AnyLink) (hdr : UpHdr) (seen : BitVec 16) (s : State) : Host.Outcome State Fault Refusal :=
  s.done (s.when (s.linkTalks link)
    (let u := s.rxFrame link hdr
     if u.linkActive link then (u.credit link seen.toNat).retryMap link else u))

/-! ### `STATUS` (R252) -/

/-- The call that return traffic posts: its priority, group and arguments are the link formatter's own, which the spec does not
state. -/
def State.postService (s : State) (l : AnyLink) : State :=
  let n := s.freeCtr
  let w : CallWord := ⟨kLinkService, clsSM, Config.free n % 8, Config.free (n + 1) % 32, false, false, 0, 0, 0xFFFF, noFrame,
    Config.free (n + 2) % 2 ^ 32, Config.free (n + 3) % 2 ^ 32, Config.free (n + 4) % 2 ^ 32, Config.free (n + 5) % 2 ^ 32⟩
  ({ s with freeCtr := n + 6 }).postFrom (.link l) 0 w 0

/-- The whole payload goes to the queue block `RET_QB`, or is dropped. -/
def State.returnStatus (s : State) (l : AnyLink) (p : List Byte) : State :=
  let q := s.fld (F.CL_CFG.RET_QB l)
  if s.qbTakes q p.length then (s.qbProduce q p).postService l else s.bump (F.CL_RET_DROP_CNT.COUNT l)

/-- A node's pending image is lost (R176): the units it was sent are forgotten at once, and the pass is abandoned. -/
def State.imageLost (s : State) (l node : Nat) : State :=
  (s.forgetUnits l (fun u => u.2.node == node)).abandonPass l

/-- Flags of a `STATUS`: each takes its effect. -/
def State.nodeFlags (s : State) (l node flags : Nat) : State :=
  let s := s.setFld (F.CL_NODE_FLAGS.FLAGS l) (s.fld (F.CL_NODE_FLAGS.FLAGS l) ||| (flags % 64))
  let s := if bit flags 0 ∧ l < 64 then s.imageLost l node else s
  if bit flags 2 && s.linkActive l then (s.leaveActive l downCredit).toDetect l else s

def execStatusReceived (link : AnyLink) (hdr : UpHdr) (node flags temp : BitVec 16) (extra : List Byte) (s : State) :
    Host.Outcome State Fault Refusal :=
  if 56 < extra.length ∨ extra.length % 8 ≠ 0 then .fault .illFormed
  else s.done (s.when (s.linkTalks link)
    (((s.rxFrame link hdr).returnStatus link
      (leBytes 2 node.toNat ++ leBytes 2 flags.toNat ++ leBytes 2 temp.toNat ++ zeros 2 ++ extra)).nodeFlags link node.toNat flags.toNat))

end Sys2Proof.Machine
end

