-- ==== Sys2Proof/Machine/TandemRows.lean ====
section
/-! DEFINITION. Roles, tandem messages in both directions, and what an Understudy does with them (R331 to R351). -/

namespace Sys2Proof.Machine

/-! ### Roles (R331, R339, R342) -/

def State.anyPrio (s : State) (f : Nat → Bool) : Bool := s.sacnPorts.all (fun p => f (s.fld (F.NET_SACN_CTRL.PRIORITY p)))

/-- `ROLE` written `PRINCIPAL`. -/
def State.becomePrincipal (s : State) : State :=
  let s := s.setFld F.TDM_ROLE.ROLE rolePrincipal
  if s.role ≠ roleAlone then s
  else if inRange 2 0xEFFE (s.fld F.TDM_CLAIM.CLAIM) && s.anyPrio (inRange 2 198) then
    ((s.setRole rolePrincipal).setPair pairNone).setTdm tdmReset
  else s.raise Src.tandem E.PAIR_REFUSED []

def execRolePrincipal (s : State) : Host.Outcome State Fault Refusal := s.done (s.when s.evtUp s.becomePrincipal)

/-- `ROLE` written `UNDERSTUDY`. -/
def State.becomeUnderstudy (s : State) : State :=
  let s := s.setFld F.TDM_ROLE.ROLE roleUnderstudy
  if s.role = roleAlone then s.toJoining else s

def execRoleUnderstudy (s : State) : Host.Outcome State Fault Refusal := s.done (s.when s.evtUp s.becomeUnderstudy)

/-- `ROLE` written `ALONE`: the own claim is kept. -/
def State.becomeAlone (s : State) : State :=
  let s := s.setFld F.TDM_ROLE.ROLE roleAlone
  let s := (((s.setRole roleAlone).setPair pairNone).setFld F.TDM_STATE.ADRIFT 0).setFld F.TDM_STATE.DIVERGED 0
  s.setTdm tdmReset

def execRoleAlone (s : State) : Host.Outcome State Fault Refusal := s.done (s.when s.evtUp s.becomeAlone)

/-- `PROMOTE_NOW` written (R342). -/
def execPromoteNow (s : State) : Host.Outcome State Fault Refusal :=
  s.done (s.when (s.evtUp && s.understudy && s.pair == pairPaired && s.fld F.TDM_ROLE.PROMOTE == 2) s.promote)

/-- `TDM_CLAIM` written: in `ALONE`, or in `PRINCIPAL` with `NONE`; any other write is ignored. -/
def State.claimWrite (s : State) (c : Nat) : State :=
  if (s.role == roleAlone && decide (c ≤ 0xEFFF)) || (s.role == rolePrincipal && s.pair == pairNone && inRange 2 0xEFFE c) then s.setClaim c
  else s

def execTdmClaimWrite (claim : BitVec 16) (s : State) : Host.Outcome State Fault Refusal :=
  s.done (s.when s.evtUp (s.claimWrite claim.toNat))

/-! ### Up messages at a principal (R333, R336, R348, R350) -/

/-- A `HELLO` acknowledges messages: streamed items whose last message is among them are adopted when the Understudy had begun no
later frame; the others are to be streamed again. -/
def State.helloAck (s : State) (next lastFrame : Nat) : State :=
  let done := s.tdm.inFlight.filter (fun x => mseqBefore x.2.2 next)
  let took := (done.filter (fun x => decide (lastFrame ≤ x.2.1))).map (·.1)
  let s := s.setTdm { s.tdm with
    reported := next
    msgs := s.tdm.msgs.filter (fun m => !(m.sent && mseqBefore m.mseq next))
    inFlight := s.tdm.inFlight.filter (fun x => !mseqBefore x.2.2 next)
    adopted := s.tdm.adopted ++ took }
  if s.pair = pairPaired ∧ s.tdm.streaming ∧ s.allAdopted then s.setTdm { s.tdm with streaming := false } else s

/-- A `HELLO` of a unit that waits for a principal: the rows of R331 in their order. -/
def State.helloJoins (s : State) (rev fw : Nat) : State :=
  let same := rev == s.rv R.GLB_REV && fw == s.rv R.GLB_FW_VERSION
  let fits := decide (s.fld F.TDM_CLAIM.CLAIM ≤ 0xEFFE) && s.anyPrio (fun p => decide (p ≤ 198))
  if same && fits then s.startResync
  else if !fits then
    (if s.tdm.told then s else (s.setTdm { s.tdm with told := true }).raise Src.tandem E.PAIR_REFUSED [])
  else if s.tdm.toldMismatch then s
  else (s.setTdm { s.tdm with toldMismatch := true }).raise Src.tandem E.PAIR_MISMATCH []

/-- A principal that is not paired has its package to send to a unit in ROM. -/
def State.offers (s : State) : Bool := s.role == rolePrincipal && s.pair == pairNone && !s.tdm.msgs.isEmpty

/-- A unit in ROM is sent the `ACTIVE` package (R442), unless it has all of it. -/
def State.offerPackage (s : State) (next : Nat) : State :=
  if s.tdm.msgs.isEmpty ∧ next ≠ s.tdm.nextMseq ∨ s.tdm.nextMseq = 1 then
    let n := s.activeBytes
    let s := s.setTdm { tdmReset with turn := s.tdm.turn }
    (List.range (ceilDiv n 4072)).foldl (fun s k =>
      s.tdmAdd tmBulk (fun m => leBytes 4 m ++ zeros 4 ++ leBytes 8 (k * 4072) ++ zeros 8) (some (0, k * 4072, min 4072 (n - k * 4072))) false) s
  else s.setTdm { s.tdm with reported := next, told := false, toldMismatch := false, msgs := s.tdm.msgs.filter (fun m => !(m.sent && mseqBefore m.mseq next)) }

/-- A `HELLO`. -/
def State.hello (s : State) (phase rev fw next lastFrame : Nat) : State :=
  if s.role ≠ rolePrincipal then s
  else if s.pair = pairNone then
    (if phase = pairJoining then s.helloJoins rev fw else if phase = pairNone then s.offerPackage next else s.setTdm { s.tdm with told := false, toldMismatch := false })
  else s.helloAck next lastFrame

def execHelloReceived (t : TandemIx) (hdr : UpHdr) (phase : Byte) (rev fw nextMseq : Word) (lastFrame : BitVec 64) (s : State) :
    Host.Outcome State Fault Refusal :=
  s.done (s.when (s.linkTalks (tdLink t))
    ((s.rxFrame (tdLink t) hdr).hello phase.toNat rev.toNat fw.toNat nextMseq.toNat lastFrame.toNat))

def execReadyReceived (t : TandemIx) (hdr : UpHdr) (mseq : Word) (s : State) : Host.Outcome State Fault Refusal :=
  s.done (s.when (s.linkTalks (tdLink t))
    (let u := s.rxFrame (tdLink t) hdr
     if u.mirrors then u.setTdm { u.tdm with ready := u.tdm.ready ++ [mseq.toNat] } else u))

/-- The Understudy's digest of a frame: compared when the own one is known. -/
def State.partnerDigest (s : State) (frame d : Nat) (inc : Bool) : State :=
  if !s.mirrors then s
  else match (s.tdm.own.find? (·.1 = frame)).map (·.2) with
    | some (o, oinc) =>
      let s := s.setTdm { s.tdm with own := s.tdm.own.erase frame }
      if inc || oinc then s else s.compareDigests o d
    | none => s.setTdm { s.tdm with partner := (s.tdm.partner.insert frame (d, inc)).drop ((s.tdm.partner.length + 1) - 64) }

def execDigestReceived (t : TandemIx) (hdr : UpHdr) (frame : BitVec 64) (digest flags : Word) (s : State) :
    Host.Outcome State Fault Refusal :=
  s.done (s.when (s.linkTalks (tdLink t))
    ((s.rxFrame (tdLink t) hdr).partnerDigest frame.toNat digest.toNat (bit flags.toNat 0)))

/-! ### Sending (R332, R333) -/

/-- Down messages alternate while both links are `ACTIVE`. -/
def State.sendsOn (s : State) (t : Nat) : Bool :=
  s.linkUp (tdLink t) && s.linkActive (tdLink t) && (!s.linkActive (tdLink (1 - t)) || s.tdm.turn == t)

/-- The oldest message not sent; while there is none, the next part of a resynchronisation takes its place in the series. -/
def State.queueNext (s : State) : State :=
  if s.tdm.msgs.any (!·.sent) then s
  else if !s.tdm.bulk.isEmpty then s.nextBulk
  else s.streamDue

/-- The next down message departs on link t, when credits cover it. -/
def State.sendDown (s : State) (t : Nat) : State :=
  match s.tdm.states with
  | b :: rest =>
    if s.mayBuffer (tdLink t) b then (s.setTdm { s.tdm with states := rest, turn := 1 - t }).txBuffered (tdLink t) tmState b else s
  | [] =>
    let s := s.queueNext
    match s.tdm.msgs.find? (!·.sent) with
    | none => s
    | some m =>
      let b := s.msgPayload m
      if s.mayBuffer (tdLink t) b then
        (s.setTdm { s.tdm with turn := 1 - t
                               msgs := s.tdm.msgs.map (fun x => if x.mseq = m.mseq then { x with sent := true } else x) }).txBuffered
          (tdLink t) m.type b
      else s

/-- The next up message departs on link t. -/
def State.sendUp (s : State) (t : Nat) : State :=
  match s.tdm.up with
  | [] => s
  | (type, b) :: rest => (s.setTdm { s.tdm with up := rest }).txFrame (tdLink t) type b

def State.tandemSend (s : State) (t : Nat) : State :=
  if s.understudy then (if s.linkUp (tdLink t) && s.linkActive (tdLink t) then s.sendUp t else s)
  else if (s.mirrors || s.offers) && s.sendsOn t then s.sendDown t else s

def execTandemMessageSend (t : TandemIx) (s : State) : Host.Outcome State Fault Refusal := s.done (s.when s.evtUp (s.tandemSend t))

/-- Messages unacknowledged for 200 µs are to be sent again, from the reported `NEXT_MSEQ`; where one has left the store,
resynchronisation starts again. -/
def State.resend (s : State) : State :=
  let from_ := s.tdm.reported
  let missing := from_ != s.tdm.nextMseq && !(s.tdm.msgs.any (·.mseq = from_))
  if !s.mirrors && !s.offers then s
  else if missing && s.mirrors then (s.raise Src.tandem E.PAIR_RESYNC []).startResync
  else
    let again : TdmMsg → Bool := fun m => m.sent && !mseqBefore m.mseq from_
    let n := (s.tdm.msgs.filter again).length
    (s.setTdm { s.tdm with msgs := s.tdm.msgs.map (fun m => if again m then { m with sent := false } else m) }).bumpBy F.TDM_RESEND_CNT.COUNT n

def execTandemResend (s : State) : Host.Outcome State Fault Refusal := s.done (s.when s.evtUp s.resend)

/-- Frames freed at the Understudy are reported (R255). -/
def State.nodeCredit (s : State) (t : Nat) : State :=
  s.txFrame (tdLink t) 0x82 (leBytes 2 (((s.link (tdLink t)).rxSeq + 65535) % 65536) ++ zeros 6)

/-- The last frame run. -/
def State.lastRun (s : State) : Nat :=
  match (s.frames.filter (fun f => !f.waits)).getLast?, s.frames.head? with
  | some f, _ => f.seq
  | none, some f => f.seq - 1
  | none, none => s.time.sched.given

/-- A `HELLO` and a `CREDIT` depart. -/
def State.sendHello (s : State) (t : Nat) : State :=
  (s.txFrame (tdLink t) tmHello (leBytes 1 s.pair ++ zeros 3 ++ leBytes 4 (s.rv R.GLB_REV) ++ leBytes 4 (s.rv R.GLB_FW_VERSION) ++
    leBytes 4 s.tdm.rxNext ++ leBytes 8 s.lastRun)).nodeCredit t

def execHelloSend (t : TandemIx) (s : State) : Host.Outcome State Fault Refusal :=
  s.done (s.when ((s.understudy && s.linkUp (tdLink t) || s.romNode) && s.linkActive (tdLink t)) (s.sendHello t))

/-- Tandem lost (R331). -/
def State.partnerGone (s : State) : State :=
  if s.mirrors then ((s.setPair pairNone).setTdm tdmReset).raise Src.tandem E.PARTNER_LOST []
  else if s.understudy ∧ s.pair = pairSyncing then s.toJoining
  else if s.understudy ∧ s.pair = pairPaired ∧ s.flag F.TDM_STATE.ADRIFT = false then
    ((s.setFld F.TDM_STATE.ADRIFT 1).raise Src.tandem E.PARTNER_LOST []).tryPromote
  else s

def execTandemLost (s : State) : Host.Outcome State Fault Refusal := s.done (s.when s.evtUp s.partnerGone)

/-! ### The node side of a tandem link (R332) -/

/-- A link of an Understudy, or of a unit in ROM, that trains or serves as a node. -/
def State.nodeUp (s : State) (t : Nat) : Bool :=
  (s.understudy && s.linkUp (tdLink t) || s.romNode) && s.flag (F.CL_CTRL.EN (tdLink t))

/-- The node's calibration of a down lane (R274, R281): whether its two runs agree is an open value. -/
def State.nodeCal (s : State) (l k : Nat) : State :=
  (if s.freeVal % 2 = 0 then s.calAccepted l dirDown k else s.calRejected l dirDown k).freeStep

/-- Block lock on the down lanes is gained, after a calibration of each: the `ALIGN` blocks show `DOWN_LOCK`; or lost: the `CLOCK` pattern is
sent again (R268). The down map returns to its default (R281). -/
def State.nodeLock (s : State) (t : Nat) (gained : Bool) : State :=
  let l := tdLink t
  if gained then (((List.range 3).foldl (fun s k => s.nodeCal l k) s).setLinkState l lkAlign).showAlign l 1
  else (((s.linkClear l).setLinkState l lkClock).defaultDown l).showLanes l

def execTandemNodeBlockLock (t : TandemIx) (gained : Bool) (s : State) : Host.Outcome State Fault Refusal :=
  s.done (s.when (s.nodeUp t && (!gained || decide (s.linkState (tdLink t) < lkAlign))) (s.nodeLock t gained))

/-- A valid down frame. One with a claim shows that the principal's side is `ACTIVE`, as frames before that carry claim 0 (R258):
both directions count `LSEQ` from 0 (R259). -/
def State.rxDown (s : State) (t : Nat) (h : UpHdr) : State :=
  let l := tdLink t
  let s := if h.claim.toNat ≠ 0 ∧ s.linkActive l = false then
      ((s.setLinkState l lkActive).updLink l (fun x => { x with txSeq := 0, rxSeq := 0 })).showLanes l
    else s
  s.rxFrame l h

/-- The registers an Understudy presents (R269, R332): none where there is no such address; the largest `TURN` and the temperature
are open. -/
def State.nodeReg (s : State) (a : Nat) : Option Nat :=
  if a = 0 then some (s.rv R.GLB_ID)
  else if a = 4 then some (Config.free 4)
  else if a = 8 then some 1
  else if a = 0xC then some 256
  else if a = 0x10 then some (Config.free 16 % 25601)
  else if a = 0x24 then some (Config.free 36 % 65536)
  else if a < 0x1000 ∧ a % 4 = 0 then some 0
  else none

/-- `NODE_LANE_MAP` at a unit that plays the node (R278): performed where the mirror has agreed with the lane, which is open. -/
def State.nodeMap (s : State) (l w : Nat) : State × Bool :=
  let ok := decide (bits w 0 2 < 3 ∧ bits w 2 2 < 3 ∧ bits w 4 2 < 3) && s.freeVal % 2 == 0
  let t := s.freeStep
  (if ok then ((t.setDownLane l 0 (bits w 0 2)).setDownLane l 1 (bits w 2 2)).setSwing l dirDown (bits w 4 2) else t, ok)

/-- `NODE_LANE_CAL`: of the lane the map last freed; whether its runs agree is open. -/
def State.nodeLaneCal (s : State) (l w : Nat) : State × Bool :=
  if bits w 0 2 = s.swingLane l dirDown ∧ bits w 0 2 < 3 then (s.nodeCal l (bits w 0 2), s.freeVal % 2 == 0) else (s, false)

/-- The words of a write, in ascending address order (R250): the lane writes, and false where one is refused. -/
def State.nodeWrites (s : State) (l : Nat) (ws : List (Nat × Nat)) : State × Bool :=
  ws.foldl (fun a w =>
    if a.2 = false then a
    else if w.1 = 0x28 then a.1.nodeMap l w.2
    else if w.1 = 0x2C then a.1.nodeLaneCal l w.2 else a) (s, true)

/-- An answer to a `CFG` request (R250, R269, R278). -/
def State.nodeCfg (s : State) (t : Nat) (p : List Byte) : State :=
  let write := fieldAt p 0 1 == 1
  let n := fieldAt p 1 1
  let addrs := (List.range n).map (fun i => fieldAt p 4 4 + 4 * i)
  let bad := addrs.any (fun a => (s.nodeReg a).isNone)
  let r := if write && !bad then s.nodeWrites (tdLink t) ((addrs.zipIdx).map (fun a => (a.1, fieldAt p (8 + 4 * a.2) 4))) else (s, true)
  let s := r.1
  let result := if bad then 1 else if r.2 then 0 else 2
  let words := if write || bad then [] else addrs.map (fun a => (s.nodeReg a).getD 0)
  s.txFrame (tdLink t) 0x85 (leBytes 2 (fieldAt p 2 2) ++ leBytes 1 result ++ leBytes 1 n ++ zeros 4 ++ words.flatMap (leBytes 4))

/-- An answer to an `ECHO` request: `TURN` is as long as it takes, at most 25,600 UI. -/
def State.nodeEcho (s : State) (t : Nat) (p : List Byte) : State :=
  (s.txFrame (tdLink t) 0x86 (leBytes 4 (fieldAt p 0 4) ++ leBytes 4 (s.freeVal % 25601))).freeStep

def execTandemNodeRequest (t : TandemIx) (hdr : UpHdr) (echo : Bool) (payload : List Byte) (s : State) : Host.Outcome State Fault Refusal :=
  if payload.length < 8 then .fault .illFormed
  else s.done (s.when (s.nodeUp t && decide (lkAlign ≤ s.linkState (tdLink t)))
    (let u := s.rxDown t hdr
     if echo then u.nodeEcho t payload
     else
       let u := u.nodeCfg t payload
       if u.linkActive (tdLink t) then u.nodeCredit t else u))

/-! ### Mirrored operations at an Understudy (R335, R338) -/

/-- A mirrored operation fails. -/
def State.diverge (s : State) (mseq : Nat) : State :=
  ((s.raise Src.tandem E.PAIR_DIVERGED [mseq]).toJoining).setFld F.TDM_STATE.DIVERGED 1

/-- A message to send up. -/
def State.sayUp (s : State) (type : Nat) (b : List Byte) : State := s.setTdm { s.tdm with up := s.tdm.up ++ [(type, b)] }

def State.sayReady (s : State) (mseq : Nat) : State := s.sayUp tmReady (leBytes 4 mseq ++ zeros 4)

/-- An object is created under exactly the handle given. -/
def State.createAt (s : State) (h k : Nat) (param : List Byte) : Option State :=
  let idx := handleIdx h
  if idx = 0 ∨ (s.obj? idx).kind ≠ 0 then none
  else
    let size := objSize k param
    let sram := s.placesInSram k size
    match s.allocPair sram size (auxSize k param) with
    | none => none
    | some (s, pages, aux) =>
      let o : Obj := ⟨k, param, size, sram, pages, aux, none, none⟩
      let s := { s with obj := { s.obj with gens := s.obj.gens.put 1 idx (handleGen h) } }
      let s := (s.setObj idx o).zeroUnits sram (pages ++ aux)
      some ((s.initCover o).examine idx .created)

/-- The memory that a configuration needs is at hand, as far as there is any. -/
def State.takeMemory (s : State) (ws : List CfgWrite) (mseq : Nat) : State :=
  match s.cueMemory s.cfgAcc ws with
  | (t, none) => t
  | (_, some _) => s.diverge mseq

/-- An entry of a configuration table of the principal (R347 step 1). The applied one also carries the frame timing, which the
`STATE` of step 1 anchors. -/
def State.mirrorEntry (s : State) (ring table entry : Nat) (b : List Byte) (mseq : Nat) : State :=
  let w : CfgWrite := ⟨table, entry, b, 0⟩
  if ring = ringAccepted then (({ s with cfgAcc := s.cfgAcc.write w }).takeMemory [] mseq).reapTiles
  else
    let s := { s with cfgApp := s.cfgApp.write w, sacnDue := true }.functionsAgain
    if table = tTiming then
      let x := s.time.sched
      s.setSched { x with running := true, num := Tm.num b, den := Tm.den b, lead := Tm.lead b, margin := Tm.margin b }
    else s

/-- A member of the cue being assembled; after the last one the cue waits for its frame. -/
def State.mirrorMember (s : State) (c : CueRec) (left : Nat) (ws : List CfgWrite) (mseq : Nat) : State :=
  let c := { c with writes := c.writes ++ ws, taken := c.taken + 1, mseq := mseq }
  if 1 < left then s.setTdm { s.tdm with cueIn := some (c, left - 1) }
  else
    let s := (s.setTdm { s.tdm with cueIn := none }).takeMemory c.writes mseq
    if s.pair = pairJoining then s
    else ({ s with cfgAcc := s.cfgAcc.writeAll c.writes, cues := s.cues ++ [c] } : State).reapTiles

/-- A mirrored `OBJ_WRITE`: its data goes to a copy under the rule of R335, or in place. -/
def State.mirrorWriteIn (s : State) (h off : Nat) (data : List Byte) (copy : Bool) (mseq : Nat) : State :=
  let idx := handleIdx h
  if !s.live h then s.diverge mseq
  else if copy then
    match s.openShadow idx with
    | none => s.diverge mseq
    | some s =>
      let s := ((s.shadowWrite idx off data).writeEnds idx off data.length true).closeShadow idx
      (s.updObj idx (fun o => { o with shadow := o.shadow.map (fun sh => { sh with mseqs := sh.mseqs ++ [mseq] }) })).sayReady mseq
  else ((s.objWrite idx off data).writeEnds idx off data.length false).sayReady mseq

/-- A mirrored `CAL_COMPILE`: one of a resynchronisation waits for no activation. -/
def State.mirrorCompileIn (s : State) (ring h mseq : Nat) : State :=
  let idx := handleIdx h
  let m := if ring = ringApplied then 0 else mseq
  if !s.live h then s.diverge mseq
  else match s.comp? idx with
    | some c => s.setComp idx { c with again := true, mseqNext := m }
    | none => ((s.startComp idx h m).postAllRoots idx).settleComp idx

/-- A whole mirrored operation is applied. -/
def State.applyMirror (s : State) (ring result : Nat) (desc data : List Byte) (mseq : Nat) : State :=
  let op := fieldAt desc 0 1
  let h := fieldAt desc 8 4
  let arg := fieldAt desc 12 4
  let off := fieldAt desc 24 8
  let param := slice desc 32 32
  match s.tdm.cueIn with
  | some (c, left) =>
    s.mirrorMember c left (if op = opSet then ((setEntries arg data).zipIdx off).map (fun x => ⟨arg, x.2, x.1, c.taken⟩) else []) mseq
  | none =>
    if op = opSet then s.mirrorEntry ring arg off data mseq
    else if op = opCreate then
      (match s.createAt result arg param with | some t => t.takeMemory [] mseq | none => s.diverge mseq)
    else if op = opWrite then
      s.mirrorWriteIn h off data (ring == ringApplied || bit (fieldAt param 0 1) 0 || s.flag F.TDM_ROLE.FORCE_SHADOW) mseq
    else if op = opDestroy then (if s.live h then s.destroyObj (handleIdx h) else s.diverge mseq)
    else if op = opCompile then s.mirrorCompileIn ring h mseq
    else if op = opCue then
      s.setTdm { s.tdm with cueIn := some (⟨0, ring, fieldAt desc 2 2, arg, 0, [], none, true, [], mseq, 0⟩, arg) }
    else s

/-- A segment of a mirrored operation. -/
def State.applySegment (s : State) (p : List Byte) : State :=
  let flags := fieldAt p 5 1
  let part := if bit flags 0 then slice p 4 1 ++ slice p 8 4 ++ p.drop 16 else s.tdm.part ++ p.drop 16
  let s := s.setTdm { s.tdm with part := part }
  if bit flags 1 then
    (s.setTdm { s.tdm with part := [] }).applyMirror (fieldAt part 0 1) (fieldAt part 1 4) (slice part 5 64) (part.drop 69) (fieldAt p 0 4)
  else s

/-- A part of an object's contents (R347 step 2): checks and sampling follow its last byte. -/
def State.applyBulk (s : State) (p : List Byte) : State :=
  let h := fieldAt p 4 4
  let off := fieldAt p 8 8
  let b := p.drop 24
  let o := s.obj? (handleIdx h)
  if !s.live h ∨ o.size < off + b.length then s
  else
    let s := s.objWrite (handleIdx h) off b
    if off + b.length = o.size then s.writeEnds (handleIdx h) 0 o.size false else s

/-- The item's own pass 1 of a frame has begun. -/
def State.passBegun (s : State) (item frame : Nat) : Bool :=
  decide (frame < s.firstUnpresented) || (match s.frame? frame with
    | some f => f.plan.any (fun i => !i.render && i.num == item && i.p1 != 0)
    | none => false)

/-- The item's own pass 2 of a frame is still to retire. -/
def State.passDue (s : State) (item frame : Nat) : Bool :=
  match s.frame? frame with
  | some f => f.waits || !f.planned || f.plan.any (fun i => !i.render && i.num == item && (i.p2 == 0 || i.p2 == 1) && i.p1 != 3)
  | none => false

/-- Streamed records of an item (R348): adopted as its previous records, unless its own next pass 1 has begun. -/
def State.applyLamp (s : State) (p : List Byte) : State :=
  let item := fieldAt p 4 4
  let frame := fieldAt p 8 8
  let off := fieldAt p 16 4
  let b := p.drop 24
  if s.passBegun item (frame + 1) then s
  else if s.passDue item frame then s.setTdm { s.tdm with adopt := s.tdm.adopt ++ [(item, frame, off, b)] }
  else s.adoptRecords s.cfgApp item off b

/-- A message that has its turn: it is counted, and applied. -/
def State.applyMsg (s : State) (type : Nat) (p : List Byte) : State :=
  let s := s.bump F.TDM_MIRROR_CNT.COUNT
  if type = tmMirror then s.applySegment p else if type = tmBulk then s.applyBulk p else s.applyLamp p

/-- Messages are applied in `MSEQ` order as far as they have come. -/
def State.pumpMsgs (s : State) : Nat → State
  | 0 => s
  | fuel + 1 =>
    match s.tdm.ahead.find? (fun e => e.1 = s.tdm.rxNext) with
    | none => s
    | some (n, type, p) =>
      let s := s.setTdm { s.tdm with ahead := s.tdm.ahead.erase n, rxNext := mseqNext n }
      let t := s.applyMsg type p
      if t.pair = pairJoining then t else t.pumpMsgs fuel

/-- A part of the package arrives at a unit in ROM (R442), which lays it down in Stage SRAM. -/
def State.romBulk (s : State) (type : Nat) (p : List Byte) : State :=
  let b := p.drop 24
  let off := fieldAt p 8 8
  if type = tmBulk ∧ fieldAt p 4 4 = 0 ∧ fieldAt p 0 4 = s.tdm.rxNext ∧ off + b.length ≤ sramBytes then
    (s.writeMem (.sram off) b).setTdm { s.tdm with rxNext := mseqNext s.tdm.rxNext }
  else s

/-- A message with a `MSEQ` arrives at an Understudy in service, or at a unit in ROM. -/
def State.downMsg (s : State) (type : Nat) (p : List Byte) : State :=
  let n := fieldAt p 0 4
  if s.romNode then s.romBulk type p
  else if !s.understudy || s.pair == pairJoining || mseqBefore n s.tdm.rxNext then s
  else
    let s := s.setTdm { s.tdm with ahead := s.tdm.ahead.put (0, []) n (type, p) }
    (s.pumpMsgs s.tdm.ahead.length).tryBegin

/-- A down message arrives on link t. -/
def State.downFrame (s : State) (t : Nat) (h : UpHdr) (f : State → State) : State :=
  let u := f (s.rxDown t h)
  if u.linkActive (tdLink t) then u.nodeCredit t else u

def State.hearsDown (s : State) (t : Nat) : Bool := s.nodeUp t && decide (lkAlign ≤ s.linkState (tdLink t))

def execMirrorReceived (t : TandemIx) (hdr : UpHdr) (payload : List Byte) (s : State) : Host.Outcome State Fault Refusal :=
  if payload.length < 16 then .fault .illFormed
  else s.done (s.when (s.hearsDown t) (s.downFrame t hdr (fun s => s.downMsg tmMirror payload)))

def execBulkReceived (t : TandemIx) (hdr : UpHdr) (payload : List Byte) (s : State) : Host.Outcome State Fault Refusal :=
  if payload.length < 24 then .fault .illFormed
  else s.done (s.when (s.hearsDown t) (s.downFrame t hdr (fun s => s.downMsg tmBulk payload)))

def execLampstateReceived (t : TandemIx) (hdr : UpHdr) (payload : List Byte) (s : State) : Host.Outcome State Fault Refusal :=
  if payload.length < 24 then .fault .illFormed
  else s.done (s.when (s.hearsDown t) (s.downFrame t hdr (fun s => s.downMsg tmLampstate payload)))

/-! ### `STATE` (R331, R337, R347) -/

/-- The unit's own objects, configuration, cues and frames are discarded. -/
def State.discardShow (s : State) : State :=
  let s := (s.frames.map (·.seq)).foldl State.dropFrame s
  let s := s.liveIdx.foldl State.destroyObj s
  let tiles := s.cmp.tiles.flatMap (fun e => match e.2 with | some t => [t.page0, t.page1] | none => [])
  let s := (s.freeUnits false tiles).freeUnits false s.fix.recPages
  { s with cfgApp := [], cfgAcc := [], cues := [], sacnDue := true
           cmp := { s.cmp with tiles := [], held := [] }
           fix := { s.fix with checks := [], comps := [], cal := [], bank := [], drive := [], outRec := [], badRec := [], recPages := [],
                               lampDue := [] } }

/-- Resynchronisation starts: the schedule is anchored at the `STATE`'s frame. -/
def State.resyncStarts (s : State) (b : List Byte) : State :=
  let s := if s.pair = pairJoining then s
    else if s.pair = pairPaired ∧ s.flag F.TDM_STATE.ADRIFT = false then (s.raise Src.tandem E.PAIR_DIVERGED []).toJoining else s.toJoining
  let s := s.discardShow
  let x := s.time.sched
  let s := s.setSched { x with running := false, anchor := stPres b, k := 1, seq := stFrame b + 1, given := stFrame b, numbered := true }
  (s.setPair pairSyncing).setTdm tdmReset

/-- What a `STATE` gives is kept. -/
def State.keepState (s : State) (b : List Byte) : State :=
  (s.setTdm { s.tdm with claim := stClaim b, prio := stPrio b, funcOff := fieldAt b 0x20 8, given := stateGiven b
                         got := FMap.put [] (s.tdm.got.filter (fun e => decide (s.firstUnpresented ≤ e.1))) (stFrame b) b })

/-- A `STATE` arrives at an Understudy. The difference of show times is as measured: an open value. -/
def State.stateArrives (s : State) (b : List Byte) : State :=
  let s := (s.setRv R.TDM_SHOW_SKEW (s.freeVal % 2 ^ 64)).freeStep
  if bit (stFlags b) 0 then (s.resyncStarts b).keepState b
  else if s.pair = pairJoining then s
  else if s.flag F.TDM_STATE.ADRIFT || s.tdm.alone.contains (stFrame b) then s.toJoining
  else
    let s := s.keepState b
    let s := if bit (stFlags b) 1 then ((s.setPair pairPaired).setFld F.TDM_STATE.DIVERGED 0).setClaim (stClaim b)
      else if s.pair = pairPaired ∧ s.fld F.TDM_CLAIM.CLAIM ≠ stClaim b then s.setClaim (stClaim b) else s
    s.tryPromote.tryBegin

def execStateReceived (t : TandemIx) (hdr : UpHdr) (payload : List Byte) (s : State) : Host.Outcome State Fault Refusal :=
  if payload.length < 808 then .fault .illFormed
  else s.done (s.when (s.hearsDown t) (s.downFrame t hdr (fun s => s.stateArrives payload)))

end Sys2Proof.Machine
end

