-- ==== Sys2Proof/Machine/RegViews.lean ====
section
/-! DEFINITION. Registers that report what richer state holds, as they are read (R8 to R12 and the register maps). -/

namespace Sys2Proof.Machine

/-- A view of an array of registers: the first one's offset, their distance and number, and the value of each. -/
structure RegView where
  base : Nat
  stride : Nat
  count : Nat
  val : Nat → Nat

/-- The register of a view at an offset. -/
def RegView.at_ (v : RegView) (off : Nat) : Option Nat :=
  if v.base ≤ off ∧ (off - v.base) % v.stride = 0 ∧ (off - v.base) / v.stride < v.count then some (v.val ((off - v.base) / v.stride)) else none

/-- A single register. -/
def one (off v : Nat) : RegView := ⟨off, 4, 1, fun _ => v⟩

/-! ### Host interface and objects -/

def State.ringStateWord (s : State) (n : Nat) : Nat :=
  let r := s.ring n
  r.fetchHead + s.heldBy n * 2 ^ 16 + b2n r.cueFetch.isSome * 2 ^ 27 + b2n r.stopped * 2 ^ 31

def State.hostViews (s : State) : List RegView :=
  [one R.GLB_PCI_VID Config.vendorId.toNat, one R.GLB_ROLLBACK s.rollbackWord, one R.GLB_UPD_STATE s.updState, one R.GLB_UPD_CHUNKS s.updChunks,
   one R.HST_STORE_FREE s.storeFree, one R.HST_STORE_HELD s.host.store.length,
   ⟨R.HST_RING_STATE 0, 0x40, 64, s.ringStateWord⟩, ⟨R.HST_RING_CQ_STATE 0, 0x40, 64, fun n => (s.ring n).cqTail + (s.ring n).cqHead * 2 ^ 16⟩,
   one R.OBJ_LIVE s.obj.objs.length, one R.OBJ_PAGES_FREE s.pagesFree, one R.OBJ_PAGES_USED s.pagesUsed,
   one R.OBJ_PAGES_RETIRED s.pagesRetired, one R.OBJ_SRAM_FREE s.sramFree]

/-! ### Time -/

def clkOf (n : Nat) : StageClk := if n = 0 then .A else .B

def State.clockStateWord (s : State) (n : Nat) : Nat :=
  let c := s.clk (clkOf n)
  b2n c.locked + c.arb * 2 + c.src * 8 + c.cause * 128

def State.refStatusWord (s : State) (r : Nat) : Nat :=
  b2n (s.refSt r).present + b2n (s.time.a.qual.contains (refCode r)) * 2 + b2n (s.time.b.qual.contains (refCode r)) * 4

/-- The presentation time of the next frame: the oldest on its way, or the schedule's next. -/
def State.nextPresent (s : State) : Nat :=
  match s.frames with
  | f :: _ => f.tPres
  | [] => (s.time.sched.instant s.time.sched.k).toNat

def State.timeViews (s : State) : List RegView :=
  [one R.TIM_HOUSE s.time.house,
   ⟨R.TIM_NOW_S 0, 0x100, 2, fun n => secOf (s.clk (clkOf n)).val⟩, ⟨R.TIM_NOW_NS 0, 0x100, 2, fun n => nsOf (s.clk (clkOf n)).val⟩,
   ⟨R.TIM_NOW_FRAC 0, 0x100, 2, fun n => fracOf (s.clk (clkOf n)).val⟩, ⟨R.TIM_STATE 0, 0x100, 2, s.clockStateWord⟩,
   one R.TIM_SHOW_NOW_S (secOf s.showNow), one R.TIM_SHOW_NOW_NS (nsOf s.showNow), one R.TIM_SHOW_NOW_FRAC (fracOf s.showNow),
   one R.TIM_SHOW_STATE (b2n s.time.show_.locked + s.time.show_.cause * 2), one R.TIM_SHOW_OFFSET (showOffset s.time.show_.d),
   ⟨R.TIM_REF_STATUS 0, 0x20, 5, s.refStatusWord⟩,
   one R.TIM_FRAME_NEXT_S (secOf s.nextPresent), one R.TIM_FRAME_NEXT_NS (nsOf s.nextPresent)]

/-! ### Call Board and Blocking Unit -/

def State.coreStateWord (s : State) (n : Nat) : Nat :=
  b2n (s.cb.waiting.contains (.sm n)) + b2n (s.cb.wdPend.contains n) * 2 + (match s.heldCall (.sm n) with
    | some r => 4 + r.resv * 8 + r.slot * 2 ^ 16
    | none => 0xFFFF * 2 ^ 16)

def State.coreCallWord (s : State) (n m : Nat) : Nat :=
  match s.heldCall (.sm n) with
  | some r => fieldAt r.word.bytes (4 * m) 4
  | none => 0

/-- `CB_ENGINE_UP`: the engines that serve (R101), and the cores whose clock runs (R409). -/
def State.engineUpWord (s : State) : Nat :=
  if s.evtUp then
    maskOf ((List.range 16).filter (fun n => s.serves (.re n))) + 2 ^ 16 * maskOf ((List.range 32).filter (fun n => s.serves (.fe n))) +
      2 ^ 48 * (if s.engineRuns .core then s.fld F.CB_ENGINE_UP.SM else 0)
  else 0

def State.callViews (s : State) : List RegView :=
  [one R.CB_SLOTS_FREE s.slotsFree, one R.CB_SLOTS_QUEUED s.slotsQueued, one R.CB_SLOTS_DISPATCHED s.slotsDispatched,
   one R.CB_SLOTS_HANDOFF s.slotsHandoff, ⟨R.CB_LIST_COUNT 0, 4, 256, fun i => s.listCount (i / 32) (i % 32)⟩,
   ⟨R.CB_SM_STATE 0, 0x100, 4, s.coreStateWord⟩, one R.CB_ENGINE_UP s.engineUpWord, one R.BLK_PARKED (maskOf s.blk.parked), one R.BLK_MIG_PENDING s.migPending] ++
  (List.range 4).map (fun n => ⟨R.CB_CALL_WORD n 0, 4, 8, s.coreCallWord n⟩)

/-! ### Engines -/

/-- A consumer runs a call. -/
def State.runs (s : State) (c : Consumer) : Bool := (s.heldCall c).any (fun r => !r.ran)

def State.reStatusWord (s : State) (n : Nat) : Nat :=
  let full := decide (7 ≤ (s.heldTiles n).length)
  b2n (s.runs (.re n)) + b2n (s.runs (.re n) && full) * 2 + (s.heldTiles n).length * 4 + b2n (s.cmp.faulted.contains n) * 32

def State.feStatusWord (s : State) (n : Nat) : Nat :=
  let kind := match s.heldCall (.fe n) with
    | some r => if r.ran then 0 else if r.word.kind = kPass1 then 1 else if r.word.kind = kPass2 then 2 else if r.word.kind = kCalCompile then 3 else 0
    | none => 0
  b2n (s.runs (.fe n)) + kind * 2 + b2n (s.cmp.faulted.contains (16 + n)) * 8

/-- A register about the current bank of the `CALSTORE` that `FIX_GAMUT_HANDLE` names; 0 for a stale handle. -/
def State.gamut (s : State) (f : CalSt → Nat → Nat) : Nat :=
  let h := s.fld F.FIX_GAMUT_HANDLE.HANDLE
  if s.live h ∧ (s.obj? (handleIdx h)).kind = kCalstore then f (s.cal (handleIdx h)) (handleIdx h) else 0

def State.gamutState (s : State) : Nat :=
  s.gamut (fun c i => b2n c.compiled + b2n (s.comp? i).isSome * 2 + b2n c.stale * 4 + b2n c.partial_ * 8 +
    b2n (c.compiled && c.s709 == 0) * 16 + b2n (c.compiled && c.s2020 == 0) * 32)

def State.tilesOf (s : State) (keep : Nat → Bool) : Nat := (s.cmp.tiles.filter (fun e => e.2.isSome && keep e.1)).length

def State.engineViews (s : State) : List RegView :=
  [one R.CMP_TILES_USED (s.tilesOf (fun _ => true)), ⟨R.CMP_CANVAS_TILES 0, 4, 64, fun c => s.tilesOf (fun n => tileCanvas n == c)⟩,
   ⟨R.CMP_RE_STATUS 0, 4, 16, s.reStatusWord⟩, ⟨R.FIX_FE_STATUS 0, 4, 32, s.feStatusWord⟩, one R.FIX_GAMUT_STATE s.gamutState,
   one R.FIX_GAMUT_709_SIGMA (s.gamut (fun c _ => c.s709)), one R.FIX_GAMUT_709_L (s.gamut (fun c _ => c.l709)),
   one R.FIX_GAMUT_2020_SIGMA (s.gamut (fun c _ => c.s2020)), one R.FIX_GAMUT_2020_L (s.gamut (fun c _ => c.l2020)),
   one R.FIX_GAMUT_INVALID (s.gamut (fun c _ => c.invalid))]

/-! ### Outputs, links, ports -/

def State.failedWord (s : State) : Nat :=
  match s.lmp.fails.get none (s.fld F.LMP_FAILED_SEL.INDEX) with
  | none => 0
  | some e => e.surface + e.lamp * 2 ^ 12 + e.emitter * 2 ^ 32 + e.result * 2 ^ 35 + b2n e.node * 2 ^ 37 + 2 ^ 38

def State.laneWord (s : State) (l dir k : Nat) : Nat := s.laneRole l dir k + s.laneMark l dir k * 4

def State.linkViews (s : State) : List RegView :=
  (List.range 3).map (fun k => ⟨R.CL_TXL_ROLE 0 k, 0x10000, 66, fun l => s.laneWord l dirDown k⟩) ++
  (List.range 2).map (fun k => ⟨R.CL_RXL_ROLE 0 k, 0x10000, 66, fun l => s.laneWord l dirUp k⟩)

def State.histViews (s : State) : List RegView :=
  (List.range 48).map (fun w => ⟨R.SPT_HIST w 0, 8, 8, fun k => (s.spt.get [] w).getD k 0⟩)

def State.outputViews (s : State) : List RegView :=
  [one R.LMP_FAILED_COUNT (s.lmp.fails.filter (·.2.isSome)).length, one R.LMP_FAILED_ENTRY s.failedWord,
   one R.MTR_DELAY (Config.mtrDelay (s.fld F.MTR_CFG.MODCLK)).toNat, one R.TDM_SYNC_LEFT s.syncLeft, ⟨R.LINE_STATE 0, 0x200, 16, s.lineStateWord⟩,
   ⟨R.NET_TS_DLY_TX 0, 0x10000, 8, fun p => (s.portDelays p).1⟩, ⟨R.NET_TS_DLY_RX 0, 0x10000, 8, fun p => (s.portDelays p).2⟩,
   ⟨R.QB_STATE 0, 0x100, 32, s.qbStateWord⟩, ⟨R.QB_FREE 0, 0x100, 32, fun q => qbWords - (s.qbSt q).words.length⟩,
   ⟨R.CHK_RESULT 0, 0x40, 16, s.chkResult⟩, ⟨R.CHK_POLY 0, 0x40, 16, s.chkPoly⟩, ⟨R.CHK_INIT 0, 0x40, 16, s.chkInitVal⟩,
   ⟨R.CHK_XOROUT 0, 0x40, 16, s.chkXor⟩,
   one R.PWR_WAKE_EN (s.rv R.PWR_WAKE_EN ||| 8), one R.GL_RTC s.time.rtc, one R.EVT_STORE_LEVEL s.evt.store.length,
   one R.PBK_WIN_DATA s.bookWord]

/-- The value of the register whose low half lies at an offset. -/
def State.regValue (s : State) (off : Nat) : Nat :=
  match (s.hostViews ++ s.timeViews ++ s.callViews ++ s.engineViews ++ s.outputViews ++ s.linkViews ++ s.histViews).findSome? (·.at_ off) with
  | some v => v
  | none => s.rv off

end Sys2Proof.Machine
end

