-- ==== Sys2Proof/Machine/RegAccess.lean ====
section
/-! DEFINITION. Register accesses (R10 to R14, R25 to R27, R353, R434): where an access goes, what a read returns, and what a
write of each register does. -/

namespace Sys2Proof.Machine

/-! ### Where an access goes (R26, R27) -/

/-- The domain that holds the register at an offset, and the source number of its block; none in a hole. -/
def blockOf (off : Nat) : Option (Domain × Nat) :=
  if off < 0x00100000 then some (.gl, Src.glb)
  else if off < 0x00180000 then some (.host, Src.rings)
  else if off < 0x00200000 then some (.core, Src.obj)
  else if off < 0x00300000 then some (.core, Src.callBoard)
  else if off < 0x00400000 then some (.core, Src.blocking)
  else if off < 0x00500000 then some (.eng 0, Src.cmp)
  else if off < 0x00600000 then some (.core, Src.psh)
  else if off < 0x00700000 then some (.eng 4, Src.fix)
  else if off < 0x00780000 then some (.core, Src.lmp)
  else if off < 0x00800000 then some (.core, Src.sig ((off - 0x00781000) / 0x40 % 16))
  else if off < 0x00900000 then some (.core, Src.clocks)
  else if off < 0x01000000 then none
  else if off < 0x01400000 then some (linkDomain ((off - 0x01000000) / 0x10000), Src.link ((off - 0x01000000) / 0x10000))
  else if off < 0x01420000 then some (.core, Src.link ((off - 0x01000000) / 0x10000))
  else if off < 0x01800000 then none
  else if off < 0x01880000 then some (.net, Src.eth ((off - 0x01800000) / 0x10000))
  else if off < 0x01C00000 then none
  else if off < 0x01D00000 then some (.core, Src.line ((off - 0x01C01000) / 0x200 % 16))
  else if off < 0x02000000 then none
  else if off < 0x02100000 then some (.mt, Src.metering)
  else if off < 0x02200000 then some (.core, Src.fly ((off - 0x02101000) / 0x100 % 32))
  else if off < 0x02300000 then some (.core, Src.qb ((off - 0x02201000) / 0x100 % 32))
  else if off < 0x02400000 then some (.core, Src.chk ((off - 0x02301000) / 0x40 % 16))
  else if off < 0x02500000 then some (.gl, Src.ghostLight)
  else if off < 0x02600000 then some (.core, Src.events)
  else if off < 0x03000000 then none
  else if off < 0x03100000 then some (.cu, Src.curtain)
  else none

/-- What becomes of an access. -/
inductive Reach where
  /-- The register is there. -/
  | live
  /-- Reads return 0, writes do nothing. -/
  | empty
  /-- As `empty`, with a `DOMAIN_OFF` event of the source (R25). -/
  | off (source : Nat)
  /-- Nobody answers. -/
  | gone
  deriving DecidableEq, Repr

/-- A `WARM` reset and boot leave `GLB`, `CUR` and the Ghost Light's own blocks in reach of nobody but `GLB` and `CUR` to the host
(R434); the firmware reaches every block as it boots (R440). -/
def bootHides (a : Agent) (d : Domain) (off : Nat) : Bool := a == .host && !(off < 0x00100000) && d != .cu

/-- Where an access of an agent ends up. In `SLEEP` and below nothing but `PWR_WAKE` answers (R411); while an entry or an exit is under way a
domain counts as unpowered from its clamps on until its restore completes, and an access then is answered at once (R25, R423). -/
def State.reach (s : State) (a : Agent) (off : Nat) : Reach :=
  if !s.powered .gl || s.boot.held then .gone
  else if psSleep ≤ s.pwr.state ∧ s.pwr.seq.isNone then (if off = R.PWR_WAKE then .live else .gone)
  else match blockOf off with
    | none => .empty
    | some (d, source) =>
      if s.inReset && bootHides a d off then .empty
      else if !s.powered d then .off source
      else if !s.time.running && d != .gl && d != .cu && d != .mt then .empty
      else if s.absent off then .empty
      else .live

/-! ### Reads (R11 to R14) -/

def State.latch (s : State) (off v : Nat) : State := { s with regShadow := s.regShadow.put none off (some (BitVec.ofNat 32 v)) }

/-- Registers that a read of another latches with it: the low words of their offsets. -/
def latchedWith (off : Nat) : List Nat :=
  if off = R.TIM_NOW_S 0 ∨ off = R.TIM_NOW_S 1 ∨ off = R.TIM_SHOW_NOW_S then [off + 8, off + 12]
  else if off = R.HST_STORE_FREE then [R.HST_STORE_HELD]
  else if off = R.OBJ_PAGES_FREE then [R.OBJ_PAGES_USED, R.OBJ_PAGES_RETIRED]
  else if off = R.CB_SLOTS_FREE then [R.CB_SLOTS_QUEUED, R.CB_SLOTS_DISPATCHED, R.CB_SLOTS_HANDOFF]
  else if off = R.FLY_BURSTS_ISSUED then [R.FLY_BURSTS_RETIRED, R.FLY_BURSTS_OPEN]
  else if CL.isHeld off then [off + 4]
  else if QB.isState off then [off + 4]
  else if FLY.isStatus off then [off + 4, off + 8]
  else []
where
  CL.isHeld (off : Nat) : Bool := decide (off % 0x10000 = 0x1C ∧ R.CL_CRED_HELD 0 ≤ off ∧ off ≤ R.CL_CRED_HELD 65)
  FLY.isStatus (off : Nat) : Bool := (List.range 32).any (fun n => off == R.FLY_STATUS n)
  QB.isState (off : Nat) : Bool := (List.range 32).any (fun n => off == R.QB_STATE n)

/-- A register is latched whole, as it would be read now: both halves of a 64-bit register. -/
def State.latchReg (s : State) (off : Nat) : State :=
  match findReg off with
  | some (r, base) =>
    let v := r.readMask (s.regValue base)
    if r.wide && base == off then (s.latch off (v % 2 ^ 32)).latch (off + 4) (v / 2 ^ 32) else s.latch off (if base = off then v else v / 2 ^ 32)
  | none => s

/-- A read of a register's low half, or of a 32-bit register: the value as it stands, the high half latched, `RC` fields cleared. -/
def State.readLow (s : State) (r : RegDef) (base : Nat) : State :=
  let v := r.readMask (s.regValue base)
  let t := (latchedWith base).foldl State.latchReg s
  let t := if r.wide then t.latch (base + 4) (v / 2 ^ 32) else t
  let t := if r.fields.any (fun f => f.access = .rc) then t.setRv base (r.afterRead (s.rv base)) else t
  t.send (.readData (v % 2 ^ 32))

/-- A read of a register word that no rule of its own governs. -/
def State.readWord (s : State) (off : Nat) : State :=
  match s.regShadow.get none off with
  | some w => ({ s with regShadow := s.regShadow.put none off none }).send (.readData w.toNat)
  | none =>
    match findReg off with
    | some (r, base) => if base = off then s.readLow r base else s.send (.readData (r.readMask (s.regValue base) / 2 ^ 32))
    | none => s.send (.readData (if 0x03000000 ≤ off ∧ off < 0x03100000 then leNat (s.curBytes off 4) else 0))

/-- An array of registers whose reads or writes have an effect of their own: the first one's offset, their distance and number, and
the effect on the n-th. -/
structure RegAct (α : Type) where
  base : Nat
  stride : Nat
  count : Nat
  act : Nat → α

/-- The effect of the register at an offset. -/
def RegAct.at_ {α : Type} (x : RegAct α) (off : Nat) : Option α :=
  if x.base ≤ off ∧ (off - x.base) % x.stride = 0 ∧ (off - x.base) / x.stride < x.count then some (x.act ((off - x.base) / x.stride)) else none

/-- Registers whose reads do more than return a value (R109, R110, R182, R297, R398). -/
def readers (a : Agent) : List (RegAct (State → State)) :=
  [⟨R.CB_STANDBY 0, 0x100, 4, fun n s => s.standbyRead n a⟩, ⟨R.CB_POST 0, 0x100, 4, fun n s => s.postRead (Fin.ofNat 4 n) a⟩,
   ⟨R.SPT_HIST 0 0, 0x80, 48, fun n s => s.readHist n⟩, ⟨R.NET_TSQ_TAG 0, 0x10000, 8, fun n s => s.tsqRead n⟩,
   ⟨R.QB_RD_TAG 0, 0x100, 32, fun n s => s.qbReadTag n⟩]

/-- A read of a register that is in reach. -/
def State.readLive (s : State) (off : Nat) (a : Agent) : State :=
  match (readers a).findSome? (·.at_ off) with
  | some f => f s
  | none => s.readWord off

/-- An access to a block whose domain is not powered is told (R25). While CORE takes no events the Ghost Light keeps it (R419). -/
def State.domainOff (s : State) (source : Nat) : State :=
  if s.evtUp then s.raise source E.DOMAIN_OFF [] else s.deferGhost ⟨s.time.house, source, E.DOMAIN_OFF, false, [], 0⟩

/-- A read of the register space. -/
def State.regRead (s : State) (off : Nat) (a : Agent) : State :=
  if off % 4 ≠ 0 then s.send .unsupported
  else match s.reach a off with
    | .live => s.readLive off a
    | .empty => s.send (.readData 0)
    | .off source => (s.send (.readData 0)).domainOff source
    | .gone => s

def execRegReadLowHalf (offset : Fin 134217728) (agent : Agent) (s : State) : Host.Outcome State Fault Refusal :=
  s.done (s.regRead offset agent)

def execRcCounterRead (offset : Fin 134217728) (agent : Agent) (s : State) : Host.Outcome State Fault Refusal :=
  s.done (s.regRead offset agent)

/-- An access that is not an aligned 32-bit one (R10). -/
def execRegAccessUnsupported (offset : Fin 134217728) (size : Nat) (_write : Bool) (s : State) : Host.Outcome State Fault Refusal :=
  if size = 4 ∧ offset.val % 4 = 0 then .fault .illFormed else s.done (s.send .unsupported)

/-! ### Writes (R7, R11, R12, R14) -/

/-- What a write of `v` by a source does to the register at `off`. -/
abbrev WriteAct := State → Nat → Nat → Nat → State

/-- The fields by their codes, and then an effect. -/
def thenDo (f : State → Nat → State) : WriteAct := fun s off v src => f (s.writeReg off v src) v

/-- The fields by their codes, and then an effect where a bit is written 1. -/
def onBit (k : Nat) (f : State → State) : WriteAct := thenDo (fun s v => if bit v k then f s else s)

/-- The value of a register field if `v` is written to it and the field's old value is to be kept. -/
def State.keepField (s : State) (f : Fld) (v : Nat) : Nat := setBits v f.lsb f.width (s.fld f)

/-- `GLB_RESET` (R433). -/
def State.writeGlbReset (s : State) (v source : Nat) : State :=
  let kind := bits v 9 3
  let index := bits v 12 6
  let s := if bit v 8 then s.blockReset kind index source else if blockTargets kind ≤ index then s.reservedEncoding source else s
  if bit v 0 && s.coreRuns then s.warmCommand 0 else s

/-- `TIM_x_CTRL` (R72, R73, R76, R77). -/
def State.writeTimCtrl (s : State) (n off v source : Nat) : State :=
  let x := clkOf n
  let s := (s.writeReg off (s.keepField (F.TIM_CTRL.PTP_OK n) v) source).ptpOk x (bit v 2)
  let s := if bit v 0 then s.stageStep x else s
  if bit v 1 then s.stageUnlockNow x else s

/-- `CB_CTRL` (R105): `HOLD` is taken as 1 in `TEST` only; what the new `STEAL` and `HOLD` let go is dispatched. -/
def State.writeCbCtrl (s : State) (off v source : Nat) : State :=
  let v := if s.fld F.CB_MODE.MODE = modeTest then v else s.keepField F.CB_CTRL.HOLD v
  (s.writeReg off v source).dispatchAll

/-- `TIM_SHOW_CTRL` (R83, R84). -/
def State.writeShowCtrl (s : State) (off v source : Nat) : State :=
  let s := (s.writeReg off (s.keepField F.TIM_SHOW_CTRL.SEL v) source).selWrite (clkOf (bits v 0 1))
  if bit v 8 then s.showUnlockNow else s

/-- `CL_n_CTRL` (R257). -/
def State.writeLinkCtrl (s : State) (l off v source : Nat) : State :=
  let idle := s.linkState l == lkDisabled
  let s := s.writeReg off (s.keepField (F.CL_CTRL.EN l) v) source
  let s := if bit v 0 then s.linkEnable l
    else if idle then s.setFld (F.CL_CTRL.EN l) 0 else (s.setFld (F.CL_CTRL.EN l) 0).toDisabled l downDisable
  if bit v 2 && decide (lkClock ≤ s.linkState l) then (s.leaveActive l downRetrain).toClock l else s

/-- `TDM_ROLE` (R331, R342): promotion comes first, and the role written is then judged in the new state (R17). -/
def State.writeRole (s : State) (off v source : Nat) : State :=
  let s := s.writeReg off v source
  let now := s.fld F.TDM_ROLE.ROLE
  let s := if bit v 5 && s.understudy && s.pair == pairPaired && s.fld F.TDM_ROLE.PROMOTE == 2 then s.promote else s.tryPromote
  if bits v 0 2 ≠ now then s
  else if now = rolePrincipal then s.becomePrincipal
  else if now = roleUnderstudy then s.becomeUnderstudy
  else if s.role = roleAlone then s else s.becomeAlone

/-- `NET_p_CFG` (R286): a change of `MODE` resets the port. -/
def State.writeNetCfg (s : State) (p off v source : Nat) : State :=
  ({ s.writeReg off (s.keepField (F.NET_CFG.MODE p) v) source with sacnDue := true }).netMode p (bits v 0 3) source

/-- `NET_p_SACN_CTRL` (R302, R339): while `PAIRED`, `PRIORITY` 1 and 199 are refused. -/
def State.writeSacnCtrl (s : State) (p off v source : Nat) : State :=
  let prio := bits v 2 8
  let v := if s.pair = pairPaired ∧ (prio = 1 ∨ prio = 199) then s.keepField (F.NET_SACN_CTRL.PRIORITY p) v else v
  { s.writeReg off v source with sacnDue := true }

/-- `MTR_CFG` (R324). -/
def State.writeMtrCfg (s : State) (off v source : Nat) : State :=
  let was := s.flag F.MTR_CFG.EN
  if bit v 0 && !was then ((s.writeReg off v source).setFld F.MTR_CFG.EN 0).mtrEnable
  else if !bit v 0 && was then s.frontStops.writeReg off v source
  else s.writeReg off v source

/-- `FLY_n_CTRL` (R382, R391). -/
def State.writeFlyCtrl (s : State) (n v : Nat) : State :=
  let s := if bit v 0 then s.flyStartReg n else s
  if bit v 1 then s.flyStop n 1 else s

/-- `CHK_c_CTRL` (R405, R408). -/
def State.writeChkCtrl (s : State) (c v : Nat) : State :=
  let s := if bit v 0 then s.chkInit c else s
  if bit v 1 then s.aliveReset c else s

/-- A write of `CHK_c_ALIVE_CFG`: an `INC` outside 1 to 2^w − 1 is rejected, for the width w that the write leaves (R7, R408). -/
def State.aliveIncKept (s : State) (c v : Nat) : Nat :=
  let inc := bits v 14 8
  if inc = 0 ∨ (bit v 1 = false ∧ 15 < inc) then s.keepField (F.CHK_ALIVE_CFG.INC c) v else v

/-- The Dark period is longer than what a sample takes (R425): 76 ms and the sample itself. -/
def darkFits (period sample : Nat) : Bool := decide (sample * 10 + 76 < period * 10)

/-- `FIX_FEED_GAIN[f]` (R213): it takes effect with the next frame. -/
def State.writeGain (s : State) (f v : Nat) : State :=
  if Check.gain32.ok 32 v then { s with fix := { s.fix with gainWr := s.fix.gainWr.put 0 f v } } else s

/-- `PWR_AVS` (R409, R416): a new voltage of the present state is asked for. -/
def State.writeAvs (s : State) (off v source : Nat) : State :=
  let f := if s.pwr.state == psIdle then F.PWR_AVS.IDLE_MV else F.PWR_AVS.RUN_MV
  let t := s.writeReg off v source
  if t.fld f ≠ s.fld f ∧ (s.pwr.state = psRun ∨ s.pwr.state = psIdle) then t.coreVolts (t.fld f) else t

/-- Settings that the sACN packetiser reads: admission is computed anew. -/
def sacnSetting : WriteAct := fun s off v src => { s.writeReg off v src with sacnDue := true }

/-- `OBJ_APT_HANDLE` or `OBJ_APT_BASE` (R59, R335): a changed value lets a miss, and a changed handle an unmirrored write, be told anew. -/
def State.writeAperture (s : State) (off v source : Nat) : State :=
  let t := s.writeReg off v source
  if t.rv off = s.rv off then t
  else { t with host := { t.host with aptTold := false, unmirroredTold := t.host.unmirroredTold && off != R.OBJ_APT_HANDLE } }

/-- A write of a lane's generator or `USER` pattern in `DISABLED`: the lane carries it (R283). -/
def State.laneWrite (s : State) (l off v src : Nat) : State :=
  let t := s.writeReg off v src
  if t.linkState l = lkDisabled then t.showLanes l else t

/-- Registers whose writes do more than set fields. -/
def writers : List (RegAct WriteAct) :=
  [⟨R.GLB_RESET, 4, 1, fun _ s _ v src => s.writeGlbReset v src⟩,
   ⟨R.GLB_UPD_CTRL, 4, 1, fun _ => onBit 0 State.cancel⟩,
   ⟨R.GLB_LOAD_GO, 4, 1, fun _ => onBit 0 (fun s => if s.booting && s.boot.window && s.boot.pkg == 0 then s.loadGo else s)⟩,
   ⟨R.HST_NUDGE, 4, 1, fun _ => onBit 0 State.nudge⟩,
   ⟨R.HST_RING_CFG 0, 0x40, 64, fun n s _ v src => s.ringCfg n v src⟩,
   ⟨R.HST_RING_CTRL 0, 0x40, 64, fun n s _ v _ => if bit v 31 then s.restart n (bits v 0 16) else s⟩,
   ⟨R.OBJ_APT_HANDLE, 4, 1, fun _ s off v src => s.writeAperture off v src⟩, ⟨R.OBJ_APT_BASE, 8, 1, fun _ s off v src => s.writeAperture off v src⟩,
   ⟨R.TIM_RATE 0, 0x100, 2, fun n s _ v _ => s.rateWrite (clkOf n) (v % 2 ^ 23)⟩,
   ⟨R.TIM_PRIO 0, 0x100, 2, fun n s _ v src => s.prioWrite (clkOf n) v src⟩,
   ⟨R.TIM_CTRL 0, 0x100, 2, fun n s off v src => s.writeTimCtrl n off v src⟩,
   ⟨R.TIM_SHOW_CTRL, 4, 1, fun _ s off v src => s.writeShowCtrl off v src⟩,
   ⟨R.TIM_CUEIO_CFG 0, 4, 16, fun n s off v src => s.writeCueIo n off v src⟩,
   ⟨R.TIM_REF_CFG 0, 0x20, 5, fun r s off v src =>
     let t := s.writeReg off v src
     if s.flag (F.TIM_REF_CFG.EN r) && !bit v 0 then t.loseRef r else t⟩] ++
  [⟨R.CB_MODE, 4, 1, fun _ s _ v _ => s.setMode (bits v 0 2)⟩,
   ⟨R.CB_CTRL, 4, 1, fun _ s off v src => s.writeCbCtrl off v src⟩,
   ⟨R.CB_WITHDRAW 0, 0x100, 4, fun n => onBit 0 (fun s => s.withdraw n)⟩,
   ⟨R.BLK_HEALTH_RE, 4, 3, fun n s _ v _ => s.healthWrite n v⟩,
   ⟨R.PSH_FORGET, 4, 1, fun _ s _ v _ => if bit v 31 then s.updPush (bits v 0 6) (fun x => { x with forget := true }) else s⟩,
   ⟨R.FIX_FEED_GAIN 0, 4, 96, fun n s _ v _ => s.writeGain n v⟩,
   ⟨R.LMP_CTRL, 4, 1, fun _ s off v src => (s.writeReg off v src).functionsAgain⟩,
   ⟨R.LMP_FUNC_OFF, 8, 1, fun _ s _ v _ => s.clearFuncs v⟩,
   ⟨R.LMP_FAILED_CLEAR, 4, 1, fun _ s _ v _ => if bit v 31 then s.clearEntry (bits v 0 10) else s⟩,
   ⟨R.SIG_CLEAR 0, 0x40, 16, fun n s _ v _ => s.clearPositions n (bits v 0 16)⟩,
   ⟨R.SIG_CFG 0, 0x40, 16, fun n s off v src =>
     let t := s.writeReg off v src
     if s.flag (F.SIG_CFG.ENABLE n) && !bit v 0 && !bit (s.fld F.CUR_SEL_SIG.SIG) n then t.sigClosed n else t⟩,
   ⟨R.SIG_THRESH 0, 0x40, 16, fun _ s off v src => if bits v 0 10 ≤ bits v 16 10 then s else s.writeReg off v src⟩,
   ⟨R.CL_CTRL 0, 0x10000, 66, fun l s off v src => s.writeLinkCtrl l off v src⟩,
   ⟨R.CL_CFG_CMD 0, 0x10000, 64, fun l s off v src =>
     let t := s.writeReg off v src
     if bit v 31 && !t.flag (F.CL_CFG_STATUS.BUSY l) then t.mailboxGo l else t⟩,
   ⟨R.CL_CAL_CTRL 0, 0x10000, 66, fun l => onBit 31 (fun s => s.linkCalibration l)⟩] ++
  (List.range 3).map (fun k => ⟨R.CL_TXL_ROLE 0 k, 0x10000, 66, fun l => onBit 31 (fun s => s.restoreLane l dirDown k)⟩) ++
  (List.range 2).map (fun k => ⟨R.CL_RXL_ROLE 0 k, 0x10000, 66, fun l => onBit 31 (fun s => s.restoreLane l dirUp k)⟩) ++
  (List.range 3).map (fun k => ⟨R.CL_TXL_INJ 0 k, 0x10000, 66, fun l => onBit 0 (fun s => s.injectSingle l k)⟩) ++
  (List.range 3).flatMap (fun k => [⟨R.CL_TXL_GEN 0 k, 0x10000, 66, fun l s off v src => s.laneWrite l off v src⟩,
    ⟨R.CL_TXL_USER 0 k, 0x10000, 66, fun l s off v src => s.laneWrite l off v src⟩]) ++
  [⟨R.PWR_AVS, 4, 1, fun _ s off v src => s.writeAvs off v src⟩, ⟨R.TDM_ROLE, 4, 1, fun _ s off v src => s.writeRole off v src⟩,
   ⟨R.TDM_CLAIM, 4, 1, fun _ s _ v _ => s.claimWrite (bits v 0 16)⟩,
   ⟨R.NET_CFG 0, 0x10000, 8, fun p s off v src => s.writeNetCfg p off v src⟩,
   ⟨R.NET_PAUSE 0, 0x10000, 8, fun p => onBit 31 (fun s => s.pauseRearm p)⟩,
   ⟨R.NET_SACN_CTRL 0, 0x10000, 8, fun p s off v src => s.writeSacnCtrl p off v src⟩,
   ⟨R.NET_SACN_RANGE 0, 0x10000, 8, fun _ => sacnSetting⟩, ⟨R.NET_SACN_SYNC 0, 0x10000, 8, fun _ => sacnSetting⟩,
   ⟨R.NET_SACN_LEAD 0, 0x10000, 8, fun _ => sacnSetting⟩, ⟨R.NET_SACN_ADV 0, 0x10000, 8, fun _ => sacnSetting⟩,
   ⟨R.NET_SACN_CID 0, 4, 4, fun _ => sacnSetting⟩, ⟨R.NET_SACN_NAME 0, 4, 16, fun _ => sacnSetting⟩] ++
  (List.range 8).map (fun q => ⟨R.NET_TXQ_PTR 0 q, 0x10000, 8, fun p s _ v _ => s.ringTail p true q (bits v 0 8)⟩) ++
  (List.range 8).map (fun q => ⟨R.NET_RXQ_PTR 0 q, 0x10000, 8, fun p s _ v _ => s.ringTail p false q (bits v 0 8)⟩) ++
  (List.range 8).map (fun q => ⟨R.NET_TXQ_BASE 0 q, 0x10000, 8, fun p s off v src => (s.writeReg off v src).fillTx p⟩) ++
  [⟨R.LINE_CFG 0, 0x200, 16, fun n s off v src => (s.writeReg off v src).lineCfg n⟩, ⟨R.LINE_RDM_CTRL 0, 0x200, 16, fun n => onBit 31 (fun s => s.rdmGo n)⟩,
   ⟨R.MTR_CFG, 4, 1, fun _ s off v src => s.writeMtrCfg off v src⟩,
   ⟨R.FLY_CTRL 0, 0x100, 32, fun n s _ v _ => s.writeFlyCtrl n v⟩,
   ⟨R.QB_DATA8 0, 0x100, 32, fun q s _ v _ => s.qbWrite q (leBytes 1 v) false⟩,
   ⟨R.QB_DATA16 0, 0x100, 32, fun q s _ v _ => s.qbWrite q (leBytes 2 v) false⟩,
   ⟨R.QB_DATA32 0, 0x100, 32, fun q s _ v _ => s.qbWrite q (leBytes 4 v) false⟩,
   ⟨R.QB_LAST8 0, 0x100, 32, fun q s _ v _ => s.qbWrite q (leBytes 1 v) true⟩,
   ⟨R.QB_LAST16 0, 0x100, 32, fun q s _ v _ => s.qbWrite q (leBytes 2 v) true⟩,
   ⟨R.QB_LAST32 0, 0x100, 32, fun q s _ v _ => s.qbWrite q (leBytes 4 v) true⟩,
   ⟨R.QB_FLUSH 0, 0x100, 32, fun q => onBit 0 (fun s => s.qbFlush q)⟩,
   ⟨R.CHK_CFG 0, 0x40, 16, fun c s _ v src => s.chkCfg c v src⟩,
   ⟨R.CHK_DATA8 0, 0x40, 16, fun c s _ v _ => s.chkData c (leBytes 1 v)⟩,
   ⟨R.CHK_DATA16 0, 0x40, 16, fun c s _ v _ => s.chkData c (leBytes 2 v)⟩,
   ⟨R.CHK_DATA32 0, 0x40, 16, fun c s _ v _ => s.chkData c (leBytes 4 v)⟩,
   ⟨R.CHK_CTRL 0, 0x40, 16, fun c s _ v _ => s.writeChkCtrl c v⟩,
   ⟨R.CHK_ALIVE_CFG 0, 0x40, 16, fun c s off v src =>
     let t := s.writeReg off (s.aliveIncKept c v) src
     if !s.flag (F.CHK_ALIVE_CFG.EN c) && bit v 0 then t.aliveReset c else t⟩,
   ⟨R.PWR_WAKE, 4, 1, fun _ s _ v _ => if bit v 0 && (s.pwr.state == psIdle || s.pwr.state == psSleep) then s.wake wkHost else s⟩,
   ⟨R.GL_DARK_PERIOD, 4, 1, fun _ s off v src => if darkFits (bits v 0 16) (s.fld F.GL_DARK_SAMPLE.MS) then s.writeReg off v src else s⟩,
   ⟨R.GL_DARK_SAMPLE, 4, 1, fun _ s off v src => if darkFits (s.fld F.GL_DARK_PERIOD.MS) (bits v 0 16) then s.writeReg off v src else s⟩]

/-- A write of all the bits of the register at an offset. -/
def State.writeWhole (s : State) (off v source : Nat) : State :=
  match writers.findSome? (·.at_ off) with
  | some f => f s off v source
  | none => s.writeReg off v source

/-- A write of a word that is in reach: the low half of a 64-bit register waits for the high half (R11). -/
def State.writeLive (s : State) (off v source : Nat) : State :=
  match findReg off with
  | none => s
  | some (r, base) =>
    if !r.wide then s.writeWhole base v source
    else if base = off then { s with regLow := s.regLow.put none base (some (BitVec.ofNat 32 v)) }
    else
      let low := match s.regLow.get none base with | some w => w.toNat | none => s.rv base % 2 ^ 32
      ({ s with regLow := s.regLow.put none base none }).writeWhole base (v * 2 ^ 32 + low) source

/-- A write to the register space. -/
def State.regWrite (s : State) (off v : Nat) (a : Agent) : State :=
  if off % 4 ≠ 0 then s.send .unsupported
  else match s.reach a off with
    | .live => if 0x03000000 ≤ off ∧ off < 0x03100000 then s.curRefuse (off - 0x03000000) (agentSource a) else s.writeLive off v (agentSource a)
    | .empty => s
    | .off source => s.domainOff source
    | .gone => s

def execRegisterWrite (offset : Fin 134217728) (value : Word) (agent : Agent) (s : State) : Host.Outcome State Fault Refusal :=
  s.done (s.regWrite offset value.toNat agent)

end Sys2Proof.Machine
end

