-- ==== Sys2Proof/Machine/Dispatch.lean ====
section
/-! DEFINITION. The meaning of every command: one arm per row of the command table. -/

namespace Sys2Proof.Machine

def exec (i : Instr) (s : State) : Host.Outcome State Fault Refusal :=
  match i with
  | .regAccessUnsupported offset size write => Sys2Proof.Machine.execRegAccessUnsupported offset size write s
  | .regReadLowHalf offset agent => Sys2Proof.Machine.execRegReadLowHalf offset agent s
  | .rcCounterRead offset agent => Sys2Proof.Machine.execRcCounterRead offset agent s
  | .registerWrite offset value agent => Sys2Proof.Machine.execRegisterWrite offset value agent s
  | .pllUnlock => Sys2Proof.Machine.execPllUnlock s
  | .pllLockReturn => Sys2Proof.Machine.execPllLockReturn s
  | .doorbellPoll => Sys2Proof.Machine.execDoorbellPoll s
  | .hstNudge => Sys2Proof.Machine.execHstNudge s
  | .doorbellVectorArrival data => Sys2Proof.Machine.execDoorbellVectorArrival data s
  | .descriptorFetch ring => Sys2Proof.Machine.execDescriptorFetch ring s
  | .descriptorArrival ring data => Sys2Proof.Machine.execDescriptorArrival ring data s
  | .nop ring => Sys2Proof.Machine.execNop ring s
  | .objCreate ring => Sys2Proof.Machine.execObjCreate ring s
  | .objWrite ring => Sys2Proof.Machine.execObjWrite ring s
  | .objRead ring => Sys2Proof.Machine.execObjRead ring s
  | .objDestroy ring => Sys2Proof.Machine.execObjDestroy ring s
  | .objPin ring => Sys2Proof.Machine.execObjPin ring s
  | .cue ring => Sys2Proof.Machine.execCue ring s
  | .set ring => Sys2Proof.Machine.execSet ring s
  | .call ring => Sys2Proof.Machine.execCall ring s
  | .calCompile ring => Sys2Proof.Machine.execCalCompile ring s
  | .move ring => Sys2Proof.Machine.execMove ring s
  | .reportPlacement ring => Sys2Proof.Machine.execReportPlacement ring s
  | .reportLedgers ring => Sys2Proof.Machine.execReportLedgers ring s
  | .reportPromptBook ring => Sys2Proof.Machine.execReportPromptBook ring s
  | .reportObjectTable ring => Sys2Proof.Machine.execReportObjectTable ring s
  | .powerState ring => Sys2Proof.Machine.execPowerState ring s
  | .updateChunk ring => Sys2Proof.Machine.execUpdateChunk ring s
  | .acknowledge ring => Sys2Proof.Machine.execAcknowledge ring s
  | .completionWrite ring => Sys2Proof.Machine.execCompletionWrite ring s
  | .headVectorWrite ring => Sys2Proof.Machine.execHeadVectorWrite ring s
  | .msixMessage vector => Sys2Proof.Machine.execMsixMessage vector s
  | .ringRestart ring head => Sys2Proof.Machine.execRingRestart ring head s
  | .ringCfgWrite ring cls enable irq sizeLog2 cqSizeLog2 vec => Sys2Proof.Machine.execRingCfgWrite ring cls enable irq sizeLog2 cqSizeLog2 vec s
  | .hostReset => Sys2Proof.Machine.execHostReset s
  | .flr => Sys2Proof.Machine.execFlr s
  | .apertureAccess offset op => Sys2Proof.Machine.execApertureAccess offset op s
  | .debugWindowAccess offset op => Sys2Proof.Machine.execDebugWindowAccess offset op s
  | .patrolScrub cw => Sys2Proof.Machine.execPatrolScrub cw s
  | .stageCtrlStep x => Sys2Proof.Machine.execStageCtrlStep x s
  | .stageCtrlUnlock x => Sys2Proof.Machine.execStageCtrlUnlock x s
  | .timRateWrite x rate => Sys2Proof.Machine.execTimRateWrite x rate s
  | .timPrioWrite x p0 p1 p2 p3 => Sys2Proof.Machine.execTimPrioWrite x p0 p1 p2 p3 s
  | .refEdge r => Sys2Proof.Machine.execRefEdge r s
  | .refQualify r x => Sys2Proof.Machine.execRefQualify r x s
  | .refEdgeMissing r => Sys2Proof.Machine.execRefEdgeMissing r s
  | .servoWdExpiry x => Sys2Proof.Machine.execServoWdExpiry x s
  | .holdMaxExpiry x => Sys2Proof.Machine.execHoldMaxExpiry x s
  | .ltcFrame f => Sys2Proof.Machine.execLtcFrame f s
  | .ltcOutFrame => Sys2Proof.Machine.execLtcOutFrame s
  | .showSelWrite sel => Sys2Proof.Machine.execShowSelWrite sel s
  | .showCtrlUnlock => Sys2Proof.Machine.execShowCtrlUnlock s
  | .showSlewUpdate => Sys2Proof.Machine.execShowSlewUpdate s
  | .triggerFire slot => Sys2Proof.Machine.execTriggerFire slot s
  | .cueIoEdge pin level => Sys2Proof.Machine.execCueIoEdge pin level s
  | .cueDeadline => Sys2Proof.Machine.execCueDeadline s
  | .sendDeadline => Sys2Proof.Machine.execSendDeadline s
  | .presentation => Sys2Proof.Machine.execPresentation s
  | .cbPost p word => Sys2Proof.Machine.execCbPost p word s
  | .cbStalledPostAccept p => Sys2Proof.Machine.execCbStalledPostAccept p s
  | .cbStall p => Sys2Proof.Machine.execCbStall p s
  | .cbChildPost e word => Sys2Proof.Machine.execCbChildPost e word s
  | .cbStandby e cost => Sys2Proof.Machine.execCbStandby e cost s
  | .cbModeWrite mode => Sys2Proof.Machine.execCbModeWrite mode s
  | .cbStandbyRead port agent => Sys2Proof.Machine.execCbStandbyRead port agent s
  | .cbWithdraw n => Sys2Proof.Machine.execCbWithdraw n s
  | .cbPostRead port agent => Sys2Proof.Machine.execCbPostRead port agent s
  | .frameStart => Sys2Proof.Machine.execFrameStart s
  | .sequencerPost => Sys2Proof.Machine.execSequencerPost s
  | .pageMoveComplete => Sys2Proof.Machine.execPageMoveComplete s
  | .blkHealthWrite which mask => Sys2Proof.Machine.execBlkHealthWrite which mask s
  | .blkHangExpiry e => Sys2Proof.Machine.execBlkHangExpiry e s
  | .engineFault e => Sys2Proof.Machine.execEngineFault e s
  | .clusterPark k => Sys2Proof.Machine.execClusterPark k s
  | .clusterRestore k => Sys2Proof.Machine.execClusterRestore k s
  | .renderTile n => Sys2Proof.Machine.execRenderTile n s
  | .tileWriteback n => Sys2Proof.Machine.execTileWriteback n s
  | .fixturePass1 n => Sys2Proof.Machine.execFixturePass1 n s
  | .fixturePass2 n => Sys2Proof.Machine.execFixturePass2 n s
  | .calCompileCall n => Sys2Proof.Machine.execCalCompileCall n s
  | .calCompileRoots => Sys2Proof.Machine.execCalCompileRoots s
  | .pushPassBegin link => Sys2Proof.Machine.execPushPassBegin link s
  | .unitWalk link => Sys2Proof.Machine.execUnitWalk link s
  | .regionSend link => Sys2Proof.Machine.execRegionSend link s
  | .ackReceived link hdr node kind stored id hash => Sys2Proof.Machine.execAckReceived link hdr node kind stored id hash s
  | .ackWaitTimeout link => Sys2Proof.Machine.execAckWaitTimeout link s
  | .goSend link => Sys2Proof.Machine.execGoSend link s
  | .pshForget link => Sys2Proof.Machine.execPshForget link s
  | .sptHistRead w => Sys2Proof.Machine.execSptHistRead w s
  | .sigFrameStart port sense => Sys2Proof.Machine.execSigFrameStart port sense s
  | .sigSlot port sense => Sys2Proof.Machine.execSigSlot port sense s
  | .lmpFuncOffClear mask => Sys2Proof.Machine.execLmpFuncOffClear mask s
  | .lmpFailedClear index => Sys2Proof.Machine.execLmpFailedClear index s
  | .sigClear port mask => Sys2Proof.Machine.execSigClear port mask s
  | .faultReceived link hdr node surface lamp emitter result => Sys2Proof.Machine.execFaultReceived link hdr node surface lamp emitter result s
  | .linkEnable link => Sys2Proof.Machine.execLinkEnable link s
  | .linkDisable link => Sys2Proof.Machine.execLinkDisable link s
  | .linkRetrain link => Sys2Proof.Machine.execLinkRetrain link s
  | .linkProbe link found => Sys2Proof.Machine.execLinkProbe link found s
  | .linkClockLocked found => Sys2Proof.Machine.execLinkClockLocked found s
  | .linkBlockLock lock => Sys2Proof.Machine.execLinkBlockLock lock s
  | .linkAlignClean link => Sys2Proof.Machine.execLinkAlignClean link s
  | .trainTimeLimit link => Sys2Proof.Machine.execTrainTimeLimit link s
  | .linkPartnerLost link => Sys2Proof.Machine.execLinkPartnerLost link s
  | .blockLockLoss rx => Sys2Proof.Machine.execBlockLockLoss rx s
  | .echoSend link => Sys2Proof.Machine.execEchoSend link s
  | .echoReply link hdr tag turn rtt => Sys2Proof.Machine.execEchoReply link hdr tag turn rtt s
  | .cfgMailboxGo link => Sys2Proof.Machine.execCfgMailboxGo link s
  | .cfgResponse link hdr tag result words => Sys2Proof.Machine.execCfgResponse link hdr tag result words s
  | .cfgTimeout link => Sys2Proof.Machine.execCfgTimeout link s
  | .timeSend link => Sys2Proof.Machine.execTimeSend link s
  | .creditReceived link hdr seen => Sys2Proof.Machine.execCreditReceived link hdr seen s
  | .creditTimeout link => Sys2Proof.Machine.execCreditTimeout link s
  | .statusReceived link hdr node flags temp extra => Sys2Proof.Machine.execStatusReceived link hdr node flags temp extra s
  | .linkRxBadFrame rx => Sys2Proof.Machine.execLinkRxBadFrame rx s
  | .calTempTrigger link temp => Sys2Proof.Machine.execCalTempTrigger link temp s
  | .calCtrlGo link => Sys2Proof.Machine.execCalCtrlGo link s
  | .calErrRateTrigger link found => Sys2Proof.Machine.execCalErrRateTrigger link found s
  | .upMirrorQualified link => Sys2Proof.Machine.execUpMirrorQualified link s
  | .upLaneSwitch switch => Sys2Proof.Machine.execUpLaneSwitch switch s
  | .calRunDone link run => Sys2Proof.Machine.execCalRunDone link run s
  | .downRotationStep link => Sys2Proof.Machine.execDownRotationStep link s
  | .upLaneFail link => Sys2Proof.Machine.execUpLaneFail link s
  | .laneRestore link tx lane => Sys2Proof.Machine.execLaneRestore link tx lane s
  | .laneInjectSingle link lane => Sys2Proof.Machine.execLaneInjectSingle link lane s
  | .checkerLocked link found => Sys2Proof.Machine.execCheckerLocked link found s
  | .checkerLostLock link found => Sys2Proof.Machine.execCheckerLostLock link found s
  | .netModeWrite port mode => Sys2Proof.Machine.execNetModeWrite port mode s
  | .ethRxFrame port frame fcsOk => Sys2Proof.Machine.execEthRxFrame port frame fcsOk s
  | .pauseFrameRx port quanta => Sys2Proof.Machine.execPauseFrameRx port quanta s
  | .pauseWdExpiry port => Sys2Proof.Machine.execPauseWdExpiry port s
  | .netPauseRearm port => Sys2Proof.Machine.execNetPauseRearm port s
  | .ethTxPost port tx q tail => Sys2Proof.Machine.execEthTxPost port tx q tail s
  | .ethTxFrameDepart port => Sys2Proof.Machine.execEthTxFrameDepart port s
  | .tsqRead port => Sys2Proof.Machine.execTsqRead port s
  | .ethLinkDown port => Sys2Proof.Machine.execEthLinkDown port s
  | .sacnSendInstant port => Sys2Proof.Machine.execSacnSendInstant port s
  | .sacnSyncSend port => Sys2Proof.Machine.execSacnSyncSend port s
  | .sacnDiscovery port => Sys2Proof.Machine.execSacnDiscovery port s
  | .dmxPacketStart port => Sys2Proof.Machine.execDmxPacketStart port s
  | .rdmGo port => Sys2Proof.Machine.execRdmGo port s
  | .rdmTransactionStart port => Sys2Proof.Machine.execRdmTransactionStart port s
  | .rdmResponse port bytes framingError => Sys2Proof.Machine.execRdmResponse port bytes framingError s
  | .rdmTimeout port => Sys2Proof.Machine.execRdmTimeout port s
  | .mtrSample current voltage => Sys2Proof.Machine.execMtrSample current voltage s
  | .mtrInputFault input => Sys2Proof.Machine.execMtrInputFault input s
  | .mtrInputFaultClear input => Sys2Proof.Machine.execMtrInputFaultClear input s
  | .pulseOutputTimer k => Sys2Proof.Machine.execPulseOutputTimer k s
  | .periodicSave readBackOk => Sys2Proof.Machine.execPeriodicSave readBackOk s
  | .mtrSaveRetry readBackOk => Sys2Proof.Machine.execMtrSaveRetry readBackOk s
  | .pfwFall => Sys2Proof.Machine.execPfwFall s
  | .powerfailRecordDone => Sys2Proof.Machine.execPowerfailRecordDone s
  | .pfwResume => Sys2Proof.Machine.execPfwResume s
  | .mtrEnable => Sys2Proof.Machine.execMtrEnable s
  | .meterFramePower => Sys2Proof.Machine.execMeterFramePower s
  | .rolePrincipal => Sys2Proof.Machine.execRolePrincipal s
  | .roleUnderstudy => Sys2Proof.Machine.execRoleUnderstudy s
  | .roleAlone => Sys2Proof.Machine.execRoleAlone s
  | .promoteNow => Sys2Proof.Machine.execPromoteNow s
  | .tdmClaimWrite claim => Sys2Proof.Machine.execTdmClaimWrite claim s
  | .helloReceived t hdr phase rev fw nextMseq lastFrame => Sys2Proof.Machine.execHelloReceived t hdr phase rev fw nextMseq lastFrame s
  | .helloSend t => Sys2Proof.Machine.execHelloSend t s
  | .tandemResend => Sys2Proof.Machine.execTandemResend s
  | .tandemLost => Sys2Proof.Machine.execTandemLost s
  | .stateReceived t hdr payload => Sys2Proof.Machine.execStateReceived t hdr payload s
  | .mirrorReceived t hdr payload => Sys2Proof.Machine.execMirrorReceived t hdr payload s
  | .bulkReceived t hdr payload => Sys2Proof.Machine.execBulkReceived t hdr payload s
  | .lampstateReceived t hdr payload => Sys2Proof.Machine.execLampstateReceived t hdr payload s
  | .readyReceived t hdr mseq => Sys2Proof.Machine.execReadyReceived t hdr mseq s
  | .digestReceived t hdr frame digest flags => Sys2Proof.Machine.execDigestReceived t hdr frame digest flags s
  | .tdmWaitExpiry => Sys2Proof.Machine.execTdmWaitExpiry s
  | .curAlarmDebounce k level => Sys2Proof.Machine.execCurAlarmDebounce k level s
  | .curDropNFall => Sys2Proof.Machine.execCurDropNFall s
  | .curDropNRise => Sys2Proof.Machine.execCurDropNRise s
  | .curReleaseTimer => Sys2Proof.Machine.execCurReleaseTimer s
  | .curTestExpiry => Sys2Proof.Machine.execCurTestExpiry s
  | .curFaultDetect c => Sys2Proof.Machine.execCurFaultDetect c s
  | .curWatchdogExpiry => Sys2Proof.Machine.execCurWatchdogExpiry s
  | .curBootComplete imageOk selftestOk version params => Sys2Proof.Machine.execCurBootComplete imageOk selftestOk version params s
  | .curOkToggle => Sys2Proof.Machine.execCurOkToggle s
  | .curSweep link => Sys2Proof.Machine.execCurSweep link s
  | .curEcho link => Sys2Proof.Machine.execCurEcho link s
  | .curSacnPacket port => Sys2Proof.Machine.execCurSacnPacket port s
  | .curLinePacket port => Sys2Proof.Machine.execCurLinePacket port s
  | .curPatchCompare => Sys2Proof.Machine.execCurPatchCompare s
  | .curSramScrub corrected bad => Sys2Proof.Machine.execCurSramScrub corrected bad s
  | .curWriteRefused offset source => Sys2Proof.Machine.execCurWriteRefused offset source s
  | .spiStatus m => Sys2Proof.Machine.execSpiStatus m s
  | .spiRead m length => Sys2Proof.Machine.execSpiRead m length s
  | .spiWrite m => Sys2Proof.Machine.execSpiWrite m s
  | .spiCommit m => Sys2Proof.Machine.execSpiCommit m s
  | .spiDiscard m => Sys2Proof.Machine.execSpiDiscard m s
  | .spiDrop m => Sys2Proof.Machine.execSpiDrop m s
  | .spiRelease m => Sys2Proof.Machine.execSpiRelease m s
  | .spiTestStart m => Sys2Proof.Machine.execSpiTestStart m s
  | .spiTestEnd m => Sys2Proof.Machine.execSpiTestEnd m s
  | .curSpiSilent => Sys2Proof.Machine.execCurSpiSilent s
  | .flyStart n => Sys2Proof.Machine.execFlyStart n s
  | .flyAbort n => Sys2Proof.Machine.execFlyAbort n s
  | .flyBurstIssue n host => Sys2Proof.Machine.execFlyBurstIssue n host s
  | .flyBurstRetire n => Sys2Proof.Machine.execFlyBurstRetire n s
  | .qbWriteData q bytes => Sys2Proof.Machine.execQbWriteData q bytes s
  | .qbWriteLast q bytes => Sys2Proof.Machine.execQbWriteLast q bytes s
  | .qbFlush q => Sys2Proof.Machine.execQbFlush q s
  | .qbRdTagRead q => Sys2Proof.Machine.execQbRdTagRead q s
  | .qbRdStallExpiry q => Sys2Proof.Machine.execQbRdStallExpiry q s
  | .qbProducerWrite q item => Sys2Proof.Machine.execQbProducerWrite q item s
  | .chkCfgWrite c value => Sys2Proof.Machine.execChkCfgWrite c value s
  | .chkDataWrite c bytes => Sys2Proof.Machine.execChkDataWrite c bytes s
  | .chkInit c => Sys2Proof.Machine.execChkInit c s
  | .chkAliveReset c => Sys2Proof.Machine.execChkAliveReset c s
  | .powerEntryStep readBackOk slotsFailed => Sys2Proof.Machine.execPowerEntryStep readBackOk slotsFailed s
  | .powerExitStep banks => Sys2Proof.Machine.execPowerExitStep banks s
  | .regulatorAckTimeout status => Sys2Proof.Machine.execRegulatorAckTimeout status s
  | .wakeIn => Sys2Proof.Machine.execWakeIn s
  | .pwrWakeGo => Sys2Proof.Machine.execPwrWakeGo s
  | .rtcWake => Sys2Proof.Machine.execRtcWake s
  | .pmbAlert => Sys2Proof.Machine.execPmbAlert s
  | .darkWindowOpen => Sys2Proof.Machine.execDarkWindowOpen s
  | .darkSampleEnd temp => Sys2Proof.Machine.execDarkSampleEnd temp s
  | .glAlarmWatch input active => Sys2Proof.Machine.execGlAlarmWatch input active s
  | .glSramScrub found => Sys2Proof.Machine.execGlSramScrub found s
  | .powerOn => Sys2Proof.Machine.execPowerOn s
  | .vddIo18Loss => Sys2Proof.Machine.execVddIo18Loss s
  | .rstNLow => Sys2Proof.Machine.execRstNLow s
  | .coldRelease bootSel => Sys2Proof.Machine.execColdRelease bootSel s
  | .bootPackageVerified tagOk signatureOk => Sys2Proof.Machine.execBootPackageVerified tagOk signatureOk s
  | .bootReady degraded sections settingsLost => Sys2Proof.Machine.execBootReady degraded sections settingsLost s
  | .hostLoadGo => Sys2Proof.Machine.execHostLoadGo s
  | .tandemBootPackage => Sys2Proof.Machine.execTandemBootPackage s
  | .tandemBootTimeout => Sys2Proof.Machine.execTandemBootTimeout s
  | .pcieConfigRequest write offset value => Sys2Proof.Machine.execPcieConfigRequest write offset value s
  | .glbResetWarm slotsFailed => Sys2Proof.Machine.execGlbResetWarm slotsFailed s
  | .glbResetBlock kind index => Sys2Proof.Machine.execGlbResetBlock kind index s
  | .smWatchdogExpiry => Sys2Proof.Machine.execSmWatchdogExpiry s
  | .glbWdKick => Sys2Proof.Machine.execGlbWdKick s
  | .updateCancel => Sys2Proof.Machine.execUpdateCancel s
  | .wingsInstall readBackOk => Sys2Proof.Machine.execWingsInstall readBackOk s
  | .eventRelease => Sys2Proof.Machine.execEventRelease s
  | .eventDeliver => Sys2Proof.Machine.execEventDeliver s
  | .ledgerCheck => Sys2Proof.Machine.execLedgerCheck s
  | .pbkPeriodicWrite slotsFailed => Sys2Proof.Machine.execPbkPeriodicWrite slotsFailed s
  | .pbkSecondTick temps => Sys2Proof.Machine.execPbkSecondTick temps s
  | .pbkHourTick => Sys2Proof.Machine.execPbkHourTick s
  | .ptpOkWrite x ok => Sys2Proof.Machine.execPtpOkWrite x ok s
  | .msixVectorUnmask vector => Sys2Proof.Machine.execMsixVectorUnmask vector s
  | .hostReadCompletion ring data => Sys2Proof.Machine.execHostReadCompletion ring data s
  | .wingsChunkProgrammed => Sys2Proof.Machine.execWingsChunkProgrammed s
  | .pauseTimerExpiry port => Sys2Proof.Machine.execPauseTimerExpiry port s
  | .ethLinkUp port => Sys2Proof.Machine.execEthLinkUp port s
  | .rdmNoResponseEnd port => Sys2Proof.Machine.execRdmNoResponseEnd port s
  | .tandemMessageSend t => Sys2Proof.Machine.execTandemMessageSend t s
  | .tandemNodeRequest t hdr echo payload => Sys2Proof.Machine.execTandemNodeRequest t hdr echo payload s
  | .tandemNodeBlockLock t gained => Sys2Proof.Machine.execTandemNodeBlockLock t gained s
  | .vddGlLoss => Sys2Proof.Machine.execVddGlLoss s
  | .powerUpStep => Sys2Proof.Machine.execPowerUpStep s

end Sys2Proof.Machine
end

