-- ==== Sys2Proof/Safety.lean ====
section
/-! DEFINITION. What a safe run is, in the terms the statements use. -/

namespace Sys2Proof.Machine

/-- The clocks that no register write sets stand within their widths (R22, R68): the house clock and the real-time clock in 64 bits,
the fraction of a real-time count below one count. -/
def State.clocksInRange (s : State) : Prop :=
  s.time.house < 2 ^ 64 ∧ s.time.rtc < 2 ^ 64 ∧ s.time.rtcFrac < hclkPerSecond

/-- HBM, Stage SRAM, Curtain SRAM, the boot flash and the FRAM are in canonical form: addresses rise strictly, and no address is
listed with what it reads as unlisted. -/
def Memory.wf (s : State) : Bool :=
  FMap.wf (fun _ => (0 : Byte)) s.mem.hbm && FMap.wf (fun _ => (0 : Byte)) s.mem.sram && FMap.wf curDefault s.cur.sram &&
    FMap.wf (fun _ => flashBlank) s.boot.flash && FMap.wf (fun _ => (0 : Byte)) s.mtr.fram

/-- Every waiting command is well-formed: such a queue never stops the machine. -/
def State.queueWf (s : State) : Bool := s.pending.all (fun c => c.wf)

/-- A source can hold one more event (R454). -/
def State.hasRoom (s : State) (source : Nat) : Bool := decide ((s.evt.raised.filter (·.source = source)).length < 8)

/-- From `s` to `t` a source raises exactly one event: it stands behind those raised before, with the house clock of now and the count of
events its source dropped before it (R454). -/
abbrev Raises (s t : State) (source code : Nat) (args : List Nat) : Prop :=
  t.evt.raised = s.evt.raised ++ [⟨s.time.house, source, code, false, args.map (· % 2 ^ 32), s.evt.srcLost.get 0 source⟩]

/-- From `s` to `t` the Ghost Light keeps exactly one more event, with the real-time clock of now (R419, R498). -/
abbrev Defers (s t : State) (source code : Nat) (args : List Nat) : Prop :=
  t.evt.glQueue = s.evt.glQueue ++ [(⟨s.time.house, source, code, false, args.map (· % 2 ^ 32), 0⟩, s.time.rtc)]

/-- Among the events raised in `t` is one with this source, code and arguments, stamped with the house clock of `s`. -/
abbrev HasEvent (s t : State) (source code : Nat) (args : List Nat) : Prop :=
  (t.evt.raised.any (fun e => e.house == s.time.house && e.source == source && e.code == code && e.args == args.map (· % 2 ^ 32))) = true

/-- In `t` the descriptor `e` has finished with a status and a result: its store entry waits for its completion, or has left the store
where none is to be written (R37, R39). -/
abbrev Finished (t : State) (e : StoreEntry) (status result : Nat) : Prop :=
  (t.entry? e.id).map (fun x => (x.phase, x.status, x.result)) =
    if e.orphan = true ∨ (e.nocompl = true ∧ status = St.ok) then none else some (.finished, status, result % 2 ^ 32)

/-- The next descriptor of a ring is `e`, its opcode is `op`, and it passes every check made as it begins (R44). -/
abbrev State.canRun (s : State) (ring : Nat) (e : StoreEntry) (op : Nat) : Prop :=
  s.hostUp = true ∧ s.nextToBegin ring = some e ∧ s.entry? e.id = some e ∧ e.opcode = op ∧ s.refusedNow op = false ∧ s.beginStatus e = 0

/-- From `s` to `t` a counter has advanced by `n`, wrapping at its width (R7). -/
abbrev Counts (s t : State) (f : Fld) (n : Nat) : Prop := t.fld f = (s.fld f + n) % 2 ^ f.width

/-- The slot number that the next accepted post takes (R117). -/
abbrev State.callSlot (s : State) : Nat := s.pickFree s.slotUsed 8192

/-- A call with this word stands in the ready lists, or has been dispatched, under a slot number, a list and its unused reservations. -/
def State.hasCall (s : State) (slot : Nat) (w : CallWord) (list resv : Nat) : Bool :=
  (s.cb.queue ++ s.cb.held.map (·.2)).any (fun r => decide (r.slot = slot ∧ r.word = w ∧ r.list = list ∧ r.resv = resv))

/-- From `s` to `t` the Call Board accepts a word from a source, with a parent: it is counted, and stands in its list or has been
dispatched (R104, R106, R107). -/
abbrev Posted (s t : State) (source parent : Nat) (w : CallWord) (resv : Nat) : Prop :=
  t.fld F.CB_POST_CNT.COUNT = (s.fld F.CB_POST_CNT.COUNT + 1) % 2 ^ 64 ∧
  t.hasCall s.callSlot { w with producer := source, parent := parent } (s.placeGroup w.cls w.group) resv = true

/-- The Curtain accepts an SPI message: it is in service, the check value holds, `ALIVE` is the first or the next one, and the length is
one that a message can have (R375). -/
abbrev State.spiAccepts (s : State) (m : SpiMsg) (len : Nat) : Prop :=
  s.powered .cu = true ∧ curServes s.curMode = true ∧ m.crcOk = true ∧
    (s.cur.alive = none ∨ s.cur.alive.map (fun p => (p + 1) % 256) = some m.alive.toNat) ∧ spiLength len = true

/-- From `s` to `t` an accepted message is counted and its `ALIVE` taken; the response to the message before has gone out, and the next
one gives this type, result and data (R375). -/
abbrev SpiTaken (s t : State) (m : SpiMsg) (type result : Nat) (data : List Byte) : Prop :=
  Counts s t F.CUR_SPI_OK_CNT.COUNT 1 ∧ t.cur.alive = some m.alive.toNat ∧ t.cur.ownAlive = (s.cur.ownAlive + 1) % 256 ∧
    (s.cur.resp = [] ∨ Sent.spi s.cur.resp ∈ t.sent) ∧ t.cur.resp = t.spiResponse type result data

/-- An answer that lets the machine go on. -/
def Answers (o : Host.Outcome State Fault Refusal) (p : State → Prop) : Prop := ∃ t, o = .next t ∧ p t

end Sys2Proof.Machine

namespace Sys2Proof

/-! ### Groups of commands, as the frame statements name them -/

/-- Clocks, references and time inputs: see R68 to R87. -/
def Instr.ofClocks : Instr → Bool
  | .timRateWrite _ _ | .timPrioWrite _ _ _ _ _ | .refEdge _ | .refQualify _ _ | .refEdgeMissing _ | .servoWdExpiry _
  | .holdMaxExpiry _ | .ltcFrame _ | .ltcOutFrame | .cueIoEdge _ _ | .showSlewUpdate | .stageCtrlUnlock _ | .ptpOkWrite _ _ => true
  | _ => false

/-- Check units (R403 to R408). -/
def Instr.ofChecks : Instr → Bool
  | .chkCfgWrite _ _ | .chkDataWrite _ _ | .chkInit _ | .chkAliveReset _ => true
  | _ => false

/-- Queue blocks (R394 to R402). -/
def Instr.ofQueueBlocks : Instr → Bool
  | .qbWriteData _ _ | .qbWriteLast _ _ | .qbFlush _ | .qbRdTagRead _ | .qbRdStallExpiry _ | .qbProducerWrite _ _ => true
  | _ => false

/-- Line ports (R305 to R308). -/
def Instr.ofLines : Instr → Bool
  | .dmxPacketStart _ | .rdmGo _ | .rdmTransactionStart _ | .rdmResponse _ _ _ | .rdmTimeout _ | .rdmNoResponseEnd _ => true
  | _ => false

/-- Ethernet ports and sACN (R286 to R304). -/
def Instr.ofNet : Instr → Bool
  | .netModeWrite _ _ | .ethRxFrame _ _ _ | .pauseFrameRx _ _ | .pauseWdExpiry _ | .netPauseRearm _ | .ethTxPost _ _ _ _
  | .ethTxFrameDepart _ | .tsqRead _ | .ethLinkDown _ | .ethLinkUp _ | .pauseTimerExpiry _ | .sacnSendInstant _ | .sacnSyncSend _
  | .sacnDiscovery _ => true
  | _ => false

/-- Signal-string ports and failed elements (R222 to R234). -/
def Instr.ofStrings : Instr → Bool
  | .sigFrameStart _ _ | .sigSlot _ _ | .lmpFuncOffClear _ | .lmpFailedClear _ | .sigClear _ _ => true
  | _ => false

/-- Metering (R309 to R328). -/
def Instr.ofMetering : Instr → Bool
  | .mtrSample _ _ | .mtrInputFault _ | .mtrInputFaultClear _ | .pulseOutputTimer _ | .periodicSave _ | .mtrSaveRetry _
  | .powerfailRecordDone | .pfwResume | .mtrEnable => true
  | _ => false

/-- Wake sources and the Ghost Light (R419 to R427). -/
def Instr.ofWaking : Instr → Bool
  | .wakeIn | .pwrWakeGo | .rtcWake | .pmbAlert | .darkWindowOpen | .regulatorAckTimeout _ | .glSramScrub _ => true
  | _ => false

/-- Training, lanes and calibration of links (R257 to R285). -/
def Instr.ofLanes : Instr → Bool
  | .linkEnable _ | .linkClockLocked _ | .linkBlockLock _ | .linkAlignClean _ | .linkProbe _ _ | .trainTimeLimit _
  | .calTempTrigger _ _ | .calCtrlGo _ | .calErrRateTrigger _ _ | .upMirrorQualified _ | .upLaneSwitch _ | .calRunDone _ _
  | .downRotationStep _ | .upLaneFail _ | .laneRestore _ _ _ | .laneInjectSingle _ _ | .checkerLocked _ _ | .checkerLostLock _ _
  | .linkRxBadFrame _ | .echoSend _ | .timeSend _ | .cfgMailboxGo _ | .cfgTimeout _ => true
  | _ => false

/-- Roles and claims (R330 to R346). -/
def Instr.ofRoles : Instr → Bool
  | .rolePrincipal | .roleUnderstudy | .roleAlone | .promoteNow | .tdmClaimWrite _ | .tandemLost => true
  | _ => false

/-- The Safety Curtain (R352 to R380). -/
def Instr.ofCurtain : Instr → Bool
  | .curAlarmDebounce _ _ | .curDropNFall | .curDropNRise | .curReleaseTimer | .curTestExpiry | .curFaultDetect _
  | .curWatchdogExpiry | .curBootComplete _ _ _ _ | .curOkToggle | .curSweep _ | .curEcho _ | .curSacnPacket _ | .curLinePacket _
  | .curPatchCompare | .curSramScrub _ _ | .curWriteRefused _ _ | .spiStatus _ | .spiRead _ _ | .spiWrite _ | .spiCommit _
  | .spiDiscard _ | .spiDrop _ | .spiRelease _ | .spiTestStart _ | .spiTestEnd _ | .curSpiSilent => true
  | _ => false

/-- Host rings, completions and messages (R31 to R53). -/
def Instr.ofRings : Instr → Bool
  | .doorbellPoll | .hstNudge | .doorbellVectorArrival _ | .descriptorFetch _ | .descriptorArrival _ _ | .completionWrite _
  | .headVectorWrite _ | .msixMessage _ | .ringRestart _ _ | .ringCfgWrite _ _ _ _ _ _ _ | .msixVectorUnmask _ => true
  | _ => false

/-- Reports and other management descriptors (R39, R410, R447, R457). -/
def Instr.ofReports : Instr → Bool
  | .reportPlacement _ | .reportLedgers _ | .reportPromptBook _ | .reportObjectTable _ | .acknowledge _ | .updateChunk _
  | .powerState _ => true
  | _ => false

/-- Boot and field updates (R437 to R450). -/
def Instr.ofBoot : Instr → Bool
  | .coldRelease _ | .bootPackageVerified _ _ | .hostLoadGo | .tandemBootPackage | .tandemBootTimeout | .updateCancel
  | .wingsInstall _ | .wingsChunkProgrammed | .glbWdKick | .pcieConfigRequest _ _ _ => true
  | _ => false

/-- Events, ledgers and the Prompt Book (R451 to R466). -/
def Instr.ofBook : Instr → Bool
  | .eventRelease | .eventDeliver | .ledgerCheck | .pbkPeriodicWrite _ | .pbkSecondTick _ | .pbkHourTick => true
  | _ => false

/-- Commands that store into a memory by one of its own operations. -/
def Instr.storesPlainly : Instr → Bool
  | .periodicSave _ | .mtrSaveRetry _ | .powerfailRecordDone | .pbkPeriodicWrite _ | .wingsChunkProgrammed | .wingsInstall _
  | .updateCancel | .debugWindowAccess _ _ | .patrolScrub _ | .ethRxFrame _ _ _ | .tileWriteback _ | .curSramScrub _ _ => true
  | _ => false

/-- Commands that may set a clock: supplies, `RST_N` and the exit from a power state. -/
def Instr.mayReset : Instr → Bool
  | .powerExitStep _ | .rstNLow | .vddGlLoss | .powerOn => true
  | _ => false

end Sys2Proof

namespace Sys2Proof.Machine

/-- The counters that raising an event may advance, in the event unit, the Curtain and the Ghost Light. -/
def eventCounters : List Nat := [R.EVT_SRC_LOST_CNT, R.CUR_EVT_LOST_CNT, R.GL_EVT_LOST_CNT]

end Sys2Proof.Machine
end

