-- ==== Sys2Proof/Certificates/Slice0/Obligations.lean ====
section
/-! DEFINITION. The statements for the provers. In a statement of a family of commands each clause names, in the comment above it, the
command and the case it is about, gives conditions on the state and the operands alone, and concludes that the command answers a next
state with what the clause says of it. -/

open Sys2Proof Sys2Proof.Machine

/-- For every state and every command c at the front of the queue, a step is exec of c on that state with the rest of the queue. With an
empty queue a step is one HCLK cycle of the model (assumption 9, the model's choice). (spec/01_frame_journey.md) -/
def Obligations.Step_runs_the_front : Prop :=
  (∀ (s : State) (c : Instr) (rest : List Instr), s.pending = c :: rest → step s = exec c { s with pending := rest }) ∧
  (∀ s : State, s.pending = [] → step s = .next s.tick)

/-- Right after reset GLB_ID reads 0x4B586400 and GLB_REV 0xA1; the house clock is 0; Stage clocks A and B are 0, unlocked, with rate 0;
CORE is held in reset, the Curtain is in BOOT, the role is ALONE with claim 0, dispatch is in PREP, all 66 links are DISABLED, all 32
Fly channels are IDLE and no ring is enabled. The values for which the chapters give no reset are the model's (assumption 1). (spec/00_scope.md (R8); spec/03_show_time.md; spec/10_cheane_link.md (register tables); spec/14_understudy.md (register tables); spec/15_safety_curtain.md; spec/16_fly_queues_check.md (register tables)) -/
def Obligations.Reset_state : Prop :=
  (State.reset.fld F.GLB_ID.ID = 0x4B586400 ∧ State.reset.fld F.GLB_REV.REV = 0xA1) ∧
  (State.reset.time.house = 0 ∧ (∀ x : StageClk, (State.reset.clk x).val = 0 ∧ (State.reset.clk x).locked = false ∧ State.reset.rate x = 0)) ∧
  (State.reset.inReset = true ∧ State.reset.curMode = cmBoot ∧ State.reset.role = roleAlone ∧ State.reset.fld F.TDM_CLAIM.CLAIM = 0 ∧
      State.reset.fld F.CB_MODE.MODE = modePrep ∧ (∀ n : Fin 66, State.reset.linkState n = lkDisabled) ∧
      (∀ n : Fin 32, State.reset.fld (F.FLY_STATUS.STATE n) = fsIdle) ∧ (∀ n : Fin 64, State.reset.fld (F.HST_RING_CFG.ENABLE n) = 0)
      )

/-- The state right after reset has its clocks in range, every memory in canonical form, no waiting command and so only well-formed ones.
The canonical form is the model's own (the docstring of Memory.wf). (spec/01_frame_journey.md (R22); spec/03_show_time.md (R68)) -/
def Obligations.Reset_is_in_form : Prop :=
  (State.reset.clocksInRange ∧ Memory.wf State.reset = true ∧ State.reset.queueWf = true ∧ State.reset.pending = []
      )

/-- From every state, reached or not, in which the house clock and the real-time clock stand in 64 bits and the fraction of a real-time
count below one count, a step that answers a next state leaves them so. This covers every command and the step on an empty queue. (spec/01_frame_journey.md (R22); spec/03_show_time.md (R68); spec/17_power_dark.md (R424)) -/
def Obligations.Clocks_stay_in_range : Prop :=
  (∀ s t : State, s.clocksInRange → step s = .next t → t.clocksInRange
      )

/-- For every command and every state: if the command passes the well-formedness checks, exec answers a next state; if it fails them, exec
answers the fault illFormed. The checks are the model's own (assumption 158). (spec/00_scope.md) -/
def Obligations.Well_formed_commands_answer : Prop :=
  (∀ (c : Instr) (s : State), c.wf = true → ∃ t, exec c s = .next t) ∧
  (∀ (c : Instr) (s : State), c.wf = false → exec c s = .fault .illFormed
      )

/-- Whatever command exec runs, the commands that wait behind it are unchanged in the next state. Every command other than PowerExitStep,
RstNLow, VddGlLoss and PowerOn leaves the house clock, the real-time clock and its fraction unchanged: time passes only in steps on an
empty queue (assumption 9, the model's choice). (spec/01_frame_journey.md (R22); spec/03_show_time.md (R68); spec/18_reset_boot_update.md (R433)) -/
def Obligations.Only_resets_set_the_clocks : Prop :=
  (∀ (c : Instr) (s t : State), exec c s = .next t → t.pending = s.pending) ∧
  (∀ (c : Instr) (s t : State), c.mayReset = false → exec c s = .next t →
      t.time.house = s.time.house ∧ t.time.rtc = s.time.rtc ∧ t.time.rtcFrac = s.time.rtcFrac
      )

/-- For every field whose bits lie within 64: after a write the field reads the value written modulo its width; every field of another
register or at bits that do not overlap reads as before; every other register is unchanged. (spec/00_scope.md (R10, R11)) -/
def Obligations.Fields_are_separate : Prop :=
  (∀ (s : State) (f : Fld) (v : Nat), f.lsb + f.width ≤ 64 → (s.setFld f v).fld f = v % 2 ^ f.width) ∧
  (∀ (s : State) (f g : Fld) (v : Nat), f.lsb + f.width ≤ 64 →
      g.reg ≠ f.reg ∨ g.lsb + g.width ≤ f.lsb ∨ f.lsb + f.width ≤ g.lsb → (s.setFld f v).fld g = s.fld g) ∧
  (∀ (s : State) (f : Fld) (v off : Nat), off ≠ f.reg → (s.setFld f v).rv off = s.rv off
      )

/-- While the event unit works: raising an event from a source that holds fewer than eight places it behind those raised before, stamped
with the house clock, with the losses its source had, and those are cleared; from a source that holds eight the event is dropped, the
loss counter advances and the source's losses grow by one. Raising an event, in every state, never brings a source that holds at most
eight above eight. (spec/19_prompt_book.md (R454)) -/
def Obligations.Sources_hold_eight_events : Prop :=
  (∀ (s : State) (source code : Nat) (args : List Nat), s.evtUp = true → s.hasRoom source = true →
      Raises s (s.raise source code args) source code args ∧ (s.raise source code args).evt.srcLost.get 0 source = 0) ∧
  (∀ (s : State) (source code : Nat) (args : List Nat), s.evtUp = true → s.hasRoom source = false →
      (s.raise source code args).evt.raised = s.evt.raised ∧ Counts s (s.raise source code args) F.EVT_SRC_LOST_CNT.COUNT 1 ∧
      (s.raise source code args).evt.srcLost.get 0 source = s.evt.srcLost.get 0 source + 1) ∧
  (∀ (s : State) (source code src : Nat) (args : List Nat),
      (s.evt.raised.filter (·.source = src)).length ≤ 8 → ((s.raise source code args).evt.raised.filter (·.source = src)).length ≤ 8
      )

/-- For the commands PeriodicSave, MtrSaveRetry, PowerfailRecordDone, PbkPeriodicWrite, WingsChunkProgrammed, WingsInstall, UpdateCancel,
DebugWindowAccess, PatrolScrub, EthRxFrame, TileWriteback and CurSramScrub: from a state whose memories are in canonical form, the next
state's memories are too. The form is the model's own. (spec/02_host_rings_objects.md; spec/13_metering.md; spec/18_reset_boot_update.md; spec/12_network_line.md) -/
def Obligations.Memory_keeps_its_form : Prop :=
  (∀ (c : Instr) (s t : State), c.storesPlainly = true → Memory.wf s = true → exec c s = .next t → Memory.wf t = true
      )

/-- Frames of register-only commands. Clock, reference and time-input commands (Instr.ofClocks) change only registers, events, the time
unit's state and what is sent; the house and real-time clocks stay, and every register outside the time block but the event loss
counters. Check unit commands (Instr.ofChecks) change only registers and events, and no register outside their block but those counters.
Queue block commands (Instr.ofQueueBlocks) change only registers, the queue blocks, what is sent and the counter of free values, and no
register outside their block. Memory is unchanged by all of them. (spec/03_show_time.md; spec/16_fly_queues_check.md) -/
def Obligations.Frames_of_time_and_checks : Prop :=
  (∀ (c : Instr) (s t : State), c.ofClocks = true → exec c s = .next t →
      t = { s with regs := t.regs, evt := t.evt, time := t.time, sent := t.sent } ∧ t.time.house = s.time.house ∧ t.time.rtc = s.time.rtc ∧
      (∀ off, ¬ (0x800000 ≤ off ∧ off < 0x900000) → off ∉ eventCounters → t.rv off = s.rv off)) ∧
  (∀ (c : Instr) (s t : State), c.ofChecks = true → exec c s = .next t →
      t = { s with regs := t.regs, evt := t.evt } ∧
      (∀ off, ¬ (0x2300000 ≤ off ∧ off < 0x2400000) → off ∉ eventCounters → t.rv off = s.rv off)) ∧
  (∀ (c : Instr) (s t : State), c.ofQueueBlocks = true → exec c s = .next t →
      t = { s with regs := t.regs, qb := t.qb, sent := t.sent, freeCtr := t.freeCtr } ∧
      (∀ off, ¬ (0x2200000 ≤ off ∧ off < 0x2300000) → t.rv off = s.rv off)
      )

/-- Line port commands change only registers, events, line ports, queue blocks and what is sent. Ethernet and sACN commands change only
registers, events, the ports' state, memory (and of that not HBM), the Prompt Book's error counts, a due mark for sACN, what is sent and
the counter of free values. Signal-string commands change only registers, events, the ports, failed elements, links, the Curtain (and of
that not its SRAM) and what is sent. (spec/12_network_line.md; spec/09_lamp_drive.md) -/
def Obligations.Frames_of_ports : Prop :=
  (∀ (c : Instr) (s t : State), c.ofLines = true → exec c s = .next t →
      t = { s with regs := t.regs, evt := t.evt, line := t.line, qb := t.qb, sent := t.sent }) ∧
  (∀ (c : Instr) (s t : State), c.ofNet = true → exec c s = .next t →
      t = { s with regs := t.regs, evt := t.evt, net := t.net, mem := t.mem, pbk := t.pbk, sacnDue := t.sacnDue, sent := t.sent, freeCtr := t.freeCtr } ∧ t.mem.hbm = s.mem.hbm) ∧
  (∀ (c : Instr) (s t : State), c.ofStrings = true → exec c s = .next t →
      t = { s with regs := t.regs, evt := t.evt, sig := t.sig, lmp := t.lmp, links := t.links, cur := t.cur, sent := t.sent } ∧ t.cur.sram = s.cur.sram
      )

/-- Metering commands change only registers, events, the metering unit, the Prompt Book, the power unit, what is sent and the counter of
free values. Wake source and Ghost Light commands change only registers, events, the host interface, metering (and of that not the
FRAM), the Prompt Book, the power unit, which domains are off, what is sent and the counter of free values. HBM and Stage SRAM are
unchanged by all of them. (spec/13_metering.md; spec/17_power_dark.md) -/
def Obligations.Frames_of_metering_and_power : Prop :=
  (∀ (c : Instr) (s t : State), c.ofMetering = true → exec c s = .next t →
      t = { s with regs := t.regs, evt := t.evt, mtr := t.mtr, pbk := t.pbk, pwr := t.pwr, sent := t.sent, freeCtr := t.freeCtr }) ∧
  (∀ (c : Instr) (s t : State), c.ofWaking = true → exec c s = .next t →
      t = { s with regs := t.regs, evt := t.evt, host := t.host, mtr := t.mtr, pbk := t.pbk, pwr := t.pwr, off := t.off, sent := t.sent, freeCtr := t.freeCtr } ∧ t.mtr.fram = s.mtr.fram
      )

/-- Training, lane, calibration and configuration commands of a link (Instr.ofLanes) change only registers, events, links, push state, the
Prompt Book, what is sent and the counter of free values. Role and claim commands (Instr.ofRoles) change only registers, events, line
ports, the tandem unit's state and what is sent. Memory is unchanged by all of them. (spec/10_cheane_link.md; spec/11_swing_calibration.md; spec/14_understudy.md) -/
def Obligations.Frames_of_links : Prop :=
  (∀ (c : Instr) (s t : State), c.ofLanes = true → exec c s = .next t →
      t = { s with regs := t.regs, evt := t.evt, links := t.links, psh := t.psh, pbk := t.pbk, sent := t.sent, freeCtr := t.freeCtr }) ∧
  (∀ (c : Instr) (s t : State), c.ofRoles = true → exec c s = .next t →
      t = { s with regs := t.regs, evt := t.evt, line := t.line, tdm := t.tdm, sent := t.sent }
      )

/-- Every command of the Safety Curtain (Instr.ofCurtain) changes only registers, events, the Curtain's own state, frames and frames over
whose calls still run, links, line and Ethernet ports, the Prompt Book, push state, the power unit, queue blocks, what is sent and the
counter of free values. HBM, Stage SRAM, objects, cues, host rings, clocks, calls, Fly channels, boot and metering are unchanged. (spec/15_safety_curtain.md) -/
def Obligations.Frames_of_the_Curtain : Prop :=
  (∀ (c : Instr) (s t : State), c.ofCurtain = true → exec c s = .next t →
      t = { s with regs := t.regs, evt := t.evt, cur := t.cur, frames := t.frames, gone := t.gone, links := t.links, line := t.line, net := t.net, pbk := t.pbk, psh := t.psh, pwr := t.pwr, qb := t.qb, sent := t.sent, freeCtr := t.freeCtr }
      )

/-- Ring, completion and message commands (Instr.ofRings) change only registers, events, the host interface and what is sent. Reports and
the management descriptors of Instr.ofReports change only registers, the host interface, the power unit, the tandem unit and what is
sent. Boot and update commands (Instr.ofBoot) change only registers, events, the host interface, boot state and what is sent. Event,
ledger and Prompt Book commands (Instr.ofBook) change only registers, events, the host interface, boot state (the flash), the Prompt
Book, what is sent and the counter of free values. HBM and Stage SRAM are unchanged by all of them. (spec/02_host_rings_objects.md; spec/18_reset_boot_update.md; spec/19_prompt_book.md) -/
def Obligations.Frames_of_host_and_boot : Prop :=
  (∀ (c : Instr) (s t : State), c.ofRings = true → exec c s = .next t →
      t = { s with regs := t.regs, evt := t.evt, host := t.host, sent := t.sent }) ∧
  (∀ (c : Instr) (s t : State), c.ofReports = true → exec c s = .next t →
      t = { s with regs := t.regs, host := t.host, pwr := t.pwr, tdm := t.tdm, sent := t.sent }) ∧
  (∀ (c : Instr) (s t : State), c.ofBoot = true → exec c s = .next t →
      t = { s with regs := t.regs, evt := t.evt, host := t.host, boot := t.boot, sent := t.sent }) ∧
  (∀ (c : Instr) (s t : State), c.ofBook = true → exec c s = .next t →
      t = { s with regs := t.regs, evt := t.evt, host := t.host, boot := t.boot, pbk := t.pbk, sent := t.sent, freeCtr := t.freeCtr }
      )

/-- Registers lie at 32-bit aligned offsets and are 32 bits, or 64 bits as two such halves. For every state, agent, offset and size, an
access that is not 32-bit and 32-bit aligned completes with Unsupported Request and has no other effect. (R10) -/
def Obligations.Unsupported_register_accesses : Prop :=
  -- RegAccessUnsupported
  (∀ (s : State) (off : Fin 134217728) (n : Nat) (w : Bool),
    ¬ (n = 4 ∧ off.val % 4 = 0) →
    exec (.regAccessUnsupported off n w) s = .next ({ s with sent := s.sent ++ [.unsupported] })) ∧
  (∀ r ∈ regTable, r.base % 4 = 0 ∧ (r.dims.all (fun d => d.1 % 4 == 0)) = true
      )

/-- While the queue blocks work: a flush leaves the block empty, with no word being packed and no item half written or half read, FULL clear
and OVERRUN as it was, and counts the flush; the write that follows it begins a new item tagged FIRST, so that a consumer that had read
a FIRST word without its LAST meets another FIRST. A register read that waits on the block goes on waiting. (R400) -/
def Obligations.Queue_block_flush : Prop :=
  -- QbFlush
  (∀ (s : State) (q : Ix32),
    s.evtUp = true →
    Answers (exec (.qbFlush q) s) fun t =>
      t.qbSt q = { qbReset with readWait := (s.qbSt q).readWait } ∧ bit (t.qbStateWord q) 9 = false ∧
      t.fld (F.QB_STATE.OVERRUN q) = s.fld (F.QB_STATE.OVERRUN q) ∧ Counts s t (F.QB_FLUSH_CNT.COUNT q) 1 ∧ t.sent = s.sent ∧ t.evt = s.evt) ∧
  -- the next write begins an item
  (∀ (s t : State) (q : Ix32) (b : List Byte), s.evtUp = true → aliasBytes b = true → s.flag (F.QB_CFG.WRITER q) = false →
      exec (.qbFlush q) s = .next t → Answers (exec (.qbWriteData q b) t) fun u => (u.qbSt q).words.map (fun w => (w.bytes, w.first)) = [(b, true)]
      )

/-- When COLD releases: 0b00 selects FLASH, 0b01 HOST, 0b10 TANDEM; the reserved 0b11 boots as FLASH and raises BOOT_SEL_BAD, which the
Ghost Light keeps while the event unit does not work. GLB_BOOT gives the code sampled and the source. (R438) -/
def Obligations.Boot_selection : Prop :=
  -- ColdRelease from flash
  (∀ (s : State) (sel : BitVec 2),
    s.boot.held = true ∧ s.pwr.up = none ∧ s.time.running = true ∧ (sel = 0 ∨ sel = 3) →
    Answers (exec (.coldRelease sel) s) fun t =>
      t.boot.held = false ∧ t.fld F.GLB_BOOT.BOOT_SEL = sel.toNat ∧ t.fld F.GLB_BOOT.SOURCE = srcFlash ∧ t.bootState = btLoading ∧
      t.boot.pkg = (if s.boot.wings = wgComplete ∨ s.boot.wings = wgInstalling then pkgWings else pkgActive) ∧ t.inReset = s.inReset) ∧
  -- ColdRelease from the host
  (∀ (s : State),
    s.boot.held = true ∧ s.pwr.up = none ∧ s.time.running = true →
    Answers (exec (.coldRelease 1) s) fun t =>
      t.boot.held = false ∧ t.fld F.GLB_BOOT.BOOT_SEL = 1 ∧ t.fld F.GLB_BOOT.SOURCE = srcHost ∧ t.boot.window = true ∧ t.boot.retry = false ∧ t.evt = s.evt) ∧
  -- ColdRelease from the tandem
  (∀ (s : State),
    s.boot.held = true ∧ s.pwr.up = none ∧ s.time.running = true →
    Answers (exec (.coldRelease 2) s) fun t =>
      t.fld F.GLB_BOOT.SOURCE = srcTandem ∧ t.bootState = btLoading ∧ t.flag (F.CL_CTRL.EN 64) = true ∧ t.flag (F.CL_CTRL.EN 65) = true ∧ t.boot.pkg = s.boot.pkg) ∧
  -- ColdRelease with the reserved code
  (∀ (s : State),
    s.boot.held = true ∧ s.pwr.up = none ∧ s.time.running = true ∧ s.evtUp = false ∧ s.evt.glQueue.length < 64 →
    Answers (exec (.coldRelease 3) s) fun t =>
      t.fld F.GLB_BOOT.SOURCE = srcFlash ∧ Defers s t Src.glb E.BOOT_SEL_BAD [])

/-- An ACKNOWLEDGE whose ARG0 is not a listed event code (bits [31:16] not 0 among these) finishes OUT_OF_RANGE as it arrives; a listed code
whose condition is not pending finishes OK with RESULT 0 and clears nothing; RETENTION_FAULT, the code whose condition it clears,
finishes OK with RESULT 1 and clears RET_FAULT and the bank mask while it is pending. (R457) -/
def Obligations.Acknowledge : Prop :=
  -- Acknowledge
  (∀ (s : State) (n : RingIx) (e : StoreEntry),
    s.canRun n e opAck →
    e.arg0 = E.RETENTION_FAULT →
    s.flag F.PWR_STATE.RET_FAULT = true →
    Answers (exec (.acknowledge n) s) fun t =>
      Finished t e St.ok 1 ∧ t.fld F.PWR_STATE.RET_FAULT = 0 ∧ t.fld F.PWR_RET_BANK.BANK = 0 ∧ t.evt = s.evt ∧ t.sent = s.sent) ∧
  -- Acknowledge nothing
  (∀ (s : State) (n : RingIx) (e : StoreEntry),
    s.canRun n e opAck →
    e.arg0 ≠ E.RETENTION_FAULT ∨ s.flag F.PWR_STATE.RET_FAULT = false →
    Answers (exec (.acknowledge n) s) fun t =>
      Finished t e St.ok 0 ∧ t.fld F.PWR_STATE.RET_FAULT = s.fld F.PWR_STATE.RET_FAULT ∧ t.evt = s.evt ∧ t.sent = s.sent) ∧
  -- DescriptorArrival of an ACKNOWLEDGE out of range
  (∀ (s : State) (n : RingIx) (b : List Byte) (e x : StoreEntry),
    s.hostUp = true →
    b.length = 64 →
    (s.host.store.find? (fun y => y.ring = n.val && y.phase == .fetching) = some e) →
    s.entry? e.id = some e →
    e.verdict = 0 ∧ e.member = none →
    (s.ring n).skip = 0 ∧ (s.ring n).cueFetch = none →
    s.ringClass n = clsMgmt →
    x = { e with bytes := b, phase := .arrived } →
    x.opcode = opAck ∧ descClean x = true ∧ eventCodes.contains x.arg0 = false →
    Answers (exec (.descriptorArrival n (.bytes b)) s) fun t =>
      Finished t x St.outOfRange 0 ∧ t.evt = s.evt ∧ t.sent = s.sent ∧ t.mem = s.mem)

/-- A channel, not busy, whose image passes the checks with COUNT 0 ends at once in DONE with RESIDUE 0, no error and no access to HBM,
Stage SRAM or the host; its end is signalled: for a start by register by FLY_END with the channel, state, ERR and RESIDUE when EVT is
set and by nothing when it is not, and for a MOVE by its completion with OK. (R383) -/
def Obligations.Fly_start_of_nothing : Prop :=
  -- FlyStart of nothing
  (∀ (s : State) (n : Ix32),
    s.evtUp = true →
    s.flyBusy n = false ∧ s.flyCheck (s.flyImage n) = 0 ∧ Fly.count (s.flyImage n) = 0 ∧ Fly.evt (s.flyImage n) = false →
    Answers (exec (.flyStart n) s) fun t =>
      t.fld (F.FLY_STATUS.STATE n) = fsDone ∧ t.fld (F.FLY_STATUS.ERR n) = 0 ∧ t.rv (R.FLY_RESIDUE n) = 0 ∧ t.mem.hbm = s.mem.hbm ∧ t.mem.sram = s.mem.sram ∧ t.sent = s.sent ∧ t.evt = s.evt) ∧
  -- FlyStart of nothing with EVT
  (∀ (s : State) (n : Ix32),
    s.evtUp = true ∧ s.hasRoom (Src.fly n) = true →
    s.flyBusy n = false ∧ s.flyCheck (s.flyImage n) = 0 ∧ Fly.count (s.flyImage n) = 0 ∧ Fly.evt (s.flyImage n) = true →
    Answers (exec (.flyStart n) s) fun t =>
      t.fld (F.FLY_STATUS.STATE n) = fsDone ∧ t.fld (F.FLY_STATUS.ERR n) = 0 ∧ t.rv (R.FLY_RESIDUE n) = 0 ∧ t.mem.hbm = s.mem.hbm ∧ t.mem.sram = s.mem.sram ∧
      t.sent = s.sent ∧ Raises s t (Src.fly n) E.FLY_END [n, fsDone, 0, 0]) ∧
  -- Move of nothing
  (∀ (s : State) (n : RingIx) (e : StoreEntry),
    s.canRun n e opMove →
    s.flyBusy (e.arg0 % 32) = false ∧ s.moveRefused e.param = false ∧ s.flyCheck e.param = 0 ∧ Fly.count e.param = 0 →
    Answers (exec (.move n) s) fun t =>
      t.fld (F.FLY_STATUS.STATE (e.arg0 % 32)) = fsDone ∧ t.fld (F.FLY_STATUS.ERR (e.arg0 % 32)) = 0 ∧ t.rv (R.FLY_RESIDUE (e.arg0 % 32)) = 0 ∧
      t.mem.hbm = s.mem.hbm ∧ t.mem.sram = s.mem.sram ∧ t.sent = s.sent ∧ t.evt = s.evt ∧ Finished t e St.ok 0)

/-- When a producer has stayed stalled for CB_STALL_WD (the command CbStall says so; its reset value is 1,000), CB_STALL is raised with its
source number and the list it waits for, the producer stays stalled and is marked as told; one that has been told, or any while
CB_STALL_WD is 0, is not reported. Queue, held calls and every register stay as they are. (R118) -/
def Obligations.Stall_report : Prop :=
  -- CbStall
  (∀ (s : State) (p : Producer) (x : Stalled),
    s.evtUp = true →
    (s.cb.stalled.find? (fun y => y.producer = p) = some x) →
    x.told = false ∧ s.fld F.CB_STALL_WD.LIMIT ≠ 0 →
    s.hasRoom Src.callBoard = true →
    Answers (exec (.cbStall p) s) fun t =>
      Raises s t Src.callBoard E.CB_STALL [x.source, 32 * x.word.prio + s.placeGroup x.word.cls x.word.group] ∧
      t.cb = { s.cb with stalled := s.cb.stalled.map (fun y => if y = x then { y with told := true } else y) } ∧ t.regs = s.regs) ∧
  -- CbStall told
  (∀ (s : State) (p : Producer) (x : Stalled),
    (s.cb.stalled.find? (fun y => y.producer = p) = some x) →
    x.told = true ∨ s.fld F.CB_STALL_WD.LIMIT = 0 →
    exec (.cbStall p) s = .next (s)) ∧
  (State.reset.fld F.CB_STALL_WD.LIMIT = 1000)

/-- Conditions under which these commands complete, with what they leave. RegReadLowHalf returns the low half of a 64-bit register and holds
its high half for the reader. RcCounterRead returns the masked value and clears what a read clears. RegisterWrite of a 32-bit register
stores what its fields accept. ApertureAccess reads the bytes of the object that OBJ_APT_HANDLE names, and writes those of a curve in
one page and no others. DebugWindowAccess reads HBM bytes (outside output records) and writes them while BAR4 is enabled, with no error
in memory. PatrolScrub corrects a Stage SRAM codeword, counts it and changes no byte of HBM or Stage SRAM. (spec/00_scope.md (R9 to R15); spec/02_host_rings_objects.md (R59 to R67)) -/
def Obligations.Register_and_window_accesses : Prop :=
  -- RegReadLowHalf
  (∀ (s : State) (off : Fin 134217728) (a : Agent) (r : RegDef),
    off.val % 4 = 0 →
    s.reach a off = .live →
    findReg off = some (r, off.val) →
    r.wide = true →
    ((readers a).all (fun x => (x.at_ off.val).isNone) = true) →
    s.regShadow.get none off = none →
    Answers (exec (.regReadLowHalf off a) s) fun t =>
      t.sent = s.sent ++ [.readData (r.readMask (s.regValue off) % 2 ^ 32)] ∧
      t.regShadow.get none (off + 4) = some (BitVec.ofNat 32 (r.readMask (s.regValue off) / 2 ^ 32))) ∧
  -- RcCounterRead
  (∀ (s : State) (off : Fin 134217728) (a : Agent) (r : RegDef),
    off.val % 4 = 0 →
    s.reach a off = .live →
    findReg off = some (r, off.val) →
    ((readers a).all (fun x => (x.at_ off.val).isNone) = true) →
    s.regShadow.get none off = none →
    (r.fields.any (fun f => f.access = .rc) = true) →
    Answers (exec (.rcCounterRead off a) s) fun t =>
      t.sent = s.sent ++ [.readData (r.readMask (s.regValue off) % 2 ^ 32)] ∧ t.rv off = r.afterRead (s.rv off) % 2 ^ 64) ∧
  -- RegisterWrite
  (∀ (s : State) (off : Fin 134217728) (v : Word) (a : Agent) (r : RegDef),
    off.val % 4 = 0 →
    s.reach a off = .live →
    off.val < 0x03000000 →
    findReg off = some (r, off.val) →
    r.wide = false →
    (writers.all (fun x => (x.at_ off.val).isNone) = true) →
    r.refuses v.toNat = false →
    exec (.registerWrite off v a) s = .next (s.setRv off (r.written (s.rv off) v.toNat))) ∧
  -- ApertureAccess read
  (∀ (s : State) (off : Fin 134217728) (k : Nat),
    s.hostUp = true →
    s.boot.window = false →
    k = 1 ∨ k = 2 ∨ k = 4 ∨ k = 8 →
    off.val % k = 0 →
    s.live (s.fld F.OBJ_APT_HANDLE.HANDLE) = true →
    s.rv R.OBJ_APT_BASE + off + k ≤ (s.obj? (handleIdx (s.fld F.OBJ_APT_HANDLE.HANDLE))).size →
    s.mem.ce = [] ∧ s.mem.ue = [] →
    exec (.apertureAccess off (.read k)) s = .next (s.send (.readData (leNat (s.objBytes (s.obj? (handleIdx (s.fld F.OBJ_APT_HANDLE.HANDLE))) (s.rv R.OBJ_APT_BASE + off) k))))) ∧
  -- ApertureAccess write
  (∀ (s : State) (off : Fin 134217728) (b : List Byte) (p : Nat),
    s.hostUp = true →
    s.boot.window = false →
    apertureOk off (.write b) = true →
    s.live (s.fld F.OBJ_APT_HANDLE.HANDLE) = true →
    (s.obj? (handleIdx (s.fld F.OBJ_APT_HANDLE.HANDLE))).kind = kCurve →
    (s.obj? (handleIdx (s.fld F.OBJ_APT_HANDLE.HANDLE))).pages = [p] ∧ (s.obj? (handleIdx (s.fld F.OBJ_APT_HANDLE.HANDLE))).sram = false →
    s.rv R.OBJ_APT_BASE + off + b.length ≤ (s.obj? (handleIdx (s.fld F.OBJ_APT_HANDLE.HANDLE))).size →
    (s.obj? (handleIdx (s.fld F.OBJ_APT_HANDLE.HANDLE))).size ≤ 65536 →
    Answers (exec (.apertureAccess off (.write b)) s) fun t =>
      (∀ i : Nat, i < b.length → t.mem.byte (.hbm (p * 65536 + (s.rv R.OBJ_APT_BASE + off) + i)) = b.getD i 0) ∧
      (∀ a : Place, (∀ i : Nat, i < b.length → a ≠ .hbm (p * 65536 + (s.rv R.OBJ_APT_BASE + off) + i)) → t.mem.byte a = s.mem.byte a) ∧
      t.sent = s.sent) ∧
  -- DebugWindowAccess read
  (∀ (s : State) (off : Fin 34359738368) (k : Nat),
    s.hostUp = true →
    s.powered .hbm = true →
    s.flag F.HST_DBG_EN.BAR4 = true →
    off.val < 0x600000000 →
    s.inRecords off k = false →
    s.mem.ce = [] ∧ s.mem.ue = [] →
    exec (.debugWindowAccess off (.read k)) s = .next (s.send (.readData (leNat (s.mem.bytesAt (.hbm off) k))))) ∧
  -- DebugWindowAccess write
  (∀ (s : State) (off : Fin 34359738368) (b : List Byte),
    s.hostUp = true →
    s.powered .hbm = true →
    s.flag F.HST_DBG_EN.BAR4 = true →
    off.val + b.length ≤ 0x600000000 →
    0 < b.length →
    s.mem.ce = [] ∧ s.mem.ue = [] →
    s.fld F.OBJ_INJECT.MODE = 0 →
    exec (.debugWindowAccess off (.write b)) s = .next ({ s with mem := s.mem.putBytes (.hbm off) b })) ∧
  -- PatrolScrub
  (∀ (s : State) (n : Fin 4194304),
    s.evtUp = true →
    s.mem.ce.contains (2 ^ 31 + n.val) = true →
    s.mem.ue.contains (2 ^ 31 + n.val) = false →
    Answers (exec (.patrolScrub (.sram n)) s) fun t =>
      t.fld F.OBJ_SRAM_CE_CNT.COUNT = (s.fld F.OBJ_SRAM_CE_CNT.COUNT + 1) % 2 ^ 64 ∧
      t.mem.ce = s.mem.ce.filter (· ≠ 2 ^ 31 + n.val) ∧ t.mem.hbm = s.mem.hbm ∧ t.mem.sram = s.mem.sram)

/-- Conditions under which these commands complete, with what they leave. DoorbellPoll and HstNudge send one 256-byte read of the doorbell
vector and note it outstanding; a nudge during a read is merged. DoorbellVectorArrival, where no ring is stopped and every index is in
range, takes the tail of every descriptor ring and the completion head of every descriptor and event ring. DescriptorFetch sends one
64-byte read at the ring's fetch head, advances it and adds a store entry. DescriptorArrival of a clean descriptor fills the oldest
entry being fetched. Each clause also names parts of the state that stay as they were. (spec/02_host_rings_objects.md (R31 to R37)) -/
def Obligations.Doorbells_and_fetches : Prop :=
  -- DoorbellPoll
  (∀ (s : State),
    s.hostUp = true →
    s.flag F.HST_CTRL.ENABLE = true →
    s.host.dbOutstanding = false →
    exec (.doorbellPoll) s = .next ({ s with host := { s.host with dbOutstanding := true }, sent := s.sent ++ [.hostRead (s.fld F.HST_DB_ADDR.ADDR * 256) 256] })) ∧
  -- HstNudge
  (∀ (s : State),
    s.hostUp = true →
    s.flag F.HST_CTRL.ENABLE = true →
    s.host.dbOutstanding = false →
    exec (.hstNudge) s = .next ({ s with host := { s.host with dbOutstanding := true }, sent := s.sent ++ [.hostRead (s.fld F.HST_DB_ADDR.ADDR * 256) 256] })) ∧
  -- HstNudge merged
  (∀ (s : State),
    s.hostUp = true →
    s.flag F.HST_CTRL.ENABLE = true →
    s.host.dbOutstanding = true →
    exec (.hstNudge) s = .next ({ s with host := { s.host with dbAgain := true } })) ∧
  -- DoorbellVectorArrival
  (∀ (s : State) (b : List Byte),
    s.hostUp = true →
    b.length = 256 →
    s.host.dbOutstanding = true →
    s.host.dbAgain = false →
    (∀ n : Nat, n < 64 → s.isDescRing n = true → (s.ring n).stopped = false ∧ fieldAt b (4 * n) 2 < s.ringSlots n) →
    (∀ n : Nat, n < 64 → s.isDescRing n = true ∨ s.isEventRing n = true → fieldAt b (4 * n + 2) 2 < s.cqSlots n) →
    Answers (exec (.doorbellVectorArrival (.bytes b)) s) fun t =>
      t.host.dbOutstanding = false ∧ t.host.dbFails = 0 ∧ t.mem = s.mem ∧ t.sent = s.sent ∧ t.host.store = s.host.store ∧
      ∀ n : Nat, n < 64 → (t.ring n).stopped = (s.ring n).stopped ∧
      (s.isDescRing n = true → (t.ring n).tail = fieldAt b (4 * n) 2) ∧
      (s.isDescRing n = true ∨ s.isEventRing n = true → (t.ring n).cqHead = fieldAt b (4 * n + 2) 2) ∧
      (s.isDescRing n = false → (t.ring n).tail = (s.ring n).tail)) ∧
  -- DescriptorFetch
  (∀ (s : State) (n : RingIx),
    s.hostUp = true →
    s.flag F.HST_CTRL.ENABLE = true →
    s.isDescRing n = true →
    (s.ring n).stopped = false →
    (s.ring n).tail ≠ (s.ring n).fetchHead →
    s.heldBy n < 1024 →
    s.host.store.length < 8192 →
    Answers (exec (.descriptorFetch n) s) fun t =>
      t.sent = s.sent ++ [.hostRead (s.ringBase n + (s.ring n).fetchHead * 64) 64] ∧
      t.ring n = { s.ring n with fetchHead := ((s.ring n).fetchHead + 1) % s.ringSlots n } ∧
      t.host.store = s.host.store ++ [⟨s.host.nextId, n, (s.ring n).fetchHead, [], .fetching, 0, none, false, [], [], 0, 0, []⟩] ∧
      t.host.nextId = s.host.nextId + 1 ∧ t.regs = s.regs ∧ t.mem = s.mem ∧ t.evt = s.evt) ∧
  -- DescriptorArrival
  (∀ (s : State) (n : RingIx) (b : List Byte) (e : StoreEntry),
    s.hostUp = true →
    b.length = 64 →
    (s.host.store.find? (fun x => x.ring = n.val && x.phase == .fetching) = some e) →
    s.entry? e.id = some e →
    e.verdict = 0 ∧ e.member = none →
    (s.ring n).skip = 0 →
    (s.ring n).cueFetch = none →
    s.descStatus { e with bytes := b, phase := .arrived } false = 0 →
    fieldAt b 0 1 ≠ opCue →
    Answers (exec (.descriptorArrival n (.bytes b)) s) fun t =>
      t.entry? e.id = some { e with bytes := b, phase := .arrived } ∧ t.regs = s.regs ∧ t.mem = s.mem ∧ t.evt = s.evt ∧ t.sent = s.sent)

/-- Conditions under which these commands complete, with what they leave. CompletionWrite sends the oldest waiting completion to its queue
slot and drops the entry. HeadVectorWrite sends a ring's head word. MsixMessage sends a vector's message, or sets its pending bit while
masked; MsixVectorUnmask sends a pending one. RingRestart sets the fetch head of a ring and lets it run; a head beyond the ring raises
RING_FAULT and changes nothing. RingCfgWrite of a quiet ring stores all its settings and no other register. (spec/02_host_rings_objects.md (R38 to R53)) -/
def Obligations.Completions_and_messages : Prop :=
  -- CompletionWrite
  (∀ (s : State) (n : RingIx) (id : Nat) (rest : List Nat) (e : StoreEntry),
    s.hostUp = true →
    (s.ring n).waiting = id :: rest →
    s.cqFull n = false →
    s.entry? id = some e →
    Answers (exec (.completionWrite n) s) fun t =>
      t.sent = s.sent ++ [.hostWrite (s.cqBase n + (s.ring n).cqTail * 16) (completionBytes e (s.ring n) s.time.house)] ∧
      t.entry? id = none ∧ (t.ring n).waiting = rest ∧ (t.ring n).cqTail = ((s.ring n).cqTail + 1) % s.cqSlots n ∧ t.mem = s.mem) ∧
  -- HeadVectorWrite
  (∀ (s : State) (n : RingIx),
    s.hostUp = true →
    s.headWord n ≠ (s.ring n).headWritten →
    exec (.headVectorWrite n) s = .next ((s.setRing n { s.ring n with headWritten := s.headWord n }).send
      (.hostWrite (s.fld F.HST_HEADVEC_ADDR.ADDR * 256 + 4 * n) (leBytes 4 (s.headWord n))))) ∧
  -- MsixMessage
  (∀ (s : State) (v : Fin 64),
    s.hostUp = true →
    (s.vec v).cause = true →
    s.host.msixEnabled = true →
    s.headsWritten v = true →
    (s.vec v).masked = false →
    s.holdoffOver v = true →
    exec (.msixMessage v) s = .next ((s.setVec v { s.vec v with cause := false, sentAt := some s.time.house }).send (.msix v (s.vec v).addr (s.vec v).data))) ∧
  -- MsixMessage masked
  (∀ (s : State) (v : Fin 64),
    s.hostUp = true →
    (s.vec v).cause = true →
    s.host.msixEnabled = true →
    s.headsWritten v = true →
    (s.vec v).masked = true →
    exec (.msixMessage v) s = .next (s.setVec v { s.vec v with cause := false, pendingBit := true })) ∧
  -- MsixVectorUnmask
  (∀ (s : State) (v : Fin 64),
    s.hostUp = true →
    (s.vec v).pendingBit = true →
    s.host.msixEnabled = true →
    s.holdoffOver v = true →
    exec (.msixVectorUnmask v) s = .next ((s.setVec v { s.vec v with masked := false, pendingBit := false, sentAt := some s.time.house }).send (.msix v (s.vec v).addr (s.vec v).data))) ∧
  -- RingRestart
  (∀ (s : State) (n : RingIx) (head : BitVec 16),
    s.hostUp = true →
    head.toNat < s.ringSlots n →
    Answers (exec (.ringRestart n head) s) fun t =>
      (t.ring n).fetchHead = head.toNat ∧ (t.ring n).stopped = false ∧ t.mem = s.mem ∧ t.sent = s.sent) ∧
  -- RingRestart out of range
  (∀ (s : State) (n : RingIx) (head : BitVec 16),
    s.hostUp = true →
    s.hasRoom Src.rings = true →
    s.ringSlots n ≤ head.toNat →
    Answers (exec (.ringRestart n head) s) fun t =>
      Raises s t Src.rings E.RING_FAULT [n] ∧ t.host = s.host ∧ t.regs = s.regs) ∧
  -- RingCfgWrite
  (∀ (s : State) (n : RingIx) (cls : BitVec 2) (enable irq : Bool) (size cqSize : BitVec 4) (vec : Fin 64),
    s.hostUp = true →
    s.ringEnabled n = false →
    s.heldBy n = 0 →
    4 ≤ size.toNat ∧ 4 ≤ cqSize.toNat →
    Answers (exec (.ringCfgWrite n cls enable irq size cqSize vec) s) fun t =>
      t.ringClass n = cls.toNat ∧ t.ringEnabled n = enable ∧ t.flag (F.HST_RING_CFG.IRQ n) = irq ∧
      t.fld (F.HST_RING_CFG.SIZE_LOG2 n) = size.toNat ∧ t.fld (F.HST_RING_CFG.CQ_SIZE_LOG2 n) = cqSize.toNat ∧
      t.fld (F.HST_RING_CFG.VEC n) = vec.val ∧ (∀ o : Nat, o ≠ R.HST_RING_CFG n → t.rv o = s.rv o) ∧ t.mem = s.mem ∧ t.evt = s.evt)

/-- Conditions under which these commands complete, with what they leave. NOP finishes OK. OBJ_CREATE finishes OK with a handle that is
live, of the kind, parameters and size asked for. OBJ_WRITE sends its host read; HostReadCompletion of its bytes stores exactly them and
finishes OK with their number. OBJ_READ sends the object's bytes to the host. OBJ_DESTROY makes the handle stale. OBJ_PIN stores a pin
of an object or of a canvas. CUE opens a cue at its instant; SET adds its entries to the open cue. Each clause also names parts of the
state that stay as they were. (spec/02_host_rings_objects.md (R40 to R58); spec/01_frame_journey.md (R20)) -/
def Obligations.Object_descriptors : Prop :=
  -- Nop
  (∀ (s : State) (n : RingIx) (e : StoreEntry),
    s.canRun n e opNop →
    s.openCue n = none →
    Answers (exec (.nop n) s) fun t =>
      Finished t e St.ok 0 ∧ t.mem = s.mem ∧ t.obj = s.obj ∧ t.sent = s.sent ∧ t.evt = s.evt) ∧
  -- ObjCreate
  (∀ (s : State) (n : RingIx) (e : StoreEntry),
    s.canRun n e opCreate →
    s.mirrors = false →
    1 ≤ e.arg0 ∧ e.arg0 ≤ 7 →
    s.liveIdx.length < 65535 →
    ((s.liveIdx.filter (fun i => (s.obj? i).kind = e.arg0)).length < kindLimit e.arg0) →
    s.placesInSram e.arg0 (objSize e.arg0 e.param) = false →
    ceilDiv (objSize e.arg0 e.param) pageSize + ceilDiv (auxSize e.arg0 e.param) pageSize ≤ s.planFree →
    Answers (exec (.objCreate n) s) fun t =>
      ∃ idx, idx < 65536 ∧ Finished t e St.ok (t.handleOf idx) ∧ t.live (t.handleOf idx) = true ∧ (t.obj? idx).kind = e.arg0 ∧
      (t.obj? idx).param = e.param ∧ (t.obj? idx).size = objSize e.arg0 e.param) ∧
  -- ObjWrite
  (∀ (s : State) (n : RingIx) (e : StoreEntry),
    s.canRun n e opWrite →
    s.writesCopy e = false →
    e.length ≤ s.host.mrrs ∧ e.hostAddr % 4096 + e.length ≤ 4096 →
    0 < e.length →
    Answers (exec (.objWrite n) s) fun t =>
      t.sent = s.sent ++ [.hostRead e.hostAddr e.length] ∧
      (t.entry? e.id).map (fun x => (x.phase, x.reqs)) = some (.begun, [(e.hostAddr, e.length)]) ∧ t.mem = s.mem ∧ t.obj = s.obj ∧ t.regs = s.regs) ∧
  -- ObjRead
  (∀ (s : State) (n : RingIx) (e : StoreEntry),
    s.canRun n e opRead →
    s.mem.ce = [] ∧ s.mem.ue = [] →
    Answers (exec (.objRead n) s) fun t =>
      Finished t e St.ok e.length ∧ t.sent = s.sent ++ [.hostWrite e.hostAddr (s.objBytes (s.obj? (handleIdx e.handle)) e.offset e.length)] ∧
      t.mem = s.mem ∧ t.obj = s.obj ∧ t.evt = s.evt) ∧
  -- ObjDestroy
  (∀ (s : State) (n : RingIx) (e : StoreEntry),
    s.canRun n e opDestroy →
    s.referenced (handleIdx e.handle) = false →
    s.mirrors = false →
    Answers (exec (.objDestroy n) s) fun t =>
      Finished t e St.ok 0 ∧ t.live e.handle = false ∧ t.sent = s.sent) ∧
  -- ObjPin
  (∀ (s : State) (n : RingIx) (e : StoreEntry),
    s.canRun n e opPin →
    Pa.target e.arg0 = 0 ∧ Pa.mode e.arg0 = 3 →
    s.objMoves (handleIdx e.handle) = [] →
    Answers (exec (.objPin n) s) fun t =>
      Finished t e St.ok 0 ∧ (t.obj? (handleIdx e.handle)).pin = some ⟨3, Pa.group e.arg0⟩ ∧ t.mem.hbm = s.mem.hbm ∧ t.mem.sram = s.mem.sram ∧ t.sent = s.sent) ∧
  -- ObjPin of a canvas
  (∀ (s : State) (n : RingIx) (e : StoreEntry),
    s.canRun n e opPin →
    Pa.target e.arg0 = 1 ∧ Pa.mode e.arg0 = 1 →
    s.planServes true (Pa.group e.arg0) = true →
    Answers (exec (.objPin n) s) fun t =>
      Finished t e St.ok 0 ∧ t.blk.canvasPins.get 0 e.offset = Pa.group e.arg0 + 1 ∧ t.mem = s.mem ∧ t.obj = s.obj ∧ t.sent = s.sent) ∧
  -- Cue
  (∀ (s : State) (n : RingIx) (e : StoreEntry),
    s.hostUp = true →
    s.nextToBegin n = some e ∧ e.opcode = opCue ∧ e.ring = n.val →
    s.refusedNow opCue = false →
    s.openCue n = none →
    s.memberOf e.id 0 = none →
    fieldAt e.param 0 1 = 1 →
    Answers (exec (.cue n) s) fun t =>
      t.host.openCues = s.host.openCues ++ [⟨e.id, n, e.tag, e.arg0, 0, [],
      some (timeOf (bits (fieldAt e.param 8 8) 0 48) (fieldAt e.param 16 4)), false, [(e.bytes, [])], 0, 0⟩] ∧
      t.cfgAcc = s.cfgAcc ∧ t.cues = s.cues ∧ t.regs = s.regs ∧ t.mem = s.mem ∧ t.sent = s.sent ∧ t.evt = s.evt) ∧
  -- Set
  (∀ (s : State) (n : RingIx) (c : CueRec) (e : StoreEntry),
    s.hostUp = true →
    s.nextMember n = some (c, e) →
    e.opcode = opSet ∧ e.inline_ = true →
    (setEntries e.arg0 (slice e.param 0 e.length)).all (entryClean e.arg0) = true →
    e.offset + (setEntries e.arg0 (slice e.param 0 e.length)).length ≤ tabCount e.arg0 →
    s.entriesStatus e.arg0 e.offset (setEntries e.arg0 (slice e.param 0 e.length)) = 0 →
    c.taken + 1 ≠ c.count ∧ c.ring = n.val ∧ s.memberOf c.id (c.taken + 1) = none →
    s.openCue n = some c →
    Answers (exec (.set n) s) fun t =>
      t.openCue n = some { c with
      taken := c.taken + 1,
      writes := c.writes ++ ((setEntries e.arg0 (slice e.param 0 e.length)).zipIdx e.offset).map (fun x => ⟨e.arg0, x.2, x.1, c.taken⟩),
      ops := c.ops ++ [(e.bytes, slice e.param 0 e.length)] } ∧
      t.cfgAcc = s.cfgAcc ∧ t.cues = s.cues ∧ t.regs = s.regs ∧ t.mem = s.mem ∧ t.sent = s.sent ∧ t.evt = s.evt) ∧
  -- HostReadCompletion
  (∀ (s : State) (n : RingIx) (e : StoreEntry) (b : List Byte) (p : Nat),
    s.hostUp = true →
    (s.host.store.find? (fun x => x.ring = n.val && !x.reqs.isEmpty) = some e ∧ s.entry? e.id = some e) →
    e.opcode = opWrite ∧ e.reqs = [(e.hostAddr, e.length)] ∧ e.data = [] ∧ e.status = 0 ∧ e.yielded = [] →
    b.length = e.length ∧ e.offset + e.length ≤ 65535 →
    s.live e.handle = true ∧ (s.obj? (handleIdx e.handle)).kind = kPersonality →
    (s.obj? (handleIdx e.handle)).pages = [p] ∧ (s.obj? (handleIdx e.handle)).sram = false →
    s.mirrors = false →
    Answers (exec (.hostReadCompletion n (.bytes b)) s) fun t =>
      Finished t e St.ok e.length ∧ (∀ i : Nat, i < b.length → t.mem.byte (.hbm (p * 65536 + e.offset + i)) = b.getD i 0) ∧
      (∀ a : Place, (∀ i : Nat, i < b.length → a ≠ .hbm (p * 65536 + e.offset + i)) → t.mem.byte a = s.mem.byte a) ∧ t.sent = s.sent)

/-- Conditions under which these commands complete, with what they leave. CALL takes a slot, whose number is an open value (assumption 4),
and finishes OK with it. CAL_COMPILE hands a call to the frame set-up. MOVE with a count loads the channel's registers and starts it.
POWER_STATE of the present state finishes OK; from RUN it begins the entry asked for. UPDATE_CHUNK sends its host read. REPORT sends the
report its ARG0 names and finishes OK with its length; the ledger report begins with the house clock and the store's ledger. (spec/02_host_rings_objects.md (R39 to R41); spec/04_call_board.md; spec/16_fly_queues_check.md (R393); spec/17_power_dark.md (R413); spec/18_reset_boot_update.md (R447)) -/
def Obligations.Management_descriptors : Prop :=
  -- Call
  (∀ (s : State) (n : RingIx) (e : StoreEntry),
    s.canRun n e opCall →
    s.producerStalled (.host n) = false →
    s.callInvalid (callOfBytes e.param) 0 none = false ∧ (callOfBytes e.param).cls = clsSM →
    s.findsSpace Src.rings (callOfBytes e.param) = true →
    Answers (exec (.call n) s) fun t =>
      Finished t e St.ok (s.pickFree s.slotUsed 8192) ∧ t.slotUsed (s.pickFree s.slotUsed 8192) = true ∧
      t.fld F.CB_POST_CNT.COUNT = (s.fld F.CB_POST_CNT.COUNT + 1) % 2 ^ 64 ∧ t.mem = s.mem) ∧
  -- CalCompile
  (∀ (s : State) (n : RingIx) (e : StoreEntry),
    s.canRun n e opCompile →
    s.producerStalled (.host n) = false →
    s.mirrors = false →
    s.slotSpace Src.rings (compileWord s e) = true →
    Answers (exec (.calCompile n) s) fun t =>
      Finished t e St.ok (s.pickFree s.slotUsed 8192) ∧
      t.cb.handed.map (fun r => (r.slot, r.word.kind, r.word.arg0)) =
      s.cb.handed.map (fun r => (r.slot, r.word.kind, r.word.arg0)) ++ [(s.pickFree s.slotUsed 8192, kCalCompile, e.handle)] ∧
      t.mem = s.mem ∧ t.sent = s.sent) ∧
  -- Move
  (∀ (s : State) (n : RingIx) (e : StoreEntry),
    s.canRun n e opMove →
    s.flyBusy (e.arg0 % 32) = false →
    s.moveRefused e.param = false →
    s.flyCheck e.param = 0 →
    Fly.count e.param ≠ 0 →
    Answers (exec (.move n) s) fun t =>
      t.fld (F.FLY_STATUS.STATE (e.arg0 % 32)) = fsBusy ∧ t.fld (F.FLY_STATUS.ERR (e.arg0 % 32)) = 0 ∧
      t.fld (F.FLY_STATUS.OVLP (e.arg0 % 32)) = b2n (Fly.overlaps e.param) ∧
      t.rv (R.FLY_SRC (e.arg0 % 32)) = Fly.src e.param % 2 ^ 64 ∧ t.rv (R.FLY_DST (e.arg0 % 32)) = Fly.dst e.param % 2 ^ 64 ∧
      t.flyOf (e.arg0 % 32) = some ⟨e.param, some e.id, [], 0, 0, [], none, 0, none, 0⟩ ∧
      (t.entry? e.id).map (·.phase) = some .begun ∧ t.mem = s.mem ∧ t.sent = s.sent ∧ t.evt = s.evt) ∧
  -- PowerState
  (∀ (s : State) (n : RingIx) (e : StoreEntry),
    s.canRun n e opPower →
    s.pwr.seq = none →
    e.arg0 = s.pwr.state →
    Answers (exec (.powerState n) s) fun t =>
      Finished t e St.ok 0 ∧ t.pwr = s.pwr ∧ t.off = s.off ∧ t.sent = s.sent) ∧
  -- PowerState begins an entry
  (∀ (s : State) (n : RingIx) (e : StoreEntry),
    s.canRun n e opPower →
    s.pwr.seq = none ∧ s.pwr.state = psRun ∧ s.flag F.PWR_STATE.RET_FAULT = false →
    e.arg0 = psIdle ∨ e.arg0 = psSleep ∨ e.arg0 = psOff →
    Answers (exec (.powerState n) s) fun t =>
      t.pwr.seq = some ⟨false, e.arg0, 2, [], some e.id, none, false⟩ ∧ (t.entry? e.id).map (·.phase) = some .begun ∧ t.off = s.off ∧ t.sent = s.sent) ∧
  -- UpdateChunk
  (∀ (s : State) (n : RingIx) (e : StoreEntry),
    s.canRun n e opUpdate →
    e.length = 4096 ∧ e.hostAddr % 4096 = 0 ∧ s.host.mrrs = 4096 →
    Answers (exec (.updateChunk n) s) fun t =>
      t.sent = s.sent ++ [.hostRead e.hostAddr 4096] ∧ (t.entry? e.id).map (fun x => (x.phase, x.reqs)) = some (.begun, [(e.hostAddr, 4096)]) ∧
      t.boot = s.boot ∧ t.mem = s.mem ∧ t.regs = s.regs) ∧
  -- ReportPlacement
  (∀ (s : State) (n : RingIx) (e : StoreEntry),
    s.canRun n e opReport →
    e.arg0 = 1 →
    Answers (exec (.reportPlacement n) s) fun t =>
      t.sent = s.sent ++ [.hostWrite e.hostAddr (s.blk.report.take e.length)] ∧ Finished t e St.ok s.blk.report.length ∧ t.mem = s.mem ∧ t.evt = s.evt) ∧
  -- ReportLedgers
  (∀ (s : State) (n : RingIx) (e : StoreEntry),
    s.canRun n e opReport →
    e.arg0 = 2 →
    16 ≤ e.length →
    Answers (exec (.reportLedgers n) s) fun t =>
      (∃ b : List Byte, t.sent = s.sent ++ [.hostWrite e.hostAddr (b.take e.length)] ∧ Finished t e St.ok b.length ∧
      b.take 16 = leBytes 8 s.time.house ++ leBytes 4 (8192 - s.host.store.length) ++ leBytes 4 s.host.store.length) ∧ t.mem = s.mem ∧ t.evt = s.evt) ∧
  -- ReportPromptBook
  (∀ (s : State) (n : RingIx) (e : StoreEntry),
    s.canRun n e opReport →
    e.arg0 = 3 →
    Answers (exec (.reportPromptBook n) s) fun t =>
      t.sent = s.sent ++ [.hostWrite e.hostAddr (s.bookReport.take e.length)] ∧ Finished t e St.ok s.bookReport.length ∧ t.mem = s.mem ∧ t.evt = s.evt) ∧
  -- ReportObjectTable
  (∀ (s : State) (n : RingIx) (e : StoreEntry),
    s.canRun n e opReport →
    e.arg0 = 4 →
    Answers (exec (.reportObjectTable n) s) fun t =>
      t.sent = s.sent ++ [.hostWrite e.hostAddr (s.objectTable.take e.length)] ∧ Finished t e St.ok s.objectTable.length ∧ t.mem = s.mem ∧ t.evt = s.evt)

/-- Conditions under which these commands complete, with what they leave. StageCtrlStep of an unlocked Stage clock adds the signed step,
locks the clock and raises STAGE_STEP; of a locked one, or when the result would be negative or not fit 48 bits of seconds, it raises
STEP_REFUSED and changes no clock. StageCtrlUnlock unlocks it with STAGE_UNLOCK. TimRateWrite stores a rate in range while the clock
tracks. TimPrioWrite stores the priorities and, of a clock in free run, selects the one reference that is qualified with REF_SELECT.
ShowSelWrite selects the other clock while show time is locked, keeps show time's value and raises SHOW_SELECT. ShowCtrlUnlock unlocks
show time, where no schedule runs and no frame is on its way, with SHOW_UNLOCK. ShowSlewUpdate takes the difference of the clock and
show time anew, and the correction that SLEW allows. (spec/03_show_time.md (R68 to R72, R78 to R84)) -/
def Obligations.Stage_clocks : Prop :=
  -- StageCtrlStep
  (∀ (s : State) (x : StageClk),
    s.evtUp = true →
    (s.clk x).locked = false →
    0 ≤ ((s.clk x).val : Int) + s.stepOffset x ∧ ((s.clk x).val : Int) + s.stepOffset x < (timeMod : Int) →
    s.time.show_.locked = true ∨ (s.showSel ≠ x ∧ (s.clk s.showSel).locked = false) →
    s.hasRoom Src.clocks = true →
    Answers (exec (.stageCtrlStep x) s) fun t =>
      ((t.clk x).val : Int) = ((s.clk x).val : Int) + s.stepOffset x ∧ (t.clk x).locked = true ∧
      Raises s t Src.clocks E.STAGE_STEP (s.stepArgs x ++ [s.time.lastMarked]) ∧ t.time.show_ = s.time.show_ ∧ t.frames = s.frames ∧ t.regs = s.regs) ∧
  -- StageCtrlStep refused
  (∀ (s : State) (x : StageClk),
    s.evtUp = true →
    (s.clk x).locked = true →
    s.hasRoom Src.clocks = true →
    Answers (exec (.stageCtrlStep x) s) fun t =>
      t.time = s.time ∧ Raises s t Src.clocks E.STEP_REFUSED (s.stepArgs x ++ [0]) ∧ t.regs = s.regs ∧ t.frames = s.frames) ∧
  -- StageCtrlUnlock
  (∀ (s : State) (x : StageClk),
    s.evtUp = true →
    (s.clk x).locked = true →
    s.hasRoom Src.clocks = true →
    Answers (exec (.stageCtrlUnlock x) s) fun t =>
      t.clk x = { s.clk x with locked := false, cause := causeDeclared } ∧
      Raises s t Src.clocks E.STAGE_UNLOCK [clkIx x + 2 * causeDeclared, s.firstUnpresented] ∧ t.time.show_ = s.time.show_ ∧ t.regs = s.regs ∧ t.frames = s.frames) ∧
  -- TimRateWrite
  (∀ (s : State) (x : StageClk) (r : BitVec 23),
    s.evtUp = true →
    (s.clk x).arb = arbTrack →
    -2684354 ≤ r.toInt ∧ r.toInt ≤ 2684354 →
    Answers (exec (.timRateWrite x r) s) fun t =>
      t.rate x = r.toInt ∧ (t.clk x).val = (s.clk x).val ∧ (t.clk x).arb = arbTrack ∧ t.time.house = s.time.house ∧ t.evt = s.evt) ∧
  -- TimPrioWrite
  (∀ (s : State) (x : StageClk) (p : Fin 4 → BitVec 4),
    s.evtUp = true →
    (∀ i : Fin 4, (p i).toNat ≤ 6) →
    (s.clk x).qual = [] →
    (s.clk x).arb = arbFreerun →
    Answers (exec (.timPrioWrite x (p 0) (p 1) (p 2) (p 3)) s) fun t =>
      t.fld (F.TIM_PRIO.P0 (clkIx x)) = (p 0).toNat ∧ t.fld (F.TIM_PRIO.P1 (clkIx x)) = (p 1).toNat ∧
      t.fld (F.TIM_PRIO.P2 (clkIx x)) = (p 2).toNat ∧ t.fld (F.TIM_PRIO.P3 (clkIx x)) = (p 3).toNat ∧ t.time = s.time ∧ t.evt = s.evt) ∧
  -- TimPrioWrite selects
  (∀ (s : State) (x : StageClk) (p0 : BitVec 4),
    s.evtUp = true →
    1 ≤ p0.toNat ∧ p0.toNat ≤ 6 →
    (s.clk x).qual = [p0.toNat] →
    (s.clk x).arb = arbFreerun →
    s.hasRoom Src.clocks = true →
    Answers (exec (.timPrioWrite x p0 0 0 0) s) fun t =>
      (t.clk x).arb = arbTrack ∧ (t.clk x).src = p0.toNat ∧ Raises s t Src.clocks E.REF_SELECT [clkIx x, p0.toNat]) ∧
  -- below zero
  (∀ (s : State) (x : StageClk),
    s.evtUp = true ∧ s.hasRoom Src.clocks = true →
    (s.clk x).locked = false →
    ((s.clk x).val : Int) + s.stepOffset x < 0 →
    Answers (exec (.stageCtrlStep x) s) fun t =>
      t.time = s.time ∧ Raises s t Src.clocks E.STEP_REFUSED (s.stepArgs x ++ [0]) ∧ t.regs = s.regs ∧ t.frames = s.frames) ∧
  -- at or above 2^48 s
  (∀ (s : State) (x : StageClk),
    s.evtUp = true ∧ s.hasRoom Src.clocks = true →
    (s.clk x).locked = false →
    (timeMod : Int) ≤ ((s.clk x).val : Int) + s.stepOffset x →
    Answers (exec (.stageCtrlStep x) s) fun t =>
      t.time = s.time ∧ Raises s t Src.clocks E.STEP_REFUSED (s.stepArgs x ++ [0]) ∧ t.regs = s.regs ∧ t.frames = s.frames) ∧
  -- ShowSelWrite
  (∀ (s : State) (x : StageClk),
    s.evtUp = true →
    s.showSel ≠ x →
    s.time.show_.locked = true →
    s.hasRoom Src.clocks = true →
    Answers (exec (.showSelWrite x) s) fun t =>
      t.fld F.TIM_SHOW_CTRL.SEL = clkIx x ∧ t.showSel = x ∧ t.time.show_.val = s.time.show_.val ∧
      t.time.show_.d = ((s.clk x).val : Int) - (s.time.show_.val : Int) ∧
      Raises s t Src.clocks E.SHOW_SELECT ([clkIx x] ++ words2 (showOffset (((s.clk x).val : Int) - (s.time.show_.val : Int)))) ∧ t.frames = s.frames) ∧
  -- ShowCtrlUnlock
  (∀ (s : State),
    s.evtUp = true →
    s.time.show_.locked = true →
    (s.clk s.showSel).locked = false →
    s.hasRoom Src.clocks = true →
    s.time.sched.running = false ∧ s.frames = [] →
    Answers (exec (.showCtrlUnlock) s) fun t =>
      t.time.show_.locked = false ∧ t.time.show_.cause = causeDeclared ∧
      HasEvent s t Src.clocks E.SHOW_UNLOCK [clkIx s.showSel + 2 * causeDeclared, s.time.sched.seq]) ∧
  -- ShowSlewUpdate
  (∀ (s : State),
    s.time.running = true →
    s.time.show_.locked = true →
    exec (.showSlewUpdate) s = .next (s.setShow { s.time.show_ with
      d := ((s.clk s.showSel).val : Int) - (s.time.show_.val : Int)
      corr := slewOf (s.fld F.TIM_SHOW_CTRL.SLEW) (((s.clk s.showSel).val : Int) - (s.time.show_.val : Int))
      calcAt := s.time.house }))

/-- Conditions under which these commands complete, with what they leave. RefEdge of a reference that is on adds its phases, or ends a group
and gives the average. RefQualify qualifies a reference for a clock and selects the first of its priorities. RefEdgeMissing disqualifies
it and takes the clock to holdover, with HOLDOVER. ServoWdExpiry does the same for a reference that is silent. HoldMaxExpiry ends
holdover in free run. PtpOkWrite qualifies PTP for a clock. (spec/03_show_time.md (R70 to R77)) -/
def Obligations.References : Prop :=
  -- RefEdge
  (∀ (s : State) (r : Fin 5),
    s.refOn r = true →
    (s.refSt r).last = none →
    (s.refSt r).n + 1 < 2 ^ s.fld (F.TIM_REF_CFG.AVG_LOG2 r) →
    Answers (exec (.refEdge r) s) fun t =>
      t.refSt r = ⟨some (s.time.a.val, s.time.b.val), true,
      (s.refSt r).sumA + phaseOf s.time.a.val (s.fld (F.TIM_REF_NUM.VALUE r)) (s.fld (F.TIM_REF_DEN.VALUE r)),
      (s.refSt r).sumB + phaseOf s.time.b.val (s.fld (F.TIM_REF_NUM.VALUE r)) (s.fld (F.TIM_REF_DEN.VALUE r)), (s.refSt r).n + 1⟩ ∧
      t.regs = s.regs ∧ t.evt = s.evt ∧ t.time.a = s.time.a ∧ t.time.b = s.time.b) ∧
  -- RefEdge ends a group
  (∀ (s : State) (r : Fin 5),
    s.refOn r = true →
    (s.refSt r).last = none →
    s.fld (F.TIM_REF_CFG.AVG_LOG2 r) = 0 ∧ (s.refSt r).n = 0 ∧ (s.refSt r).sumA = 0 →
    Answers (exec (.refEdge r) s) fun t =>
      t.rv (R.TIM_REF_PHASE_A r) =
      ofSigned 64 (roundEven (phaseOf s.time.a.val (s.fld (F.TIM_REF_NUM.VALUE r)) (s.fld (F.TIM_REF_DEN.VALUE r)) / 65536)) % 2 ^ 64 ∧
      (t.refSt r).n = 0 ∧ t.evt = s.evt) ∧
  -- RefQualify
  (∀ (s : State) (r : Fin 5) (x : StageClk),
    s.refOn r = true →
    (s.clk x).qual.contains (refCode r) = false →
    s.prioList x = [refCode r] →
    (s.clk x).arb = arbFreerun →
    s.hasRoom Src.clocks = true →
    Answers (exec (.refQualify r x) s) fun t =>
      (t.clk x).qual = (s.clk x).qual ++ [refCode r] ∧ (t.clk x).arb = arbTrack ∧ (t.clk x).src = refCode r ∧
      Raises s t Src.clocks E.REF_SELECT [clkIx x, refCode r] ∧ (t.refSt r).present = true ∧ t.regs = s.regs) ∧
  -- RefEdgeMissing
  (∀ (s : State) (r : Fin 5),
    s.refOn r = true →
    s.time.a.qual = [refCode r] ∧ s.time.a.arb = arbTrack ∧ s.time.a.src = refCode r →
    s.time.b.qual = [] →
    s.hasRoom Src.clocks = true →
    Answers (exec (.refEdgeMissing r) s) fun t =>
      t.time.a.arb = arbHoldover ∧ t.time.a.qual = [] ∧ (t.refSt r).present = false ∧ (t.refSt r).last = none ∧
      HasEvent s t Src.clocks E.HOLDOVER [0, ofSigned 32 (s.heldRate .A)]) ∧
  -- ServoWdExpiry
  (∀ (s : State) (x : StageClk),
    s.evtUp = true →
    (s.clk x).arb = arbTrack ∧ (s.clk x).qual = [(s.clk x).src] →
    s.hasRoom Src.clocks = true →
    Answers (exec (.servoWdExpiry x) s) fun t =>
      (t.clk x).arb = arbHoldover ∧ (t.clk x).qual = [] ∧ Raises s t Src.clocks E.HOLDOVER [clkIx x, ofSigned 32 (s.heldRate x)]) ∧
  -- HoldMaxExpiry
  (∀ (s : State) (x : StageClk),
    s.evtUp = true →
    (s.clk x).arb = arbHoldover →
    s.hasRoom Src.clocks = true →
    Answers (exec (.holdMaxExpiry x) s) fun t =>
      t.clk x = { s.clk x with arb := arbFreerun, src := 0 } ∧ Raises s t Src.clocks E.HOLDOVER_EXPIRED [clkIx x] ∧ t.regs = s.regs) ∧
  -- PtpOkWrite
  (∀ (s : State) (x : StageClk),
    s.evtUp = true →
    s.flag (F.TIM_CTRL.PTP_OK (clkIx x)) = false →
    (s.clk x).qual = [] ∧ (s.clk x).arb = arbFreerun →
    s.prioList x = [] →
    Answers (exec (.ptpOkWrite x true) s) fun t =>
      t.flag (F.TIM_CTRL.PTP_OK (clkIx x)) = true ∧ (t.clk x).qual = [1] ∧ (t.clk x).arb = arbFreerun ∧ t.evt = s.evt)

/-- Conditions under which these commands complete, with what they leave. LtcFrame stores a received label, or counts a discarded one and
raises LTC_LOST on the fourth. LtcOutFrame sends the label of show time. CueIoEdge stores the level of an input pin and raises
CUE_IO_EDGE with show time on an enabled edge. TriggerFire of a slot whose instant has passed raises its event and disarms, or drives
its pin and moves its target by its period and stays armed. (spec/03_show_time.md (R81 to R87)) -/
def Obligations.Ltc_and_pins : Prop :=
  -- LtcFrame
  (∀ (s : State) (f : LtcFrame),
    s.evtUp = true →
    f.frame < 64 ∧ f.sec < 64 ∧ f.min < 64 ∧ f.hour < 32 →
    Answers (exec (.ltcFrame (some f)) s) fun t =>
      t.fld F.TIM_LTC_IN_LAST.VALID = 1 ∧ t.rv R.TIM_LTC_IN_LAST % 64 = f.frame ∧ t.rv R.TIM_LTC_IN_LAST / 2 ^ 6 % 64 = f.sec ∧
      t.rv R.TIM_LTC_IN_LAST / 2 ^ 12 % 64 = f.min ∧ t.rv R.TIM_LTC_IN_LAST / 2 ^ 18 % 32 = f.hour ∧ t.rv R.TIM_LTC_IN_USER = f.user.toNat ∧
      t.time.ltcBad = 0 ∧ t.evt = s.evt) ∧
  -- LtcFrame discarded
  (∀ (s : State),
    s.evtUp = true →
    s.time.ltcBad = 3 →
    s.hasRoom Src.clocks = true →
    Answers (exec (.ltcFrame none) s) fun t =>
      t.fld F.TIM_LTC_IN_LAST.VALID = 0 ∧ t.time.ltcBad = 4 ∧ Raises s t Src.clocks E.LTC_LOST []) ∧
  -- LtcOutFrame
  (∀ (s : State) (h m sec f : Nat),
    s.evtUp = true →
    s.flag F.TIM_LTC_OUT_CFG.EN = true →
    ltcLabel s.showNow (signedOf 32 (s.rv R.TIM_LTC_OUT_OFFSET)) (s.fld F.TIM_LTC_OUT_CFG.RATE) = (h, m, sec, f) →
    exec (.ltcOutFrame) s = .next (s.send (.ltc h m sec f (s.fld F.TIM_LTC_OUT_CFG.RATE == 2) (s.rv R.TIM_LTC_OUT_USER)))) ∧
  -- CueIoEdge
  (∀ (s : State) (pin : Ix16) (level : Bool),
    s.evtUp = true →
    s.flag (F.TIM_CUEIO_CFG.IN pin) ≠ level →
    s.fld (F.TIM_CUEIO_CFG.MODE pin) = 1 →
    bit (s.fld (F.TIM_CUEIO_CFG.EDGE pin)) (if level then 0 else 1) = true →
    s.hasRoom Src.trigger = true →
    Answers (exec (.cueIoEdge pin level) s) fun t =>
      t.flag (F.TIM_CUEIO_CFG.IN pin) = level ∧ Raises s t Src.trigger E.CUE_IO_EDGE
      [pin + b2n level * 2 ^ 8 + secOf s.showNow / 2 ^ 32 * 2 ^ 16, secOf s.showNow % 2 ^ 32, nsOf s.showNow, fracOf s.showNow] ∧
      t.time = s.time ∧ t.sent = s.sent) ∧
  -- TriggerFire
  (∀ (s : State) (slot : Fin 256),
    s.evtUp = true →
    (s.trigDue slot = true ∧ ∀ m : Nat, m < slot.val → s.trigDue m = false) →
    s.fld (F.TIM_TRIG_CTRL.ACTION slot) = 4 →
    s.fld (F.TIM_TRIG_PERIOD.PERIOD slot) = 0 →
    (s.trigClock slot).1 < s.trigTarget slot + (s.trigClock slot).2 →
    s.hasRoom Src.trigger = true →
    Answers (exec (.triggerFire slot) s) fun t =>
      Raises s t Src.trigger E.TRIGGER [slot] ∧ t.flag (F.TIM_TRIG_CTRL.ARM slot) = false ∧
      t.fld (F.TIM_TRIG_FIRE_CNT.FIRE_CNT slot) = (s.fld (F.TIM_TRIG_FIRE_CNT.FIRE_CNT slot) + 1) % 2 ^ 32 ∧ t.time = s.time ∧ t.sent = s.sent) ∧
  -- TriggerFire periodic
  (∀ (s : State) (slot : Fin 256),
    s.evtUp = true →
    (s.trigDue slot = true ∧ ∀ m : Nat, m < slot.val → s.trigDue m = false) →
    s.fld (F.TIM_TRIG_CTRL.ACTION slot) = 2 ∧ s.fld (F.TIM_CUEIO_CFG.MODE (s.fld (F.TIM_TRIG_CTRL.CUE_IO_PIN slot))) = 2 ∧ s.pinOvertaken slot = false →
    s.fld (F.TIM_TRIG_PERIOD.PERIOD slot) ≠ 0 →
    (s.trigClock slot).1 < s.trigTarget slot + (s.trigClock slot).2 →
    (s.trigClock slot).1 < s.trigTarget slot + s.fld (F.TIM_TRIG_PERIOD.PERIOD slot) * nsU →
    Answers (exec (.triggerFire slot) s) fun t =>
      t.sent = s.sent ++ [.pin "CUE_IO" (s.fld (F.TIM_TRIG_CTRL.CUE_IO_PIN slot)) (s.flag (F.TIM_TRIG_CTRL.LEVEL slot))] ∧
      t.fld (F.TIM_TRIG_TARGET_S.TARGET_S slot) = secOf (s.trigTarget slot + s.fld (F.TIM_TRIG_PERIOD.PERIOD slot) * nsU) % 2 ^ 48 ∧
      t.fld (F.TIM_TRIG_TARGET_NS.TARGET_NS slot) = nsOf (s.trigTarget slot + s.fld (F.TIM_TRIG_PERIOD.PERIOD slot) * nsU) ∧
      t.flag (F.TIM_TRIG_CTRL.ARM slot) = true ∧ t.evt = s.evt)

/-- Conditions under which these commands complete, with what they leave. CbPost accepts a valid word that finds space under a slot number
that is an open value (assumption 4); an invalid word is counted and reported; one without space stalls its producer in SERVICE and is
refused in another mode. CbStalledPostAccept and CbChildPost accept a word likewise. CbStandby of an engine waits, takes the first call
it may run, or first retires the call it has run, with its cost. CbModeWrite sets the mode, refuses a stalled post when it leaves
SERVICE, and clears HOLD when it leaves TEST. (spec/04_call_board.md (R98 to R116)) -/
def Obligations.Call_posts : Prop :=
  -- CbPost
  (∀ (s : State) (p : Producer) (v : Vector Word 8) (w : CallWord),
    s.evtUp = true →
    callOfBytes (wordBytes v) = w ∧ callReserved (wordBytes v) = 0 ∧ w.child = false →
    s.producerStalled p = false →
    s.callInvalid w 0 none = false ∧ s.findsSpace (producerSource p) w = true →
    Answers (exec (.cbPost p v) s) fun t =>
      Posted s t (producerSource p) 0xFFFF w w.children) ∧
  -- CbPost invalid
  (∀ (s : State) (n : Fin 4) (v : Vector Word 8) (w : CallWord),
    s.evtUp = true →
    callOfBytes (wordBytes v) = w ∧ callReserved (wordBytes v) = 0 ∧ w.child = false →
    s.producerStalled (.core n) = false →
    s.callInvalid w 0 none = true →
    s.hasRoom Src.callBoard = true →
    Answers (exec (.cbPost (.core n) v) s) fun t =>
      t.cb = s.cb ∧ t.fld F.CB_INVALID_CNT.COUNT = (s.fld F.CB_INVALID_CNT.COUNT + 1) % 2 ^ F.CB_INVALID_CNT.COUNT.width ∧
      Raises s t Src.callBoard E.CB_INVALID [Src.core n, w.word0] ∧ t.sent = s.sent ++ [.readData (2 + 0xFFFF * 2 ^ 16)]) ∧
  -- CbPost refused
  (∀ (s : State) (n : Fin 4) (v : Vector Word 8) (w : CallWord),
    s.evtUp = true →
    callOfBytes (wordBytes v) = w ∧ callReserved (wordBytes v) = 0 ∧ w.child = false →
    s.producerStalled (.core n) = false →
    s.callInvalid w 0 none = false ∧ s.findsSpace (Src.core n) w = false →
    s.fld F.CB_MODE.MODE ≠ modeService →
    Answers (exec (.cbPost (.core n) v) s) fun t =>
      t.cb = s.cb ∧ t.fld F.CB_REFUSED_CNT.COUNT = (s.fld F.CB_REFUSED_CNT.COUNT + 1) % 2 ^ 64 ∧ t.evt = s.evt ∧
      t.sent = s.sent ++ [.readData (1 + 0xFFFF * 2 ^ 16)]) ∧
  -- CbPost stalls
  (∀ (s : State) (n : Fin 4) (v : Vector Word 8) (w : CallWord),
    s.evtUp = true →
    callOfBytes (wordBytes v) = w ∧ callReserved (wordBytes v) = 0 ∧ w.child = false →
    s.producerStalled (.core n) = false →
    s.callInvalid w 0 none = false ∧ s.findsSpace (Src.core n) w = false →
    s.fld F.CB_MODE.MODE = modeService →
    exec (.cbPost (.core n) v) s = .next ({ s with cb := { s.cb with stalled := s.cb.stalled ++ [⟨.core n, Src.core n, w, 0, false⟩] } })) ∧
  -- CbStalledPostAccept
  (∀ (s : State) (p : Producer) (x : Stalled),
    s.evtUp = true →
    (s.cb.stalled.find? (fun y => s.stalledFits y) = some x) →
    x.producer = p ∧ s.callInvalid x.word 0 none = false →
    s.cb.behind = [] →
    Answers (exec (.cbStalledPostAccept p) s) fun t =>
      t.fld F.CB_POST_CNT.COUNT = (s.fld F.CB_POST_CNT.COUNT + 1) % 2 ^ 64 ∧ t.cb.stalled = s.cb.stalled.erase x) ∧
  -- CbChildPost
  (∀ (s : State) (e : Engine) (v : Vector Word 8) (w : CallWord) (r : CallRec),
    s.evtUp = true ∧ s.engineRuns (engineDomain (Engine.consumer e)) = true →
    callOfBytes (wordBytes v) = w ∧ callReserved (wordBytes v) = 0 ∧ w.child = true →
    s.heldCall (Engine.consumer e) = some r →
    s.callInvalid w 0 (some (Engine.consumer e)) = false →
    s.cb.queue.length + s.cb.handed.length + s.cb.held.length < 8192 →
    Answers (exec (.cbChildPost e v) s) fun t =>
      Posted s t (Engine.consumer e).source r.slot w 0 ∧ (t.heldCall (Engine.consumer e)).map (·.resv) = some (r.resv - 1)) ∧
  -- CbStandby waits
  (∀ (s : State) (e : Engine) (cost : Word),
    s.evtUp = true ∧ s.engineRuns (engineDomain (Engine.consumer e)) = true →
    s.heldCall (Engine.consumer e) = none ∧ s.serves (Engine.consumer e) = true →
    s.cb.queue = [] ∧ s.cb.waiting.contains (Engine.consumer e) = false →
    exec (.cbStandby e cost) s = .next ({ s with cb := { s.cb with waiting := s.cb.waiting ++ [Engine.consumer e] } })) ∧
  -- CbStandby takes a call
  (∀ (s : State) (e : Engine) (cost : Word) (r : CallRec),
    s.evtUp = true ∧ s.engineRuns (engineDomain (Engine.consumer e)) = true →
    s.heldCall (Engine.consumer e) = none ∧ s.serves (Engine.consumer e) = true →
    s.cb.waiting = [] ∧ s.cb.queue = [r] →
    r.word.cls = (Engine.consumer e).cls ∧ r.word.prio < 8 ∧ (Engine.consumer e).own.contains r.list = true →
    s.fld F.CB_MODE.MODE ≠ modeTest ∧ s.portBusy (Engine.consumer e) = false →
    Answers (exec (.cbStandby e cost) s) fun t =>
      t.cb = { s.cb with queue := [], held := s.cb.held ++ [(Engine.consumer e, { r with handoff := true })] } ∧
      t.fld F.CB_DISPATCH_CNT.COUNT = (s.fld F.CB_DISPATCH_CNT.COUNT + 1) % 2 ^ 64 ∧ t.sent = s.sent) ∧
  -- CbStandby retires
  (∀ (s : State) (e : Engine) (cost : Word) (r : CallRec) (f : FrameRec) (i : Item),
    s.evtUp = true ∧ s.engineRuns (engineDomain (Engine.consumer e)) = true →
    s.heldCall (Engine.consumer e) = some r ∧ r.ran = true ∧ r.word.kind = kRenderTile →
    s.cb.queue = [] ∧ s.cb.waiting.contains (Engine.consumer e) = false ∧ s.serves (Engine.consumer e) = true →
    (s.frame? r.word.frame = some f ∧ f.plan.find? (fun x => x.num = r.word.item ∧ x.render = true) = some i) →
    Answers (exec (.cbStandby e cost) s) fun t =>
      t.heldCall (Engine.consumer e) = none ∧ t.cb.waiting = s.cb.waiting ++ [Engine.consumer e] ∧
      (t.hist (histKey true i.num)).measured = cost.toNat ∧ (t.hist (histKey true i.num)).ranBy = (Engine.consumer e).num + 1 ∧
      (t.frame? r.word.frame).any (fun g => g.plan.all (fun x => !(x.num == i.num && x.render) || x.p1 == 2)) = true) ∧
  -- CbModeWrite
  (∀ (s : State) (m : BitVec 2),
    s.evtUp = true →
    s.fld F.CB_MODE.MODE ≠ modeTest →
    s.fld F.CB_MODE.MODE ≠ modeService ∨ m.toNat = modeService ∨ (s.cb.stalled = [] ∧ s.cb.behind = []) →
    exec (.cbModeWrite m) s = .next (s.setFld F.CB_MODE.MODE m.toNat)) ∧
  -- CbModeWrite leaves SERVICE
  (∀ (s : State) (m : BitVec 2) (n : Fin 4) (x : Stalled),
    s.evtUp = true →
    m.toNat ≠ modeService ∧ s.fld F.CB_MODE.MODE = modeService →
    s.cb.stalled = [x] ∧ x.producer = .core n ∧ s.cb.behind = [] →
    Answers (exec (.cbModeWrite m) s) fun t =>
      t.fld F.CB_MODE.MODE = m.toNat ∧ t.cb = { s.cb with stalled := [] } ∧
      t.fld F.CB_REFUSED_CNT.COUNT = (s.fld F.CB_REFUSED_CNT.COUNT + 1) % 2 ^ 64 ∧ t.sent = s.sent ++ [.readData (1 + 0xFFFF * 2 ^ 16)]) ∧
  -- CbModeWrite leaves TEST
  (∀ (s : State) (m : BitVec 2),
    s.evtUp = true →
    s.fld F.CB_MODE.MODE = modeTest ∧ m.toNat ≠ modeTest →
    s.cb.queue = [] →
    exec (.cbModeWrite m) s = .next ((s.setFld F.CB_MODE.MODE m.toNat).setFld F.CB_CTRL.HOLD 0))

/-- Conditions under which these commands complete, with what they leave. CbStandbyRead of a core retires its call and waits, takes a call
and returns its slot and kind, returns the null call after a withdraw, and for another agent returns the null call and raises
CB_PORT_MISUSE. CbWithdraw ends a waiting standby with the null call, or is kept for the next. CbPostRead posts the core's word and
returns its slot; for another agent it returns INVALID. (spec/04_call_board.md (R110 to R115)) -/
def Obligations.Core_call_ports : Prop :=
  -- CbStandbyRead
  (∀ (s : State) (n : Fin 4),
    s.evtUp = true →
    s.cb.queue = [] ∧ s.cb.wdPend.contains n.val = false ∧ s.cb.waiting.contains (.sm n) = false →
    exec (.cbStandbyRead n (.core n)) s = .next ({ s with cb := { s.cb with held := s.cb.held.filter (·.1 ≠ .sm n), waiting := s.cb.waiting ++ [.sm n] }, sent := s.sent ++ [.readStalls] })) ∧
  -- CbStandbyRead takes a call
  (∀ (s : State) (n : Fin 4) (r : CallRec),
    s.evtUp = true ∧ s.pwr.state ≠ 1 →
    s.cb.waiting = [] ∧ s.cb.queue = [r] ∧ s.cb.wdPend.contains n.val = false →
    r.word.cls = clsSM ∧ r.word.prio < 8 ∧ r.list < 32 →
    ((s.cb.held.filter (·.1 ≠ .sm n)).all (fun h => !(h.2.handoff && h.1.port == 9)) = true) →
    s.fld F.CB_MODE.MODE ≠ modeTest →
    Answers (exec (.cbStandbyRead n (.core n)) s) fun t =>
      t.cb.queue = [] ∧ t.cb.held = s.cb.held.filter (·.1 ≠ .sm n) ++ [(.sm n, { r with handoff := true })] ∧
      t.sent = s.sent ++ [.readData (r.slot + r.word.kind * 2 ^ 16)] ∧
      t.fld F.CB_DISPATCH_CNT.COUNT = (s.fld F.CB_DISPATCH_CNT.COUNT + 1) % 2 ^ 64) ∧
  -- CbStandbyRead withdrawn
  (∀ (s : State) (n : Fin 4),
    s.evtUp = true →
    s.cb.wdPend.contains n.val = true →
    exec (.cbStandbyRead n (.core n)) s = .next ({ s with cb := { s.cb with held := s.cb.held.filter (·.1 ≠ .sm n), wdPend := s.cb.wdPend.filter (· ≠ n.val) }, sent := s.sent ++ [.readData 0xFFFF] })) ∧
  -- CbStandbyRead misuse
  (∀ (s : State) (n : Fin 4) (a : Agent),
    s.evtUp = true →
    a ≠ .core n →
    s.hasRoom Src.callBoard = true →
    Answers (exec (.cbStandbyRead n a) s) fun t =>
      t.sent = s.sent ++ [.readData 0xFFFF] ∧ Raises s t Src.callBoard E.CB_PORT_MISUSE [] ∧ t.cb = s.cb ∧ t.regs = s.regs) ∧
  -- CbWithdraw
  (∀ (s : State) (n : Fin 4),
    s.evtUp = true →
    s.cb.waiting.contains (.sm n) = true →
    exec (.cbWithdraw n) s = .next ({ s with cb := { s.cb with waiting := s.cb.waiting.filter (· ≠ Consumer.sm n) }, sent := s.sent ++ [.readData 0xFFFF] })) ∧
  -- CbWithdraw kept
  (∀ (s : State) (n : Fin 4),
    s.evtUp = true →
    s.cb.waiting.contains (.sm n) = false →
    exec (.cbWithdraw n) s = .next ({ s with cb := { s.cb with wdPend := insertAsc n s.cb.wdPend } })) ∧
  -- CbPostRead
  (∀ (s : State) (n : Fin 4) (w : CallWord),
    s.evtUp = true →
    callOfBytes (s.postWord n) = w ∧ callReserved (s.postWord n) = 0 ∧ w.child = false →
    s.producerStalled (.core n) = false →
    s.callInvalid w 0 none = false ∧ s.findsSpace (Src.core n) w = true →
    Answers (exec (.cbPostRead n (.core n)) s) fun t =>
      Posted s t (Src.core n) 0xFFFF w w.children ∧ t.sent.getLast? = some (.readData (s.callSlot * 2 ^ 16))) ∧
  -- CbPostRead misuse
  (∀ (s : State) (n : Fin 4) (a : Agent),
    s.evtUp = true →
    a ≠ .core n →
    exec (.cbPostRead n a) s = .next ({ s with sent := s.sent ++ [.readData (2 + 0xFFFF * 2 ^ 16)] }))

/-- Conditions under which these commands complete, with what they leave. FrameStart plans the frame, and its call is let go where no other
waits for the unit. SequencerPost posts the next item of the oldest frame, or abandons the frame with BLK_REFUSED. PageMoveComplete
copies the page and replaces it in the tables. BlkHealthWrite stores a mask; BlkHangExpiry and EngineFault clear an engine's bit with
BLK_HEALTH. ClusterPark switches an idle parked cluster off; ClusterRestore switches it on. (spec/05_blocking_unit.md (R119 to R138)) -/
def Obligations.Frame_plan_and_posts : Prop :=
  -- FrameStart
  (∀ (s : State) (r : CallRec) (f : FrameRec),
    s.evtUp = true →
    s.heldCall .blk = some r ∧ r.word.kind = kFrameStart →
    s.frame? r.word.frame = some f ∧ f.planned = false →
    Answers (exec (.frameStart) s) fun t =>
      t.rv R.BLK_LAST_FRAME = r.word.frame % 2 ^ 64 ∧ (t.frame? r.word.frame).any (·.planned) = true ∧
      (s.cb.queue.all (fun q => q.word.cls ≠ clsBLK) = true → t.heldCall .blk = none)) ∧
  -- SequencerPost
  (∀ (s : State) (f : FrameRec) (i : Item),
    s.evtUp = true →
    s.seqWaits = false ∧ nextPost s.frames = some (f, i) →
    s.callInvalid (s.itemWord f i) 0 none = false ∧ s.findsSpace Src.blocking (s.itemWord f i) = true →
    Answers (exec (.sequencerPost) s) fun t =>
      Posted s t Src.blocking 0xFFFF (s.itemWord f i) 0 ∧ t.frames = (s.markWord (s.itemWord f i)).frames) ∧
  -- SequencerPost refused
  (∀ (s : State) (f : FrameRec) (i : Item),
    s.evtUp = true →
    s.seqWaits = false ∧ nextPost s.frames = some (f, i) →
    s.callInvalid (s.itemWord f i) 0 none = false ∧ s.findsSpace Src.blocking (s.itemWord f i) = false →
    s.fld F.CB_MODE.MODE ≠ modeService ∧ s.frame? f.seq = some f ∧ s.hasRoom Src.blocking = true →
    f.phase = 1 ∨ f.phase = 2 →
    Answers (exec (.sequencerPost) s) fun t =>
      t.frames = s.frames.map (fun g => if g.seq = f.seq then { g with abandoned := true, phase := 5 } else g) ∧
      Raises s t Src.blocking E.BLK_REFUSED (words2 f.seq) ∧ t.cb = s.cb) ∧
  -- PageMoveComplete
  (∀ (s : State) (m : PageMove) (p q : Nat),
    s.evtUp = true ∧ s.powered .hbm = true →
    s.blk.moves = [m] ∧ m.obj = 0 ∧ m.pages = [p] ∧ m.units = [q] ∧ m.toSram = false →
    s.blk.waitEvac = [] ∧ s.blk.waitMig = [] →
    Answers (exec (.pageMoveComplete) s) fun t =>
      t.blk = { s.blk with
      moves := [],
      evacDone := s.blk.evacDone + (if m.evac then 65536 else 0),
      migDone := s.blk.migDone + (if m.evac then 0 else 65536) } ∧
      t.fld F.BLK_MIG_BYTES_CNT.COUNT = (s.fld F.BLK_MIG_BYTES_CNT.COUNT + 65536) % 2 ^ 64 ∧
      t.mem.hbm = (s.mem.copyUnits false [p] [q] 65536).hbm ∧ t.obj.objs = (s.replacePage p q).obj.objs ∧
      t.cmp = (s.replacePage p q).cmp ∧ t.fix = (s.replacePage p q).fix) ∧
  -- BlkHealthWrite
  (∀ (s : State) (which : Fin 3) (mask : Word),
    s.evtUp = true →
    Answers (exec (.blkHealthWrite which mask) s) fun t =>
      t.fld (healthFld which) = mask.toNat % 2 ^ (healthFld which).width) ∧
  -- BlkHangExpiry
  (∀ (s : State) (e : Engine) (r : CallRec),
    s.evtUp = true →
    s.fld F.BLK_HANG.LIMIT ≠ 0 ∧ s.heldCall (Engine.consumer e) = some r →
    bit (s.fld (healthFld (engineBit e).1)) (engineBit e).2 = true →
    s.hasRoom Src.blocking = true →
    Answers (exec (.blkHangExpiry e) s) fun t =>
      bit (t.fld (healthFld (engineBit e).1)) (engineBit e).2 = false ∧
      HasEvent s t Src.blocking E.BLK_HEALTH [(engineBit e).1, (engineBit e).2, hcHang] ∧ t.heldCall (Engine.consumer e) = none) ∧
  -- EngineFault
  (∀ (s : State) (e : Engine),
    s.evtUp = true ∧ s.engineRuns (engineDomain (Engine.consumer e)) = true →
    bit (s.fld (healthFld (engineBit e).1)) (engineBit e).2 = true →
    s.hasRoom Src.blocking = true →
    Answers (exec (.engineFault e) s) fun t =>
      bit (t.fld (healthFld (engineBit e).1)) (engineBit e).2 = false ∧
      HasEvent s t Src.blocking E.BLK_HEALTH [(engineBit e).1, (engineBit e).2, hcFault] ∧ t.cmp.faulted = insertAsc (faultNum e) s.cmp.faulted) ∧
  -- ClusterPark
  (∀ (s : State) (k : Fin 8),
    s.evtUp = true →
    s.blk.parked.contains k.val = true ∧ s.clusterIdle k = true ∧ s.powered (.eng k) = true →
    exec (.clusterPark k) s = .next ({ s with off := s.off ++ [Domain.eng k], blk := { s.blk with parkReq := none } })) ∧
  -- ClusterRestore
  (∀ (s : State) (k : Fin 8),
    s.evtUp = true →
    s.blk.restoreReq = some k.val ∧ s.blk.parked.contains k.val = true →
    Answers (exec (.clusterRestore k) s) fun t =>
      t.off = s.off.filter (· ≠ Domain.eng k) ∧ t.blk = { s.blk with restoreReq := none, parked := s.blk.parked.filter (· ≠ k.val) })

/-- Conditions under which these commands complete, with what they leave. CalCompileRoots begins a compile of a CALSTORE; CalCompileCall
writes one lamp's record to the bank not in use. RenderTile composites a tile and holds it; TileWriteback stores the held tile's bytes
and changes no byte of another page. FixturePass1 counts the lamps or fixtures it evaluates. FixturePass2 passes on, or writes dark
drive records, as the frame's outcome says. What drive values are (R186 to R221) is no part of it. (spec/06_composition.md (R139 to R161); spec/08_fixtures_colour.md (R185 to R221)) -/
def Obligations.Engine_calls : Prop :=
  -- CalCompileRoots
  (∀ (s : State) (r : CallRec) (rest : List CallRec),
    s.evtUp = true →
    s.cb.handed = r :: rest ∧ s.live r.word.arg0 = true ∧ s.fix.comps = [] →
    Answers (exec (.calCompileRoots) s) fun t =>
      t.cb.handed = rest ∧ (t.comp? (handleIdx r.word.arg0)).map (·.handle) = some r.word.arg0) ∧
  -- CalCompileCall
  (∀ (s : State) (n : Fin 32) (r : CallRec) (c : CompSt) (o : Obj),
    s.evtUp = true ∧ s.engineRuns (engineDomain (.fe n)) = true →
    s.toRun (.fe n) kCalCompile = some r ∧ s.comp? (handleIdx r.word.arg0) = some c ∧ s.obj? (handleIdx r.word.arg0) = o →
    c.handle = r.word.arg0 ∧ c.phase = 1 ∧ r.word.arg3 = 0 ∧ r.word.children = 0 ∧ r.word.arg2 = 1 →
    (s.consumeAll ((binCws o r.word.arg1).dedup)).2 = [] →
    s.fld F.OBJ_INJECT.MODE = 0 →
    ((List.range (calRecord (calEmitters o.param))).map (recordPlace o (1 - (s.cal (handleIdx r.word.arg0)).bank) r.word.arg1)).Nodup →
    Answers (exec (.calCompileCall n) s) fun t =>
      (t.heldCall (.fe n)).map (·.ran) = some true ∧
      (List.range (calRecord (calEmitters o.param))).map (fun k => t.mem.byte (recordPlace o (1 - (s.cal (handleIdx r.word.arg0)).bank) r.word.arg1 k)) =
      (List.range (calRecord (calEmitters o.param))).map (fun k => (compileRecord (s.lampData o r.word.arg1)).getD k 0)) ∧
  -- RenderTile
  (∀ (s : State) (n : Fin 16) (r : CallRec) (f : FrameRec),
    s.evtUp = true ∧ s.engineRuns (engineDomain (.re n)) = true →
    s.toRun (.re n) kRenderTile = some r ∧ (s.heldTiles n).length < 7 ∧ s.frame? r.word.frame = some f →
    Answers (exec (.renderTile n) s) fun t =>
      t.heldTiles n = s.heldTiles n ++ [⟨r.word.item, r.word.frame, (s.composite f r.word.item).2⟩] ∧
      t.fld F.CMP_TILE_CNT.COUNT = (s.fld F.CMP_TILE_CNT.COUNT + 1) % 2 ^ 64 ∧ (t.heldCall (.re n)).map (·.ran) = some true) ∧
  -- TileWriteback
  (∀ (s : State) (n : Fin 16) (h : HeldTile) (rest : List HeldTile) (f : FrameRec) (p : TileSt),
    s.evtUp = true ∧ s.engineRuns (engineDomain (.re n)) = true →
    s.heldTiles n = h :: rest ∧ s.fenceOver h = true →
    s.frame? h.frame = some f ∧ f.snap.tiles.get none h.item = some p →
    p.page0 ≠ p.page1 ∧ h.bytes.length ≤ 131072 ∧ s.fld F.OBJ_INJECT.MODE = 0 →
    Answers (exec (.tileWriteback n) s) fun t =>
      t.heldTiles n = rest ∧ (∀ k < h.bytes.length, t.mem.byte (p.place k) = h.bytes.getD k 0) ∧
      (∀ a, a / 65536 ≠ p.page0 → a / 65536 ≠ p.page1 → t.mem.byte (.hbm a) = s.mem.byte (.hbm a)) ∧ t.mem.sram = s.mem.sram ∧
      (t.frame? h.frame).map (·.tiles) = some (f.tiles ++ [h.item])) ∧
  -- FixturePass1 lamps
  (∀ (s : State) (n : Fin 32) (r : CallRec) (f : FrameRec),
    s.evtUp = true ∧ s.engineRuns (engineDomain (.fe n)) = true →
    s.toRun (.fe n) kPass1 = some r ∧ s.frame? r.word.frame = some f ∧ isRange r.word.item = false →
    Answers (exec (.fixturePass1 n) s) fun t =>
      t.fld F.FIX_LAMP_CNT.COUNT = (s.fld F.FIX_LAMP_CNT.COUNT + r.word.arg2) % 2 ^ 64 ∧ (t.heldCall (.fe n)).map (·.ran) = some true) ∧
  -- FixturePass1 range
  (∀ (s : State) (n : Fin 32) (r : CallRec) (f : FrameRec),
    s.evtUp = true ∧ s.engineRuns (engineDomain (.fe n)) = true →
    s.toRun (.fe n) kPass1 = some r ∧ s.frame? r.word.frame = some f ∧ isRange r.word.item = true →
    Answers (exec (.fixturePass1 n) s) fun t =>
      t.fld F.FIX_FIXTURE_CNT.COUNT = (s.fld F.FIX_FIXTURE_CNT.COUNT + (f.rangeFixtures r.word.item).length) % 2 ^ 64 ∧
      (t.heldCall (.fe n)).map (·.ran) = some true) ∧
  -- FixturePass2 passes
  (∀ (s : State) (n : Fin 32) (r : CallRec) (f : FrameRec),
    s.evtUp = true ∧ s.engineRuns (engineDomain (.fe n)) = true →
    s.toRun (.fe n) kPass2 = some r ∧ s.frame? r.word.frame = some f ∧ isRange r.word.item = false →
    f.outcome (Sf.feed (f.cfg.entry tSurface (r.word.item / 1024))) = outPass →
    exec (.fixturePass2 n) s = .next (s.markRan (.fe n))) ∧
  -- FixturePass2 dark
  (∀ (s : State) (n : Fin 32) (r : CallRec) (f : FrameRec),
    s.evtUp = true ∧ s.engineRuns (engineDomain (.fe n)) = true →
    s.toRun (.fe n) kPass2 = some r ∧ s.frame? r.word.frame = some f ∧ isRange r.word.item = false ∧ r.word.arg2 = 1 →
    f.outcome (Sf.feed (f.cfg.entry tSurface (r.word.item / 1024))) = outDark →
    Answers (exec (.fixturePass2 n) s) fun t =>
      t.driveRec (r.word.item / 1024) r.word.arg1 (1 - s.itemBank r.word.item) =
      darkDrive (padTo ((s.driveRec (r.word.item / 1024) r.word.arg1 (1 - s.itemBank r.word.item)).length)
      (s.driveRead (r.word.item / 1024) r.word.arg1 (s.itemBank r.word.item))) ∧
      (t.heldCall (.fe n)).map (·.ran) = some true ∧ t.regs = s.regs ∧ t.mem = s.mem ∧ t.evt = s.evt)

/-- Conditions under which these commands complete, with what they leave. CueDeadline adds the next frame of the schedule, takes the cues
due and, where all is quiet, posts its FRAME_START. SendDeadline marks the oldest frame; one whose plan is not finished is late, its
unposted items are discarded and counted and FRAME_LATE is raised. Presentation of the oldest frame past its send deadline removes it,
gives its number in TIM_FRAME_SEQ and completes its CUE with OK or LATE. TdmWaitExpiry lets the waiting frame go on alone. (spec/03_show_time.md (R88 to R97); spec/01_frame_journey.md (R23 to R27)) -/
def Obligations.Frame_deadlines : Prop :=
  -- CueDeadline
  (∀ (s : State),
    s.showRuns = true ∧ s.time.sched.running = true →
    s.understudy = false ∧ s.mirrors = false →
    (s.frames.all (fun g => decide (g.seq < s.time.sched.seq)) = true) →
    Answers (exec (.cueDeadline) s) fun t =>
      t.frames.map (·.seq) = s.frames.map (·.seq) ++ [s.time.sched.seq] ∧
      t.cues = s.cues.filter (fun c => !c.dueIn (s.time.sched.instant s.time.sched.k).toNat) ∧
      t.time.lastClosed = some (s.time.sched.instant s.time.sched.k).toNat) ∧
  -- CueDeadline posts
  (∀ (s : State) (w : CallWord),
    s.showRuns = true ∧ s.time.sched.running = true →
    s.understudy = false ∧ s.mirrors = false →
    s.cues = [] ∧ s.sacnDue = false →
    s.producerStalled .schedule = false ∧ s.cb.queue = [] ∧ s.cb.held = [] ∧ s.cb.handed = [] ∧ s.cb.waiting = [] →
    0 < s.fld F.CB_LIST_CAP.CAP →
    w = ⟨kFrameStart, clsBLK, 7, 0, false, false, 0, Src.trigger, 0xFFFF, s.time.sched.seq, nsOf (s.time.sched.instant s.time.sched.k).toNat, secOf (s.time.sched.instant s.time.sched.k).toNat % 2 ^ 32, secOf (s.time.sched.instant s.time.sched.k).toNat / 2 ^ 32 % 2 ^ 16, 0⟩ →
    Answers (exec (.cueDeadline) s) fun t =>
      t.time.sched = { s.time.sched with k := s.time.sched.k + 1, seq := s.time.sched.seq + 1, given := s.time.sched.seq, numbered := true } ∧
      t.cb.queue.map (·.word) = [w] ∧ t.fld F.CB_POST_CNT.COUNT = (s.fld F.CB_POST_CNT.COUNT + 1) % 2 ^ 64) ∧
  -- SendDeadline
  (∀ (s : State) (f : FrameRec),
    s.evtUp = true →
    (s.frames.find? (fun g => !g.sendPassed) = some f) →
    Answers (exec (.sendDeadline) s) fun t =>
      (t.frame? f.seq).any (·.sendPassed) = true ∧ t.frames.map (·.seq) = s.frames.map (·.seq)) ∧
  -- SendDeadline discards
  (∀ (s : State) (f : FrameRec),
    s.evtUp = true →
    s.frames = [f] ∧ f.sendPassed = false ∧ f.phase < 4 ∧ f.late = false →
    (f.plan.filter Item.unposted).length ≠ 0 →
    s.hasRoom Src.trigger = true →
    Answers (exec (.sendDeadline) s) fun t =>
      (t.frame? f.seq).any (fun g => g.abandoned && g.late) = true ∧
      Counts s t F.BLK_DISCARD_CNT.COUNT (f.plan.filter Item.unposted).length ∧ Counts s t F.TIM_FRAME_LATE_CNT.COUNT 1 ∧
      (t.evt.raised.any (fun e => e.source == Src.trigger && e.code == E.FRAME_LATE && e.house == s.time.house)) = true) ∧
  -- Presentation
  (∀ (s : State) (f : FrameRec),
    s.evtUp = true →
    s.frames.head? = some f ∧ f.sendPassed = true →
    Answers (exec (.presentation) s) fun t =>
      t.frames.map (·.seq) = (s.frames.filter (fun x => x.seq ≠ f.seq)).map (·.seq) ∧ t.rv R.TIM_FRAME_SEQ = f.seq % 2 ^ 64) ∧
  -- Presentation completes the frame's CUE
  (∀ (s : State) (f : FrameRec) (id : Nat) (e : StoreEntry),
    s.evtUp = true →
    s.frames.head? = some f ∧ f.sendPassed = true ∧ f.abandoned = false ∧ f.phase = 4 ∧ (f.dropped = [] ∨ f.late = true) →
    f.cues = [id] ∧ s.entry? id = some e →
    Answers (exec (.presentation) s) fun t =>
      Finished t e (if f.late then St.late else St.ok) (f.seq % 2 ^ 32)) ∧
  -- TdmWaitExpiry
  (∀ (s : State) (f : FrameRec),
    s.evtUp = true →
    (s.waitingFrame = some f ∧ (s.frames.filter (·.waits)).all (fun g => g.seq == f.seq) = true) →
    s.hasRoom Src.tandem = true →
    Answers (exec (.tdmWaitExpiry) s) fun t =>
      (t.frame? f.seq).any (fun g => g.alone && !g.waits) = true ∧ Counts s t F.TDM_LATE_CNT.COUNT 1 ∧ HasEvent s t Src.tandem E.TDM_LATE [])

/-- Conditions under which these commands complete, with what they leave. PushPassBegin begins the pass of a link for the next frame.
UnitWalk hashes the next unit of a pass. RegionSend sends the first buffered unit with the link's next sequence number. AckReceived of
the hash sent makes the unit stored, of another is stale. AckWaitTimeout sends again, or gives up with PUSH_NO_ACK. GoSend sends the GO
of the oldest finished frame. PshForget marks the link. SptHistRead returns the first word and holds the rest. (spec/07_region_push.md (R162 to R184)) -/
def Obligations.Push_passes : Prop :=
  -- PushPassBegin
  (∀ (s : State) (l : LinkIx) (f : FrameRec),
    s.evtUp = true →
    s.passOf l = none ∧ s.nextPass l = some f →
    Answers (exec (.pushPassBegin l) s) fun t =>
      (t.frame? f.seq).any (·.begun.contains l.val) = true ∧
      t.fld (F.PSH_UNITS.COUNT l) = ((s.atSnap f).walkUnits f.cfg l).length % 2 ^ (F.PSH_UNITS.COUNT l).width) ∧
  -- UnitWalk
  (∀ (s : State) (l : LinkIx) (p : PassSt) (f : FrameRec) (k : Nat),
    s.evtUp = true →
    s.passOf l = some p ∧ s.frame? p.frame = some f ∧ p.bufferFree = true ∧ p.units[p.next]? = some k →
    Answers (exec (.unitWalk l) s) fun t =>
      (t.frame? p.frame).map (fun g => g.hashes.get [] l) = some (f.hashes.get [] l ++ [unitHash (s.unitData f p.funcOff l k)]) ∧
      (t.passOf l).all (fun q => q.next == p.next + 1) = true) ∧
  -- RegionSend
  (∀ (s : State) (l : LinkIx) (p : PassSt) (f : FrameRec) (u : UnitBuf) (rest : List UnitBuf),
    s.linkTalks l = true ∧ s.linkActive l = true →
    s.passOf l = some p ∧ p.sendQ = u :: rest ∧ s.frame? p.frame = some f →
    s.isHead f = true ∧ (s.link l).wait = [] ∧ s.mayBuffer l (regionPayload f u) = true →
    Answers (exec (.regionSend l) s) fun t =>
      t.sent = s.sent ++ .linkFrame l ltRegion (s.claimOn l) (s.link l).txSeq (regionPayload f u) ::
      s.blockWords l (frameBlocks ltRegion (s.claimOn l) (s.link l).txSeq (regionPayload f u)) ∧
      (t.link l).txSeq = ((s.link l).txSeq + 1) % 65536 ∧
      (t.link l).costs = (s.link l).costs ++ [((s.link l).txSeq, frameCost (regionPayload f u))] ∧
      (u.off = 0 → (t.push l).units.get unitNone u.key = ⟨some (unitHash u.data), none, f.cfg.unitNode u.key⟩)) ∧
  -- AckReceived
  (∀ (s : State) (l : LinkIx) (h : UpHdr) (node : BitVec 16) (kind : Byte) (stored : Bool) (id : Word) (hash : BitVec 64) (k : Nat),
    s.linkTalks l = true →
    ackKey kind.toNat id.toNat node.toNat = some k ∧ (s.push l).walked.contains (k, node.toNat) = true →
    ((s.push l).units.get unitNone k).sent = some hash.toNat →
    Answers (exec (.ackReceived l h node kind stored id hash) s) fun t =>
      (t.push l).units.get unitNone k = ⟨none, if stored then some hash.toNat else none, ((s.push l).units.get unitNone k).node⟩ ∧
      Counts s t (F.CL_RX_FRAME_CNT.COUNT l) 1) ∧
  -- AckReceived stale
  (∀ (s : State) (l : LinkIx) (h : UpHdr) (node : BitVec 16) (kind : Byte) (stored : Bool) (id : Word) (hash : BitVec 64),
    s.linkTalks l = true →
    ((ackKey kind.toNat id.toNat node.toNat).all (fun k => !((s.push l).walked.contains (k, node.toNat) &&
      ((s.push l).units.get unitNone k).sent == some hash.toNat)) = true) →
    Answers (exec (.ackReceived l h node kind stored id hash) s) fun t =>
      (t.push l).units = (s.push l).units ∧ Counts s t (F.PSH_STALE_CNT.COUNT l) 1) ∧
  -- AckWaitTimeout
  (∀ (s : State) (l : LinkIx) (p : PassSt) (f : FrameRec) (u : UnitBuf) (rest : List UnitBuf),
    s.evtUp = true →
    s.passOf l = some p ∧ p.waiting = u :: rest ∧ s.frame? p.frame = some f →
    p.caught = false ∧ u.retries < Ps.retries (f.cfg.entry tPush l) →
    Answers (exec (.ackWaitTimeout l) s) fun t =>
      t.passOf l = some { p with waiting := rest, sendQ := p.sendQ ++ [newBuf u.key u.data true (u.retries + 1)] } ∧
      t.regs = s.regs ∧ t.evt = s.evt ∧ t.frames = s.frames) ∧
  -- AckWaitTimeout gives up
  (∀ (s : State) (l : LinkIx) (p : PassSt) (f : FrameRec) (u : UnitBuf) (rest : List UnitBuf),
    s.evtUp = true →
    s.passOf l = some p ∧ p.waiting = u :: rest ∧ s.frame? p.frame = some f →
    p.caught = false ∧ Ps.retries (f.cfg.entry tPush l) ≤ u.retries ∧ (s.push l).noAckTold = false →
    s.hasRoom Src.psh = true →
    Answers (exec (.ackWaitTimeout l) s) fun t =>
      t.passOf l = some { p with waiting := rest, failed := p.failed ++ [u.key] } ∧ Raises s t Src.psh E.PUSH_NO_ACK [] ∧ t.regs = s.regs) ∧
  -- GoSend
  (∀ (s : State) (l : LinkIx) (f : FrameRec),
    s.linkTalks l = true ∧ s.linkActive l = true ∧ s.curtainOn l = false →
    s.frames.head? = some f ∧ f.finished.contains l.val = true ∧ f.goSent.contains l.val = false ∧ f.sendPassed = false →
    Tm.dropAll (f.cfg.entry tTiming 0) = false →
    Answers (exec (.goSend l) s) fun t =>
      t.sent = s.sent ++ .linkFrame l ltGo (s.claimOn l) (s.link l).txSeq (goPayload f) ::
      s.blockWords l (frameBlocks ltGo (s.claimOn l) (s.link l).txSeq (goPayload f)) ∧
      (t.frame? f.seq).any (·.goSent.contains l.val) = true ∧ t.evt = s.evt) ∧
  -- PshForget
  (∀ (s : State) (l : LinkIx),
    s.evtUp = true →
    Answers (exec (.pshForget l) s) fun t =>
      (t.push l).forget = true ∧ (t.push l).units = (s.push l).units ∧ t.regs = s.regs ∧ t.frames = s.frames) ∧
  -- SptHistRead
  (∀ (s : State) (w : Fin 48),
    s.evtUp = true →
    Answers (exec (.sptHistRead w) s) fun t =>
      t.sent = s.sent ++ [.readData (s.rv (R.SPT_HIST w 0) % 2 ^ 32)] ∧ t.regs = s.regs ∧
      t.spt.get [] w = (List.range 8).map (fun k => s.rv (R.SPT_HIST w k)))

/-- Conditions under which these commands complete, with what they leave. SigFrameStart begins the periods of a frame on a port, or marks a
bypass fault. SigSlot drives the bypass word of a disabled port, the PWM word of a slot, the Curtain's word, or takes the result of a
test. LmpFuncOffClear turns a function on unless an element of it is still failed. LmpFailedClear and SigClear take elements out of the
failed list. FaultReceived from a node adds an element with LAMP_FAULT. (spec/09_lamp_drive.md (R222 to R234)) -/
def Obligations.Lamp_elements_and_ports : Prop :=
  -- SigFrameStart
  (∀ (s : State) (n : Ix16) (x : SigFrame),
    s.evtUp = true →
    s.flag (F.SIG_CFG.ENABLE n) = true ∧ s.understudy = false ∧ s.cur.retSig.contains n.val = false ∧ s.sigCurtain n = false →
    (((s.sigSt n).next.filter (fun y => decide (y.frame ≤ s.fld F.TIM_FRAME_SEQ.SEQ))).getLast? = some x) →
    Answers (exec (.sigFrameStart n []) s) fun t =>
      (t.sigSt n).cur = some x ∧ (t.sigSt n).left = s.sigPeriods n x.prof ∧ (t.sigSt n).running = false ∧
      t.fld (F.SIG_STATE.ACTIVE n) = b2n (decide (0 < s.sigPeriods n x.prof)) ∧
      t.sent = s.sent ++ [.sigWord n (if s.flag (F.SIG_CFG.BYP_POL n) then 0xFFFF else 0) true] ∧ t.evt = s.evt) ∧
  -- SigFrameStart bypass fault
  (∀ (s : State) (n : Ix16) (x : SigFrame) (v : SenseCode),
    s.evtUp = true →
    s.flag (F.SIG_CFG.ENABLE n) = true ∧ s.understudy = false ∧ s.cur.retSig.contains n.val = false ∧ s.sigCurtain n = false →
    (((s.sigSt n).next.filter (fun y => decide (y.frame ≤ s.fld F.TIM_FRAME_SEQ.SEQ))).getLast? = some x) →
    s.fld (F.SIG_THRESH.SHORT n) < v.toNat ∧ s.hasRoom (Src.sig n) = true →
    Answers (exec (.sigFrameStart n [v]) s) fun t =>
      t.fld (F.SIG_STATE.BYPASS_FAULT n) = 1 ∧ Raises s t (Src.sig n) E.SIG_BYPASS_FAULT [] ∧ (t.sigSt n).left = s.sigPeriods n x.prof) ∧
  -- SigSlot off
  (∀ (s : State) (n : Ix16) (v : SenseCode),
    s.evtUp = true →
    s.flag (F.SIG_CFG.ENABLE n) = false ∧ s.sigCurtain n = false →
    Answers (exec (.sigSlot n v) s) fun t =>
      t.sent = s.sent ++ [.sigWord n (if s.flag (F.SIG_CFG.BYP_POL n) then 0xFFFF else 0) false] ∧ t.fld (F.SIG_STATE.ACTIVE n) = 0 ∧ t.sig = s.sig ∧ t.evt = s.evt) ∧
  -- SigSlot PWM
  (∀ (s : State) (n : Ix16) (v : SenseCode) (x : SigFrame),
    s.evtUp = true →
    s.flag (F.SIG_CFG.ENABLE n) = true ∧ s.understudy = false ∧ s.sigCurtain n = false →
    (s.sigSt n).cur = some x ∧ (s.sigSt n).running = true ∧ (s.sigSt n).slot < pwmSlots x.prof →
    Answers (exec (.sigSlot n v) s) fun t =>
      t.sent = s.sent ++ [.sigWord n (if s.flag (F.SIG_CFG.BYP_POL n)
      then maskOf ((List.range 16).filter (fun p => !((List.range 16).filter (fun q => decide ((s.sigSt n).slot < (s.sigSt n).pwm.get 0 q) && !s.sigHeld n q)).contains p))
      else 0xFFFF - maskOf ((List.range 16).filter (fun p => !((List.range 16).filter (fun q => decide ((s.sigSt n).slot < (s.sigSt n).pwm.get 0 q) && !s.sigHeld n q)).contains p))) true] ∧
      (t.sigSt n).slot = (s.sigSt n).slot + 1 ∧ t.evt = s.evt) ∧
  -- SigSlot test
  (∀ (s : State) (n : Ix16) (v : SenseCode) (x : SigFrame) (p : Nat) (rest : List Nat),
    s.evtUp = true →
    s.flag (F.SIG_CFG.ENABLE n) = true ∧ s.understudy = false ∧ s.sigCurtain n = false →
    (s.sigSt n).cur = some x ∧ (s.sigSt n).running = true ∧ pwmSlots x.prof ≤ (s.sigSt n).slot →
    (s.sigSt n).tests = p :: rest ∧ testSlots x.prof ≤ (s.sigSt n).tslot + 1 ∧ s.sigHeld n p = false ∧ p < 16 →
    Answers (exec (.sigSlot n v) s) fun t =>
      t.fld (F.SIG_SENSE_LAST.CODE n) = v.toNat ∧ t.fld (F.SIG_SENSE_LAST.POSITION n) = p ∧
      t.fld (F.SIG_SENSE_LAST.RESULT n) = (if s.fld (F.SIG_THRESH.OPEN n) ≤ v.toNat then resOpen else if v.toNat ≤ s.fld (F.SIG_THRESH.SHORT n) then resShort else resOk) ∧
      Counts s t (F.SIG_TEST_CNT.COUNT n) 1 ∧ Counts s t F.LMP_TEST_CNT.COUNT 1 ∧ (t.sigSt n).tests = rest) ∧
  -- SigSlot Curtain
  (∀ (s : State) (n : Ix16) (v : SenseCode),
    s.evtUp = true →
    s.understudy = false ∧ s.sigCurtain n = true →
    Answers (exec (.sigSlot n v) s) fun t =>
      t.sent = (s.curtainWord n).sent ∧ (t.sigSt n).tests = [] ∧ t.regs = s.regs ∧ t.evt = s.evt) ∧
  -- LmpFuncOffClear
  (∀ (s : State) (f : Fin 64) (mask : BitVec 64),
    s.evtUp = true →
    mask.toNat = 2 ^ f.val ∧ s.funcIsOff f = true →
    (s.failed.any (fun e => s.funcOf e.surface = f) = false) →
    Answers (exec (.lmpFuncOffClear mask) s) fun t =>
      t.fld F.LMP_FUNC_OFF.FUNC = s.fld F.LMP_FUNC_OFF.FUNC - 2 ^ f.val ∧ t.lmp = s.lmp ∧ t.evt = s.evt) ∧
  -- LmpFuncOffClear still failed
  (∀ (s : State) (f : Fin 64) (mask : BitVec 64),
    s.evtUp = true →
    mask.toNat = 2 ^ f.val ∧ s.flag F.LMP_CTRL.FUNC_EN = true →
    (s.failed.any (fun e => s.funcOf e.surface = f) = true) →
    exec (.lmpFuncOffClear mask) s = .next (s)) ∧
  -- LmpFailedClear node
  (∀ (s : State) (i : BitVec 10) (e : FailEnt),
    s.evtUp = true →
    s.lmp.fails.get none i.toNat = some e ∧ e.node = true →
    Answers (exec (.lmpFailedClear i) s) fun t =>
      t.lmp = (s.dropFailed (fun x => x == e)).lmp ∧ (t.link e.link).clears.contains (.elemClear e.surface e.lamp e.emitter) = true ∧ t.evt = s.evt) ∧
  -- LmpFailedClear port
  (∀ (s : State) (i : BitVec 10) (e : FailEnt),
    s.evtUp = true →
    s.lmp.fails.get none i.toNat = some e ∧ e.node = false ∧ s.sigFailed e.port e.pos = true ∧ e.port < 16 ∧ e.pos < 16 →
    Answers (exec (.lmpFailedClear i) s) fun t =>
      t.sigFailed e.port e.pos = false ∧ (t.sigSt e.port).firstDue = insertAsc e.pos (s.sigSt e.port).firstDue ∧ t.evt = s.evt ∧ t.sent = s.sent) ∧
  -- SigClear
  (∀ (s : State) (n : Ix16) (mask : BitVec 16),
    s.evtUp = true →
    Answers (exec (.sigClear n mask) s) fun t =>
      ∀ p : Fin 16, t.sigFailed n p = (s.sigFailed n p && !bit mask.toNat p)) ∧
  -- FaultReceived
  (∀ (s : State) (l : LinkIx) (h : UpHdr) (node surface : BitVec 16) (lamp : Word) (em res : Byte) (e : FailEnt),
    s.linkTalks l = true →
    e = ⟨surface.toNat % 4096, lamp.toNat % 2 ^ 26, em.toNat % 8, res.toNat, true, l, 0, 0⟩ →
    (s.failed.any (fun x => FailEnt.same x e) = false) →
    ((List.range 1024).any (fun i => (s.lmp.fails.get none i).isNone) = true) →
    s.hasRoom Src.lmp = true →
    Answers (exec (.faultReceived l h node surface lamp em res) s) fun t =>
      t.failed.contains e = true ∧ HasEvent s t Src.lmp E.LAMP_FAULT [e.surface, e.lamp, e.emitter, e.result] ∧
      Counts s t (F.CL_RX_FRAME_CNT.COUNT l) 1)

/-- Conditions under which these commands complete, with what they leave: the states that LinkEnable, LinkProbe, LinkClockLocked,
LinkBlockLock, LinkAlignClean, LinkDisable, LinkRetrain, TrainTimeLimit, LinkPartnerLost and BlockLockLoss lead to, the counters they
advance, what their lanes carry, the calibrations they accept or reject, and the events LINK_ABSENT, LINK_TRAIN_FAIL, LINK_UNPLUG and
LINK_DOWN they raise. The cause code of LINK_DOWN is a constant of Config without a value (an open value of the spec). (spec/10_cheane_link.md (R257 to R271)) -/
def Obligations.Link_training : Prop :=
  -- LinkEnable
  (∀ (s : State) (l : AnyLink),
    s.linkUp l = true →
    s.linkState l = lkDisabled →
    Answers (exec (.linkEnable l) s) fun t =>
      t.linkState l = lkDetect ∧ t.fld (F.CL_CTRL.EN l) = 1 ∧ (∀ k : Fin 3, t.fld (F.CL_TXL_GEN.EN l k) = 0) ∧
      (∀ k : Fin 2, t.fld (F.CL_RXL_CHK.EN l k) = 0) ∧ t.sent = s.sent ++ [.lane l 0 .idle, .lane l 1 .idle, .lane l 2 .idle, .txClock l false] ∧ t.evt = s.evt) ∧
  -- LinkEnable again
  (∀ (s : State) (l : AnyLink),
    s.linkUp l = true →
    s.linkState l ≠ lkDisabled →
    Answers (exec (.linkEnable l) s) fun t =>
      t.linkState l = s.linkState l ∧ t.fld (F.CL_CTRL.EN l) = 1 ∧ (∀ k : Fin 3, t.fld (F.CL_TXL_GEN.EN l k) = 0 ∧ t.fld (F.CL_TXL_GEN.LOOP l k) = 0) ∧
      (∀ k : Fin 2, t.fld (F.CL_RXL_CHK.EN l k) = 0) ∧ t.sent = s.sent ∧ t.evt = s.evt) ∧
  -- LinkDisable
  (∀ (s : State) (l : AnyLink),
    s.linkUp l = true →
    s.linkActive l = true ∧ s.hasRoom (Src.link l) = true →
    Answers (exec (.linkDisable l) s) fun t =>
      t.linkState l = lkDisabled ∧ t.fld (F.CL_CTRL.EN l) = 0 ∧ t.fld (F.CL_DELAY.VALUE l) = 0 ∧
      t.laneStreams l 0 0 <:+ t.sent ∧ Counts s t (F.CL_DOWN_CNT.COUNT l) 1 ∧
      Raises s t (Src.link l) E.LINK_DOWN [Config.causeCode E.LINK_DOWN downDisable]) ∧
  -- LinkDisable not ACTIVE
  (∀ (s : State) (l : AnyLink),
    s.linkUp l = true →
    s.linkActive l = false →
    Answers (exec (.linkDisable l) s) fun t =>
      t.linkState l = lkDisabled ∧ t.fld (F.CL_CTRL.EN l) = 0 ∧ t.fld (F.CL_DELAY.VALUE l) = 0 ∧
      t.laneStreams l 0 0 <:+ t.sent ∧ t.evt = s.evt ∧ t.fld (F.CL_DOWN_CNT.COUNT l) = s.fld (F.CL_DOWN_CNT.COUNT l)) ∧
  -- LinkRetrain
  (∀ (s : State) (l : AnyLink),
    s.linkUp l = true →
    s.linkActive l = true ∧ s.hasRoom (Src.link l) = true →
    Answers (exec (.linkRetrain l) s) fun t =>
      t.linkState l = lkClock ∧ Counts s t (F.CL_DOWN_CNT.COUNT l) 1 ∧ t.laneStreams l 0 0 <:+ t.sent ∧
      Raises s t (Src.link l) E.LINK_DOWN [Config.causeCode E.LINK_DOWN downRetrain]) ∧
  -- LinkRetrain ignored
  (∀ (s : State) (l : AnyLink),
    s.linkUp l = true →
    s.linkState l < lkClock →
    exec (.linkRetrain l) s = .next (s)) ∧
  -- LinkProbe found
  (∀ (s : State) (l : AnyLink),
    s.linkUp l = true →
    s.linkState l = lkDetect →
    Answers (exec (.linkProbe l true) s) fun t =>
      t.linkState l = lkClock ∧ t.fld (F.CL_STATE.ABSENT l) = 0 ∧ t.downLane l 0 = 0 ∧ t.downLane l 1 = 1 ∧
      t.sent = s.sent ++ t.laneStreams l 0 0 ∧ t.evt = s.evt) ∧
  -- LinkProbe missed
  (∀ (s : State) (l : AnyLink),
    s.linkUp l = true →
    s.linkState l = lkDetect ∧ (s.link l).absentTold = false ∧ s.flag (F.CL_CTRL.EXPECTED l) = true →
    s.hasRoom (Src.link l) = true →
    Answers (exec (.linkProbe l false) s) fun t =>
      t.linkState l = lkDetect ∧ t.fld (F.CL_STATE.ABSENT l) = 1 ∧ Raises s t (Src.link l) E.LINK_ABSENT [] ∧
      (t.link l).absentTold = true ∧ t.sent = s.sent) ∧
  -- LinkClockLocked
  (∀ (s : State) (l : AnyLink) (p q : BitVec 6),
    s.linkUp l = true →
    s.linkState l = lkClock →
    Answers (exec (.linkClockLocked ⟨l, p, q⟩) s) fun t =>
      t.linkState l = lkAlign ∧ t.fld (F.CL_RXL_SETTINGS.PHASE l 0) = p.toNat ∧ t.fld (F.CL_RXL_SETTINGS.PHASE l 1) = q.toNat ∧
      t.sent = s.sent ++ t.laneStreams l 0 (s.freeVal % 65536) ∧ t.evt = s.evt) ∧
  -- LinkBlockLock
  (∀ (s : State) (l : AnyLink) (h0 h1 : List (BitVec 2)) (x : Block) (a b c d : LaneRun) (pa pb pc pd : Nat),
    s.linkUp l = true ∧ s.nodeSide l = false →
    s.linkState l = lkAlign ∧ headLock h0 = true ∧ headLock h1 = true ∧ alignFlag x 0 = true →
    a.whole = true ∧ b.whole = true ∧ c.whole = true ∧ d.whole = true →
    a.phases = [pa] ∧ b.phases = [pb] ∧ c.phases = [pc] ∧ d.phases = [pd] →
    runsAgree (a.settings pa) (b.settings pb) = true ∧ runsAgree (c.settings pc) (d.settings pd) = false →
    Answers (exec (.linkBlockLock ⟨l, h0, h1, x, a, b, c, d⟩) s) fun t =>
      t.linkState l = lkReturn ∧ Counts s t (F.CL_RXL_CAL_COUNT.COUNT l 0) 1 ∧ Counts s t (F.CL_RXL_CAL_REJECT.COUNT l 1) 1 ∧
      t.rv (R.CL_RXL_SETTINGS l 0) = b.settings pb ∧ t.rv (R.CL_RXL_SETTINGS l 1) = s.rv (R.CL_RXL_SETTINGS l 1) ∧
      t.fld (F.CL_RXL_CAL_LAST.HOUSE l 0) = s.time.house % 2 ^ (F.CL_RXL_CAL_LAST.HOUSE l 0).width ∧
      (∀ k : Fin 3, Counts s t (F.CL_TXL_CAL_COUNT.COUNT l k) 1) ∧ t.evt = s.evt ∧ t.sent = s.sent) ∧
  -- LinkAlignClean
  (∀ (s : State) (l : AnyLink),
    s.linkUp l = true ∧ s.nodeSide l = false →
    s.linkState l = lkReturn →
    Answers (exec (.linkAlignClean l) s) fun t =>
      t.linkState l = lkDelay ∧ (t.link l).txSeq = 0 ∧ (t.link l).rxSeq = 0 ∧ (t.link l).echoVals = [] ∧ t.evt = s.evt ∧
      t.sent = s.sent ++ t.laneStreams l 0 0) ∧
  -- LinkAlignClean node
  (∀ (s : State) (l : AnyLink),
    s.linkUp l = true ∧ s.nodeSide l = true →
    s.linkState l = lkAlign →
    Answers (exec (.linkAlignClean l) s) fun t =>
      t.linkState l = lkAlign ∧ t.sent = s.sent ++ t.laneStreams l 3 (s.freeVal % 65536) ∧ t.evt = s.evt) ∧
  -- TrainTimeLimit
  (∀ (s : State) (l : AnyLink),
    s.linkUp l = true →
    lkClock ≤ s.linkState l ∧ s.linkState l ≤ lkIdent →
    s.hasRoom (Src.link l) = true →
    Answers (exec (.trainTimeLimit l) s) fun t =>
      t.linkState l = lkDetect ∧ t.fld (F.CL_STATE.LAST_FAIL l) = s.linkState l ∧ Counts s t (F.CL_RETRY_CNT.COUNT l) 1 ∧
      Raises s t (Src.link l) E.LINK_TRAIN_FAIL [s.linkState l] ∧ t.sent = s.sent ++ [.lane l 0 .idle, .lane l 1 .idle, .lane l 2 .idle, .txClock l false]) ∧
  -- LinkPartnerLost training
  (∀ (s : State) (l : AnyLink),
    s.linkUp l = true →
    lkClock ≤ s.linkState l ∧ s.linkState l ≤ lkIdent →
    s.hasRoom (Src.link l) = true →
    Answers (exec (.linkPartnerLost l) s) fun t =>
      t.linkState l = lkDetect ∧ Counts s t (F.CL_RETRY_CNT.COUNT l) 1 ∧ Raises s t (Src.link l) E.LINK_UNPLUG [s.linkState l]) ∧
  -- LinkPartnerLost ACTIVE
  (∀ (s : State) (l : AnyLink),
    s.linkUp l = true →
    s.linkActive l = true ∧ s.hasRoom (Src.link l) = true →
    Answers (exec (.linkPartnerLost l) s) fun t =>
      t.linkState l = lkDetect ∧ Counts s t (F.CL_DOWN_CNT.COUNT l) 1 ∧ Raises s t (Src.link l) E.LINK_DOWN [Config.causeCode E.LINK_DOWN downPartner]) ∧
  -- BlockLockLoss
  (∀ (s : State) (l : AnyLink) (b : List Block),
    s.linkUp l = true →
    s.linkActive l = true ∧ s.hasRoom (Src.link l) = true →
    lockLost b = true →
    Answers (exec (.blockLockLoss ⟨l, b⟩) s) fun t =>
      t.linkState l = lkDetect ∧ Counts s t (F.CL_DOWN_CNT.COUNT l) 1 ∧ Raises s t (Src.link l) E.LINK_DOWN [Config.causeCode E.LINK_DOWN downLock] ∧
      t.fld (F.CL_CRED_HELD.COUNT l) = 0 ∧ t.fld (F.CL_CRED_ADV.COUNT l) = 0)

/-- Conditions under which these commands complete, with what they leave. EchoSend and EchoReply exchange echoes and end the measurement
with the mean delay. CfgMailboxGo sends a configuration request; CfgResponse and CfgTimeout end it with data, an error or a timeout.
TimeSend sends time on a claimed link. CreditReceived recomputes the credits outstanding; CreditTimeout takes the link down.
LinkRxBadFrame counts a frame whose blocks fail the checks. A frame departs as its blocks, scrambled, on the lanes that carry them.
StatusReceived stores node flags, and takes the link down when flow is lost. (spec/10_cheane_link.md (R235 to R264)) -/
def Obligations.Link_frames_and_delay : Prop :=
  -- EchoSend
  (∀ (s : State) (l : AnyLink),
    s.linkUp l = true →
    s.linkState l = lkDelay ∨ s.linkActive l = true →
    (s.link l).echoSent < s.echoCount l ∧ (s.curtainOn l && s.linkActive l) = false →
    Answers (exec (.echoSend l) s) fun t =>
      t.sent = s.sent ++ [.linkFrame l ltEcho (s.claimOn l) (s.link l).txSeq (leBytes 4 (s.link l).echoNext ++ zeros 4)] ++
      s.blockWords l (frameBlocks ltEcho (s.claimOn l) (s.link l).txSeq (leBytes 4 (s.link l).echoNext ++ zeros 4)) ∧
      (t.link l).echoTags = (s.link l).echoTags ++ [(s.link l).echoNext] ∧ (t.link l).echoSent = (s.link l).echoSent + 1 ∧
      (t.link l).echoNext = ((s.link l).echoNext + 1) % 2 ^ 32 ∧ t.evt = s.evt) ∧
  -- EchoSend after a set
  (∀ (s : State) (l : AnyLink),
    s.linkUp l = true →
    s.linkState l = lkDelay ∨ s.linkActive l = true →
    s.echoCount l ≤ (s.link l).echoSent ∧ (s.curtainOn l && s.linkActive l) = false →
    Answers (exec (.echoSend l) s) fun t =>
      (t.link l).echoTags = [(s.link l).echoNext] ∧ (t.link l).echoSent = 1 ∧ (t.link l).echoVals = [] ∧ t.evt = s.evt) ∧
  -- EchoReply
  (∀ (s : State) (l : AnyLink) (h : UpHdr) (tag turn : Word) (rtt : Nat),
    s.linkTalks l = true →
    (s.link l).echoTags.contains tag.toNat = true →
    (s.link l).echoVals.length + 1 < s.echoCount l →
    Answers (exec (.echoReply l h tag turn rtt) s) fun t =>
      (t.link l).echoVals = (s.link l).echoVals ++ [(rtt : Int) - 64 * (turn.toNat : Int)] ∧
      (t.link l).echoTags = (s.link l).echoTags.filter (· ≠ tag.toNat) ∧
      t.fld (F.CL_RTT_LAST.VALUE l) = ofSigned 32 (roundEven ((((rtt : Int) - 64 * (turn.toNat : Int) : Int) : Rat) / 2)) ∧
      Counts s t (F.CL_RX_FRAME_CNT.COUNT l) 1 ∧ t.fld (F.CL_DELAY.VALUE l) = s.fld (F.CL_DELAY.VALUE l)) ∧
  -- EchoReply ends the delay
  (∀ (s : State) (l : AnyLink) (h : UpHdr) (tag turn : Word) (rtt : Nat) (v : List Int),
    s.linkTalks l = true →
    s.linkState l = lkDelay ∧ (s.link l).echoTags.contains tag.toNat = true →
    v = (s.link l).echoVals ++ [(rtt : Int) - 64 * (turn.toNat : Int)] ∧ v.length = 64 ∧ echoSpread v ≤ 64 →
    Answers (exec (.echoReply l h tag turn rtt) s) fun t =>
      t.linkState l = lkIdent ∧ t.fld (F.CL_DELAY.VALUE l) = (roundEven (echoMean v)).toNat % 2 ^ (F.CL_DELAY.VALUE l).width ∧
      (t.link l).rejects = 0 ∧ (t.link l).echoVals = []) ∧
  -- CfgMailboxGo
  (∀ (s : State) (l : LinkIx),
    s.linkUp l = true →
    s.fld (F.CL_CFG_STATUS.BUSY l) = 0 ∧ s.linkActive l = true ∧ s.fld (F.CL_CFG_CMD.OP l) = 0 →
    (s.link l).wait = [] ∧ 1 ≤ s.fld (F.CL_CRED_HELD.COUNT l) ∧ s.curtainOn l = false →
    Answers (exec (.cfgMailboxGo l) s) fun t =>
      t.fld (F.CL_CFG_STATUS.BUSY l) = 1 ∧
      t.sent = s.sent ++ [.linkFrame l ltCfg (s.claimOn l) (s.link l).txSeq
      (cfgPayload false ((s.link l).tagNext % 0x4000) (s.fld (F.CL_CFG_ADDR.ADDR l) * 4) (s.fld (F.CL_CFG_CMD.COUNT l)) [])] ++
      s.blockWords l (frameBlocks ltCfg (s.claimOn l) (s.link l).txSeq
      (cfgPayload false ((s.link l).tagNext % 0x4000) (s.fld (F.CL_CFG_ADDR.ADDR l) * 4) (s.fld (F.CL_CFG_CMD.COUNT l)) [])) ∧
      (t.link l).cfg = (s.link l).cfg ++ [((s.link l).tagNext % 0x4000, .mailbox false)]) ∧
  -- TimeSend
  (∀ (s : State) (l : LinkIx),
    s.linkUp l = true →
    s.linkActive l = true ∧ s.claimOn l ≠ 0 ∧ s.curtainOn l = false →
    Answers (exec (.timeSend l) s) fun t =>
      t.sent = s.sent ++ [.linkFrame l ltTime (s.claimOn l) (s.link l).txSeq (s.timePayload l)] ++
      s.blockWords l (frameBlocks ltTime (s.claimOn l) (s.link l).txSeq (s.timePayload l)) ∧ (t.link l).jumped = false ∧
      (t.link l).txSeq = ((s.link l).txSeq + 1) % 65536 ∧ Counts s t (F.CL_TX_FRAME_CNT.COUNT l) 1 ∧ t.evt = s.evt) ∧
  -- TimeSend without a claim
  (∀ (s : State) (l : LinkIx),
    s.linkUp l = true →
    s.linkActive l = true ∧ s.claimOn l = 0 →
    exec (.timeSend l) s = .next (s)) ∧
  -- CreditTimeout
  (∀ (s : State) (l : AnyLink),
    s.linkUp l = true →
    s.linkActive l = true ∧ 0 < s.fld (F.CL_CRED_OUT.COUNT l) ∧ s.hasRoom (Src.link l) = true →
    Answers (exec (.creditTimeout l) s) fun t =>
      t.linkState l = lkDetect ∧ Counts s t (F.CL_DOWN_CNT.COUNT l) 1 ∧ Raises s t (Src.link l) E.LINK_DOWN [Config.causeCode E.LINK_DOWN downCredit] ∧
      t.fld (F.CL_CRED_OUT.COUNT l) = 0) ∧
  -- CreditReceived
  (∀ (s : State) (l : AnyLink) (h : UpHdr) (seen : BitVec 16),
    s.linkTalks l = true →
    s.linkActive l = true ∧ (s.link l).wait = [] ∧ s.fld (F.CL_CAL_STATE.MAP_PENDING l) = 0 →
    (s.role = rolePrincipal → showClaim h.claim.toNat = false) →
    Answers (exec (.creditReceived l h seen) s) fun t =>
      (t.link l).costs = (s.link l).costs.filter (fun c => sentAfter seen.toNat (s.link l).txSeq c.1) ∧
      t.fld (F.CL_CRED_OUT.COUNT l) = costSum ((s.link l).costs.filter (fun c => sentAfter seen.toNat (s.link l).txSeq c.1)) % 2 ^ (F.CL_CRED_OUT.COUNT l).width ∧
      Counts s t (F.CL_RX_FRAME_CNT.COUNT l) 1 ∧ t.sent = s.sent) ∧
  -- LinkRxBadFrame
  (∀ (s : State) (l : AnyLink) (b : List Block),
    s.linkTalks l = true →
    frameBad (s.rxLengths l) b = true →
    exec (.linkRxBadFrame ⟨l, b⟩) s = .next (s.bump (F.CL_RX_BAD_CNT.COUNT l))) ∧
  -- CfgResponse
  (∀ (s : State) (l : AnyLink) (h : UpHdr) (tag : BitVec 16) (w : Word),
    s.linkTalks l = true →
    (s.link l).cfg = [(tag.toNat, .mailbox false)] ∧ (s.link l).wait = [] →
    Answers (exec (.cfgResponse l h tag 0 [w]) s) fun t =>
      t.fld (F.CL_CFG_DATA.WORD l 0) = w.toNat ∧ t.fld (F.CL_CFG_STATUS.BUSY l) = 0 ∧ t.fld (F.CL_CFG_STATUS.DONE l) = 1 ∧
      t.fld (F.CL_CFG_STATUS.RESULT l) = 0 ∧ (t.link l).cfg = [] ∧ Counts s t (F.CL_RX_FRAME_CNT.COUNT l) 1) ∧
  -- CfgResponse error
  (∀ (s : State) (l : AnyLink) (h : UpHdr) (tag : BitVec 16) (r : Byte) (op : Bool),
    s.linkTalks l = true →
    (s.link l).cfg = [(tag.toNat, .mailbox op)] ∧ (s.link l).wait = [] ∧ 1 ≤ r.toNat ∧ r.toNat ≤ 2 →
    Answers (exec (.cfgResponse l h tag r []) s) fun t =>
      t.fld (F.CL_CFG_STATUS.BUSY l) = 0 ∧ t.fld (F.CL_CFG_STATUS.DONE l) = 1 ∧ t.fld (F.CL_CFG_STATUS.RESULT l) = r.toNat ∧ (t.link l).cfg = []) ∧
  -- CfgTimeout
  (∀ (s : State) (l : AnyLink) (tag : Nat) (op : Bool),
    s.linkUp l = true →
    (s.link l).cfg = [(tag, .mailbox op)] ∧ (s.link l).wait = [] →
    Answers (exec (.cfgTimeout l) s) fun t =>
      t.fld (F.CL_CFG_STATUS.BUSY l) = 0 ∧ t.fld (F.CL_CFG_STATUS.DONE l) = 1 ∧ t.fld (F.CL_CFG_STATUS.RESULT l) = 3 ∧ (t.link l).cfg = [] ∧ t.sent = s.sent ∧ t.evt = s.evt) ∧
  -- StatusReceived
  (∀ (s : State) (l : AnyLink) (h : UpHdr) (node flags temp : BitVec 16) (extra : List Byte),
    s.linkTalks l = true →
    extra.length ≤ 56 ∧ extra.length % 8 = 0 →
    s.fld (F.QB_CFG.WRITER (s.fld (F.CL_CFG.RET_QB l))) = 0 →
    bit flags.toNat 0 = false ∧ bit flags.toNat 2 = false →
    Answers (exec (.statusReceived l h node flags temp extra) s) fun t =>
      t.fld (F.CL_NODE_FLAGS.FLAGS l) = (s.fld (F.CL_NODE_FLAGS.FLAGS l) ||| flags.toNat % 64) ∧
      Counts s t (F.CL_RET_DROP_CNT.COUNT l) 1 ∧ Counts s t (F.CL_RX_FRAME_CNT.COUNT l) 1) ∧
  -- StatusReceived flow lost
  (∀ (s : State) (l : AnyLink) (h : UpHdr) (node flags temp : BitVec 16) (extra : List Byte),
    s.linkTalks l = true →
    extra.length ≤ 56 ∧ extra.length % 8 = 0 ∧ s.role = roleAlone →
    s.fld (F.QB_CFG.WRITER (s.fld (F.CL_CFG.RET_QB l))) = 0 →
    bit flags.toNat 0 = false ∧ bit flags.toNat 2 = true ∧ s.linkActive l = true →
    Answers (exec (.statusReceived l h node flags temp extra) s) fun t =>
      t.linkState l = lkDetect ∧ Counts s t (F.CL_DOWN_CNT.COUNT l) 1)

/-- Conditions under which these commands complete, with what they leave. CalTempTrigger, CalCtrlGo and CalErrRateTrigger start a
calibration. UpMirrorQualified, UpLaneSwitch, CalRunDone and DownRotationStep take it through its phases: two runs that agree (each with
one phase that is the centre of its widest open span) set the lane's values, two that do not are counted and tried again. A mirror
mismatch sends UpLaneSwitch back to QUALIFY. Errors below the limit, or without AUTO, are counted only. UpLaneFail puts the swing lane
in the failed one's place with LANE_FAILED; LaneRestore clears a mark. LaneInjectSingle inverts a bit; CheckerLocked locks a checker or
counts errors of a locked one; CheckerLostLock unlocks it and counts. (spec/11_swing_calibration.md (R272 to R285)) -/
def Obligations.Link_lanes : Prop :=
  -- CalTempTrigger
  (∀ (s : State) (l : LinkIx) (v : BitVec 16),
    s.linkUp l = true →
    s.fld (F.CL_CAL_CTRL.AUTO l) = 0 →
    exec (.calTempTrigger l v) s = .next (s.setFld (F.CL_CAL_TEMP.NOW l) v.toNat)) ∧
  -- CalTempTrigger drift
  (∀ (s : State) (l : LinkIx) (v : BitVec 16),
    s.linkUp l = true →
    s.fld (F.CL_CAL_CTRL.AUTO l) = 1 ∧ (s.setFld (F.CL_CAL_TEMP.NOW l) v.toNat).tempDrift l = true →
    s.linkActive l = true ∧ (s.link l).cal.link = false ∧ s.calPhase l = cpIdle ∧ (s.goodLanes l dirUp) ≠ [] ∧ s.swingLane l dirUp ≠ 3 →
    Answers (exec (.calTempTrigger l v) s) fun t =>
      t.fld (F.CL_CAL_TEMP.NOW l) = v.toNat ∧ t.fld (F.CL_CAL_STATE.PENDING l) = 1 ∧ (t.link l).cal.link = true ∧ t.calDir l = dirUp) ∧
  -- CalCtrlGo
  (∀ (s : State) (l : AnyLink),
    s.linkUp l = true →
    s.linkActive l = true ∧ (s.link l).cal.link = false ∧ s.calPhase l = cpIdle ∧ (s.goodLanes l dirUp) ≠ [] ∧ s.swingLane l dirUp ≠ 3 →
    Answers (exec (.calCtrlGo l) s) fun t =>
      t.fld (F.CL_CAL_STATE.PENDING l) = 1 ∧ (t.link l).cal.link = true ∧ t.calDir l = dirUp) ∧
  -- CalErrRateTrigger
  (∀ (s : State) (l : AnyLink) (k : Fin 2) (n : Nat),
    s.linkUp l = true →
    s.fld (F.CL_CAL_CTRL.AUTO l) = 1 ∧ s.linkActive l = true ∧ s.laneMark l dirUp k = markNone →
    (s.link l).cal.link = false ∧ s.calPhase l = cpIdle ∧ s.swingLane l dirUp ≠ 3 ∧ s.fld (F.CL_CAL_CTRL.ERR_LIMIT l) ≤ n →
    Answers (exec (.calErrRateTrigger l ⟨k, n⟩) s) fun t =>
      Counts s t (F.CL_RXL_ERR_CNT.COUNT l k) n ∧ t.calLane l = k.val ∧ t.calDir l = dirUp ∧
      (t.link l).cal.left = [(dirUp, k.val)]) ∧
  -- CalErrRateTrigger below
  (∀ (s : State) (l : AnyLink) (k : Fin 2) (n : Nat),
    s.linkUp l = true ∧ lkAlign < s.linkState l ∧ s.laneMark l dirUp k = markNone →
    s.fld (F.CL_CAL_CTRL.AUTO l) = 0 ∨ n < s.fld (F.CL_CAL_CTRL.ERR_LIMIT l) →
    Answers (exec (.calErrRateTrigger l ⟨k, n⟩) s) fun t =>
      Counts s t (F.CL_RXL_ERR_CNT.COUNT l k) n ∧ t.links = s.links ∧ t.evt = s.evt ∧ t.sent = s.sent) ∧
  -- UpMirrorQualified
  (∀ (s : State) (l : AnyLink),
    s.upPhase l cpQualify = true →
    exec (.upMirrorQualified l) s = .next (s.setFld (F.CL_CAL_STATE.PHASE l) cpSwitch)) ∧
  -- UpLaneSwitch
  (∀ (s : State) (l : AnyLink),
    s.upPhase l cpSwitch = true →
    Answers (exec (.upLaneSwitch ⟨l, false⟩) s) fun t =>
      t.fld (F.CL_LANE_MAP.RX_L0 l) = s.swingLane l dirUp % 2 ^ (F.CL_LANE_MAP.RX_L0 l).width ∧ t.swingLane l dirUp = 3 ∧
      t.calPhase l = (if s.calUnitBusy l then cpWaiting else cpRun) ∧ t.evt = s.evt) ∧
  -- UpLaneSwitch mismatch
  (∀ (s : State) (l : AnyLink),
    s.upPhase l cpSwitch = true →
    exec (.upLaneSwitch ⟨l, true⟩) s = .next (s.setFld (F.CL_CAL_STATE.PHASE l) cpQualify)) ∧
  -- CalRunDone first
  (∀ (s : State) (l : AnyLink) (r : LaneRun) (p : Nat),
    s.upPhase l cpRun = true →
    (s.link l).cal.run1 = none ∧ r.whole = true ∧ r.phases = [p] →
    Answers (exec (.calRunDone l r) s) fun t =>
      (t.link l).cal.run1 = some (r.settings p) ∧ t.regs = s.regs ∧ t.evt = s.evt) ∧
  -- CalRunDone agrees
  (∀ (s : State) (l : AnyLink) (r : LaneRun) (p a : Nat),
    s.upPhase l cpRun = true →
    (s.link l).cal.run1 = some a ∧ r.whole = true ∧ r.phases = [p] ∧ runsAgree a (r.settings p) = true ∧ s.calLane l < 2 →
    Answers (exec (.calRunDone l r) s) fun t =>
      Counts s t (F.CL_RXL_CAL_COUNT.COUNT l (s.calLane l)) 1 ∧ t.rv (R.CL_RXL_SETTINGS l (s.calLane l)) = r.settings p ∧
      t.fld (F.CL_RXL_CAL_LAST.HOUSE l (s.calLane l)) = s.time.house % 2 ^ (F.CL_RXL_CAL_LAST.HOUSE l (s.calLane l)).width) ∧
  -- CalRunDone disagrees
  (∀ (s : State) (l : AnyLink) (r : LaneRun) (p a : Nat),
    s.upPhase l cpRun = true →
    (s.link l).cal.run1 = some a ∧ r.whole = true ∧ r.phases = [p] ∧ runsAgree a (r.settings p) = false ∧ s.calLane l < 2 ∧ (s.link l).cal.tries < 3 →
    Answers (exec (.calRunDone l r) s) fun t =>
      Counts s t (F.CL_RXL_CAL_REJECT.COUNT l (s.calLane l)) 1 ∧ (t.link l).cal.tries = (s.link l).cal.tries + 1 ∧
      (t.link l).cal.run1 = none ∧ t.evt = s.evt) ∧
  -- DownRotationStep
  (∀ (s : State) (l : AnyLink),
    s.linkUp l = true ∧ s.linkActive l = true ∧ s.calDir l = dirDown ∧ s.calPhase l = cpWaiting →
    (s.link l).cal.deferred = 0 ∧ (s.link l).wait = [] ∧ 1 ≤ s.fld (F.CL_CRED_HELD.COUNT l) ∧ s.curtainOn l = false →
    s.calLane l = 0 ∧ s.downLane l 0 = 0 ∧ s.downLane l 1 = 1 ∧ s.swingLane l dirDown = 2 →
    Answers (exec (.downRotationStep l) s) fun t =>
      t.calPhase l = cpNodeWait ∧
      t.sent = s.sent ++ [.linkFrame l ltCfg (s.claimOn l) (s.link l).txSeq
      (cfgPayload true (0x8000 + (s.link l).tagNext % 0x4000) 0x28 1 [2 + 1 * 4 + 0 * 16])] ++
      s.blockWords l (frameBlocks ltCfg (s.claimOn l) (s.link l).txSeq
      (cfgPayload true (0x8000 + (s.link l).tagNext % 0x4000) 0x28 1 [2 + 1 * 4 + 0 * 16]))) ∧
  -- UpLaneFail
  (∀ (s : State) (l : AnyLink),
    s.linkUp l = true ∧ s.linkActive l = true →
    s.swingLane l dirUp < 2 ∧ s.laneMark l dirUp (s.swingLane l dirUp) = markNone ∧ s.calPhase l = cpIdle →
    s.fld (F.CL_LANE_MAP.RX_L0 l) < 2 ∧ s.fld (F.CL_LANE_MAP.RX_L0 l) ≠ s.swingLane l dirUp →
    s.hasRoom (Src.link l) = true →
    Answers (exec (.upLaneFail l) s) fun t =>
      t.fld (F.CL_LANE_MAP.RX_L0 l) = s.swingLane l dirUp ∧ t.swingLane l dirUp = 3 ∧
      t.laneMark l dirUp (s.fld (F.CL_LANE_MAP.RX_L0 l)) = markFailed ∧
      Raises s t (Src.link l) E.LANE_FAILED [l, dirUp, s.fld (F.CL_LANE_MAP.RX_L0 l)] ∧ t.sent = s.sent) ∧
  -- LaneRestore
  (∀ (s : State) (l : AnyLink) (tx : Bool) (k : Fin 3),
    s.linkUp l = true →
    tx = true ∨ k.val < 2 →
    s.calPhase l = cpIdle →
    Answers (exec (.laneRestore l tx k) s) fun t =>
      t.laneMark l (if tx then dirDown else dirUp) k = markNone ∧
      t.swingLane l (if tx then dirDown else dirUp) = (if s.swingLane l (if tx then dirDown else dirUp) = 3 ∧
      s.laneRole l (if tx then dirDown else dirUp) k = 3 then k.val else s.swingLane l (if tx then dirDown else dirUp)) ∧
      t.evt = s.evt ∧ t.links = s.links) ∧
  -- LaneInjectSingle
  (∀ (s : State) (l : AnyLink) (k : Fin 3),
    s.linkUp l = true →
    lkClock < s.linkState l →
    exec (.laneInjectSingle l k) s = .next ({ s with sent := s.sent ++ [.invert l k] })) ∧
  -- CheckerLocked
  (∀ (s : State) (l : AnyLink) (k : Fin 2) (n : Nat),
    s.checkerRuns l k = true →
    s.fld (F.CL_RXL_CHK.LOCKED l k) = 0 →
    exec (.checkerLocked l ⟨k, n⟩) s = .next (s.setFld (F.CL_RXL_CHK.LOCKED l k) 1)) ∧
  -- CheckerLocked again
  (∀ (s : State) (l : AnyLink) (k : Fin 2) (n : Nat),
    s.checkerRuns l k = true →
    s.fld (F.CL_RXL_CHK.LOCKED l k) = 1 →
    Answers (exec (.checkerLocked l ⟨k, n⟩) s) fun t =>
      t.fld (F.CL_RXL_CHK.LOCKED l k) = 1 ∧ t.evt = s.evt ∧
      t.fld (F.CL_RXL_CHK_ERR_CNT.COUNT l k) = min (s.fld (F.CL_RXL_CHK_ERR_CNT.COUNT l k) + n) (2 ^ (F.CL_RXL_CHK_ERR_CNT.COUNT l k).width - 1)) ∧
  -- CheckerLostLock
  (∀ (s : State) (l : AnyLink) (k : Fin 2) (n : Nat),
    s.checkerRuns l k = true →
    s.fld (F.CL_RXL_CHK.LOCKED l k) = 1 →
    Answers (exec (.checkerLostLock l ⟨k, n⟩) s) fun t =>
      t.fld (F.CL_RXL_CHK.LOCKED l k) = 0 ∧ Counts s t (F.CL_RXL_RELOCK_CNT.COUNT l k) 1 ∧
      t.fld (F.CL_RXL_CHK_ERR_CNT.COUNT l k) = min (s.fld (F.CL_RXL_CHK_ERR_CNT.COUNT l k) + max 64 n) (2 ^ (F.CL_RXL_CHK_ERR_CNT.COUNT l k).width - 1) ∧
      t.evt = s.evt)

/-- Conditions under which these commands complete, with what they leave. NetModeWrite of a new mode empties the port of packets, time
stamps and pause (and of frames, where no ring is enabled) and gives it the delays of the mode; of the same mode does nothing; of a
reserved code raises RESERVED_ENCODING. EthLinkUp and EthLinkDown set the link bits; frames in the buffer are counted as dropped.
PauseFrameRx, PauseTimerExpiry, PauseWdExpiry and NetPauseRearm serve pause. TsqRead returns the oldest time stamp. (spec/12_network_line.md (R286 to R296)) -/
def Obligations.Ethernet_ports : Prop :=
  -- NetModeWrite
  (∀ (s : State) (p : PortIx) (m : BitVec 3),
    s.netUp = true ∧ s.absent (R.NET_CFG p) = false →
    m.toNat < 6 ∧ m.toNat ≠ s.fld (F.NET_CFG.MODE p) →
    Answers (exec (.netModeWrite p m) s) fun t =>
      t.fld (F.NET_CFG.MODE p) = m.toNat ∧ (t.netSt p).build = [] ∧ (t.netSt p).tsq = [] ∧ (t.netSt p).paused = false ∧
      (t.netSt p).syncDue = [] ∧ (t.netSt p).syncHeld = [] ∧ (t.netSt p).rxHeld = 0 ∧ (t.netSt p).seqs = (s.netSt p).seqs ∧
      t.portDelays p = modeDelays m.toNat ∧ t.sacnDue = true ∧ t.sent = s.sent ∧
      ((∀ k : Fin 8, s.flag (F.NET_TXQ_BASE.EN p k) = false) → (t.netSt p).txq = [] ∧ t.evt = s.evt)) ∧
  -- NetModeWrite same
  (∀ (s : State) (p : PortIx) (m : BitVec 3),
    s.netUp = true ∧ s.absent (R.NET_CFG p) = false →
    m.toNat < 6 ∧ m.toNat = s.fld (F.NET_CFG.MODE p) →
    exec (.netModeWrite p m) s = .next (s)) ∧
  -- NetModeWrite reserved
  (∀ (s : State) (p : PortIx) (m : BitVec 3),
    s.netUp = true ∧ s.absent (R.NET_CFG p) = false →
    6 ≤ m.toNat ∧ s.hasRoom Src.hostRegs = true →
    Answers (exec (.netModeWrite p m) s) fun t =>
      t.regs = s.regs ∧ t.net = s.net ∧ Raises s t Src.hostRegs E.RESERVED_ENCODING []) ∧
  -- EthLinkUp
  (∀ (s : State) (p : PortIx),
    s.netUp = true →
    s.fld (F.NET_CFG.MODE p) ≠ 0 →
    Answers (exec (.ethLinkUp p) s) fun t =>
      t.fld (F.NET_STATE.LINK_UP p) = 1 ∧ t.fld (F.NET_STATE.FEC_LOCK p) = (if s.fld (F.NET_CFG.MODE p) = 2 then 1 else 0) ∧ t.sent = s.sent) ∧
  -- EthLinkUp quiet
  (∀ (s : State) (p : PortIx),
    s.netUp = true →
    (s.fld (F.NET_CFG.MODE p) ≠ 0 ∧ (s.netSt p).build = [] ∧ (s.netSt p).txq = [] ∧ (∀ k : Fin 8, s.flag (F.NET_TXQ_BASE.EN p k) = false)) →
    exec (.ethLinkUp p) s = .next ((s.setFld (F.NET_STATE.LINK_UP p) 1).setFld (F.NET_STATE.FEC_LOCK p) (if s.fld (F.NET_CFG.MODE p) = 2 then 1 else 0))) ∧
  -- EthLinkDown
  (∀ (s : State) (p : PortIx),
    s.netUp = true →
    s.flag (F.NET_STATE.LINK_UP p) = true ∧ (s.netSt p).syncHeld = [] →
    Answers (exec (.ethLinkDown p) s) fun t =>
      t.fld (F.NET_STATE.LINK_UP p) = 0 ∧ t.fld (F.NET_STATE.FEC_LOCK p) = 0 ∧
      Counts s t (F.NET_TX_DROP_CNT.COUNT p) (s.netSt p).txq.length ∧ t.sent = s.sent ∧
      ((∀ k : Fin 8, s.flag (F.NET_TXQ_BASE.EN p k) = false) ∧ (∀ k ∈ (s.netSt p).txq, k.slot = none) → t.evt = s.evt)) ∧
  -- PauseFrameRx
  (∀ (s : State) (p : PortIx) (q : BitVec 16),
    s.netUp = true ∧ s.flag (F.NET_STATE.LINK_UP p) = true →
    s.honoursPause p = true →
    Answers (exec (.pauseFrameRx p q) s) fun t =>
      (t.netSt p).paused = (q.toNat != 0) ∧ Counts s t (F.NET_PAUSE_RX_CNT.COUNT p) 1 ∧ t.evt = s.evt ∧ t.sent = s.sent) ∧
  -- PauseFrameRx ignored
  (∀ (s : State) (p : PortIx) (q : BitVec 16),
    s.netUp = true ∧ s.flag (F.NET_STATE.LINK_UP p) = true →
    s.honoursPause p = false →
    exec (.pauseFrameRx p q) s = .next (s.bump (F.NET_PAUSE_RX_CNT.COUNT p))) ∧
  -- PauseWdExpiry
  (∀ (s : State) (p : PortIx),
    s.netUp = true →
    (s.netSt p).paused = true ∧ s.hasRoom (Src.eth p) = true →
    Answers (exec (.pauseWdExpiry p) s) fun t =>
      (t.netSt p).paused = false ∧ t.fld (F.NET_STATE.PAUSE_IGNORED p) = 1 ∧ Raises s t (Src.eth p) E.NET_PAUSE_IGNORED [p] ∧ t.sent = s.sent) ∧
  -- PauseTimerExpiry
  (∀ (s : State) (p : PortIx),
    s.netUp = true →
    exec (.pauseTimerExpiry p) s = .next (s.setNet p { s.netSt p with paused := false })) ∧
  -- NetPauseRearm
  (∀ (s : State) (p : PortIx),
    s.netUp = true →
    exec (.netPauseRearm p) s = .next (s.setFld (F.NET_STATE.PAUSE_IGNORED p) 0)) ∧
  -- TsqRead
  (∀ (s : State) (p : PortIx) (e : TsqEnt) (rest : List TsqEnt),
    s.netUp = true →
    (s.netSt p).tsq = e :: rest ∧ e.clock < 2 →
    Answers (exec (.tsqRead p) s) fun t =>
      t.sent = s.sent ++ [.readData e.tag] ∧ (t.netSt p).tsq = rest ∧ t.fld (F.NET_TSQ_1.VALID p) = 1 ∧
      t.fld (F.NET_TSQ_1.LOST p) = min e.lost 65535 ∧ t.rv (R.NET_TSQ_4 p) = stampNs e.stamp ∧ t.evt = s.evt)

/-- Conditions under which these commands complete, with what they leave. EthTxPost stores a tail and brings the next descriptor's frame
into an empty buffer. EthTxFrameDepart sends the next frame and counts it, or discards a show frame of a port the Curtain holds.
EthRxFrame stores the frame's bytes in the buffer its descriptor names, advances the head and counts; bad FCS, bad size, a missing
descriptor and a full buffer are counted only. SacnSendInstant notes the frame sent, its synchronization due and the universes live;
SacnSyncSend queues the synchronization packet of the oldest frame due, or holds it while that frame's data is left, and counts it late;
SacnDiscovery queues discovery. (spec/12_network_line.md (R288 to R304)) -/
def Obligations.Ethernet_frames : Prop :=
  -- EthTxPost
  (∀ (s : State) (p : PortIx) (q : Fin 8) (v : Byte),
    s.netUp = true →
    Answers (exec (.ethTxPost p true q v) s) fun t =>
      t.fld (F.NET_TXQ_PTR.TAIL p q) = v.toNat ∧ t.sent = s.sent ∧
      ((∀ k : Fin 8, s.flag (F.NET_TXQ_BASE.EN p k) = false) ∧ (∀ k ∈ (s.netSt p).txq, k.slot = none) → t.evt = s.evt)) ∧
  -- EthTxPost enters the buffer
  (∀ (s : State) (p : PortIx) (q : Fin 8) (v : Byte),
    s.netUp = true →
    ((s.netSt p).txq = [] ∧ (s.netSt p).build = [] ∧ (∀ k : Fin 8, k ≠ q → s.flag (F.NET_TXQ_BASE.EN p k) = false)) →
    s.flag (F.NET_TXQ_BASE.EN p q) = true ∧ (s.netSt p).fetched.get 0 q < 255 ∧ v.toNat = (s.netSt p).fetched.get 0 q + 1 →
    (s.txLoad p q ((s.netSt p).fetched.get 0 q)).bad = false →
    Answers (exec (.ethTxPost p true q v) s) fun t =>
      (t.netSt p).txq = [s.txLoad p q ((s.netSt p).fetched.get 0 q)] ∧ (t.netSt p).fetched.get 0 q = v.toNat ∧ t.fld (F.NET_TXQ_PTR.TAIL p q) = v.toNat ∧ t.evt = s.evt ∧ t.sent = s.sent) ∧
  -- EthTxPost RX tail
  (∀ (s : State) (p : PortIx) (q : Fin 8) (v : Byte),
    s.netUp = true →
    exec (.ethTxPost p false q v) s = .next (s.setFld (F.NET_RXQ_PTR.TAIL p q) v.toNat)) ∧
  -- EthTxFrameDepart
  (∀ (s : State) (p : PortIx) (k : TxPkt),
    s.netUp = true →
    (s.netSt p).nextTx = some k ∧ s.maySend p = true ∧ (s.netSt p).syncHeld = [] →
    (s.netCurtain p && k.show_) = false ∧ bit k.flags 2 = false →
    Answers (exec (.ethTxFrameDepart p) s) fun t =>
      t.sent = s.sent ++ [.ethFrame p k.bytes] ∧ Counts s t (F.NET_TX_FRAME_CNT.COUNT p) 1 ∧
      Counts s t (F.NET_TX_BYTE_CNT.COUNT p) (k.bytes.length + 4) ∧
      ((∀ k : Fin 8, s.flag (F.NET_TXQ_BASE.EN p k) = false) ∧ (∀ x ∈ (s.netSt p).txq, x.slot = none) → t.evt = s.evt)) ∧
  -- EthTxFrameDepart discarded
  (∀ (s : State) (p : PortIx) (k : TxPkt),
    s.netUp = true →
    (s.netSt p).nextTx = some k ∧ s.maySend p = true ∧ (s.netSt p).syncHeld = [] →
    s.netCurtain p = true ∧ k.show_ = true →
    Answers (exec (.ethTxFrameDepart p) s) fun t =>
      t.sent = s.sent ∧ Counts s t F.CUR_NET_DISCARD_CNT.COUNT 1 ∧ t.fld (F.NET_TX_FRAME_CNT.COUNT p) = s.fld (F.NET_TX_FRAME_CNT.COUNT p)) ∧
  -- EthRxFrame
  (∀ (s : State) (p : PortIx) (b : List Byte) (d buf : Nat),
    s.netUp = true ∧ s.flag (F.NET_STATE.LINK_UP p) = true →
    (60 ≤ b.length ∧ b.length ≤ 9596 ∧ (∀ k : Fin 16, s.ruleHits p k b = false)) →
    s.flag (F.NET_RXQ_BASE.EN p 0) = true ∧ s.fld (F.NET_RXQ_PTR.HEAD p 0) ≠ s.fld (F.NET_RXQ_PTR.TAIL p 0) →
    d = s.rxDesc p 0 (s.fld (F.NET_RXQ_PTR.HEAD p 0)) ∧ buf = leNat (s.sramRead d 4) ∧ b.length ≤ leNat (s.sramRead (d + 4) 2) ∧ (s.netSt p).rxHeld + b.length + 4 ≤ rxBuffer →
    buf + b.length ≤ sramBytes ∧ d + 32 ≤ sramBytes ∧ (buf + b.length ≤ d ∨ d + 32 ≤ buf) ∧ s.fld F.OBJ_INJECT.MODE = 0 →
    Answers (exec (.ethRxFrame p b true) s) fun t =>
      t.mem.bytesAt (.sram buf) b.length = b ∧ t.fld (F.NET_RXQ_PTR.HEAD p 0) = (s.fld (F.NET_RXQ_PTR.HEAD p 0) + 1) % 256 ∧
      leNat (t.sramRead (d + 6) 2) = b.length ∧ Counts s t (F.NET_RX_FRAME_CNT.COUNT p) 1 ∧ Counts s t (F.NET_RX_BYTE_CNT.COUNT p) (b.length + 4) ∧
      t.mem.hbm = s.mem.hbm ∧
      (∀ a, a < buf ∨ buf + b.length ≤ a → a < d + 6 ∨ d + 24 ≤ a → t.mem.byte (.sram a) = s.mem.byte (.sram a))) ∧
  -- EthRxFrame bad FCS
  (∀ (s : State) (p : PortIx) (b : List Byte),
    s.netUp = true ∧ s.flag (F.NET_STATE.LINK_UP p) = true →
    60 ≤ b.length ∧ b.length ≤ 9596 →
    exec (.ethRxFrame p b false) s = .next (s.bump (F.NET_RX_FCS_ERR_CNT.COUNT p))) ∧
  -- EthRxFrame bad size
  (∀ (s : State) (p : PortIx) (b : List Byte) (ok : Bool),
    s.netUp = true ∧ s.flag (F.NET_STATE.LINK_UP p) = true →
    b.length < 60 ∨ 9596 < b.length →
    exec (.ethRxFrame p b ok) s = .next (s.bump (F.NET_RX_SIZE_ERR_CNT.COUNT p))) ∧
  -- EthRxFrame no descriptor
  (∀ (s : State) (p : PortIx) (b : List Byte),
    s.netUp = true ∧ s.flag (F.NET_STATE.LINK_UP p) = true →
    (60 ≤ b.length ∧ b.length ≤ 9596 ∧ (∀ k : Fin 16, s.ruleHits p k b = false) ∧ (s.netSt p).rxHeld + b.length + 4 ≤ rxBuffer) →
    s.fld (F.NET_RXQ_PTR.HEAD p 0) = s.fld (F.NET_RXQ_PTR.TAIL p 0) →
    Answers (exec (.ethRxFrame p b true) s) fun t =>
      Counts s t (F.NET_RX_NODESC_CNT.COUNT p) 1 ∧ Counts s t (F.NET_RX_FRAME_CNT.COUNT p) 1 ∧ t.mem = s.mem ∧ t.evt = s.evt) ∧
  -- EthRxFrame no room
  (∀ (s : State) (p : PortIx) (b : List Byte),
    s.netUp = true ∧ s.flag (F.NET_STATE.LINK_UP p) = true →
    60 ≤ b.length ∧ b.length ≤ 9596 ∧ rxBuffer < (s.netSt p).rxHeld + b.length + 4 →
    exec (.ethRxFrame p b true) s = .next (s.bump (F.NET_RX_DROP_CNT.COUNT p))) ∧
  -- SacnSendInstant
  (∀ (s : State) (p : PortIx) (at_ : Nat) (seq : Option Nat),
    s.netUp = true ∧ s.sendsSacn p = true →
    s.nextFrameFrom (s.sendBound p) = some (at_, seq) →
    Answers (exec (.sacnSendInstant p) s) fun t =>
      (t.netSt p).lastSend = some at_ ∧ (t.netSt p).syncHeld = (s.netSt p).syncHeld ∧
      (t.netSt p).syncDue = (if s.fld (F.NET_SACN_SYNC.UNIV p) = 0 then (s.netSt p).syncDue else (s.netSt p).syncDue ++ [(at_, s.fld (F.NET_SACN_SYNC.UNIV p))]) ∧
      (t.netSt p).live = (s.netSt p).admitted.filter (fun u => (s.liveUniverses (s.configOf seq) p).contains u) ∧ t.sent = s.sent ∧
      ((∀ k : Fin 8, s.flag (F.NET_TXQ_BASE.EN p k) = false) ∧ (∀ k ∈ (s.netSt p).txq, k.slot = none) → t.evt = s.evt)) ∧
  -- SacnSyncSend
  (∀ (s : State) (p : PortIx) (d : Nat × Nat) (rest : List (Nat × Nat)),
    s.netUp = true ∧ s.sendsSacn p = true →
    ((s.netSt p).syncDue = d :: rest ∧ (s.netSt p).syncHeld = [] ∧ (s.netSt p).txq = [] ∧ (s.netSt p).build = [] ∧ (∀ k : Fin 8, s.flag (F.NET_TXQ_BASE.EN p k) = false)) →
    Answers (exec (.sacnSyncSend p) s) fun t =>
      (t.netSt p).syncDue = rest ∧ (t.netSt p).syncHeld = [] ∧ (t.netSt p).txq.map (fun k => (k.q, k.sacn)) = [(6, 2)] ∧
      (t.netSt p).seqs.get 0 (65536 + d.2) = ((s.netSt p).seqs.get 0 (65536 + d.2) + 1) % 256 ∧ t.evt = s.evt) ∧
  -- SacnSyncSend held
  (∀ (s : State) (p : PortIx) (d : Nat × Nat) (rest : List (Nat × Nat)),
    s.netUp = true ∧ s.sendsSacn p = true →
    (s.netSt p).syncDue = d :: rest ∧ (s.netSt p).dataLeft d.1 = true →
    Answers (exec (.sacnSyncSend p) s) fun t =>
      (t.netSt p).syncDue = rest ∧ (t.netSt p).syncHeld = (s.netSt p).syncHeld ++ [d] ∧ Counts s t (F.NET_SYNC_LATE_CNT.COUNT p) 1 ∧
      (t.netSt p).txq = (s.netSt p).txq) ∧
  -- SacnDiscovery
  (∀ (s : State) (p : PortIx),
    s.netUp = true ∧ s.sendsSacn p = true ∧ s.flag (F.NET_SACN_CTRL.DISC_EN p) = true →
    s.liveUniverses s.cfgApp p = [] ∧ (s.netSt p).txq = [] ∧ (s.netSt p).build = [] →
    (∀ k : Fin 8, s.flag (F.NET_TXQ_BASE.EN p k) = false) →
    Answers (exec (.sacnDiscovery p) s) fun t =>
      (t.netSt p).txq.map (fun k => (k.q, k.sacn)) = [(4, 3)] ∧ (t.netSt p).build = [] ∧ t.evt = s.evt ∧ t.sent = s.sent)

/-- Conditions under which these commands complete, with what they leave. DmxPacketStart drives the line and sends the slots of the fixture
image. RdmGo loads a request, or is ignored. RdmTransactionStart sends it with its check sum. A packet or a transaction starts where the
line is free. RdmResponse, RdmTimeout and RdmNoResponseEnd end it with RDM_DONE and count it, a timeout as bad too. (spec/12_network_line.md (R305 to R308)) -/
def Obligations.Line_ports : Prop :=
  -- DmxPacketStart
  (∀ (s : State) (n : Ix16),
    s.evtUp = true ∧ s.lineRuns n = true →
    s.lineFree n = true →
    Answers (exec (.dmxPacketStart n) s) fun t =>
      t.sent = s.sent ++ [.pin "LINE_DE" n (true == s.flag (F.LINE_CFG.DE_POL n)),
      .linePacket n (s.fld (F.LINE_TIMING.BREAK n)) (s.fld (F.LINE_TIMING.MAB n))
      (0 :: padTo (s.fld (F.LINE_CFG.SLOTS n)) (padTo 512 (s.fix.slots.get [] (65536 + n))))] ∧
      Counts s t (F.LINE_DMX_CNT.COUNT n) 1 ∧ (t.lineSt n).until_ = s.time.house + s.dmxCycles n ∧ t.evt = s.evt ∧
      Counts s t (F.LINE_STALE_CNT.COUNT n) (if s.fix.slotsSeq = s.fld F.TIM_FRAME_SEQ.SEQ + 1 then 0 else 1)) ∧
  -- RdmGo
  (∀ (s : State) (n : Ix16),
    s.evtUp = true →
    s.flag (F.LINE_CFG.RDM_EN n) = true ∧ (s.lineSt n).rdm = none →
    Answers (exec (.rdmGo n) s) fun t =>
      (t.lineSt n).rdm = some ⟨padTo (s.fld (F.LINE_RDM_CTRL.LENGTH n)) ((List.range 64).flatMap (fun k => leBytes 4 (s.rv (R.LINE_RDM_DATA n k)))),
      s.flag (F.LINE_RDM_CTRL.DISC n), s.flag (F.LINE_RDM_CTRL.NO_RESP n), s.fld (F.LINE_RDM_CTRL.QB n), s.fld (F.LINE_RDM_TAG.TAG n)⟩ ∧
      t.regs = s.regs ∧ t.sent = s.sent ∧ t.evt = s.evt) ∧
  -- RdmGo ignored
  (∀ (s : State) (n : Ix16),
    s.evtUp = true →
    s.flag (F.LINE_CFG.RDM_EN n) = false ∨ (s.lineSt n).rdm ≠ none →
    exec (.rdmGo n) s = .next (s)) ∧
  -- RdmTransactionStart
  (∀ (s : State) (n : Ix16) (r : RdmReq),
    s.evtUp = true ∧ s.lineRuns n = true →
    s.lineFree n = true ∧ (s.lineSt n).rdmRan = false ∧ (s.lineSt n).rdm = some r →
    Answers (exec (.rdmTransactionStart n) s) fun t =>
      (t.lineSt n).rdmRun = true ∧ (t.lineSt n).rdmRan = true ∧ t.regs = s.regs ∧ t.evt = s.evt ∧
      t.sent = s.sent ++ [.pin "LINE_DE" n (true == s.flag (F.LINE_CFG.DE_POL n)),
      .linePacket n (s.fld (F.LINE_TIMING.BREAK n)) (s.fld (F.LINE_TIMING.MAB n)) (r.data ++ beBytes 2 (byteSum r.data)),
      .pin "LINE_DE" n (false == s.flag (F.LINE_CFG.DE_POL n))]) ∧
  -- RdmResponse
  (∀ (s : State) (n : Ix16) (r : RdmReq) (b : List Byte),
    s.evtUp = true ∧ s.hasRoom (Src.line n) = true →
    (s.lineSt n).rdmRun = true ∧ (s.lineSt n).rdm = some r ∧ r.noResp = false ∧ r.disc = false →
    rdmSumOk b = true ∧ s.qbTakes r.qb (rdmItem r.tag rsOk b).length = true →
    Answers (exec (.rdmResponse n b false) s) fun t =>
      (t.lineSt n).rdm = none ∧ (t.lineSt n).rdmRun = false ∧ Counts s t (F.LINE_RDM_CNT.ALL n) 1 ∧
      t.fld (F.LINE_RDM_CNT.BAD n) = s.fld (F.LINE_RDM_CNT.BAD n) ∧ HasEvent s t (Src.line n) E.RDM_DONE [n, r.tag]) ∧
  -- RdmTimeout
  (∀ (s : State) (n : Ix16) (r : RdmReq),
    s.evtUp = true ∧ s.hasRoom (Src.line n) = true →
    (s.lineSt n).rdmRun = true ∧ (s.lineSt n).rdm = some r ∧ r.noResp = false →
    Answers (exec (.rdmTimeout n) s) fun t =>
      (t.lineSt n).rdm = none ∧ (t.lineSt n).rdmRun = false ∧ Counts s t (F.LINE_RDM_CNT.ALL n) 1 ∧ Counts s t (F.LINE_RDM_CNT.BAD n) 1 ∧
      HasEvent s t (Src.line n) E.RDM_DONE [n, r.tag]) ∧
  -- RdmNoResponseEnd
  (∀ (s : State) (n : Ix16) (r : RdmReq),
    s.evtUp = true ∧ s.hasRoom (Src.line n) = true →
    (s.lineSt n).rdmRun = true ∧ (s.lineSt n).rdm = some r ∧ r.noResp = true →
    s.qbTakes r.qb 8 = true →
    Answers (exec (.rdmNoResponseEnd n) s) fun t =>
      (t.lineSt n).rdm = none ∧ (t.lineSt n).rdmRun = false ∧ Counts s t (F.LINE_RDM_CNT.ALL n) 1 ∧
      t.fld (F.LINE_RDM_CNT.BAD n) = s.fld (F.LINE_RDM_CNT.BAD n) ∧ HasEvent s t (Src.line n) E.RDM_DONE [n, r.tag])

/-- For every 58-bit state and 64-bit payload, descrambling what the scrambler sends gives the payload back with the same next state; after
the 58 bits that one payload brings, a descrambler's state no longer depends on where it began; and the two logical lanes share out the
blocks of a stream. For every TYPE, CLAIM, LSEQ and payload whose length fits the type's range, a receiver does not discard the frame's
blocks, whatever follows them. It discards them where the CRC in TERM is another 32-bit number, where a control block other than TERM
stands anywhere before TERM, and where LEN is outside the type's range. Any table of lengths is allowed; the model's are upLength and
downLength. (spec/10_cheane_link.md (R238 to R241)) -/
def Obligations.Link_blocks_read_back : Prop :=
  -- a descrambler gives back what the scrambler took
  (∀ st x : Nat, st < 2 ^ 58 → x < 2 ^ 64 → descramble st (scramble st x).1 = (x, (scramble st x).2)) ∧
  -- a descrambler is in step after 58 bits
  (∀ st st' y : Nat, st < 2 ^ 58 → st' < 2 ^ 58 → y < 2 ^ 64 → (descramble st y).2 = (descramble st' y).2) ∧
  -- the lanes share out a stream
  (∀ (first : Nat) (bs : List Block), (lanePart first 0 bs).length + (lanePart first 1 bs).length = bs.length) ∧
  -- a receiver keeps a frame as it was sent
  (∀ (lengths : Nat → Option (Nat × Nat × Nat)) (type claim lseq : Nat) (payload : List Byte) (rest : List Block),
      type < 256 → claim < 65536 → lseq < 65536 → payload.length < 65536 → lengthFits (lengths type) payload.length = true →
      frameBad lengths (frameBlocks type claim lseq payload ++ rest) = false) ∧
  -- a wrong check is discarded
  (∀ (lengths : Nat → Option (Nat × Nat × Nat)) (type claim lseq c : Nat) (payload : List Byte) (rest : List Block),
      type < 256 → claim < 65536 → lseq < 65536 → payload.length < 65536 → c < 2 ^ 32 → c ≠ frameCrc type claim lseq payload →
      frameBad lengths ((frameBlocks type claim lseq payload).dropLast ++ controlBlock btTerm (leBytes 4 c) :: rest) = true) ∧
  -- a frame that another control block cuts short is discarded
  (∀ (lengths : Nat → Option (Nat × Nat × Nat)) (type claim lseq k : Nat) (payload : List Byte) (x : Block) (rest : List Block),
      k ≤ (payload.length + 7) / 8 → x.isData = false → x.isControl btTerm = false →
      frameBad lengths ((frameBlocks type claim lseq payload).take (k + 1) ++ x :: rest) = true) ∧
  -- a length outside its type's range is discarded
  (∀ (lengths : Nat → Option (Nat × Nat × Nat)) (type claim lseq : Nat) (payload : List Byte) (rest : List Block),
      type < 256 → payload.length < 65536 → lengthFits (lengths type) payload.length = false →
      frameBad lengths (frameBlocks type claim lseq payload ++ rest) = true)

/-- Conditions under which these commands complete, with what they leave. MtrSample keeps the sample with show time and real time, and the
one before it; the first of a run adds nothing. MtrInputFault marks a current or voltage input with MTR_INPUT_FAULT; MtrInputFaultClear
unmarks one. PulseOutputTimer ends a pulse, begins the next pending one while the front end is on, or comes to rest. MeterFramePower
ends the oldest closed window, and changes no register while trimming is off. (spec/13_metering.md (R309 to R320)) -/
def Obligations.Metering_samples : Prop :=
  -- MtrSample
  (∀ (s : State) (c : Vector MtrCur 96) (v : Vector MtrVolt 8),
    s.mtrRuns = true →
    Answers (exec (.mtrSample c v) s) fun t =>
      t.mtr.prev = some ⟨c.toList, v.toList, s.showNow, s.time.rtc, s.mtr.interval⟩ ∧ t.mtr.prev2 = s.mtr.prev ∧
      t.mtr.interval = 100000 ∧ t.mtr.lastAt = s.time.house ∧ t.mtr.started = true) ∧
  -- MtrSample first
  (∀ (s : State) (c : Vector MtrCur 96) (v : Vector MtrVolt 8),
    s.mtrRuns = true →
    (s.mtr.prev = none ∧ (∀ k : Fin 16, s.mtr.pulse.get 0 k = 0 → s.fld (F.MTR_PULSE_PENDING.COUNT k) = 0)) →
    exec (.mtrSample c v) s = .next ({ s with mtr := { s.mtr with prev2 := none, prev := some ⟨c.toList, v.toList, s.showNow, s.time.rtc, s.mtr.interval⟩, interval := 100000, lastAt := s.time.house } })) ∧
  -- MtrInputFault
  (∀ (s : State) (i : Fin 96),
    s.mtrRuns = true ∧ s.evtUp = true ∧ s.hasRoom Src.metering = true →
    Answers (exec (.mtrInputFault ⟨i.val, by omega⟩) s) fun t =>
      t.fld (F.MTR_CH_STATUS.INPUT_FAULT i) = 1 ∧ Raises s t Src.metering E.MTR_INPUT_FAULT [i] ∧ t.mtr = s.mtr) ∧
  -- MtrInputFault of a voltage input
  (∀ (s : State) (i : Fin 8),
    s.mtrRuns = true ∧ s.evtUp = true ∧ s.hasRoom Src.metering = true →
    Answers (exec (.mtrInputFault ⟨96 + i.val, by omega⟩) s) fun t =>
      t.fld (F.MTR_V_STATUS.INPUT_FAULT i) = 1 ∧ Raises s t Src.metering E.MTR_INPUT_FAULT [96 + i] ∧ t.mtr = s.mtr) ∧
  -- MtrInputFaultClear
  (∀ (s : State) (i : Fin 96),
    s.mtrRuns = true →
    exec (.mtrInputFaultClear ⟨i.val, by omega⟩) s = .next (s.setFld (F.MTR_CH_STATUS.INPUT_FAULT i) 0)) ∧
  -- PulseOutputTimer active ends
  (∀ (s : State) (k : Ix16),
    s.powered .mt = true →
    s.mtr.pulse.get 0 k = 1 →
    Answers (exec (.pulseOutputTimer k) s) fun t =>
      t.mtr.pulse.get 0 k = 2 ∧ t.sent = s.sent ++ [.pin "MTR_PULSE" k (false == s.flag (F.MTR_PULSE_CFG.POL k))] ∧ t.regs = s.regs ∧ t.evt = s.evt) ∧
  -- PulseOutputTimer next pulse
  (∀ (s : State) (k : Ix16),
    s.frontEnd = true →
    s.mtr.pulse.get 0 k = 2 ∧ 0 < s.fld (F.MTR_PULSE_PENDING.COUNT k) →
    Answers (exec (.pulseOutputTimer k) s) fun t =>
      t.mtr.pulse.get 0 k = 1 ∧ t.sent = s.sent ++ [.pin "MTR_PULSE" k (true == s.flag (F.MTR_PULSE_CFG.POL k))] ∧
      t.fld (F.MTR_PULSE_PENDING.COUNT k) = s.fld (F.MTR_PULSE_PENDING.COUNT k) - 1 ∧ t.evt = s.evt) ∧
  -- PulseOutputTimer waits
  (∀ (s : State) (k : Ix16),
    s.powered .mt = true ∧ s.flag F.MTR_CFG.EN = false →
    s.mtr.pulse.get 0 k = 2 →
    Answers (exec (.pulseOutputTimer k) s) fun t =>
      t.mtr.pulse.get 0 k = 0 ∧ t.sent = s.sent ∧ t.regs = s.regs ∧ t.evt = s.evt) ∧
  -- PulseOutputTimer idle
  (∀ (s : State) (k : Ix16),
    s.powered .mt = true →
    s.mtr.pulse.get 0 k = 2 ∧ s.fld (F.MTR_PULSE_PENDING.COUNT k) = 0 →
    Answers (exec (.pulseOutputTimer k) s) fun t =>
      t.mtr.pulse.get 0 k = 0 ∧ t.sent = s.sent ∧ t.regs = s.regs ∧ t.evt = s.evt) ∧
  -- MeterFramePower
  (∀ (s : State) (w : MtrWin) (rest : List MtrWin),
    s.evtUp = true ∧ s.powered .mt = true →
    s.mtr.wins = w :: rest ∧ w.hi.isSome = true →
    Answers (exec (.meterFramePower) s) fun t =>
      t.mtr.wins = rest ∧ t.fix.waitTrim = s.fix.waitTrim.filter (·.1 ≠ w.frame) ∧ t.sent = s.sent ∧ t.evt = s.evt ∧
      (s.flag F.FIX_CTRL.TRIM_EN = false → t.regs = s.regs))

/-- Conditions under which these commands complete, with what they leave. PeriodicSave writes the record of the next slot and counts it, or
fails with MTR_SAVE_FAIL and will be tried again by MtrSaveRetry. PfwFall freezes metering and takes a record to be written;
PowerfailRecordDone stores it; PfwResume ends the freeze with MTR_PF_RESUME. MtrEnable starts metering once: without a record with
MTR_NO_RECORD, with a periodic record by restoring its accumulators with MTR_SAVE_LOST; after a stop it takes the settings of every
channel, and while metering is on it changes nothing. (spec/13_metering.md (R321 to R328)) -/
def Obligations.Energy_records : Prop :=
  -- PeriodicSave
  (∀ (s : State),
    s.maySave = true →
    Answers (exec (.periodicSave true) s) fun t =>
      t.fld F.MTR_STATE.SLOT = s.nextSlot.1 ∧ t.rv R.MTR_SEQ = s.nextSlot.2 ∧ t.mtr.lastSave = s.time.rtc ∧ t.mtr.retry = false ∧
      Counts s t F.MTR_SAVE_CNT.VALUE 1 ∧ t.framBytes (s.slotAddr s.nextSlot.1) recordSize = s.takeBounds.energyRecord recPeriodic s.nextSlot.2 ∧
      (∀ a, a < s.slotAddr s.nextSlot.1 ∨ s.slotAddr s.nextSlot.1 + recordSize ≤ a → t.mtr.fram.get 0 a = s.mtr.fram.get 0 a) ∧ t.evt = s.evt) ∧
  -- PeriodicSave fails
  (∀ (s : State),
    s.maySave = true ∧ s.evtUp = true ∧ s.hasRoom Src.metering = true →
    Answers (exec (.periodicSave false) s) fun t =>
      t.mtr.retry = true ∧ Counts s t F.MTR_SAVE_FAIL_CNT.VALUE 1 ∧ Raises s t Src.metering E.MTR_SAVE_FAIL [] ∧
      t.mtr.lastSave = s.mtr.lastSave ∧ t.fld F.MTR_STATE.SLOT = s.fld F.MTR_STATE.SLOT) ∧
  -- MtrSaveRetry
  (∀ (s : State),
    s.maySave = true ∧ s.mtr.retry = true →
    Answers (exec (.mtrSaveRetry true) s) fun t =>
      t.fld F.MTR_STATE.SLOT = s.nextSlot.1 ∧ t.rv R.MTR_SEQ = s.nextSlot.2 ∧ t.mtr.lastSave = s.time.rtc ∧ t.mtr.retry = false ∧
      Counts s t F.MTR_SAVE_CNT.VALUE 1 ∧ t.evt = s.evt) ∧
  -- PfwFall
  (∀ (s : State),
    s.powered .gl = true →
    s.mtr.started = true ∧ s.mtr.frozen = none ∧ s.pwr.up = none →
    Answers (exec (.pfwFall) s) fun t =>
      t.mtr.frozen = some s.time.rtc ∧ t.fld F.MTR_STATE.SAVING = 1 ∧ t.mtr.pf.isSome = true ∧ t.mtr.fram = s.mtr.fram) ∧
  -- PowerfailRecordDone
  (∀ (s : State) (slot : Fin 2) (b : List Byte),
    s.powered .gl = true →
    s.mtr.pf = some (slot.val, b) →
    Answers (exec (.powerfailRecordDone) s) fun t =>
      t.mtr.pf = none ∧ t.fld F.MTR_STATE.SAVING = 0 ∧ t.fld F.MTR_STATE.PF_DONE = 1 ∧ t.fld F.MTR_STATE.SLOT = slot.val ∧
      t.rv R.MTR_SEQ = fieldAt b 8 4 ∧ Counts s t F.MTR_SAVE_CNT.VALUE 1 ∧ t.framBytes (s.slotAddr slot.val) b.length = b ∧ t.evt = s.evt) ∧
  -- PfwResume
  (∀ (s : State) (r : Nat),
    s.powered .gl = true ∧ s.evtUp = true ∧ s.hasRoom Src.metering = true →
    s.mtr.frozen = some r →
    Answers (exec (.pfwResume) s) fun t =>
      t.mtr.frozen = none ∧ t.mtr.pf = none ∧ t.fld F.MTR_STATE.PF_DONE = 0 ∧ Raises s t Src.metering E.MTR_PF_RESUME (words2 (s.time.rtc - r))) ∧
  -- MtrEnable first start without a record
  (∀ (s : State),
    s.powered .gl = true ∧ s.evtUp = true ∧ s.hasRoom Src.metering = true →
    s.mtr.started = false ∧ s.newestRecord = none →
    Answers (exec (.mtrEnable) s) fun t =>
      t.fld F.MTR_CFG.EN = 1 ∧ t.mtr.started = true ∧ t.fld F.MTR_STATE.NO_RECORD = 1 ∧ Raises s t Src.metering E.MTR_NO_RECORD [] ∧
      t.mtr.lastSave = s.time.rtc ∧ t.mtr.interval = 100000) ∧
  -- MtrEnable first start with a periodic record
  (∀ (s : State) (slot : Nat) (b : List Byte),
    s.powered .gl = true ∧ s.evtUp = true ∧ s.hasRoom Src.metering = true →
    s.mtr.started = false ∧ s.newestRecord = some (slot, b) ∧ fieldAt b 6 1 = recPeriodic →
    Answers (exec (.mtrEnable) s) fun t =>
      t.fld F.MTR_CFG.EN = 1 ∧ t.mtr.started = true ∧ t.fld F.MTR_STATE.SAVE_LOST = 1 ∧ t.fld F.MTR_STATE.SLOT = slot ∧ t.rv R.MTR_SEQ = fieldAt b 8 4 ∧
      t.rv R.MTR_BOUND_TOTAL = fieldAt b 0x18 8 ∧ Raises s t Src.metering E.MTR_SAVE_LOST ([fieldAt b 8 4] ++ words2 (fieldAt b 0x18 8)) ∧
      (∀ n : Fin 96, ∀ m : Fin 9, t.rv (R.MTR_CH_ACC n m) = fieldAt b (0x20 + 80 * n + 8 * m) 8)) ∧
  -- MtrEnable again
  (∀ (s : State),
    s.powered .gl = true →
    s.mtr.started = true ∧ s.flag F.MTR_CFG.EN = true →
    exec (.mtrEnable) s = .next (s)) ∧
  -- MtrEnable after a stop
  (∀ (s : State),
    s.powered .gl = true →
    s.mtr.started = true ∧ s.flag F.MTR_CFG.EN = false →
    Answers (exec (.mtrEnable) s) fun t =>
      t.fld F.MTR_CFG.EN = 1 ∧ t.mtr.started = true ∧ t.evt = s.evt ∧ t.mtr.fram = s.mtr.fram ∧
      (∀ n : Fin 96, (t.mtrC n).cfg = s.rv (R.MTR_CH_CFG n) ∧ (t.mtrC n).phase = s.rv (R.MTR_CH_PHASE n)) ∧
      (∀ k : Fin 8, (t.mtrV k).cfg = s.rv (R.MTR_V_CFG k) ∧ (t.mtrV k).n = 0))

/-- Conditions under which these commands complete, with what they leave. RolePrincipal, RoleUnderstudy and RoleAlone change the role, or
PAIR_REFUSED is raised. PromoteNow makes a paired Understudy a principal with the next claim and priority. TdmClaimWrite stores a claim
and gives it to every link that runs no pass, or is ignored. TandemLost leaves a principal unpaired, a syncing Understudy joining, a
paired one adrift or promoted, as TDM_ROLE.PROMOTE and the witnesses say. (spec/14_understudy.md (R330 to R346)) -/
def Obligations.Roles_and_claims : Prop :=
  -- RolePrincipal
  (∀ (s : State),
    s.evtUp = true →
    s.role = roleAlone ∧ 2 ≤ s.fld F.TDM_CLAIM.CLAIM ∧ s.fld F.TDM_CLAIM.CLAIM ≤ 0xEFFE →
    (s.anyPrio (fun p => decide (2 ≤ p ∧ p ≤ 198)) = true) →
    Answers (exec (.rolePrincipal) s) fun t =>
      t.fld F.TDM_ROLE.ROLE = 1 ∧ t.role = rolePrincipal ∧ t.pair = pairNone ∧ t.tdm = tdmReset ∧ t.fld F.TDM_CLAIM.CLAIM = s.fld F.TDM_CLAIM.CLAIM ∧ t.evt = s.evt) ∧
  -- RolePrincipal refused
  (∀ (s : State),
    s.evtUp = true ∧ s.hasRoom Src.tandem = true →
    s.role = roleAlone ∧ (s.fld F.TDM_CLAIM.CLAIM < 2 ∨ 0xEFFE < s.fld F.TDM_CLAIM.CLAIM) →
    Answers (exec (.rolePrincipal) s) fun t =>
      t.fld F.TDM_ROLE.ROLE = 1 ∧ t.role = roleAlone ∧ t.tdm = s.tdm ∧ Raises s t Src.tandem E.PAIR_REFUSED []) ∧
  -- RoleUnderstudy
  (∀ (s : State),
    s.evtUp = true →
    s.role = roleAlone →
    Answers (exec (.roleUnderstudy) s) fun t =>
      t.fld F.TDM_ROLE.ROLE = 2 ∧ t.role = roleUnderstudy ∧ t.pair = pairJoining ∧ t.fld F.TDM_CLAIM.CLAIM = 0 ∧ t.tdm = tdmReset ∧
      (∀ l : Fin 64, s.passRuns l = false → t.fld (F.CL_CLAIM.OWN l) = 0) ∧ t.evt = s.evt) ∧
  -- RoleAlone
  (∀ (s : State),
    s.evtUp = true →
    Answers (exec (.roleAlone) s) fun t =>
      t.fld F.TDM_ROLE.ROLE = 0 ∧ t.role = roleAlone ∧ t.pair = pairNone ∧ t.fld F.TDM_STATE.ADRIFT = 0 ∧ t.fld F.TDM_STATE.DIVERGED = 0 ∧
      t.fld F.TDM_CLAIM.CLAIM = s.fld F.TDM_CLAIM.CLAIM ∧ t.tdm = tdmReset ∧ t.evt = s.evt) ∧
  -- PromoteNow
  (∀ (s : State),
    s.evtUp = true ∧ s.hasRoom Src.tandem = true →
    s.understudy = true ∧ s.pair = pairPaired ∧ s.fld F.TDM_ROLE.PROMOTE = 2 →
    Answers (exec (.promoteNow) s) fun t =>
      t.role = rolePrincipal ∧ t.pair = pairNone ∧ t.fld F.TDM_CLAIM.CLAIM = (s.tdm.claim + 2) % 65536 ∧ Counts s t F.TDM_PROMOTE_CNT.COUNT 1 ∧
      (∀ p : Fin 8, s.flag (F.NET_SACN_CTRL.EN p) = true → t.fld (F.NET_SACN_CTRL.PRIORITY p) = (s.tdm.prio + 1) % 2 ^ (F.NET_SACN_CTRL.PRIORITY p).width) ∧
      Raises s t Src.tandem E.PROMOTED [] ∧ t.tdm = tdmReset) ∧
  -- PromoteNow ignored
  (∀ (s : State),
    s.evtUp = true →
    s.understudy = false ∨ s.pair ≠ pairPaired ∨ s.fld F.TDM_ROLE.PROMOTE ≠ 2 →
    exec (.promoteNow) s = .next (s)) ∧
  -- TdmClaimWrite
  (∀ (s : State) (c : BitVec 16),
    s.evtUp = true →
    (s.role = roleAlone ∧ c.toNat ≤ 0xEFFF) ∨ (s.role = rolePrincipal ∧ s.pair = pairNone ∧ 2 ≤ c.toNat ∧ c.toNat ≤ 0xEFFE) →
    Answers (exec (.tdmClaimWrite c) s) fun t =>
      t.fld F.TDM_CLAIM.CLAIM = c.toNat ∧ (∀ l : Fin 64, t.fld (F.CL_CLAIM.OWN l) = if s.passRuns l then s.fld (F.CL_CLAIM.OWN l) else c.toNat) ∧
      t.tdm = s.tdm ∧ t.evt = s.evt) ∧
  -- TdmClaimWrite ignored
  (∀ (s : State) (c : BitVec 16),
    s.evtUp = true →
    s.role = roleUnderstudy ∨ (s.role = rolePrincipal ∧ s.pair ≠ pairNone) ∨ (s.role = roleAlone ∧ 0xEFFF < c.toNat) →
    exec (.tdmClaimWrite c) s = .next (s)) ∧
  -- TandemLost principal
  (∀ (s : State),
    s.evtUp = true ∧ s.hasRoom Src.tandem = true →
    s.mirrors = true →
    Answers (exec (.tandemLost) s) fun t =>
      t.role = rolePrincipal ∧ t.pair = pairNone ∧ t.tdm = tdmReset ∧ Raises s t Src.tandem E.PARTNER_LOST []) ∧
  -- TandemLost syncing Understudy
  (∀ (s : State),
    s.evtUp = true →
    s.understudy = true ∧ s.pair = pairSyncing →
    Answers (exec (.tandemLost) s) fun t =>
      t.role = roleUnderstudy ∧ t.pair = pairJoining ∧ t.fld F.TDM_CLAIM.CLAIM = 0 ∧ t.tdm = tdmReset ∧ t.evt = s.evt) ∧
  -- TandemLost paired Understudy
  (∀ (s : State),
    s.evtUp = true ∧ s.hasRoom Src.tandem = true →
    s.understudy = true ∧ s.pair = pairPaired ∧ s.fld F.TDM_STATE.ADRIFT = 0 ∧ s.fld F.TDM_ROLE.PROMOTE ≠ 1 ∧ s.promoteHolds = false →
    Answers (exec (.tandemLost) s) fun t =>
      t.role = roleUnderstudy ∧ t.pair = pairPaired ∧ t.fld F.TDM_STATE.ADRIFT = 1 ∧ Raises s t Src.tandem E.PARTNER_LOST [] ∧ t.tdm = s.tdm) ∧
  -- TandemLost promotes
  (∀ (s : State),
    s.evtUp = true ∧ s.hasRoom Src.tandem = true →
    s.understudy = true ∧ s.pair = pairPaired ∧ s.fld F.TDM_STATE.ADRIFT = 0 ∧ s.fld F.TDM_ROLE.PROMOTE = 1 →
    Answers (exec (.tandemLost) s) fun t =>
      t.role = rolePrincipal ∧ t.pair = pairNone ∧ t.fld F.TDM_CLAIM.CLAIM = (s.tdm.claim + 2) % 65536 ∧ Counts s t F.TDM_PROMOTE_CNT.COUNT 1 ∧
      HasEvent s t Src.tandem E.PARTNER_LOST [])

/-- Conditions under which these commands complete, with what they leave. HelloReceived drops acknowledged messages, or joins a lone
principal to an Understudy. ReadyReceived and DigestReceived are taken; a digest that differs marks the pair diverged. TandemMessageSend
sends the oldest state message, or the oldest upward one. TandemResend marks messages to be sent again, or starts the pair again with
PAIR_RESYNC. HelloSend sends the Understudy's greeting. (spec/14_understudy.md (R331 to R351)) -/
def Obligations.Messages_of_a_pair : Prop :=
  -- HelloReceived
  (∀ (s : State) (i : TandemIx) (h : UpHdr) (ph : Byte) (rev fw next : Word) (last : BitVec 64),
    s.linkTalks (tdLink i) = true →
    s.mirrors = true →
    Answers (exec (.helloReceived i h ph rev fw next last) s) fun t =>
      t.tdm.reported = next.toNat ∧ t.tdm.msgs = s.tdm.msgs.filter (fun m => !(m.sent && mseqBefore m.mseq next.toNat)) ∧
      t.role = s.role ∧ t.pair = s.pair ∧ Counts s t (F.CL_RX_FRAME_CNT.COUNT (tdLink i)) 1 ∧ t.evt = s.evt) ∧
  -- HelloReceived joins
  (∀ (s : State) (i : TandemIx) (h : UpHdr) (rev fw next : Word) (last : BitVec 64),
    s.linkTalks (tdLink i) = true →
    (s.role = rolePrincipal ∧ s.pair = pairNone ∧ s.fld F.TDM_CLAIM.CLAIM ≤ 0xEFFE ∧ s.anyPrio (fun p => decide (p ≤ 198)) = true) →
    rev.toNat = s.rv R.GLB_REV ∧ fw.toNat = s.rv R.GLB_FW_VERSION →
    Answers (exec (.helloReceived i h 1 rev fw next last) s) fun t =>
      t.role = rolePrincipal ∧ t.pair = pairSyncing ∧ t.tdm.streaming = true ∧ t.tdm.states.length = 1 ∧ t.evt = s.evt) ∧
  -- ReadyReceived
  (∀ (s : State) (i : TandemIx) (h : UpHdr) (m : Word),
    s.linkTalks (tdLink i) = true →
    s.mirrors = true →
    Answers (exec (.readyReceived i h m) s) fun t =>
      t.tdm = { s.tdm with ready := s.tdm.ready ++ [m.toNat] } ∧ Counts s t (F.CL_RX_FRAME_CNT.COUNT (tdLink i)) 1 ∧ t.evt = s.evt ∧ t.sent = s.sent) ∧
  -- DigestReceived agrees
  (∀ (s : State) (i : TandemIx) (h : UpHdr) (frame : BitVec 64) (d fl : Word),
    s.linkTalks (tdLink i) = true →
    s.mirrors = true ∧ bit fl.toNat 0 = false →
    s.tdm.own.find? (·.1 = frame.toNat) = some (frame.toNat, d.toNat, false) →
    Answers (exec (.digestReceived i h frame d fl) s) fun t =>
      t.rv R.TDM_DIGEST = d.toNat + d.toNat * 2 ^ 32 ∧ t.fld F.TDM_STATE.DIVERGED = 0 ∧ t.tdm.differ = 0 ∧ t.pair = s.pair ∧ t.evt = s.evt) ∧
  -- DigestReceived differs
  (∀ (s : State) (i : TandemIx) (h : UpHdr) (frame : BitVec 64) (d fl : Word) (o : Nat),
    s.linkTalks (tdLink i) = true →
    s.mirrors = true ∧ bit fl.toNat 0 = false ∧ s.fld F.TDM_STATE.DIVERGED = 0 →
    s.tdm.own.find? (·.1 = frame.toNat) = some (frame.toNat, o, false) ∧ o ≠ d.toNat ∧ o < 2 ^ 32 →
    Answers (exec (.digestReceived i h frame d fl) s) fun t =>
      t.rv R.TDM_DIGEST = o + d.toNat * 2 ^ 32 ∧ t.fld F.TDM_STATE.DIVERGED = 1 ∧ Counts s t F.TDM_DIVERGE_CNT.COUNT 1 ∧ t.tdm.streaming = true ∧ t.tdm.adopted = []) ∧
  -- TandemMessageSend
  (∀ (s : State) (i : TandemIx) (b : List Byte) (rest : List (List Byte)),
    s.evtUp = true →
    s.mirrors = true ∧ s.sendsOn i = true ∧ s.tdm.states = b :: rest ∧ s.mayBuffer (tdLink i) b = true →
    Answers (exec (.tandemMessageSend i) s) fun t =>
      t.sent = s.sent ++ [.linkFrame (tdLink i) tmState (s.claimOn (tdLink i)) (s.link (tdLink i)).txSeq b] ++
      s.blockWords (tdLink i) (frameBlocks tmState (s.claimOn (tdLink i)) (s.link (tdLink i)).txSeq b) ∧ t.tdm.states = rest ∧ t.tdm.turn = 1 - i ∧ t.evt = s.evt) ∧
  -- TandemMessageSend up
  (∀ (s : State) (i : TandemIx) (ty : Nat) (b : List Byte) (rest : List (Nat × List Byte)),
    s.evtUp = true →
    s.understudy = true ∧ s.linkUp (tdLink i) = true ∧ s.linkActive (tdLink i) = true ∧ s.tdm.up = (ty, b) :: rest →
    Answers (exec (.tandemMessageSend i) s) fun t =>
      t.sent = s.sent ++ [.linkFrame (tdLink i) ty (s.claimOn (tdLink i)) (s.link (tdLink i)).txSeq b] ++
      s.blockWords (tdLink i) (frameBlocks ty (s.claimOn (tdLink i)) (s.link (tdLink i)).txSeq b) ∧ t.tdm.up = rest ∧ t.evt = s.evt) ∧
  -- TandemResend
  (∀ (s : State),
    s.evtUp = true →
    s.mirrors = true ∧ s.tdm.msgs.any (·.mseq = s.tdm.reported) = true →
    Answers (exec (.tandemResend) s) fun t =>
      t.tdm.msgs = s.tdm.msgs.map (fun m => if m.sent && !mseqBefore m.mseq s.tdm.reported then { m with sent := false } else m) ∧
      Counts s t F.TDM_RESEND_CNT.COUNT (s.tdm.msgs.filter (fun m => m.sent && !mseqBefore m.mseq s.tdm.reported)).length ∧ t.evt = s.evt ∧ t.sent = s.sent) ∧
  -- TandemResend starts again
  (∀ (s : State),
    s.evtUp = true ∧ s.hasRoom Src.tandem = true →
    s.mirrors = true ∧ s.tdm.msgs.any (·.mseq = s.tdm.reported) = false ∧ s.tdm.reported ≠ s.tdm.nextMseq →
    Answers (exec (.tandemResend) s) fun t =>
      t.pair = pairSyncing ∧ t.tdm.streaming = true ∧ Raises s t Src.tandem E.PAIR_RESYNC []) ∧
  -- HelloSend
  (∀ (s : State) (i : TandemIx) (b c : List Byte),
    s.understudy = true ∧ s.linkUp (tdLink i) = true ∧ s.linkActive (tdLink i) = true →
    b = leBytes 1 s.pair ++ zeros 3 ++ leBytes 4 (s.rv R.GLB_REV) ++ leBytes 4 (s.rv R.GLB_FW_VERSION) ++ leBytes 4 s.tdm.rxNext ++ leBytes 8 s.lastRun →
    c = leBytes 2 (((s.link (tdLink i)).rxSeq + 65535) % 65536) ++ zeros 6 →
    Answers (exec (.helloSend i) s) fun t =>
      t.sent = s.sent ++ [.linkFrame (tdLink i) tmHello (s.claimOn (tdLink i)) (s.link (tdLink i)).txSeq b] ++
      s.blockWords (tdLink i) (frameBlocks tmHello (s.claimOn (tdLink i)) (s.link (tdLink i)).txSeq b) ++
      [.linkFrame (tdLink i) 0x82 (s.claimOn (tdLink i)) (((s.link (tdLink i)).txSeq + 1) % 65536) c] ++
      (s.setLink (tdLink i) { s.link (tdLink i) with runs := (s.link (tdLink i)).runs + 1 }).blockWords (tdLink i)
      (frameBlocks 0x82 (s.claimOn (tdLink i)) (((s.link (tdLink i)).txSeq + 1) % 65536) c) ∧
      Counts s t (F.CL_TX_FRAME_CNT.COUNT (tdLink i)) 2 ∧ t.evt = s.evt)

/-- Conditions under which these commands complete, with what they leave. TandemNodeBlockLock and TandemNodeRequest serve the link from the
node's side. MirrorReceived takes the next message in order, as part of one or as a whole SET that is applied. BulkReceived writes an
object. LampstateReceived adopts records. StateReceived begins or ends the synchronization: cleared configuration and the principal's
frame number and instants at its start, PAIRED with the principal's claim at its end. (spec/14_understudy.md (R331 to R351)) -/
def Obligations.Understudy_side : Prop :=
  -- TandemNodeBlockLock
  (∀ (s : State) (i : TandemIx),
    s.nodeUp i = true →
    s.linkState (tdLink i) < lkAlign →
    Answers (exec (.tandemNodeBlockLock i true) s) fun t =>
      t.linkState (tdLink i) = lkAlign ∧ t.evt = s.evt ∧ t.sent = s.sent ++ t.laneStreams (tdLink i) 1 (s.freeStep.freeStep.freeStep.freeVal % 65536) ∧
      (∀ k : Fin 3, Counts s t (F.CL_TXL_CAL_COUNT.COUNT (tdLink i) k) 1 ∨ Counts s t (F.CL_TXL_CAL_REJECT.COUNT (tdLink i) k) 1)) ∧
  -- TandemNodeBlockLock lost
  (∀ (s : State) (i : TandemIx),
    s.nodeUp i = true →
    Answers (exec (.tandemNodeBlockLock i false) s) fun t =>
      t.linkState (tdLink i) = lkClock ∧ t.sent = s.sent ++ t.laneStreams (tdLink i) 0 0 ∧ t.fld (F.CL_CRED_HELD.COUNT (tdLink i)) = 0 ∧ t.evt = s.evt ∧
      t.downLane (tdLink i) 0 = 0 ∧ t.downLane (tdLink i) 1 = 1) ∧
  -- TandemNodeRequest
  (∀ (s : State) (i : TandemIx) (q : BitVec 16) (tag : BitVec 16) (b : List Byte),
    s.nodeUp i = true ∧ lkAlign ≤ s.linkState (tdLink i) →
    s.linkActive (tdLink i) = false →
    b = leBytes 2 tag.toNat ++ leBytes 1 0 ++ leBytes 1 1 ++ zeros 4 ++ leBytes 4 (s.rv R.GLB_ID) →
    Answers (exec (.tandemNodeRequest i ⟨0, q⟩ false (cfgPayload false tag.toNat 0 1 [])) s) fun t =>
      t.sent = s.sent ++ [.linkFrame (tdLink i) 0x85 0 (s.link (tdLink i)).txSeq b] ++
      s.blockWords (tdLink i) (frameBlocks 0x85 0 (s.link (tdLink i)).txSeq b) ∧ t.evt = s.evt ∧ t.tdm = s.tdm) ∧
  -- MirrorReceived part
  (∀ (s : State) (i : TandemIx) (h : UpHdr) (p : List Byte),
    s.hearsDown i = true ∧ s.romNode = false ∧ s.waitingFrame = none →
    16 ≤ p.length ∧ fieldAt p 0 4 = s.tdm.rxNext ∧ bit (fieldAt p 5 1) 1 = false →
    s.understudy = true ∧ s.pair ≠ pairJoining ∧ s.tdm.ahead = [] →
    Answers (exec (.mirrorReceived i h p) s) fun t =>
      t.tdm.rxNext = mseqNext s.tdm.rxNext ∧ t.tdm.ahead = [] ∧ Counts s t F.TDM_MIRROR_CNT.COUNT 1 ∧
      t.tdm.part = (if bit (fieldAt p 5 1) 0 then slice p 4 1 ++ slice p 8 4 ++ p.drop 16 else s.tdm.part ++ p.drop 16) ∧ t.cfgApp = s.cfgApp ∧ t.obj = s.obj) ∧
  -- MirrorReceived SET
  (∀ (s : State) (i : TandemIx) (h : UpHdr) (table entry : Nat) (b : List Byte),
    s.hearsDown i = true ∧ s.romNode = false ∧ s.waitingFrame = none →
    table < 2 ^ 32 ∧ entry < 2 ^ 64 ∧ table ≠ tTiming ∧ b.length < 4000 →
    s.understudy = true ∧ s.pair ≠ pairJoining ∧ s.tdm.ahead = [] ∧ s.tdm.cueIn = none ∧ s.tdm.rxNext < 2 ^ 32 →
    Answers (exec (.mirrorReceived i h (mirrorHead ringApplied true true 0 0 s.tdm.rxNext ++ descriptor opSet b.length 0 table entry [] ++ b)) s) fun t =>
      t.cfgApp = s.cfgApp.write ⟨table, entry, b, 0⟩ ∧ t.sacnDue = true ∧ t.tdm.rxNext = mseqNext s.tdm.rxNext ∧ Counts s t F.TDM_MIRROR_CNT.COUNT 1) ∧
  -- BulkReceived
  (∀ (s : State) (i : TandemIx) (h : UpHdr) (p : List Byte),
    s.hearsDown i = true ∧ s.romNode = false ∧ s.waitingFrame = none →
    24 ≤ p.length ∧ fieldAt p 0 4 = s.tdm.rxNext ∧ s.live (fieldAt p 4 4) = true ∧ fieldAt p 8 8 + (p.length - 24) < (s.obj? (handleIdx (fieldAt p 4 4))).size →
    s.understudy = true ∧ s.pair ≠ pairJoining ∧ s.tdm.ahead = [] →
    Answers (exec (.bulkReceived i h p) s) fun t =>
      t.tdm.rxNext = mseqNext s.tdm.rxNext ∧ t.mem = (s.objWrite (handleIdx (fieldAt p 4 4)) (fieldAt p 8 8) (p.drop 24)).mem ∧ t.cfgApp = s.cfgApp) ∧
  -- LampstateReceived
  (∀ (s : State) (i : TandemIx) (h : UpHdr) (p : List Byte),
    s.hearsDown i = true ∧ s.romNode = false ∧ s.waitingFrame = none →
    24 ≤ p.length ∧ fieldAt p 0 4 = s.tdm.rxNext ∧ s.passBegun (fieldAt p 4 4) (fieldAt p 8 8 + 1) = false ∧ s.passDue (fieldAt p 4 4) (fieldAt p 8 8) = false →
    s.understudy = true ∧ s.pair ≠ pairJoining ∧ s.tdm.ahead = [] →
    Answers (exec (.lampstateReceived i h p) s) fun t =>
      t.tdm.rxNext = mseqNext s.tdm.rxNext ∧ t.fix = (s.adoptRecords s.cfgApp (fieldAt p 4 4) (fieldAt p 16 4) (p.drop 24)).fix ∧ t.mem = s.mem ∧ t.cfgApp = s.cfgApp) ∧
  -- StateReceived
  (∀ (s : State) (i : TandemIx) (h : UpHdr) (p : List Byte),
    s.hearsDown i = true ∧ s.waitingFrame = none ∧ 808 ≤ p.length →
    stFlags p = 2 ∧ s.understudy = true ∧ s.pair = pairSyncing ∧ s.fld F.TDM_STATE.ADRIFT = 0 ∧ s.tdm.alone.contains (stFrame p) = false →
    (2 ≤ s.fld F.TDM_ROLE.PROMOTE ∨ (0 < s.fld F.TDM_ROLE.WITNESS ∧ ∀ l : Fin 64, s.activeLink l = true → s.fld (F.CL_CLAIM.NODE l) ≠ stClaim p)) →
    Answers (exec (.stateReceived i h p) s) fun t =>
      t.pair = pairPaired ∧ t.fld F.TDM_STATE.DIVERGED = 0 ∧ t.fld F.TDM_CLAIM.CLAIM = stClaim p ∧ t.tdm.claim = stClaim p ∧ t.tdm.prio = stPrio p ∧
      t.tdm.given = stateGiven p ∧ t.cfgApp = s.cfgApp ∧ t.frames = s.frames) ∧
  -- StateReceived starts
  (∀ (s : State) (i : TandemIx) (h : UpHdr) (p : List Byte),
    s.hearsDown i = true ∧ 808 ≤ p.length →
    stFlags p = 1 ∧ s.understudy = true ∧ s.pair = pairJoining →
    Answers (exec (.stateReceived i h p) s) fun t =>
      t.pair = pairSyncing ∧ t.cfgApp = [] ∧ t.cfgAcc = [] ∧ t.cues = [] ∧ t.fix.comps = [] ∧ t.time.sched.seq = stFrame p + 1 ∧ t.time.sched.anchor = stPres p ∧
      t.time.sched.running = false ∧ t.tdm.claim = stClaim p)

/-- Conditions under which these commands complete, with what they leave. CurAlarmDebounce sets an alarm with CUR_ALARM and, by its action,
drops the Curtain. CurDropNFall puts every masked output in the Curtain's hands at once; CurDropNRise gives none back while dropped.
CurReleaseTimer, CurTestExpiry and CurBootComplete lead to ARMED or DROPPED as causes say. CurFaultDetect leads to FAULT with its cause
and keeps the selectors. CurWatchdogExpiry boots the Curtain again and keeps them too. CurOkToggle toggles CUR_OK in service only. (spec/15_safety_curtain.md (R352 to R374)) -/
def Obligations.Curtain_inputs : Prop :=
  -- CurAlarmDebounce action 0 or 1
  (∀ (s : State) (k : Fin 8) (level : Bool),
    s.powered .cu = true ∧ s.evtUp = true ∧ s.hasRoom Src.curtain = true →
    s.flag (F.CUR_ALARM_CFG.EN k) = true ∧ s.curMode ≠ cmFault ∧ bit (s.fld F.CUR_INPUTS.ALARMS) k = false →
    level = s.flag (F.CUR_ALARM_CFG.POL k) ∧ s.fld (F.CUR_ALARM_CFG.ACTION k) = 1 ∧ s.curCauses = 0 →
    Answers (exec (.curAlarmDebounce k level) s) fun t =>
      bit (t.fld F.CUR_INPUTS.ALARMS) k = true ∧ t.curMode = s.curMode ∧ HasEvent s t Src.curtain E.CUR_ALARM [k]) ∧
  -- CurAlarmDebounce drop
  (∀ (s : State) (k : Fin 8) (level : Bool),
    (s.powered .cu = true ∧ s.evtUp = true ∧ (s.evt.raised.filter (fun e => e.source = Src.curtain)).length < 7) →
    s.flag (F.CUR_ALARM_CFG.EN k) = true ∧ s.pwr.state ≠ psOff ∧ s.curMode = cmArmed ∧ bit (s.fld F.CUR_INPUTS.ALARMS) k = false →
    level = s.flag (F.CUR_ALARM_CFG.POL k) ∧ s.fld (F.CUR_ALARM_CFG.ACTION k) = 2 →
    Answers (exec (.curAlarmDebounce k level) s) fun t =>
      t.curMode = cmDropped ∧ bit (t.fld F.CUR_CAUSE.CAUSES) k = true ∧ Counts s t F.CUR_DROP_CNT.COUNT 1 ∧
      t.fld F.CUR_LAST_DROP.HOUSE = s.time.house % 2 ^ F.CUR_LAST_DROP.HOUSE.width ∧ bit (t.fld F.PWR_WAKE_PEND.PEND) 3 = true ∧
      (∀ l : Fin 64, bit (s.fld F.CUR_MASK_LINK.LINKS) l = true → bit (t.fld F.CUR_SEL_LINK.LINKS) l = true) ∧
      (∀ p : Fin 8, bit (s.fld F.CUR_MASK_PORT.NET) p = true → bit (t.fld F.CUR_SEL_PORT.NET) p = true) ∧
      (∀ p : Fin 16, bit (s.fld F.CUR_MASK_PORT.LINE) p = true → bit (t.fld F.CUR_SEL_PORT.LINE) p = true) ∧
      (∀ p : Fin 16, bit (s.fld F.CUR_MASK_SIG.SIG) p = true → bit (t.fld F.CUR_SEL_SIG.SIG) p = true) ∧
      HasEvent s t Src.curtain E.CUR_ALARM [k]) ∧
  -- CurDropNFall
  (∀ (s : State),
    s.powered .cu = true →
    Answers (exec (.curDropNFall) s) fun t =>
      t.cur.low = true ∧ t.fld F.CUR_STATE.HW_DROP = 1 ∧ t.fld F.CUR_INPUTS.DROP_N = 1 ∧
      (∀ l : Fin 64, bit (s.fld F.CUR_MASK_LINK.LINKS) l = true → bit (t.fld F.CUR_SEL_LINK.LINKS) l = true) ∧
      (∀ p : Fin 8, bit (s.fld F.CUR_MASK_PORT.NET) p = true → bit (t.fld F.CUR_SEL_PORT.NET) p = true) ∧
      (∀ p : Fin 16, bit (s.fld F.CUR_MASK_PORT.LINE) p = true → bit (t.fld F.CUR_SEL_PORT.LINE) p = true) ∧
      (∀ p : Fin 16, bit (s.fld F.CUR_MASK_SIG.SIG) p = true → bit (t.fld F.CUR_SEL_SIG.SIG) p = true) ∧
      t.curMode = (if s.curMode = cmArmed ∨ s.curMode = cmTest then cmDropped else s.curMode)) ∧
  -- CurDropNRise
  (∀ (s : State),
    s.powered .cu = true ∧ s.curMode = cmDropped →
    Answers (exec (.curDropNRise) s) fun t =>
      t.cur.low = false ∧ t.fld F.CUR_STATE.HW_DROP = 0 ∧ t.fld F.CUR_INPUTS.DROP_N = 0 ∧ t.curMode = cmDropped ∧
      (∀ l : Fin 64, bit (t.fld F.CUR_SEL_LINK.LINKS) l = bit s.cur.selLink l)) ∧
  -- CurReleaseTimer
  (∀ (s : State),
    s.powered .cu = true ∧ s.evtUp = true ∧ s.hasRoom Src.curtain = true →
    s.curMode = cmDropped ∧ s.fld F.CUR_RELEASE.RELEASE ≠ 0 ∧ s.curCauses = 0 →
    Answers (exec (.curReleaseTimer) s) fun t =>
      t.curMode = cmArmed ∧ t.fld F.CUR_CAUSE.CAUSES = 0 ∧ t.fld F.CUR_SEL_LINK.LINKS = 0 ∧ t.cur.selNet = 0 ∧ HasEvent s t Src.curtain E.CUR_RELEASE []) ∧
  -- CurReleaseTimer with a cause
  (∀ (s : State),
    s.curMode ≠ cmDropped ∨ s.fld F.CUR_RELEASE.RELEASE = 0 ∨ s.curCauses ≠ 0 →
    exec (.curReleaseTimer) s = .next (s)) ∧
  -- CurTestExpiry
  (∀ (s : State),
    s.powered .cu = true →
    s.curMode = cmTest ∧ s.curCauses = 0 →
    Answers (exec (.curTestExpiry) s) fun t =>
      t.curMode = cmArmed ∧ t.fld F.CUR_SEL_LINK.LINKS = 0 ∧ t.cur.testOut = 0 ∧ t.fld F.CUR_CAUSE.CAUSES = s.fld F.CUR_CAUSE.CAUSES) ∧
  -- CurFaultDetect in service
  (∀ (s : State) (c : CurFaultCause),
    s.powered .cu = true ∧ s.evtUp = true ∧ s.hasRoom Src.curtain = true →
    curServes s.curMode = true ∧ (c = .lockstep ∨ c = .clock ∨ c = .sram ∨ c = .selector) →
    Answers (exec (.curFaultDetect c) s) fun t =>
      t.curMode = cmFault ∧ t.fld F.CUR_FAULT.CAUSES = (match c with | .lockstep => 1 | .clock => 2 | .sram => 4 | .selector => 32 | _ => 0) ∧
      t.cur.selLink = s.cur.selLink ∧ t.fld F.CUR_INPUTS.CUR_OK = 0 ∧ HasEvent s t Src.curtain E.CUR_FAULT []) ∧
  -- CurFaultDetect in boot
  (∀ (s : State) (c : CurFaultCause),
    s.powered .cu = true →
    s.curMode = cmBoot ∧ (c = .image ∨ c = .selftest) →
    Answers (exec (.curFaultDetect c) s) fun t =>
      t.curMode = cmFault ∧ t.fld F.CUR_FAULT.CAUSES = (if c = .image then 8 else 16) ∧ t.cur.selLink = s.cur.selLink) ∧
  -- CurWatchdogExpiry
  (∀ (s : State),
    s.powered .cu = true →
    Answers (exec (.curWatchdogExpiry) s) fun t =>
      t.curMode = cmBoot ∧ Counts s t F.CUR_RESET_CNT.COUNT 1 ∧ t.cur.selLink = s.cur.selLink ∧ t.cur.selNet = s.cur.selNet ∧
      t.cur.stage = [] ∧ t.cur.spiDrop = false ∧ t.cur.low = s.cur.low ∧ t.fld F.CUR_INPUTS.CUR_OK = 0) ∧
  -- CurBootComplete armed
  (∀ (s : State) (v : Word) (ps : List (Word × List Byte)),
    s.powered .cu = true ∧ s.curMode = cmBoot →
    ((s.curApply (ps.map (fun p => (spiAddr p.1.toNat, p.2)))).curCauses = 0) →
    Answers (exec (.curBootComplete true true v ps) s) fun t =>
      t.curMode = cmArmed ∧ t.fld F.CUR_IMAGE.VERSION = v.toNat ∧ t.fld F.CUR_STATE.IMAGE_VALID = 1 ∧ t.fld F.CUR_SEL_LINK.LINKS = 0) ∧
  -- CurBootComplete dropped
  (∀ (s : State) (v : Word) (ps : List (Word × List Byte)),
    s.powered .cu = true ∧ s.curMode = cmBoot →
    ((s.curApply (ps.map (fun p => (spiAddr p.1.toNat, p.2)))).curCauses ≠ 0) →
    Answers (exec (.curBootComplete true true v ps) s) fun t =>
      t.curMode = cmDropped ∧ t.fld F.CUR_IMAGE.VERSION = v.toNat ∧ Counts s t F.CUR_DROP_CNT.COUNT 1) ∧
  -- CurBootComplete failed
  (∀ (s : State) (imageOk testOk : Bool) (v : Word) (ps : List (Word × List Byte)),
    s.powered .cu = true ∧ s.curMode = cmBoot →
    imageOk = false ∨ testOk = false →
    Answers (exec (.curBootComplete imageOk testOk v ps) s) fun t =>
      t.curMode = cmFault ∧ t.fld F.CUR_FAULT.CAUSES = b2n (!imageOk) * 8 + b2n (!testOk) * 16 ∧ t.cur.selLink = s.cur.selLink) ∧
  -- CurOkToggle
  (∀ (s : State),
    s.powered .cu = true →
    curServes s.curMode = true →
    Answers (exec (.curOkToggle) s) fun t =>
      t.fld F.CUR_INPUTS.CUR_OK = 1 - s.fld F.CUR_INPUTS.CUR_OK ∧ t.sent = s.sent ++ [.pin "CUR_OK" 0 (!s.flag F.CUR_INPUTS.CUR_OK)] ∧ t.curMode = s.curMode) ∧
  -- CurOkToggle out of service
  (∀ (s : State),
    s.curMode = cmBoot ∨ s.curMode = cmFault →
    exec (.curOkToggle) s = .next (s))

/-- Conditions under which these commands complete, with what they leave. CurSweep sends only REGION and GO frames of its link with the
Curtain's claim and counts the sweep. CurEcho sends an echo. CurSacnPacket sends one packet per universe, or gives the port back.
CurLinePacket sends a packet of its look, or gives the port back. CurPatchCompare reports a patch that does not fit its look.
CurSramScrub counts errors and reports uncorrectable ones. CurWriteRefused counts a refused write and reports it once a second. (spec/15_safety_curtain.md (R355 to R379)) -/
def Obligations.Curtain_outputs : Prop :=
  -- CurSweep
  (∀ (s : State) (l : LinkIx),
    s.curLinkRuns l = true →
    s.surfaceLooks l ≠ [] ∨ s.lookBlocks l ≠ [] →
    Answers (exec (.curSweep l) s) fun t =>
      t.cur.sweeps.get 0 l = s.cur.sweeps.get 0 l + 1 ∧
      ((t.sent.drop s.sent.length).all (fun o => match o with
      | .linkFrame k ty c _ _ => k == l.val && (ty == ltRegion || ty == ltGo) && c == s.fld F.CUR_CLAIM.CLAIM
      | .laneBlocks k _ _ => k == l.val
      | _ => false)) = true ∧
      ((t.sent.drop s.sent.length).filterMap (fun o => match o with | .linkFrame _ ty _ _ b => if ty = ltGo then some b else none | _ => none)) =
      List.replicate ((s.surfaceLooks l).length + 1) (leBytes 8 (s.cur.sweeps.get 0 l + 1) ++ zeros 16) ∧
      t.curMode = s.curMode) ∧
  -- CurSweep nothing to show
  (∀ (s : State) (l : LinkIx),
    s.surfaceLooks l = [] ∧ s.lookBlocks l = [] →
    exec (.curSweep l) s = .next (s)) ∧
  -- CurEcho
  (∀ (s : State) (l : LinkIx),
    s.curLinkRuns l = true →
    s.surfaceLooks l ≠ [] ∨ s.lookBlocks l ≠ [] →
    Answers (exec (.curEcho l) s) fun t =>
      t.sent = s.sent ++ [.linkFrame l ltEcho (s.fld F.CUR_CLAIM.CLAIM) (s.freeVal % 65536) (leBytes 4 s.cur.echoTag ++ zeros 4)] ++
      s.blockWords l (frameBlocks ltEcho (s.fld F.CUR_CLAIM.CLAIM) (s.freeVal % 65536) (leBytes 4 s.cur.echoTag ++ zeros 4)) ∧
      t.cur.echoTag = (s.cur.echoTag + 1) % 2 ^ 32 ∧ t.evt = s.evt) ∧
  -- CurSacnPacket
  (∀ (s : State) (p : PortIx),
    s.powered .cu = true ∧ s.netUp = true ∧ s.netCurtain p = true ∧ s.flag (F.NET_STATE.LINK_UP p) = true →
    s.cur.retNet.contains p.val = false →
    Answers (exec (.curSacnPacket p) s) fun t =>
      t.sent.length = s.sent.length + s.curUniverses.length ∧
      (s.curUniverses.all (fun u => (t.netSt p).curSeqs.get 0 u == ((s.netSt p).curSeqs.get 0 u + 1) % 256)) = true ∧
      t.fld F.CUR_SEL_PORT.NET = s.fld F.CUR_SEL_PORT.NET ∧ t.evt = s.evt) ∧
  -- CurSacnPacket port returns
  (∀ (s : State) (p : PortIx) (u : Nat),
    s.powered .cu = true ∧ s.netUp = true ∧ s.netCurtain p = true ∧ s.flag (F.NET_STATE.LINK_UP p) = true →
    s.cur.retNet.contains p.val = true ∧ (s.netSt p).curTerm = [(u, 1)] →
    Answers (exec (.curSacnPacket p) s) fun t =>
      t.sent.length = s.sent.length + 1 ∧ t.cur.retNet.contains p.val = false ∧ bit (t.fld F.CUR_SEL_PORT.NET) p = false) ∧
  -- CurLinePacket
  (∀ (s : State) (n : Ix16),
    s.powered .cu = true ∧ s.evtUp = true →
    s.lineCurtain n = true ∧ s.cur.retLine.contains n.val = false ∧ s.understudy = false →
    Answers (exec (.curLinePacket n) s) fun t =>
      Sent.linePacket n 176 12 (0 :: s.lookImage routeLine n) ∈ t.sent ∧ t.lineCurtain n = true ∧ t.evt = s.evt) ∧
  -- CurLinePacket port returns
  (∀ (s : State) (n : Ix16),
    s.powered .cu = true ∧ s.evtUp = true →
    s.lineCurtain n = true ∧ s.cur.retLine.contains n.val = true →
    Answers (exec (.curLinePacket n) s) fun t =>
      t.lineCurtain n = false ∧ t.cur.retLine.contains n.val = false ∧ t.sent = s.sent) ∧
  -- CurPatchCompare fits
  (∀ (s : State) (n : Nat) (e : List Byte) (rest : List (Nat × List Byte)),
    s.powered .cu = true →
    s.cur.patchq = (n, e) :: rest ∧ s.lookFits (Pt.safeLook e) e = true →
    exec (.curPatchCompare) s = .next (s.updCur (fun x => { x with patchq := rest }))) ∧
  -- CurPatchCompare differs
  (∀ (s : State) (n : Nat) (e : List Byte) (rest : List (Nat × List Byte)),
    s.powered .cu = true ∧ s.evtUp = true ∧ s.hasRoom Src.curtain = true →
    s.cur.patchq = (n, e) :: rest ∧ s.lookFits (Pt.safeLook e) e = false →
    Answers (exec (.curPatchCompare) s) fun t =>
      t.cur.patchq = rest ∧ Counts s t F.CUR_LOOK_MISMATCH_CNT.COUNT 1 ∧ Raises s t Src.curtain E.CUR_LOOK_MISMATCH [n, Pt.safeLook e]) ∧
  -- CurSramScrub
  (∀ (s : State) (ce : Nat) (a : Word),
    s.powered .cu = true ∧ s.evtUp = true ∧ s.hasRoom Src.curtain = true →
    Answers (exec (.curSramScrub ce [a]) s) fun t =>
      t.fld F.CUR_SRAM_CE_CNT.COUNT = (s.fld F.CUR_SRAM_CE_CNT.COUNT + ce) % 2 ^ F.CUR_SRAM_CE_CNT.COUNT.width ∧
      Counts s t F.CUR_SRAM_UE_CNT.COUNT 1 ∧ HasEvent s t Src.curtain E.CUR_SRAM_UE [a.toNat] ∧ t.curBad (spiAddr a.toNat) = true ∧
      t.cur.sram = s.cur.sram ∧ t.curMode = s.curMode) ∧
  -- CurWriteRefused
  (∀ (s : State) (off : Fin 1048576) (src : BitVec 16),
    s.powered .cu = true ∧ s.evtUp = true ∧ s.hasRoom Src.curtain = true →
    s.cur.refusedAt = 0 →
    Answers (exec (.curWriteRefused off src) s) fun t =>
      Counts s t F.CUR_WRITE_REFUSED_CNT.COUNT 1 ∧ t.fld F.CUR_LAST_REFUSED.OFFSET = off.val ∧ t.fld F.CUR_LAST_REFUSED.SOURCE = src.toNat ∧
      Raises s t Src.curtain E.CUR_WRITE_REFUSED [] ∧ t.curMode = s.curMode ∧ t.cur.sram = s.cur.sram) ∧
  -- CurWriteRefused again within a second
  (∀ (s : State) (off : Fin 1048576) (src : BitVec 16),
    s.powered .cu = true →
    s.cur.refusedAt ≠ 0 ∧ s.time.house < s.cur.refusedAt - 1 + hclkPerSecond →
    Answers (exec (.curWriteRefused off src) s) fun t =>
      Counts s t F.CUR_WRITE_REFUSED_CNT.COUNT 1 ∧ t.fld F.CUR_LAST_REFUSED.OFFSET = off.val ∧ t.evt = s.evt ∧ t.cur = s.cur)

/-- Conditions under which these commands complete, with what they leave. An accepted message is counted, its ALIVE taken, and the next
response set. SpiRead returns bytes or BAD_ADDR. SpiWrite stages data, SpiCommit applies what is staged when its check value holds in
ARMED, SpiDiscard drops it. SpiDrop drops the Curtain, SpiRelease releases it when no other cause stands. SpiTestStart and SpiTestEnd
run a test. A message with a bad check value is counted and does nothing. CurSpiSilent reports silence and drops the Curtain where
configured. (spec/15_safety_curtain.md (R363 to R378)) -/
def Obligations.Curtain_SPI : Prop :=
  -- SpiStatus
  (∀ (s : State) (m : SpiMsg),
    s.spiAccepts m m.data.length →
    Answers (exec (.spiStatus m) s) fun t =>
      SpiTaken s t m 0x01 spOk [] ∧ t.cur.sram = s.cur.sram ∧ t.cur.stage = s.cur.stage) ∧
  -- SpiRead
  (∀ (s : State) (m : SpiMsg) (n : Nat),
    s.spiAccepts m n →
    spiInside m.addr.toNat n = true ∧ isCurMem (spiAddr m.addr.toNat) = true ∧ isCurMem (spiAddr m.addr.toNat + n) = true →
    Answers (exec (.spiRead m n) s) fun t =>
      SpiTaken s t m 0x02 spOk ((List.range n).map (fun k => s.spiByte (spiAddr m.addr.toNat + k))) ∧ t.cur.sram = s.cur.sram) ∧
  -- SpiRead outside
  (∀ (s : State) (m : SpiMsg) (n : Nat),
    s.spiAccepts m n →
    spiInside m.addr.toNat n = false →
    Answers (exec (.spiRead m n) s) fun t =>
      SpiTaken s t m 0x02 spBadAddr [] ∧ t.cur.sram = s.cur.sram) ∧
  -- SpiWrite
  (∀ (s : State) (m : SpiMsg),
    s.spiAccepts m m.data.length →
    (spiWritable m.addr.toNat m.data.length = true ∧ (s.cur.stage.map (fun w => w.2.length)).sum + m.data.length ≤ 65536) →
    Answers (exec (.spiWrite m) s) fun t =>
      SpiTaken s t m 0x03 spOk [] ∧ t.cur.stage = s.cur.stage ++ [(spiAddr m.addr.toNat, m.data)] ∧ t.cur.sram = s.cur.sram) ∧
  -- SpiWrite outside
  (∀ (s : State) (m : SpiMsg),
    s.spiAccepts m m.data.length →
    spiWritable m.addr.toNat m.data.length = false →
    Answers (exec (.spiWrite m) s) fun t =>
      SpiTaken s t m 0x03 spBadAddr [] ∧ t.cur.stage = s.cur.stage) ∧
  -- SpiCommit
  (∀ (s : State) (m : SpiMsg),
    s.spiAccepts m m.data.length ∧ s.evtUp = true →
    (s.curMode = cmArmed ∧ (s.updCur (fun x => { x with silent := false })).curCauses = 0 ∧ crc32c (s.cur.stage.flatMap (·.2)) = m.arg.toNat) →
    (s.curApply s.cur.stage).checkGraphics.hasRoom Src.curtain = true →
    Answers (exec (.spiCommit m) s) fun t =>
      SpiTaken s t m 0x04 spOk [] ∧ t.cur.stage = [] ∧ t.fld F.CUR_STATE.SPI_PARAMS = 1 ∧ HasEvent s t Src.curtain E.CUR_PARAM_CHANGED [] ∧
      ∀ a, s.cur.stage.all (fun w => decide (a < w.1 ∨ w.1 + w.2.length ≤ a)) = true → t.curByte a = s.curByte a) ∧
  -- SpiCommit applies a write
  (∀ (s : State) (m : SpiMsg) (a : Nat) (d : List Byte),
    s.spiAccepts m m.data.length →
    (s.curMode = cmArmed ∧ (s.updCur (fun x => { x with silent := false })).curCauses = 0 ∧ crc32c d = m.arg.toNat) →
    s.cur.stage = [(a, d)] ∧ storeBase ≤ a ∧ a + d.length ≤ storeBase + storeSize →
    Answers (exec (.spiCommit m) s) fun t =>
      t.curBytes a d.length = d) ∧
  -- SpiCommit refused
  (∀ (s : State) (m : SpiMsg),
    s.spiAccepts m m.data.length →
    s.curMode ≠ cmArmed ∨ crc32c (s.cur.stage.flatMap (·.2)) ≠ m.arg.toNat →
    Answers (exec (.spiCommit m) s) fun t =>
      SpiTaken s t m 0x04 spRefused [] ∧ t.cur.sram = s.cur.sram) ∧
  -- SpiDiscard
  (∀ (s : State) (m : SpiMsg),
    s.spiAccepts m m.data.length →
    Answers (exec (.spiDiscard m) s) fun t =>
      SpiTaken s t m 0x05 spOk [] ∧ t.cur.stage = [] ∧ t.cur.sram = s.cur.sram) ∧
  -- SpiDrop
  (∀ (s : State) (m : SpiMsg),
    s.spiAccepts m m.data.length →
    s.curMode = cmArmed ∨ s.curMode = cmTest →
    Answers (exec (.spiDrop m) s) fun t =>
      SpiTaken s t m 0x06 spOk [] ∧ t.cur.spiDrop = true ∧ t.curMode = cmDropped ∧ bit (t.fld F.CUR_CAUSE.CAUSES) 9 = true ∧
      Counts s t F.CUR_DROP_CNT.COUNT 1 ∧
      (∀ l : Fin 64, bit (s.fld F.CUR_MASK_LINK.LINKS) l = true → bit (t.fld F.CUR_SEL_LINK.LINKS) l = true)) ∧
  -- SpiRelease
  (∀ (s : State) (m : SpiMsg),
    s.spiAccepts m m.data.length ∧ s.evtUp = true ∧ s.hasRoom Src.curtain = true →
    (s.curMode = cmDropped ∧ (s.updCur (fun x => { x with spiDrop := false, silent := false })).curCauses = 0) →
    Answers (exec (.spiRelease m) s) fun t =>
      SpiTaken s t m 0x07 spOk [] ∧ t.cur.spiDrop = false ∧ t.curMode = cmArmed ∧ t.fld F.CUR_CAUSE.CAUSES = 0 ∧ HasEvent s t Src.curtain E.CUR_RELEASE []) ∧
  -- SpiRelease with a cause
  (∀ (s : State) (m : SpiMsg),
    s.spiAccepts m m.data.length →
    s.curMode = cmDropped ∧ s.cur.low = true →
    Answers (exec (.spiRelease m) s) fun t =>
      SpiTaken s t m 0x07 spRefused [] ∧ t.curMode = cmDropped ∧ t.cur.spiDrop = s.cur.spiDrop) ∧
  -- SpiTestStart
  (∀ (s : State) (m : SpiMsg),
    s.spiAccepts m 16 ∧ m.data.length = 16 ∧ s.evtUp = true ∧ s.hasRoom Src.curtain = true →
    (s.curMode = cmArmed ∧ (s.updCur (fun x => { x with silent := false })).curCauses = 0 ∧ inRange 1 3600 m.arg.toNat = true ∧ s.pwr.state ≠ psDark) →
    Answers (exec (.spiTestStart m) s) fun t =>
      SpiTaken s t m 0x08 spOk [] ∧ t.curMode = cmTest ∧ t.fld F.CUR_SEL_LINK.LINKS = fieldAt m.data 0 8 ∧
      (∀ p : Fin 8, bit (fieldAt m.data 8 4) p = true → bit (t.fld F.CUR_SEL_PORT.NET) p = true) ∧ t.cur.testOut = bits (fieldAt m.data 8 4) 24 4 ∧
      HasEvent s t Src.curtain E.CUR_TEST []) ∧
  -- SpiTestStart refused
  (∀ (s : State) (m : SpiMsg),
    s.spiAccepts m 16 ∧ m.data.length = 16 →
    s.curMode ≠ cmArmed ∨ inRange 1 3600 m.arg.toNat = false →
    Answers (exec (.spiTestStart m) s) fun t =>
      SpiTaken s t m 0x08 spRefused [] ∧ t.cur.testOut = s.cur.testOut) ∧
  -- SpiTestEnd
  (∀ (s : State) (m : SpiMsg),
    s.spiAccepts m m.data.length →
    (s.curMode = cmTest ∧ (s.updCur (fun x => { x with silent := false })).curCauses = 0) →
    Answers (exec (.spiTestEnd m) s) fun t =>
      SpiTaken s t m 0x09 spOk [] ∧ t.curMode = cmArmed ∧ t.fld F.CUR_SEL_LINK.LINKS = 0 ∧ t.cur.testOut = 0) ∧
  -- CurSpiSilent
  (∀ (s : State),
    s.powered .cu = true ∧ s.evtUp = true ∧ s.hasRoom Src.curtain = true →
    s.curMode = cmArmed ∧ s.fld F.CUR_SPI_CFG.SPI_WD ≠ 0 →
    Answers (exec (.curSpiSilent) s) fun t =>
      t.cur.silent = true ∧ HasEvent s t Src.curtain E.CUR_SPI_SILENT [] ∧
      t.curMode = (if s.flag F.CUR_SPI_CFG.SPI_WD_DROP = true ∨ s.curCauses ≠ 0 then cmDropped else cmArmed)) ∧
  -- Bad check value
  (∀ (s : State) (m : SpiMsg),
    s.powered .cu = true ∧ curServes s.curMode = true ∧ m.crcOk = false →
    Answers (exec (.spiDrop m) s) fun t =>
      Counts s t F.CUR_SPI_CRC_CNT.COUNT 1 ∧ t.cur.alive = s.cur.alive ∧ t.cur.spiDrop = s.cur.spiDrop ∧ t.cur.resp = t.spiResponse 0x06 spBadCrc [])

/-- Conditions under which these commands complete, with what they leave. FlyStart with a count begins a transfer with its books, fails a
check with FLY_END, or is ignored while busy. FlyAbort between bursts ends it in ABORTED; with a burst in flight it waits for it.
FlyBurstIssue reads a burst of HBM when it is the channel's turn. FlyBurstRetire stores exactly the bytes of the burst in Stage SRAM, or
ends the channel after a stop or a failure. (spec/16_fly_queues_check.md (R380 to R393)) -/
def Obligations.Fly_channels : Prop :=
  -- FlyStart
  (∀ (s : State) (n : Ix32),
    s.evtUp = true →
    s.flyBusy n = false ∧ s.flyCheck (s.flyImage n) = 0 ∧ Fly.count (s.flyImage n) ≠ 0 →
    Answers (exec (.flyStart n) s) fun t =>
      t.flyOf n = some ⟨s.flyImage n, none, [], 0, 0, [], none, 0, none, 0⟩ ∧ t.fld (F.FLY_STATUS.STATE n) = fsBusy ∧ t.fld (F.FLY_STATUS.ERR n) = 0 ∧
      t.fld (F.FLY_STATUS.OVLP n) = b2n (Fly.overlaps (s.flyImage n)) ∧ t.fld (F.FLY_STATUS.DESC n) = b2n (Fly.descends (s.flyImage n)) ∧
      t.rv (R.FLY_WRITTEN n) = 0 ∧ t.rv (R.FLY_RESIDUE n) = Fly.count (s.flyImage n) ∧ bit (t.rv R.FLY_BUSY) n = true ∧ t.mem = s.mem ∧ t.evt = s.evt) ∧
  -- FlyStart fails a check
  (∀ (s : State) (n : Ix32),
    s.evtUp = true ∧ s.hasRoom (Src.fly n) = true →
    s.flyBusy n = false ∧ s.flyCheck (s.flyImage n) ≠ 0 →
    Answers (exec (.flyStart n) s) fun t =>
      t.flyOf n = none ∧ t.fld (F.FLY_STATUS.STATE n) = fsError ∧ t.fld (F.FLY_STATUS.ERR n) = s.flyCheck (s.flyImage n) ∧ t.mem.hbm = s.mem.hbm ∧ t.mem.sram = s.mem.sram ∧
      Raises s t (Src.fly n) E.FLY_END [n, fsError, s.flyCheck (s.flyImage n), Fly.count (s.flyImage n)]) ∧
  -- FlyStart of a busy channel
  (∀ (s : State) (n : Ix32),
    s.flyBusy n = true →
    exec (.flyStart n) s = .next (s)) ∧
  -- FlyAbort between bursts
  (∀ (s : State) (n : Ix32) (x : FlySt),
    s.evtUp = true →
    s.flyOf n = some x ∧ x.flight = none ∧ x.move = none ∧ Fly.evt x.img = false ∧ Fly.dstSpace x.img ≠ spObject →
    Answers (exec (.flyAbort n) s) fun t =>
      t.flyOf n = none ∧ t.fld (F.FLY_STATUS.STATE n) = fsAborted ∧ t.fld (F.FLY_STATUS.ERR n) = 0 ∧ t.rv (R.FLY_WRITTEN n) = x.writtenElems % 2 ^ 32 ∧
      bit (t.rv R.FLY_BUSY) n = false ∧ t.evt = s.evt) ∧
  -- FlyAbort with a burst in flight
  (∀ (s : State) (n : Ix32) (x : FlySt) (w : Nat),
    s.evtUp = true →
    s.flyOf n = some x ∧ x.flight = some w →
    exec (.flyAbort n) s = .next (s.setFly n (some { x with stop := max x.stop 1 }))) ∧
  -- FlyBurstIssue
  (∀ (s : State) (n : Ix32) (h : HostData) (x : FlySt),
    s.evtUp = true ∧ s.flyNext = some n.val ∧ s.mem.ce = [] ∧ s.mem.ue = [] →
    s.flyOf n = some x ∧ Fly.indexed x.img = false ∧ Fly.srcFix x.img = false ∧ Fly.dstFix x.img = false ∧ Fly.descends x.img = false →
    Fly.srcSpace x.img = spHbm ∧ (Fly.dstSpace x.img = spHbm ∨ Fly.dstSpace x.img = spStage) →
    Answers (exec (.flyBurstIssue n h) s) fun t =>
      (t.flyOf n).map (·.hold) = some (x.hold ++ (List.range x.burstBytes).map (fun k => (s.mem.byte (.hbm (x.srcAt + k)), false))) ∧
      (t.flyOf n).map (·.read) = some (x.read + x.burstBytes) ∧
      (t.flyOf n).map (·.flight) = some (some (min (x.hold.length + x.burstBytes) x.dstRoom / Fly.dstW x.img * Fly.dstW x.img)) ∧
      (t.flyOf n).map (·.written) = some x.written ∧ Counts s t F.FLY_BURSTS_ISSUED.COUNT 1 ∧ Counts s t F.FLY_BURSTS_OPEN.COUNT 1 ∧ t.flyTurn = n.val ∧
      t.mem = s.mem ∧ t.evt = s.evt) ∧
  -- FlyBurstIssue out of turn
  (∀ (s : State) (n : Ix32) (h : HostData),
    s.flyNext ≠ some n.val →
    exec (.flyBurstIssue n h) s = .next (s)) ∧
  -- FlyBurstRetire stores what was read
  (∀ (s : State) (n : Ix32) (x : FlySt) (w : Nat),
    s.evtUp = true →
    s.flyOf n = some x ∧ x.flight = some w ∧ x.fail = 0 ∧ x.stop = 0 ∧ x.lastWord = none ∧ x.move = none ∧ Fly.evt x.img = false →
    Fly.indexed x.img = false ∧ Fly.dstFix x.img = false ∧ Fly.descends x.img = false ∧ Fly.dstSpace x.img = spStage →
    (w ≤ x.hold.length ∧ w % Fly.dstW x.img = 0 ∧ (x.hold.all (fun b => !b.2)) = true) →
    Answers (exec (.flyBurstRetire n) s) fun t =>
      (∀ a : Nat, t.mem.byte (.sram a) = if x.dstAt ≤ a ∧ a < x.dstAt + w then (x.hold.getD (a - x.dstAt) (0, false)).1 else s.mem.byte (.sram a)) ∧
      (∀ a : Nat, t.mem.byte (.hbm a) = s.mem.byte (.hbm a)) ∧
      Counts s t F.FLY_BURSTS_RETIRED.COUNT 1 ∧ t.rv (R.FLY_WRITTEN n) = ((x.written + w) / Fly.srcW x.img) % 2 ^ 32 ∧
      t.fld (F.FLY_STATUS.STATE n) = (if x.written + w = Fly.total x.img then fsDone else s.fld (F.FLY_STATUS.STATE n)) ∧ t.evt = s.evt) ∧
  -- FlyBurstRetire after a stop
  (∀ (s : State) (n : Ix32) (x : FlySt) (w : Nat),
    s.evtUp = true →
    s.flyOf n = some x ∧ x.flight = some w ∧ x.fail = 0 ∧ x.stop = 1 ∧ Fly.dstSpace x.img = spStage ∧ x.move = none →
    Answers (exec (.flyBurstRetire n) s) fun t =>
      t.flyOf n = none ∧ t.fld (F.FLY_STATUS.STATE n) = fsAborted ∧ Counts s t F.FLY_BURSTS_RETIRED.COUNT 1) ∧
  -- FlyBurstRetire after a failure
  (∀ (s : State) (n : Ix32) (x : FlySt) (w : Nat),
    s.evtUp = true ∧ s.hasRoom (Src.fly n) = true →
    s.flyOf n = some x ∧ x.flight = some w ∧ x.fail ≠ 0 ∧ x.fail < 16 ∧ x.move = none ∧ Fly.dstSpace x.img ≠ spObject →
    Answers (exec (.flyBurstRetire n) s) fun t =>
      t.flyOf n = none ∧ t.fld (F.FLY_STATUS.STATE n) = fsError ∧ t.fld (F.FLY_STATUS.ERR n) = x.fail ∧
      (∀ a : Nat, t.mem.byte (.hbm a) = s.mem.byte (.hbm a)) ∧ Raises s t (Src.fly n) E.FLY_END [n, fsError, x.fail, t.rv (R.FLY_RESIDUE n)])

/-- Conditions under which these commands complete, with what they leave. QbWriteData begins an item or packs into its last word;
QbWriteLast ends it; a full block overruns; a producer's block refuses software. QbRdTagRead returns and removes a word or waits;
QbRdStallExpiry ends the wait with VALID 0 and an open value in the low bits (assumption 4). QbProducerWrite appends a whole item that
fits, and nothing otherwise. ChkCfgWrite loads a preset or own values, ChkDataWrite runs the CRC over the bytes or the alive check,
ChkInit and ChkAliveReset begin again. (spec/16_fly_queues_check.md (R394 to R408)) -/
def Obligations.Queue_blocks : Prop :=
  -- QbWriteData begins an item
  (∀ (s : State) (q : Ix32) (b : List Byte),
    s.evtUp = true ∧ aliasBytes b = true ∧ s.flag (F.QB_CFG.WRITER q) = false →
    (s.qbSt q).words = [] ∧ (s.qbSt q).open_ = false ∧ (s.qbSt q).readWait = false →
    Answers (exec (.qbWriteData q b) s) fun t =>
      (t.qbSt q).words = [⟨b, true, false, (s.qbSt q).gap, false, (s.qbSt q).item + 1, s.qbCt q⟩] ∧ (t.qbSt q).open_ = true ∧ (t.qbSt q).gap = false ∧
      t.fld (F.QB_ITEM_CNT.COUNT q) = s.fld (F.QB_ITEM_CNT.COUNT q) ∧ t.sent = s.sent ∧ t.evt = s.evt) ∧
  -- QbWriteData packs
  (∀ (s : State) (q : Ix32) (b : List Byte) (w : QWord),
    s.evtUp = true ∧ aliasBytes b = true ∧ s.flag (F.QB_CFG.WRITER q) = false →
    (s.qbSt q).packing = some w ∧ w.bytes.length + b.length ≤ 16 ∧ (s.qbSt q).readWait = false →
    Answers (exec (.qbWriteData q b) s) fun t =>
      (t.qbSt q).words = (s.qbSt q).words.dropLast ++ [{ w with bytes := w.bytes ++ b, complete := w.bytes.length + b.length == 16 }] ∧
      (t.qbSt q).open_ = true ∧ t.sent = s.sent ∧ t.evt = s.evt) ∧
  -- QbWriteLast
  (∀ (s : State) (q : Ix32) (b : List Byte),
    s.evtUp = true ∧ aliasBytes b = true ∧ s.flag (F.QB_CFG.WRITER q) = false →
    (s.qbSt q).words = [] ∧ (s.qbSt q).open_ = false ∧ (s.qbSt q).readWait = false →
    Answers (exec (.qbWriteLast q b) s) fun t =>
      (t.qbSt q).words = [⟨b, true, true, (s.qbSt q).gap, true, (s.qbSt q).item + 1, s.qbCt q⟩] ∧ (t.qbSt q).open_ = false ∧
      Counts s t (F.QB_ITEM_CNT.COUNT q) 1 ∧ t.sent = s.sent ∧ t.evt = s.evt) ∧
  -- QbWriteLast overruns
  (∀ (s : State) (q : Ix32) (b : List Byte),
    s.evtUp = true ∧ aliasBytes b = true ∧ s.flag (F.QB_CFG.WRITER q) = false →
    (s.qbSt q).words.length = 256 ∧ (s.qbSt q).open_ = false ∧ (s.qbSt q).readWait = false →
    Answers (exec (.qbWriteLast q b) s) fun t =>
      (t.qbSt q).words = (s.qbSt q).words ∧ (t.qbSt q).gap = true ∧ t.fld (F.QB_STATE.OVERRUN q) = 1 ∧ Counts s t (F.QB_IGNORED_CNT.COUNT q) 1 ∧
      Counts s t (F.QB_ITEM_CNT.COUNT q) 1) ∧
  -- Software does not write a producer's block
  (∀ (s : State) (q : Ix32) (b : List Byte),
    s.evtUp = true ∧ aliasBytes b = true ∧ s.flag (F.QB_CFG.WRITER q) = true →
    Answers (exec (.qbWriteData q b) s) fun t =>
      t.qb = s.qb ∧ t.fld (F.QB_STATE.WR_REFUSED q) = 1 ∧ Counts s t (F.QB_IGNORED_CNT.COUNT q) 1) ∧
  -- QbRdTagRead
  (∀ (s : State) (q : Ix32) (w : QWord),
    s.evtUp = true →
    (s.qbSt q).readable = some w →
    Answers (exec (.qbRdTagRead q) s) fun t =>
      t.sent = s.sent ++ [.readData (w.bytes.length + b2n w.first * 32 + b2n w.last * 64 + b2n w.gap * 128 + 256)] ∧
      (t.qbSt q).words = (s.qbSt q).words.drop 1 ∧ (∀ k : Fin 4, t.rv (R.QB_RD_DATA q k) = fieldAt (padTo 16 w.bytes) (4 * k) 4) ∧ t.evt = s.evt) ∧
  -- QbRdTagRead waits
  (∀ (s : State) (q : Ix32),
    s.evtUp = true →
    (s.qbSt q).readable = none ∧ s.fld F.QB_RD_STALL.NS ≠ 0 →
    exec (.qbRdTagRead q) s = .next ((s.setQb q { s.qbSt q with readWait := true }).send .readStalls)) ∧
  -- QbRdStallExpiry
  (∀ (s : State) (q : Ix32),
    s.evtUp = true →
    (s.qbSt q).readWait = true →
    Answers (exec (.qbRdStallExpiry q) s) fun t =>
      t.sent = s.sent ++ [.readData (s.freeVal % 256)] ∧ (t.qbSt q).readWait = false ∧ (t.qbSt q).words = (s.qbSt q).words ∧ t.evt = s.evt) ∧
  -- QbProducerWrite
  (∀ (s : State) (q : Ix32) (b : List Byte),
    s.evtUp = true →
    s.qbTakes q b.length = true ∧ b ≠ [] ∧ (s.qbSt q).open_ = false ∧ (s.qbSt q).readWait = false →
    Answers (exec (.qbProducerWrite q b) s) fun t =>
      (t.qbSt q).words.length = (s.qbSt q).words.length + ceilDiv b.length 16 ∧ ((t.qbSt q).words.drop (s.qbSt q).words.length).flatMap (·.bytes) = b ∧
      ((t.qbSt q).words.getLast?).map (·.last) = some true ∧ (t.qbSt q).open_ = false ∧ Counts s t (F.QB_ITEM_CNT.COUNT q) 1 ∧ t.evt = s.evt) ∧
  -- QbProducerWrite does not fit
  (∀ (s : State) (q : Ix32) (b : List Byte),
    s.qbTakes q b.length = false →
    exec (.qbProducerWrite q b) s = .next (s)) ∧
  -- ChkCfgWrite preset
  (∀ (s : State) (c : Ix16) (v : Word),
    s.evtUp = true →
    1 ≤ bits v.toNat 0 3 ∧ bits v.toNat 0 3 ≤ 4 →
    Answers (exec (.chkCfgWrite c v) s) fun t =>
      t.fld (F.CHK_CFG.PRESET c) = bits v.toNat 0 3 ∧ t.fld (F.CHK_CFG.WIDTH c) = (chkPreset (bits v.toNat 0 3)).1 ∧
      t.rv (R.CHK_POLY c) = (chkPreset (bits v.toNat 0 3)).2.1 ∧ t.rv (R.CHK_CRC c) = (chkPreset (bits v.toNat 0 3)).2.2.1 ∧
      t.fld (F.CHK_CFG.REFIN c) = b2n (chkPreset (bits v.toNat 0 3)).2.2.2.1 ∧ t.rv (R.CHK_XOROUT c) = (chkPreset (bits v.toNat 0 3)).2.2.2.2 ∧ t.rv (R.CHK_POS c) = 0) ∧
  -- ChkCfgWrite own values
  (∀ (s : State) (c : Ix16) (v : Word),
    s.evtUp = true →
    bits v.toNat 0 3 = 0 ∧ 8 ≤ bits v.toNat 8 6 ∧ bits v.toNat 8 6 ≤ 32 →
    Answers (exec (.chkCfgWrite c v) s) fun t =>
      t.fld (F.CHK_CFG.PRESET c) = 0 ∧ t.fld (F.CHK_CFG.WIDTH c) = bits v.toNat 8 6 ∧ t.rv (R.CHK_POLY c) = s.rv (R.CHK_POLY c) ∧
      t.rv (R.CHK_CRC c) = s.rv (R.CHK_INIT c) % 2 ^ bits v.toNat 8 6 ∧ t.rv (R.CHK_POS c) = 0 ∧ t.evt = s.evt) ∧
  -- ChkDataWrite
  (∀ (s : State) (c : Ix16) (b : List Byte),
    s.evtUp = true ∧ aliasBytes b = true ∧ s.flag (F.CHK_ALIVE_CFG.EN c) = false ∧ s.fld (F.CHK_CFG.WIDTH c) ≤ 32 →
    Answers (exec (.chkDataWrite c b) s) fun t =>
      t.rv (R.CHK_CRC c) = b.foldl (fun v x => crcByte (s.chkWidth c) (s.chkPoly c) (s.flag (F.CHK_CFG.REFIN c)) v x % 2 ^ 32) (s.rv (R.CHK_CRC c)) ∧
      t.fld (F.CHK_POS.POS c) = min (s.fld (F.CHK_POS.POS c) + b.length) 65535 ∧ t.rv (R.CHK_ALIVE_STATE c) = s.rv (R.CHK_ALIVE_STATE c) ∧ t.evt = s.evt) ∧
  -- ChkDataWrite alive
  (∀ (s : State) (c : Ix16) (b : Byte),
    s.evtUp = true ∧ s.flag (F.CHK_ALIVE_CFG.EN c) = true ∧ s.flag (F.CHK_ALIVE_CFG.WIDTH8 c) = true ∧ s.fld (F.CHK_POS.POS c) = s.fld (F.CHK_ALIVE_CFG.BYTE c) →
    s.flag (F.CHK_ALIVE_STATE.HAVE c) = true →
    Answers (exec (.chkDataWrite c [b]) s) fun t =>
      t.fld (F.CHK_ALIVE_STATE.L c) = b.toNat ∧
      t.fld (F.CHK_ALIVE_STATE.RESULT c) = (if b.toNat = (s.fld (F.CHK_ALIVE_STATE.L c) + s.fld (F.CHK_ALIVE_CFG.INC c)) % 256 then 1
      else if b.toNat = s.fld (F.CHK_ALIVE_STATE.L c) then 2 else 3)) ∧
  -- ChkInit
  (∀ (s : State) (c : Ix16),
    s.evtUp = true →
    exec (.chkInit c) s = .next ((s.setRv (R.CHK_CRC c) (s.rv (R.CHK_INIT c) % 2 ^ s.fld (F.CHK_CFG.WIDTH c))).setRv (R.CHK_POS c) 0)) ∧
  -- ChkAliveReset
  (∀ (s : State) (c : Ix16),
    s.evtUp = true →
    exec (.chkAliveReset c) s = .next (s.setFld (F.CHK_ALIVE_STATE.HAVE c) 0))

/-- Conditions under which these commands complete, with what they leave: steps of an entry (drain, commit or abort for a pending wake
source with ABORTED_WAKE, rails off, end in the state asked for), steps of an exit (rails on, restart from SLEEP with its wake sources,
retention banks that hold or fail, cold start from OFF), and a regulator that does not acknowledge, which turns an entry into an exit. (spec/17_power_dark.md (R409 to R422)) -/
def Obligations.Power_entries : Prop :=
  -- PowerEntryStep drain
  (∀ (s : State) (ok : Bool) (f : Fin 4) (q : PwrSeq),
    s.pwr.seq = some q ∧ q.exit = false ∧ q.step = 2 ∧ q.target < psDeep →
    Answers (exec (.powerEntryStep ok f) s) fun t =>
      t.pwr.seq = some { q with step := 3 } ∧ t.fld F.PWR_STATE.PHASE = phEntering ∧ t.pwr.state = s.pwr.state ∧ t.pwr.rails = s.pwr.rails) ∧
  -- PowerEntryStep commits
  (∀ (s : State) (ok : Bool) (f : Fin 4) (q : PwrSeq),
    s.pwr.seq = some q ∧ q.exit = false ∧ q.step = 3 ∧ (q.target = psIdle ∨ q.target = psSleep) ∧ q.desc = none ∧ s.wakePending = [] →
    Answers (exec (.powerEntryStep ok f) s) fun t =>
      t.pwr.seq = some { q with step := 11, rails := if q.target = psIdle then [railCore] else [9, 8, 7] } ∧ t.pwr.state = s.pwr.state ∧
      t.time.running = (decide (q.target = psIdle) && s.time.running) ∧ (q.target = psSleep → t.powered .net = false) ∧ t.powered .core = s.powered .core) ∧
  -- PowerEntryStep aborts
  (∀ (s : State) (ok : Bool) (f : Fin 4) (q : PwrSeq) (n : Nat) (rest : List Nat),
    s.pwr.seq = some q ∧ q.exit = false ∧ q.step = 3 ∧ (q.target = psIdle ∨ q.target = psSleep) ∧ q.desc = none ∧ s.wakePending = n :: rest →
    s.evtUp = true ∧ s.hasRoom Src.ghostLight = true →
    Answers (exec (.powerEntryStep ok f) s) fun t =>
      t.pwr.seq = none ∧ t.pwr.state = s.pwr.state ∧ t.fld F.PWR_STATE.PHASE = phSteady ∧ Counts s t F.PWR_ABORT_CNT.COUNT 1 ∧
      Raises s t Src.ghostLight E.ABORTED_WAKE [n] ∧ t.off = s.off) ∧
  -- PowerEntryStep ends
  (∀ (s : State) (ok : Bool) (f : Fin 4) (q : PwrSeq) (r : Nat),
    s.pwr.seq = some q ∧ q.exit = false ∧ q.step = 11 ∧ q.rails = [r] ∧ q.target < 6 ∧ s.wakePending = [] →
    Answers (exec (.powerEntryStep ok f) s) fun t =>
      t.pwr.state = q.target ∧ t.fld F.PWR_STATE.STATE = q.target ∧ t.fld F.PWR_STATE.PHASE = phSteady ∧ t.pwr.seq = none ∧
      Counts s t F.PWR_ENTRY_CNT.COUNT 1 ∧ t.evt = s.evt) ∧
  -- RegulatorAckTimeout on an entry
  (∀ (s : State) (status : BitVec 16) (q : PwrSeq) (r : Nat) (rest : List Nat),
    s.pwr.up = none ∧ s.pwr.seq = some q ∧ q.exit = false ∧ q.rails = r :: rest →
    Answers (exec (.regulatorAckTimeout status) s) fun t =>
      Counts s t F.PWR_ACK_FAIL_CNT.COUNT 1 ∧ t.pwr.seq.map (·.exit) = some true ∧ t.pwr.seq.map (·.ackFail) = some true ∧ t.pwr.seq.map (·.target) = some psRun ∧
      t.fld F.PWR_STATE.PHASE = phExiting) ∧
  -- PowerExitStep rails are on
  (∀ (s : State) (b : BitVec 8) (q : PwrSeq) (r : Nat),
    s.pwr.seq = some q ∧ q.exit = true ∧ q.step = 2 ∧ q.rails = [r] ∧ s.pwr.state ≠ psIdle →
    Answers (exec (.powerExitStep b) s) fun t =>
      t.pwr.seq = some { q with step := 3, rails := [] } ∧ t.pwr.state = s.pwr.state ∧ t.time = s.time ∧ t.off = s.off) ∧
  -- PowerExitStep from SLEEP
  (∀ (s : State) (b : BitVec 8) (q : PwrSeq),
    s.pwr.seq = some q ∧ q.exit = true ∧ q.step = 3 ∧ q.desc = none ∧ q.deeper = none ∧ s.pwr.state = psSleep ∧ s.boot.pllLost = false →
    s.hasRoom Src.ghostLight = true ∧ s.inReset = false ∧ s.powered .core = true ∧ Domain.core ∉ s.pwr.offBefore →
    Answers (exec (.powerExitStep b) s) fun t =>
      t.pwr.state = psRun ∧ t.fld F.PWR_STATE.STATE = psRun ∧ t.pwr.seq = none ∧ t.time.running = true ∧ t.off = s.pwr.offBefore ∧
      t.fld F.PWR_LAST_EXIT.SOURCES = s.fld F.PWR_WAKE_PEND.PEND ∧ t.fld F.PWR_LAST_EXIT.FROM = s.fld F.PWR_STATE.STATE ∧
      HasEvent s t Src.ghostLight E.PWR_EXIT [s.fld F.PWR_WAKE_PEND.PEND + b2n q.ackFail * 128, s.fld F.PWR_RET_BANK.BANK] ∧
      (t.clk .A).locked = false ∧ (t.clk .B).locked = false) ∧
  -- PowerExitStep banks fail
  (∀ (s : State) (b : BitVec 8) (q : PwrSeq) (k : Fin 7),
    s.pwr.seq = some q ∧ q.exit = true ∧ q.step = 4 ∧ b.toNat = 2 ^ k.val ∧ s.boot.pllLost = false →
    Answers (exec (.powerExitStep b) s) fun t =>
      t.pwr.seq = some { q with step := 6 } ∧ t.fld F.PWR_RET_BANK.BANK = 2 ^ k.val ∧ t.flag F.PWR_STATE.RET_FAULT = true ∧
      Counts s t F.PWR_RET_FAULT_CNT.COUNT 1 ∧ t.powered .core = true ∧ t.powered .cu = true ∧ t.powered .mt = true) ∧
  -- PowerExitStep banks hold
  (∀ (s : State) (q : PwrSeq),
    s.pwr.seq = some q ∧ q.exit = true ∧ q.step = 4 ∧ s.boot.pllLost = false →
    Answers (exec (.powerExitStep 0) s) fun t =>
      t.pwr.seq = some { q with step := 6 } ∧ t.fld F.PWR_RET_BANK.BANK = 0 ∧ t.flag F.PWR_STATE.RET_FAULT = s.flag F.PWR_STATE.RET_FAULT ∧
      t.time.running = true ∧ t.evt = s.evt) ∧
  -- PowerExitStep from OFF
  (∀ (s : State) (b : BitVec 8) (q : PwrSeq),
    s.pwr.seq = some q ∧ q.exit = true ∧ q.step = 3 ∧ s.pwr.state = psOff ∧ s.boot.pllLost = false →
    Answers (exec (.powerExitStep b) s) fun t =>
      t.time.house = 0 ∧ t.time.rtc = s.time.rtc ∧ t.fld F.GLB_RESET_CAUSE.CAUSE = rcOff ∧ t.boot.held = true ∧ t.inReset = true ∧ t.pwr.state = psRun ∧
      t.pwr.rails = s.pwr.rails ∧ t.boot.flash = s.boot.flash ∧ t.mtr.fram = s.mtr.fram) ∧
  -- RegulatorAckTimeout on an exit
  (∀ (s : State) (status : BitVec 16) (q : PwrSeq) (r : Nat) (rest : List Nat),
    s.pwr.up = none ∧ s.pwr.seq = some q ∧ q.exit = true ∧ q.rails = r :: rest ∧ q.deeper = none →
    Answers (exec (.regulatorAckTimeout status) s) fun t =>
      Counts s t F.PWR_ACK_FAIL_CNT.COUNT 1 ∧ t.pwr.seq = s.pwr.seq ∧ t.pwr.state = s.pwr.state)

/-- Conditions under which these commands complete, with what they leave. WakeIn, PwrWakeGo, RtcWake and PmbAlert set their pending bits and
begin an exit only where enabled and not in RUN. DarkWindowOpen powers metering and the Curtain; DarkSampleEnd closes the window and
wakes the part when it is too warm. GlAlarmWatch of an enabled input powers the Curtain and wakes the part. GlSramScrub counts the
errors it is given. (spec/17_power_dark.md (R419 to R432)) -/
def Obligations.Wake_sources : Prop :=
  -- WakeIn
  (∀ (s : State),
    s.powered .gl = true ∧ s.pwr.up = none →
    Answers (exec (.wakeIn) s) fun t =>
      bit (t.fld F.PWR_WAKE_PEND.PEND) 0 = true ∧
      t.pwr.seq.isSome = (s.pwr.seq.isSome || (bit (s.fld F.PWR_WAKE_EN.EN) 0 && decide (s.pwr.state ≠ psRun))) ∧ t.pwr.state = s.pwr.state ∧ t.evt = s.evt) ∧
  -- PwrWakeGo
  (∀ (s : State),
    s.powered .host = true ∧ (s.pwr.state = psIdle ∨ s.pwr.state = psSleep) →
    Answers (exec (.pwrWakeGo) s) fun t =>
      bit (t.fld F.PWR_WAKE_PEND.PEND) 1 = true ∧ t.pwr.seq.isSome = (s.pwr.seq.isSome || bit (s.fld F.PWR_WAKE_EN.EN) 1) ∧ t.pwr.state = s.pwr.state) ∧
  -- PwrWakeGo elsewhere
  (∀ (s : State),
    s.pwr.state = psRun →
    exec (.pwrWakeGo) s = .next (s)) ∧
  -- RtcWake
  (∀ (s : State),
    s.powered .gl = true ∧ s.pwr.up = none ∧ s.rv R.PWR_WAKE_TIME ≠ 0 ∧ s.time.rtc = s.rv R.PWR_WAKE_TIME ∧ s.pwr.state ≠ psOff →
    Answers (exec (.rtcWake) s) fun t =>
      bit (t.fld F.PWR_WAKE_PEND.PEND) 2 = true ∧
      t.pwr.seq.isSome = (s.pwr.seq.isSome || (bit (s.fld F.PWR_WAKE_EN.EN) 2 && decide (s.pwr.state ≠ psRun))) ∧ t.pwr.state = s.pwr.state) ∧
  -- PmbAlert
  (∀ (s : State),
    s.powered .gl = true ∧ s.pwr.up = none ∧ s.pwr.seq = none ∧ s.pwr.state ≠ psOff →
    Answers (exec (.pmbAlert) s) fun t =>
      bit (t.fld F.PWR_WAKE_PEND.PEND) 4 = true ∧ t.pwr.seq.isSome = (bit (s.fld F.PWR_WAKE_EN.EN) 4 && decide (s.pwr.state ≠ psRun))) ∧
  -- RtcWake in OFF
  (∀ (s : State),
    s.pwr.state = psOff →
    exec (.rtcWake) s = .next (s)) ∧
  -- DarkWindowOpen
  (∀ (s : State),
    s.pwr.state = psDark ∧ s.pwr.seq = none ∧ s.pwr.window = false →
    Answers (exec (.darkWindowOpen) s) fun t =>
      t.pwr.window = true ∧ t.pwr.dark = [] ∧ t.powered .mt = true ∧ t.powered .cu = true ∧ t.powered .core = s.powered .core ∧ Counts s t F.GL_WINDOW_CNT.COUNT 1 ∧ t.evt = s.evt) ∧
  -- DarkSampleEnd
  (∀ (s : State) (temp : BitVec 16),
    s.pwr.state = psDark ∧ s.pwr.window = true ∧ s.mtrRuns = false →
    s.darkChannels = [] ∧ s.fld F.GL_DARK_CFG.TEMP_ACTION = 0 →
    Answers (exec (.darkSampleEnd temp) s) fun t =>
      t.pwr.window = false ∧ t.powered .mt = false ∧ t.fld F.GL_TEMP.TEMP = temp.toNat ∧ t.powered .cu = (s.cuStays psDark && s.powered .cu) ∧ t.evt = s.evt ∧ t.pwr.seq = s.pwr.seq) ∧
  -- DarkSampleEnd too warm
  (∀ (s : State) (temp : BitVec 16),
    s.pwr.state = psDark ∧ s.pwr.window = true ∧ s.mtrRuns = false ∧ s.pwr.seq = none →
    s.darkChannels = [] ∧ s.fld F.GL_DARK_CFG.TEMP_ACTION = 2 ∧ ((s.fld F.GL_DARK_CFG.TEMP_MAX * 16 : Nat) : Int) < temp.toInt ∧ bit (s.fld F.PWR_WAKE_EN.EN) 6 = true →
    Answers (exec (.darkSampleEnd temp) s) fun t =>
      t.pwr.window = false ∧ bit (t.fld F.PWR_WAKE_PEND.PEND) 6 = true ∧ t.pwr.seq.map (·.exit) = some true) ∧
  -- GlAlarmWatch
  (∀ (s : State) (k : Fin 8),
    s.powered .cu = false ∧ (s.pwr.state = psDeep ∨ s.pwr.state = psDark) ∧ s.flag (F.CUR_ALARM_CFG.EN k) = true →
    Answers (exec (.glAlarmWatch (.alarm k) true) s) fun t =>
      t.powered .cu = true ∧ bit (t.fld F.PWR_WAKE_PEND.PEND) 3 = true ∧ (s.pwr.seq = none → t.pwr.seq.map (·.exit) = some true)) ∧
  -- GlAlarmWatch of a disabled input
  (∀ (s : State) (k : Fin 8) (active : Bool),
    s.flag (F.CUR_ALARM_CFG.EN k) = false →
    exec (.glAlarmWatch (.alarm k) active) s = .next (s)) ∧
  -- GlSramScrub
  (∀ (s : State) (c b : Nat),
    s.powered .gl = true ∧ s.pwr.state ≠ psOff →
    Answers (exec (.glSramScrub ⟨c, b, [], []⟩) s) fun t =>
      t.fld F.GL_SRAM_CE_CNT.COUNT = (s.fld F.GL_SRAM_CE_CNT.COUNT + c) % 2 ^ 64 ∧ t.fld F.GL_SRAM_UE_CNT.COUNT = (s.fld F.GL_SRAM_UE_CNT.COUNT + b) % 2 ^ 64 ∧
      t.mtr = s.mtr ∧ t.evt = s.evt)

/-- Conditions under which these commands complete, with what they leave. PowerOn starts power-up with cause POWER_ON. PowerUpStep goes
through the crystal, the rails in order and the last rail; a regulator that does not acknowledge starts over, and after three attempts
holds. RstNLow resets CORE with cause RST_N and keeps the real-time clock, flash, FRAM and rails. VddGlLoss loses all but flash, OTP and
FRAM. VddIo18Loss freezes metering and counts a brownout. (spec/17_power_dark.md (R409 to R412); spec/18_reset_boot_update.md (R433); spec/20_pins_electrical.md (R478 to R481)) -/
def Obligations.Supplies : Prop :=
  -- PowerOn
  (∀ (s : State),
    s.powered .gl = false →
    Answers (exec (.powerOn) s) fun t =>
      t.powered .gl = true ∧ t.powered .core = false ∧ t.time.house = 0 ∧ t.time.rtc = 0 ∧ t.fld F.GLB_RESET_CAUSE.CAUSE = rcPowerOn ∧
      t.pwr.up = some ⟨3, [], 0, false, false⟩) ∧
  -- PowerUpStep crystal
  (∀ (s : State) (u : PowerUp),
    s.powered .gl = true ∧ s.pwr.up = some u ∧ u.held = false ∧ u.step = 3 →
    exec (.powerUpStep) s = .next (s.setPwr { s.pwr with up := some { u with step := 4 } })) ∧
  -- PowerUpStep first rail
  (∀ (s : State) (u : PowerUp),
    s.powered .gl = true ∧ s.pwr.up = some u ∧ u.held = false ∧ u.step = 4 →
    Answers (exec (.powerUpStep) s) fun t =>
      t.pwr.up = some { u with step := 5, rails := allRails.filter (fun r => !s.pwr.rails.contains r), waits := false } ∧
      (0 ∉ s.pwr.rails → t.pwr.rails.contains 0 = true)) ∧
  -- PowerUpStep last rail
  (∀ (s : State) (u : PowerUp) (r : Nat),
    s.powered .gl = true ∧ s.pwr.up = some u ∧ u.held = false ∧ u.step = 5 ∧ u.waits = false ∧ u.rails = [r] →
    Answers (exec (.powerUpStep) s) fun t =>
      t.pwr.up = none ∧ t.off = [] ∧ t.time.running = true ∧ t.boot = s.boot) ∧
  -- RegulatorAckTimeout in power-up
  (∀ (s : State) (status : BitVec 16) (u : PowerUp) (r : Nat) (rest : List Nat),
    s.pwr.up = some u ∧ u.step = 5 ∧ u.rails = r :: rest →
    Answers (exec (.regulatorAckTimeout status) s) fun t =>
      Counts s t F.PWR_ACK_FAIL_CNT.COUNT 1 ∧ t.pwr.rails = [] ∧
      t.pwr.up = some { u with fails := u.fails + 1, waits := decide (u.fails < 2), held := decide (2 ≤ u.fails), rails := [] }) ∧
  -- RstNLow
  (∀ (s : State),
    (s.powered .gl = true ∧ allRails.all (fun r => s.pwr.rails.contains r) = true) →
    Answers (exec (.rstNLow) s) fun t =>
      t.time.house = 0 ∧ t.time.rtc = s.time.rtc ∧ t.fld F.GLB_RESET_CAUSE.CAUSE = rcRstN ∧ t.boot.held = true ∧ t.inReset = true ∧ t.pwr.state = psRun ∧
      t.boot.flash = s.boot.flash ∧ t.mtr.fram = s.mtr.fram ∧ t.pwr.rails = s.pwr.rails ∧ t.pending = s.pending ∧ t.fld F.GLB_BOOT.STATE = btRom ∧ t.frames = [] ∧ t.host.rings = []) ∧
  -- VddGlLoss
  (∀ (s : State),
    s.mtr.pf = none →
    Answers (exec (.vddGlLoss) s) fun t =>
      t.powered .gl = false ∧ t.powered .core = false ∧ t.time.house = 0 ∧ t.time.rtc = 0 ∧ t.boot.flash = s.boot.flash ∧ t.mtr.fram = s.mtr.fram ∧
      t.boot.otpFw = s.boot.otpFw ∧ t.boot.otpCur = s.boot.otpCur ∧ t.pbk = pbkNone ∧ t.pwr.rails = []) ∧
  -- VddIo18Loss
  (∀ (s : State),
    s.powered .gl = true ∧ s.mtr.started = true ∧ s.mtr.frozen = none ∧ s.pwr.up = none →
    Answers (exec (.vddIo18Loss) s) fun t =>
      t.mtr.frozen = some s.time.rtc ∧ t.pbk.brownouts = s.pbk.brownouts + 1 ∧ t.pbk.stub = (if s.pbk.stub < stubCount then s.pbk.stub + 1 else s.pbk.stub) ∧ t.mtr.fram = s.mtr.fram)

/-- Conditions under which these commands complete, with what they leave. HostReset and Flr clear rings, open cues and configuration space
and orphan descriptors, and keep frames, memory, calls and time. PcieConfigRequest is retried, reads the identity, or writes.
GlbResetBlock resets one link or line port alone; a target that does not exist raises RESERVED_ENCODING. GlbResetWarm and
SmWatchdogExpiry reset CORE and keep flash and Curtain SRAM. GlbWdKick changes nothing (assumption 145, the model's choice). PllUnlock
stops the clocks; PllLockReturn starts them. (spec/18_reset_boot_update.md (R433 to R436); spec/02_host_rings_objects.md (R29 to R33)) -/
def Obligations.Host_resets : Prop :=
  -- HostReset
  (∀ (s : State),
    s.powered .host = true →
    Answers (exec (.hostReset) s) fun t =>
      t.host.rings = [] ∧ t.host.openCues = [] ∧ (t.host.store.all (fun e => e.orphan)) = true ∧ t.host.pciCfg = [] ∧ t.host.mrrs = 512 ∧
      t.fld F.HST_CTRL.ENABLE = 0 ∧ t.frames = s.frames ∧ t.mem = s.mem ∧ t.cb = s.cb ∧ t.time = s.time ∧ t.pbk.resets.get 0 2 = s.pbk.resets.get 0 2 + 1 ∧ t.evt = s.evt) ∧
  -- Flr
  (∀ (s : State),
    s.powered .host = true →
    Answers (exec (.flr) s) fun t =>
      t.host.rings = [] ∧ t.host.openCues = [] ∧ (t.host.store.all (fun e => e.orphan)) = true ∧ t.host.pciCfg = [] ∧ t.host.mrrs = 512 ∧
      t.fld F.HST_CTRL.ENABLE = 0 ∧ t.frames = s.frames ∧ t.mem = s.mem ∧ t.cb = s.cb ∧ t.time = s.time ∧ t.pbk.resets.get 0 3 = s.pbk.resets.get 0 3 + 1 ∧ t.evt = s.evt) ∧
  -- PcieConfigRequest retried
  (∀ (s : State) (w : Bool) (o : Fin 4096) (v : Word),
    s.powered .host = true ∧ s.boot.held = false ∧ s.boot.retry = true →
    exec (.pcieConfigRequest w o v) s = .next (s.send .retry)) ∧
  -- PcieConfigRequest identity
  (∀ (s : State) (v : Word),
    s.powered .host = true ∧ s.boot.held = false ∧ s.boot.retry = false →
    exec (.pcieConfigRequest false 0 v) s = .next (s.send (.readData (Config.vendorId.toNat + 0x0640 * 2 ^ 16)))) ∧
  -- PcieConfigRequest write
  (∀ (s : State) (v : Word),
    s.powered .host = true ∧ s.boot.held = false ∧ s.boot.retry = false →
    Answers (exec (.pcieConfigRequest true 4 v) s) fun t =>
      t.host.pciCfg.get 0 4 = v.toNat ∧ t.flyHostOk = (bit v.toNat 2 && s.powered .host) ∧ t.sent = s.sent ∧ t.evt = s.evt) ∧
  -- GlbResetBlock link
  (∀ (s : State) (l : BitVec 6),
    s.evtUp = true ∧ s.powered (linkDomain l.toNat) = true →
    Answers (exec (.glbResetBlock 0 l) s) fun t =>
      t.linkState l.toNat = lkDisabled ∧ t.link l.toNat = linkReset ∧ (∀ k : Fin 66, k.val ≠ l.toNat → t.linkState k = s.linkState k) ∧
      t.pbk.resets.get 0 4 = s.pbk.resets.get 0 4 + 1) ∧
  -- GlbResetBlock line port
  (∀ (s : State) (n : BitVec 6),
    s.evtUp = true ∧ n.toNat < 16 ∧ s.lineCurtain n.toNat = false →
    Answers (exec (.glbResetBlock 3 n) s) fun t =>
      t.line = s.line.erase n.toNat ∧ t.pbk.resets.get 0 4 = s.pbk.resets.get 0 4 + 1 ∧ t.frames = s.frames ∧ t.mem = s.mem ∧ t.evt = s.evt) ∧
  -- GlbResetBlock no such target
  (∀ (s : State) (k : BitVec 3) (n : BitVec 6),
    s.evtUp = true ∧ s.hasRoom Src.hostRegs = true →
    (k.toNat = 1 ∧ 8 ≤ n.toNat) ∨ (k.toNat = 2 ∧ 8 ≤ n.toNat) ∨ (k.toNat = 3 ∧ 16 ≤ n.toNat) ∨ (k.toNat = 4 ∧ 16 ≤ n.toNat) ∨ 5 ≤ k.toNat →
    Answers (exec (.glbResetBlock k n) s) fun t =>
      Raises s t Src.hostRegs E.RESERVED_ENCODING [] ∧ t.regs = s.regs ∧ t.pbk = s.pbk ∧ t.links = s.links) ∧
  -- GlbResetWarm
  (∀ (s : State) (f : Fin 4),
    s.powered .core = true ∧ s.boot.held = false ∧ s.time.running = true →
    Answers (exec (.glbResetWarm f) s) fun t =>
      t.inReset = true ∧ t.fld F.GLB_RESET_CAUSE.CAUSE = rcWarm ∧ t.fld F.GLB_RESET_CAUSE.RTC = s.time.rtc % 2 ^ 45 ∧ t.frames = [] ∧ t.host.rings = [] ∧
      t.host.store = [] ∧ t.obj.objs = [] ∧ t.fly = [] ∧ t.qb = [] ∧ t.cues = [] ∧ t.time.house = s.time.house ∧ t.cur.sram = s.cur.sram ∧ t.mtr.fram = s.mtr.fram ∧
      t.pbk.resets.get 0 1 = s.pbk.resets.get 0 1 + 1) ∧
  -- SmWatchdogExpiry
  (∀ (s : State),
    s.powered .core = true ∧ s.boot.held = false ∧ s.time.running = true ∧ s.flag F.GLB_WD.EN = true →
    Answers (exec (.smWatchdogExpiry) s) fun t =>
      t.inReset = true ∧ t.fld F.GLB_RESET_CAUSE.CAUSE = rcWatchdog ∧ t.fld F.GLB_WD.EN = 0 ∧ t.frames = [] ∧ t.host.rings = [] ∧ t.obj.objs = [] ∧ t.boot.flash = s.boot.flash ∧
      t.cur.sram = s.cur.sram ∧ t.pbk.resets.get 0 1 = s.pbk.resets.get 0 1 + 1) ∧
  -- GlbWdKick
  (∀ (s : State),
    exec (.glbWdKick) s = .next (s)) ∧
  -- PllUnlock
  (∀ (s : State),
    s.time.running = true ∧ s.boot.pllLost = false ∧ s.powered .cu = true ∧ s.evt.glQueue = [] ∧ s.evt.raised = [] →
    Answers (exec (.pllUnlock) s) fun t =>
      t.time.running = false ∧ t.inReset = true ∧ t.boot.pllLost = true ∧ t.fld F.GLB_RESET_CAUSE.CAUSE = rcPll ∧ t.fld F.CUR_STATE.BACKUP_CLK = 1 ∧
      t.curMode = s.curMode ∧ (t.clk .A).locked = false ∧ (t.clk .B).locked = false ∧
      (t.evt.glQueue.map (fun e => (e.1.source, e.1.code))).contains (Src.ghostLight, E.PLL_UNLOCK) = true) ∧
  -- PllLockReturn
  (∀ (s : State),
    s.boot.pllLost = true →
    s.inReset = true ∨ s.pwr.state < psSleep →
    Answers (exec (.pllLockReturn) s) fun t =>
      t.time.running = true ∧ t.boot.pllLost = false ∧ t.fld F.CUR_STATE.BACKUP_CLK = 0 ∧ t.inReset = s.inReset)

/-- Conditions under which these commands complete, with what they leave. BootPackageVerified starts a package that passes; one that fails
in ACTIVE leads to recovery with BOOT_FALLBACK, one in Wings to ACTIVE with UPDATE_FAIL. HostLoadGo and TandemBootPackage begin
verification; TandemBootTimeout falls back to flash. BootReady takes CORE out of reset with BOOT_DONE and empty memory. UpdateCancel
empties Wings; WingsChunkProgrammed stores a chunk's bytes and completes the package with the last; WingsInstall installs it and raises
the rollback number, or fails. (spec/18_reset_boot_update.md (R437 to R450)) -/
def Obligations.Boot : Prop :=
  -- BootPackageVerified passes
  (∀ (s : State) (a b : Bool),
    s.booting = true ∧ (s.boot.pkg = pkgActive ∨ s.boot.pkg = pkgTandem) ∧ s.pkgCheck a b = 0 →
    Answers (exec (.bootPackageVerified a b) s) fun t =>
      t.bootState = btStarting ∧ t.fld F.GLB_FW_VERSION.VERSION = Pk.version s.pkgHeader ∧ t.fld F.GLB_BOOT.FROM_WINGS = 0 ∧ t.boot.pkg = 0 ∧ t.inReset = true ∧ t.evt = s.evt) ∧
  -- BootPackageVerified fails in ACTIVE
  (∀ (s : State) (a b : Bool),
    s.booting = true ∧ s.boot.pkg = pkgActive ∧ s.pkgCheck a b ≠ 0 ∧ s.evt.glQueue.length < 64 →
    Answers (exec (.bootPackageVerified a b) s) fun t =>
      t.bootState = btRom ∧ t.flag F.GLB_BOOT.RECOVERY = true ∧ t.fld F.GLB_BOOT.SOURCE = srcHost ∧ t.boot.window = true ∧ t.boot.retry = false ∧
      Defers s t Src.glb E.BOOT_FALLBACK []) ∧
  -- BootPackageVerified fails in Wings
  (∀ (s : State) (a b : Bool),
    s.booting = true ∧ s.boot.pkg = pkgWings ∧ s.pkgCheck a b ≠ 0 ∧ s.evt.glQueue.length < 64 →
    Answers (exec (.bootPackageVerified a b) s) fun t =>
      t.bootState = btLoading ∧ t.boot.wings = wgFailed ∧ t.boot.fail = s.pkgCheck a b ∧ t.boot.pkg = pkgActive ∧
      Defers s t Src.glb E.UPDATE_FAIL [s.pkgCheck a b]) ∧
  -- HostLoadGo
  (∀ (s : State),
    s.booting = true ∧ s.boot.window = true ∧ s.boot.pkg = 0 →
    exec (.hostLoadGo) s = .next ((s.setBoot { s.boot with pkg := pkgWindow }).setFld F.GLB_BOOT.STATE btVerifying)) ∧
  -- TandemBootPackage
  (∀ (s : State),
    s.romNode = true ∧ s.bootState = btLoading ∧ s.boot.pkg = 0 →
    exec (.tandemBootPackage) s = .next ((s.setBoot { s.boot with pkg := pkgTandem }).setFld F.GLB_BOOT.STATE btVerifying)) ∧
  -- TandemBootTimeout
  (∀ (s : State),
    s.romNode = true ∧ s.bootState ≤ btVerifying ∧ s.evt.glQueue.length < 64 →
    Answers (exec (.tandemBootTimeout) s) fun t =>
      t.flag F.GLB_BOOT.FALLBACK = true ∧ t.fld F.GLB_BOOT.SOURCE = srcFlash ∧ t.bootState = btLoading ∧ Defers s t Src.glb E.BOOT_FALLBACK []) ∧
  -- BootReady
  (∀ (s : State) (d : Degraded),
    s.booting = true ∧ s.bootState = btStarting ∧ s.hasRoom Src.glb = true ∧ d.cores ≠ BitVec.allOnes 4 ∧ anyDegraded d = false →
    Answers (exec (.bootReady d 0 false) s) fun t =>
      t.bootState = btReady ∧ t.inReset = false ∧ t.boot.retry = false ∧ t.mem.hbm = [] ∧ t.mem.sram = [] ∧ t.fld F.GLB_SETTINGS_RESET.SECTIONS = 0 ∧
      HasEvent s t Src.glb E.BOOT_DONE [s.fld F.GLB_FW_VERSION.VERSION, s.fld F.GLB_BOOT.SOURCE]) ∧
  -- UpdateCancel
  (∀ (s : State),
    s.evtUp = true ∧ s.boot.wings ≠ wgInstalling ∧ s.boot.chunks = [] →
    Answers (exec (.updateCancel) s) fun t =>
      t.boot.wings = wgEmpty ∧ t.boot.fail = 0 ∧ t.boot.marks = [] ∧ t.boot.total = 0 ∧ t.evt = s.evt ∧
      ∀ a, t.flashBytes a 1 = (if wingsAt ≤ a ∧ a < wingsAt + wingsBytes then [flashBlank] else s.flashBytes a 1)) ∧
  -- UpdateCancel during installation
  (∀ (s : State),
    s.boot.wings = wgInstalling →
    exec (.updateCancel) s = .next (s)) ∧
  -- WingsChunkProgrammed
  (∀ (s : State) (c : ChunkWrite) (rest : List ChunkWrite),
    s.evtUp = true ∧ s.boot.chunks = c :: rest ∧ s.boot.marks.contains c.index = false ∧ s.boot.marks.length + 1 ≠ s.boot.total ∧ c.bytes.length ≤ 4096 →
    Answers (exec (.wingsChunkProgrammed) s) fun t =>
      t.boot.chunks = rest ∧ t.boot.marks = s.boot.marks ++ [c.index] ∧ t.boot.wings = s.boot.wings ∧ t.flashBytes (wingsChunk c.index) c.bytes.length = c.bytes) ∧
  -- WingsChunkProgrammed last
  (∀ (s : State) (c : ChunkWrite) (rest : List ChunkWrite),
    s.evtUp = true ∧ s.boot.chunks = c :: rest ∧ s.boot.marks.contains c.index = false ∧ s.boot.marks.length + 1 = s.boot.total ∧ s.hasRoom Src.glb = true →
    Answers (exec (.wingsChunkProgrammed) s) fun t =>
      t.boot.wings = wgComplete ∧ t.boot.marks = s.boot.marks ++ [c.index] ∧ HasEvent s t Src.glb E.UPDATE_RECEIVED []) ∧
  -- WingsInstall
  (∀ (s : State),
    s.evtUp = true ∧ s.boot.wings = wgInstalling ∧ s.hasRoom Src.glb = true →
    Answers (exec (.wingsInstall true) s) fun t =>
      t.boot.wings = wgEmpty ∧ t.boot.marks = [] ∧ Raises s t Src.glb E.UPDATE_INSTALLED [] ∧
      t.boot.otpFw = (if Pk.kind (s.flashBytes wingsAt 4096) = kindCurtain then s.boot.otpFw else max s.boot.otpFw (Pk.rollback (s.flashBytes wingsAt 4096)))) ∧
  -- WingsInstall fails
  (∀ (s : State),
    s.evtUp = true ∧ s.boot.wings = wgInstalling ∧ s.hasRoom Src.glb = true →
    Answers (exec (.wingsInstall false) s) fun t =>
      t.boot.wings = wgFailed ∧ t.boot.fail = 5 ∧ t.boot.otpFw = s.boot.otpFw ∧ t.boot.otpCur = s.boot.otpCur ∧ Raises s t Src.glb E.UPDATE_FAIL [5])

/-- Conditions under which these commands complete, with what they leave. EventRelease moves the oldest held event, more than 256 cycles
old, to the event store, with EVENT_OVERFLOW before it when its source had lost events; into a full store it is counted as lost.
EventDeliver writes the oldest record of the store to the one event ring, or counts it as lost for a ring that is full. (spec/19_prompt_book.md (R451 to R456)) -/
def Obligations.Event_release : Prop :=
  -- EventRelease
  (∀ (s : State) (e : EvtRec),
    s.evtUp = true ∧ s.evt.warmLost = 0 ∧ firstEvt s.evt.held = some e ∧ e.house + 256 < s.time.house ∧ e.lost = 0 ∧ s.evt.store.length < 4096 ∧ e.house < 2 ^ 64 →
    Answers (exec (.eventRelease) s) fun t =>
      t.evt.store = s.evt.store ++ [e] ∧ t.evt.held = s.evt.held.erase e ∧ Counts s t F.EVT_RAISED_CNT.COUNT 1 ∧ t.rv R.EVT_LAST_HOUSE = e.house ∧ t.evt.raised = s.evt.raised) ∧
  -- EventRelease after a loss at the source
  (∀ (s : State) (e : EvtRec),
    s.evtUp = true ∧ s.evt.warmLost = 0 ∧ firstEvt s.evt.held = some e ∧ e.house + 256 < s.time.house ∧ e.lost ≠ 0 ∧ s.evt.store.length < 4095 →
    Answers (exec (.eventRelease) s) fun t =>
      t.evt.store = s.evt.store ++ [⟨e.house, Src.events, E.EVENT_OVERFLOW, false, [e.source, e.lost % 2 ^ 32], 0⟩, { e with lost := 0 }] ∧
      Counts s t F.EVT_RAISED_CNT.COUNT 2) ∧
  -- EventRelease too early
  (∀ (s : State),
    (s.evt.warmLost = 0 ∧ s.evt.held.all (fun e => decide (s.time.house ≤ e.house + 256)) = true) →
    exec (.eventRelease) s = .next (s)) ∧
  -- EventRelease into a full store
  (∀ (s : State) (e : EvtRec),
    s.evtUp = true ∧ s.evt.warmLost = 0 ∧ firstEvt s.evt.held = some e ∧ e.house + 256 < s.time.house ∧ e.lost = 0 ∧ s.evt.store.length = 4096 ∧ s.eventRings = [] →
    Answers (exec (.eventRelease) s) fun t =>
      t.evt.store = s.evt.store ∧ t.evt.held = s.evt.held.erase e ∧ Counts s t F.EVT_STORE_LOST_CNT.COUNT 1 ∧ Counts s t F.EVT_RAISED_CNT.COUNT 1) ∧
  -- EventDeliver
  (∀ (s : State) (e : EvtRec) (rest : List EvtRec) (n : RingIx),
    s.hostUp = true ∧ s.evt.store = e :: rest ∧ s.eventRings = [n.val] ∧ s.unconsumed n + 2 < s.cqSlots n ∧ (s.ring n).lost = 0 →
    Answers (exec (.eventDeliver) s) fun t =>
      t.sent = s.sent ++ [.hostWrite (s.cqBase n + (s.ring n).cqTail * 32) e.bytes] ∧ t.evt.store = rest ∧ (t.ring n).cqTail = ((s.ring n).cqTail + 1) % s.cqSlots n) ∧
  -- EventDeliver to a full ring
  (∀ (s : State) (e : EvtRec) (rest : List EvtRec) (n : RingIx),
    s.hostUp = true ∧ s.evt.store = e :: rest ∧ s.eventRings = [n.val] ∧ s.cqSlots n ≤ s.unconsumed n + 2 →
    Answers (exec (.eventDeliver) s) fun t =>
      t.sent = s.sent ∧ t.evt.store = rest ∧ (t.ring n).lost = (s.ring n).lost + 1 ∧ (t.ring n).lostLast = e.house ∧ Counts s t (F.HST_RING_LOST_CNT.COUNT n) 1)

/-- Conditions under which these commands complete, with what they leave. LedgerCheck of ledgers that hold changes nothing; of one that
fails sets its bit, counts and raises LEDGER_FAULT. PbkSecondTick and PbkHourTick add to power-on time and to the histograms, which stop
at their greatest value. PbkPeriodicWrite writes the next record of the book in the next slot, or counts three failed attempts. (spec/19_prompt_book.md (R458 to R466)) -/
def Obligations.Ledgers_and_the_Prompt_Book : Prop :=
  -- LedgerCheck holds
  (∀ (s : State),
    (s.ledgers.all (fun x => x.2.2.1 == x.2.2.2) = true) →
    exec (.ledgerCheck) s = .next (s)) ∧
  -- LedgerCheck fails
  (∀ (s : State) (x : Nat × Nat × Nat × Nat),
    s.evtUp = true ∧ s.rv R.EVT_LEDGER ≠ 0 ∧ s.hasRoom Src.events = true ∧ x.1 < 7 →
    (s.ledgers.filter (fun y => y.2.2.1 != y.2.2.2) = [x]) →
    Answers (exec (.ledgerCheck) s) fun t =>
      bit (t.fld F.EVT_LEDGER_FAULT.LEDGER) x.1 = true ∧ Counts s t F.EVT_LEDGER_FAULT_CNT.COUNT 1 ∧ Raises s t Src.events E.LEDGER_FAULT [x.1, x.2.1, x.2.2.1]) ∧
  -- PbkSecondTick
  (∀ (s : State) (ts : List (BitVec 16)),
    s.powered .gl = true ∧ ts.length = 19 →
    Answers (exec (.pbkSecondTick ts) s) fun t =>
      Counts s t F.PBK_POWER_ON.SECONDS 1 ∧ t.fld F.GL_TEMP.TEMP = (ts.getD 18 0).toNat ∧
      (∀ g : Fin 19, s.groupPowered g = true → t.pbk.temps.get 0 (16 * g + tempBin (ts.getD g 0).toNat) = min (s.pbk.temps.get 0 (16 * g + tempBin (ts.getD g 0).toNat) + 1) (2 ^ 32 - 1)) ∧ t.evt = s.evt) ∧
  -- PbkHourTick
  (∀ (s : State),
    s.evtUp = true →
    Answers (exec (.pbkHourTick) s) fun t =>
      (∀ k : Fin 132, s.powered (linkDomain (k / 2)) = true ∧ s.linkActive (k / 2) = true →
      t.pbk.errAt.get 0 k = 0 ∧ t.pbk.errs.get 0 (8 * k + errBin (s.pbk.errAt.get 0 k)) = min (s.pbk.errs.get 0 (8 * k + errBin (s.pbk.errAt.get 0 k)) + 1) (2 ^ 32 - 1)) ∧
      t.evt = s.evt ∧ t.regs = s.regs) ∧
  -- PbkPeriodicWrite
  (∀ (s : State),
    s.evtUp = true ∧ s.pwr.seq = none ∧ s.rv R.PBK_SEQ ≠ 0 →
    Answers (exec (.pbkPeriodicWrite 0) s) fun t =>
      t.rv R.PBK_SEQ = (s.rv R.PBK_SEQ + 1) % 2 ^ 32 ∧ t.fld F.PBK_STATE.SLOT = (s.fld F.PBK_STATE.SLOT + 1) % 240 ∧ t.rv R.PBK_LAST_WRITE = s.time.rtc % 2 ^ 64 ∧
      Counts s t F.PBK_WRITE_CNT.COUNT 1 ∧ t.fld F.PBK_STATE.LAST_FAIL = 0 ∧
      t.flashBytes (bookSlot ((s.fld F.PBK_STATE.SLOT + 1) % 240)) 8744 = s.book bookPeriodic ((s.rv R.PBK_SEQ + 1) % 2 ^ 32) ∧ t.evt = s.evt) ∧
  -- PbkPeriodicWrite fails
  (∀ (s : State),
    s.evtUp = true ∧ s.pwr.seq = none →
    Answers (exec (.pbkPeriodicWrite 3) s) fun t =>
      t.rv R.PBK_SEQ = s.rv R.PBK_SEQ ∧ t.fld F.PBK_STATE.LAST_FAIL = 1 ∧ t.fld F.PBK_STATE.SLOT = s.fld F.PBK_STATE.SLOT ∧ Counts s t F.PBK_WRITE_FAIL_CNT.COUNT 3)
end

