-- ==== Sys2Proof/Laws/FMap.lean ====
section
/-! SUPPORT. Laws of sparse tables and of bit fields: a read after a write, writes elsewhere, and the canonical form. -/

namespace Sys2Proof.Machine

variable {α : Type}

@[simp] theorem FMap.get_nil (d : α) (k : Nat) : FMap.get d [] k = d := rfl

theorem FMap.get_insert_same (d : α) (m : FMap α) (k : Nat) (v : α) : FMap.get d (FMap.insert m k v) k = v := by
  induction m with
  | nil => simp [FMap.insert, FMap.get]
  | cons e rest ih =>
    obtain ⟨j, w⟩ := e
    simp only [FMap.insert]
    split
    · simp [FMap.get]
    · split
      · simp [FMap.get]
      · rename_i h
        simp only [FMap.get, if_neg (Ne.symm h), ih]

theorem FMap.get_insert_other (d : α) (m : FMap α) {k i : Nat} (v : α) (h : i ≠ k) :
    FMap.get d (FMap.insert m k v) i = FMap.get d m i := by
  induction m with
  | nil => simp [FMap.insert, FMap.get, Ne.symm h]
  | cons e rest ih =>
    obtain ⟨j, w⟩ := e
    simp only [FMap.insert]
    split
    · simp [FMap.get, Ne.symm h]
    · split
      · rename_i hk
        subst hk
        simp [FMap.get, Ne.symm h]
      · simp only [FMap.get, ih]

theorem FMap.get_erase_same (d : α) (m : FMap α) (k : Nat) : FMap.get d (FMap.erase m k) k = d := by
  induction m with
  | nil => rfl
  | cons e rest ih =>
    obtain ⟨j, w⟩ := e
    simp only [FMap.erase]
    split
    · exact ih
    · rename_i h
      simp only [FMap.get, if_neg h, ih]

theorem FMap.get_erase_other (d : α) (m : FMap α) {k i : Nat} (h : i ≠ k) : FMap.get d (FMap.erase m k) i = FMap.get d m i := by
  induction m with
  | nil => rfl
  | cons e rest ih =>
    obtain ⟨j, w⟩ := e
    simp only [FMap.erase]
    split
    · rename_i hj
      subst hj
      simp only [FMap.get, if_neg (Ne.symm h), ih]
    · simp only [FMap.get, ih]

/-- A read of the place a write went to. -/
@[simp] theorem FMap.get_put_same [DecidableEq α] (d : α) (m : FMap α) (k : Nat) (v : α) : FMap.get d (FMap.put d m k v) k = v := by
  unfold FMap.put
  split
  · rename_i h; rw [FMap.get_erase_same, h]
  · exact FMap.get_insert_same d m k v

/-- A read of any other place, whatever an unlisted place reads as. -/
theorem FMap.get_put_other [DecidableEq α] (d d' : α) (m : FMap α) {k i : Nat} (v : α) (h : i ≠ k) :
    FMap.get d' (FMap.put d m k v) i = FMap.get d' m i := by
  unfold FMap.put
  split
  · exact FMap.get_erase_other d' m h
  · exact FMap.get_insert_other d' m v h

theorem FMap.above_mono {k j : Nat} {m : FMap α} (h : k ≤ j) (hm : FMap.above j m = true) : FMap.above k m = true := by
  simp only [FMap.above, List.all_eq_true, decide_eq_true_eq] at *
  intro e he
  exact lt_of_le_of_lt h (hm e he)

theorem FMap.above_insert {k j : Nat} {m : FMap α} (v : α) (hj : k < j) (hm : FMap.above k m = true) :
    FMap.above k (FMap.insert m j v) = true := by
  induction m with
  | nil => simp [FMap.insert, FMap.above, hj]
  | cons e rest ih =>
    obtain ⟨i, w⟩ := e
    simp only [FMap.above, List.all_cons, Bool.and_eq_true, decide_eq_true_eq] at hm
    simp only [FMap.insert]
    split
    · simp only [FMap.above, List.all_cons, Bool.and_eq_true, decide_eq_true_eq]
      exact ⟨hj, hm⟩
    · split
      · simp only [FMap.above, List.all_cons, Bool.and_eq_true, decide_eq_true_eq]
        exact ⟨hj, hm.2⟩
      · have := ih hm.2
        simp only [FMap.above, List.all_cons, Bool.and_eq_true, decide_eq_true_eq] at *
        exact ⟨hm.1, this⟩

theorem FMap.above_erase {k j : Nat} {m : FMap α} (hm : FMap.above k m = true) : FMap.above k (FMap.erase m j) = true := by
  induction m with
  | nil => rfl
  | cons e rest ih =>
    obtain ⟨i, w⟩ := e
    simp only [FMap.above, List.all_cons, Bool.and_eq_true, decide_eq_true_eq] at hm
    simp only [FMap.erase]
    split
    · exact ih hm.2
    · have := ih hm.2
      simp only [FMap.above, List.all_cons, Bool.and_eq_true, decide_eq_true_eq] at *
      exact ⟨hm.1, this⟩

theorem FMap.wf_erase [DecidableEq α] (d : Nat → α) (m : FMap α) (k : Nat) (h : FMap.wf d m = true) : FMap.wf d (FMap.erase m k) = true := by
  induction m with
  | nil => rfl
  | cons e rest ih =>
    obtain ⟨j, w⟩ := e
    simp only [FMap.wf, Bool.and_eq_true] at h
    simp only [FMap.erase]
    split
    · exact ih h.2
    · simp only [FMap.wf, Bool.and_eq_true]
      exact ⟨⟨FMap.above_erase h.1.1, h.1.2⟩, ih h.2⟩

theorem FMap.wf_insert [DecidableEq α] (d : Nat → α) (m : FMap α) (k : Nat) (v : α) (hv : v ≠ d k) (h : FMap.wf d m = true) :
    FMap.wf d (FMap.insert m k v) = true := by
  induction m with
  | nil => simp [FMap.insert, FMap.wf, FMap.above, hv]
  | cons e rest ih =>
    obtain ⟨j, w⟩ := e
    have h' := h
    simp only [FMap.wf, Bool.and_eq_true] at h
    simp only [FMap.insert]
    split
    · rename_i hk
      rw [FMap.wf, h', Bool.and_true, Bool.and_eq_true, decide_eq_true_eq]
      refine ⟨?_, hv⟩
      simp only [FMap.above, List.all_cons, Bool.and_eq_true, decide_eq_true_eq]
      exact ⟨hk, FMap.above_mono (le_of_lt hk) h.1.1⟩
    · split
      · rename_i hk
        subst hk
        simp only [FMap.wf, Bool.and_eq_true, decide_eq_true_eq]
        exact ⟨⟨h.1.1, hv⟩, h.2⟩
      · rename_i h1 h2
        simp only [FMap.wf, Bool.and_eq_true]
        exact ⟨⟨FMap.above_insert v (by omega) h.1.1, h.1.2⟩, ih h.2⟩

/-- A write keeps the canonical form. -/
theorem FMap.wf_put [DecidableEq α] (d : Nat → α) (m : FMap α) (k : Nat) (v : α) (h : FMap.wf d m = true) :
    FMap.wf d (FMap.put (d k) m k v) = true := by
  unfold FMap.put
  split
  · exact FMap.wf_erase d m k h
  · rename_i hv; exact FMap.wf_insert d m k v hv h

/-- Entries that are dropped leave the canonical form. -/
theorem FMap.wf_filter [DecidableEq α] (d : Nat → α) (p : Nat × α → Bool) (m : FMap α) (h : FMap.wf d m = true) :
    FMap.wf d (m.filter p) = true := by
  induction m with
  | nil => rfl
  | cons e rest ih =>
    obtain ⟨j, w⟩ := e
    simp only [FMap.wf, Bool.and_eq_true] at h
    simp only [List.filter_cons]
    split
    · simp only [FMap.wf, Bool.and_eq_true]
      refine ⟨⟨?_, h.1.2⟩, ih h.2⟩
      simp only [FMap.above, List.all_eq_true, decide_eq_true_eq, List.mem_filter] at *
      exact fun e he => h.1.1 e he.1
    · exact ih h.2

theorem FMap.wf_append [DecidableEq α] (d : Nat → α) (a b : FMap α) (ha : FMap.wf d a = true) (hb : FMap.wf d b = true)
    (h : ∀ x ∈ a, ∀ y ∈ b, x.1 < y.1) : FMap.wf d (a ++ b) = true := by
  induction a with
  | nil => exact hb
  | cons e rest ih =>
    obtain ⟨j, v⟩ := e
    simp only [FMap.wf, Bool.and_eq_true] at ha
    simp only [List.cons_append, FMap.wf, Bool.and_eq_true]
    refine ⟨⟨?_, ha.1.2⟩, ih ha.2 (fun x hx => h x (List.mem_cons_of_mem _ hx))⟩
    simp only [FMap.above, List.all_append, Bool.and_eq_true, List.all_eq_true, decide_eq_true_eq] at *
    exact ⟨ha.1.1, fun y hy => h (j, v) List.mem_cons_self y hy⟩

theorem FMap.runOf_keys [DecidableEq α] (d : α) (vs : List α) (k : Nat) :
    ∀ e ∈ FMap.runOf d k vs, k ≤ e.1 ∧ e.1 < k + vs.length := by
  induction vs generalizing k with
  | nil => simp [FMap.runOf]
  | cons v rest ih =>
    intro e he
    simp only [FMap.runOf] at he
    simp only [List.length_cons]
    split at he
    · have := ih (k + 1) e he; omega
    · rcases List.mem_cons.mp he with rfl | he
      · exact ⟨Nat.le_refl _, by omega⟩
      · have := ih (k + 1) e he; omega

theorem FMap.wf_runOf [DecidableEq α] (d : α) (vs : List α) (k : Nat) : FMap.wf (fun _ => d) (FMap.runOf d k vs) = true := by
  induction vs generalizing k with
  | nil => rfl
  | cons v rest ih =>
    simp only [FMap.runOf]
    split
    · exact ih _
    · rename_i hv
      simp only [FMap.wf, Bool.and_eq_true, decide_eq_true_eq]
      refine ⟨⟨?_, hv⟩, ih _⟩
      simp only [FMap.above, List.all_eq_true, decide_eq_true_eq]
      intro e he
      have := FMap.runOf_keys d rest (k + 1) e he
      omega

/-- A run of writes keeps the canonical form. -/
theorem FMap.wf_putList [DecidableEq α] (d : α) (vs : List α) (m : FMap α) (k : Nat) (h : FMap.wf (fun _ => d) m = true) :
    FMap.wf (fun _ => d) (FMap.putList d m k vs) = true := by
  unfold FMap.putList
  refine FMap.wf_append _ _ _ (FMap.wf_filter _ _ _ h) (FMap.wf_append _ _ _ (FMap.wf_runOf _ _ _) (FMap.wf_filter _ _ _ h) ?_) ?_
  · intro x hx y hy
    have := FMap.runOf_keys d vs k x hx
    simp only [List.mem_filter, decide_eq_true_eq] at hy
    omega
  · intro x hx y hy
    simp only [List.mem_filter, decide_eq_true_eq] at hx
    rcases List.mem_append.mp hy with hy | hy
    · have := FMap.runOf_keys d vs k y hy; omega
    · simp only [List.mem_filter, decide_eq_true_eq] at hy; omega

/-- A read looks only at entries that a filter keeps, when it keeps every entry of its key. -/
theorem FMap.get_filter (d : α) (p : Nat × α → Bool) (m : FMap α) (k : Nat) (h : ∀ v, p (k, v) = true) :
    FMap.get d (m.filter p) k = FMap.get d m k := by
  induction m with
  | nil => rfl
  | cons e rest ih =>
    obtain ⟨j, w⟩ := e
    simp only [List.filter_cons]
    by_cases hj : j = k
    · subst hj
      rw [if_pos (h w)]; simp [FMap.get]
    · split
      · simp [FMap.get, hj, ih]
      · simp [FMap.get, hj, ih]

theorem FMap.get_absent (d : α) (m : FMap α) (k : Nat) (h : ∀ e ∈ m, e.1 ≠ k) : FMap.get d m k = d := by
  induction m with
  | nil => rfl
  | cons e rest ih =>
    obtain ⟨j, w⟩ := e
    have := h (j, w) List.mem_cons_self
    simp only [FMap.get]
    rw [if_neg this]
    exact ih (fun e he => h e (List.mem_cons_of_mem _ he))

theorem FMap.get_append_left (d : α) (a b : FMap α) (k : Nat) (h : ∀ e ∈ b, e.1 ≠ k) : FMap.get d (a ++ b) k = FMap.get d a k := by
  induction a with
  | nil => exact FMap.get_absent d b k h
  | cons e rest ih =>
    obtain ⟨j, w⟩ := e
    simp only [List.cons_append, FMap.get, ih]

theorem FMap.get_append_right (d : α) (a b : FMap α) (k : Nat) (h : ∀ e ∈ a, e.1 ≠ k) : FMap.get d (a ++ b) k = FMap.get d b k := by
  induction a with
  | nil => rfl
  | cons e rest ih =>
    obtain ⟨j, w⟩ := e
    have := h (j, w) List.mem_cons_self
    simp only [List.cons_append, FMap.get]
    rw [if_neg this]
    exact ih (fun e he => h e (List.mem_cons_of_mem _ he))

theorem FMap.get_runOf [DecidableEq α] (d : α) (vs : List α) (k i : Nat) (h : i < vs.length) :
    FMap.get d (FMap.runOf d k vs) (k + i) = vs.getD i d := by
  induction vs generalizing k i with
  | nil => simp at h
  | cons v rest ih =>
    simp only [FMap.runOf]
    cases i with
    | zero =>
      split
      · rename_i hv
        rw [FMap.get_absent]
        · simp [hv]
        · intro e he
          have := FMap.runOf_keys d rest (k + 1) e he
          omega
      · simp [FMap.get]
    | succ i =>
      have h' : i < rest.length := by simpa using h
      have e : k + (i + 1) = (k + 1) + i := by omega
      split
      · rw [e, ih (k + 1) i h']; simp
      · simp only [FMap.get]
        rw [if_neg (by omega), e, ih (k + 1) i h']; simp

/-- A read of a place that a run of writes reached. -/
theorem FMap.get_putList_in [DecidableEq α] (d : α) (m : FMap α) (k : Nat) (vs : List α) (i : Nat) (h : i < vs.length) :
    FMap.get d (FMap.putList d m k vs) (k + i) = vs.getD i d := by
  unfold FMap.putList
  rw [FMap.get_append_right, FMap.get_append_left, FMap.get_runOf d vs k i h]
  · intro e he
    simp only [List.mem_filter, decide_eq_true_eq] at he
    omega
  · intro e he
    simp only [List.mem_filter, decide_eq_true_eq] at he
    omega

/-- A read of any other place. -/
theorem FMap.get_putList_out [DecidableEq α] (d d' : α) (m : FMap α) (k : Nat) (vs : List α) (i : Nat) (h : i < k ∨ k + vs.length ≤ i) :
    FMap.get d' (FMap.putList d m k vs) i = FMap.get d' m i := by
  unfold FMap.putList
  have hr : ∀ e ∈ FMap.runOf d k vs, e.1 ≠ i := by
    intro e he
    have := FMap.runOf_keys d vs k e he
    omega
  rcases h with h | h
  · rw [FMap.get_append_left, FMap.get_filter]
    · intro v; simpa using h
    · intro e he
      rcases List.mem_append.mp he with he | he
      · exact hr e he
      · simp only [List.mem_filter, decide_eq_true_eq] at he; omega
  · rw [FMap.get_append_right, FMap.get_append_right _ _ _ _ hr, FMap.get_filter]
    · intro v; simpa using h
    · intro e he
      simp only [List.mem_filter, decide_eq_true_eq] at he; omega

/-! ### Bit fields -/

theorem bits_lt (v l w : Nat) : bits v l w < 2 ^ w := Nat.mod_lt _ (by positivity)

/-- A field of a number, and what lies below and above it. -/
theorem bits_split (v l w : Nat) : v = v / 2 ^ (l + w) * 2 ^ (l + w) + bits v l w * 2 ^ l + v % 2 ^ l := by
  have h1 := Nat.div_add_mod v (2 ^ l)
  have h2 := Nat.div_add_mod (v / 2 ^ l) (2 ^ w)
  rw [Nat.div_div_eq_div_mul, ← pow_add] at h2
  unfold bits
  calc v = 2 ^ l * (v / 2 ^ l) + v % 2 ^ l := h1.symm
    _ = 2 ^ l * (2 ^ w * (v / 2 ^ (l + w)) + v / 2 ^ l % 2 ^ w) + v % 2 ^ l := by rw [h2]
    _ = _ := by rw [pow_add]; ring

theorem setBits_eq (v l w x : Nat) : setBits v l w x = v / 2 ^ (l + w) * 2 ^ (l + w) + x % 2 ^ w * 2 ^ l + v % 2 ^ l := by
  have h := bits_split v l w
  unfold setBits
  omega

/-- A field reads as what was put into it, cut to its width. -/
theorem bits_setBits_same (v l w x : Nat) : bits (setBits v l w x) l w = x % 2 ^ w := by
  rw [setBits_eq]
  unfold bits
  have hx : x % 2 ^ w < 2 ^ w := Nat.mod_lt _ (by positivity)
  have hv : v % 2 ^ l < 2 ^ l := Nat.mod_lt _ (by positivity)
  have e : v / 2 ^ (l + w) * 2 ^ (l + w) + x % 2 ^ w * 2 ^ l + v % 2 ^ l
      = v % 2 ^ l + 2 ^ l * (x % 2 ^ w + 2 ^ w * (v / 2 ^ (l + w))) := by rw [pow_add]; ring
  rw [e, Nat.add_mul_div_left _ _ (by positivity), Nat.div_eq_of_lt hv, Nat.zero_add, Nat.add_mul_mod_self_left, Nat.mod_mod]

/-- A field below or above the one written keeps its value. -/
theorem bits_setBits_other (v l w x l' w' : Nat) (h : l' + w' ≤ l ∨ l + w ≤ l') : bits (setBits v l w x) l' w' = bits v l' w' := by
  have hs := setBits_eq v l w x
  have hb := bits_split v l w
  have hx : x % 2 ^ w < 2 ^ w := Nat.mod_lt _ (by positivity)
  have hb' : bits v l w < 2 ^ w := bits_lt v l w
  have hv : v % 2 ^ l < 2 ^ l := Nat.mod_lt _ (by positivity)
  unfold bits
  rcases h with h | h
  · have key : ∀ u : Nat, u / 2 ^ l' % 2 ^ w' = u % 2 ^ (l' + w') / 2 ^ l' := by
      intro u; rw [pow_add, Nat.mod_mul_right_div_self]
    rw [key, key]
    congr 1
    have d1 : 2 ^ (l' + w') ∣ 2 ^ l := pow_dvd_pow 2 h
    rw [← Nat.mod_mod_of_dvd (setBits v l w x) d1, ← Nat.mod_mod_of_dvd v d1]
    congr 1
    rw [hs, pow_add]
    rw [show v / (2 ^ l * 2 ^ w) * (2 ^ l * 2 ^ w) + x % 2 ^ w * 2 ^ l + v % 2 ^ l
      = v % 2 ^ l + 2 ^ l * (v / (2 ^ l * 2 ^ w) * 2 ^ w + x % 2 ^ w) from by ring]
    rw [Nat.add_mul_mod_self_left, Nat.mod_mod]
  · have e : l' = (l + w) + (l' - (l + w)) := by omega
    have hhi : setBits v l w x / 2 ^ (l + w) = v / 2 ^ (l + w) := by
      rw [hs]
      have lt : x % 2 ^ w * 2 ^ l + v % 2 ^ l < 2 ^ (l + w) := by
        rw [pow_add]
        calc x % 2 ^ w * 2 ^ l + v % 2 ^ l < x % 2 ^ w * 2 ^ l + 2 ^ l := by omega
          _ = (x % 2 ^ w + 1) * 2 ^ l := by ring
          _ ≤ 2 ^ w * 2 ^ l := Nat.mul_le_mul_right _ hx
          _ = 2 ^ l * 2 ^ w := by ring
      rw [Nat.add_assoc, Nat.add_comm, Nat.add_mul_div_right _ _ (by positivity), Nat.div_eq_of_lt lt, Nat.zero_add]
    rw [e, pow_add 2 (l + w), ← Nat.div_div_eq_div_mul, ← Nat.div_div_eq_div_mul, hhi]

/-- A number below a bound that the field lies within stays below it. -/
theorem setBits_lt (v l w x n : Nat) (hv : v < 2 ^ n) (hn : l + w ≤ n) : setBits v l w x < 2 ^ n := by
  have hs := setBits_eq v l w x
  have hx : x % 2 ^ w < 2 ^ w := Nat.mod_lt _ (by positivity)
  have hm : v % 2 ^ l < 2 ^ l := Nat.mod_lt _ (by positivity)
  have hq : v / 2 ^ (l + w) < 2 ^ (n - (l + w)) := by
    rw [Nat.div_lt_iff_lt_mul (by positivity), ← pow_add]
    rwa [Nat.sub_add_cancel hn]
  have lt : x % 2 ^ w * 2 ^ l + v % 2 ^ l < 2 ^ (l + w) := by
    rw [pow_add]
    calc x % 2 ^ w * 2 ^ l + v % 2 ^ l < x % 2 ^ w * 2 ^ l + 2 ^ l := by omega
      _ = (x % 2 ^ w + 1) * 2 ^ l := by ring
      _ ≤ 2 ^ w * 2 ^ l := Nat.mul_le_mul_right _ hx
      _ = 2 ^ l * 2 ^ w := by ring
  rw [hs]
  calc v / 2 ^ (l + w) * 2 ^ (l + w) + x % 2 ^ w * 2 ^ l + v % 2 ^ l
      < v / 2 ^ (l + w) * 2 ^ (l + w) + 2 ^ (l + w) := by omega
    _ = (v / 2 ^ (l + w) + 1) * 2 ^ (l + w) := by ring
    _ ≤ 2 ^ (n - (l + w)) * 2 ^ (l + w) := Nat.mul_le_mul_right _ hq
    _ = 2 ^ n := by rw [← pow_add, Nat.sub_add_cancel hn]

end Sys2Proof.Machine
end

