-- ==== Sys2Proof/Laws/State.lean ====
section
/-! SUPPORT. What each update of the state leaves as it was, and what it makes of the field it writes: one lemma per field and
update. -/

namespace Sys2Proof.Machine

variable (s : State)

/-! ### `setRv` -/

@[simp] theorem State.setRv_regLow (off v : Nat) : (s.setRv off v).regLow = s.regLow := rfl
@[simp] theorem State.setRv_regShadow (off v : Nat) : (s.setRv off v).regShadow = s.regShadow := rfl
@[simp] theorem State.setRv_sent (off v : Nat) : (s.setRv off v).sent = s.sent := rfl
@[simp] theorem State.setRv_evt (off v : Nat) : (s.setRv off v).evt = s.evt := rfl
@[simp] theorem State.setRv_host (off v : Nat) : (s.setRv off v).host = s.host := rfl
@[simp] theorem State.setRv_mem (off v : Nat) : (s.setRv off v).mem = s.mem := rfl
@[simp] theorem State.setRv_obj (off v : Nat) : (s.setRv off v).obj = s.obj := rfl
@[simp] theorem State.setRv_cfgAcc (off v : Nat) : (s.setRv off v).cfgAcc = s.cfgAcc := rfl
@[simp] theorem State.setRv_cfgApp (off v : Nat) : (s.setRv off v).cfgApp = s.cfgApp := rfl
@[simp] theorem State.setRv_cues (off v : Nat) : (s.setRv off v).cues = s.cues := rfl
@[simp] theorem State.setRv_frames (off v : Nat) : (s.setRv off v).frames = s.frames := rfl
@[simp] theorem State.setRv_gone (off v : Nat) : (s.setRv off v).gone = s.gone := rfl
@[simp] theorem State.setRv_time (off v : Nat) : (s.setRv off v).time = s.time := rfl
@[simp] theorem State.setRv_cb (off v : Nat) : (s.setRv off v).cb = s.cb := rfl
@[simp] theorem State.setRv_blk (off v : Nat) : (s.setRv off v).blk = s.blk := rfl
@[simp] theorem State.setRv_cmp (off v : Nat) : (s.setRv off v).cmp = s.cmp := rfl
@[simp] theorem State.setRv_fix (off v : Nat) : (s.setRv off v).fix = s.fix := rfl
@[simp] theorem State.setRv_links (off v : Nat) : (s.setRv off v).links = s.links := rfl
@[simp] theorem State.setRv_psh (off v : Nat) : (s.setRv off v).psh = s.psh := rfl
@[simp] theorem State.setRv_spt (off v : Nat) : (s.setRv off v).spt = s.spt := rfl
@[simp] theorem State.setRv_lmp (off v : Nat) : (s.setRv off v).lmp = s.lmp := rfl
@[simp] theorem State.setRv_sig (off v : Nat) : (s.setRv off v).sig = s.sig := rfl
@[simp] theorem State.setRv_cur (off v : Nat) : (s.setRv off v).cur = s.cur := rfl
@[simp] theorem State.setRv_qb (off v : Nat) : (s.setRv off v).qb = s.qb := rfl
@[simp] theorem State.setRv_fly (off v : Nat) : (s.setRv off v).fly = s.fly := rfl
@[simp] theorem State.setRv_net (off v : Nat) : (s.setRv off v).net = s.net := rfl
@[simp] theorem State.setRv_line (off v : Nat) : (s.setRv off v).line = s.line := rfl
@[simp] theorem State.setRv_tdm (off v : Nat) : (s.setRv off v).tdm = s.tdm := rfl
@[simp] theorem State.setRv_mtr (off v : Nat) : (s.setRv off v).mtr = s.mtr := rfl
@[simp] theorem State.setRv_flyTurn (off v : Nat) : (s.setRv off v).flyTurn = s.flyTurn := rfl
@[simp] theorem State.setRv_sacnDue (off v : Nat) : (s.setRv off v).sacnDue = s.sacnDue := rfl
@[simp] theorem State.setRv_off (off v : Nat) : (s.setRv off v).off = s.off := rfl
@[simp] theorem State.setRv_inReset (off v : Nat) : (s.setRv off v).inReset = s.inReset := rfl
@[simp] theorem State.setRv_pwr (off v : Nat) : (s.setRv off v).pwr = s.pwr := rfl
@[simp] theorem State.setRv_boot (off v : Nat) : (s.setRv off v).boot = s.boot := rfl
@[simp] theorem State.setRv_pbk (off v : Nat) : (s.setRv off v).pbk = s.pbk := rfl
@[simp] theorem State.setRv_freeCtr (off v : Nat) : (s.setRv off v).freeCtr = s.freeCtr := rfl
@[simp] theorem State.setRv_pending (off v : Nat) : (s.setRv off v).pending = s.pending := rfl

/-! ### `setFld` -/

@[simp] theorem State.setFld_regLow (f : Fld) (v : Nat) : (s.setFld f v).regLow = s.regLow := rfl
@[simp] theorem State.setFld_regShadow (f : Fld) (v : Nat) : (s.setFld f v).regShadow = s.regShadow := rfl
@[simp] theorem State.setFld_sent (f : Fld) (v : Nat) : (s.setFld f v).sent = s.sent := rfl
@[simp] theorem State.setFld_evt (f : Fld) (v : Nat) : (s.setFld f v).evt = s.evt := rfl
@[simp] theorem State.setFld_host (f : Fld) (v : Nat) : (s.setFld f v).host = s.host := rfl
@[simp] theorem State.setFld_mem (f : Fld) (v : Nat) : (s.setFld f v).mem = s.mem := rfl
@[simp] theorem State.setFld_obj (f : Fld) (v : Nat) : (s.setFld f v).obj = s.obj := rfl
@[simp] theorem State.setFld_cfgAcc (f : Fld) (v : Nat) : (s.setFld f v).cfgAcc = s.cfgAcc := rfl
@[simp] theorem State.setFld_cfgApp (f : Fld) (v : Nat) : (s.setFld f v).cfgApp = s.cfgApp := rfl
@[simp] theorem State.setFld_cues (f : Fld) (v : Nat) : (s.setFld f v).cues = s.cues := rfl
@[simp] theorem State.setFld_frames (f : Fld) (v : Nat) : (s.setFld f v).frames = s.frames := rfl
@[simp] theorem State.setFld_gone (f : Fld) (v : Nat) : (s.setFld f v).gone = s.gone := rfl
@[simp] theorem State.setFld_time (f : Fld) (v : Nat) : (s.setFld f v).time = s.time := rfl
@[simp] theorem State.setFld_cb (f : Fld) (v : Nat) : (s.setFld f v).cb = s.cb := rfl
@[simp] theorem State.setFld_blk (f : Fld) (v : Nat) : (s.setFld f v).blk = s.blk := rfl
@[simp] theorem State.setFld_cmp (f : Fld) (v : Nat) : (s.setFld f v).cmp = s.cmp := rfl
@[simp] theorem State.setFld_fix (f : Fld) (v : Nat) : (s.setFld f v).fix = s.fix := rfl
@[simp] theorem State.setFld_links (f : Fld) (v : Nat) : (s.setFld f v).links = s.links := rfl
@[simp] theorem State.setFld_psh (f : Fld) (v : Nat) : (s.setFld f v).psh = s.psh := rfl
@[simp] theorem State.setFld_spt (f : Fld) (v : Nat) : (s.setFld f v).spt = s.spt := rfl
@[simp] theorem State.setFld_lmp (f : Fld) (v : Nat) : (s.setFld f v).lmp = s.lmp := rfl
@[simp] theorem State.setFld_sig (f : Fld) (v : Nat) : (s.setFld f v).sig = s.sig := rfl
@[simp] theorem State.setFld_cur (f : Fld) (v : Nat) : (s.setFld f v).cur = s.cur := rfl
@[simp] theorem State.setFld_qb (f : Fld) (v : Nat) : (s.setFld f v).qb = s.qb := rfl
@[simp] theorem State.setFld_fly (f : Fld) (v : Nat) : (s.setFld f v).fly = s.fly := rfl
@[simp] theorem State.setFld_net (f : Fld) (v : Nat) : (s.setFld f v).net = s.net := rfl
@[simp] theorem State.setFld_line (f : Fld) (v : Nat) : (s.setFld f v).line = s.line := rfl
@[simp] theorem State.setFld_tdm (f : Fld) (v : Nat) : (s.setFld f v).tdm = s.tdm := rfl
@[simp] theorem State.setFld_mtr (f : Fld) (v : Nat) : (s.setFld f v).mtr = s.mtr := rfl
@[simp] theorem State.setFld_flyTurn (f : Fld) (v : Nat) : (s.setFld f v).flyTurn = s.flyTurn := rfl
@[simp] theorem State.setFld_sacnDue (f : Fld) (v : Nat) : (s.setFld f v).sacnDue = s.sacnDue := rfl
@[simp] theorem State.setFld_off (f : Fld) (v : Nat) : (s.setFld f v).off = s.off := rfl
@[simp] theorem State.setFld_inReset (f : Fld) (v : Nat) : (s.setFld f v).inReset = s.inReset := rfl
@[simp] theorem State.setFld_pwr (f : Fld) (v : Nat) : (s.setFld f v).pwr = s.pwr := rfl
@[simp] theorem State.setFld_boot (f : Fld) (v : Nat) : (s.setFld f v).boot = s.boot := rfl
@[simp] theorem State.setFld_pbk (f : Fld) (v : Nat) : (s.setFld f v).pbk = s.pbk := rfl
@[simp] theorem State.setFld_freeCtr (f : Fld) (v : Nat) : (s.setFld f v).freeCtr = s.freeCtr := rfl
@[simp] theorem State.setFld_pending (f : Fld) (v : Nat) : (s.setFld f v).pending = s.pending := rfl

/-! ### `bumpBy` -/

@[simp] theorem State.bumpBy_regLow (f : Fld) (n : Nat) : (s.bumpBy f n).regLow = s.regLow := rfl
@[simp] theorem State.bumpBy_regShadow (f : Fld) (n : Nat) : (s.bumpBy f n).regShadow = s.regShadow := rfl
@[simp] theorem State.bumpBy_sent (f : Fld) (n : Nat) : (s.bumpBy f n).sent = s.sent := rfl
@[simp] theorem State.bumpBy_evt (f : Fld) (n : Nat) : (s.bumpBy f n).evt = s.evt := rfl
@[simp] theorem State.bumpBy_host (f : Fld) (n : Nat) : (s.bumpBy f n).host = s.host := rfl
@[simp] theorem State.bumpBy_mem (f : Fld) (n : Nat) : (s.bumpBy f n).mem = s.mem := rfl
@[simp] theorem State.bumpBy_obj (f : Fld) (n : Nat) : (s.bumpBy f n).obj = s.obj := rfl
@[simp] theorem State.bumpBy_cfgAcc (f : Fld) (n : Nat) : (s.bumpBy f n).cfgAcc = s.cfgAcc := rfl
@[simp] theorem State.bumpBy_cfgApp (f : Fld) (n : Nat) : (s.bumpBy f n).cfgApp = s.cfgApp := rfl
@[simp] theorem State.bumpBy_cues (f : Fld) (n : Nat) : (s.bumpBy f n).cues = s.cues := rfl
@[simp] theorem State.bumpBy_frames (f : Fld) (n : Nat) : (s.bumpBy f n).frames = s.frames := rfl
@[simp] theorem State.bumpBy_gone (f : Fld) (n : Nat) : (s.bumpBy f n).gone = s.gone := rfl
@[simp] theorem State.bumpBy_time (f : Fld) (n : Nat) : (s.bumpBy f n).time = s.time := rfl
@[simp] theorem State.bumpBy_cb (f : Fld) (n : Nat) : (s.bumpBy f n).cb = s.cb := rfl
@[simp] theorem State.bumpBy_blk (f : Fld) (n : Nat) : (s.bumpBy f n).blk = s.blk := rfl
@[simp] theorem State.bumpBy_cmp (f : Fld) (n : Nat) : (s.bumpBy f n).cmp = s.cmp := rfl
@[simp] theorem State.bumpBy_fix (f : Fld) (n : Nat) : (s.bumpBy f n).fix = s.fix := rfl
@[simp] theorem State.bumpBy_links (f : Fld) (n : Nat) : (s.bumpBy f n).links = s.links := rfl
@[simp] theorem State.bumpBy_psh (f : Fld) (n : Nat) : (s.bumpBy f n).psh = s.psh := rfl
@[simp] theorem State.bumpBy_spt (f : Fld) (n : Nat) : (s.bumpBy f n).spt = s.spt := rfl
@[simp] theorem State.bumpBy_lmp (f : Fld) (n : Nat) : (s.bumpBy f n).lmp = s.lmp := rfl
@[simp] theorem State.bumpBy_sig (f : Fld) (n : Nat) : (s.bumpBy f n).sig = s.sig := rfl
@[simp] theorem State.bumpBy_cur (f : Fld) (n : Nat) : (s.bumpBy f n).cur = s.cur := rfl
@[simp] theorem State.bumpBy_qb (f : Fld) (n : Nat) : (s.bumpBy f n).qb = s.qb := rfl
@[simp] theorem State.bumpBy_fly (f : Fld) (n : Nat) : (s.bumpBy f n).fly = s.fly := rfl
@[simp] theorem State.bumpBy_net (f : Fld) (n : Nat) : (s.bumpBy f n).net = s.net := rfl
@[simp] theorem State.bumpBy_line (f : Fld) (n : Nat) : (s.bumpBy f n).line = s.line := rfl
@[simp] theorem State.bumpBy_tdm (f : Fld) (n : Nat) : (s.bumpBy f n).tdm = s.tdm := rfl
@[simp] theorem State.bumpBy_mtr (f : Fld) (n : Nat) : (s.bumpBy f n).mtr = s.mtr := rfl
@[simp] theorem State.bumpBy_flyTurn (f : Fld) (n : Nat) : (s.bumpBy f n).flyTurn = s.flyTurn := rfl
@[simp] theorem State.bumpBy_sacnDue (f : Fld) (n : Nat) : (s.bumpBy f n).sacnDue = s.sacnDue := rfl
@[simp] theorem State.bumpBy_off (f : Fld) (n : Nat) : (s.bumpBy f n).off = s.off := rfl
@[simp] theorem State.bumpBy_inReset (f : Fld) (n : Nat) : (s.bumpBy f n).inReset = s.inReset := rfl
@[simp] theorem State.bumpBy_pwr (f : Fld) (n : Nat) : (s.bumpBy f n).pwr = s.pwr := rfl
@[simp] theorem State.bumpBy_boot (f : Fld) (n : Nat) : (s.bumpBy f n).boot = s.boot := rfl
@[simp] theorem State.bumpBy_pbk (f : Fld) (n : Nat) : (s.bumpBy f n).pbk = s.pbk := rfl
@[simp] theorem State.bumpBy_freeCtr (f : Fld) (n : Nat) : (s.bumpBy f n).freeCtr = s.freeCtr := rfl
@[simp] theorem State.bumpBy_pending (f : Fld) (n : Nat) : (s.bumpBy f n).pending = s.pending := rfl

/-! ### `bump` -/

@[simp] theorem State.bump_regLow (f : Fld) : (s.bump f).regLow = s.regLow := rfl
@[simp] theorem State.bump_regShadow (f : Fld) : (s.bump f).regShadow = s.regShadow := rfl
@[simp] theorem State.bump_sent (f : Fld) : (s.bump f).sent = s.sent := rfl
@[simp] theorem State.bump_evt (f : Fld) : (s.bump f).evt = s.evt := rfl
@[simp] theorem State.bump_host (f : Fld) : (s.bump f).host = s.host := rfl
@[simp] theorem State.bump_mem (f : Fld) : (s.bump f).mem = s.mem := rfl
@[simp] theorem State.bump_obj (f : Fld) : (s.bump f).obj = s.obj := rfl
@[simp] theorem State.bump_cfgAcc (f : Fld) : (s.bump f).cfgAcc = s.cfgAcc := rfl
@[simp] theorem State.bump_cfgApp (f : Fld) : (s.bump f).cfgApp = s.cfgApp := rfl
@[simp] theorem State.bump_cues (f : Fld) : (s.bump f).cues = s.cues := rfl
@[simp] theorem State.bump_frames (f : Fld) : (s.bump f).frames = s.frames := rfl
@[simp] theorem State.bump_gone (f : Fld) : (s.bump f).gone = s.gone := rfl
@[simp] theorem State.bump_time (f : Fld) : (s.bump f).time = s.time := rfl
@[simp] theorem State.bump_cb (f : Fld) : (s.bump f).cb = s.cb := rfl
@[simp] theorem State.bump_blk (f : Fld) : (s.bump f).blk = s.blk := rfl
@[simp] theorem State.bump_cmp (f : Fld) : (s.bump f).cmp = s.cmp := rfl
@[simp] theorem State.bump_fix (f : Fld) : (s.bump f).fix = s.fix := rfl
@[simp] theorem State.bump_links (f : Fld) : (s.bump f).links = s.links := rfl
@[simp] theorem State.bump_psh (f : Fld) : (s.bump f).psh = s.psh := rfl
@[simp] theorem State.bump_spt (f : Fld) : (s.bump f).spt = s.spt := rfl
@[simp] theorem State.bump_lmp (f : Fld) : (s.bump f).lmp = s.lmp := rfl
@[simp] theorem State.bump_sig (f : Fld) : (s.bump f).sig = s.sig := rfl
@[simp] theorem State.bump_cur (f : Fld) : (s.bump f).cur = s.cur := rfl
@[simp] theorem State.bump_qb (f : Fld) : (s.bump f).qb = s.qb := rfl
@[simp] theorem State.bump_fly (f : Fld) : (s.bump f).fly = s.fly := rfl
@[simp] theorem State.bump_net (f : Fld) : (s.bump f).net = s.net := rfl
@[simp] theorem State.bump_line (f : Fld) : (s.bump f).line = s.line := rfl
@[simp] theorem State.bump_tdm (f : Fld) : (s.bump f).tdm = s.tdm := rfl
@[simp] theorem State.bump_mtr (f : Fld) : (s.bump f).mtr = s.mtr := rfl
@[simp] theorem State.bump_flyTurn (f : Fld) : (s.bump f).flyTurn = s.flyTurn := rfl
@[simp] theorem State.bump_sacnDue (f : Fld) : (s.bump f).sacnDue = s.sacnDue := rfl
@[simp] theorem State.bump_off (f : Fld) : (s.bump f).off = s.off := rfl
@[simp] theorem State.bump_inReset (f : Fld) : (s.bump f).inReset = s.inReset := rfl
@[simp] theorem State.bump_pwr (f : Fld) : (s.bump f).pwr = s.pwr := rfl
@[simp] theorem State.bump_boot (f : Fld) : (s.bump f).boot = s.boot := rfl
@[simp] theorem State.bump_pbk (f : Fld) : (s.bump f).pbk = s.pbk := rfl
@[simp] theorem State.bump_freeCtr (f : Fld) : (s.bump f).freeCtr = s.freeCtr := rfl
@[simp] theorem State.bump_pending (f : Fld) : (s.bump f).pending = s.pending := rfl

/-! ### `send` -/

@[simp] theorem State.send_regs (x : Sent) : (s.send x).regs = s.regs := rfl
@[simp] theorem State.send_regLow (x : Sent) : (s.send x).regLow = s.regLow := rfl
@[simp] theorem State.send_regShadow (x : Sent) : (s.send x).regShadow = s.regShadow := rfl
@[simp] theorem State.send_sent (x : Sent) : (s.send x).sent = s.sent ++ [x] := rfl
@[simp] theorem State.send_evt (x : Sent) : (s.send x).evt = s.evt := rfl
@[simp] theorem State.send_host (x : Sent) : (s.send x).host = s.host := rfl
@[simp] theorem State.send_mem (x : Sent) : (s.send x).mem = s.mem := rfl
@[simp] theorem State.send_obj (x : Sent) : (s.send x).obj = s.obj := rfl
@[simp] theorem State.send_cfgAcc (x : Sent) : (s.send x).cfgAcc = s.cfgAcc := rfl
@[simp] theorem State.send_cfgApp (x : Sent) : (s.send x).cfgApp = s.cfgApp := rfl
@[simp] theorem State.send_cues (x : Sent) : (s.send x).cues = s.cues := rfl
@[simp] theorem State.send_frames (x : Sent) : (s.send x).frames = s.frames := rfl
@[simp] theorem State.send_gone (x : Sent) : (s.send x).gone = s.gone := rfl
@[simp] theorem State.send_time (x : Sent) : (s.send x).time = s.time := rfl
@[simp] theorem State.send_cb (x : Sent) : (s.send x).cb = s.cb := rfl
@[simp] theorem State.send_blk (x : Sent) : (s.send x).blk = s.blk := rfl
@[simp] theorem State.send_cmp (x : Sent) : (s.send x).cmp = s.cmp := rfl
@[simp] theorem State.send_fix (x : Sent) : (s.send x).fix = s.fix := rfl
@[simp] theorem State.send_links (x : Sent) : (s.send x).links = s.links := rfl
@[simp] theorem State.send_psh (x : Sent) : (s.send x).psh = s.psh := rfl
@[simp] theorem State.send_spt (x : Sent) : (s.send x).spt = s.spt := rfl
@[simp] theorem State.send_lmp (x : Sent) : (s.send x).lmp = s.lmp := rfl
@[simp] theorem State.send_sig (x : Sent) : (s.send x).sig = s.sig := rfl
@[simp] theorem State.send_cur (x : Sent) : (s.send x).cur = s.cur := rfl
@[simp] theorem State.send_qb (x : Sent) : (s.send x).qb = s.qb := rfl
@[simp] theorem State.send_fly (x : Sent) : (s.send x).fly = s.fly := rfl
@[simp] theorem State.send_net (x : Sent) : (s.send x).net = s.net := rfl
@[simp] theorem State.send_line (x : Sent) : (s.send x).line = s.line := rfl
@[simp] theorem State.send_tdm (x : Sent) : (s.send x).tdm = s.tdm := rfl
@[simp] theorem State.send_mtr (x : Sent) : (s.send x).mtr = s.mtr := rfl
@[simp] theorem State.send_flyTurn (x : Sent) : (s.send x).flyTurn = s.flyTurn := rfl
@[simp] theorem State.send_sacnDue (x : Sent) : (s.send x).sacnDue = s.sacnDue := rfl
@[simp] theorem State.send_off (x : Sent) : (s.send x).off = s.off := rfl
@[simp] theorem State.send_inReset (x : Sent) : (s.send x).inReset = s.inReset := rfl
@[simp] theorem State.send_pwr (x : Sent) : (s.send x).pwr = s.pwr := rfl
@[simp] theorem State.send_boot (x : Sent) : (s.send x).boot = s.boot := rfl
@[simp] theorem State.send_pbk (x : Sent) : (s.send x).pbk = s.pbk := rfl
@[simp] theorem State.send_freeCtr (x : Sent) : (s.send x).freeCtr = s.freeCtr := rfl
@[simp] theorem State.send_pending (x : Sent) : (s.send x).pending = s.pending := rfl

/-! ### `freeStep` -/

@[simp] theorem State.freeStep_regs : (s.freeStep).regs = s.regs := rfl
@[simp] theorem State.freeStep_regLow : (s.freeStep).regLow = s.regLow := rfl
@[simp] theorem State.freeStep_regShadow : (s.freeStep).regShadow = s.regShadow := rfl
@[simp] theorem State.freeStep_sent : (s.freeStep).sent = s.sent := rfl
@[simp] theorem State.freeStep_evt : (s.freeStep).evt = s.evt := rfl
@[simp] theorem State.freeStep_host : (s.freeStep).host = s.host := rfl
@[simp] theorem State.freeStep_mem : (s.freeStep).mem = s.mem := rfl
@[simp] theorem State.freeStep_obj : (s.freeStep).obj = s.obj := rfl
@[simp] theorem State.freeStep_cfgAcc : (s.freeStep).cfgAcc = s.cfgAcc := rfl
@[simp] theorem State.freeStep_cfgApp : (s.freeStep).cfgApp = s.cfgApp := rfl
@[simp] theorem State.freeStep_cues : (s.freeStep).cues = s.cues := rfl
@[simp] theorem State.freeStep_frames : (s.freeStep).frames = s.frames := rfl
@[simp] theorem State.freeStep_gone : (s.freeStep).gone = s.gone := rfl
@[simp] theorem State.freeStep_time : (s.freeStep).time = s.time := rfl
@[simp] theorem State.freeStep_cb : (s.freeStep).cb = s.cb := rfl
@[simp] theorem State.freeStep_blk : (s.freeStep).blk = s.blk := rfl
@[simp] theorem State.freeStep_cmp : (s.freeStep).cmp = s.cmp := rfl
@[simp] theorem State.freeStep_fix : (s.freeStep).fix = s.fix := rfl
@[simp] theorem State.freeStep_links : (s.freeStep).links = s.links := rfl
@[simp] theorem State.freeStep_psh : (s.freeStep).psh = s.psh := rfl
@[simp] theorem State.freeStep_spt : (s.freeStep).spt = s.spt := rfl
@[simp] theorem State.freeStep_lmp : (s.freeStep).lmp = s.lmp := rfl
@[simp] theorem State.freeStep_sig : (s.freeStep).sig = s.sig := rfl
@[simp] theorem State.freeStep_cur : (s.freeStep).cur = s.cur := rfl
@[simp] theorem State.freeStep_qb : (s.freeStep).qb = s.qb := rfl
@[simp] theorem State.freeStep_fly : (s.freeStep).fly = s.fly := rfl
@[simp] theorem State.freeStep_net : (s.freeStep).net = s.net := rfl
@[simp] theorem State.freeStep_line : (s.freeStep).line = s.line := rfl
@[simp] theorem State.freeStep_tdm : (s.freeStep).tdm = s.tdm := rfl
@[simp] theorem State.freeStep_mtr : (s.freeStep).mtr = s.mtr := rfl
@[simp] theorem State.freeStep_flyTurn : (s.freeStep).flyTurn = s.flyTurn := rfl
@[simp] theorem State.freeStep_sacnDue : (s.freeStep).sacnDue = s.sacnDue := rfl
@[simp] theorem State.freeStep_off : (s.freeStep).off = s.off := rfl
@[simp] theorem State.freeStep_inReset : (s.freeStep).inReset = s.inReset := rfl
@[simp] theorem State.freeStep_pwr : (s.freeStep).pwr = s.pwr := rfl
@[simp] theorem State.freeStep_boot : (s.freeStep).boot = s.boot := rfl
@[simp] theorem State.freeStep_pbk : (s.freeStep).pbk = s.pbk := rfl
@[simp] theorem State.freeStep_freeCtr : (s.freeStep).freeCtr = s.freeCtr + 1 := rfl
@[simp] theorem State.freeStep_pending : (s.freeStep).pending = s.pending := rfl

/-! ### `setStore` -/

@[simp] theorem State.setStore_regs (l : List StoreEntry) : (s.setStore l).regs = s.regs := rfl
@[simp] theorem State.setStore_regLow (l : List StoreEntry) : (s.setStore l).regLow = s.regLow := rfl
@[simp] theorem State.setStore_regShadow (l : List StoreEntry) : (s.setStore l).regShadow = s.regShadow := rfl
@[simp] theorem State.setStore_sent (l : List StoreEntry) : (s.setStore l).sent = s.sent := rfl
@[simp] theorem State.setStore_evt (l : List StoreEntry) : (s.setStore l).evt = s.evt := rfl
@[simp] theorem State.setStore_mem (l : List StoreEntry) : (s.setStore l).mem = s.mem := rfl
@[simp] theorem State.setStore_obj (l : List StoreEntry) : (s.setStore l).obj = s.obj := rfl
@[simp] theorem State.setStore_cfgAcc (l : List StoreEntry) : (s.setStore l).cfgAcc = s.cfgAcc := rfl
@[simp] theorem State.setStore_cfgApp (l : List StoreEntry) : (s.setStore l).cfgApp = s.cfgApp := rfl
@[simp] theorem State.setStore_cues (l : List StoreEntry) : (s.setStore l).cues = s.cues := rfl
@[simp] theorem State.setStore_frames (l : List StoreEntry) : (s.setStore l).frames = s.frames := rfl
@[simp] theorem State.setStore_gone (l : List StoreEntry) : (s.setStore l).gone = s.gone := rfl
@[simp] theorem State.setStore_time (l : List StoreEntry) : (s.setStore l).time = s.time := rfl
@[simp] theorem State.setStore_cb (l : List StoreEntry) : (s.setStore l).cb = s.cb := rfl
@[simp] theorem State.setStore_blk (l : List StoreEntry) : (s.setStore l).blk = s.blk := rfl
@[simp] theorem State.setStore_cmp (l : List StoreEntry) : (s.setStore l).cmp = s.cmp := rfl
@[simp] theorem State.setStore_fix (l : List StoreEntry) : (s.setStore l).fix = s.fix := rfl
@[simp] theorem State.setStore_links (l : List StoreEntry) : (s.setStore l).links = s.links := rfl
@[simp] theorem State.setStore_psh (l : List StoreEntry) : (s.setStore l).psh = s.psh := rfl
@[simp] theorem State.setStore_spt (l : List StoreEntry) : (s.setStore l).spt = s.spt := rfl
@[simp] theorem State.setStore_lmp (l : List StoreEntry) : (s.setStore l).lmp = s.lmp := rfl
@[simp] theorem State.setStore_sig (l : List StoreEntry) : (s.setStore l).sig = s.sig := rfl
@[simp] theorem State.setStore_cur (l : List StoreEntry) : (s.setStore l).cur = s.cur := rfl
@[simp] theorem State.setStore_qb (l : List StoreEntry) : (s.setStore l).qb = s.qb := rfl
@[simp] theorem State.setStore_fly (l : List StoreEntry) : (s.setStore l).fly = s.fly := rfl
@[simp] theorem State.setStore_net (l : List StoreEntry) : (s.setStore l).net = s.net := rfl
@[simp] theorem State.setStore_line (l : List StoreEntry) : (s.setStore l).line = s.line := rfl
@[simp] theorem State.setStore_tdm (l : List StoreEntry) : (s.setStore l).tdm = s.tdm := rfl
@[simp] theorem State.setStore_mtr (l : List StoreEntry) : (s.setStore l).mtr = s.mtr := rfl
@[simp] theorem State.setStore_flyTurn (l : List StoreEntry) : (s.setStore l).flyTurn = s.flyTurn := rfl
@[simp] theorem State.setStore_sacnDue (l : List StoreEntry) : (s.setStore l).sacnDue = s.sacnDue := rfl
@[simp] theorem State.setStore_off (l : List StoreEntry) : (s.setStore l).off = s.off := rfl
@[simp] theorem State.setStore_inReset (l : List StoreEntry) : (s.setStore l).inReset = s.inReset := rfl
@[simp] theorem State.setStore_pwr (l : List StoreEntry) : (s.setStore l).pwr = s.pwr := rfl
@[simp] theorem State.setStore_boot (l : List StoreEntry) : (s.setStore l).boot = s.boot := rfl
@[simp] theorem State.setStore_pbk (l : List StoreEntry) : (s.setStore l).pbk = s.pbk := rfl
@[simp] theorem State.setStore_freeCtr (l : List StoreEntry) : (s.setStore l).freeCtr = s.freeCtr := rfl
@[simp] theorem State.setStore_pending (l : List StoreEntry) : (s.setStore l).pending = s.pending := rfl

/-! ### `setRing` -/

@[simp] theorem State.setRing_regs (n : Nat) (r : RingSt) : (s.setRing n r).regs = s.regs := rfl
@[simp] theorem State.setRing_regLow (n : Nat) (r : RingSt) : (s.setRing n r).regLow = s.regLow := rfl
@[simp] theorem State.setRing_regShadow (n : Nat) (r : RingSt) : (s.setRing n r).regShadow = s.regShadow := rfl
@[simp] theorem State.setRing_sent (n : Nat) (r : RingSt) : (s.setRing n r).sent = s.sent := rfl
@[simp] theorem State.setRing_evt (n : Nat) (r : RingSt) : (s.setRing n r).evt = s.evt := rfl
@[simp] theorem State.setRing_mem (n : Nat) (r : RingSt) : (s.setRing n r).mem = s.mem := rfl
@[simp] theorem State.setRing_obj (n : Nat) (r : RingSt) : (s.setRing n r).obj = s.obj := rfl
@[simp] theorem State.setRing_cfgAcc (n : Nat) (r : RingSt) : (s.setRing n r).cfgAcc = s.cfgAcc := rfl
@[simp] theorem State.setRing_cfgApp (n : Nat) (r : RingSt) : (s.setRing n r).cfgApp = s.cfgApp := rfl
@[simp] theorem State.setRing_cues (n : Nat) (r : RingSt) : (s.setRing n r).cues = s.cues := rfl
@[simp] theorem State.setRing_frames (n : Nat) (r : RingSt) : (s.setRing n r).frames = s.frames := rfl
@[simp] theorem State.setRing_gone (n : Nat) (r : RingSt) : (s.setRing n r).gone = s.gone := rfl
@[simp] theorem State.setRing_time (n : Nat) (r : RingSt) : (s.setRing n r).time = s.time := rfl
@[simp] theorem State.setRing_cb (n : Nat) (r : RingSt) : (s.setRing n r).cb = s.cb := rfl
@[simp] theorem State.setRing_blk (n : Nat) (r : RingSt) : (s.setRing n r).blk = s.blk := rfl
@[simp] theorem State.setRing_cmp (n : Nat) (r : RingSt) : (s.setRing n r).cmp = s.cmp := rfl
@[simp] theorem State.setRing_fix (n : Nat) (r : RingSt) : (s.setRing n r).fix = s.fix := rfl
@[simp] theorem State.setRing_links (n : Nat) (r : RingSt) : (s.setRing n r).links = s.links := rfl
@[simp] theorem State.setRing_psh (n : Nat) (r : RingSt) : (s.setRing n r).psh = s.psh := rfl
@[simp] theorem State.setRing_spt (n : Nat) (r : RingSt) : (s.setRing n r).spt = s.spt := rfl
@[simp] theorem State.setRing_lmp (n : Nat) (r : RingSt) : (s.setRing n r).lmp = s.lmp := rfl
@[simp] theorem State.setRing_sig (n : Nat) (r : RingSt) : (s.setRing n r).sig = s.sig := rfl
@[simp] theorem State.setRing_cur (n : Nat) (r : RingSt) : (s.setRing n r).cur = s.cur := rfl
@[simp] theorem State.setRing_qb (n : Nat) (r : RingSt) : (s.setRing n r).qb = s.qb := rfl
@[simp] theorem State.setRing_fly (n : Nat) (r : RingSt) : (s.setRing n r).fly = s.fly := rfl
@[simp] theorem State.setRing_net (n : Nat) (r : RingSt) : (s.setRing n r).net = s.net := rfl
@[simp] theorem State.setRing_line (n : Nat) (r : RingSt) : (s.setRing n r).line = s.line := rfl
@[simp] theorem State.setRing_tdm (n : Nat) (r : RingSt) : (s.setRing n r).tdm = s.tdm := rfl
@[simp] theorem State.setRing_mtr (n : Nat) (r : RingSt) : (s.setRing n r).mtr = s.mtr := rfl
@[simp] theorem State.setRing_flyTurn (n : Nat) (r : RingSt) : (s.setRing n r).flyTurn = s.flyTurn := rfl
@[simp] theorem State.setRing_sacnDue (n : Nat) (r : RingSt) : (s.setRing n r).sacnDue = s.sacnDue := rfl
@[simp] theorem State.setRing_off (n : Nat) (r : RingSt) : (s.setRing n r).off = s.off := rfl
@[simp] theorem State.setRing_inReset (n : Nat) (r : RingSt) : (s.setRing n r).inReset = s.inReset := rfl
@[simp] theorem State.setRing_pwr (n : Nat) (r : RingSt) : (s.setRing n r).pwr = s.pwr := rfl
@[simp] theorem State.setRing_boot (n : Nat) (r : RingSt) : (s.setRing n r).boot = s.boot := rfl
@[simp] theorem State.setRing_pbk (n : Nat) (r : RingSt) : (s.setRing n r).pbk = s.pbk := rfl
@[simp] theorem State.setRing_freeCtr (n : Nat) (r : RingSt) : (s.setRing n r).freeCtr = s.freeCtr := rfl
@[simp] theorem State.setRing_pending (n : Nat) (r : RingSt) : (s.setRing n r).pending = s.pending := rfl

/-! ### `setVec` -/

@[simp] theorem State.setVec_regs (n : Nat) (x : VecSt) : (s.setVec n x).regs = s.regs := rfl
@[simp] theorem State.setVec_regLow (n : Nat) (x : VecSt) : (s.setVec n x).regLow = s.regLow := rfl
@[simp] theorem State.setVec_regShadow (n : Nat) (x : VecSt) : (s.setVec n x).regShadow = s.regShadow := rfl
@[simp] theorem State.setVec_sent (n : Nat) (x : VecSt) : (s.setVec n x).sent = s.sent := rfl
@[simp] theorem State.setVec_evt (n : Nat) (x : VecSt) : (s.setVec n x).evt = s.evt := rfl
@[simp] theorem State.setVec_mem (n : Nat) (x : VecSt) : (s.setVec n x).mem = s.mem := rfl
@[simp] theorem State.setVec_obj (n : Nat) (x : VecSt) : (s.setVec n x).obj = s.obj := rfl
@[simp] theorem State.setVec_cfgAcc (n : Nat) (x : VecSt) : (s.setVec n x).cfgAcc = s.cfgAcc := rfl
@[simp] theorem State.setVec_cfgApp (n : Nat) (x : VecSt) : (s.setVec n x).cfgApp = s.cfgApp := rfl
@[simp] theorem State.setVec_cues (n : Nat) (x : VecSt) : (s.setVec n x).cues = s.cues := rfl
@[simp] theorem State.setVec_frames (n : Nat) (x : VecSt) : (s.setVec n x).frames = s.frames := rfl
@[simp] theorem State.setVec_gone (n : Nat) (x : VecSt) : (s.setVec n x).gone = s.gone := rfl
@[simp] theorem State.setVec_time (n : Nat) (x : VecSt) : (s.setVec n x).time = s.time := rfl
@[simp] theorem State.setVec_cb (n : Nat) (x : VecSt) : (s.setVec n x).cb = s.cb := rfl
@[simp] theorem State.setVec_blk (n : Nat) (x : VecSt) : (s.setVec n x).blk = s.blk := rfl
@[simp] theorem State.setVec_cmp (n : Nat) (x : VecSt) : (s.setVec n x).cmp = s.cmp := rfl
@[simp] theorem State.setVec_fix (n : Nat) (x : VecSt) : (s.setVec n x).fix = s.fix := rfl
@[simp] theorem State.setVec_links (n : Nat) (x : VecSt) : (s.setVec n x).links = s.links := rfl
@[simp] theorem State.setVec_psh (n : Nat) (x : VecSt) : (s.setVec n x).psh = s.psh := rfl
@[simp] theorem State.setVec_spt (n : Nat) (x : VecSt) : (s.setVec n x).spt = s.spt := rfl
@[simp] theorem State.setVec_lmp (n : Nat) (x : VecSt) : (s.setVec n x).lmp = s.lmp := rfl
@[simp] theorem State.setVec_sig (n : Nat) (x : VecSt) : (s.setVec n x).sig = s.sig := rfl
@[simp] theorem State.setVec_cur (n : Nat) (x : VecSt) : (s.setVec n x).cur = s.cur := rfl
@[simp] theorem State.setVec_qb (n : Nat) (x : VecSt) : (s.setVec n x).qb = s.qb := rfl
@[simp] theorem State.setVec_fly (n : Nat) (x : VecSt) : (s.setVec n x).fly = s.fly := rfl
@[simp] theorem State.setVec_net (n : Nat) (x : VecSt) : (s.setVec n x).net = s.net := rfl
@[simp] theorem State.setVec_line (n : Nat) (x : VecSt) : (s.setVec n x).line = s.line := rfl
@[simp] theorem State.setVec_tdm (n : Nat) (x : VecSt) : (s.setVec n x).tdm = s.tdm := rfl
@[simp] theorem State.setVec_mtr (n : Nat) (x : VecSt) : (s.setVec n x).mtr = s.mtr := rfl
@[simp] theorem State.setVec_flyTurn (n : Nat) (x : VecSt) : (s.setVec n x).flyTurn = s.flyTurn := rfl
@[simp] theorem State.setVec_sacnDue (n : Nat) (x : VecSt) : (s.setVec n x).sacnDue = s.sacnDue := rfl
@[simp] theorem State.setVec_off (n : Nat) (x : VecSt) : (s.setVec n x).off = s.off := rfl
@[simp] theorem State.setVec_inReset (n : Nat) (x : VecSt) : (s.setVec n x).inReset = s.inReset := rfl
@[simp] theorem State.setVec_pwr (n : Nat) (x : VecSt) : (s.setVec n x).pwr = s.pwr := rfl
@[simp] theorem State.setVec_boot (n : Nat) (x : VecSt) : (s.setVec n x).boot = s.boot := rfl
@[simp] theorem State.setVec_pbk (n : Nat) (x : VecSt) : (s.setVec n x).pbk = s.pbk := rfl
@[simp] theorem State.setVec_freeCtr (n : Nat) (x : VecSt) : (s.setVec n x).freeCtr = s.freeCtr := rfl
@[simp] theorem State.setVec_pending (n : Nat) (x : VecSt) : (s.setVec n x).pending = s.pending := rfl

/-! ### `setLink` -/

@[simp] theorem State.setLink_regs (l : Nat) (x : LinkSt) : (s.setLink l x).regs = s.regs := rfl
@[simp] theorem State.setLink_regLow (l : Nat) (x : LinkSt) : (s.setLink l x).regLow = s.regLow := rfl
@[simp] theorem State.setLink_regShadow (l : Nat) (x : LinkSt) : (s.setLink l x).regShadow = s.regShadow := rfl
@[simp] theorem State.setLink_sent (l : Nat) (x : LinkSt) : (s.setLink l x).sent = s.sent := rfl
@[simp] theorem State.setLink_evt (l : Nat) (x : LinkSt) : (s.setLink l x).evt = s.evt := rfl
@[simp] theorem State.setLink_host (l : Nat) (x : LinkSt) : (s.setLink l x).host = s.host := rfl
@[simp] theorem State.setLink_mem (l : Nat) (x : LinkSt) : (s.setLink l x).mem = s.mem := rfl
@[simp] theorem State.setLink_obj (l : Nat) (x : LinkSt) : (s.setLink l x).obj = s.obj := rfl
@[simp] theorem State.setLink_cfgAcc (l : Nat) (x : LinkSt) : (s.setLink l x).cfgAcc = s.cfgAcc := rfl
@[simp] theorem State.setLink_cfgApp (l : Nat) (x : LinkSt) : (s.setLink l x).cfgApp = s.cfgApp := rfl
@[simp] theorem State.setLink_cues (l : Nat) (x : LinkSt) : (s.setLink l x).cues = s.cues := rfl
@[simp] theorem State.setLink_frames (l : Nat) (x : LinkSt) : (s.setLink l x).frames = s.frames := rfl
@[simp] theorem State.setLink_gone (l : Nat) (x : LinkSt) : (s.setLink l x).gone = s.gone := rfl
@[simp] theorem State.setLink_time (l : Nat) (x : LinkSt) : (s.setLink l x).time = s.time := rfl
@[simp] theorem State.setLink_cb (l : Nat) (x : LinkSt) : (s.setLink l x).cb = s.cb := rfl
@[simp] theorem State.setLink_blk (l : Nat) (x : LinkSt) : (s.setLink l x).blk = s.blk := rfl
@[simp] theorem State.setLink_cmp (l : Nat) (x : LinkSt) : (s.setLink l x).cmp = s.cmp := rfl
@[simp] theorem State.setLink_fix (l : Nat) (x : LinkSt) : (s.setLink l x).fix = s.fix := rfl
@[simp] theorem State.setLink_psh (l : Nat) (x : LinkSt) : (s.setLink l x).psh = s.psh := rfl
@[simp] theorem State.setLink_spt (l : Nat) (x : LinkSt) : (s.setLink l x).spt = s.spt := rfl
@[simp] theorem State.setLink_lmp (l : Nat) (x : LinkSt) : (s.setLink l x).lmp = s.lmp := rfl
@[simp] theorem State.setLink_sig (l : Nat) (x : LinkSt) : (s.setLink l x).sig = s.sig := rfl
@[simp] theorem State.setLink_cur (l : Nat) (x : LinkSt) : (s.setLink l x).cur = s.cur := rfl
@[simp] theorem State.setLink_qb (l : Nat) (x : LinkSt) : (s.setLink l x).qb = s.qb := rfl
@[simp] theorem State.setLink_fly (l : Nat) (x : LinkSt) : (s.setLink l x).fly = s.fly := rfl
@[simp] theorem State.setLink_net (l : Nat) (x : LinkSt) : (s.setLink l x).net = s.net := rfl
@[simp] theorem State.setLink_line (l : Nat) (x : LinkSt) : (s.setLink l x).line = s.line := rfl
@[simp] theorem State.setLink_tdm (l : Nat) (x : LinkSt) : (s.setLink l x).tdm = s.tdm := rfl
@[simp] theorem State.setLink_mtr (l : Nat) (x : LinkSt) : (s.setLink l x).mtr = s.mtr := rfl
@[simp] theorem State.setLink_flyTurn (l : Nat) (x : LinkSt) : (s.setLink l x).flyTurn = s.flyTurn := rfl
@[simp] theorem State.setLink_sacnDue (l : Nat) (x : LinkSt) : (s.setLink l x).sacnDue = s.sacnDue := rfl
@[simp] theorem State.setLink_off (l : Nat) (x : LinkSt) : (s.setLink l x).off = s.off := rfl
@[simp] theorem State.setLink_inReset (l : Nat) (x : LinkSt) : (s.setLink l x).inReset = s.inReset := rfl
@[simp] theorem State.setLink_pwr (l : Nat) (x : LinkSt) : (s.setLink l x).pwr = s.pwr := rfl
@[simp] theorem State.setLink_boot (l : Nat) (x : LinkSt) : (s.setLink l x).boot = s.boot := rfl
@[simp] theorem State.setLink_pbk (l : Nat) (x : LinkSt) : (s.setLink l x).pbk = s.pbk := rfl
@[simp] theorem State.setLink_freeCtr (l : Nat) (x : LinkSt) : (s.setLink l x).freeCtr = s.freeCtr := rfl
@[simp] theorem State.setLink_pending (l : Nat) (x : LinkSt) : (s.setLink l x).pending = s.pending := rfl

/-! ### `updLink` -/

@[simp] theorem State.updLink_regs (l : Nat) (g : LinkSt → LinkSt) : (s.updLink l g).regs = s.regs := rfl
@[simp] theorem State.updLink_regLow (l : Nat) (g : LinkSt → LinkSt) : (s.updLink l g).regLow = s.regLow := rfl
@[simp] theorem State.updLink_regShadow (l : Nat) (g : LinkSt → LinkSt) : (s.updLink l g).regShadow = s.regShadow := rfl
@[simp] theorem State.updLink_sent (l : Nat) (g : LinkSt → LinkSt) : (s.updLink l g).sent = s.sent := rfl
@[simp] theorem State.updLink_evt (l : Nat) (g : LinkSt → LinkSt) : (s.updLink l g).evt = s.evt := rfl
@[simp] theorem State.updLink_host (l : Nat) (g : LinkSt → LinkSt) : (s.updLink l g).host = s.host := rfl
@[simp] theorem State.updLink_mem (l : Nat) (g : LinkSt → LinkSt) : (s.updLink l g).mem = s.mem := rfl
@[simp] theorem State.updLink_obj (l : Nat) (g : LinkSt → LinkSt) : (s.updLink l g).obj = s.obj := rfl
@[simp] theorem State.updLink_cfgAcc (l : Nat) (g : LinkSt → LinkSt) : (s.updLink l g).cfgAcc = s.cfgAcc := rfl
@[simp] theorem State.updLink_cfgApp (l : Nat) (g : LinkSt → LinkSt) : (s.updLink l g).cfgApp = s.cfgApp := rfl
@[simp] theorem State.updLink_cues (l : Nat) (g : LinkSt → LinkSt) : (s.updLink l g).cues = s.cues := rfl
@[simp] theorem State.updLink_frames (l : Nat) (g : LinkSt → LinkSt) : (s.updLink l g).frames = s.frames := rfl
@[simp] theorem State.updLink_gone (l : Nat) (g : LinkSt → LinkSt) : (s.updLink l g).gone = s.gone := rfl
@[simp] theorem State.updLink_time (l : Nat) (g : LinkSt → LinkSt) : (s.updLink l g).time = s.time := rfl
@[simp] theorem State.updLink_cb (l : Nat) (g : LinkSt → LinkSt) : (s.updLink l g).cb = s.cb := rfl
@[simp] theorem State.updLink_blk (l : Nat) (g : LinkSt → LinkSt) : (s.updLink l g).blk = s.blk := rfl
@[simp] theorem State.updLink_cmp (l : Nat) (g : LinkSt → LinkSt) : (s.updLink l g).cmp = s.cmp := rfl
@[simp] theorem State.updLink_fix (l : Nat) (g : LinkSt → LinkSt) : (s.updLink l g).fix = s.fix := rfl
@[simp] theorem State.updLink_psh (l : Nat) (g : LinkSt → LinkSt) : (s.updLink l g).psh = s.psh := rfl
@[simp] theorem State.updLink_spt (l : Nat) (g : LinkSt → LinkSt) : (s.updLink l g).spt = s.spt := rfl
@[simp] theorem State.updLink_lmp (l : Nat) (g : LinkSt → LinkSt) : (s.updLink l g).lmp = s.lmp := rfl
@[simp] theorem State.updLink_sig (l : Nat) (g : LinkSt → LinkSt) : (s.updLink l g).sig = s.sig := rfl
@[simp] theorem State.updLink_cur (l : Nat) (g : LinkSt → LinkSt) : (s.updLink l g).cur = s.cur := rfl
@[simp] theorem State.updLink_qb (l : Nat) (g : LinkSt → LinkSt) : (s.updLink l g).qb = s.qb := rfl
@[simp] theorem State.updLink_fly (l : Nat) (g : LinkSt → LinkSt) : (s.updLink l g).fly = s.fly := rfl
@[simp] theorem State.updLink_net (l : Nat) (g : LinkSt → LinkSt) : (s.updLink l g).net = s.net := rfl
@[simp] theorem State.updLink_line (l : Nat) (g : LinkSt → LinkSt) : (s.updLink l g).line = s.line := rfl
@[simp] theorem State.updLink_tdm (l : Nat) (g : LinkSt → LinkSt) : (s.updLink l g).tdm = s.tdm := rfl
@[simp] theorem State.updLink_mtr (l : Nat) (g : LinkSt → LinkSt) : (s.updLink l g).mtr = s.mtr := rfl
@[simp] theorem State.updLink_flyTurn (l : Nat) (g : LinkSt → LinkSt) : (s.updLink l g).flyTurn = s.flyTurn := rfl
@[simp] theorem State.updLink_sacnDue (l : Nat) (g : LinkSt → LinkSt) : (s.updLink l g).sacnDue = s.sacnDue := rfl
@[simp] theorem State.updLink_off (l : Nat) (g : LinkSt → LinkSt) : (s.updLink l g).off = s.off := rfl
@[simp] theorem State.updLink_inReset (l : Nat) (g : LinkSt → LinkSt) : (s.updLink l g).inReset = s.inReset := rfl
@[simp] theorem State.updLink_pwr (l : Nat) (g : LinkSt → LinkSt) : (s.updLink l g).pwr = s.pwr := rfl
@[simp] theorem State.updLink_boot (l : Nat) (g : LinkSt → LinkSt) : (s.updLink l g).boot = s.boot := rfl
@[simp] theorem State.updLink_pbk (l : Nat) (g : LinkSt → LinkSt) : (s.updLink l g).pbk = s.pbk := rfl
@[simp] theorem State.updLink_freeCtr (l : Nat) (g : LinkSt → LinkSt) : (s.updLink l g).freeCtr = s.freeCtr := rfl
@[simp] theorem State.updLink_pending (l : Nat) (g : LinkSt → LinkSt) : (s.updLink l g).pending = s.pending := rfl

/-! ### `updPush` -/

@[simp] theorem State.updPush_regs (l : Nat) (g : PushSt → PushSt) : (s.updPush l g).regs = s.regs := rfl
@[simp] theorem State.updPush_regLow (l : Nat) (g : PushSt → PushSt) : (s.updPush l g).regLow = s.regLow := rfl
@[simp] theorem State.updPush_regShadow (l : Nat) (g : PushSt → PushSt) : (s.updPush l g).regShadow = s.regShadow := rfl
@[simp] theorem State.updPush_sent (l : Nat) (g : PushSt → PushSt) : (s.updPush l g).sent = s.sent := rfl
@[simp] theorem State.updPush_evt (l : Nat) (g : PushSt → PushSt) : (s.updPush l g).evt = s.evt := rfl
@[simp] theorem State.updPush_host (l : Nat) (g : PushSt → PushSt) : (s.updPush l g).host = s.host := rfl
@[simp] theorem State.updPush_mem (l : Nat) (g : PushSt → PushSt) : (s.updPush l g).mem = s.mem := rfl
@[simp] theorem State.updPush_obj (l : Nat) (g : PushSt → PushSt) : (s.updPush l g).obj = s.obj := rfl
@[simp] theorem State.updPush_cfgAcc (l : Nat) (g : PushSt → PushSt) : (s.updPush l g).cfgAcc = s.cfgAcc := rfl
@[simp] theorem State.updPush_cfgApp (l : Nat) (g : PushSt → PushSt) : (s.updPush l g).cfgApp = s.cfgApp := rfl
@[simp] theorem State.updPush_cues (l : Nat) (g : PushSt → PushSt) : (s.updPush l g).cues = s.cues := rfl
@[simp] theorem State.updPush_frames (l : Nat) (g : PushSt → PushSt) : (s.updPush l g).frames = s.frames := rfl
@[simp] theorem State.updPush_gone (l : Nat) (g : PushSt → PushSt) : (s.updPush l g).gone = s.gone := rfl
@[simp] theorem State.updPush_time (l : Nat) (g : PushSt → PushSt) : (s.updPush l g).time = s.time := rfl
@[simp] theorem State.updPush_cb (l : Nat) (g : PushSt → PushSt) : (s.updPush l g).cb = s.cb := rfl
@[simp] theorem State.updPush_blk (l : Nat) (g : PushSt → PushSt) : (s.updPush l g).blk = s.blk := rfl
@[simp] theorem State.updPush_cmp (l : Nat) (g : PushSt → PushSt) : (s.updPush l g).cmp = s.cmp := rfl
@[simp] theorem State.updPush_fix (l : Nat) (g : PushSt → PushSt) : (s.updPush l g).fix = s.fix := rfl
@[simp] theorem State.updPush_links (l : Nat) (g : PushSt → PushSt) : (s.updPush l g).links = s.links := rfl
@[simp] theorem State.updPush_spt (l : Nat) (g : PushSt → PushSt) : (s.updPush l g).spt = s.spt := rfl
@[simp] theorem State.updPush_lmp (l : Nat) (g : PushSt → PushSt) : (s.updPush l g).lmp = s.lmp := rfl
@[simp] theorem State.updPush_sig (l : Nat) (g : PushSt → PushSt) : (s.updPush l g).sig = s.sig := rfl
@[simp] theorem State.updPush_cur (l : Nat) (g : PushSt → PushSt) : (s.updPush l g).cur = s.cur := rfl
@[simp] theorem State.updPush_qb (l : Nat) (g : PushSt → PushSt) : (s.updPush l g).qb = s.qb := rfl
@[simp] theorem State.updPush_fly (l : Nat) (g : PushSt → PushSt) : (s.updPush l g).fly = s.fly := rfl
@[simp] theorem State.updPush_net (l : Nat) (g : PushSt → PushSt) : (s.updPush l g).net = s.net := rfl
@[simp] theorem State.updPush_line (l : Nat) (g : PushSt → PushSt) : (s.updPush l g).line = s.line := rfl
@[simp] theorem State.updPush_tdm (l : Nat) (g : PushSt → PushSt) : (s.updPush l g).tdm = s.tdm := rfl
@[simp] theorem State.updPush_mtr (l : Nat) (g : PushSt → PushSt) : (s.updPush l g).mtr = s.mtr := rfl
@[simp] theorem State.updPush_flyTurn (l : Nat) (g : PushSt → PushSt) : (s.updPush l g).flyTurn = s.flyTurn := rfl
@[simp] theorem State.updPush_sacnDue (l : Nat) (g : PushSt → PushSt) : (s.updPush l g).sacnDue = s.sacnDue := rfl
@[simp] theorem State.updPush_off (l : Nat) (g : PushSt → PushSt) : (s.updPush l g).off = s.off := rfl
@[simp] theorem State.updPush_inReset (l : Nat) (g : PushSt → PushSt) : (s.updPush l g).inReset = s.inReset := rfl
@[simp] theorem State.updPush_pwr (l : Nat) (g : PushSt → PushSt) : (s.updPush l g).pwr = s.pwr := rfl
@[simp] theorem State.updPush_boot (l : Nat) (g : PushSt → PushSt) : (s.updPush l g).boot = s.boot := rfl
@[simp] theorem State.updPush_pbk (l : Nat) (g : PushSt → PushSt) : (s.updPush l g).pbk = s.pbk := rfl
@[simp] theorem State.updPush_freeCtr (l : Nat) (g : PushSt → PushSt) : (s.updPush l g).freeCtr = s.freeCtr := rfl
@[simp] theorem State.updPush_pending (l : Nat) (g : PushSt → PushSt) : (s.updPush l g).pending = s.pending := rfl

/-! ### `setQb` -/

@[simp] theorem State.setQb_regs (q : Nat) (x : QbSt) : (s.setQb q x).regs = s.regs := rfl
@[simp] theorem State.setQb_regLow (q : Nat) (x : QbSt) : (s.setQb q x).regLow = s.regLow := rfl
@[simp] theorem State.setQb_regShadow (q : Nat) (x : QbSt) : (s.setQb q x).regShadow = s.regShadow := rfl
@[simp] theorem State.setQb_sent (q : Nat) (x : QbSt) : (s.setQb q x).sent = s.sent := rfl
@[simp] theorem State.setQb_evt (q : Nat) (x : QbSt) : (s.setQb q x).evt = s.evt := rfl
@[simp] theorem State.setQb_host (q : Nat) (x : QbSt) : (s.setQb q x).host = s.host := rfl
@[simp] theorem State.setQb_mem (q : Nat) (x : QbSt) : (s.setQb q x).mem = s.mem := rfl
@[simp] theorem State.setQb_obj (q : Nat) (x : QbSt) : (s.setQb q x).obj = s.obj := rfl
@[simp] theorem State.setQb_cfgAcc (q : Nat) (x : QbSt) : (s.setQb q x).cfgAcc = s.cfgAcc := rfl
@[simp] theorem State.setQb_cfgApp (q : Nat) (x : QbSt) : (s.setQb q x).cfgApp = s.cfgApp := rfl
@[simp] theorem State.setQb_cues (q : Nat) (x : QbSt) : (s.setQb q x).cues = s.cues := rfl
@[simp] theorem State.setQb_frames (q : Nat) (x : QbSt) : (s.setQb q x).frames = s.frames := rfl
@[simp] theorem State.setQb_gone (q : Nat) (x : QbSt) : (s.setQb q x).gone = s.gone := rfl
@[simp] theorem State.setQb_time (q : Nat) (x : QbSt) : (s.setQb q x).time = s.time := rfl
@[simp] theorem State.setQb_cb (q : Nat) (x : QbSt) : (s.setQb q x).cb = s.cb := rfl
@[simp] theorem State.setQb_blk (q : Nat) (x : QbSt) : (s.setQb q x).blk = s.blk := rfl
@[simp] theorem State.setQb_cmp (q : Nat) (x : QbSt) : (s.setQb q x).cmp = s.cmp := rfl
@[simp] theorem State.setQb_fix (q : Nat) (x : QbSt) : (s.setQb q x).fix = s.fix := rfl
@[simp] theorem State.setQb_links (q : Nat) (x : QbSt) : (s.setQb q x).links = s.links := rfl
@[simp] theorem State.setQb_psh (q : Nat) (x : QbSt) : (s.setQb q x).psh = s.psh := rfl
@[simp] theorem State.setQb_spt (q : Nat) (x : QbSt) : (s.setQb q x).spt = s.spt := rfl
@[simp] theorem State.setQb_lmp (q : Nat) (x : QbSt) : (s.setQb q x).lmp = s.lmp := rfl
@[simp] theorem State.setQb_sig (q : Nat) (x : QbSt) : (s.setQb q x).sig = s.sig := rfl
@[simp] theorem State.setQb_cur (q : Nat) (x : QbSt) : (s.setQb q x).cur = s.cur := rfl
@[simp] theorem State.setQb_fly (q : Nat) (x : QbSt) : (s.setQb q x).fly = s.fly := rfl
@[simp] theorem State.setQb_net (q : Nat) (x : QbSt) : (s.setQb q x).net = s.net := rfl
@[simp] theorem State.setQb_line (q : Nat) (x : QbSt) : (s.setQb q x).line = s.line := rfl
@[simp] theorem State.setQb_tdm (q : Nat) (x : QbSt) : (s.setQb q x).tdm = s.tdm := rfl
@[simp] theorem State.setQb_mtr (q : Nat) (x : QbSt) : (s.setQb q x).mtr = s.mtr := rfl
@[simp] theorem State.setQb_flyTurn (q : Nat) (x : QbSt) : (s.setQb q x).flyTurn = s.flyTurn := rfl
@[simp] theorem State.setQb_sacnDue (q : Nat) (x : QbSt) : (s.setQb q x).sacnDue = s.sacnDue := rfl
@[simp] theorem State.setQb_off (q : Nat) (x : QbSt) : (s.setQb q x).off = s.off := rfl
@[simp] theorem State.setQb_inReset (q : Nat) (x : QbSt) : (s.setQb q x).inReset = s.inReset := rfl
@[simp] theorem State.setQb_pwr (q : Nat) (x : QbSt) : (s.setQb q x).pwr = s.pwr := rfl
@[simp] theorem State.setQb_boot (q : Nat) (x : QbSt) : (s.setQb q x).boot = s.boot := rfl
@[simp] theorem State.setQb_pbk (q : Nat) (x : QbSt) : (s.setQb q x).pbk = s.pbk := rfl
@[simp] theorem State.setQb_freeCtr (q : Nat) (x : QbSt) : (s.setQb q x).freeCtr = s.freeCtr := rfl
@[simp] theorem State.setQb_pending (q : Nat) (x : QbSt) : (s.setQb q x).pending = s.pending := rfl

/-! ### `setNet` -/

@[simp] theorem State.setNet_regs (p : Nat) (x : NetSt) : (s.setNet p x).regs = s.regs := rfl
@[simp] theorem State.setNet_regLow (p : Nat) (x : NetSt) : (s.setNet p x).regLow = s.regLow := rfl
@[simp] theorem State.setNet_regShadow (p : Nat) (x : NetSt) : (s.setNet p x).regShadow = s.regShadow := rfl
@[simp] theorem State.setNet_sent (p : Nat) (x : NetSt) : (s.setNet p x).sent = s.sent := rfl
@[simp] theorem State.setNet_evt (p : Nat) (x : NetSt) : (s.setNet p x).evt = s.evt := rfl
@[simp] theorem State.setNet_host (p : Nat) (x : NetSt) : (s.setNet p x).host = s.host := rfl
@[simp] theorem State.setNet_mem (p : Nat) (x : NetSt) : (s.setNet p x).mem = s.mem := rfl
@[simp] theorem State.setNet_obj (p : Nat) (x : NetSt) : (s.setNet p x).obj = s.obj := rfl
@[simp] theorem State.setNet_cfgAcc (p : Nat) (x : NetSt) : (s.setNet p x).cfgAcc = s.cfgAcc := rfl
@[simp] theorem State.setNet_cfgApp (p : Nat) (x : NetSt) : (s.setNet p x).cfgApp = s.cfgApp := rfl
@[simp] theorem State.setNet_cues (p : Nat) (x : NetSt) : (s.setNet p x).cues = s.cues := rfl
@[simp] theorem State.setNet_frames (p : Nat) (x : NetSt) : (s.setNet p x).frames = s.frames := rfl
@[simp] theorem State.setNet_gone (p : Nat) (x : NetSt) : (s.setNet p x).gone = s.gone := rfl
@[simp] theorem State.setNet_time (p : Nat) (x : NetSt) : (s.setNet p x).time = s.time := rfl
@[simp] theorem State.setNet_cb (p : Nat) (x : NetSt) : (s.setNet p x).cb = s.cb := rfl
@[simp] theorem State.setNet_blk (p : Nat) (x : NetSt) : (s.setNet p x).blk = s.blk := rfl
@[simp] theorem State.setNet_cmp (p : Nat) (x : NetSt) : (s.setNet p x).cmp = s.cmp := rfl
@[simp] theorem State.setNet_fix (p : Nat) (x : NetSt) : (s.setNet p x).fix = s.fix := rfl
@[simp] theorem State.setNet_links (p : Nat) (x : NetSt) : (s.setNet p x).links = s.links := rfl
@[simp] theorem State.setNet_psh (p : Nat) (x : NetSt) : (s.setNet p x).psh = s.psh := rfl
@[simp] theorem State.setNet_spt (p : Nat) (x : NetSt) : (s.setNet p x).spt = s.spt := rfl
@[simp] theorem State.setNet_lmp (p : Nat) (x : NetSt) : (s.setNet p x).lmp = s.lmp := rfl
@[simp] theorem State.setNet_sig (p : Nat) (x : NetSt) : (s.setNet p x).sig = s.sig := rfl
@[simp] theorem State.setNet_cur (p : Nat) (x : NetSt) : (s.setNet p x).cur = s.cur := rfl
@[simp] theorem State.setNet_qb (p : Nat) (x : NetSt) : (s.setNet p x).qb = s.qb := rfl
@[simp] theorem State.setNet_fly (p : Nat) (x : NetSt) : (s.setNet p x).fly = s.fly := rfl
@[simp] theorem State.setNet_line (p : Nat) (x : NetSt) : (s.setNet p x).line = s.line := rfl
@[simp] theorem State.setNet_tdm (p : Nat) (x : NetSt) : (s.setNet p x).tdm = s.tdm := rfl
@[simp] theorem State.setNet_mtr (p : Nat) (x : NetSt) : (s.setNet p x).mtr = s.mtr := rfl
@[simp] theorem State.setNet_flyTurn (p : Nat) (x : NetSt) : (s.setNet p x).flyTurn = s.flyTurn := rfl
@[simp] theorem State.setNet_sacnDue (p : Nat) (x : NetSt) : (s.setNet p x).sacnDue = s.sacnDue := rfl
@[simp] theorem State.setNet_off (p : Nat) (x : NetSt) : (s.setNet p x).off = s.off := rfl
@[simp] theorem State.setNet_inReset (p : Nat) (x : NetSt) : (s.setNet p x).inReset = s.inReset := rfl
@[simp] theorem State.setNet_pwr (p : Nat) (x : NetSt) : (s.setNet p x).pwr = s.pwr := rfl
@[simp] theorem State.setNet_boot (p : Nat) (x : NetSt) : (s.setNet p x).boot = s.boot := rfl
@[simp] theorem State.setNet_pbk (p : Nat) (x : NetSt) : (s.setNet p x).pbk = s.pbk := rfl
@[simp] theorem State.setNet_freeCtr (p : Nat) (x : NetSt) : (s.setNet p x).freeCtr = s.freeCtr := rfl
@[simp] theorem State.setNet_pending (p : Nat) (x : NetSt) : (s.setNet p x).pending = s.pending := rfl

/-! ### `updNet` -/

@[simp] theorem State.updNet_regs (p : Nat) (g : NetSt → NetSt) : (s.updNet p g).regs = s.regs := rfl
@[simp] theorem State.updNet_regLow (p : Nat) (g : NetSt → NetSt) : (s.updNet p g).regLow = s.regLow := rfl
@[simp] theorem State.updNet_regShadow (p : Nat) (g : NetSt → NetSt) : (s.updNet p g).regShadow = s.regShadow := rfl
@[simp] theorem State.updNet_sent (p : Nat) (g : NetSt → NetSt) : (s.updNet p g).sent = s.sent := rfl
@[simp] theorem State.updNet_evt (p : Nat) (g : NetSt → NetSt) : (s.updNet p g).evt = s.evt := rfl
@[simp] theorem State.updNet_host (p : Nat) (g : NetSt → NetSt) : (s.updNet p g).host = s.host := rfl
@[simp] theorem State.updNet_mem (p : Nat) (g : NetSt → NetSt) : (s.updNet p g).mem = s.mem := rfl
@[simp] theorem State.updNet_obj (p : Nat) (g : NetSt → NetSt) : (s.updNet p g).obj = s.obj := rfl
@[simp] theorem State.updNet_cfgAcc (p : Nat) (g : NetSt → NetSt) : (s.updNet p g).cfgAcc = s.cfgAcc := rfl
@[simp] theorem State.updNet_cfgApp (p : Nat) (g : NetSt → NetSt) : (s.updNet p g).cfgApp = s.cfgApp := rfl
@[simp] theorem State.updNet_cues (p : Nat) (g : NetSt → NetSt) : (s.updNet p g).cues = s.cues := rfl
@[simp] theorem State.updNet_frames (p : Nat) (g : NetSt → NetSt) : (s.updNet p g).frames = s.frames := rfl
@[simp] theorem State.updNet_gone (p : Nat) (g : NetSt → NetSt) : (s.updNet p g).gone = s.gone := rfl
@[simp] theorem State.updNet_time (p : Nat) (g : NetSt → NetSt) : (s.updNet p g).time = s.time := rfl
@[simp] theorem State.updNet_cb (p : Nat) (g : NetSt → NetSt) : (s.updNet p g).cb = s.cb := rfl
@[simp] theorem State.updNet_blk (p : Nat) (g : NetSt → NetSt) : (s.updNet p g).blk = s.blk := rfl
@[simp] theorem State.updNet_cmp (p : Nat) (g : NetSt → NetSt) : (s.updNet p g).cmp = s.cmp := rfl
@[simp] theorem State.updNet_fix (p : Nat) (g : NetSt → NetSt) : (s.updNet p g).fix = s.fix := rfl
@[simp] theorem State.updNet_links (p : Nat) (g : NetSt → NetSt) : (s.updNet p g).links = s.links := rfl
@[simp] theorem State.updNet_psh (p : Nat) (g : NetSt → NetSt) : (s.updNet p g).psh = s.psh := rfl
@[simp] theorem State.updNet_spt (p : Nat) (g : NetSt → NetSt) : (s.updNet p g).spt = s.spt := rfl
@[simp] theorem State.updNet_lmp (p : Nat) (g : NetSt → NetSt) : (s.updNet p g).lmp = s.lmp := rfl
@[simp] theorem State.updNet_sig (p : Nat) (g : NetSt → NetSt) : (s.updNet p g).sig = s.sig := rfl
@[simp] theorem State.updNet_cur (p : Nat) (g : NetSt → NetSt) : (s.updNet p g).cur = s.cur := rfl
@[simp] theorem State.updNet_qb (p : Nat) (g : NetSt → NetSt) : (s.updNet p g).qb = s.qb := rfl
@[simp] theorem State.updNet_fly (p : Nat) (g : NetSt → NetSt) : (s.updNet p g).fly = s.fly := rfl
@[simp] theorem State.updNet_line (p : Nat) (g : NetSt → NetSt) : (s.updNet p g).line = s.line := rfl
@[simp] theorem State.updNet_tdm (p : Nat) (g : NetSt → NetSt) : (s.updNet p g).tdm = s.tdm := rfl
@[simp] theorem State.updNet_mtr (p : Nat) (g : NetSt → NetSt) : (s.updNet p g).mtr = s.mtr := rfl
@[simp] theorem State.updNet_flyTurn (p : Nat) (g : NetSt → NetSt) : (s.updNet p g).flyTurn = s.flyTurn := rfl
@[simp] theorem State.updNet_sacnDue (p : Nat) (g : NetSt → NetSt) : (s.updNet p g).sacnDue = s.sacnDue := rfl
@[simp] theorem State.updNet_off (p : Nat) (g : NetSt → NetSt) : (s.updNet p g).off = s.off := rfl
@[simp] theorem State.updNet_inReset (p : Nat) (g : NetSt → NetSt) : (s.updNet p g).inReset = s.inReset := rfl
@[simp] theorem State.updNet_pwr (p : Nat) (g : NetSt → NetSt) : (s.updNet p g).pwr = s.pwr := rfl
@[simp] theorem State.updNet_boot (p : Nat) (g : NetSt → NetSt) : (s.updNet p g).boot = s.boot := rfl
@[simp] theorem State.updNet_pbk (p : Nat) (g : NetSt → NetSt) : (s.updNet p g).pbk = s.pbk := rfl
@[simp] theorem State.updNet_freeCtr (p : Nat) (g : NetSt → NetSt) : (s.updNet p g).freeCtr = s.freeCtr := rfl
@[simp] theorem State.updNet_pending (p : Nat) (g : NetSt → NetSt) : (s.updNet p g).pending = s.pending := rfl

/-! ### `setLine` -/

@[simp] theorem State.setLine_regs (n : Nat) (x : LineSt) : (s.setLine n x).regs = s.regs := rfl
@[simp] theorem State.setLine_regLow (n : Nat) (x : LineSt) : (s.setLine n x).regLow = s.regLow := rfl
@[simp] theorem State.setLine_regShadow (n : Nat) (x : LineSt) : (s.setLine n x).regShadow = s.regShadow := rfl
@[simp] theorem State.setLine_sent (n : Nat) (x : LineSt) : (s.setLine n x).sent = s.sent := rfl
@[simp] theorem State.setLine_evt (n : Nat) (x : LineSt) : (s.setLine n x).evt = s.evt := rfl
@[simp] theorem State.setLine_host (n : Nat) (x : LineSt) : (s.setLine n x).host = s.host := rfl
@[simp] theorem State.setLine_mem (n : Nat) (x : LineSt) : (s.setLine n x).mem = s.mem := rfl
@[simp] theorem State.setLine_obj (n : Nat) (x : LineSt) : (s.setLine n x).obj = s.obj := rfl
@[simp] theorem State.setLine_cfgAcc (n : Nat) (x : LineSt) : (s.setLine n x).cfgAcc = s.cfgAcc := rfl
@[simp] theorem State.setLine_cfgApp (n : Nat) (x : LineSt) : (s.setLine n x).cfgApp = s.cfgApp := rfl
@[simp] theorem State.setLine_cues (n : Nat) (x : LineSt) : (s.setLine n x).cues = s.cues := rfl
@[simp] theorem State.setLine_frames (n : Nat) (x : LineSt) : (s.setLine n x).frames = s.frames := rfl
@[simp] theorem State.setLine_gone (n : Nat) (x : LineSt) : (s.setLine n x).gone = s.gone := rfl
@[simp] theorem State.setLine_time (n : Nat) (x : LineSt) : (s.setLine n x).time = s.time := rfl
@[simp] theorem State.setLine_cb (n : Nat) (x : LineSt) : (s.setLine n x).cb = s.cb := rfl
@[simp] theorem State.setLine_blk (n : Nat) (x : LineSt) : (s.setLine n x).blk = s.blk := rfl
@[simp] theorem State.setLine_cmp (n : Nat) (x : LineSt) : (s.setLine n x).cmp = s.cmp := rfl
@[simp] theorem State.setLine_fix (n : Nat) (x : LineSt) : (s.setLine n x).fix = s.fix := rfl
@[simp] theorem State.setLine_links (n : Nat) (x : LineSt) : (s.setLine n x).links = s.links := rfl
@[simp] theorem State.setLine_psh (n : Nat) (x : LineSt) : (s.setLine n x).psh = s.psh := rfl
@[simp] theorem State.setLine_spt (n : Nat) (x : LineSt) : (s.setLine n x).spt = s.spt := rfl
@[simp] theorem State.setLine_lmp (n : Nat) (x : LineSt) : (s.setLine n x).lmp = s.lmp := rfl
@[simp] theorem State.setLine_sig (n : Nat) (x : LineSt) : (s.setLine n x).sig = s.sig := rfl
@[simp] theorem State.setLine_cur (n : Nat) (x : LineSt) : (s.setLine n x).cur = s.cur := rfl
@[simp] theorem State.setLine_qb (n : Nat) (x : LineSt) : (s.setLine n x).qb = s.qb := rfl
@[simp] theorem State.setLine_fly (n : Nat) (x : LineSt) : (s.setLine n x).fly = s.fly := rfl
@[simp] theorem State.setLine_net (n : Nat) (x : LineSt) : (s.setLine n x).net = s.net := rfl
@[simp] theorem State.setLine_tdm (n : Nat) (x : LineSt) : (s.setLine n x).tdm = s.tdm := rfl
@[simp] theorem State.setLine_mtr (n : Nat) (x : LineSt) : (s.setLine n x).mtr = s.mtr := rfl
@[simp] theorem State.setLine_flyTurn (n : Nat) (x : LineSt) : (s.setLine n x).flyTurn = s.flyTurn := rfl
@[simp] theorem State.setLine_sacnDue (n : Nat) (x : LineSt) : (s.setLine n x).sacnDue = s.sacnDue := rfl
@[simp] theorem State.setLine_off (n : Nat) (x : LineSt) : (s.setLine n x).off = s.off := rfl
@[simp] theorem State.setLine_inReset (n : Nat) (x : LineSt) : (s.setLine n x).inReset = s.inReset := rfl
@[simp] theorem State.setLine_pwr (n : Nat) (x : LineSt) : (s.setLine n x).pwr = s.pwr := rfl
@[simp] theorem State.setLine_boot (n : Nat) (x : LineSt) : (s.setLine n x).boot = s.boot := rfl
@[simp] theorem State.setLine_pbk (n : Nat) (x : LineSt) : (s.setLine n x).pbk = s.pbk := rfl
@[simp] theorem State.setLine_freeCtr (n : Nat) (x : LineSt) : (s.setLine n x).freeCtr = s.freeCtr := rfl
@[simp] theorem State.setLine_pending (n : Nat) (x : LineSt) : (s.setLine n x).pending = s.pending := rfl

/-! ### `updLine` -/

@[simp] theorem State.updLine_regs (n : Nat) (g : LineSt → LineSt) : (s.updLine n g).regs = s.regs := rfl
@[simp] theorem State.updLine_regLow (n : Nat) (g : LineSt → LineSt) : (s.updLine n g).regLow = s.regLow := rfl
@[simp] theorem State.updLine_regShadow (n : Nat) (g : LineSt → LineSt) : (s.updLine n g).regShadow = s.regShadow := rfl
@[simp] theorem State.updLine_sent (n : Nat) (g : LineSt → LineSt) : (s.updLine n g).sent = s.sent := rfl
@[simp] theorem State.updLine_evt (n : Nat) (g : LineSt → LineSt) : (s.updLine n g).evt = s.evt := rfl
@[simp] theorem State.updLine_host (n : Nat) (g : LineSt → LineSt) : (s.updLine n g).host = s.host := rfl
@[simp] theorem State.updLine_mem (n : Nat) (g : LineSt → LineSt) : (s.updLine n g).mem = s.mem := rfl
@[simp] theorem State.updLine_obj (n : Nat) (g : LineSt → LineSt) : (s.updLine n g).obj = s.obj := rfl
@[simp] theorem State.updLine_cfgAcc (n : Nat) (g : LineSt → LineSt) : (s.updLine n g).cfgAcc = s.cfgAcc := rfl
@[simp] theorem State.updLine_cfgApp (n : Nat) (g : LineSt → LineSt) : (s.updLine n g).cfgApp = s.cfgApp := rfl
@[simp] theorem State.updLine_cues (n : Nat) (g : LineSt → LineSt) : (s.updLine n g).cues = s.cues := rfl
@[simp] theorem State.updLine_frames (n : Nat) (g : LineSt → LineSt) : (s.updLine n g).frames = s.frames := rfl
@[simp] theorem State.updLine_gone (n : Nat) (g : LineSt → LineSt) : (s.updLine n g).gone = s.gone := rfl
@[simp] theorem State.updLine_time (n : Nat) (g : LineSt → LineSt) : (s.updLine n g).time = s.time := rfl
@[simp] theorem State.updLine_cb (n : Nat) (g : LineSt → LineSt) : (s.updLine n g).cb = s.cb := rfl
@[simp] theorem State.updLine_blk (n : Nat) (g : LineSt → LineSt) : (s.updLine n g).blk = s.blk := rfl
@[simp] theorem State.updLine_cmp (n : Nat) (g : LineSt → LineSt) : (s.updLine n g).cmp = s.cmp := rfl
@[simp] theorem State.updLine_fix (n : Nat) (g : LineSt → LineSt) : (s.updLine n g).fix = s.fix := rfl
@[simp] theorem State.updLine_links (n : Nat) (g : LineSt → LineSt) : (s.updLine n g).links = s.links := rfl
@[simp] theorem State.updLine_psh (n : Nat) (g : LineSt → LineSt) : (s.updLine n g).psh = s.psh := rfl
@[simp] theorem State.updLine_spt (n : Nat) (g : LineSt → LineSt) : (s.updLine n g).spt = s.spt := rfl
@[simp] theorem State.updLine_lmp (n : Nat) (g : LineSt → LineSt) : (s.updLine n g).lmp = s.lmp := rfl
@[simp] theorem State.updLine_sig (n : Nat) (g : LineSt → LineSt) : (s.updLine n g).sig = s.sig := rfl
@[simp] theorem State.updLine_cur (n : Nat) (g : LineSt → LineSt) : (s.updLine n g).cur = s.cur := rfl
@[simp] theorem State.updLine_qb (n : Nat) (g : LineSt → LineSt) : (s.updLine n g).qb = s.qb := rfl
@[simp] theorem State.updLine_fly (n : Nat) (g : LineSt → LineSt) : (s.updLine n g).fly = s.fly := rfl
@[simp] theorem State.updLine_net (n : Nat) (g : LineSt → LineSt) : (s.updLine n g).net = s.net := rfl
@[simp] theorem State.updLine_tdm (n : Nat) (g : LineSt → LineSt) : (s.updLine n g).tdm = s.tdm := rfl
@[simp] theorem State.updLine_mtr (n : Nat) (g : LineSt → LineSt) : (s.updLine n g).mtr = s.mtr := rfl
@[simp] theorem State.updLine_flyTurn (n : Nat) (g : LineSt → LineSt) : (s.updLine n g).flyTurn = s.flyTurn := rfl
@[simp] theorem State.updLine_sacnDue (n : Nat) (g : LineSt → LineSt) : (s.updLine n g).sacnDue = s.sacnDue := rfl
@[simp] theorem State.updLine_off (n : Nat) (g : LineSt → LineSt) : (s.updLine n g).off = s.off := rfl
@[simp] theorem State.updLine_inReset (n : Nat) (g : LineSt → LineSt) : (s.updLine n g).inReset = s.inReset := rfl
@[simp] theorem State.updLine_pwr (n : Nat) (g : LineSt → LineSt) : (s.updLine n g).pwr = s.pwr := rfl
@[simp] theorem State.updLine_boot (n : Nat) (g : LineSt → LineSt) : (s.updLine n g).boot = s.boot := rfl
@[simp] theorem State.updLine_pbk (n : Nat) (g : LineSt → LineSt) : (s.updLine n g).pbk = s.pbk := rfl
@[simp] theorem State.updLine_freeCtr (n : Nat) (g : LineSt → LineSt) : (s.updLine n g).freeCtr = s.freeCtr := rfl
@[simp] theorem State.updLine_pending (n : Nat) (g : LineSt → LineSt) : (s.updLine n g).pending = s.pending := rfl

/-! ### `setSig` -/

@[simp] theorem State.setSig_regs (n : Nat) (x : SigSt) : (s.setSig n x).regs = s.regs := rfl
@[simp] theorem State.setSig_regLow (n : Nat) (x : SigSt) : (s.setSig n x).regLow = s.regLow := rfl
@[simp] theorem State.setSig_regShadow (n : Nat) (x : SigSt) : (s.setSig n x).regShadow = s.regShadow := rfl
@[simp] theorem State.setSig_sent (n : Nat) (x : SigSt) : (s.setSig n x).sent = s.sent := rfl
@[simp] theorem State.setSig_evt (n : Nat) (x : SigSt) : (s.setSig n x).evt = s.evt := rfl
@[simp] theorem State.setSig_host (n : Nat) (x : SigSt) : (s.setSig n x).host = s.host := rfl
@[simp] theorem State.setSig_mem (n : Nat) (x : SigSt) : (s.setSig n x).mem = s.mem := rfl
@[simp] theorem State.setSig_obj (n : Nat) (x : SigSt) : (s.setSig n x).obj = s.obj := rfl
@[simp] theorem State.setSig_cfgAcc (n : Nat) (x : SigSt) : (s.setSig n x).cfgAcc = s.cfgAcc := rfl
@[simp] theorem State.setSig_cfgApp (n : Nat) (x : SigSt) : (s.setSig n x).cfgApp = s.cfgApp := rfl
@[simp] theorem State.setSig_cues (n : Nat) (x : SigSt) : (s.setSig n x).cues = s.cues := rfl
@[simp] theorem State.setSig_frames (n : Nat) (x : SigSt) : (s.setSig n x).frames = s.frames := rfl
@[simp] theorem State.setSig_gone (n : Nat) (x : SigSt) : (s.setSig n x).gone = s.gone := rfl
@[simp] theorem State.setSig_time (n : Nat) (x : SigSt) : (s.setSig n x).time = s.time := rfl
@[simp] theorem State.setSig_cb (n : Nat) (x : SigSt) : (s.setSig n x).cb = s.cb := rfl
@[simp] theorem State.setSig_blk (n : Nat) (x : SigSt) : (s.setSig n x).blk = s.blk := rfl
@[simp] theorem State.setSig_cmp (n : Nat) (x : SigSt) : (s.setSig n x).cmp = s.cmp := rfl
@[simp] theorem State.setSig_fix (n : Nat) (x : SigSt) : (s.setSig n x).fix = s.fix := rfl
@[simp] theorem State.setSig_links (n : Nat) (x : SigSt) : (s.setSig n x).links = s.links := rfl
@[simp] theorem State.setSig_psh (n : Nat) (x : SigSt) : (s.setSig n x).psh = s.psh := rfl
@[simp] theorem State.setSig_spt (n : Nat) (x : SigSt) : (s.setSig n x).spt = s.spt := rfl
@[simp] theorem State.setSig_lmp (n : Nat) (x : SigSt) : (s.setSig n x).lmp = s.lmp := rfl
@[simp] theorem State.setSig_cur (n : Nat) (x : SigSt) : (s.setSig n x).cur = s.cur := rfl
@[simp] theorem State.setSig_qb (n : Nat) (x : SigSt) : (s.setSig n x).qb = s.qb := rfl
@[simp] theorem State.setSig_fly (n : Nat) (x : SigSt) : (s.setSig n x).fly = s.fly := rfl
@[simp] theorem State.setSig_net (n : Nat) (x : SigSt) : (s.setSig n x).net = s.net := rfl
@[simp] theorem State.setSig_line (n : Nat) (x : SigSt) : (s.setSig n x).line = s.line := rfl
@[simp] theorem State.setSig_tdm (n : Nat) (x : SigSt) : (s.setSig n x).tdm = s.tdm := rfl
@[simp] theorem State.setSig_mtr (n : Nat) (x : SigSt) : (s.setSig n x).mtr = s.mtr := rfl
@[simp] theorem State.setSig_flyTurn (n : Nat) (x : SigSt) : (s.setSig n x).flyTurn = s.flyTurn := rfl
@[simp] theorem State.setSig_sacnDue (n : Nat) (x : SigSt) : (s.setSig n x).sacnDue = s.sacnDue := rfl
@[simp] theorem State.setSig_off (n : Nat) (x : SigSt) : (s.setSig n x).off = s.off := rfl
@[simp] theorem State.setSig_inReset (n : Nat) (x : SigSt) : (s.setSig n x).inReset = s.inReset := rfl
@[simp] theorem State.setSig_pwr (n : Nat) (x : SigSt) : (s.setSig n x).pwr = s.pwr := rfl
@[simp] theorem State.setSig_boot (n : Nat) (x : SigSt) : (s.setSig n x).boot = s.boot := rfl
@[simp] theorem State.setSig_pbk (n : Nat) (x : SigSt) : (s.setSig n x).pbk = s.pbk := rfl
@[simp] theorem State.setSig_freeCtr (n : Nat) (x : SigSt) : (s.setSig n x).freeCtr = s.freeCtr := rfl
@[simp] theorem State.setSig_pending (n : Nat) (x : SigSt) : (s.setSig n x).pending = s.pending := rfl

/-! ### `setFly` -/

@[simp] theorem State.setFly_regs (n : Nat) (x : Option FlySt) : (s.setFly n x).regs = s.regs := rfl
@[simp] theorem State.setFly_regLow (n : Nat) (x : Option FlySt) : (s.setFly n x).regLow = s.regLow := rfl
@[simp] theorem State.setFly_regShadow (n : Nat) (x : Option FlySt) : (s.setFly n x).regShadow = s.regShadow := rfl
@[simp] theorem State.setFly_sent (n : Nat) (x : Option FlySt) : (s.setFly n x).sent = s.sent := rfl
@[simp] theorem State.setFly_evt (n : Nat) (x : Option FlySt) : (s.setFly n x).evt = s.evt := rfl
@[simp] theorem State.setFly_host (n : Nat) (x : Option FlySt) : (s.setFly n x).host = s.host := rfl
@[simp] theorem State.setFly_mem (n : Nat) (x : Option FlySt) : (s.setFly n x).mem = s.mem := rfl
@[simp] theorem State.setFly_obj (n : Nat) (x : Option FlySt) : (s.setFly n x).obj = s.obj := rfl
@[simp] theorem State.setFly_cfgAcc (n : Nat) (x : Option FlySt) : (s.setFly n x).cfgAcc = s.cfgAcc := rfl
@[simp] theorem State.setFly_cfgApp (n : Nat) (x : Option FlySt) : (s.setFly n x).cfgApp = s.cfgApp := rfl
@[simp] theorem State.setFly_cues (n : Nat) (x : Option FlySt) : (s.setFly n x).cues = s.cues := rfl
@[simp] theorem State.setFly_frames (n : Nat) (x : Option FlySt) : (s.setFly n x).frames = s.frames := rfl
@[simp] theorem State.setFly_gone (n : Nat) (x : Option FlySt) : (s.setFly n x).gone = s.gone := rfl
@[simp] theorem State.setFly_time (n : Nat) (x : Option FlySt) : (s.setFly n x).time = s.time := rfl
@[simp] theorem State.setFly_cb (n : Nat) (x : Option FlySt) : (s.setFly n x).cb = s.cb := rfl
@[simp] theorem State.setFly_blk (n : Nat) (x : Option FlySt) : (s.setFly n x).blk = s.blk := rfl
@[simp] theorem State.setFly_cmp (n : Nat) (x : Option FlySt) : (s.setFly n x).cmp = s.cmp := rfl
@[simp] theorem State.setFly_fix (n : Nat) (x : Option FlySt) : (s.setFly n x).fix = s.fix := rfl
@[simp] theorem State.setFly_links (n : Nat) (x : Option FlySt) : (s.setFly n x).links = s.links := rfl
@[simp] theorem State.setFly_psh (n : Nat) (x : Option FlySt) : (s.setFly n x).psh = s.psh := rfl
@[simp] theorem State.setFly_spt (n : Nat) (x : Option FlySt) : (s.setFly n x).spt = s.spt := rfl
@[simp] theorem State.setFly_lmp (n : Nat) (x : Option FlySt) : (s.setFly n x).lmp = s.lmp := rfl
@[simp] theorem State.setFly_sig (n : Nat) (x : Option FlySt) : (s.setFly n x).sig = s.sig := rfl
@[simp] theorem State.setFly_cur (n : Nat) (x : Option FlySt) : (s.setFly n x).cur = s.cur := rfl
@[simp] theorem State.setFly_qb (n : Nat) (x : Option FlySt) : (s.setFly n x).qb = s.qb := rfl
@[simp] theorem State.setFly_net (n : Nat) (x : Option FlySt) : (s.setFly n x).net = s.net := rfl
@[simp] theorem State.setFly_line (n : Nat) (x : Option FlySt) : (s.setFly n x).line = s.line := rfl
@[simp] theorem State.setFly_tdm (n : Nat) (x : Option FlySt) : (s.setFly n x).tdm = s.tdm := rfl
@[simp] theorem State.setFly_mtr (n : Nat) (x : Option FlySt) : (s.setFly n x).mtr = s.mtr := rfl
@[simp] theorem State.setFly_flyTurn (n : Nat) (x : Option FlySt) : (s.setFly n x).flyTurn = s.flyTurn := rfl
@[simp] theorem State.setFly_sacnDue (n : Nat) (x : Option FlySt) : (s.setFly n x).sacnDue = s.sacnDue := rfl
@[simp] theorem State.setFly_off (n : Nat) (x : Option FlySt) : (s.setFly n x).off = s.off := rfl
@[simp] theorem State.setFly_inReset (n : Nat) (x : Option FlySt) : (s.setFly n x).inReset = s.inReset := rfl
@[simp] theorem State.setFly_pwr (n : Nat) (x : Option FlySt) : (s.setFly n x).pwr = s.pwr := rfl
@[simp] theorem State.setFly_boot (n : Nat) (x : Option FlySt) : (s.setFly n x).boot = s.boot := rfl
@[simp] theorem State.setFly_pbk (n : Nat) (x : Option FlySt) : (s.setFly n x).pbk = s.pbk := rfl
@[simp] theorem State.setFly_freeCtr (n : Nat) (x : Option FlySt) : (s.setFly n x).freeCtr = s.freeCtr := rfl
@[simp] theorem State.setFly_pending (n : Nat) (x : Option FlySt) : (s.setFly n x).pending = s.pending := rfl

/-! ### `setObj` -/

@[simp] theorem State.setObj_regs (i : Nat) (o : Obj) : (s.setObj i o).regs = s.regs := rfl
@[simp] theorem State.setObj_regLow (i : Nat) (o : Obj) : (s.setObj i o).regLow = s.regLow := rfl
@[simp] theorem State.setObj_regShadow (i : Nat) (o : Obj) : (s.setObj i o).regShadow = s.regShadow := rfl
@[simp] theorem State.setObj_sent (i : Nat) (o : Obj) : (s.setObj i o).sent = s.sent := rfl
@[simp] theorem State.setObj_evt (i : Nat) (o : Obj) : (s.setObj i o).evt = s.evt := rfl
@[simp] theorem State.setObj_host (i : Nat) (o : Obj) : (s.setObj i o).host = s.host := rfl
@[simp] theorem State.setObj_mem (i : Nat) (o : Obj) : (s.setObj i o).mem = s.mem := rfl
@[simp] theorem State.setObj_cfgAcc (i : Nat) (o : Obj) : (s.setObj i o).cfgAcc = s.cfgAcc := rfl
@[simp] theorem State.setObj_cfgApp (i : Nat) (o : Obj) : (s.setObj i o).cfgApp = s.cfgApp := rfl
@[simp] theorem State.setObj_cues (i : Nat) (o : Obj) : (s.setObj i o).cues = s.cues := rfl
@[simp] theorem State.setObj_frames (i : Nat) (o : Obj) : (s.setObj i o).frames = s.frames := rfl
@[simp] theorem State.setObj_gone (i : Nat) (o : Obj) : (s.setObj i o).gone = s.gone := rfl
@[simp] theorem State.setObj_time (i : Nat) (o : Obj) : (s.setObj i o).time = s.time := rfl
@[simp] theorem State.setObj_cb (i : Nat) (o : Obj) : (s.setObj i o).cb = s.cb := rfl
@[simp] theorem State.setObj_blk (i : Nat) (o : Obj) : (s.setObj i o).blk = s.blk := rfl
@[simp] theorem State.setObj_cmp (i : Nat) (o : Obj) : (s.setObj i o).cmp = s.cmp := rfl
@[simp] theorem State.setObj_fix (i : Nat) (o : Obj) : (s.setObj i o).fix = s.fix := rfl
@[simp] theorem State.setObj_links (i : Nat) (o : Obj) : (s.setObj i o).links = s.links := rfl
@[simp] theorem State.setObj_psh (i : Nat) (o : Obj) : (s.setObj i o).psh = s.psh := rfl
@[simp] theorem State.setObj_spt (i : Nat) (o : Obj) : (s.setObj i o).spt = s.spt := rfl
@[simp] theorem State.setObj_lmp (i : Nat) (o : Obj) : (s.setObj i o).lmp = s.lmp := rfl
@[simp] theorem State.setObj_sig (i : Nat) (o : Obj) : (s.setObj i o).sig = s.sig := rfl
@[simp] theorem State.setObj_cur (i : Nat) (o : Obj) : (s.setObj i o).cur = s.cur := rfl
@[simp] theorem State.setObj_qb (i : Nat) (o : Obj) : (s.setObj i o).qb = s.qb := rfl
@[simp] theorem State.setObj_fly (i : Nat) (o : Obj) : (s.setObj i o).fly = s.fly := rfl
@[simp] theorem State.setObj_net (i : Nat) (o : Obj) : (s.setObj i o).net = s.net := rfl
@[simp] theorem State.setObj_line (i : Nat) (o : Obj) : (s.setObj i o).line = s.line := rfl
@[simp] theorem State.setObj_tdm (i : Nat) (o : Obj) : (s.setObj i o).tdm = s.tdm := rfl
@[simp] theorem State.setObj_mtr (i : Nat) (o : Obj) : (s.setObj i o).mtr = s.mtr := rfl
@[simp] theorem State.setObj_flyTurn (i : Nat) (o : Obj) : (s.setObj i o).flyTurn = s.flyTurn := rfl
@[simp] theorem State.setObj_sacnDue (i : Nat) (o : Obj) : (s.setObj i o).sacnDue = s.sacnDue := rfl
@[simp] theorem State.setObj_off (i : Nat) (o : Obj) : (s.setObj i o).off = s.off := rfl
@[simp] theorem State.setObj_inReset (i : Nat) (o : Obj) : (s.setObj i o).inReset = s.inReset := rfl
@[simp] theorem State.setObj_pwr (i : Nat) (o : Obj) : (s.setObj i o).pwr = s.pwr := rfl
@[simp] theorem State.setObj_boot (i : Nat) (o : Obj) : (s.setObj i o).boot = s.boot := rfl
@[simp] theorem State.setObj_pbk (i : Nat) (o : Obj) : (s.setObj i o).pbk = s.pbk := rfl
@[simp] theorem State.setObj_freeCtr (i : Nat) (o : Obj) : (s.setObj i o).freeCtr = s.freeCtr := rfl
@[simp] theorem State.setObj_pending (i : Nat) (o : Obj) : (s.setObj i o).pending = s.pending := rfl

/-! ### `setShow` -/

@[simp] theorem State.setShow_regs (x : ShowSt) : (s.setShow x).regs = s.regs := rfl
@[simp] theorem State.setShow_regLow (x : ShowSt) : (s.setShow x).regLow = s.regLow := rfl
@[simp] theorem State.setShow_regShadow (x : ShowSt) : (s.setShow x).regShadow = s.regShadow := rfl
@[simp] theorem State.setShow_sent (x : ShowSt) : (s.setShow x).sent = s.sent := rfl
@[simp] theorem State.setShow_evt (x : ShowSt) : (s.setShow x).evt = s.evt := rfl
@[simp] theorem State.setShow_host (x : ShowSt) : (s.setShow x).host = s.host := rfl
@[simp] theorem State.setShow_mem (x : ShowSt) : (s.setShow x).mem = s.mem := rfl
@[simp] theorem State.setShow_obj (x : ShowSt) : (s.setShow x).obj = s.obj := rfl
@[simp] theorem State.setShow_cfgAcc (x : ShowSt) : (s.setShow x).cfgAcc = s.cfgAcc := rfl
@[simp] theorem State.setShow_cfgApp (x : ShowSt) : (s.setShow x).cfgApp = s.cfgApp := rfl
@[simp] theorem State.setShow_cues (x : ShowSt) : (s.setShow x).cues = s.cues := rfl
@[simp] theorem State.setShow_frames (x : ShowSt) : (s.setShow x).frames = s.frames := rfl
@[simp] theorem State.setShow_gone (x : ShowSt) : (s.setShow x).gone = s.gone := rfl
@[simp] theorem State.setShow_time (x : ShowSt) : (s.setShow x).time = { s.time with show_ := x } := rfl
@[simp] theorem State.setShow_cb (x : ShowSt) : (s.setShow x).cb = s.cb := rfl
@[simp] theorem State.setShow_blk (x : ShowSt) : (s.setShow x).blk = s.blk := rfl
@[simp] theorem State.setShow_cmp (x : ShowSt) : (s.setShow x).cmp = s.cmp := rfl
@[simp] theorem State.setShow_fix (x : ShowSt) : (s.setShow x).fix = s.fix := rfl
@[simp] theorem State.setShow_links (x : ShowSt) : (s.setShow x).links = s.links := rfl
@[simp] theorem State.setShow_psh (x : ShowSt) : (s.setShow x).psh = s.psh := rfl
@[simp] theorem State.setShow_spt (x : ShowSt) : (s.setShow x).spt = s.spt := rfl
@[simp] theorem State.setShow_lmp (x : ShowSt) : (s.setShow x).lmp = s.lmp := rfl
@[simp] theorem State.setShow_sig (x : ShowSt) : (s.setShow x).sig = s.sig := rfl
@[simp] theorem State.setShow_cur (x : ShowSt) : (s.setShow x).cur = s.cur := rfl
@[simp] theorem State.setShow_qb (x : ShowSt) : (s.setShow x).qb = s.qb := rfl
@[simp] theorem State.setShow_fly (x : ShowSt) : (s.setShow x).fly = s.fly := rfl
@[simp] theorem State.setShow_net (x : ShowSt) : (s.setShow x).net = s.net := rfl
@[simp] theorem State.setShow_line (x : ShowSt) : (s.setShow x).line = s.line := rfl
@[simp] theorem State.setShow_tdm (x : ShowSt) : (s.setShow x).tdm = s.tdm := rfl
@[simp] theorem State.setShow_mtr (x : ShowSt) : (s.setShow x).mtr = s.mtr := rfl
@[simp] theorem State.setShow_flyTurn (x : ShowSt) : (s.setShow x).flyTurn = s.flyTurn := rfl
@[simp] theorem State.setShow_sacnDue (x : ShowSt) : (s.setShow x).sacnDue = s.sacnDue := rfl
@[simp] theorem State.setShow_off (x : ShowSt) : (s.setShow x).off = s.off := rfl
@[simp] theorem State.setShow_inReset (x : ShowSt) : (s.setShow x).inReset = s.inReset := rfl
@[simp] theorem State.setShow_pwr (x : ShowSt) : (s.setShow x).pwr = s.pwr := rfl
@[simp] theorem State.setShow_boot (x : ShowSt) : (s.setShow x).boot = s.boot := rfl
@[simp] theorem State.setShow_pbk (x : ShowSt) : (s.setShow x).pbk = s.pbk := rfl
@[simp] theorem State.setShow_freeCtr (x : ShowSt) : (s.setShow x).freeCtr = s.freeCtr := rfl
@[simp] theorem State.setShow_pending (x : ShowSt) : (s.setShow x).pending = s.pending := rfl

/-! ### `setTdm` -/

@[simp] theorem State.setTdm_regs (x : TdmSt) : (s.setTdm x).regs = s.regs := rfl
@[simp] theorem State.setTdm_regLow (x : TdmSt) : (s.setTdm x).regLow = s.regLow := rfl
@[simp] theorem State.setTdm_regShadow (x : TdmSt) : (s.setTdm x).regShadow = s.regShadow := rfl
@[simp] theorem State.setTdm_sent (x : TdmSt) : (s.setTdm x).sent = s.sent := rfl
@[simp] theorem State.setTdm_evt (x : TdmSt) : (s.setTdm x).evt = s.evt := rfl
@[simp] theorem State.setTdm_host (x : TdmSt) : (s.setTdm x).host = s.host := rfl
@[simp] theorem State.setTdm_mem (x : TdmSt) : (s.setTdm x).mem = s.mem := rfl
@[simp] theorem State.setTdm_obj (x : TdmSt) : (s.setTdm x).obj = s.obj := rfl
@[simp] theorem State.setTdm_cfgAcc (x : TdmSt) : (s.setTdm x).cfgAcc = s.cfgAcc := rfl
@[simp] theorem State.setTdm_cfgApp (x : TdmSt) : (s.setTdm x).cfgApp = s.cfgApp := rfl
@[simp] theorem State.setTdm_cues (x : TdmSt) : (s.setTdm x).cues = s.cues := rfl
@[simp] theorem State.setTdm_frames (x : TdmSt) : (s.setTdm x).frames = s.frames := rfl
@[simp] theorem State.setTdm_gone (x : TdmSt) : (s.setTdm x).gone = s.gone := rfl
@[simp] theorem State.setTdm_time (x : TdmSt) : (s.setTdm x).time = s.time := rfl
@[simp] theorem State.setTdm_cb (x : TdmSt) : (s.setTdm x).cb = s.cb := rfl
@[simp] theorem State.setTdm_blk (x : TdmSt) : (s.setTdm x).blk = s.blk := rfl
@[simp] theorem State.setTdm_cmp (x : TdmSt) : (s.setTdm x).cmp = s.cmp := rfl
@[simp] theorem State.setTdm_fix (x : TdmSt) : (s.setTdm x).fix = s.fix := rfl
@[simp] theorem State.setTdm_links (x : TdmSt) : (s.setTdm x).links = s.links := rfl
@[simp] theorem State.setTdm_psh (x : TdmSt) : (s.setTdm x).psh = s.psh := rfl
@[simp] theorem State.setTdm_spt (x : TdmSt) : (s.setTdm x).spt = s.spt := rfl
@[simp] theorem State.setTdm_lmp (x : TdmSt) : (s.setTdm x).lmp = s.lmp := rfl
@[simp] theorem State.setTdm_sig (x : TdmSt) : (s.setTdm x).sig = s.sig := rfl
@[simp] theorem State.setTdm_cur (x : TdmSt) : (s.setTdm x).cur = s.cur := rfl
@[simp] theorem State.setTdm_qb (x : TdmSt) : (s.setTdm x).qb = s.qb := rfl
@[simp] theorem State.setTdm_fly (x : TdmSt) : (s.setTdm x).fly = s.fly := rfl
@[simp] theorem State.setTdm_net (x : TdmSt) : (s.setTdm x).net = s.net := rfl
@[simp] theorem State.setTdm_line (x : TdmSt) : (s.setTdm x).line = s.line := rfl
@[simp] theorem State.setTdm_tdm (x : TdmSt) : (s.setTdm x).tdm = x := rfl
@[simp] theorem State.setTdm_mtr (x : TdmSt) : (s.setTdm x).mtr = s.mtr := rfl
@[simp] theorem State.setTdm_flyTurn (x : TdmSt) : (s.setTdm x).flyTurn = s.flyTurn := rfl
@[simp] theorem State.setTdm_sacnDue (x : TdmSt) : (s.setTdm x).sacnDue = s.sacnDue := rfl
@[simp] theorem State.setTdm_off (x : TdmSt) : (s.setTdm x).off = s.off := rfl
@[simp] theorem State.setTdm_inReset (x : TdmSt) : (s.setTdm x).inReset = s.inReset := rfl
@[simp] theorem State.setTdm_pwr (x : TdmSt) : (s.setTdm x).pwr = s.pwr := rfl
@[simp] theorem State.setTdm_boot (x : TdmSt) : (s.setTdm x).boot = s.boot := rfl
@[simp] theorem State.setTdm_pbk (x : TdmSt) : (s.setTdm x).pbk = s.pbk := rfl
@[simp] theorem State.setTdm_freeCtr (x : TdmSt) : (s.setTdm x).freeCtr = s.freeCtr := rfl
@[simp] theorem State.setTdm_pending (x : TdmSt) : (s.setTdm x).pending = s.pending := rfl

/-! ### `setMtr` -/

@[simp] theorem State.setMtr_regs (x : MtrSt) : (s.setMtr x).regs = s.regs := rfl
@[simp] theorem State.setMtr_regLow (x : MtrSt) : (s.setMtr x).regLow = s.regLow := rfl
@[simp] theorem State.setMtr_regShadow (x : MtrSt) : (s.setMtr x).regShadow = s.regShadow := rfl
@[simp] theorem State.setMtr_sent (x : MtrSt) : (s.setMtr x).sent = s.sent := rfl
@[simp] theorem State.setMtr_evt (x : MtrSt) : (s.setMtr x).evt = s.evt := rfl
@[simp] theorem State.setMtr_host (x : MtrSt) : (s.setMtr x).host = s.host := rfl
@[simp] theorem State.setMtr_mem (x : MtrSt) : (s.setMtr x).mem = s.mem := rfl
@[simp] theorem State.setMtr_obj (x : MtrSt) : (s.setMtr x).obj = s.obj := rfl
@[simp] theorem State.setMtr_cfgAcc (x : MtrSt) : (s.setMtr x).cfgAcc = s.cfgAcc := rfl
@[simp] theorem State.setMtr_cfgApp (x : MtrSt) : (s.setMtr x).cfgApp = s.cfgApp := rfl
@[simp] theorem State.setMtr_cues (x : MtrSt) : (s.setMtr x).cues = s.cues := rfl
@[simp] theorem State.setMtr_frames (x : MtrSt) : (s.setMtr x).frames = s.frames := rfl
@[simp] theorem State.setMtr_gone (x : MtrSt) : (s.setMtr x).gone = s.gone := rfl
@[simp] theorem State.setMtr_time (x : MtrSt) : (s.setMtr x).time = s.time := rfl
@[simp] theorem State.setMtr_cb (x : MtrSt) : (s.setMtr x).cb = s.cb := rfl
@[simp] theorem State.setMtr_blk (x : MtrSt) : (s.setMtr x).blk = s.blk := rfl
@[simp] theorem State.setMtr_cmp (x : MtrSt) : (s.setMtr x).cmp = s.cmp := rfl
@[simp] theorem State.setMtr_fix (x : MtrSt) : (s.setMtr x).fix = s.fix := rfl
@[simp] theorem State.setMtr_links (x : MtrSt) : (s.setMtr x).links = s.links := rfl
@[simp] theorem State.setMtr_psh (x : MtrSt) : (s.setMtr x).psh = s.psh := rfl
@[simp] theorem State.setMtr_spt (x : MtrSt) : (s.setMtr x).spt = s.spt := rfl
@[simp] theorem State.setMtr_lmp (x : MtrSt) : (s.setMtr x).lmp = s.lmp := rfl
@[simp] theorem State.setMtr_sig (x : MtrSt) : (s.setMtr x).sig = s.sig := rfl
@[simp] theorem State.setMtr_cur (x : MtrSt) : (s.setMtr x).cur = s.cur := rfl
@[simp] theorem State.setMtr_qb (x : MtrSt) : (s.setMtr x).qb = s.qb := rfl
@[simp] theorem State.setMtr_fly (x : MtrSt) : (s.setMtr x).fly = s.fly := rfl
@[simp] theorem State.setMtr_net (x : MtrSt) : (s.setMtr x).net = s.net := rfl
@[simp] theorem State.setMtr_line (x : MtrSt) : (s.setMtr x).line = s.line := rfl
@[simp] theorem State.setMtr_tdm (x : MtrSt) : (s.setMtr x).tdm = s.tdm := rfl
@[simp] theorem State.setMtr_mtr (x : MtrSt) : (s.setMtr x).mtr = x := rfl
@[simp] theorem State.setMtr_flyTurn (x : MtrSt) : (s.setMtr x).flyTurn = s.flyTurn := rfl
@[simp] theorem State.setMtr_sacnDue (x : MtrSt) : (s.setMtr x).sacnDue = s.sacnDue := rfl
@[simp] theorem State.setMtr_off (x : MtrSt) : (s.setMtr x).off = s.off := rfl
@[simp] theorem State.setMtr_inReset (x : MtrSt) : (s.setMtr x).inReset = s.inReset := rfl
@[simp] theorem State.setMtr_pwr (x : MtrSt) : (s.setMtr x).pwr = s.pwr := rfl
@[simp] theorem State.setMtr_boot (x : MtrSt) : (s.setMtr x).boot = s.boot := rfl
@[simp] theorem State.setMtr_pbk (x : MtrSt) : (s.setMtr x).pbk = s.pbk := rfl
@[simp] theorem State.setMtr_freeCtr (x : MtrSt) : (s.setMtr x).freeCtr = s.freeCtr := rfl
@[simp] theorem State.setMtr_pending (x : MtrSt) : (s.setMtr x).pending = s.pending := rfl

/-! ### `setPwr` -/

@[simp] theorem State.setPwr_regs (x : PwrSt) : (s.setPwr x).regs = s.regs := rfl
@[simp] theorem State.setPwr_regLow (x : PwrSt) : (s.setPwr x).regLow = s.regLow := rfl
@[simp] theorem State.setPwr_regShadow (x : PwrSt) : (s.setPwr x).regShadow = s.regShadow := rfl
@[simp] theorem State.setPwr_sent (x : PwrSt) : (s.setPwr x).sent = s.sent := rfl
@[simp] theorem State.setPwr_evt (x : PwrSt) : (s.setPwr x).evt = s.evt := rfl
@[simp] theorem State.setPwr_host (x : PwrSt) : (s.setPwr x).host = s.host := rfl
@[simp] theorem State.setPwr_mem (x : PwrSt) : (s.setPwr x).mem = s.mem := rfl
@[simp] theorem State.setPwr_obj (x : PwrSt) : (s.setPwr x).obj = s.obj := rfl
@[simp] theorem State.setPwr_cfgAcc (x : PwrSt) : (s.setPwr x).cfgAcc = s.cfgAcc := rfl
@[simp] theorem State.setPwr_cfgApp (x : PwrSt) : (s.setPwr x).cfgApp = s.cfgApp := rfl
@[simp] theorem State.setPwr_cues (x : PwrSt) : (s.setPwr x).cues = s.cues := rfl
@[simp] theorem State.setPwr_frames (x : PwrSt) : (s.setPwr x).frames = s.frames := rfl
@[simp] theorem State.setPwr_gone (x : PwrSt) : (s.setPwr x).gone = s.gone := rfl
@[simp] theorem State.setPwr_time (x : PwrSt) : (s.setPwr x).time = s.time := rfl
@[simp] theorem State.setPwr_cb (x : PwrSt) : (s.setPwr x).cb = s.cb := rfl
@[simp] theorem State.setPwr_blk (x : PwrSt) : (s.setPwr x).blk = s.blk := rfl
@[simp] theorem State.setPwr_cmp (x : PwrSt) : (s.setPwr x).cmp = s.cmp := rfl
@[simp] theorem State.setPwr_fix (x : PwrSt) : (s.setPwr x).fix = s.fix := rfl
@[simp] theorem State.setPwr_links (x : PwrSt) : (s.setPwr x).links = s.links := rfl
@[simp] theorem State.setPwr_psh (x : PwrSt) : (s.setPwr x).psh = s.psh := rfl
@[simp] theorem State.setPwr_spt (x : PwrSt) : (s.setPwr x).spt = s.spt := rfl
@[simp] theorem State.setPwr_lmp (x : PwrSt) : (s.setPwr x).lmp = s.lmp := rfl
@[simp] theorem State.setPwr_sig (x : PwrSt) : (s.setPwr x).sig = s.sig := rfl
@[simp] theorem State.setPwr_cur (x : PwrSt) : (s.setPwr x).cur = s.cur := rfl
@[simp] theorem State.setPwr_qb (x : PwrSt) : (s.setPwr x).qb = s.qb := rfl
@[simp] theorem State.setPwr_fly (x : PwrSt) : (s.setPwr x).fly = s.fly := rfl
@[simp] theorem State.setPwr_net (x : PwrSt) : (s.setPwr x).net = s.net := rfl
@[simp] theorem State.setPwr_line (x : PwrSt) : (s.setPwr x).line = s.line := rfl
@[simp] theorem State.setPwr_tdm (x : PwrSt) : (s.setPwr x).tdm = s.tdm := rfl
@[simp] theorem State.setPwr_mtr (x : PwrSt) : (s.setPwr x).mtr = s.mtr := rfl
@[simp] theorem State.setPwr_flyTurn (x : PwrSt) : (s.setPwr x).flyTurn = s.flyTurn := rfl
@[simp] theorem State.setPwr_sacnDue (x : PwrSt) : (s.setPwr x).sacnDue = s.sacnDue := rfl
@[simp] theorem State.setPwr_off (x : PwrSt) : (s.setPwr x).off = s.off := rfl
@[simp] theorem State.setPwr_inReset (x : PwrSt) : (s.setPwr x).inReset = s.inReset := rfl
@[simp] theorem State.setPwr_pwr (x : PwrSt) : (s.setPwr x).pwr = x := rfl
@[simp] theorem State.setPwr_boot (x : PwrSt) : (s.setPwr x).boot = s.boot := rfl
@[simp] theorem State.setPwr_pbk (x : PwrSt) : (s.setPwr x).pbk = s.pbk := rfl
@[simp] theorem State.setPwr_freeCtr (x : PwrSt) : (s.setPwr x).freeCtr = s.freeCtr := rfl
@[simp] theorem State.setPwr_pending (x : PwrSt) : (s.setPwr x).pending = s.pending := rfl

/-! ### `setBoot` -/

@[simp] theorem State.setBoot_regs (x : BootSt) : (s.setBoot x).regs = s.regs := rfl
@[simp] theorem State.setBoot_regLow (x : BootSt) : (s.setBoot x).regLow = s.regLow := rfl
@[simp] theorem State.setBoot_regShadow (x : BootSt) : (s.setBoot x).regShadow = s.regShadow := rfl
@[simp] theorem State.setBoot_sent (x : BootSt) : (s.setBoot x).sent = s.sent := rfl
@[simp] theorem State.setBoot_evt (x : BootSt) : (s.setBoot x).evt = s.evt := rfl
@[simp] theorem State.setBoot_host (x : BootSt) : (s.setBoot x).host = s.host := rfl
@[simp] theorem State.setBoot_mem (x : BootSt) : (s.setBoot x).mem = s.mem := rfl
@[simp] theorem State.setBoot_obj (x : BootSt) : (s.setBoot x).obj = s.obj := rfl
@[simp] theorem State.setBoot_cfgAcc (x : BootSt) : (s.setBoot x).cfgAcc = s.cfgAcc := rfl
@[simp] theorem State.setBoot_cfgApp (x : BootSt) : (s.setBoot x).cfgApp = s.cfgApp := rfl
@[simp] theorem State.setBoot_cues (x : BootSt) : (s.setBoot x).cues = s.cues := rfl
@[simp] theorem State.setBoot_frames (x : BootSt) : (s.setBoot x).frames = s.frames := rfl
@[simp] theorem State.setBoot_gone (x : BootSt) : (s.setBoot x).gone = s.gone := rfl
@[simp] theorem State.setBoot_time (x : BootSt) : (s.setBoot x).time = s.time := rfl
@[simp] theorem State.setBoot_cb (x : BootSt) : (s.setBoot x).cb = s.cb := rfl
@[simp] theorem State.setBoot_blk (x : BootSt) : (s.setBoot x).blk = s.blk := rfl
@[simp] theorem State.setBoot_cmp (x : BootSt) : (s.setBoot x).cmp = s.cmp := rfl
@[simp] theorem State.setBoot_fix (x : BootSt) : (s.setBoot x).fix = s.fix := rfl
@[simp] theorem State.setBoot_links (x : BootSt) : (s.setBoot x).links = s.links := rfl
@[simp] theorem State.setBoot_psh (x : BootSt) : (s.setBoot x).psh = s.psh := rfl
@[simp] theorem State.setBoot_spt (x : BootSt) : (s.setBoot x).spt = s.spt := rfl
@[simp] theorem State.setBoot_lmp (x : BootSt) : (s.setBoot x).lmp = s.lmp := rfl
@[simp] theorem State.setBoot_sig (x : BootSt) : (s.setBoot x).sig = s.sig := rfl
@[simp] theorem State.setBoot_cur (x : BootSt) : (s.setBoot x).cur = s.cur := rfl
@[simp] theorem State.setBoot_qb (x : BootSt) : (s.setBoot x).qb = s.qb := rfl
@[simp] theorem State.setBoot_fly (x : BootSt) : (s.setBoot x).fly = s.fly := rfl
@[simp] theorem State.setBoot_net (x : BootSt) : (s.setBoot x).net = s.net := rfl
@[simp] theorem State.setBoot_line (x : BootSt) : (s.setBoot x).line = s.line := rfl
@[simp] theorem State.setBoot_tdm (x : BootSt) : (s.setBoot x).tdm = s.tdm := rfl
@[simp] theorem State.setBoot_mtr (x : BootSt) : (s.setBoot x).mtr = s.mtr := rfl
@[simp] theorem State.setBoot_flyTurn (x : BootSt) : (s.setBoot x).flyTurn = s.flyTurn := rfl
@[simp] theorem State.setBoot_sacnDue (x : BootSt) : (s.setBoot x).sacnDue = s.sacnDue := rfl
@[simp] theorem State.setBoot_off (x : BootSt) : (s.setBoot x).off = s.off := rfl
@[simp] theorem State.setBoot_inReset (x : BootSt) : (s.setBoot x).inReset = s.inReset := rfl
@[simp] theorem State.setBoot_pwr (x : BootSt) : (s.setBoot x).pwr = s.pwr := rfl
@[simp] theorem State.setBoot_boot (x : BootSt) : (s.setBoot x).boot = x := rfl
@[simp] theorem State.setBoot_pbk (x : BootSt) : (s.setBoot x).pbk = s.pbk := rfl
@[simp] theorem State.setBoot_freeCtr (x : BootSt) : (s.setBoot x).freeCtr = s.freeCtr := rfl
@[simp] theorem State.setBoot_pending (x : BootSt) : (s.setBoot x).pending = s.pending := rfl

/-! ### `setEvt` -/

@[simp] theorem State.setEvt_regs (x : EvtSt) : (s.setEvt x).regs = s.regs := rfl
@[simp] theorem State.setEvt_regLow (x : EvtSt) : (s.setEvt x).regLow = s.regLow := rfl
@[simp] theorem State.setEvt_regShadow (x : EvtSt) : (s.setEvt x).regShadow = s.regShadow := rfl
@[simp] theorem State.setEvt_sent (x : EvtSt) : (s.setEvt x).sent = s.sent := rfl
@[simp] theorem State.setEvt_evt (x : EvtSt) : (s.setEvt x).evt = x := rfl
@[simp] theorem State.setEvt_host (x : EvtSt) : (s.setEvt x).host = s.host := rfl
@[simp] theorem State.setEvt_mem (x : EvtSt) : (s.setEvt x).mem = s.mem := rfl
@[simp] theorem State.setEvt_obj (x : EvtSt) : (s.setEvt x).obj = s.obj := rfl
@[simp] theorem State.setEvt_cfgAcc (x : EvtSt) : (s.setEvt x).cfgAcc = s.cfgAcc := rfl
@[simp] theorem State.setEvt_cfgApp (x : EvtSt) : (s.setEvt x).cfgApp = s.cfgApp := rfl
@[simp] theorem State.setEvt_cues (x : EvtSt) : (s.setEvt x).cues = s.cues := rfl
@[simp] theorem State.setEvt_frames (x : EvtSt) : (s.setEvt x).frames = s.frames := rfl
@[simp] theorem State.setEvt_gone (x : EvtSt) : (s.setEvt x).gone = s.gone := rfl
@[simp] theorem State.setEvt_time (x : EvtSt) : (s.setEvt x).time = s.time := rfl
@[simp] theorem State.setEvt_cb (x : EvtSt) : (s.setEvt x).cb = s.cb := rfl
@[simp] theorem State.setEvt_blk (x : EvtSt) : (s.setEvt x).blk = s.blk := rfl
@[simp] theorem State.setEvt_cmp (x : EvtSt) : (s.setEvt x).cmp = s.cmp := rfl
@[simp] theorem State.setEvt_fix (x : EvtSt) : (s.setEvt x).fix = s.fix := rfl
@[simp] theorem State.setEvt_links (x : EvtSt) : (s.setEvt x).links = s.links := rfl
@[simp] theorem State.setEvt_psh (x : EvtSt) : (s.setEvt x).psh = s.psh := rfl
@[simp] theorem State.setEvt_spt (x : EvtSt) : (s.setEvt x).spt = s.spt := rfl
@[simp] theorem State.setEvt_lmp (x : EvtSt) : (s.setEvt x).lmp = s.lmp := rfl
@[simp] theorem State.setEvt_sig (x : EvtSt) : (s.setEvt x).sig = s.sig := rfl
@[simp] theorem State.setEvt_cur (x : EvtSt) : (s.setEvt x).cur = s.cur := rfl
@[simp] theorem State.setEvt_qb (x : EvtSt) : (s.setEvt x).qb = s.qb := rfl
@[simp] theorem State.setEvt_fly (x : EvtSt) : (s.setEvt x).fly = s.fly := rfl
@[simp] theorem State.setEvt_net (x : EvtSt) : (s.setEvt x).net = s.net := rfl
@[simp] theorem State.setEvt_line (x : EvtSt) : (s.setEvt x).line = s.line := rfl
@[simp] theorem State.setEvt_tdm (x : EvtSt) : (s.setEvt x).tdm = s.tdm := rfl
@[simp] theorem State.setEvt_mtr (x : EvtSt) : (s.setEvt x).mtr = s.mtr := rfl
@[simp] theorem State.setEvt_flyTurn (x : EvtSt) : (s.setEvt x).flyTurn = s.flyTurn := rfl
@[simp] theorem State.setEvt_sacnDue (x : EvtSt) : (s.setEvt x).sacnDue = s.sacnDue := rfl
@[simp] theorem State.setEvt_off (x : EvtSt) : (s.setEvt x).off = s.off := rfl
@[simp] theorem State.setEvt_inReset (x : EvtSt) : (s.setEvt x).inReset = s.inReset := rfl
@[simp] theorem State.setEvt_pwr (x : EvtSt) : (s.setEvt x).pwr = s.pwr := rfl
@[simp] theorem State.setEvt_boot (x : EvtSt) : (s.setEvt x).boot = s.boot := rfl
@[simp] theorem State.setEvt_pbk (x : EvtSt) : (s.setEvt x).pbk = s.pbk := rfl
@[simp] theorem State.setEvt_freeCtr (x : EvtSt) : (s.setEvt x).freeCtr = s.freeCtr := rfl
@[simp] theorem State.setEvt_pending (x : EvtSt) : (s.setEvt x).pending = s.pending := rfl

/-! ### `setPbk` -/

@[simp] theorem State.setPbk_regs (x : PbkSt) : (s.setPbk x).regs = s.regs := rfl
@[simp] theorem State.setPbk_regLow (x : PbkSt) : (s.setPbk x).regLow = s.regLow := rfl
@[simp] theorem State.setPbk_regShadow (x : PbkSt) : (s.setPbk x).regShadow = s.regShadow := rfl
@[simp] theorem State.setPbk_sent (x : PbkSt) : (s.setPbk x).sent = s.sent := rfl
@[simp] theorem State.setPbk_evt (x : PbkSt) : (s.setPbk x).evt = s.evt := rfl
@[simp] theorem State.setPbk_host (x : PbkSt) : (s.setPbk x).host = s.host := rfl
@[simp] theorem State.setPbk_mem (x : PbkSt) : (s.setPbk x).mem = s.mem := rfl
@[simp] theorem State.setPbk_obj (x : PbkSt) : (s.setPbk x).obj = s.obj := rfl
@[simp] theorem State.setPbk_cfgAcc (x : PbkSt) : (s.setPbk x).cfgAcc = s.cfgAcc := rfl
@[simp] theorem State.setPbk_cfgApp (x : PbkSt) : (s.setPbk x).cfgApp = s.cfgApp := rfl
@[simp] theorem State.setPbk_cues (x : PbkSt) : (s.setPbk x).cues = s.cues := rfl
@[simp] theorem State.setPbk_frames (x : PbkSt) : (s.setPbk x).frames = s.frames := rfl
@[simp] theorem State.setPbk_gone (x : PbkSt) : (s.setPbk x).gone = s.gone := rfl
@[simp] theorem State.setPbk_time (x : PbkSt) : (s.setPbk x).time = s.time := rfl
@[simp] theorem State.setPbk_cb (x : PbkSt) : (s.setPbk x).cb = s.cb := rfl
@[simp] theorem State.setPbk_blk (x : PbkSt) : (s.setPbk x).blk = s.blk := rfl
@[simp] theorem State.setPbk_cmp (x : PbkSt) : (s.setPbk x).cmp = s.cmp := rfl
@[simp] theorem State.setPbk_fix (x : PbkSt) : (s.setPbk x).fix = s.fix := rfl
@[simp] theorem State.setPbk_links (x : PbkSt) : (s.setPbk x).links = s.links := rfl
@[simp] theorem State.setPbk_psh (x : PbkSt) : (s.setPbk x).psh = s.psh := rfl
@[simp] theorem State.setPbk_spt (x : PbkSt) : (s.setPbk x).spt = s.spt := rfl
@[simp] theorem State.setPbk_lmp (x : PbkSt) : (s.setPbk x).lmp = s.lmp := rfl
@[simp] theorem State.setPbk_sig (x : PbkSt) : (s.setPbk x).sig = s.sig := rfl
@[simp] theorem State.setPbk_cur (x : PbkSt) : (s.setPbk x).cur = s.cur := rfl
@[simp] theorem State.setPbk_qb (x : PbkSt) : (s.setPbk x).qb = s.qb := rfl
@[simp] theorem State.setPbk_fly (x : PbkSt) : (s.setPbk x).fly = s.fly := rfl
@[simp] theorem State.setPbk_net (x : PbkSt) : (s.setPbk x).net = s.net := rfl
@[simp] theorem State.setPbk_line (x : PbkSt) : (s.setPbk x).line = s.line := rfl
@[simp] theorem State.setPbk_tdm (x : PbkSt) : (s.setPbk x).tdm = s.tdm := rfl
@[simp] theorem State.setPbk_mtr (x : PbkSt) : (s.setPbk x).mtr = s.mtr := rfl
@[simp] theorem State.setPbk_flyTurn (x : PbkSt) : (s.setPbk x).flyTurn = s.flyTurn := rfl
@[simp] theorem State.setPbk_sacnDue (x : PbkSt) : (s.setPbk x).sacnDue = s.sacnDue := rfl
@[simp] theorem State.setPbk_off (x : PbkSt) : (s.setPbk x).off = s.off := rfl
@[simp] theorem State.setPbk_inReset (x : PbkSt) : (s.setPbk x).inReset = s.inReset := rfl
@[simp] theorem State.setPbk_pwr (x : PbkSt) : (s.setPbk x).pwr = s.pwr := rfl
@[simp] theorem State.setPbk_boot (x : PbkSt) : (s.setPbk x).boot = s.boot := rfl
@[simp] theorem State.setPbk_pbk (x : PbkSt) : (s.setPbk x).pbk = x := rfl
@[simp] theorem State.setPbk_freeCtr (x : PbkSt) : (s.setPbk x).freeCtr = s.freeCtr := rfl
@[simp] theorem State.setPbk_pending (x : PbkSt) : (s.setPbk x).pending = s.pending := rfl

/-! ### `setCur` -/

@[simp] theorem State.setCur_regs (x : CurSt) : (s.setCur x).regs = s.regs := rfl
@[simp] theorem State.setCur_regLow (x : CurSt) : (s.setCur x).regLow = s.regLow := rfl
@[simp] theorem State.setCur_regShadow (x : CurSt) : (s.setCur x).regShadow = s.regShadow := rfl
@[simp] theorem State.setCur_sent (x : CurSt) : (s.setCur x).sent = s.sent := rfl
@[simp] theorem State.setCur_evt (x : CurSt) : (s.setCur x).evt = s.evt := rfl
@[simp] theorem State.setCur_host (x : CurSt) : (s.setCur x).host = s.host := rfl
@[simp] theorem State.setCur_mem (x : CurSt) : (s.setCur x).mem = s.mem := rfl
@[simp] theorem State.setCur_obj (x : CurSt) : (s.setCur x).obj = s.obj := rfl
@[simp] theorem State.setCur_cfgAcc (x : CurSt) : (s.setCur x).cfgAcc = s.cfgAcc := rfl
@[simp] theorem State.setCur_cfgApp (x : CurSt) : (s.setCur x).cfgApp = s.cfgApp := rfl
@[simp] theorem State.setCur_cues (x : CurSt) : (s.setCur x).cues = s.cues := rfl
@[simp] theorem State.setCur_frames (x : CurSt) : (s.setCur x).frames = s.frames := rfl
@[simp] theorem State.setCur_gone (x : CurSt) : (s.setCur x).gone = s.gone := rfl
@[simp] theorem State.setCur_time (x : CurSt) : (s.setCur x).time = s.time := rfl
@[simp] theorem State.setCur_cb (x : CurSt) : (s.setCur x).cb = s.cb := rfl
@[simp] theorem State.setCur_blk (x : CurSt) : (s.setCur x).blk = s.blk := rfl
@[simp] theorem State.setCur_cmp (x : CurSt) : (s.setCur x).cmp = s.cmp := rfl
@[simp] theorem State.setCur_fix (x : CurSt) : (s.setCur x).fix = s.fix := rfl
@[simp] theorem State.setCur_links (x : CurSt) : (s.setCur x).links = s.links := rfl
@[simp] theorem State.setCur_psh (x : CurSt) : (s.setCur x).psh = s.psh := rfl
@[simp] theorem State.setCur_spt (x : CurSt) : (s.setCur x).spt = s.spt := rfl
@[simp] theorem State.setCur_lmp (x : CurSt) : (s.setCur x).lmp = s.lmp := rfl
@[simp] theorem State.setCur_sig (x : CurSt) : (s.setCur x).sig = s.sig := rfl
@[simp] theorem State.setCur_cur (x : CurSt) : (s.setCur x).cur = x := rfl
@[simp] theorem State.setCur_qb (x : CurSt) : (s.setCur x).qb = s.qb := rfl
@[simp] theorem State.setCur_fly (x : CurSt) : (s.setCur x).fly = s.fly := rfl
@[simp] theorem State.setCur_net (x : CurSt) : (s.setCur x).net = s.net := rfl
@[simp] theorem State.setCur_line (x : CurSt) : (s.setCur x).line = s.line := rfl
@[simp] theorem State.setCur_tdm (x : CurSt) : (s.setCur x).tdm = s.tdm := rfl
@[simp] theorem State.setCur_mtr (x : CurSt) : (s.setCur x).mtr = s.mtr := rfl
@[simp] theorem State.setCur_flyTurn (x : CurSt) : (s.setCur x).flyTurn = s.flyTurn := rfl
@[simp] theorem State.setCur_sacnDue (x : CurSt) : (s.setCur x).sacnDue = s.sacnDue := rfl
@[simp] theorem State.setCur_off (x : CurSt) : (s.setCur x).off = s.off := rfl
@[simp] theorem State.setCur_inReset (x : CurSt) : (s.setCur x).inReset = s.inReset := rfl
@[simp] theorem State.setCur_pwr (x : CurSt) : (s.setCur x).pwr = s.pwr := rfl
@[simp] theorem State.setCur_boot (x : CurSt) : (s.setCur x).boot = s.boot := rfl
@[simp] theorem State.setCur_pbk (x : CurSt) : (s.setCur x).pbk = s.pbk := rfl
@[simp] theorem State.setCur_freeCtr (x : CurSt) : (s.setCur x).freeCtr = s.freeCtr := rfl
@[simp] theorem State.setCur_pending (x : CurSt) : (s.setCur x).pending = s.pending := rfl

/-! ### `settle` -/

@[simp] theorem State.settle_regs (t : State) : (s.settle t).regs = t.regs := rfl
@[simp] theorem State.settle_regLow (t : State) : (s.settle t).regLow = t.regLow := rfl
@[simp] theorem State.settle_regShadow (t : State) : (s.settle t).regShadow = t.regShadow := rfl
@[simp] theorem State.settle_sent (t : State) : (s.settle t).sent = t.sent := rfl
@[simp] theorem State.settle_evt (t : State) : (s.settle t).evt = t.evt := rfl
@[simp] theorem State.settle_host (t : State) : (s.settle t).host = t.host := rfl
@[simp] theorem State.settle_mem (t : State) : (s.settle t).mem = t.mem := rfl
@[simp] theorem State.settle_obj (t : State) : (s.settle t).obj = t.obj := rfl
@[simp] theorem State.settle_cfgAcc (t : State) : (s.settle t).cfgAcc = t.cfgAcc := rfl
@[simp] theorem State.settle_cfgApp (t : State) : (s.settle t).cfgApp = t.cfgApp := rfl
@[simp] theorem State.settle_cues (t : State) : (s.settle t).cues = t.cues := rfl
@[simp] theorem State.settle_frames (t : State) : (s.settle t).frames = t.frames := rfl
@[simp] theorem State.settle_time (t : State) : (s.settle t).time =
    { t.time with house := s.time.house, rtc := s.time.rtc, rtcFrac := s.time.rtcFrac } := rfl
@[simp] theorem State.settle_cb (t : State) : (s.settle t).cb = t.cb := rfl
@[simp] theorem State.settle_blk (t : State) : (s.settle t).blk = t.blk := rfl
@[simp] theorem State.settle_cmp (t : State) : (s.settle t).cmp = t.cmp := rfl
@[simp] theorem State.settle_fix (t : State) : (s.settle t).fix = t.fix := rfl
@[simp] theorem State.settle_links (t : State) : (s.settle t).links = t.links := rfl
@[simp] theorem State.settle_psh (t : State) : (s.settle t).psh = t.psh := rfl
@[simp] theorem State.settle_spt (t : State) : (s.settle t).spt = t.spt := rfl
@[simp] theorem State.settle_lmp (t : State) : (s.settle t).lmp = t.lmp := rfl
@[simp] theorem State.settle_sig (t : State) : (s.settle t).sig = t.sig := rfl
@[simp] theorem State.settle_cur (t : State) : (s.settle t).cur = t.cur := rfl
@[simp] theorem State.settle_qb (t : State) : (s.settle t).qb = t.qb := rfl
@[simp] theorem State.settle_fly (t : State) : (s.settle t).fly = t.fly := rfl
@[simp] theorem State.settle_net (t : State) : (s.settle t).net = t.net := rfl
@[simp] theorem State.settle_line (t : State) : (s.settle t).line = t.line := rfl
@[simp] theorem State.settle_tdm (t : State) : (s.settle t).tdm = t.tdm := rfl
@[simp] theorem State.settle_mtr (t : State) : (s.settle t).mtr = t.mtr := rfl
@[simp] theorem State.settle_flyTurn (t : State) : (s.settle t).flyTurn = t.flyTurn := rfl
@[simp] theorem State.settle_sacnDue (t : State) : (s.settle t).sacnDue = t.sacnDue := rfl
@[simp] theorem State.settle_off (t : State) : (s.settle t).off = t.off := rfl
@[simp] theorem State.settle_inReset (t : State) : (s.settle t).inReset = t.inReset := rfl
@[simp] theorem State.settle_pwr (t : State) : (s.settle t).pwr = t.pwr := rfl
@[simp] theorem State.settle_boot (t : State) : (s.settle t).boot = t.boot := rfl
@[simp] theorem State.settle_pbk (t : State) : (s.settle t).pbk = t.pbk := rfl
@[simp] theorem State.settle_freeCtr (t : State) : (s.settle t).freeCtr = t.freeCtr := rfl
@[simp] theorem State.settle_pending (t : State) : (s.settle t).pending = s.pending := rfl

end Sys2Proof.Machine
end

