-- ==== Sys2Proof/Laws/Ops.lean ====
section
/-! SUPPORT. What each shared operation can do, said once: answers, registers and fields, events, memory. -/

namespace Sys2Proof.Machine

variable (s : State)

/-! ### Answers -/

theorem answers_next {t : State} {p : State → Prop} (h : p t) : Answers (.next t) p := ⟨t, rfl, h⟩

@[simp] theorem answers_done (t : State) (p : State → Prop) : Answers (s.done t) p ↔ p (s.settle t) := by
  constructor
  · rintro ⟨u, hu, hp⟩
    cases hu
    exact hp
  · intro h
    exact ⟨_, rfl, h⟩

@[simp] theorem State.when_true (t : State) : s.when true t = t := rfl
@[simp] theorem State.when_false (t : State) : s.when false t = s := rfl
theorem State.when_of {c : Bool} (h : c = true) (t : State) : s.when c t = t := by subst h; rfl

/-- What settles to a state settles to it again. -/
@[simp] theorem State.settle_self : s.settle s = s := rfl

/-- A command whose effect resets no clock and leaves the queue answers with that effect. -/
theorem State.settle_of {t : State} (hp : t.pending = s.pending) (ht : t.time = s.time) : s.settle t = t := by
  unfold State.settle; rw [← hp, ← ht]

theorem State.done_of {t : State} (hp : t.pending = s.pending) (ht : t.time = s.time) : s.done t = .next t := by
  unfold State.done; rw [s.settle_of hp ht]

/-! ### Registers and fields -/

@[simp] theorem State.rv_setRv_same (off v : Nat) : (s.setRv off v).rv off = v % 2 ^ 64 := by
  simp [State.rv, State.setRv]

theorem State.rv_setRv_other {off o : Nat} (v : Nat) (h : o ≠ off) : (s.setRv off v).rv o = s.rv o := by
  unfold State.rv State.setRv
  rw [FMap.get_put_other _ _ _ _ h]

theorem State.rv_lt (off : Nat) : s.rv off < 2 ^ 64 := BitVec.isLt _

theorem State.fld_lt (f : Fld) : s.fld f < 2 ^ f.width := bits_lt _ _ _

/-- A field reads as what was put into it. -/
theorem State.fld_setFld_same (f : Fld) (v : Nat) (h : f.lsb + f.width ≤ 64) : (s.setFld f v).fld f = v % 2 ^ f.width := by
  unfold State.fld State.setFld
  rw [State.rv_setRv_same, Nat.mod_eq_of_lt (setBits_lt _ _ _ _ _ (s.rv_lt _) h), bits_setBits_same]

/-- A field of another register keeps its value. -/
theorem State.fld_setFld_reg {f g : Fld} (v : Nat) (h : g.reg ≠ f.reg) : (s.setFld f v).fld g = s.fld g := by
  unfold State.fld State.setFld
  rw [State.rv_setRv_other _ _ h]

/-- Another field of the same register keeps its value. -/
theorem State.fld_setFld_apart {f g : Fld} (v : Nat) (hr : g.reg = f.reg) (h64 : f.lsb + f.width ≤ 64)
    (h : g.lsb + g.width ≤ f.lsb ∨ f.lsb + f.width ≤ g.lsb) : (s.setFld f v).fld g = s.fld g := by
  unfold State.fld State.setFld
  rw [hr, State.rv_setRv_same, Nat.mod_eq_of_lt (setBits_lt _ _ _ _ _ (s.rv_lt _) h64), bits_setBits_other _ _ _ _ _ _ h]

/-- A register other than the field's keeps its value. -/
theorem State.rv_setFld_other {f : Fld} {o : Nat} (v : Nat) (h : o ≠ f.reg) : (s.setFld f v).rv o = s.rv o :=
  s.rv_setRv_other _ h

/-- A register keeps its value whatever becomes of the state's other parts. -/
theorem State.rv_eq_of_regs {s t : State} (h : t.regs = s.regs) (off : Nat) : t.rv off = s.rv off := by
  unfold State.rv; rw [h]

theorem State.fld_eq_of_regs {s t : State} (h : t.regs = s.regs) (f : Fld) : t.fld f = s.fld f := by
  unfold State.fld; rw [State.rv_eq_of_regs h]

/-! ### Events -/

@[simp] theorem State.raise_regLow (src code : Nat) (args : List Nat) : (s.raise src code args).regLow = s.regLow := by
  unfold State.raise State.hold State.deferCurtain State.deferGhost; dsimp only; repeat' split
  all_goals rfl
@[simp] theorem State.raise_regShadow (src code : Nat) (args : List Nat) : (s.raise src code args).regShadow = s.regShadow := by
  unfold State.raise State.hold State.deferCurtain State.deferGhost; dsimp only; repeat' split
  all_goals rfl
@[simp] theorem State.raise_sent (src code : Nat) (args : List Nat) : (s.raise src code args).sent = s.sent := by
  unfold State.raise State.hold State.deferCurtain State.deferGhost; dsimp only; repeat' split
  all_goals rfl
@[simp] theorem State.raise_host (src code : Nat) (args : List Nat) : (s.raise src code args).host = s.host := by
  unfold State.raise State.hold State.deferCurtain State.deferGhost; dsimp only; repeat' split
  all_goals rfl
@[simp] theorem State.raise_mem (src code : Nat) (args : List Nat) : (s.raise src code args).mem = s.mem := by
  unfold State.raise State.hold State.deferCurtain State.deferGhost; dsimp only; repeat' split
  all_goals rfl
@[simp] theorem State.raise_obj (src code : Nat) (args : List Nat) : (s.raise src code args).obj = s.obj := by
  unfold State.raise State.hold State.deferCurtain State.deferGhost; dsimp only; repeat' split
  all_goals rfl
@[simp] theorem State.raise_cfgAcc (src code : Nat) (args : List Nat) : (s.raise src code args).cfgAcc = s.cfgAcc := by
  unfold State.raise State.hold State.deferCurtain State.deferGhost; dsimp only; repeat' split
  all_goals rfl
@[simp] theorem State.raise_cfgApp (src code : Nat) (args : List Nat) : (s.raise src code args).cfgApp = s.cfgApp := by
  unfold State.raise State.hold State.deferCurtain State.deferGhost; dsimp only; repeat' split
  all_goals rfl
@[simp] theorem State.raise_cues (src code : Nat) (args : List Nat) : (s.raise src code args).cues = s.cues := by
  unfold State.raise State.hold State.deferCurtain State.deferGhost; dsimp only; repeat' split
  all_goals rfl
@[simp] theorem State.raise_frames (src code : Nat) (args : List Nat) : (s.raise src code args).frames = s.frames := by
  unfold State.raise State.hold State.deferCurtain State.deferGhost; dsimp only; repeat' split
  all_goals rfl
@[simp] theorem State.raise_gone (src code : Nat) (args : List Nat) : (s.raise src code args).gone = s.gone := by
  unfold State.raise State.hold State.deferCurtain State.deferGhost; dsimp only; repeat' split
  all_goals rfl
@[simp] theorem State.raise_time (src code : Nat) (args : List Nat) : (s.raise src code args).time = s.time := by
  unfold State.raise State.hold State.deferCurtain State.deferGhost; dsimp only; repeat' split
  all_goals rfl
@[simp] theorem State.raise_cb (src code : Nat) (args : List Nat) : (s.raise src code args).cb = s.cb := by
  unfold State.raise State.hold State.deferCurtain State.deferGhost; dsimp only; repeat' split
  all_goals rfl
@[simp] theorem State.raise_blk (src code : Nat) (args : List Nat) : (s.raise src code args).blk = s.blk := by
  unfold State.raise State.hold State.deferCurtain State.deferGhost; dsimp only; repeat' split
  all_goals rfl
@[simp] theorem State.raise_cmp (src code : Nat) (args : List Nat) : (s.raise src code args).cmp = s.cmp := by
  unfold State.raise State.hold State.deferCurtain State.deferGhost; dsimp only; repeat' split
  all_goals rfl
@[simp] theorem State.raise_fix (src code : Nat) (args : List Nat) : (s.raise src code args).fix = s.fix := by
  unfold State.raise State.hold State.deferCurtain State.deferGhost; dsimp only; repeat' split
  all_goals rfl
@[simp] theorem State.raise_links (src code : Nat) (args : List Nat) : (s.raise src code args).links = s.links := by
  unfold State.raise State.hold State.deferCurtain State.deferGhost; dsimp only; repeat' split
  all_goals rfl
@[simp] theorem State.raise_psh (src code : Nat) (args : List Nat) : (s.raise src code args).psh = s.psh := by
  unfold State.raise State.hold State.deferCurtain State.deferGhost; dsimp only; repeat' split
  all_goals rfl
@[simp] theorem State.raise_spt (src code : Nat) (args : List Nat) : (s.raise src code args).spt = s.spt := by
  unfold State.raise State.hold State.deferCurtain State.deferGhost; dsimp only; repeat' split
  all_goals rfl
@[simp] theorem State.raise_lmp (src code : Nat) (args : List Nat) : (s.raise src code args).lmp = s.lmp := by
  unfold State.raise State.hold State.deferCurtain State.deferGhost; dsimp only; repeat' split
  all_goals rfl
@[simp] theorem State.raise_sig (src code : Nat) (args : List Nat) : (s.raise src code args).sig = s.sig := by
  unfold State.raise State.hold State.deferCurtain State.deferGhost; dsimp only; repeat' split
  all_goals rfl
@[simp] theorem State.raise_cur (src code : Nat) (args : List Nat) : (s.raise src code args).cur = s.cur := by
  unfold State.raise State.hold State.deferCurtain State.deferGhost; dsimp only; repeat' split
  all_goals rfl
@[simp] theorem State.raise_qb (src code : Nat) (args : List Nat) : (s.raise src code args).qb = s.qb := by
  unfold State.raise State.hold State.deferCurtain State.deferGhost; dsimp only; repeat' split
  all_goals rfl
@[simp] theorem State.raise_fly (src code : Nat) (args : List Nat) : (s.raise src code args).fly = s.fly := by
  unfold State.raise State.hold State.deferCurtain State.deferGhost; dsimp only; repeat' split
  all_goals rfl
@[simp] theorem State.raise_net (src code : Nat) (args : List Nat) : (s.raise src code args).net = s.net := by
  unfold State.raise State.hold State.deferCurtain State.deferGhost; dsimp only; repeat' split
  all_goals rfl
@[simp] theorem State.raise_line (src code : Nat) (args : List Nat) : (s.raise src code args).line = s.line := by
  unfold State.raise State.hold State.deferCurtain State.deferGhost; dsimp only; repeat' split
  all_goals rfl
@[simp] theorem State.raise_tdm (src code : Nat) (args : List Nat) : (s.raise src code args).tdm = s.tdm := by
  unfold State.raise State.hold State.deferCurtain State.deferGhost; dsimp only; repeat' split
  all_goals rfl
@[simp] theorem State.raise_mtr (src code : Nat) (args : List Nat) : (s.raise src code args).mtr = s.mtr := by
  unfold State.raise State.hold State.deferCurtain State.deferGhost; dsimp only; repeat' split
  all_goals rfl
@[simp] theorem State.raise_flyTurn (src code : Nat) (args : List Nat) : (s.raise src code args).flyTurn = s.flyTurn := by
  unfold State.raise State.hold State.deferCurtain State.deferGhost; dsimp only; repeat' split
  all_goals rfl
@[simp] theorem State.raise_sacnDue (src code : Nat) (args : List Nat) : (s.raise src code args).sacnDue = s.sacnDue := by
  unfold State.raise State.hold State.deferCurtain State.deferGhost; dsimp only; repeat' split
  all_goals rfl
@[simp] theorem State.raise_off (src code : Nat) (args : List Nat) : (s.raise src code args).off = s.off := by
  unfold State.raise State.hold State.deferCurtain State.deferGhost; dsimp only; repeat' split
  all_goals rfl
@[simp] theorem State.raise_inReset (src code : Nat) (args : List Nat) : (s.raise src code args).inReset = s.inReset := by
  unfold State.raise State.hold State.deferCurtain State.deferGhost; dsimp only; repeat' split
  all_goals rfl
@[simp] theorem State.raise_pwr (src code : Nat) (args : List Nat) : (s.raise src code args).pwr = s.pwr := by
  unfold State.raise State.hold State.deferCurtain State.deferGhost; dsimp only; repeat' split
  all_goals rfl
@[simp] theorem State.raise_boot (src code : Nat) (args : List Nat) : (s.raise src code args).boot = s.boot := by
  unfold State.raise State.hold State.deferCurtain State.deferGhost; dsimp only; repeat' split
  all_goals rfl
@[simp] theorem State.raise_pbk (src code : Nat) (args : List Nat) : (s.raise src code args).pbk = s.pbk := by
  unfold State.raise State.hold State.deferCurtain State.deferGhost; dsimp only; repeat' split
  all_goals rfl
@[simp] theorem State.raise_freeCtr (src code : Nat) (args : List Nat) : (s.raise src code args).freeCtr = s.freeCtr := by
  unfold State.raise State.hold State.deferCurtain State.deferGhost; dsimp only; repeat' split
  all_goals rfl
@[simp] theorem State.raise_pending (src code : Nat) (args : List Nat) : (s.raise src code args).pending = s.pending := by
  unfold State.raise State.hold State.deferCurtain State.deferGhost; dsimp only; repeat' split
  all_goals rfl

/-- Of the registers, an event touches only the three that count events lost. -/
theorem State.raise_rv (src code : Nat) (args : List Nat) (off : Nat) (h1 : off ≠ R.EVT_SRC_LOST_CNT) (h2 : off ≠ R.CUR_EVT_LOST_CNT)
    (h3 : off ≠ R.GL_EVT_LOST_CNT) : (s.raise src code args).rv off = s.rv off := by
  unfold State.raise State.hold State.deferCurtain State.deferGhost
  dsimp only
  repeat' split
  all_goals first
    | rfl
    | exact State.rv_setRv_other _ _ h1
    | exact State.rv_setRv_other _ _ h2
    | exact State.rv_setRv_other _ _ h3

theorem State.raise_fld (src code : Nat) (args : List Nat) (f : Fld) (h1 : f.reg ≠ R.EVT_SRC_LOST_CNT) (h2 : f.reg ≠ R.CUR_EVT_LOST_CNT)
    (h3 : f.reg ≠ R.GL_EVT_LOST_CNT) : (s.raise src code args).fld f = s.fld f := by
  unfold State.fld; rw [s.raise_rv src code args f.reg h1 h2 h3]

/-! ### Memory -/

/-- The canonical form of HBM and Stage SRAM. -/
def MemSt.canonical (m : MemSt) : Prop := FMap.wf (fun _ => (0 : Byte)) m.hbm = true ∧ FMap.wf (fun _ => (0 : Byte)) m.sram = true

theorem MemSt.byte_setByte_same (m : MemSt) (p : Place) (b : Byte) : (m.setByte p b).byte p = b := by
  cases p <;> simp [MemSt.setByte, MemSt.byte]

theorem MemSt.byte_setByte_other (m : MemSt) {p q : Place} (b : Byte) (h : q ≠ p) : (m.setByte p b).byte q = m.byte q := by
  cases p <;> cases q <;> simp only [MemSt.setByte, MemSt.byte]
  · exact FMap.get_put_other _ _ _ _ (fun e => h (by rw [e]))
  · exact FMap.get_put_other _ _ _ _ (fun e => h (by rw [e]))

theorem MemSt.canonical_setByte (m : MemSt) (p : Place) (b : Byte) (h : m.canonical) : (m.setByte p b).canonical := by
  cases p
  · exact ⟨FMap.wf_put (fun _ => (0 : Byte)) _ _ _ h.1, h.2⟩
  · exact ⟨h.1, FMap.wf_put (fun _ => (0 : Byte)) _ _ _ h.2⟩

theorem MemSt.canonical_putBytes (bs : List Byte) (m : MemSt) (p : Place) (h : m.canonical) : (m.putBytes p bs).canonical := by
  cases p
  · exact ⟨FMap.wf_putList _ _ _ _ h.1, h.2⟩
  · exact ⟨h.1, FMap.wf_putList _ _ _ _ h.2⟩

/-- What a run of writes stores. -/
theorem MemSt.byte_putBytes_in (m : MemSt) (p : Place) (bs : List Byte) (i : Nat) (h : i < bs.length) :
    (m.putBytes p bs).byte (p.add i) = bs.getD i 0 := by
  cases p <;> exact FMap.get_putList_in _ _ _ _ _ h

@[simp] theorem MemSt.remark_hbm (m : MemSt) (p : Place) (n : Nat) : (m.remark p n).hbm = m.hbm := by
  unfold MemSt.remark; split <;> rfl
@[simp] theorem MemSt.remark_sram (m : MemSt) (p : Place) (n : Nat) : (m.remark p n).sram = m.sram := by
  unfold MemSt.remark; split <;> rfl

theorem State.inject_bytes (p : Place) (n : Nat) : (s.inject p n).mem.hbm = s.mem.hbm ∧ (s.inject p n).mem.sram = s.mem.sram := by
  unfold State.inject
  dsimp only
  repeat' split
  all_goals exact ⟨rfl, rfl⟩

/-- Both memories hold the same bytes. -/
def SameBytes (s t : State) : Prop := t.mem.hbm = s.mem.hbm ∧ t.mem.sram = s.mem.sram

theorem SameBytes.trans {s t u : State} (h : SameBytes s t) (h2 : SameBytes t u) : SameBytes s u :=
  ⟨h2.1.trans h.1, h2.2.trans h.2⟩

/-- A fold over steps that leave the bytes leaves them. -/
theorem SameBytes.foldl {α : Type} (f : State → α → State) (hf : ∀ s a, SameBytes s (f s a)) (l : List α) (s : State) :
    SameBytes s (l.foldl f s) := by
  induction l generalizing s with
  | nil => exact ⟨rfl, rfl⟩
  | cons a l ih => exact (hf s a).trans (ih _)

theorem SameBytes.raise (s : State) (source code : Nat) (args : List Nat) : SameBytes s (s.raise source code args) := by
  unfold SameBytes; simp

theorem State.freeUnits_bytes (sram : Bool) (l : List Nat) : SameBytes s (s.freeUnits sram l) := by
  refine SameBytes.foldl _ (fun s u => ?_) l s
  split
  · exact ⟨rfl, rfl⟩
  · split <;> exact ⟨rfl, rfl⟩

theorem State.stopMovesTo_bytes (pc : Nat) : SameBytes s (s.stopMovesTo pc) :=
  SameBytes.foldl State.stopMove (fun s m => State.freeUnits_bytes
    ({ s with blk := { s.blk with moves := s.blk.moves.filter (· ≠ m) } } : State) m.toSram m.units) _ s

theorem State.clearPc_bytes (pc cause : Nat) : SameBytes s (s.clearHealth 2 pc cause) := by
  unfold State.clearHealth
  have h2 : ¬ (2 : Nat) = 0 := by decide
  have h21 : ¬ (2 : Nat) = 1 := by decide
  simp only [if_neg h2, if_neg h21]
  split
  · exact (SameBytes.raise (s.setFld _ _) _ _ _).trans (State.stopMovesTo_bytes _ _)
  · exact ⟨rfl, rfl⟩

theorem State.retirePage_bytes (p : Nat) : SameBytes s (s.retirePage p) := by
  have h : SameBytes s ((s.setPage p pgRetired).raise Src.obj E.PAGE_RETIRED (words2 (p * pageSize))) :=
    SameBytes.raise (s.setPage p pgRetired) _ _ _
  unfold State.retirePage
  split
  · exact ⟨rfl, rfl⟩
  · dsimp only
    split
    · refine h.trans (SameBytes.trans ?_ (State.clearPc_bytes _ _ _)); exact ⟨rfl, rfl⟩
    · exact h

theorem State.noteUe_bytes (cw : Nat) : SameBytes s (s.noteUe cw) := by
  unfold State.noteUe SameBytes; dsimp only; split <;> simp

theorem State.noteCe_bytes (cw : Nat) : SameBytes s (s.noteCe cw) := by
  unfold State.noteCe SameBytes
  dsimp only
  repeat' split
  all_goals simp

/-- What reading a codeword counts, reports and retires leaves the bytes of both memories. -/
theorem State.consume_bytes (cw : Nat) : SameBytes s (s.consume cw).1 := by
  unfold State.consume
  split
  · refine (s.noteUe_bytes cw).trans ?_
    dsimp only
    split
    · exact State.retirePage_bytes _ _
    · exact ⟨rfl, rfl⟩
  · split
    · refine (s.noteCe_bytes cw).trans ?_
      dsimp only
      split
      · split
        · refine SameBytes.trans ?_ (State.retirePage_bytes _ _); exact ⟨rfl, rfl⟩
        · exact ⟨rfl, rfl⟩
      · exact ⟨rfl, rfl⟩
    · exact ⟨rfl, rfl⟩

theorem State.consumeAll_bytes (cws : List Nat) : SameBytes s (s.consumeAll cws).1 := by
  unfold State.consumeAll
  suffices h : ∀ (l : List Nat) (r : State × List Nat),
      SameBytes r.1 (l.foldl (fun r cw => let c := r.1.consume cw; (c.1, if c.2 then r.2 ++ [cw] else r.2)) r).1 from h cws (s, [])
  intro l
  induction l with
  | nil => intro r; exact ⟨rfl, rfl⟩
  | cons a l ih => intro r; exact (r.1.consume_bytes a).trans (ih _)

/-- Writing to memory keeps its canonical form. -/
theorem State.writeMem_canonical (p : Place) (bs : List Byte) (h : s.mem.canonical) : (s.writeMem p bs).mem.canonical := by
  unfold State.writeMem
  have hc := s.consumeAll_bytes (partCws p bs.length)
  generalize (s.consumeAll (partCws p bs.length)).1 = t at hc
  have hi := State.inject_bytes ({ t with mem := (t.mem.remark p bs.length).putBytes p bs } : State) p bs.length
  unfold MemSt.canonical
  dsimp only
  rw [hi.1, hi.2]
  exact MemSt.canonical_putBytes bs _ p (by simpa [MemSt.canonical, hc.1, hc.2] using h)

/-- The Curtain SRAM, the boot flash and the FRAM keep theirs. -/
theorem State.flashProgram_canonical (a : Nat) (b : List Byte) (h : FMap.wf (fun _ => flashBlank) s.boot.flash = true) :
    FMap.wf (fun _ => flashBlank) (s.flashProgram a b).boot.flash = true := FMap.wf_putList _ _ _ _ h

theorem State.flashErase_canonical (a n : Nat) (h : FMap.wf (fun _ => flashBlank) s.boot.flash = true) :
    FMap.wf (fun _ => flashBlank) (s.flashErase a n).boot.flash = true := FMap.wf_filter _ _ _ h

theorem State.framWrite_canonical (a : Nat) (b : List Byte) (h : FMap.wf (fun _ => (0 : Byte)) s.mtr.fram = true) :
    FMap.wf (fun _ => (0 : Byte)) (s.framWrite a b).mtr.fram = true := FMap.wf_putList _ _ _ _ h

/-- The memories of the state after reset are in canonical form. -/
theorem reset_memory_wf : Memory.wf State.reset = true := rfl

end Sys2Proof.Machine
end

