-- ==== Sys2Proof/Laws/Blocks.lean ====
section
/-! SUPPORT. What the block form of a frame, its lanes, and the operations that send blocks can do, said once (R238 to R241). -/

namespace Sys2Proof

open Machine

@[simp] theorem dataBlocks_length (n : Nat) (b : List Byte) : (dataBlocks n b).length = n := by
  induction n generalizing b with
  | zero => rfl
  | succ n ih => simp [dataBlocks, ih]

/-- A frame is `START`, its data blocks and `TERM` (R240). -/
@[simp] theorem frameBlocks_length (type claim lseq : Nat) (payload : List Byte) :
    (frameBlocks type claim lseq payload).length = (payload.length + 7) / 8 + 2 := by
  simp [frameBlocks]

@[simp] theorem laneWords_length (st : Nat) (bs : List Block) : (laneWords st bs).length = bs.length := by
  induction bs generalizing st with
  | nil => rfl
  | cons b bs ih => simp [laneWords, ih]

@[simp] theorem lanePart_nil (first x : Nat) : lanePart first x [] = [] := rfl

@[simp] theorem dataBlock_isData (b : List Byte) : (dataBlock b).isData = true := rfl
@[simp] theorem controlBlock_isData (type : Nat) (b : List Byte) : (controlBlock type b).isData = false := rfl

/-- Every data block of a frame is one. -/
theorem isData_of_mem_dataBlocks (n : Nat) (b : List Byte) (x : Block) (h : x ∈ dataBlocks n b) : x.isData = true := by
  induction n generalizing b with
  | zero => cases h
  | succ n ih =>
    rcases List.mem_cons.1 h with rfl | h
    · rfl
    · exact ih _ h

namespace Machine

variable (s : State)

/-- Sending blocks records them and counts the run; nothing else of the state changes. -/
theorem State.sendBlocks_eq (l : Nat) (bs : List Block) :
    s.sendBlocks l bs = { s with sent := s.sent ++ s.blockWords l bs
                                 links := (s.updLink l (fun x => { x with runs := x.runs + 1 })).links } := rfl

@[simp] theorem State.sendBlocks_regs (l : Nat) (bs : List Block) : (s.sendBlocks l bs).regs = s.regs := rfl
@[simp] theorem State.sendBlocks_evt (l : Nat) (bs : List Block) : (s.sendBlocks l bs).evt = s.evt := rfl
@[simp] theorem State.sendBlocks_sent (l : Nat) (bs : List Block) : (s.sendBlocks l bs).sent = s.sent ++ s.blockWords l bs := rfl

/-- A frame that departs is recorded with its blocks. -/
@[simp] theorem State.sendFrame_sent (l type claim lseq : Nat) (payload : List Byte) :
    (s.sendFrame l type claim lseq payload).sent =
      s.sent ++ [.linkFrame l type claim lseq payload] ++
        (s.send (.linkFrame l type claim lseq payload)).blockWords l (frameBlocks type claim lseq payload) := rfl
@[simp] theorem State.sendFrame_regs (l type claim lseq : Nat) (payload : List Byte) : (s.sendFrame l type claim lseq payload).regs = s.regs := rfl
@[simp] theorem State.sendFrame_evt (l type claim lseq : Nat) (payload : List Byte) : (s.sendFrame l type claim lseq payload).evt = s.evt := rfl

end Machine

end Sys2Proof
end

