-- ==== Sys2Proof/Laws/Happen.lean ====
section
/-! SUPPORT. What raising an event and finishing a descriptor do, in the words the statements use. -/

namespace Sys2Proof.Machine

variable (s : State)

/-! ### Events -/

theorem State.hasRoom_iff (source : Nat) : s.hasRoom source = true ↔ (s.evt.raised.filter (·.source = source)).length < 8 := by
  unfold State.hasRoom; exact decide_eq_true_iff

/-- While the event unit works and the source has room, raising an event holds it. -/
theorem State.raise_room (source code : Nat) (args : List Nat) (hu : s.evtUp = true) (hr : s.hasRoom source = true) :
    s.raise source code args = { s with evt := { s.evt with
      raised := s.evt.raised ++ [⟨s.time.house, source, code, false, args.map (· % 2 ^ 32), s.evt.srcLost.get 0 source⟩]
      srcLost := s.evt.srcLost.put 0 source 0 } } := by
  unfold State.raise State.hold
  rw [if_pos hu, if_pos ((s.hasRoom_iff source).1 hr)]

theorem State.raise_raises (source code : Nat) (args : List Nat) (hu : s.evtUp = true) (hr : s.hasRoom source = true) :
    Raises s (s.raise source code args) source code args := by
  rw [s.raise_room source code args hu hr]

/-- Raising an event never takes one away. -/
theorem State.raise_keeps (source code : Nat) (args : List Nat) {e : EvtRec} (h : e ∈ s.evt.raised) :
    e ∈ (s.raise source code args).evt.raised := by
  unfold State.raise State.hold State.deferCurtain State.deferGhost
  dsimp only
  repeat' split
  all_goals first | exact List.mem_append_left _ h | exact h

/-! ### Descriptors -/

theorem State.find_updEntry (l : List StoreEntry) (id : Nat) (f : StoreEntry → StoreEntry) (e : StoreEntry)
    (hf : ∀ x : StoreEntry, (f x).id = x.id) (h : l.find? (·.id = id) = some e) :
    (l.map (fun x => if x.id = id then f x else x)).find? (·.id = id) = some (f e) := by
  induction l with
  | nil => simp at h
  | cons a l ih =>
    rw [List.map_cons]
    by_cases ha : a.id = id
    · rw [List.find?_cons_of_pos (by simpa using ha)] at h
      cases h
      rw [if_pos ha, List.find?_cons_of_pos (by simpa [hf] using ha)]
    · rw [List.find?_cons_of_neg (by simpa using ha)] at h
      rw [if_neg ha, List.find?_cons_of_neg (by simpa using ha)]
      exact ih h

/-- An update of an entry is what is found afterwards. -/
theorem State.entry_updEntry (id : Nat) (f : StoreEntry → StoreEntry) (e : StoreEntry) (hf : ∀ x : StoreEntry, (f x).id = x.id)
    (h : s.entry? id = some e) : (s.updEntry id f).entry? id = some (f e) :=
  State.find_updEntry s.host.store id f e hf h

theorem State.entry_id {id : Nat} {e : StoreEntry} (h : s.entry? id = some e) : e.id = id := by
  have := List.find?_some h; simpa using this

theorem State.entry_dropEntry (id : Nat) : (s.dropEntry id).entry? id = none := by
  unfold State.entry? State.dropEntry State.setStore
  simp

theorem State.entry_of_host {s t : State} (h : t.host = s.host) (id : Nat) : t.entry? id = s.entry? id := by
  unfold State.entry?; rw [h]

/-- What finishing a descriptor does to its store entry. -/
theorem State.finish_finished (id status result : Nat) (e : StoreEntry) (h : s.entry? id = some e) :
    Finished (s.finish id status result) e status result := by
  have hid := s.entry_id h
  subst hid
  unfold State.finish Finished
  rw [h]
  dsimp only
  have hbe : (s.bump (F.HST_RING_DONE_CNT.COUNT e.ring)).entry? e.id = some e := by
    rw [State.entry_of_host (s.bump_host _)]; exact h
  generalize (s.bump (F.HST_RING_DONE_CNT.COUNT e.ring)) = b at hbe ⊢
  have hce : (if status = St.ok ∨ status = St.zeroLength ∨ status = St.late then b
      else b.bump (F.HST_RING_ERR_CNT.COUNT e.ring)).entry? e.id = some e := by
    split
    · exact hbe
    · rw [State.entry_of_host (b.bump_host _)]; exact hbe
  generalize (if status = St.ok ∨ status = St.zeroLength ∨ status = St.late then b
      else b.bump (F.HST_RING_ERR_CNT.COUNT e.ring)) = c at hce ⊢
  split
  · rw [c.entry_dropEntry e.id]; rfl
  · have h := State.entry_updEntry c e.id (fun e => { e with phase := .finished, status := status, result := result % 2 ^ 32 }) e
      (fun _ => rfl) hce
    exact congrArg (Option.map (fun x : StoreEntry => (x.phase, x.status, x.result))) h

/-- Finishing a descriptor keeps what an outer settling keeps. -/
theorem finished_settle {s t : State} {e : StoreEntry} {st r : Nat} (h : Finished t e st r) : Finished (s.settle t) e st r := h

/-! ### Open choices of numbers -/

/-- Where some number below `n` is free, the choice is free. -/
theorem pickFrom_free (used : Nat → Bool) (n : Nat) (hn : 0 < n) :
    ∀ fuel v, (∃ i < fuel, used ((v + i) % n) = false) → used (pickFrom used n v fuel) = false
  | 0, _, ⟨_, hi, _⟩ => absurd hi (Nat.not_lt_zero _)
  | fuel + 1, v, ⟨i, hi, hu⟩ => by
    unfold pickFrom
    by_cases hv : used (v % n) = true
    · rw [if_pos hv]
      refine pickFrom_free used n hn fuel (v + 1) ?_
      rcases i with _ | i
      · simp [hv] at hu
      · exact ⟨i, by omega, by rwa [show v + 1 + i = v + (i + 1) by omega]⟩
    · rw [if_neg hv]; simpa using hv

theorem State.pickFree_free (used : Nat → Bool) (n : Nat) (hn : 0 < n) (h : ∃ x < n, used x = false) :
    used (s.pickFree used n) = false := by
  obtain ⟨x, hx, hu⟩ := h
  unfold State.pickFree
  refine pickFrom_free used n hn n s.freeVal ⟨(x + n - s.freeVal % n) % n, Nat.mod_lt _ hn, ?_⟩
  have h0 : (s.freeVal + (x + n - s.freeVal % n) % n) % n = x := by
    have hm : s.freeVal % n < n := Nat.mod_lt _ hn
    rw [Nat.add_mod, Nat.mod_mod, ← Nat.add_mod]
    have h1 : s.freeVal + (x + n - s.freeVal % n) = x + n * (s.freeVal / n + 1) := by
      have := Nat.mod_add_div s.freeVal n
      rw [Nat.mul_add, Nat.mul_one]; omega
    rw [h1, Nat.add_mul_mod_self_left, Nat.mod_eq_of_lt hx]
  rw [h0]; exact hu

/-- Fewer than 8,192 calls leave a slot number free. -/
theorem State.callSlot_free (h : s.cb.queue.length + s.cb.handed.length + s.cb.held.length < 8192) :
    s.slotUsed s.callSlot = false := by
  refine s.pickFree_free s.slotUsed 8192 (by decide) ?_
  let l : List Nat := s.cb.queue.map (·.slot) ++ s.cb.handed.map (·.slot) ++ s.cb.held.map (·.2.slot)
  have hl : l.length < 8192 := by simp [l]; omega
  have : ¬ (Finset.range 8192 ⊆ l.toFinset) := fun hs => by
    have := Finset.card_le_card hs
    have h2 := l.toFinset_card_le
    rw [Finset.card_range] at this; omega
  obtain ⟨x, hx, hn⟩ := Finset.not_subset.1 this
  refine ⟨x, Finset.mem_range.1 hx, ?_⟩
  have hn' : x ∉ l := fun h => hn (List.mem_toFinset.2 h)
  simp only [l, List.mem_append, List.mem_map, not_or] at hn'
  unfold State.slotUsed
  simp only [Bool.or_eq_false_iff, List.any_eq_false, decide_eq_true_eq]
  exact ⟨⟨fun r hr he => hn'.1.1 ⟨r, hr, he⟩, fun r hr he => hn'.1.2 ⟨r, hr, he⟩⟩, fun r hr he => hn'.2 ⟨r, hr, he⟩⟩

end Sys2Proof.Machine
end

