-- ==== Sys2Proof/Tests/States.lean ====
section
/-! SUPPORT. Small states that the tests and the witnesses start from. -/

namespace Sys2Proof.Tests

open Sys2Proof.Machine

/-- The part after boot: CORE out of reset, nothing configured. -/
def up : State := { State.reset with inReset := false, boot := { State.reset.boot with held := false, retry := false } }

/-- The value `x` in field `f`, to be used in chains. -/
def withFld (s : State) (f : Fld) (x : Nat) : State := s.setFld f x

/-- A 64-byte descriptor by its opcode, flags, tag, length, handle, argument, address and offset, with 32 bytes of parameters. -/
def desc (op flags tag len handle arg addr off : Nat) (param : List Byte) : List Byte :=
  leBytes 1 op ++ leBytes 1 flags ++ leBytes 2 tag ++ leBytes 4 len ++ leBytes 4 handle ++ leBytes 4 arg ++ leBytes 8 addr ++ leBytes 8 off ++
    (param ++ zeros 32).take 32

/-- The store entry that descriptor makes when it has arrived on ring 3. -/
def entry (b : List Byte) : StoreEntry := ⟨7, 3, 0, b, .arrived, 0, none, false, [], [], 0, 0, []⟩

/-- Ring 3 is an enabled ring of class `cls` with 16 slots and 16 completion entries. -/
def ringUp (cls : Nat) : State :=
  (((((up.setFld F.HST_CTRL.ENABLE 1).setFld (F.HST_RING_CFG.CLASS 3) cls).setFld (F.HST_RING_CFG.ENABLE 3) 1).setFld
    (F.HST_RING_CFG.SIZE_LOG2 3) 4).setFld (F.HST_RING_CFG.CQ_SIZE_LOG2 3) 4)

/-- The same with one arrived descriptor. -/
def ringWith (cls : Nat) (e : StoreEntry) : State := (ringUp cls).setStore [e]

/-- A call word of a kind for a class. -/
def call (kind cls frame arg0 arg1 arg2 : Nat) : CallWord := ⟨kind, cls, 5, 0, false, false, 0, 0, 0xFFFF, frame, arg0, arg1, arg2, 0⟩

/-- The eight words of a call. -/
def callVec (w : CallWord) : Vector Word 8 := Vector.ofFn (fun i => BitVec.ofNat 32 (fieldAt w.bytes (4 * i) 4))

/-- No engine has issued its standby yet. -/
def calm : State := { up with cb := { up.cb with waiting := [] } }

/-- A call in slot 77, held by a consumer. -/
def holding (s : State) (c : Consumer) (w : CallWord) (ran : Bool) : State :=
  { s with cb := { s.cb with waiting := [], held := [(c, ⟨77, w, 0, 1, false, false, ran⟩)] } }

/-- An unplanned frame with an empty configuration. -/
def frame0 (seq : Nat) : FrameRec := newFrame seq 1000 up.cfgApp up.cfgApp false

/-- A plan item on engine 0. -/
def item (num : Nat) (render : Bool) (p1 p2 : Nat) : Item := ⟨num, render, 10, 0, 0, 0, 0, false, 0, 10, p1, p2⟩

/-- A planned frame in a phase. -/
def framePlan (seq phase : Nat) (plan : List Item) : FrameRec := { frame0 seq with planned := true, phase := phase, plan := plan }

/-- Link `l` is in a training state. -/
def linkAt (s : State) (l st : Nat) : State := s.setFld (F.CL_STATE.STATE l) st

/-- Link `l` is `ACTIVE` with a claim and credits. -/
def linkOn (s : State) (l : Nat) : State :=
  (((linkAt s l 7).setFld (F.CL_CLAIM.OWN l) 3).setFld (F.CL_CRED_ADV.COUNT l) 40).setFld (F.CL_CRED_HELD.COUNT l) 40

/-- Link 5 runs a pass of frame 9 with one unit to walk. -/
def pass0 : PassSt := ⟨9, [tileKey 0 0 0], 0, false, 0, 0, [], [], [], false, [], 0, [], false, none⟩

/-- A signal-string surface of four lamps of three emitters, with its profile, on port 0. -/
def sigUp : State :=
  ({ up with cfgApp := [(tSurface * 2 ^ 20, patch (patch (patch (zeros 64) 0 [1]) 4 [4, 0, 1, 0]) 12 (leBytes 4 65541)),
                        (tProfile * 2 ^ 20, patch (zeros 32) 0 [16, 0, 8, 0, 0, 0, 1])]
             obj := ⟨[(5, ⟨kCalstore, leBytes 4 4 ++ leBytes 4 3, 72, false, [9], [10], none, none⟩)], [(5, 1)], []⟩ }).setFld
    (F.SIG_CFG.ENABLE 0) 1

/-- The codes of that surface for frame 0. -/
def sigFrame0 : SigFrame := ⟨0, 0, 3, 12, 0, sigUp.cfgApp.entry tProfile 0, [5, 6, 7, 8]⟩

/-- A principal in `SYNCING` with both tandem links `ACTIVE`. -/
def principal (s : State) : State :=
  (((linkOn (linkOn s 64) 65).setFld F.TDM_STATE.ROLE 1).setFld F.TDM_STATE.PAIR 2).setFld F.TDM_CLAIM.CLAIM 3

/-- An Understudy with tandem link 0 trained from its side. -/
def under (s : State) (pair : Nat) : State :=
  (((linkOn s 64).setFld (F.CL_CTRL.EN 64) 1).setFld F.TDM_STATE.ROLE 2).setFld F.TDM_STATE.PAIR pair

/-- The Curtain is in a mode. -/
def curAt (m : Nat) : State := up.setFld F.CUR_STATE.MODE m

/-- An SPI message whose check value is right. -/
def spiMsg (alive : Byte) (addr arg : Word) (data : List Byte) : SpiMsg := ⟨alive, addr, arg, data, true⟩

/-- Memory that lists these bytes from an address. -/
def run (a : Nat) (b : List Byte) : FMap Byte := b.zipIdx.map (fun x => (a + x.2, x.1))

/-- A Fly image: source, destination, count and `CFG`, without an index table. -/
def flyImg (src dst count cfg : Nat) : List Byte := leBytes 8 src ++ leBytes 8 dst ++ leBytes 4 count ++ leBytes 4 cfg ++ zeros 8

/-- A transfer of 8 bytes from HBM 0x1000 to Stage SRAM 0x40 in accesses of 4, with its books. -/
def flyX : FlySt := ⟨flyImg 0x1000 0x40 2 0x00012212, none, [], 0, 0, [], none, 0, none, 0⟩

/-- Channel 3 runs a transfer. -/
def flyOn (x : FlySt) : State := (up.setFld (F.FLY_STATUS.STATE 3) 1).setFly 3 (some x)

/-- Channel 3's registers hold an image. -/
def flyRegs (img : List Byte) : State := up.flyLoad 3 img

/-- A power sequence is under way from a power state. -/
def moving (st : Nat) (q : PwrSeq) : State := { up with pwr := { up.pwr with state := st, seq := some q } }

/-- The part is in a power state. -/
def inPower (st : Nat) : State := (up.setPower st)

/-- Before power-up: no rail is on. -/
def dead : State := { up.glLoss with pending := [] }

/-- Power-up is at a step. -/
def rising (u : PowerUp) : State := { dead.powerOn with pwr := { dead.powerOn.pwr with up := some u } }

/-- CORE is in reset and boot is at a state, from a source. -/
def bootAt (st src : Nat) : State := ({ up with inReset := true }.setFld F.GLB_BOOT.STATE st).setFld F.GLB_BOOT.SOURCE src

/-- The first bytes of the header of a firmware package of two chunks, rollback 5, version 77. -/
def pkg : List Byte :=
  leBytes 4 pkgMagic ++ leBytes 2 1 ++ leBytes 1 1 ++ leBytes 1 5 ++ leBytes 4 77 ++ leBytes 2 2 ++ leBytes 2 0 ++ leBytes 4 100

end Sys2Proof.Tests
end

