-- ==== Sys2Proof/Tests/Record.lean ====
section
/-! SUPPORT. A valid periodic energy record in FRAM: what a first start of metering with a record needs (`Energy_records`). -/

namespace Sys2Proof.Tests

set_option Elab.async false
open Sys2Proof.Machine

/-- The first bytes of a periodic energy record of zeros. -/
def recordBody : List Byte := leBytes 4 recMagic ++ leBytes 2 1 ++ leBytes 1 recPeriodic ++ zeros 7833

/-- That record with its check value. -/
def record : List Byte := recordBody ++ (leBytes 4 (crc32c recordBody) ++ zeros 4)

/-- The part after boot, with that record in slot 0 of the FRAM. -/
def recordUp : State := { up with mtr := { up.mtr with fram := FMap.runOf 0 0 record } }

theorem reflect_lt : ∀ w v : Nat, reflect w v < 2 ^ w
  | 0, _ => by simp [reflect]
  | w + 1, v => by
    have := reflect_lt w (v / 2)
    have h2 : v % 2 < 2 := Nat.mod_lt _ (by decide)
    have h3 : v % 2 * 2 ^ w ≤ 1 * 2 ^ w := Nat.mul_le_mul_right _ (by omega)
    unfold reflect
    rw [Nat.pow_succ]
    omega

theorem crc32c_lt (b : List Byte) : crc32c b < 2 ^ 32 := by
  unfold crc32c crcResult
  exact Nat.xor_lt_two_pow (reflect_lt _ _) (Nat.mod_lt _ (by decide))

theorem leNat_leBytes : ∀ n v : Nat, leNat (leBytes n v) = v % 256 ^ n
  | 0, v => by simp [leBytes, leNat, Nat.mod_one]
  | n + 1, v => by
    simp only [leBytes, leNat, BitVec.toNat_ofNat, leNat_leBytes n]
    rw [show (256 : Nat) ^ (n + 1) = 256 * 256 ^ n from Nat.pow_succ', Nat.mod_mul]

theorem leBytes_length : ∀ n v : Nat, (leBytes n v).length = n
  | 0, _ => rfl
  | n + 1, v => by simp [leBytes, leBytes_length n]

theorem recordBody_length : recordBody.length = 7840 := by
  rw [recordBody, List.length_append, List.length_append, List.length_append, leBytes_length, leBytes_length, leBytes_length, zeros,
    List.length_replicate]

theorem record_length : record.length = 7848 := by
  simp [record, recordBody_length, leBytes_length, zeros]

theorem record_check : fieldAt record 0x1EA0 4 = crc32c (record.take 0x1EA0) := by
  have h1 : record.take 0x1EA0 = recordBody := by
    unfold record; rw [List.take_append_of_le_length (by rw [recordBody_length]), List.take_of_length_le (by rw [recordBody_length])]
  have h2 : record.drop 0x1EA0 = leBytes 4 (crc32c recordBody) ++ zeros 4 := by
    unfold record; exact List.drop_left' recordBody_length
  have h3 : (leBytes 4 (crc32c recordBody) ++ zeros 4).take 4 = leBytes 4 (crc32c recordBody) :=
    List.take_left' (leBytes_length 4 _)
  rw [h1]
  unfold fieldAt slice
  rw [h2, h3]
  dsimp only
  rw [leBytes_length, Nat.sub_self, List.replicate_zero, List.append_nil, leNat_leBytes]
  exact Nat.mod_eq_of_lt (crc32c_lt recordBody)

theorem record_slot0 : recordUp.framBytes (recordUp.slotAddr 0) recordSize = record := by
  have ha : recordUp.slotAddr 0 = 0 := by decide +kernel
  rw [ha]
  unfold State.framBytes FMap.getList
  apply List.ext_getElem
  · simp [record_length, recordSize]
  · intro i h1 h2
    have hi : i < record.length := h2
    simp only [List.getElem_map, List.getElem_range]
    rw [FMap.get_filter _ _ _ _ (fun v => by simp [recordSize]; rw [record_length] at hi; omega)]
    show FMap.get 0 (FMap.runOf 0 0 record) (0 + i) = record[i]
    rw [FMap.get_runOf 0 record 0 i hi, List.getD_eq_getElem?_getD, List.getElem?_eq_getElem hi, Option.getD_some]

theorem record_slot1 : recordUp.slotRecord 1 = none := by
  have ha : recordUp.slotAddr 1 = 8192 := by decide +kernel
  have hz : recordUp.framBytes 8192 recordSize = List.replicate recordSize 0 := by
    unfold State.framBytes FMap.getList
    apply List.ext_getElem
    · simp
    · intro i h1 h2
      simp only [List.getElem_map, List.getElem_range, List.getElem_replicate]
      refine FMap.get_absent _ _ _ (fun e he h => ?_)
      have := FMap.runOf_keys 0 record 0 e (List.mem_of_mem_filter he)
      rw [record_length] at this
      omega
  unfold State.slotRecord
  rw [ha, hz]
  dsimp only
  rw [if_neg]
  intro h
  exact absurd h.1 (by decide +kernel)

theorem record_magic : fieldAt record 0 4 = recMagic := by decide +kernel
theorem record_layout : fieldAt record 4 2 = 1 := by decide +kernel
theorem record_cause : fieldAt record 6 1 = recPeriodic := by decide +kernel

theorem slotRecord_of (s : State) (n : Nat) (b : List Byte) (h : s.framBytes (s.slotAddr n) recordSize = b) (h0 : fieldAt b 0 4 = recMagic)
    (h1 : fieldAt b 4 2 = 1) (h2 : fieldAt b 0x1EA0 4 = crc32c (b.take 0x1EA0)) : s.slotRecord n = some b := by
  unfold State.slotRecord
  rw [h]
  exact if_pos ⟨h0, h1, h2⟩

theorem newestRecord_of (s : State) (b : List Byte) (h0 : s.slotRecord 0 = some b) (h1 : s.slotRecord 1 = none) :
    s.newestRecord = some (0, b) := by
  unfold State.newestRecord
  rw [h0, h1]

theorem record_newest : recordUp.newestRecord = some (0, record) :=
  newestRecord_of recordUp record (slotRecord_of recordUp 0 record record_slot0 record_magic record_layout record_check) record_slot1

/-- The hypotheses of the clause of `Energy_records` about a first start with a periodic record can be met. -/
theorem wit_Energy_records_saved : let s := recordUp; let slot := 0; let b := record;
    (s.powered .gl = true ∧ s.evtUp = true ∧ s.hasRoom Src.metering = true) ∧
      (s.mtr.started = false ∧ s.newestRecord = some (slot, b) ∧ fieldAt b 6 1 = recPeriodic) :=
  ⟨⟨by decide +kernel, by decide +kernel, by decide +kernel⟩, by decide +kernel, record_newest, record_cause⟩
end Sys2Proof.Tests
end

