-- ==== Sys2Proof/Tests/Slice0.lean ====
section
/-! SUPPORT. Tests: an ill-formed command for each check of `WellFormed`, values the spec's tables and worked examples give, and the
hypotheses of the statements about all commands, met. -/

namespace Sys2Proof.Machine

set_option Elab.async false

/-! ### Each check of WellFormed refuses an ill-formed command -/

theorem test_wf_regAccess : exec (.regAccessUnsupported 4 4 false) State.reset = .fault .illFormed := rfl
theorem test_wf_doorbells : exec (.doorbellVectorArrival (.bytes [0])) State.reset = .fault .illFormed := rfl
theorem test_wf_descriptor : exec (.descriptorArrival 3 (.bytes [0])) State.reset = .fault .illFormed := rfl
theorem test_wf_cfgResponse : exec (.cfgResponse 5 ⟨0, 0⟩ 0 0 (List.replicate 65 0)) State.reset = .fault .illFormed := rfl
theorem test_wf_status : exec (.statusReceived 5 ⟨0, 0⟩ 0 0 0 [1]) State.reset = .fault .illFormed := rfl
theorem test_wf_state : exec (.stateReceived 0 ⟨0, 0⟩ [1]) State.reset = .fault .illFormed := rfl
theorem test_wf_mirror : exec (.mirrorReceived 0 ⟨0, 0⟩ [1]) State.reset = .fault .illFormed := rfl
theorem test_wf_bulk : exec (.bulkReceived 0 ⟨0, 0⟩ [1]) State.reset = .fault .illFormed := rfl
theorem test_wf_lampstate : exec (.lampstateReceived 0 ⟨0, 0⟩ [1]) State.reset = .fault .illFormed := rfl
theorem test_wf_nodeRequest : exec (.tandemNodeRequest 0 ⟨0, 0⟩ false [1]) State.reset = .fault .illFormed := rfl
theorem test_wf_qbData : exec (.qbWriteData 3 [1, 2, 3]) State.reset = .fault .illFormed := rfl
theorem test_wf_qbLast : exec (.qbWriteLast 3 []) State.reset = .fault .illFormed := rfl
theorem test_wf_chkData : exec (.chkDataWrite 3 [1, 2, 3, 4, 5]) State.reset = .fault .illFormed := rfl
theorem test_wf_blockLock : exec (.linkBlockLock ⟨5, [], [], ⟨1, 0⟩, ⟨0, [], 0⟩, ⟨0, [], 0⟩, ⟨0, [], 0⟩, ⟨0, [], 0⟩⟩) State.reset = .fault .illFormed := rfl
theorem test_wf_run : exec (.calRunDone 5 ⟨0, [1], 0⟩) State.reset = .fault .illFormed := rfl
theorem test_wf_temps : exec (.pbkSecondTick [0]) State.reset = .fault .illFormed := rfl

/-! ### Values the spec gives -/

/-- The ASCII bytes "123456789". -/
def nine : List Byte := [0x31, 0x32, 0x33, 0x34, 0x35, 0x36, 0x37, 0x38, 0x39]

/-- R404, the table's last column. -/
theorem test_crc32 : crcResult 32 0xFFFFFFFF true (nine.foldl (crcByte 32 0x04C11DB7 true) 0xFFFFFFFF) = 0xCBF43926 := by decide +kernel
theorem test_crc32c : crc32c nine = 0xE3069283 := by decide +kernel
theorem test_crc16 : crcResult 16 0 false (nine.foldl (crcByte 16 0x1021 false) 0xFFFF) = 0x29B1 := by decide +kernel
theorem test_crc8 : crcResult 8 0xFF false (nine.foldl (crcByte 8 0x1D false) 0xFF) = 0x4B := by decide +kernel

/-- R405: a unit fed nothing since a preset's `INIT` reads its `INIT` xor `XOROUT`. -/
theorem test_chk_nothing_fed : ∃ t, exec (.chkCfgWrite 3 2) Tests.up = .next t ∧ t.chkResult 3 = 0 ∧ t.rv (R.CHK_CRC 3) = 0xFFFFFFFF :=
  ⟨_, rfl, by decide +kernel, by decide +kernel⟩

/-- Chapter 3, switching show time: L is 268,435 at 50 ppm, the clamp closes at most that, and below it a sixteenth of d. -/
theorem test_slew_clamped : slewOf 50 (3200 * 2 ^ 32) = 268435 ∧ slewOf 50 (-3200 * 2 ^ 32) = -268435 := by decide +kernel
theorem test_slew_free : slewOf 50 (16 * 2 ^ 32) = 65536 := by decide +kernel

/-- Chapter 8, temporal dither: B = 8, v = 76.25. -/
theorem test_dither_first : quantise 8 true ((305 : Rat) / 1020) 0 = (76, 8) := by decide +kernel
theorem test_dither_second : quantise 8 true ((305 : Rat) / 1020) 8 = (77, -16) := by decide +kernel

/-- Chapter 10, link 7: a full segment has 4,096 bytes of payload and costs 8 credits; the last, of 400, costs 1. -/
theorem test_credit_full : frameCost (zeros 4096) = 8 := by decide +kernel
theorem test_credit_last : frameCost (zeros 400) = 1 := by decide +kernel

/-- Chapter 15, the bound of a sweep: a full segment takes 514 blocks. -/
theorem test_segment_blocks : (frameBlocks 1 0 0 (zeros 4096)).length = 514 := by decide +kernel

/-- R238: the descrambler gives back what the scrambler took, and is left in its state. -/
theorem test_scramble : let r := scramble (2 ^ 57 + 12345) 0x0123456789ABCDEF; descramble (2 ^ 57 + 12345) r.1 = (0x0123456789ABCDEF, r.2) := by
  decide +kernel

/-- R241: a frame whose CRC-32C fails is discarded, the frame itself is not. -/
theorem test_frame_crc : frameBad (upLength false) (frameBlocks 0x86 3 0 (zeros 8)) = false ∧
    frameBad (upLength false) ((frameBlocks 0x86 3 0 (zeros 8)).dropLast ++ [controlBlock btTerm [1, 2, 3, 4]]) = true := by decide +kernel

/-- R238: after 58 bits the state of a descrambler is that of the bits received. -/
theorem test_descrambler_in_step : (descramble 1 0xFEDCBA9876543210).2 = (descramble (2 ^ 58 - 1) 0xFEDCBA9876543210).2 := by decide +kernel

/-- R241: the frame's length fits its type; cut short by an `ABORT`, and with a length its type does not have, it is discarded. -/
theorem test_frame_discarded : lengthFits (upLength false 0x86) (zeros 8).length = true ∧ lengthFits (upLength false 0x86) (zeros 9).length = false ∧
    abortBlock.isData = false ∧ abortBlock.isControl btTerm = false ∧ leNat [1, 2, 3, 4] ≠ frameCrc 0x86 3 0 (zeros 8) ∧
    frameBad (upLength false) ((frameBlocks 0x86 3 0 (zeros 8)).take 2 ++ [abortBlock]) = true ∧
    frameBad (upLength false) (frameBlocks 0x86 3 0 (zeros 9)) = true := by decide +kernel

/-- R239: 16 invalid blocks of 64 lose block lock, 15 do not. -/
theorem test_lock_lost : lockLost (List.replicate 48 idleBlock ++ List.replicate 16 ⟨3, 0⟩) = true ∧
    lockLost (List.replicate 49 idleBlock ++ List.replicate 15 ⟨3, 0⟩) = false := by decide +kernel

/-- Chapter 16, aborting a memmove: the ranges overlap, and the order is descending. -/
theorem test_memmove : let img := Tests.flyImg 0x10000 0x10100 1024 (2 + 4 * 8 + 1 * 512 + 1 * 4096);
    Fly.overlaps img = true ∧ Fly.descends img = true := by decide +kernel

/-- R73: a time of 3,600 s and 5 ns. -/
theorem test_time_parts : secOf (timeOf 3600 5) = 3600 ∧ nsOf (timeOf 3600 5) = 5 := by decide +kernel

/-- R8: the identity of the part. -/
theorem test_id_reset : State.reset.rv R.GLB_ID = 0x4B586400 := by decide +kernel

/-- R10: an 8-bit read is answered with Unsupported Request. -/
theorem test_unsupported : ∃ t, exec (.regAccessUnsupported 0 1 false) State.reset = .next t ∧ t.sent = [.unsupported] :=
  ⟨_, rfl, by decide +kernel⟩

/-- R396: a write of `LAST32` to an empty block makes one word with both tags. -/
theorem test_qb_one_word : ∃ t, exec (.qbWriteLast 3 [1, 2, 3, 4]) Tests.up = .next t ∧
    (t.qbSt 3).words.map (fun w => (w.bytes, w.first, w.last)) = [([1, 2, 3, 4], true, true)] := ⟨_, rfl, by decide +kernel⟩

/-- R400: a flush empties it. -/
theorem test_qb_flush : ∃ t, exec (.qbFlush 3) (Tests.up.setQb 3 { qbReset with words := [⟨[1], true, true, false, true, 1, none⟩], item := 1 }) = .next t ∧
    (t.qbSt 3).words = [] := ⟨_, rfl, by decide +kernel⟩

/-- R72: a step of an unlocked clock locks it; a step of a locked one is refused. -/
theorem test_step_locks : ∃ t, exec (.stageCtrlStep .A) (Tests.up.setFld (F.TIM_STEP_NS.NS 0) 7) = .next t ∧
    (t.clk .A).val = 7 * 2 ^ 32 ∧ (t.clk .A).locked = true := ⟨_, rfl, by decide +kernel⟩
theorem test_step_refused : ∃ t, exec (.stageCtrlStep .A) (Tests.up.setClk .A { Tests.up.clk .A with locked := true }) = .next t ∧
    t.evt.raised.map (·.code) = [E.STEP_REFUSED] := ⟨_, rfl, by decide +kernel⟩

/-- R438: 0b11 boots from flash and raises `BOOT_SEL_BAD`. -/
theorem test_boot_reserved : ∃ t, exec (.coldRelease 3) State.reset = .next t ∧ t.fld F.GLB_BOOT.SOURCE = 0 ∧
    t.evt.glQueue.map (·.1.code) = [E.BOOT_SEL_BAD] := ⟨_, rfl, by decide +kernel⟩

/-! ### Hypotheses of the statements about all commands -/

/-- `State.reset` with a command in front. -/
def waiting (c : Instr) : State := { State.reset with pending := [c] }

theorem wit_Step_runs_the_front : (waiting .glbWdKick).pending = .glbWdKick :: [] ∧ State.reset.pending = [] := ⟨rfl, rfl⟩

theorem wit_Clocks_stay_in_range : State.reset.clocksInRange ∧ (waiting .glbWdKick).clocksInRange ∧
    (∃ t, step State.reset = .next t) ∧ (∃ t, step (waiting .glbWdKick) = .next t) :=
  ⟨by unfold State.clocksInRange; decide +kernel, by unfold State.clocksInRange; decide +kernel, ⟨_, rfl⟩, ⟨_, rfl⟩⟩

theorem wit_Well_formed_commands_answer : (Instr.qbWriteData 31 [1, 2, 3, 4]).wf = true ∧ (Instr.qbWriteData 31 [1, 2, 3]).wf = false := by
  decide

theorem wit_Only_resets_set_the_clocks : (Instr.qbFlush 31).mayReset = false ∧ ∃ t, exec (.qbFlush 31) (waiting .glbWdKick) = .next t :=
  ⟨rfl, _, rfl⟩

theorem wit_Fields_are_separate : let f : Fld := ⟨0, 32, 32⟩; let g : Fld := ⟨0, 0, 32⟩;
    f.lsb + f.width ≤ 64 ∧ (g.reg ≠ f.reg ∨ g.lsb + g.width ≤ f.lsb ∨ f.lsb + f.width ≤ g.lsb) ∧ 8 ≠ f.reg := by decide

/-- Line port 3 holds eight events. -/
def crowded : State := { Tests.up with evt := { Tests.up.evt with raised := List.replicate 8 ⟨0, Src.line 3, E.RDM_DONE, false, [], 0⟩ } }

theorem wit_Sources_hold_eight_events : (Tests.up.evtUp = true ∧ Tests.up.hasRoom (Src.line 3) = true) ∧
    (crowded.evtUp = true ∧ crowded.hasRoom (Src.line 3) = false) ∧
    (crowded.evt.raised.filter (·.source = Src.line 3)).length ≤ 8 := by decide +kernel

theorem wit_Memory_keeps_its_form : (Instr.debugWindowAccess 0x5FFFFFFFF (.write [7])).storesPlainly = true ∧ Memory.wf State.reset = true ∧
    ∃ t, exec (.debugWindowAccess 0x5FFFFFFFF (.write [7])) State.reset = .next t := ⟨rfl, by decide +kernel, _, rfl⟩

theorem wit_Frames_of_time_and_checks : ((Instr.refEdge 0).ofClocks = true ∧ ∃ t, exec (.refEdge 0) Tests.up = .next t) ∧
    ((Instr.chkInit 15).ofChecks = true ∧ ∃ t, exec (.chkInit 15) Tests.up = .next t) ∧
    ((Instr.qbFlush 31).ofQueueBlocks = true ∧ ∃ t, exec (.qbFlush 31) Tests.up = .next t) ∧
    (¬ (0x800000 ≤ 0x7FFFFF ∧ 0x7FFFFF < 0x900000) ∧ 0x7FFFFF ∉ eventCounters) :=
  ⟨⟨rfl, _, rfl⟩, ⟨rfl, _, rfl⟩, ⟨rfl, _, rfl⟩, by decide, by decide⟩

theorem wit_Frames_of_ports : ((Instr.dmxPacketStart 15).ofLines = true ∧ ∃ t, exec (.dmxPacketStart 15) Tests.up = .next t) ∧
    ((Instr.netPauseRearm 7).ofNet = true ∧ ∃ t, exec (.netPauseRearm 7) Tests.up = .next t) ∧
    ((Instr.sigClear 15 1).ofStrings = true ∧ ∃ t, exec (.sigClear 15 1) Tests.up = .next t) :=
  ⟨⟨rfl, _, rfl⟩, ⟨rfl, _, rfl⟩, ⟨rfl, _, rfl⟩⟩

theorem wit_Frames_of_metering_and_power :
    ((Instr.mtrInputFaultClear 95).ofMetering = true ∧ ∃ t, exec (.mtrInputFaultClear 95) Tests.up = .next t) ∧
    (Instr.wakeIn.ofWaking = true ∧ ∃ t, exec .wakeIn Tests.up = .next t) := ⟨⟨rfl, _, rfl⟩, ⟨rfl, _, rfl⟩⟩

theorem wit_Frames_of_links : ((Instr.linkEnable 65).ofLanes = true ∧ ∃ t, exec (.linkEnable 65) Tests.up = .next t) ∧
    (Instr.promoteNow.ofRoles = true ∧ ∃ t, exec .promoteNow Tests.up = .next t) := ⟨⟨rfl, _, rfl⟩, ⟨rfl, _, rfl⟩⟩

theorem wit_Frames_of_the_Curtain : Instr.curOkToggle.ofCurtain = true ∧ ∃ t, exec .curOkToggle Tests.up = .next t := ⟨rfl, _, rfl⟩

theorem wit_Frames_of_host_and_boot :
    ((Instr.msixVectorUnmask 63).ofRings = true ∧ ∃ t, exec (.msixVectorUnmask 63) Tests.up = .next t) ∧
    ((Instr.powerState 63).ofReports = true ∧ ∃ t, exec (.powerState 63) Tests.up = .next t) ∧
    ((Instr.coldRelease 3).ofBoot = true ∧ ∃ t, exec (.coldRelease 3) State.reset = .next t) ∧
    (Instr.ledgerCheck.ofBook = true ∧ ∃ t, exec .ledgerCheck Tests.up = .next t) :=
  ⟨⟨rfl, _, rfl⟩, ⟨rfl, _, rfl⟩, ⟨rfl, _, rfl⟩, ⟨rfl, _, rfl⟩⟩

theorem wit_Queue_block_flush_then_write : Tests.up.evtUp = true ∧ aliasBytes [1, 2, 3, 4] = true ∧ Tests.up.flag (F.QB_CFG.WRITER 31) = false ∧
    ∃ t, exec (.qbFlush 31) Tests.up = .next t := ⟨by decide +kernel, by decide, by decide +kernel, _, rfl⟩

end Sys2Proof.Machine
end

