-- ==== Sys2Proof/Tests/Witness1.lean ====
section
/-! SUPPORT. For each statement with hypotheses, a state and operands that meet them, clause by clause (part 1 of 4). -/

namespace Sys2Proof.Machine

set_option Elab.async false

/-- The hypotheses of `Unsupported_register_accesses` can be met, clause by clause. -/
theorem wit_Unsupported_register_accesses :
    (let off := (0x101000 : Fin 134217728); let n := 8; (¬ (n = 4 ∧ off.val % 4 = 0))) := by
  decide +kernel

/-- The hypotheses of `Queue_block_flush` can be met, clause by clause. -/
theorem wit_Queue_block_flush :
    (let s := Tests.up.setQb 31 { qbReset with words := [⟨[1], true, true, false, true, 1, none⟩], item := 1 }; (s.evtUp = true)) := by
  decide +kernel

/-- The hypotheses of `Boot_selection` can be met, clause by clause. -/
theorem wit_Boot_selection :
    (let s := State.reset; let sel := (3 : BitVec 2); (s.boot.held = true ∧ s.pwr.up = none ∧ s.time.running = true ∧ (sel = 0 ∨ sel = 3))) ∧
    (let s := State.reset; (s.boot.held = true ∧ s.pwr.up = none ∧ s.time.running = true)) ∧
    (let s := State.reset; (s.boot.held = true ∧ s.pwr.up = none ∧ s.time.running = true)) ∧
    (let s := State.reset; (s.boot.held = true ∧ s.pwr.up = none ∧ s.time.running = true ∧ s.evtUp = false ∧ s.evt.glQueue.length < 64)) := by
  refine ⟨?_, ?_, ?_, ?_⟩ <;> decide +kernel

/-- The hypotheses of `Acknowledge` can be met, clause by clause. -/
theorem wit_Acknowledge :
    (let e := Tests.entry (Tests.desc 0x18 0 9 0 0 E.RETENTION_FAULT 0 0 []); let s := (Tests.ringWith 2 e).setFld F.PWR_STATE.RET_FAULT 1; let n := (3 : RingIx); (s.canRun n e opAck) ∧ (e.arg0 = E.RETENTION_FAULT) ∧ (s.flag F.PWR_STATE.RET_FAULT = true)) ∧
    (let e := Tests.entry (Tests.desc 0x18 0 9 0 0 E.CUR_DROP 0 0 []); let s := Tests.ringWith 2 e; let n := (3 : RingIx); (s.canRun n e opAck) ∧ (e.arg0 ≠ E.RETENTION_FAULT ∨ s.flag F.PWR_STATE.RET_FAULT = false)) ∧
    (let e := (⟨7, 3, 0, [], .fetching, 0, none, false, [], [], 0, 0, []⟩ : StoreEntry); let s := Tests.ringWith 2 e; let n := (3 : RingIx); let b := Tests.desc 0x18 0 9 0 0 (65536 + E.CUR_DROP) 0 0 []; let x := { e with bytes := b, phase := .arrived }; (s.hostUp = true) ∧ (b.length = 64) ∧ (s.host.store.find? (fun y => y.ring = n.val && y.phase == .fetching) = some e) ∧ (s.entry? e.id = some e) ∧ (e.verdict = 0 ∧ e.member = none) ∧ ((s.ring n).skip = 0 ∧ (s.ring n).cueFetch = none) ∧ (s.ringClass n = clsMgmt) ∧ (x = { e with bytes := b, phase := .arrived }) ∧ (x.opcode = opAck ∧ descClean x = true ∧ eventCodes.contains x.arg0 = false)) := by
  refine ⟨?_, ?_, ?_⟩ <;> decide +kernel

/-- The hypotheses of `Fly_start_of_nothing` can be met, clause by clause. -/
theorem wit_Fly_start_of_nothing :
    (let s := Tests.flyRegs (Tests.flyImg 0x1000 0x2000 0 0x00011212); let n := (3 : Ix32); (s.evtUp = true) ∧ (s.flyBusy n = false ∧ s.flyCheck (s.flyImage n) = 0 ∧ Fly.count (s.flyImage n) = 0 ∧ Fly.evt (s.flyImage n) = false)) ∧
    (let s := Tests.flyRegs (Tests.flyImg 0x1000 0x2000 0 (0x00011212 + 2 ^ 29)); let n := (3 : Ix32); (s.evtUp = true ∧ s.hasRoom (Src.fly n) = true) ∧ (s.flyBusy n = false ∧ s.flyCheck (s.flyImage n) = 0 ∧ Fly.count (s.flyImage n) = 0 ∧ Fly.evt (s.flyImage n) = true)) ∧
    (let e := Tests.entry (Tests.desc 0x14 0 9 0 0 31 0 0 (leBytes 8 0 ++ leBytes 8 64 ++ leBytes 4 0 ++ leBytes 4 (2 + 2 * 8 + 1 * 512 + 1 * 4096))); let s := Tests.ringWith 2 e; let n := (3 : RingIx); (s.canRun n e opMove) ∧ (s.flyBusy (e.arg0 % 32) = false ∧ s.moveRefused e.param = false ∧ s.flyCheck e.param = 0 ∧ Fly.count e.param = 0)) := by
  refine ⟨?_, ?_, ?_⟩ <;> decide +kernel

/-- The hypotheses of `Stall_report` can be met, clause by clause. -/
theorem wit_Stall_report :
    (let x := (⟨.core 1, Src.core 1, Tests.call kMgmt clsSM noFrame 1 2 3, 0, false⟩ : Stalled); let s := ({ Tests.up with cb := { Tests.up.cb with stalled := [x] } }).setFld F.CB_STALL_WD.LIMIT 9; let p := Producer.core 1; (s.evtUp = true) ∧ (s.cb.stalled.find? (fun y => y.producer = p) = some x) ∧ (x.told = false ∧ s.fld F.CB_STALL_WD.LIMIT ≠ 0) ∧ (s.hasRoom Src.callBoard = true)) ∧
    (let x := (⟨.core 1, Src.core 1, Tests.call kMgmt clsSM noFrame 1 2 3, 0, false⟩ : Stalled); let s := ({ Tests.up with cb := { Tests.up.cb with stalled := [x] } }).setFld F.CB_STALL_WD.LIMIT 0; let p := Producer.core 1; (s.cb.stalled.find? (fun y => y.producer = p) = some x) ∧ (x.told = true ∨ s.fld F.CB_STALL_WD.LIMIT = 0)) := by
  refine ⟨?_, ?_⟩ <;> decide +kernel

/-- The hypotheses of `Register_and_window_accesses` can be met, clause by clause. -/
theorem wit_Register_and_window_accesses :
    (let s := Tests.up.setRv R.HST_DB_ADDR 0x1234500000F00; let off := (0x100010 : Fin 134217728); let a := Agent.host; let r := ((findReg off).map (·.1)).getD ⟨"", 0, [], false, []⟩; (off.val % 4 = 0) ∧ (s.reach a off = .live) ∧ (findReg off = some (r, off.val)) ∧ (r.wide = true) ∧ ((readers a).all (fun x => (x.at_ off.val).isNone) = true) ∧ (s.regShadow.get none off = none)) ∧
    (let s := Tests.up.setRv 0x100030 5; let off := (0x100030 : Fin 134217728); let a := Agent.host; let r := ((findReg off).map (·.1)).getD ⟨"", 0, [], false, []⟩; (off.val % 4 = 0) ∧ (s.reach a off = .live) ∧ (findReg off = some (r, off.val)) ∧ ((readers a).all (fun x => (x.at_ off.val).isNone) = true) ∧ (s.regShadow.get none off = none) ∧ (r.fields.any (fun f => f.access = .rc) = true)) ∧
    (let s := Tests.up; let off := (0x100000 : Fin 134217728); let v := (1 : Word); let a := Agent.host; let r := ((findReg off).map (·.1)).getD ⟨"", 0, [], false, []⟩; (off.val % 4 = 0) ∧ (s.reach a off = .live) ∧ (off.val < 0x03000000) ∧ (findReg off = some (r, off.val)) ∧ (r.wide = false) ∧ (writers.all (fun x => (x.at_ off.val).isNone) = true) ∧ (r.refuses v.toNat = false)) ∧
    (let s := ({ Tests.up with obj := ⟨[(5, ⟨kCurve, [], 4096, false, [9], [], none, none⟩)], [], []⟩, mem := { Tests.up.mem with hbm := [(9 * 65536 + 4095, 7)] } }).setFld F.OBJ_APT_HANDLE.HANDLE 65541; let off := (4095 : Fin 134217728); let k := 1; (s.hostUp = true) ∧ (s.boot.window = false) ∧ (k = 1 ∨ k = 2 ∨ k = 4 ∨ k = 8) ∧ (off.val % k = 0) ∧ (s.live (s.fld F.OBJ_APT_HANDLE.HANDLE) = true) ∧ (s.rv R.OBJ_APT_BASE + off + k ≤ (s.obj? (handleIdx (s.fld F.OBJ_APT_HANDLE.HANDLE))).size) ∧ (s.mem.ce = [] ∧ s.mem.ue = [])) ∧
    (let s := ({ Tests.up with obj := ⟨[(5, ⟨kCurve, [], 4096, false, [9], [], none, none⟩)], [], []⟩ }).setFld F.OBJ_APT_HANDLE.HANDLE 65541; let off := (4092 : Fin 134217728); let b := leBytes 4 77; let p := 9; (s.hostUp = true) ∧ (s.boot.window = false) ∧ (apertureOk off (.write b) = true) ∧ (s.live (s.fld F.OBJ_APT_HANDLE.HANDLE) = true) ∧ ((s.obj? (handleIdx (s.fld F.OBJ_APT_HANDLE.HANDLE))).kind = kCurve) ∧ ((s.obj? (handleIdx (s.fld F.OBJ_APT_HANDLE.HANDLE))).pages = [p] ∧ (s.obj? (handleIdx (s.fld F.OBJ_APT_HANDLE.HANDLE))).sram = false) ∧ (s.rv R.OBJ_APT_BASE + off + b.length ≤ (s.obj? (handleIdx (s.fld F.OBJ_APT_HANDLE.HANDLE))).size) ∧ ((s.obj? (handleIdx (s.fld F.OBJ_APT_HANDLE.HANDLE))).size ≤ 65536)) ∧
    (let s := Tests.up.setFld F.HST_DBG_EN.BAR4 1; let off := (0x5FFFFFFFF : Fin 34359738368); let k := 1; (s.hostUp = true) ∧ (s.powered .hbm = true) ∧ (s.flag F.HST_DBG_EN.BAR4 = true) ∧ (off.val < 0x600000000) ∧ (s.inRecords off k = false) ∧ (s.mem.ce = [] ∧ s.mem.ue = [])) ∧
    (let s := Tests.up.setFld F.HST_DBG_EN.BAR4 1; let off := (0x5FFFFFFFE : Fin 34359738368); let b := leBytes 2 258; (s.hostUp = true) ∧ (s.powered .hbm = true) ∧ (s.flag F.HST_DBG_EN.BAR4 = true) ∧ (off.val + b.length ≤ 0x600000000) ∧ (0 < b.length) ∧ (s.mem.ce = [] ∧ s.mem.ue = []) ∧ (s.fld F.OBJ_INJECT.MODE = 0)) ∧
    (let s := { Tests.up with mem := { Tests.up.mem with ce := [2 ^ 31 + 4194303] } }; let n := (4194303 : Fin 4194304); (s.evtUp = true) ∧ (s.mem.ce.contains (2 ^ 31 + n.val) = true) ∧ (s.mem.ue.contains (2 ^ 31 + n.val) = false)) := by
  refine ⟨?_, ?_, ?_, ?_, ?_, ?_, ?_, ?_⟩ <;> decide +kernel

/-- The hypotheses of `Doorbells_and_fetches` can be met, clause by clause. -/
theorem wit_Doorbells_and_fetches :
    (let s := Tests.ringUp 1; (s.hostUp = true) ∧ (s.flag F.HST_CTRL.ENABLE = true) ∧ (s.host.dbOutstanding = false)) ∧
    (let s := Tests.ringUp 1; (s.hostUp = true) ∧ (s.flag F.HST_CTRL.ENABLE = true) ∧ (s.host.dbOutstanding = false)) ∧
    (let s := { Tests.ringUp 1 with host := { (Tests.ringUp 1).host with dbOutstanding := true } }; (s.hostUp = true) ∧ (s.flag F.HST_CTRL.ENABLE = true) ∧ (s.host.dbOutstanding = true)) ∧
    (let s := { Tests.ringUp 1 with host := { (Tests.ringUp 1).host with dbOutstanding := true } }; let b := zeros 12 ++ leBytes 2 15 ++ leBytes 2 15 ++ zeros 240; (s.hostUp = true) ∧ (b.length = 256) ∧ (s.host.dbOutstanding = true) ∧ (s.host.dbAgain = false) ∧ (∀ n : Nat, n < 64 → s.isDescRing n = true → (s.ring n).stopped = false ∧ fieldAt b (4 * n) 2 < s.ringSlots n) ∧ (∀ n : Nat, n < 64 → s.isDescRing n = true ∨ s.isEventRing n = true → fieldAt b (4 * n + 2) 2 < s.cqSlots n)) ∧
    (let s := (Tests.ringUp 1).setRing 3 { ringReset with tail := 2, fetchHead := 15 }; let n := (3 : RingIx); (s.hostUp = true) ∧ (s.flag F.HST_CTRL.ENABLE = true) ∧ (s.isDescRing n = true) ∧ ((s.ring n).stopped = false) ∧ ((s.ring n).tail ≠ (s.ring n).fetchHead) ∧ (s.heldBy n < 1024) ∧ (s.host.store.length < 8192)) ∧
    (let s := Tests.ringWith 1 ⟨7, 3, 0, [], .fetching, 0, none, false, [], [], 0, 0, []⟩; let n := (3 : RingIx); let b := Tests.desc 0 0 9 0 0 0 0 0 []; let e := (⟨7, 3, 0, [], .fetching, 0, none, false, [], [], 0, 0, []⟩ : StoreEntry); (s.hostUp = true) ∧ (b.length = 64) ∧ (s.host.store.find? (fun x => x.ring = n.val && x.phase == .fetching) = some e) ∧ (s.entry? e.id = some e) ∧ (e.verdict = 0 ∧ e.member = none) ∧ ((s.ring n).skip = 0) ∧ ((s.ring n).cueFetch = none) ∧ (s.descStatus { e with bytes := b, phase := .arrived } false = 0) ∧ (fieldAt b 0 1 ≠ opCue)) := by
  refine ⟨?_, ?_, ?_, ?_, ?_, ?_⟩ <;> decide +kernel

/-- The hypotheses of `Completions_and_messages` can be met, clause by clause. -/
theorem wit_Completions_and_messages :
    (let s := (Tests.ringWith 1 (Tests.entry (Tests.desc 0 4 9 0 0 0 0 0 []))).setRing 3 { ringReset with waiting := [7], cqTail := 15, cqHead := 15 }; let n := (3 : RingIx); let id := 7; let rest := ([] : List Nat); let e := Tests.entry (Tests.desc 0 4 9 0 0 0 0 0 []); (s.hostUp = true) ∧ ((s.ring n).waiting = id :: rest) ∧ (s.cqFull n = false) ∧ (s.entry? id = some e)) ∧
    (let s := (Tests.ringUp 1).setRing 3 { ringReset with fetchHead := 3, cqTail := 2 }; let n := (3 : RingIx); (s.hostUp = true) ∧ (s.headWord n ≠ (s.ring n).headWritten)) ∧
    (let s := ({ Tests.up with host := { Tests.up.host with msixEnabled := true } }).setVec 63 ⟨false, false, true, some 0, 0xFEE00000, 33⟩; let v := (63 : Fin 64); (s.hostUp = true) ∧ ((s.vec v).cause = true) ∧ (s.host.msixEnabled = true) ∧ (s.headsWritten v = true) ∧ ((s.vec v).masked = false) ∧ (s.holdoffOver v = true)) ∧
    (let s := ({ Tests.up with host := { Tests.up.host with msixEnabled := true } }).setVec 63 ⟨true, false, true, none, 0xFEE00000, 33⟩; let v := (63 : Fin 64); (s.hostUp = true) ∧ ((s.vec v).cause = true) ∧ (s.host.msixEnabled = true) ∧ (s.headsWritten v = true) ∧ ((s.vec v).masked = true)) ∧
    (let s := ({ Tests.up with host := { Tests.up.host with msixEnabled := true } }).setVec 0 ⟨true, true, false, none, 0xFEE00000, 33⟩; let v := (0 : Fin 64); (s.hostUp = true) ∧ ((s.vec v).pendingBit = true) ∧ (s.host.msixEnabled = true) ∧ (s.holdoffOver v = true)) ∧
    (let s := (Tests.ringWith 1 (Tests.entry (Tests.desc 0 4 9 0 0 0 0 0 []))).setRing 3 { ringReset with stopped := true }; let n := (3 : RingIx); let head := (15 : BitVec 16); (s.hostUp = true) ∧ (head.toNat < s.ringSlots n)) ∧
    (let s := Tests.ringUp 1; let n := (3 : RingIx); let head := (16 : BitVec 16); (s.hostUp = true) ∧ (s.hasRoom Src.rings = true) ∧ (s.ringSlots n ≤ head.toNat)) ∧
    (let s := Tests.up; let n := (63 : RingIx); let size := (15 : BitVec 4); let cqSize := (4 : BitVec 4); (s.hostUp = true) ∧ (s.ringEnabled n = false) ∧ (s.heldBy n = 0) ∧ (4 ≤ size.toNat ∧ 4 ≤ cqSize.toNat)) := by
  refine ⟨?_, ?_, ?_, ?_, ?_, ?_, ?_, ?_⟩ <;> decide +kernel

/-- The hypotheses of `Object_descriptors` can be met, clause by clause. -/
theorem wit_Object_descriptors :
    (let e := Tests.entry (Tests.desc 0 0 9 0 0 0 0 0 []); let s := Tests.ringWith 1 e; let n := (3 : RingIx); (s.canRun n e opNop) ∧ (s.openCue n = none)) ∧
    (let e := Tests.entry (Tests.desc 1 0 9 0 0 7 0 0 (leBytes 4 2)); let s := Tests.ringWith 1 e; let n := (3 : RingIx); (s.canRun n e opCreate) ∧ (s.mirrors = false) ∧ (1 ≤ e.arg0 ∧ e.arg0 ≤ 7) ∧ (s.liveIdx.length < 65535) ∧ ((s.liveIdx.filter (fun i => (s.obj? i).kind = e.arg0)).length < kindLimit e.arg0) ∧ (s.placesInSram e.arg0 (objSize e.arg0 e.param) = false) ∧ (ceilDiv (objSize e.arg0 e.param) pageSize + ceilDiv (auxSize e.arg0 e.param) pageSize ≤ s.planFree)) ∧
    (let e := Tests.entry (Tests.desc 2 0 9 512 65541 0 (4096 - 512) 0 []); let s := { Tests.ringWith 1 e with obj := ⟨[(5, ⟨kCurve, [], 4096, false, [9], [], none, none⟩)], [], []⟩ }; let n := (3 : RingIx); (s.canRun n e opWrite) ∧ (s.writesCopy e = false) ∧ (e.length ≤ s.host.mrrs ∧ e.hostAddr % 4096 + e.length ≤ 4096) ∧ (0 < e.length)) ∧
    (let e := Tests.entry (Tests.desc 3 0 9 96 65541 0 4096 4000 []); let s := { Tests.ringWith 1 e with obj := ⟨[(5, ⟨kCurve, [], 4096, false, [9], [], none, none⟩)], [], []⟩ }; let n := (3 : RingIx); (s.canRun n e opRead) ∧ (s.mem.ce = [] ∧ s.mem.ue = [])) ∧
    (let e := Tests.entry (Tests.desc 4 0 9 0 65541 0 0 0 []); let s := { Tests.ringWith 1 e with obj := ⟨[(5, ⟨kCurve, [], 4096, false, [9], [], none, none⟩)], [], []⟩ }; let n := (3 : RingIx); (s.canRun n e opDestroy) ∧ (s.referenced (handleIdx e.handle) = false) ∧ (s.mirrors = false)) ∧
    (let e := Tests.entry (Tests.desc 5 0 9 0 65541 0x300 0 0 []); let s := { Tests.ringWith 1 e with obj := ⟨[(5, ⟨kCurve, [], 4096, false, [9], [], none, none⟩)], [], []⟩ }; let n := (3 : RingIx); (s.canRun n e opPin) ∧ (Pa.target e.arg0 = 0 ∧ Pa.mode e.arg0 = 3) ∧ (s.objMoves (handleIdx e.handle) = [])) ∧
    (let e := Tests.entry (Tests.desc 5 0 9 0 0 0x1F0101 0 63 []); let s := Tests.ringWith 1 e; let n := (3 : RingIx); (s.canRun n e opPin) ∧ (Pa.target e.arg0 = 1 ∧ Pa.mode e.arg0 = 1) ∧ (s.planServes true (Pa.group e.arg0) = true)) ∧
    (let e := Tests.entry (Tests.desc 0x10 0 9 0 0 2 0 0 (leBytes 8 1 ++ leBytes 8 5 ++ leBytes 4 999999999)); let s := Tests.ringWith 1 e; let n := (3 : RingIx); (s.hostUp = true) ∧ (s.nextToBegin n = some e ∧ e.opcode = opCue ∧ e.ring = n.val) ∧ (s.refusedNow opCue = false) ∧ (s.openCue n = none) ∧ (s.memberOf e.id 0 = none) ∧ (fieldAt e.param 0 1 = 1)) ∧
    (let e := { Tests.entry (Tests.desc 0x11 8 9 16 0 9 0 0 (leBytes 4 50 ++ leBytes 4 1 ++ leBytes 1 1 ++ zeros 3 ++ leBytes 4 100)) with id := 8, member := some (7, 0) }; let c := (⟨7, 3, 9, 2, 0, [], none, false, [], 0, 0⟩ : CueRec); let s := ((Tests.ringUp 1).setStore [{ Tests.entry (Tests.desc 0x10 0 9 0 0 2 0 0 []) with phase := .begun }, e]).setOpenCues [c]; let n := (3 : RingIx); (s.hostUp = true) ∧ (s.nextMember n = some (c, e)) ∧ (e.opcode = opSet ∧ e.inline_ = true) ∧ ((setEntries e.arg0 (slice e.param 0 e.length)).all (entryClean e.arg0) = true) ∧ (e.offset + (setEntries e.arg0 (slice e.param 0 e.length)).length ≤ tabCount e.arg0) ∧ (s.entriesStatus e.arg0 e.offset (setEntries e.arg0 (slice e.param 0 e.length)) = 0) ∧ (c.taken + 1 ≠ c.count ∧ c.ring = n.val ∧ s.memberOf c.id (c.taken + 1) = none) ∧ (s.openCue n = some c)) ∧
    (let e := { Tests.entry (Tests.desc 2 0 9 5 65541 0 4096 59 []) with phase := .begun, reqs := [(4096, 5)] }; let s := { Tests.ringWith 1 e with obj := ⟨[(5, ⟨kPersonality, leBytes 4 64, 64, false, [9], [], none, none⟩)], [], []⟩ }; let n := (3 : RingIx); let b := [1, 2, 3, 4, 5]; let p := 9; (s.hostUp = true) ∧ (s.host.store.find? (fun x => x.ring = n.val && !x.reqs.isEmpty) = some e ∧ s.entry? e.id = some e) ∧ (e.opcode = opWrite ∧ e.reqs = [(e.hostAddr, e.length)] ∧ e.data = [] ∧ e.status = 0 ∧ e.yielded = []) ∧ (b.length = e.length ∧ e.offset + e.length ≤ 65535) ∧ (s.live e.handle = true ∧ (s.obj? (handleIdx e.handle)).kind = kPersonality) ∧ ((s.obj? (handleIdx e.handle)).pages = [p] ∧ (s.obj? (handleIdx e.handle)).sram = false) ∧ (s.mirrors = false)) := by
  refine ⟨?_, ?_, ?_, ?_, ?_, ?_, ?_, ?_, ?_, ?_⟩ <;> decide +kernel

/-- The hypotheses of `Management_descriptors` can be met, clause by clause. -/
theorem wit_Management_descriptors :
    (let e := Tests.entry (Tests.desc 0x12 0 9 0 0 0 0 0 (leBytes 4 0x210)); let s := Tests.ringWith 2 e; let n := (3 : RingIx); (s.canRun n e opCall) ∧ (s.producerStalled (.host n) = false) ∧ (s.callInvalid (callOfBytes e.param) 0 none = false ∧ (callOfBytes e.param).cls = clsSM) ∧ (s.findsSpace Src.rings (callOfBytes e.param) = true)) ∧
    (let e := Tests.entry (Tests.desc 0x13 0 9 0 65541 0 0 0 []); let s := { Tests.ringWith 1 e with obj := ⟨[(5, ⟨kCalstore, leBytes 4 1 ++ leBytes 1 1, 6, false, [9], [10], none, none⟩)], [], []⟩ }; let n := (3 : RingIx); (s.canRun n e opCompile) ∧ (s.producerStalled (.host n) = false) ∧ (s.mirrors = false) ∧ (s.slotSpace Src.rings (compileWord s e) = true)) ∧
    (let e := Tests.entry (Tests.desc 0x14 0 9 0 0 31 0 0 (leBytes 8 0 ++ leBytes 8 64 ++ leBytes 4 16 ++ leBytes 4 (2 + 2 * 8 + 1 * 512 + 1 * 4096))); let s := Tests.ringWith 2 e; let n := (3 : RingIx); (s.canRun n e opMove) ∧ (s.flyBusy (e.arg0 % 32) = false) ∧ (s.moveRefused e.param = false) ∧ (s.flyCheck e.param = 0) ∧ (Fly.count e.param ≠ 0)) ∧
    (let e := Tests.entry (Tests.desc 0x16 0 9 0 0 0 0 0 []); let s := Tests.ringWith 2 e; let n := (3 : RingIx); (s.canRun n e opPower) ∧ (s.pwr.seq = none) ∧ (e.arg0 = s.pwr.state)) ∧
    (let e := Tests.entry (Tests.desc 0x16 0 9 0 0 1 0 0 []); let s := Tests.ringWith 2 e; let n := (3 : RingIx); (s.canRun n e opPower) ∧ (s.pwr.seq = none ∧ s.pwr.state = psRun ∧ s.flag F.PWR_STATE.RET_FAULT = false) ∧ (e.arg0 = psIdle ∨ e.arg0 = psSleep ∨ e.arg0 = psOff)) ∧
    (let e := Tests.entry (Tests.desc 0x17 0 9 4096 0 0 8192 0 []); let s := { Tests.ringWith 2 e with host := { (Tests.ringWith 2 e).host with mrrs := 4096 } }; let n := (3 : RingIx); (s.canRun n e opUpdate) ∧ (e.length = 4096 ∧ e.hostAddr % 4096 = 0 ∧ s.host.mrrs = 4096)) ∧
    (let e := Tests.entry (Tests.desc 0x15 0 9 512 0 1 4096 0 []); let s := { Tests.ringWith 1 e with blk := { (Tests.ringWith 1 e).blk with report := [1, 2, 3] } }; let n := (3 : RingIx); (s.canRun n e opReport) ∧ (e.arg0 = 1)) ∧
    (let e := Tests.entry (Tests.desc 0x15 0 9 512 0 2 4096 0 []); let s := Tests.ringWith 1 e; let n := (3 : RingIx); (s.canRun n e opReport) ∧ (e.arg0 = 2) ∧ (16 ≤ e.length)) ∧
    (let e := Tests.entry (Tests.desc 0x15 0 9 512 0 3 4096 0 []); let s := Tests.ringWith 1 e; let n := (3 : RingIx); (s.canRun n e opReport) ∧ (e.arg0 = 3)) ∧
    (let e := Tests.entry (Tests.desc 0x15 0 9 48 0 4 4096 0 []); let s := { Tests.ringWith 1 e with obj := ⟨[(5, ⟨kCurve, [], 4096, false, [9], [], none, none⟩)], [], []⟩ }; let n := (3 : RingIx); (s.canRun n e opReport) ∧ (e.arg0 = 4)) := by
  refine ⟨?_, ?_, ?_, ?_, ?_, ?_, ?_, ?_, ?_, ?_⟩ <;> decide +kernel

end Sys2Proof.Machine
end

