-- ==== Sys2Proof/Tests/Witness2.lean ====
section
/-! SUPPORT. For each statement with hypotheses, a state and operands that meet them, clause by clause (part 2 of 4). -/

namespace Sys2Proof.Machine

set_option Elab.async false

/-- The hypotheses of `Stage_clocks` can be met, clause by clause. -/
theorem wit_Stage_clocks :
    (let s := (Tests.up.setFld (F.TIM_STEP_S.SEC 1) 5).setFld (F.TIM_STEP_NS.NS 1) 999999999; let x := StageClk.B; (s.evtUp = true) ∧ ((s.clk x).locked = false) ∧ (0 ≤ ((s.clk x).val : Int) + s.stepOffset x ∧ ((s.clk x).val : Int) + s.stepOffset x < (timeMod : Int)) ∧ (s.time.show_.locked = true ∨ (s.showSel ≠ x ∧ (s.clk s.showSel).locked = false)) ∧ (s.hasRoom Src.clocks = true)) ∧
    (let s := Tests.up.setClk .A { Tests.up.clk .A with locked := true }; let x := StageClk.A; (s.evtUp = true) ∧ ((s.clk x).locked = true) ∧ (s.hasRoom Src.clocks = true)) ∧
    (let s := Tests.up.setClk .B { Tests.up.clk .B with locked := true }; let x := StageClk.B; (s.evtUp = true) ∧ ((s.clk x).locked = true) ∧ (s.hasRoom Src.clocks = true)) ∧
    (let s := Tests.up.setClk .A { Tests.up.clk .A with arb := arbTrack }; let x := StageClk.A; let r := (2684354 : BitVec 23); (s.evtUp = true) ∧ ((s.clk x).arb = arbTrack) ∧ (-2684354 ≤ r.toInt ∧ r.toInt ≤ 2684354)) ∧
    (let s := Tests.up; let x := StageClk.B; let p := (fun i => if i = 0 then 6 else 1 : Fin 4 → BitVec 4); (s.evtUp = true) ∧ (∀ i : Fin 4, (p i).toNat ≤ 6) ∧ ((s.clk x).qual = []) ∧ ((s.clk x).arb = arbFreerun)) ∧
    (let s := Tests.up.setClk .A { Tests.up.clk .A with qual := [6] }; let x := StageClk.A; let p0 := (6 : BitVec 4); (s.evtUp = true) ∧ (1 ≤ p0.toNat ∧ p0.toNat ≤ 6) ∧ ((s.clk x).qual = [p0.toNat]) ∧ ((s.clk x).arb = arbFreerun) ∧ (s.hasRoom Src.clocks = true)) ∧
    (let s := Tests.up.setFld (F.TIM_STEP_S.SEC 1) (2 ^ 48 - 1); let x := StageClk.B; (s.evtUp = true ∧ s.hasRoom Src.clocks = true) ∧ ((s.clk x).locked = false) ∧ (((s.clk x).val : Int) + s.stepOffset x < 0)) ∧
    (let s := (Tests.up.setFld (F.TIM_STEP_S.SEC 0) 1).setClk .A { Tests.up.clk .A with val := timeMod - 1000000000 * 65536 }; let x := StageClk.A; (s.evtUp = true ∧ s.hasRoom Src.clocks = true) ∧ ((s.clk x).locked = false) ∧ ((timeMod : Int) ≤ ((s.clk x).val : Int) + s.stepOffset x)) ∧
    (let s := Tests.up.setShow { Tests.up.time.show_ with locked := true, val := 9 }; let x := StageClk.B; (s.evtUp = true) ∧ (s.showSel ≠ x) ∧ (s.time.show_.locked = true) ∧ (s.hasRoom Src.clocks = true)) ∧
    (let s := Tests.up.setShow { Tests.up.time.show_ with locked := true, val := 9 }; (s.evtUp = true) ∧ (s.time.show_.locked = true) ∧ ((s.clk s.showSel).locked = false) ∧ (s.hasRoom Src.clocks = true) ∧ (s.time.sched.running = false ∧ s.frames = [])) ∧
    (let s := Tests.up.setShow { Tests.up.time.show_ with locked := true, val := 9 }; (s.time.running = true) ∧ (s.time.show_.locked = true)) := by
  refine ⟨?_, ?_, ?_, ?_, ?_, ?_, ?_, ?_, ?_, ?_, ?_⟩ <;> decide +kernel

/-- The hypotheses of `References` can be met, clause by clause. -/
theorem wit_References :
    (let s := (Tests.up.setFld (F.TIM_REF_CFG.EN 4) 1).setFld (F.TIM_REF_CFG.AVG_LOG2 4) 3; let r := (4 : Fin 5); (s.refOn r = true) ∧ ((s.refSt r).last = none) ∧ ((s.refSt r).n + 1 < 2 ^ s.fld (F.TIM_REF_CFG.AVG_LOG2 r))) ∧
    (let s := (Tests.up.setFld (F.TIM_REF_CFG.EN 0) 1).setFld (F.TIM_REF_CFG.AVG_LOG2 0) 0; let r := (0 : Fin 5); (s.refOn r = true) ∧ ((s.refSt r).last = none) ∧ (s.fld (F.TIM_REF_CFG.AVG_LOG2 r) = 0 ∧ (s.refSt r).n = 0 ∧ (s.refSt r).sumA = 0)) ∧
    (let s := (Tests.up.setFld (F.TIM_REF_CFG.EN 4) 1).setFld (F.TIM_PRIO.P0 0) 6; let r := (4 : Fin 5); let x := StageClk.A; (s.refOn r = true) ∧ ((s.clk x).qual.contains (refCode r) = false) ∧ (s.prioList x = [refCode r]) ∧ ((s.clk x).arb = arbFreerun) ∧ (s.hasRoom Src.clocks = true)) ∧
    (let s := (Tests.up.setFld (F.TIM_REF_CFG.EN 4) 1).setClk .A { Tests.up.clk .A with qual := [6], arb := arbTrack, src := 6 }; let r := (4 : Fin 5); (s.refOn r = true) ∧ (s.time.a.qual = [refCode r] ∧ s.time.a.arb = arbTrack ∧ s.time.a.src = refCode r) ∧ (s.time.b.qual = []) ∧ (s.hasRoom Src.clocks = true)) ∧
    (let s := Tests.up.setClk .B { Tests.up.clk .B with qual := [1], arb := arbTrack, src := 1 }; let x := StageClk.B; (s.evtUp = true) ∧ ((s.clk x).arb = arbTrack ∧ (s.clk x).qual = [(s.clk x).src]) ∧ (s.hasRoom Src.clocks = true)) ∧
    (let s := Tests.up.setClk .B { Tests.up.clk .B with arb := arbHoldover }; let x := StageClk.B; (s.evtUp = true) ∧ ((s.clk x).arb = arbHoldover) ∧ (s.hasRoom Src.clocks = true)) ∧
    (let s := Tests.up; let x := StageClk.B; (s.evtUp = true) ∧ (s.flag (F.TIM_CTRL.PTP_OK (clkIx x)) = false) ∧ ((s.clk x).qual = [] ∧ (s.clk x).arb = arbFreerun) ∧ (s.prioList x = [])) := by
  refine ⟨?_, ?_, ?_, ?_, ?_, ?_, ?_⟩ <;> decide +kernel

/-- The hypotheses of `Ltc_and_pins` can be met, clause by clause. -/
theorem wit_Ltc_and_pins :
    (let s := Tests.up; let f := (⟨23, 59, 59, 29, true, 5⟩ : LtcFrame); (s.evtUp = true) ∧ (f.frame < 64 ∧ f.sec < 64 ∧ f.min < 64 ∧ f.hour < 32)) ∧
    (let s := { Tests.up with time := { Tests.up.time with ltcBad := 3 } }; (s.evtUp = true) ∧ (s.time.ltcBad = 3) ∧ (s.hasRoom Src.clocks = true)) ∧
    (let s := (Tests.up.setFld F.TIM_LTC_OUT_CFG.EN 1).setClk .A { Tests.up.clk .A with val := 3661 * secU }; let h := 1; let m := 1; let sec := 1; let f := 0; (s.evtUp = true) ∧ (s.flag F.TIM_LTC_OUT_CFG.EN = true) ∧ (ltcLabel s.showNow (signedOf 32 (s.rv R.TIM_LTC_OUT_OFFSET)) (s.fld F.TIM_LTC_OUT_CFG.RATE) = (h, m, sec, f))) ∧
    (let s := (Tests.up.setFld (F.TIM_CUEIO_CFG.MODE 15) 1).setFld (F.TIM_CUEIO_CFG.EDGE 15) 1; let pin := (15 : Ix16); let level := true; (s.evtUp = true) ∧ (s.flag (F.TIM_CUEIO_CFG.IN pin) ≠ level) ∧ (s.fld (F.TIM_CUEIO_CFG.MODE pin) = 1) ∧ (bit (s.fld (F.TIM_CUEIO_CFG.EDGE pin)) (if level then 0 else 1) = true) ∧ (s.hasRoom Src.trigger = true)) ∧
    (let s := ((Tests.up.setFld (F.TIM_TRIG_CTRL.ARM 255) 1).setFld (F.TIM_TRIG_CTRL.ACTION 255) 4).setFld (F.TIM_TRIG_CTRL.CLOCK 255) 1; let slot := (255 : Fin 256); (s.evtUp = true) ∧ (s.trigDue slot = true ∧ ∀ m : Nat, m < slot.val → s.trigDue m = false) ∧ (s.fld (F.TIM_TRIG_CTRL.ACTION slot) = 4) ∧ (s.fld (F.TIM_TRIG_PERIOD.PERIOD slot) = 0) ∧ ((s.trigClock slot).1 < s.trigTarget slot + (s.trigClock slot).2) ∧ (s.hasRoom Src.trigger = true)) ∧
    (let s := (((((((Tests.up.setFld (F.TIM_TRIG_CTRL.ARM 0) 1).setFld (F.TIM_TRIG_CTRL.ACTION 0) 2).setFld (F.TIM_TRIG_CTRL.CLOCK 0) 2).setFld (F.TIM_TRIG_CTRL.CUE_IO_PIN 0) 9).setFld (F.TIM_CUEIO_CFG.MODE 9) 2).setFld (F.TIM_TRIG_PERIOD.PERIOD 0) 1000000000).setFld (F.TIM_TRIG_TARGET_NS.TARGET_NS 0) 7).setClk .B { Tests.up.clk .B with val := 7 * nsU + 5 }; let slot := (0 : Fin 256); (s.evtUp = true) ∧ (s.trigDue slot = true ∧ ∀ m : Nat, m < slot.val → s.trigDue m = false) ∧ (s.fld (F.TIM_TRIG_CTRL.ACTION slot) = 2 ∧ s.fld (F.TIM_CUEIO_CFG.MODE (s.fld (F.TIM_TRIG_CTRL.CUE_IO_PIN slot))) = 2 ∧ s.pinOvertaken slot = false) ∧ (s.fld (F.TIM_TRIG_PERIOD.PERIOD slot) ≠ 0) ∧ ((s.trigClock slot).1 < s.trigTarget slot + (s.trigClock slot).2) ∧ ((s.trigClock slot).1 < s.trigTarget slot + s.fld (F.TIM_TRIG_PERIOD.PERIOD slot) * nsU)) := by
  refine ⟨?_, ?_, ?_, ?_, ?_, ?_⟩ <;> decide +kernel

/-- The hypotheses of `Call_posts` can be met, clause by clause. -/
theorem wit_Call_posts :
    (let s := Tests.up; let w := Tests.call kMgmt clsSM noFrame 1 2 3; let v := Tests.callVec w; let p := Producer.link 5; (s.evtUp = true) ∧ (callOfBytes (wordBytes v) = w ∧ callReserved (wordBytes v) = 0 ∧ w.child = false) ∧ (s.producerStalled p = false) ∧ (s.callInvalid w 0 none = false ∧ s.findsSpace (producerSource p) w = true)) ∧
    (let s := Tests.up; let w := Tests.call kMgmt clsRE noFrame 1 2 3; let v := Tests.callVec w; let n := (3 : Fin 4); (s.evtUp = true) ∧ (callOfBytes (wordBytes v) = w ∧ callReserved (wordBytes v) = 0 ∧ w.child = false) ∧ (s.producerStalled (.core n) = false) ∧ (s.callInvalid w 0 none = true) ∧ (s.hasRoom Src.callBoard = true)) ∧
    (let s := Tests.up.setFld F.CB_LIST_CAP.CAP 0; let w := Tests.call kMgmt clsSM noFrame 1 2 3; let v := Tests.callVec w; let n := (3 : Fin 4); (s.evtUp = true) ∧ (callOfBytes (wordBytes v) = w ∧ callReserved (wordBytes v) = 0 ∧ w.child = false) ∧ (s.producerStalled (.core n) = false) ∧ (s.callInvalid w 0 none = false ∧ s.findsSpace (Src.core n) w = false) ∧ (s.fld F.CB_MODE.MODE ≠ modeService)) ∧
    (let s := (Tests.up.setFld F.CB_LIST_CAP.CAP 0).setFld F.CB_MODE.MODE 1; let w := Tests.call kMgmt clsSM noFrame 1 2 3; let v := Tests.callVec w; let n := (3 : Fin 4); (s.evtUp = true) ∧ (callOfBytes (wordBytes v) = w ∧ callReserved (wordBytes v) = 0 ∧ w.child = false) ∧ (s.producerStalled (.core n) = false) ∧ (s.callInvalid w 0 none = false ∧ s.findsSpace (Src.core n) w = false) ∧ (s.fld F.CB_MODE.MODE = modeService)) ∧
    (let x := (⟨.core 1, Src.core 1, Tests.call kMgmt clsSM noFrame 1 2 3, 0, false⟩ : Stalled); let s := { Tests.up with cb := { Tests.up.cb with stalled := [x] } }; let p := Producer.core 1; (s.evtUp = true) ∧ (s.cb.stalled.find? (fun y => s.stalledFits y) = some x) ∧ (x.producer = p ∧ s.callInvalid x.word 0 none = false) ∧ (s.cb.behind = [])) ∧
    (let s := Tests.holding Tests.up (.fe 7) (Tests.call kCalCompile clsFE noFrame 1 2 3) false; let w := { Tests.call kCalCompile clsFE noFrame 1 2 3 with child := true }; let v := Tests.callVec w; let e := Engine.fe 7; let r := (⟨77, Tests.call kCalCompile clsFE noFrame 1 2 3, 0, 1, false, false, false⟩ : CallRec); (s.evtUp = true ∧ s.engineRuns (engineDomain (Engine.consumer e)) = true) ∧ (callOfBytes (wordBytes v) = w ∧ callReserved (wordBytes v) = 0 ∧ w.child = true) ∧ (s.heldCall (Engine.consumer e) = some r) ∧ (s.callInvalid w 0 (some (Engine.consumer e)) = false) ∧ (s.cb.queue.length + s.cb.handed.length + s.cb.held.length < 8192)) ∧
    (let s := Tests.calm; let e := Engine.fe 31; (s.evtUp = true ∧ s.engineRuns (engineDomain (Engine.consumer e)) = true) ∧ (s.heldCall (Engine.consumer e) = none ∧ s.serves (Engine.consumer e) = true) ∧ (s.cb.queue = [] ∧ s.cb.waiting.contains (Engine.consumer e) = false)) ∧
    (let r := (⟨77, Tests.call kRenderTile clsRE 5 0 0 0, 30, 0, false, false, false⟩ : CallRec); let s := { Tests.calm with cb := { Tests.calm.cb with queue := [r] } }; let e := Engine.re 15; (s.evtUp = true ∧ s.engineRuns (engineDomain (Engine.consumer e)) = true) ∧ (s.heldCall (Engine.consumer e) = none ∧ s.serves (Engine.consumer e) = true) ∧ (s.cb.waiting = [] ∧ s.cb.queue = [r]) ∧ (r.word.cls = (Engine.consumer e).cls ∧ r.word.prio < 8 ∧ (Engine.consumer e).own.contains r.list = true) ∧ (s.fld F.CB_MODE.MODE ≠ modeTest ∧ s.portBusy (Engine.consumer e) = false)) ∧
    (let i := Tests.item 0 true 1 0; let f := Tests.framePlan 5 1 [i, Tests.item 1 true 1 0]; let s := Tests.holding { Tests.up with frames := [f] } (.re 0) (Tests.call kRenderTile clsRE 5 0 0 0) true; let e := Engine.re 0; let r := (⟨77, Tests.call kRenderTile clsRE 5 0 0 0, 0, 1, false, false, true⟩ : CallRec); (s.evtUp = true ∧ s.engineRuns (engineDomain (Engine.consumer e)) = true) ∧ (s.heldCall (Engine.consumer e) = some r ∧ r.ran = true ∧ r.word.kind = kRenderTile) ∧ (s.cb.queue = [] ∧ s.cb.waiting.contains (Engine.consumer e) = false ∧ s.serves (Engine.consumer e) = true) ∧ (s.frame? r.word.frame = some f ∧ f.plan.find? (fun x => x.num = r.word.item ∧ x.render = true) = some i)) ∧
    (let s := Tests.up; let m := (3 : BitVec 2); (s.evtUp = true) ∧ (s.fld F.CB_MODE.MODE ≠ modeTest) ∧ (s.fld F.CB_MODE.MODE ≠ modeService ∨ m.toNat = modeService ∨ (s.cb.stalled = [] ∧ s.cb.behind = []))) ∧
    (let x := (⟨.core 1, Src.core 1, Tests.call kMgmt clsSM noFrame 1 2 3, 0, false⟩ : Stalled); let s := ({ Tests.up with cb := { Tests.up.cb with stalled := [x] } }).setFld F.CB_MODE.MODE 1; let n := (1 : Fin 4); let m := (0 : BitVec 2); (s.evtUp = true) ∧ (m.toNat ≠ modeService ∧ s.fld F.CB_MODE.MODE = modeService) ∧ (s.cb.stalled = [x] ∧ x.producer = .core n ∧ s.cb.behind = [])) ∧
    (let s := (Tests.up.setFld F.CB_MODE.MODE 2).setFld F.CB_CTRL.HOLD 1; let m := (1 : BitVec 2); (s.evtUp = true) ∧ (s.fld F.CB_MODE.MODE = modeTest ∧ m.toNat ≠ modeTest) ∧ (s.cb.queue = [])) := by
  refine ⟨?_, ?_, ?_, ?_, ?_, ?_, ?_, ?_, ?_, ?_, ?_, ?_⟩ <;> decide +kernel

/-- The hypotheses of `Core_call_ports` can be met, clause by clause. -/
theorem wit_Core_call_ports :
    (let s := Tests.holding Tests.up (.sm 3) (Tests.call kMgmt clsSM noFrame 1 2 3) false; let n := (3 : Fin 4); (s.evtUp = true) ∧ (s.cb.queue = [] ∧ s.cb.wdPend.contains n.val = false ∧ s.cb.waiting.contains (.sm n) = false)) ∧
    (let r := (⟨77, Tests.call kMgmt clsSM noFrame 0 0 0, 31, 0, false, false, false⟩ : CallRec); let s := { Tests.calm with cb := { Tests.calm.cb with queue := [r] } }; let n := (0 : Fin 4); (s.evtUp = true ∧ s.pwr.state ≠ 1) ∧ (s.cb.waiting = [] ∧ s.cb.queue = [r] ∧ s.cb.wdPend.contains n.val = false) ∧ (r.word.cls = clsSM ∧ r.word.prio < 8 ∧ r.list < 32) ∧ ((s.cb.held.filter (·.1 ≠ .sm n)).all (fun h => !(h.2.handoff && h.1.port == 9)) = true) ∧ (s.fld F.CB_MODE.MODE ≠ modeTest)) ∧
    (let s := { Tests.up with cb := { Tests.up.cb with wdPend := [2, 3] } }; let n := (3 : Fin 4); (s.evtUp = true) ∧ (s.cb.wdPend.contains n.val = true)) ∧
    (let s := Tests.up; let n := (3 : Fin 4); let a := Agent.core 2; (s.evtUp = true) ∧ (a ≠ .core n) ∧ (s.hasRoom Src.callBoard = true)) ∧
    (let s := { Tests.up with cb := { Tests.up.cb with waiting := [.sm 1, .re 3] } }; let n := (1 : Fin 4); (s.evtUp = true) ∧ (s.cb.waiting.contains (.sm n) = true)) ∧
    (let s := Tests.up; let n := (1 : Fin 4); (s.evtUp = true) ∧ (s.cb.waiting.contains (.sm n) = false)) ∧
    (let w := Tests.call kMgmt clsSM noFrame 1 2 3; let s := (List.range 8).foldl (fun s m => s.setRv (R.CB_POST_WORD 2 m) (fieldAt w.bytes (4 * m) 4)) Tests.up; let n := (2 : Fin 4); (s.evtUp = true) ∧ (callOfBytes (s.postWord n) = w ∧ callReserved (s.postWord n) = 0 ∧ w.child = false) ∧ (s.producerStalled (.core n) = false) ∧ (s.callInvalid w 0 none = false ∧ s.findsSpace (Src.core n) w = true)) ∧
    (let s := Tests.up; let n := (1 : Fin 4); let a := Agent.host; (s.evtUp = true) ∧ (a ≠ .core n)) := by
  refine ⟨?_, ?_, ?_, ?_, ?_, ?_, ?_, ?_⟩ <;> decide +kernel

/-- The hypotheses of `Frame_plan_and_posts` can be met, clause by clause. -/
theorem wit_Frame_plan_and_posts :
    (let s := Tests.holding { Tests.up with frames := [Tests.frame0 5] } .blk (Tests.call kFrameStart clsBLK 5 0 0 0) false; let r := (⟨77, Tests.call kFrameStart clsBLK 5 0 0 0, 0, 1, false, false, false⟩ : CallRec); let f := Tests.frame0 5; (s.evtUp = true) ∧ (s.heldCall .blk = some r ∧ r.word.kind = kFrameStart) ∧ (s.frame? r.word.frame = some f ∧ f.planned = false)) ∧
    (let i := Tests.item 3 true 0 0; let f := Tests.framePlan 5 1 [i]; let s := { Tests.up with frames := [f] }; (s.evtUp = true) ∧ (s.seqWaits = false ∧ nextPost s.frames = some (f, i)) ∧ (s.callInvalid (s.itemWord f i) 0 none = false ∧ s.findsSpace Src.blocking (s.itemWord f i) = true)) ∧
    (let i := Tests.item 3 true 0 0; let f := Tests.framePlan 5 1 [i]; let s := ({ Tests.up with frames := [f] }).setFld F.CB_LIST_CAP.CAP 0; (s.evtUp = true) ∧ (s.seqWaits = false ∧ nextPost s.frames = some (f, i)) ∧ (s.callInvalid (s.itemWord f i) 0 none = false ∧ s.findsSpace Src.blocking (s.itemWord f i) = false) ∧ (s.fld F.CB_MODE.MODE ≠ modeService ∧ s.frame? f.seq = some f ∧ s.hasRoom Src.blocking = true) ∧ (f.phase = 1 ∨ f.phase = 2)) ∧
    (let m := (⟨[4], 0, false, false, [9]⟩ : PageMove); let p := (4 : Nat); let q := (9 : Nat); let s := { Tests.up with blk := { Tests.up.blk with moves := [m] }, mem := { Tests.up.mem with hbm := [(4 * 65536 + 70, 5)] }, obj := ⟨[(5, ⟨kCurve, [], 4096, false, [4], [], none, none⟩)], [], []⟩ }; (s.evtUp = true ∧ s.powered .hbm = true) ∧ (s.blk.moves = [m] ∧ m.obj = 0 ∧ m.pages = [p] ∧ m.units = [q] ∧ m.toSram = false) ∧ (s.blk.waitEvac = [] ∧ s.blk.waitMig = [])) ∧
    (let s := Tests.up; (s.evtUp = true)) ∧
    (let s := Tests.holding (Tests.up.setFld F.BLK_HANG.LIMIT 7) (.fe 31) (Tests.call kCalCompile clsFE noFrame 1 2 3) false; let e := Engine.fe 31; let r := (⟨77, Tests.call kCalCompile clsFE noFrame 1 2 3, 0, 1, false, false, false⟩ : CallRec); (s.evtUp = true) ∧ (s.fld F.BLK_HANG.LIMIT ≠ 0 ∧ s.heldCall (Engine.consumer e) = some r) ∧ (bit (s.fld (healthFld (engineBit e).1)) (engineBit e).2 = true) ∧ (s.hasRoom Src.blocking = true)) ∧
    (let s := Tests.up; let e := Engine.re 15; (s.evtUp = true ∧ s.engineRuns (engineDomain (Engine.consumer e)) = true) ∧ (bit (s.fld (healthFld (engineBit e).1)) (engineBit e).2 = true) ∧ (s.hasRoom Src.blocking = true)) ∧
    (let s := { Tests.up with blk := { Tests.up.blk with parked := [7] } }; let k := (7 : Fin 8); (s.evtUp = true) ∧ (s.blk.parked.contains k.val = true ∧ s.clusterIdle k = true ∧ s.powered (.eng k) = true)) ∧
    (let s := { Tests.up with off := [.eng 7], blk := { Tests.up.blk with parked := [7], restoreReq := some 7 } }; let k := (7 : Fin 8); (s.evtUp = true) ∧ (s.blk.restoreReq = some k.val ∧ s.blk.parked.contains k.val = true)) := by
  refine ⟨?_, ?_, ?_, ?_, ?_, ?_, ?_, ?_, ?_⟩ <;> decide +kernel

/-- The hypotheses of `Engine_calls` can be met, clause by clause. -/
theorem wit_Engine_calls :
    (let s := { Tests.up with cb := { Tests.up.cb with handed := [⟨77, Tests.call kCalCompile clsFE noFrame 65541 0 0, 0, 0, false, false, false⟩] }, obj := ⟨[(5, ⟨kCalstore, leBytes 4 1 ++ leBytes 4 3, 18, false, [9], [10], none, none⟩)], [(5, 1)], []⟩ }; let r := (⟨77, Tests.call kCalCompile clsFE noFrame 65541 0 0, 0, 0, false, false, false⟩ : CallRec); let rest := ([] : List CallRec); (s.evtUp = true) ∧ (s.cb.handed = r :: rest ∧ s.live r.word.arg0 = true ∧ s.fix.comps = [])) ∧
    (let o := (⟨kCalstore, leBytes 4 1 ++ leBytes 4 3, 18, false, [9], [10], none, none⟩ : Obj); let c := { compNone with handle := 65541, phase := 1, todo := [(0, 1)] }; let r := (⟨77, Tests.call kCalCompile clsFE noFrame 65541 0 1, 0, 1, false, false, false⟩ : CallRec); let n := (31 : Fin 32); let s := Tests.holding { Tests.up with obj := ⟨[(5, o)], [(5, 1)], []⟩, fix := { Tests.up.fix with comps := [(5, c)] } } (.fe 31) (Tests.call kCalCompile clsFE noFrame 65541 0 1) false; (s.evtUp = true ∧ s.engineRuns (engineDomain (.fe n)) = true) ∧ (s.toRun (.fe n) kCalCompile = some r ∧ s.comp? (handleIdx r.word.arg0) = some c ∧ s.obj? (handleIdx r.word.arg0) = o) ∧ (c.handle = r.word.arg0 ∧ c.phase = 1 ∧ r.word.arg3 = 0 ∧ r.word.children = 0 ∧ r.word.arg2 = 1) ∧ ((s.consumeAll ((binCws o r.word.arg1).dedup)).2 = []) ∧ (s.fld F.OBJ_INJECT.MODE = 0) ∧ (((List.range (calRecord (calEmitters o.param))).map (recordPlace o (1 - (s.cal (handleIdx r.word.arg0)).bank) r.word.arg1)).Nodup)) ∧
    (let s := Tests.holding { Tests.up with frames := [Tests.framePlan 5 1 [Tests.item 0 true 1 0]] } (.re 0) (Tests.call kRenderTile clsRE 5 0 0 0) false; let n := (0 : Fin 16); let r := (⟨77, Tests.call kRenderTile clsRE 5 0 0 0, 0, 1, false, false, false⟩ : CallRec); let f := Tests.framePlan 5 1 [Tests.item 0 true 1 0]; (s.evtUp = true ∧ s.engineRuns (engineDomain (.re n)) = true) ∧ (s.toRun (.re n) kRenderTile = some r ∧ (s.heldTiles n).length < 7 ∧ s.frame? r.word.frame = some f)) ∧
    (let h := (⟨0, 5, [7, 8]⟩ : HeldTile); let p := (⟨3, 9⟩ : TileSt); let f := { Tests.framePlan 5 1 [Tests.item 0 true 2 0] with snap := { (Tests.frame0 5).snap with tiles := [(0, some p)] } }; let n := (15 : Fin 16); let rest := ([] : List HeldTile); let s := { Tests.up with frames := [f], cmp := { Tests.up.cmp with held := [(15, [h])] } }; (s.evtUp = true ∧ s.engineRuns (engineDomain (.re n)) = true) ∧ (s.heldTiles n = h :: rest ∧ s.fenceOver h = true) ∧ (s.frame? h.frame = some f ∧ f.snap.tiles.get none h.item = some p) ∧ (p.page0 ≠ p.page1 ∧ h.bytes.length ≤ 131072 ∧ s.fld F.OBJ_INJECT.MODE = 0)) ∧
    (let s := Tests.holding { Tests.up with frames := [Tests.framePlan 5 2 [Tests.item 0 false 1 0]] } (.fe 31) (Tests.call kPass1 clsFE 5 0 0 2) false; let n := (31 : Fin 32); let r := (⟨77, Tests.call kPass1 clsFE 5 0 0 2, 0, 1, false, false, false⟩ : CallRec); let f := Tests.framePlan 5 2 [Tests.item 0 false 1 0]; (s.evtUp = true ∧ s.engineRuns (engineDomain (.fe n)) = true) ∧ (s.toRun (.fe n) kPass1 = some r ∧ s.frame? r.word.frame = some f ∧ isRange r.word.item = false)) ∧
    (let s := Tests.holding { Tests.up with frames := [Tests.framePlan 5 2 [Tests.item 4194304 false 1 0]] } (.fe 31) (Tests.call kPass1 clsFE 5 4194304 0 2) false; let n := (31 : Fin 32); let r := (⟨77, Tests.call kPass1 clsFE 5 4194304 0 2, 0, 1, false, false, false⟩ : CallRec); let f := Tests.framePlan 5 2 [Tests.item 4194304 false 1 0]; (s.evtUp = true ∧ s.engineRuns (engineDomain (.fe n)) = true) ∧ (s.toRun (.fe n) kPass1 = some r ∧ s.frame? r.word.frame = some f ∧ isRange r.word.item = true)) ∧
    (let f := { Tests.framePlan 5 3 [Tests.item 0 false 2 1] with feeds := [(0, ⟨0, 0, 0, 1⟩)] }; let s := Tests.holding { Tests.up with frames := [f] } (.fe 31) (Tests.call kPass2 clsFE 5 0 0 2) false; let n := (31 : Fin 32); let r := (⟨77, Tests.call kPass2 clsFE 5 0 0 2, 0, 1, false, false, false⟩ : CallRec); (s.evtUp = true ∧ s.engineRuns (engineDomain (.fe n)) = true) ∧ (s.toRun (.fe n) kPass2 = some r ∧ s.frame? r.word.frame = some f ∧ isRange r.word.item = false) ∧ (f.outcome (Sf.feed (f.cfg.entry tSurface (r.word.item / 1024))) = outPass)) ∧
    (let f := { Tests.framePlan 5 3 [Tests.item 0 false 2 1] with feeds := [(0, ⟨0, 0, 0, 3⟩)] }; let s := Tests.holding { Tests.up with frames := [f], fix := { Tests.up.fix with drive := [(driveKey 0 0 0, zeros 8), (driveKey 0 0 1, zeros 8)] } } (.fe 31) (Tests.call kPass2 clsFE 5 0 0 1) false; let n := (31 : Fin 32); let r := (⟨77, Tests.call kPass2 clsFE 5 0 0 1, 0, 1, false, false, false⟩ : CallRec); (s.evtUp = true ∧ s.engineRuns (engineDomain (.fe n)) = true) ∧ (s.toRun (.fe n) kPass2 = some r ∧ s.frame? r.word.frame = some f ∧ isRange r.word.item = false ∧ r.word.arg2 = 1) ∧ (f.outcome (Sf.feed (f.cfg.entry tSurface (r.word.item / 1024))) = outDark)) := by
  refine ⟨?_, ?_, ?_, ?_, ?_, ?_, ?_, ?_⟩ <;> decide +kernel

/-- The hypotheses of `Frame_deadlines` can be met, clause by clause. -/
theorem wit_Frame_deadlines :
    (let s := { Tests.up with time := { Tests.up.time with sched := { Tests.up.time.sched with running := true, num := 60, den := 1, k := 1000, seq := 12 } } }; (s.showRuns = true ∧ s.time.sched.running = true) ∧ (s.understudy = false ∧ s.mirrors = false) ∧ (s.frames.all (fun g => decide (g.seq < s.time.sched.seq)) = true)) ∧
    (let s := { Tests.calm with time := { Tests.up.time with sched := { Tests.up.time.sched with running := true, num := 60, den := 1, k := 1000, seq := 12 } } }; let w := (⟨kFrameStart, clsBLK, 7, 0, false, false, 0, Src.trigger, 0xFFFF, s.time.sched.seq, nsOf (s.time.sched.instant s.time.sched.k).toNat, secOf (s.time.sched.instant s.time.sched.k).toNat % 2 ^ 32, secOf (s.time.sched.instant s.time.sched.k).toNat / 2 ^ 32 % 2 ^ 16, 0⟩ : CallWord); (s.showRuns = true ∧ s.time.sched.running = true) ∧ (s.understudy = false ∧ s.mirrors = false) ∧ (s.cues = [] ∧ s.sacnDue = false) ∧ (s.producerStalled .schedule = false ∧ s.cb.queue = [] ∧ s.cb.held = [] ∧ s.cb.handed = [] ∧ s.cb.waiting = []) ∧ (0 < s.fld F.CB_LIST_CAP.CAP) ∧ (w = ⟨kFrameStart, clsBLK, 7, 0, false, false, 0, Src.trigger, 0xFFFF, s.time.sched.seq, nsOf (s.time.sched.instant s.time.sched.k).toNat, secOf (s.time.sched.instant s.time.sched.k).toNat % 2 ^ 32, secOf (s.time.sched.instant s.time.sched.k).toNat / 2 ^ 32 % 2 ^ 16, 0⟩)) ∧
    (let f := Tests.framePlan 5 1 [Tests.item 0 true 0 0]; let s := { Tests.up with frames := [f] }; (s.evtUp = true) ∧ (s.frames.find? (fun g => !g.sendPassed) = some f)) ∧
    (let f := Tests.framePlan 5 1 [Tests.item 0 true 0 0, Tests.item 1 true 1 0, Tests.item 0 false 0 0]; let s := { Tests.up with frames := [f] }; (s.evtUp = true) ∧ (s.frames = [f] ∧ f.sendPassed = false ∧ f.phase < 4 ∧ f.late = false) ∧ ((f.plan.filter Item.unposted).length ≠ 0) ∧ (s.hasRoom Src.trigger = true)) ∧
    (let f := { Tests.framePlan 5 4 [] with sendPassed := true }; let s := { Tests.up with frames := [f, Tests.frame0 6] }; (s.evtUp = true) ∧ (s.frames.head? = some f ∧ f.sendPassed = true)) ∧
    (let e := Tests.entry (Tests.desc 6 0 9 0 0 0 0 0 []); let id := (7 : Nat); let f := { Tests.framePlan 5 4 [] with sendPassed := true, cues := [7] }; let s := { Tests.ringWith 1 e with frames := [f] }; (s.evtUp = true) ∧ (s.frames.head? = some f ∧ f.sendPassed = true ∧ f.abandoned = false ∧ f.phase = 4 ∧ (f.dropped = [] ∨ f.late = true)) ∧ (f.cues = [id] ∧ s.entry? id = some e)) ∧
    (let f := { Tests.frame0 5 with waits := true }; let s := { Tests.up with frames := [f] }; (s.evtUp = true) ∧ (s.waitingFrame = some f ∧ (s.frames.filter (·.waits)).all (fun g => g.seq == f.seq) = true) ∧ (s.hasRoom Src.tandem = true)) := by
  refine ⟨?_, ?_, ?_, ?_, ?_, ?_, ?_⟩ <;> decide +kernel

/-- The hypotheses of `Push_passes` can be met, clause by clause. -/
theorem wit_Push_passes :
    (let f := Tests.framePlan 5 4 []; let s := { Tests.up with frames := [f] }; let l := (63 : LinkIx); (s.evtUp = true) ∧ (s.passOf l = none ∧ s.nextPass l = some f)) ∧
    (let p := Tests.pass0; let f := { Tests.framePlan 9 4 [] with begun := [5] }; let s := { Tests.up with frames := [f], psh := [(5, ⟨[], some p, false, [], false, []⟩)] }; let l := (5 : LinkIx); let k := tileKey 0 0 0; (s.evtUp = true) ∧ (s.passOf l = some p ∧ s.frame? p.frame = some f ∧ p.bufferFree = true ∧ p.units[p.next]? = some k)) ∧
    (let u := newBuf (tileKey 0 0 0) [1, 2, 3, 4] false 0; let p := { Tests.pass0 with next := 1, sendQ := [u] }; let f := { Tests.framePlan 9 4 [] with begun := [5] }; let s := { Tests.linkOn Tests.up 5 with frames := [f], psh := [(5, ⟨[], some p, false, [], false, []⟩)] }; let l := (5 : LinkIx); let rest := ([] : List UnitBuf); (s.linkTalks l = true ∧ s.linkActive l = true) ∧ (s.passOf l = some p ∧ p.sendQ = u :: rest ∧ s.frame? p.frame = some f) ∧ (s.isHead f = true ∧ (s.link l).wait = [] ∧ s.mayBuffer l (regionPayload f u) = true)) ∧
    (let s := { Tests.linkOn Tests.up 5 with psh := [(5, ⟨[(4097, ⟨some 77, none, 9⟩)], none, false, [], false, [(4097, 9)]⟩)] }; let l := (5 : LinkIx); let node := (9 : BitVec 16); let kind := (0 : Byte); let id := (4097 : Word); let hash := (77 : BitVec 64); let k := (4097 : Nat); (s.linkTalks l = true) ∧ (ackKey kind.toNat id.toNat node.toNat = some k ∧ (s.push l).walked.contains (k, node.toNat) = true) ∧ (((s.push l).units.get unitNone k).sent = some hash.toNat)) ∧
    (let s := Tests.linkOn Tests.up 5; let l := (5 : LinkIx); let node := (0 : BitVec 16); let kind := (2 : Byte); let id := (4097 : Word); let hash := (77 : BitVec 64); (s.linkTalks l = true) ∧ ((ackKey kind.toNat id.toNat node.toNat).all (fun k => !((s.push l).walked.contains (k, node.toNat) &&
      ((s.push l).units.get unitNone k).sent == some hash.toNat)) = true)) ∧
    (let u := newBuf (tileKey 0 0 0) [1, 2, 3, 4] false 0; let p := { Tests.pass0 with next := 1, waiting := [u] }; let f := { Tests.framePlan 9 4 [] with begun := [5] }; let s := { Tests.up with frames := [f], psh := [(5, ⟨[], some p, false, [], false, []⟩)] }; let l := (5 : LinkIx); let rest := ([] : List UnitBuf); (s.evtUp = true) ∧ (s.passOf l = some p ∧ p.waiting = u :: rest ∧ s.frame? p.frame = some f) ∧ (p.caught = false ∧ u.retries < Ps.retries (f.cfg.entry tPush l))) ∧
    (let u := newBuf (tileKey 0 0 0) [1, 2, 3, 4] true 200; let p := { Tests.pass0 with next := 1, waiting := [u] }; let f := { Tests.framePlan 9 4 [] with begun := [5] }; let s := { Tests.up with frames := [f], psh := [(5, ⟨[], some p, false, [], false, []⟩)] }; let l := (5 : LinkIx); let rest := ([] : List UnitBuf); (s.evtUp = true) ∧ (s.passOf l = some p ∧ p.waiting = u :: rest ∧ s.frame? p.frame = some f) ∧ (p.caught = false ∧ Ps.retries (f.cfg.entry tPush l) ≤ u.retries ∧ (s.push l).noAckTold = false) ∧ (s.hasRoom Src.psh = true)) ∧
    (let f := { Tests.framePlan 9 4 [] with begun := [5], finished := [5] }; let s := { Tests.linkOn Tests.up 5 with frames := [f] }; let l := (5 : LinkIx); (s.linkTalks l = true ∧ s.linkActive l = true ∧ s.curtainOn l = false) ∧ (s.frames.head? = some f ∧ f.finished.contains l.val = true ∧ f.goSent.contains l.val = false ∧ f.sendPassed = false) ∧ (Tm.dropAll (f.cfg.entry tTiming 0) = false)) ∧
    (let s := Tests.up; (s.evtUp = true)) ∧
    (let s := Tests.up.setRv (R.SPT_HIST 47 3) 77; (s.evtUp = true)) := by
  refine ⟨?_, ?_, ?_, ?_, ?_, ?_, ?_, ?_, ?_, ?_⟩ <;> decide +kernel

/-- The hypotheses of `Lamp_elements_and_ports` can be met, clause by clause. -/
theorem wit_Lamp_elements_and_ports :
    (let x := Tests.sigFrame0; let s := { Tests.sigUp with sig := [(0, { sigReset with next := [x], rate := (60, 1) })] }; let n := (0 : Ix16); (s.evtUp = true) ∧ (s.flag (F.SIG_CFG.ENABLE n) = true ∧ s.understudy = false ∧ s.cur.retSig.contains n.val = false ∧ s.sigCurtain n = false) ∧ (((s.sigSt n).next.filter (fun y => decide (y.frame ≤ s.fld F.TIM_FRAME_SEQ.SEQ))).getLast? = some x)) ∧
    (let x := Tests.sigFrame0; let s := { Tests.sigUp with sig := [(0, { sigReset with next := [x] })] }; let n := (0 : Ix16); let v := (1023 : SenseCode); (s.evtUp = true) ∧ (s.flag (F.SIG_CFG.ENABLE n) = true ∧ s.understudy = false ∧ s.cur.retSig.contains n.val = false ∧ s.sigCurtain n = false) ∧ (((s.sigSt n).next.filter (fun y => decide (y.frame ≤ s.fld F.TIM_FRAME_SEQ.SEQ))).getLast? = some x) ∧ (s.fld (F.SIG_THRESH.SHORT n) < v.toNat ∧ s.hasRoom (Src.sig n) = true)) ∧
    (let s := Tests.up; let n := (15 : Ix16); (s.evtUp = true) ∧ (s.flag (F.SIG_CFG.ENABLE n) = false ∧ s.sigCurtain n = false)) ∧
    (let x := Tests.sigFrame0; let s := { Tests.sigUp with sig := [(0, { sigReset with cur := some x, running := true, pwm := [(1, 900)] })] }; let n := (0 : Ix16); (s.evtUp = true) ∧ (s.flag (F.SIG_CFG.ENABLE n) = true ∧ s.understudy = false ∧ s.sigCurtain n = false) ∧ ((s.sigSt n).cur = some x ∧ (s.sigSt n).running = true ∧ (s.sigSt n).slot < pwmSlots x.prof)) ∧
    (let x := Tests.sigFrame0; let s := { Tests.sigUp with sig := [(0, { sigReset with cur := some x, running := true, slot := 70000, tests := [2] })] }; let n := (0 : Ix16); let p := (2 : Nat); let rest := ([] : List Nat); (s.evtUp = true) ∧ (s.flag (F.SIG_CFG.ENABLE n) = true ∧ s.understudy = false ∧ s.sigCurtain n = false) ∧ ((s.sigSt n).cur = some x ∧ (s.sigSt n).running = true ∧ pwmSlots x.prof ≤ (s.sigSt n).slot) ∧ ((s.sigSt n).tests = p :: rest ∧ testSlots x.prof ≤ (s.sigSt n).tslot + 1 ∧ s.sigHeld n p = false ∧ p < 16)) ∧
    (let s := Tests.up.setFld F.CUR_SEL_SIG.SIG 32768; let n := (15 : Ix16); (s.evtUp = true) ∧ (s.understudy = false ∧ s.sigCurtain n = true)) ∧
    (let s := Tests.up.setFld F.LMP_FUNC_OFF.FUNC (2 ^ 63 + 4); let f := (63 : Fin 64); let mask := (BitVec.ofNat 64 (2 ^ 63)); (s.evtUp = true) ∧ (mask.toNat = 2 ^ f.val ∧ s.funcIsOff f = true) ∧ (s.failed.any (fun e => s.funcOf e.surface = f) = false)) ∧
    (let s := { (Tests.sigUp.setFld F.LMP_FUNC_OFF.FUNC 4).setFld F.LMP_CTRL.FUNC_EN 1 with lmp := ⟨[(0, some ⟨0, 1, 2, 1, true, 5, 0, 0⟩)], []⟩ }; let f := (0 : Fin 64); let mask := (1 : BitVec 64); (s.evtUp = true) ∧ (mask.toNat = 2 ^ f.val ∧ s.flag F.LMP_CTRL.FUNC_EN = true) ∧ (s.failed.any (fun e => s.funcOf e.surface = f) = true)) ∧
    (let s := { Tests.up with lmp := ⟨[(1023, some ⟨3, 1, 2, 1, true, 5, 0, 0⟩)], []⟩ }; let i := (1023 : BitVec 10); let e := (⟨3, 1, 2, 1, true, 5, 0, 0⟩ : FailEnt); (s.evtUp = true) ∧ (s.lmp.fails.get none i.toNat = some e ∧ e.node = true)) ∧
    (let s := ({ Tests.up with lmp := ⟨[(0, some ⟨3, 1, 2, 1, false, 0, 15, 15⟩)], []⟩ }).setFld (F.SIG_STATE.FAILED 15) 32768; let i := (0 : BitVec 10); let e := (⟨3, 1, 2, 1, false, 0, 15, 15⟩ : FailEnt); (s.evtUp = true) ∧ (s.lmp.fails.get none i.toNat = some e ∧ e.node = false ∧ s.sigFailed e.port e.pos = true ∧ e.port < 16 ∧ e.pos < 16)) ∧
    (let s := Tests.up.setFld (F.SIG_STATE.FAILED 15) 32769; (s.evtUp = true)) ∧
    (let s := Tests.linkOn Tests.up 5; let l := (5 : LinkIx); let surface := (4095 : BitVec 16); let lamp := (67108863 : Word); let em := (7 : Byte); let res := (1 : Byte); let e := (⟨4095, 67108863, 7, 1, true, 5, 0, 0⟩ : FailEnt); (s.linkTalks l = true) ∧ (e = ⟨surface.toNat % 4096, lamp.toNat % 2 ^ 26, em.toNat % 8, res.toNat, true, l, 0, 0⟩) ∧ (s.failed.any (fun x => FailEnt.same x e) = false) ∧ ((List.range 1024).any (fun i => (s.lmp.fails.get none i).isNone) = true) ∧ (s.hasRoom Src.lmp = true)) := by
  refine ⟨?_, ?_, ?_, ?_, ?_, ?_, ?_, ?_, ?_, ?_, ?_, ?_⟩ <;> decide +kernel

/-- The hypotheses of `Link_training` can be met, clause by clause. -/
theorem wit_Link_training :
    (let s := (Tests.up.setFld (F.CL_TXL_GEN.EN 65 2) 1).setFld (F.CL_RXL_CHK.EN 65 1) 1; let l := (65 : AnyLink); (s.linkUp l = true) ∧ (s.linkState l = lkDisabled)) ∧
    (let s := Tests.linkAt Tests.up 0 3; let l := (0 : AnyLink); (s.linkUp l = true) ∧ (s.linkState l ≠ lkDisabled)) ∧
    (let s := (Tests.linkOn Tests.up 63).setFld (F.CL_DELAY.VALUE 63) 99; let l := (63 : AnyLink); (s.linkUp l = true) ∧ (s.linkActive l = true ∧ s.hasRoom (Src.link l) = true)) ∧
    (let s := Tests.linkAt Tests.up 63 5; let l := (63 : AnyLink); (s.linkUp l = true) ∧ (s.linkActive l = false)) ∧
    (let s := Tests.linkOn Tests.up 63; let l := (63 : AnyLink); (s.linkUp l = true) ∧ (s.linkActive l = true ∧ s.hasRoom (Src.link l) = true)) ∧
    (let s := Tests.linkAt Tests.up 63 1; let l := (63 : AnyLink); (s.linkUp l = true) ∧ (s.linkState l < lkClock)) ∧
    (let s := (Tests.linkAt Tests.up 64 1).setFld (F.CL_LANE_MAP.TX_L0 64) 2; let l := (64 : AnyLink); (s.linkUp l = true) ∧ (s.linkState l = lkDetect)) ∧
    (let s := (Tests.linkAt Tests.up 64 1).setFld (F.CL_CTRL.EXPECTED 64) 1; let l := (64 : AnyLink); (s.linkUp l = true) ∧ (s.linkState l = lkDetect ∧ (s.link l).absentTold = false ∧ s.flag (F.CL_CTRL.EXPECTED l) = true) ∧ (s.hasRoom (Src.link l) = true)) ∧
    (let s := Tests.linkAt Tests.up 64 2; let l := (64 : AnyLink); (s.linkUp l = true) ∧ (s.linkState l = lkClock)) ∧
    (let s := Tests.linkAt Tests.up 64 3; let l := (64 : AnyLink); let h0 := (List.replicate 64 1 : List (BitVec 2)); let h1 := (List.replicate 64 2 : List (BitVec 2)); let x := alignBlock 0 1 9 0; let a := (⟨3, List.replicate 512 0, 0xE⟩ : LaneRun); let b := (⟨3, List.replicate 16 0 ++ [9] ++ List.replicate 495 0, 0x1C⟩ : LaneRun); let c := (⟨3, List.replicate 512 0, 0xE⟩ : LaneRun); let d := (⟨3, List.replicate 512 0, 0xE000⟩ : LaneRun); let pa := (2 : Nat); let pb := (3 : Nat); let pc := (2 : Nat); let pd := (14 : Nat); (s.linkUp l = true ∧ s.nodeSide l = false) ∧ (s.linkState l = lkAlign ∧ headLock h0 = true ∧ headLock h1 = true ∧ alignFlag x 0 = true) ∧ (a.whole = true ∧ b.whole = true ∧ c.whole = true ∧ d.whole = true) ∧ (a.phases = [pa] ∧ b.phases = [pb] ∧ c.phases = [pc] ∧ d.phases = [pd]) ∧ (runsAgree (a.settings pa) (b.settings pb) = true ∧ runsAgree (c.settings pc) (d.settings pd) = false)) ∧
    (let s := Tests.linkAt Tests.up 64 4; let l := (64 : AnyLink); (s.linkUp l = true ∧ s.nodeSide l = false) ∧ (s.linkState l = lkReturn)) ∧
    (let s := Tests.linkAt (Tests.up.setFld F.TDM_STATE.ROLE roleUnderstudy) 64 3; let l := (64 : AnyLink); (s.linkUp l = true ∧ s.nodeSide l = true) ∧ (s.linkState l = lkAlign)) ∧
    (let s := Tests.linkAt Tests.up 64 6; let l := (64 : AnyLink); (s.linkUp l = true) ∧ (lkClock ≤ s.linkState l ∧ s.linkState l ≤ lkIdent) ∧ (s.hasRoom (Src.link l) = true)) ∧
    (let s := Tests.linkAt Tests.up 64 2; let l := (64 : AnyLink); (s.linkUp l = true) ∧ (lkClock ≤ s.linkState l ∧ s.linkState l ≤ lkIdent) ∧ (s.hasRoom (Src.link l) = true)) ∧
    (let s := Tests.linkOn Tests.up 0; let l := (0 : AnyLink); (s.linkUp l = true) ∧ (s.linkActive l = true ∧ s.hasRoom (Src.link l) = true)) ∧
    (let s := Tests.linkOn Tests.up 0; let l := (0 : AnyLink); let b := (List.replicate 48 idleBlock ++ List.replicate 16 ⟨3, 0⟩ : List Block); (s.linkUp l = true) ∧ (s.linkActive l = true ∧ s.hasRoom (Src.link l) = true) ∧ (lockLost b = true)) := by
  refine ⟨?_, ?_, ?_, ?_, ?_, ?_, ?_, ?_, ?_, ?_, ?_, ?_, ?_, ?_, ?_, ?_⟩ <;> decide +kernel

end Sys2Proof.Machine
end

