-- ==== Sys2Proof/Tests/Witness3.lean ====
section
/-! SUPPORT. For each statement with hypotheses, a state and operands that meet them, clause by clause (part 3 of 4). -/

namespace Sys2Proof.Machine

set_option Elab.async false

/-- The hypotheses of `Link_frames_and_delay` can be met, clause by clause. -/
theorem wit_Link_frames_and_delay :
    (let s := Tests.linkOn Tests.up 65; let l := (65 : AnyLink); (s.linkUp l = true) ∧ (s.linkState l = lkDelay ∨ s.linkActive l = true) ∧ ((s.link l).echoSent < s.echoCount l ∧ (s.curtainOn l && s.linkActive l) = false)) ∧
    (let s := (Tests.linkOn Tests.up 65).setLink 65 { linkReset with echoSent := 16, echoTags := [3], echoVals := [5] }; let l := (65 : AnyLink); (s.linkUp l = true) ∧ (s.linkState l = lkDelay ∨ s.linkActive l = true) ∧ (s.echoCount l ≤ (s.link l).echoSent ∧ (s.curtainOn l && s.linkActive l) = false)) ∧
    (let s := (Tests.linkOn Tests.up 5).setLink 5 { linkReset with echoTags := [7, 8] }; let l := (5 : AnyLink); let tag := (8 : Word); (s.linkTalks l = true) ∧ ((s.link l).echoTags.contains tag.toNat = true) ∧ ((s.link l).echoVals.length + 1 < s.echoCount l)) ∧
    (let s := (Tests.linkAt Tests.up 5 5).setLink 5 { linkReset with echoTags := [7], echoVals := List.replicate 63 1000 }; let l := (5 : AnyLink); let tag := (7 : Word); let turn := (0 : Word); let rtt := (1064 : Nat); let v := List.replicate 63 (1000 : Int) ++ [1064]; (s.linkTalks l = true) ∧ (s.linkState l = lkDelay ∧ (s.link l).echoTags.contains tag.toNat = true) ∧ (v = (s.link l).echoVals ++ [(rtt : Int) - 64 * (turn.toNat : Int)] ∧ v.length = 64 ∧ echoSpread v ≤ 64)) ∧
    (let s := (((Tests.linkOn Tests.up 5).setFld (F.CL_CFG_CMD.COUNT 5) 2).setFld (F.CL_CFG_ADDR.ADDR 5) 10); let l := (5 : LinkIx); (s.linkUp l = true) ∧ (s.fld (F.CL_CFG_STATUS.BUSY l) = 0 ∧ s.linkActive l = true ∧ s.fld (F.CL_CFG_CMD.OP l) = 0) ∧ ((s.link l).wait = [] ∧ 1 ≤ s.fld (F.CL_CRED_HELD.COUNT l) ∧ s.curtainOn l = false)) ∧
    (let s := Tests.linkOn Tests.up 5; let l := (5 : LinkIx); (s.linkUp l = true) ∧ (s.linkActive l = true ∧ s.claimOn l ≠ 0 ∧ s.curtainOn l = false)) ∧
    (let s := Tests.linkAt Tests.up 5 7; let l := (5 : LinkIx); (s.linkUp l = true) ∧ (s.linkActive l = true ∧ s.claimOn l = 0)) ∧
    (let s := (Tests.linkOn Tests.up 0).setFld (F.CL_CRED_OUT.COUNT 0) 1; let l := (0 : AnyLink); (s.linkUp l = true) ∧ (s.linkActive l = true ∧ 0 < s.fld (F.CL_CRED_OUT.COUNT l) ∧ s.hasRoom (Src.link l) = true)) ∧
    (let s := (Tests.linkOn Tests.up 5).setLink 5 { linkReset with costs := [(65534, 1), (65535, 3), (0, 8)], txSeq := 1 }; let l := (5 : AnyLink); let h := (⟨3, 0⟩ : UpHdr); (s.linkTalks l = true) ∧ (s.linkActive l = true ∧ (s.link l).wait = [] ∧ s.fld (F.CL_CAL_STATE.MAP_PENDING l) = 0) ∧ (s.role = rolePrincipal → showClaim h.claim.toNat = false)) ∧
    (let s := Tests.linkAt Tests.up 65 5; let l := (65 : AnyLink); let b := (frameBlocks 0x86 3 0 (zeros 8)).dropLast ++ [controlBlock btTerm [1, 2, 3, 4]]; (s.linkTalks l = true) ∧ (frameBad (s.rxLengths l) b = true)) ∧
    (let s := ((Tests.linkOn Tests.up 5).setLink 5 { linkReset with cfg := [(9, .mailbox false)] }).setFld (F.CL_CFG_STATUS.BUSY 5) 1; let l := (5 : AnyLink); let tag := (9 : BitVec 16); (s.linkTalks l = true) ∧ ((s.link l).cfg = [(tag.toNat, .mailbox false)] ∧ (s.link l).wait = [])) ∧
    (let s := ((Tests.linkOn Tests.up 5).setLink 5 { linkReset with cfg := [(9, .mailbox true)] }).setFld (F.CL_CFG_STATUS.BUSY 5) 1; let l := (5 : AnyLink); let tag := (9 : BitVec 16); let r := (2 : Byte); let op := true; (s.linkTalks l = true) ∧ ((s.link l).cfg = [(tag.toNat, .mailbox op)] ∧ (s.link l).wait = [] ∧ 1 ≤ r.toNat ∧ r.toNat ≤ 2)) ∧
    (let s := ((Tests.linkOn Tests.up 5).setLink 5 { linkReset with cfg := [(9, .mailbox false)] }).setFld (F.CL_CFG_STATUS.BUSY 5) 1; let l := (5 : AnyLink); let tag := (9 : Nat); let op := false; (s.linkUp l = true) ∧ ((s.link l).cfg = [(tag, .mailbox op)] ∧ (s.link l).wait = [])) ∧
    (let s := (Tests.linkOn Tests.up 5).setFld (F.CL_NODE_FLAGS.FLAGS 5) 1; let l := (5 : AnyLink); let flags := (0x3A : BitVec 16); let extra := zeros 56; (s.linkTalks l = true) ∧ (extra.length ≤ 56 ∧ extra.length % 8 = 0) ∧ (s.fld (F.QB_CFG.WRITER (s.fld (F.CL_CFG.RET_QB l))) = 0) ∧ (bit flags.toNat 0 = false ∧ bit flags.toNat 2 = false)) ∧
    (let s := (Tests.linkOn Tests.up 5).setFld (F.CL_NODE_FLAGS.FLAGS 5) 1; let l := (5 : AnyLink); let flags := (4 : BitVec 16); let extra := zeros 56; (s.linkTalks l = true) ∧ (extra.length ≤ 56 ∧ extra.length % 8 = 0 ∧ s.role = roleAlone) ∧ (s.fld (F.QB_CFG.WRITER (s.fld (F.CL_CFG.RET_QB l))) = 0) ∧ (bit flags.toNat 0 = false ∧ bit flags.toNat 2 = true ∧ s.linkActive l = true)) := by
  refine ⟨?_, ?_, ?_, ?_, ?_, ?_, ?_, ?_, ?_, ?_, ?_, ?_, ?_, ?_, ?_⟩ <;> decide +kernel

/-- The hypotheses of `Link_lanes` can be met, clause by clause. -/
theorem wit_Link_lanes :
    (let s := Tests.up.setFld (F.CL_CAL_CTRL.AUTO 5) 0; let l := (5 : LinkIx); (s.linkUp l = true) ∧ (s.fld (F.CL_CAL_CTRL.AUTO l) = 0)) ∧
    (let s := (Tests.linkOn Tests.up 5).setFld (F.CL_CAL_CTRL.AUTO 5) 1; let l := (5 : LinkIx); let v := (0x7FFF : BitVec 16); (s.linkUp l = true) ∧ (s.fld (F.CL_CAL_CTRL.AUTO l) = 1 ∧ (s.setFld (F.CL_CAL_TEMP.NOW l) v.toNat).tempDrift l = true) ∧ (s.linkActive l = true ∧ (s.link l).cal.link = false ∧ s.calPhase l = cpIdle ∧ (s.goodLanes l dirUp) ≠ [] ∧ s.swingLane l dirUp ≠ 3)) ∧
    (let s := Tests.linkOn Tests.up 65; let l := (65 : AnyLink); (s.linkUp l = true) ∧ (s.linkActive l = true ∧ (s.link l).cal.link = false ∧ s.calPhase l = cpIdle ∧ (s.goodLanes l dirUp) ≠ [] ∧ s.swingLane l dirUp ≠ 3)) ∧
    (let s := (Tests.linkOn Tests.up 65).setFld (F.CL_CAL_CTRL.AUTO 65) 1; let l := (65 : AnyLink); let k := (1 : Fin 2); let n := (70000 : Nat); (s.linkUp l = true) ∧ (s.fld (F.CL_CAL_CTRL.AUTO l) = 1 ∧ s.linkActive l = true ∧ s.laneMark l dirUp k = markNone) ∧ ((s.link l).cal.link = false ∧ s.calPhase l = cpIdle ∧ s.swingLane l dirUp ≠ 3 ∧ s.fld (F.CL_CAL_CTRL.ERR_LIMIT l) ≤ n)) ∧
    (let s := (Tests.linkOn Tests.up 65).setFld (F.CL_CAL_CTRL.AUTO 65) 0; let l := (65 : AnyLink); let k := (1 : Fin 2); let n := (70000 : Nat); (s.linkUp l = true ∧ lkAlign < s.linkState l ∧ s.laneMark l dirUp k = markNone) ∧ (s.fld (F.CL_CAL_CTRL.AUTO l) = 0 ∨ n < s.fld (F.CL_CAL_CTRL.ERR_LIMIT l))) ∧
    (let s := (Tests.linkOn Tests.up 65).setFld (F.CL_CAL_STATE.PHASE 65) 1; let l := (65 : AnyLink); (s.upPhase l cpQualify = true)) ∧
    (let s := (Tests.linkOn Tests.up 65).setFld (F.CL_CAL_STATE.PHASE 65) 2; let l := (65 : AnyLink); (s.upPhase l cpSwitch = true)) ∧
    (let s := (Tests.linkOn Tests.up 65).setFld (F.CL_CAL_STATE.PHASE 65) 2; let l := (65 : AnyLink); (s.upPhase l cpSwitch = true)) ∧
    (let s := ((Tests.linkOn Tests.up 65).setFld (F.CL_CAL_STATE.PHASE 65) 3); let l := (65 : AnyLink); let r := (⟨5, List.replicate 300 7 ++ [8] ++ List.replicate 211 7, 0x8000000000000003⟩ : LaneRun); let p := (0 : Nat); (s.upPhase l cpRun = true) ∧ ((s.link l).cal.run1 = none ∧ r.whole = true ∧ r.phases = [p])) ∧
    (let s := ((Tests.linkOn Tests.up 65).setFld (F.CL_CAL_STATE.PHASE 65) 3).setLink 65 { linkReset with cal := { laneCalNone with run1 := some 5 } }; let l := (65 : AnyLink); let r := (⟨0, List.replicate 64 7 ++ [8] ++ List.replicate 447 7, 7⟩ : LaneRun); let p := (1 : Nat); let a := (5 : Nat); (s.upPhase l cpRun = true) ∧ ((s.link l).cal.run1 = some a ∧ r.whole = true ∧ r.phases = [p] ∧ runsAgree a (r.settings p) = true ∧ s.calLane l < 2)) ∧
    (let s := ((Tests.linkOn Tests.up 65).setFld (F.CL_CAL_STATE.PHASE 65) 3).setLink 65 { linkReset with cal := { laneCalNone with run1 := some 0x3F0005 } }; let l := (65 : AnyLink); let r := (⟨0, List.replicate 64 7 ++ [8] ++ List.replicate 447 7, 0xE⟩ : LaneRun); let p := (2 : Nat); let a := (0x3F0005 : Nat); (s.upPhase l cpRun = true) ∧ ((s.link l).cal.run1 = some a ∧ r.whole = true ∧ r.phases = [p] ∧ runsAgree a (r.settings p) = false ∧ s.calLane l < 2 ∧ (s.link l).cal.tries < 3)) ∧
    (let s := (((Tests.linkOn Tests.up 65).setFld (F.CL_CAL_STATE.PHASE 65) 5).setFld (F.CL_CAL_STATE.DIR 65) 1); let l := (65 : AnyLink); (s.linkUp l = true ∧ s.linkActive l = true ∧ s.calDir l = dirDown ∧ s.calPhase l = cpWaiting) ∧ ((s.link l).cal.deferred = 0 ∧ (s.link l).wait = [] ∧ 1 ≤ s.fld (F.CL_CRED_HELD.COUNT l) ∧ s.curtainOn l = false) ∧ (s.calLane l = 0 ∧ s.downLane l 0 = 0 ∧ s.downLane l 1 = 1 ∧ s.swingLane l dirDown = 2)) ∧
    (let s := Tests.linkOn Tests.up 65; let l := (65 : AnyLink); (s.linkUp l = true ∧ s.linkActive l = true) ∧ (s.swingLane l dirUp < 2 ∧ s.laneMark l dirUp (s.swingLane l dirUp) = markNone ∧ s.calPhase l = cpIdle) ∧ (s.fld (F.CL_LANE_MAP.RX_L0 l) < 2 ∧ s.fld (F.CL_LANE_MAP.RX_L0 l) ≠ s.swingLane l dirUp) ∧ (s.hasRoom (Src.link l) = true)) ∧
    (let s := ((Tests.linkAt Tests.up 0 7).setFld (F.CL_TXL_ROLE.MARK 0 2) 2).setFld (F.CL_LANE_MAP.TX_SWING 0) 3; let l := (0 : AnyLink); let tx := true; let k := (2 : Fin 3); (s.linkUp l = true) ∧ (tx = true ∨ k.val < 2) ∧ (s.calPhase l = cpIdle)) ∧
    (let s := Tests.linkAt Tests.up 0 7; let l := (0 : AnyLink); (s.linkUp l = true) ∧ (lkClock < s.linkState l)) ∧
    (let s := Tests.up.setFld (F.CL_RXL_CHK.EN 65 1) 1; let l := (65 : AnyLink); let k := (1 : Fin 2); (s.checkerRuns l k = true) ∧ (s.fld (F.CL_RXL_CHK.LOCKED l k) = 0)) ∧
    (let s := (Tests.up.setFld (F.CL_RXL_CHK.EN 65 1) 1).setFld (F.CL_RXL_CHK.LOCKED 65 1) 1; let l := (65 : AnyLink); let k := (1 : Fin 2); (s.checkerRuns l k = true) ∧ (s.fld (F.CL_RXL_CHK.LOCKED l k) = 1)) ∧
    (let s := (Tests.up.setFld (F.CL_RXL_CHK.EN 65 1) 1).setFld (F.CL_RXL_CHK.LOCKED 65 1) 1; let l := (65 : AnyLink); let k := (1 : Fin 2); (s.checkerRuns l k = true) ∧ (s.fld (F.CL_RXL_CHK.LOCKED l k) = 1)) := by
  refine ⟨?_, ?_, ?_, ?_, ?_, ?_, ?_, ?_, ?_, ?_, ?_, ?_, ?_, ?_, ?_, ?_, ?_, ?_⟩ <;> decide +kernel

/-- The hypotheses of `Ethernet_ports` can be met, clause by clause. -/
theorem wit_Ethernet_ports :
    (let s := Tests.up.setNet 7 { netReset with paused := true, tsq := [⟨1, 0, 0, 5⟩], seqs := [(3, 9)] }; let p := (7 : PortIx); let m := (5 : BitVec 3); (s.netUp = true ∧ s.absent (R.NET_CFG p) = false) ∧ (m.toNat < 6 ∧ m.toNat ≠ s.fld (F.NET_CFG.MODE p))) ∧
    (let s := Tests.up.setFld (F.NET_CFG.MODE 7) 2; let p := (7 : PortIx); let m := (2 : BitVec 3); (s.netUp = true ∧ s.absent (R.NET_CFG p) = false) ∧ (m.toNat < 6 ∧ m.toNat = s.fld (F.NET_CFG.MODE p))) ∧
    (let s := Tests.up; let p := (7 : PortIx); let m := (6 : BitVec 3); (s.netUp = true ∧ s.absent (R.NET_CFG p) = false) ∧ (6 ≤ m.toNat ∧ s.hasRoom Src.hostRegs = true)) ∧
    (let s := Tests.up.setFld (F.NET_CFG.MODE 7) 3; let p := (7 : PortIx); (s.netUp = true) ∧ (s.fld (F.NET_CFG.MODE p) ≠ 0)) ∧
    (let s := Tests.up.setFld (F.NET_CFG.MODE 7) 2; let p := (7 : PortIx); (s.netUp = true) ∧ (s.fld (F.NET_CFG.MODE p) ≠ 0 ∧ (s.netSt p).build = [] ∧ (s.netSt p).txq = [] ∧ (∀ k : Fin 8, s.flag (F.NET_TXQ_BASE.EN p k) = false))) ∧
    (let s := (Tests.up.setFld (F.NET_STATE.LINK_UP 7) 1).setNet 7 { netReset with txq := [⟨4, none, 0, 0, 0, zeros 60, 0, false, 0⟩] }; let p := (7 : PortIx); (s.netUp = true) ∧ (s.flag (F.NET_STATE.LINK_UP p) = true ∧ (s.netSt p).syncHeld = [])) ∧
    (let s := (Tests.up.setFld (F.NET_STATE.LINK_UP 7) 1).setFld (F.NET_PAUSE.WD 7) 9; let p := (7 : PortIx); (s.netUp = true ∧ s.flag (F.NET_STATE.LINK_UP p) = true) ∧ (s.honoursPause p = true)) ∧
    (let s := ((Tests.up.setFld (F.NET_STATE.LINK_UP 7) 1).setFld (F.NET_PAUSE.WD 7) 9).setFld (F.NET_STATE.PAUSE_IGNORED 7) 1; let p := (7 : PortIx); (s.netUp = true ∧ s.flag (F.NET_STATE.LINK_UP p) = true) ∧ (s.honoursPause p = false)) ∧
    (let s := Tests.up.setNet 7 { netReset with paused := true }; let p := (7 : PortIx); (s.netUp = true) ∧ ((s.netSt p).paused = true ∧ s.hasRoom (Src.eth p) = true)) ∧
    (let s := Tests.up.setNet 7 { netReset with paused := true }; (s.netUp = true)) ∧
    (let s := Tests.up.setFld (F.NET_STATE.PAUSE_IGNORED 7) 1; (s.netUp = true)) ∧
    (let s := Tests.up.setNet 7 { netReset with tsq := [⟨77, 70000, 1, 65536 * 5 + 3⟩] }; let p := (7 : PortIx); let e := (⟨77, 70000, 1, 65536 * 5 + 3⟩ : TsqEnt); let rest := ([] : List TsqEnt); (s.netUp = true) ∧ ((s.netSt p).tsq = e :: rest ∧ e.clock < 2)) := by
  refine ⟨?_, ?_, ?_, ?_, ?_, ?_, ?_, ?_, ?_, ?_, ?_, ?_⟩ <;> decide +kernel

/-- The hypotheses of `Ethernet_frames` can be met, clause by clause. -/
theorem wit_Ethernet_frames :
    (let s := Tests.up; (s.netUp = true)) ∧
    (let s := { Tests.up.setFld (F.NET_TXQ_BASE.EN 7 0) 1 with mem := { Tests.up.mem with sram := [(4, 60)] } }; let p := (7 : PortIx); let q := (0 : Fin 8); let v := (1 : Byte); (s.netUp = true) ∧ ((s.netSt p).txq = [] ∧ (s.netSt p).build = [] ∧ (∀ k : Fin 8, k ≠ q → s.flag (F.NET_TXQ_BASE.EN p k) = false)) ∧ (s.flag (F.NET_TXQ_BASE.EN p q) = true ∧ (s.netSt p).fetched.get 0 q < 255 ∧ v.toNat = (s.netSt p).fetched.get 0 q + 1) ∧ ((s.txLoad p q ((s.netSt p).fetched.get 0 q)).bad = false)) ∧
    (let s := Tests.up; (s.netUp = true)) ∧
    (let k := (⟨4, none, 2, 0, 9, zeros 60, 1, false, 1000⟩ : TxPkt); let s := (Tests.up.setFld (F.NET_STATE.LINK_UP 7) 1).setNet 7 { netReset with txq := [k] }; let p := (7 : PortIx); (s.netUp = true) ∧ ((s.netSt p).nextTx = some k ∧ s.maySend p = true ∧ (s.netSt p).syncHeld = []) ∧ ((s.netCurtain p && k.show_) = false ∧ bit k.flags 2 = false)) ∧
    (let k := (⟨4, none, 2, 0, 9, zeros 60, 1, false, 1000⟩ : TxPkt); let s := ((Tests.up.setFld (F.NET_STATE.LINK_UP 7) 1).setNet 7 { netReset with txq := [k] }).setFld F.CUR_SEL_PORT.NET 128; let p := (7 : PortIx); (s.netUp = true) ∧ ((s.netSt p).nextTx = some k ∧ s.maySend p = true ∧ (s.netSt p).syncHeld = []) ∧ (s.netCurtain p = true ∧ k.show_ = true)) ∧
    (let s := { ((Tests.up.setFld (F.NET_STATE.LINK_UP 7) 1).setFld (F.NET_RXQ_BASE.EN 7 0) 1).setFld (F.NET_RXQ_PTR.TAIL 7 0) 3 with mem := { Tests.up.mem with sram := [(1, 16), (5, 2)] } }; let p := (7 : PortIx); let b := List.replicate 60 (9 : Byte); let d := (0 : Nat); let buf := (4096 : Nat); (s.netUp = true ∧ s.flag (F.NET_STATE.LINK_UP p) = true) ∧ (60 ≤ b.length ∧ b.length ≤ 9596 ∧ (∀ k : Fin 16, s.ruleHits p k b = false)) ∧ (s.flag (F.NET_RXQ_BASE.EN p 0) = true ∧ s.fld (F.NET_RXQ_PTR.HEAD p 0) ≠ s.fld (F.NET_RXQ_PTR.TAIL p 0)) ∧ (d = s.rxDesc p 0 (s.fld (F.NET_RXQ_PTR.HEAD p 0)) ∧ buf = leNat (s.sramRead d 4) ∧ b.length ≤ leNat (s.sramRead (d + 4) 2) ∧ (s.netSt p).rxHeld + b.length + 4 ≤ rxBuffer) ∧ (buf + b.length ≤ sramBytes ∧ d + 32 ≤ sramBytes ∧ (buf + b.length ≤ d ∨ d + 32 ≤ buf) ∧ s.fld F.OBJ_INJECT.MODE = 0)) ∧
    (let s := Tests.up.setFld (F.NET_STATE.LINK_UP 7) 1; let p := (7 : PortIx); let b := zeros 60; (s.netUp = true ∧ s.flag (F.NET_STATE.LINK_UP p) = true) ∧ (60 ≤ b.length ∧ b.length ≤ 9596)) ∧
    (let s := Tests.up.setFld (F.NET_STATE.LINK_UP 7) 1; let p := (7 : PortIx); let b := zeros 59; (s.netUp = true ∧ s.flag (F.NET_STATE.LINK_UP p) = true) ∧ (b.length < 60 ∨ 9596 < b.length)) ∧
    (let s := Tests.up.setFld (F.NET_STATE.LINK_UP 7) 1; let p := (7 : PortIx); let b := zeros 60; (s.netUp = true ∧ s.flag (F.NET_STATE.LINK_UP p) = true) ∧ (60 ≤ b.length ∧ b.length ≤ 9596 ∧ (∀ k : Fin 16, s.ruleHits p k b = false) ∧ (s.netSt p).rxHeld + b.length + 4 ≤ rxBuffer) ∧ (s.fld (F.NET_RXQ_PTR.HEAD p 0) = s.fld (F.NET_RXQ_PTR.TAIL p 0))) ∧
    (let s := (Tests.up.setFld (F.NET_STATE.LINK_UP 7) 1).setNet 7 { netReset with rxHeld := 262081 }; let p := (7 : PortIx); let b := zeros 60; (s.netUp = true ∧ s.flag (F.NET_STATE.LINK_UP p) = true) ∧ (60 ≤ b.length ∧ b.length ≤ 9596 ∧ rxBuffer < (s.netSt p).rxHeld + b.length + 4)) ∧
    (let s := ({ Tests.up with frames := [Tests.framePlan 5 4 []] }.setFld (F.NET_SACN_CTRL.EN 7) 1).setFld F.TDM_CLAIM.CLAIM 1; let p := (7 : PortIx); let at_ := (1000 : Nat); let seq := some (5 : Nat); (s.netUp = true ∧ s.sendsSacn p = true) ∧ (s.nextFrameFrom (s.sendBound p) = some (at_, seq))) ∧
    (let s := (((Tests.up.setFld (F.NET_SACN_CTRL.EN 7) 1).setFld F.TDM_CLAIM.CLAIM 1).setFld (F.NET_SACN_SYNC.UNIV 7) 9).setNet 7 { netReset with syncDue := [(1000, 9), (2000, 9)] }; let p := (7 : PortIx); let d := ((1000, 9) : Nat × Nat); let rest := ([(2000, 9)] : List (Nat × Nat)); (s.netUp = true ∧ s.sendsSacn p = true) ∧ ((s.netSt p).syncDue = d :: rest ∧ (s.netSt p).syncHeld = [] ∧ (s.netSt p).txq = [] ∧ (s.netSt p).build = [] ∧ (∀ k : Fin 8, s.flag (F.NET_TXQ_BASE.EN p k) = false))) ∧
    (let s := (((Tests.up.setFld (F.NET_SACN_CTRL.EN 7) 1).setFld F.TDM_CLAIM.CLAIM 1).setFld (F.NET_SACN_SYNC.UNIV 7) 9).setNet 7 { netReset with syncDue := [(1000, 9)], txq := [⟨4, none, 0, 0, 0, zeros 60, 1, false, 1000⟩] }; let p := (7 : PortIx); let d := ((1000, 9) : Nat × Nat); let rest := ([] : List (Nat × Nat)); (s.netUp = true ∧ s.sendsSacn p = true) ∧ ((s.netSt p).syncDue = d :: rest ∧ (s.netSt p).dataLeft d.1 = true)) ∧
    (let s := ((Tests.up.setFld (F.NET_SACN_CTRL.EN 7) 1).setFld F.TDM_CLAIM.CLAIM 1).setFld (F.NET_SACN_CTRL.DISC_EN 7) 1; let p := (7 : PortIx); (s.netUp = true ∧ s.sendsSacn p = true ∧ s.flag (F.NET_SACN_CTRL.DISC_EN p) = true) ∧ (s.liveUniverses s.cfgApp p = [] ∧ (s.netSt p).txq = [] ∧ (s.netSt p).build = []) ∧ (∀ k : Fin 8, s.flag (F.NET_TXQ_BASE.EN p k) = false)) := by
  refine ⟨?_, ?_, ?_, ?_, ?_, ?_, ?_, ?_, ?_, ?_, ?_, ?_, ?_, ?_⟩ <;> decide +kernel

/-- The hypotheses of `Line_ports` can be met, clause by clause. -/
theorem wit_Line_ports :
    (let s := (Tests.up.setFld (F.LINE_CFG.EN 15) 1).setFld (F.LINE_CFG.SLOTS 15) 30; let n := (15 : Ix16); (s.evtUp = true ∧ s.lineRuns n = true) ∧ (s.lineFree n = true)) ∧
    (let s := ((Tests.up.setFld (F.LINE_CFG.RDM_EN 15) 1).setFld (F.LINE_RDM_CTRL.LENGTH 15) 26).setFld (F.LINE_RDM_TAG.TAG 15) 7; let n := (15 : Ix16); (s.evtUp = true) ∧ (s.flag (F.LINE_CFG.RDM_EN n) = true ∧ (s.lineSt n).rdm = none)) ∧
    (let s := Tests.up; let n := (15 : Ix16); (s.evtUp = true) ∧ (s.flag (F.LINE_CFG.RDM_EN n) = false ∨ (s.lineSt n).rdm ≠ none)) ∧
    (let r := (⟨zeros 26, false, false, 3, 7⟩ : RdmReq); let s := (Tests.up.setFld (F.LINE_CFG.EN 15) 1).setLine 15 { lineReset with rdm := some r }; let n := (15 : Ix16); (s.evtUp = true ∧ s.lineRuns n = true) ∧ (s.lineFree n = true ∧ (s.lineSt n).rdmRan = false ∧ (s.lineSt n).rdm = some r)) ∧
    (let r := (⟨zeros 26, false, false, 3, 7⟩ : RdmReq); let s := (Tests.up.setFld (F.QB_CFG.WRITER 3) 1).setLine 15 { lineReset with rdm := some r, rdmRun := true }; let n := (15 : Ix16); let b := [0xCC, 1, 0, 0xCD]; (s.evtUp = true ∧ s.hasRoom (Src.line n) = true) ∧ ((s.lineSt n).rdmRun = true ∧ (s.lineSt n).rdm = some r ∧ r.noResp = false ∧ r.disc = false) ∧ (rdmSumOk b = true ∧ s.qbTakes r.qb (rdmItem r.tag rsOk b).length = true)) ∧
    (let r := (⟨zeros 26, false, false, 3, 7⟩ : RdmReq); let s := Tests.up.setLine 15 { lineReset with rdm := some r, rdmRun := true }; let n := (15 : Ix16); (s.evtUp = true ∧ s.hasRoom (Src.line n) = true) ∧ ((s.lineSt n).rdmRun = true ∧ (s.lineSt n).rdm = some r ∧ r.noResp = false)) ∧
    (let r := (⟨zeros 26, false, true, 3, 7⟩ : RdmReq); let s := (Tests.up.setFld (F.QB_CFG.WRITER 3) 1).setLine 15 { lineReset with rdm := some r, rdmRun := true }; let n := (15 : Ix16); (s.evtUp = true ∧ s.hasRoom (Src.line n) = true) ∧ ((s.lineSt n).rdmRun = true ∧ (s.lineSt n).rdm = some r ∧ r.noResp = true) ∧ (s.qbTakes r.qb 8 = true)) := by
  refine ⟨?_, ?_, ?_, ?_, ?_, ?_, ?_⟩ <;> decide +kernel

/-- The hypotheses of `Metering_samples` can be met, clause by clause. -/
theorem wit_Metering_samples :
    (let s := ({ Tests.up with mtr := { Tests.up.mtr with started := true } }.setFld F.MTR_CFG.EN 1); (s.mtrRuns = true)) ∧
    (let s := ({ Tests.up with mtr := { Tests.up.mtr with started := true } }.setFld F.MTR_CFG.EN 1); (s.mtrRuns = true) ∧ (s.mtr.prev = none ∧ (∀ k : Fin 16, s.mtr.pulse.get 0 k = 0 → s.fld (F.MTR_PULSE_PENDING.COUNT k) = 0))) ∧
    (let s := ({ Tests.up with mtr := { Tests.up.mtr with started := true } }.setFld F.MTR_CFG.EN 1); (s.mtrRuns = true ∧ s.evtUp = true ∧ s.hasRoom Src.metering = true)) ∧
    (let s := ({ Tests.up with mtr := { Tests.up.mtr with started := true } }.setFld F.MTR_CFG.EN 1); (s.mtrRuns = true ∧ s.evtUp = true ∧ s.hasRoom Src.metering = true)) ∧
    (let s := ({ Tests.up with mtr := { Tests.up.mtr with started := true } }.setFld F.MTR_CFG.EN 1).setFld (F.MTR_CH_STATUS.INPUT_FAULT 95) 1; (s.mtrRuns = true)) ∧
    (let s := { Tests.up with mtr := { Tests.up.mtr with pulse := [(15, 1)] } }; let k := (15 : Ix16); (s.powered .mt = true) ∧ (s.mtr.pulse.get 0 k = 1)) ∧
    (let s := { Tests.up with mtr := { Tests.up.mtr with pulse := [(15, 2)] } }.setFld (F.MTR_PULSE_PENDING.COUNT 15) 65535 |>.setFld F.MTR_CFG.EN 1; let k := (15 : Ix16); (s.frontEnd = true) ∧ (s.mtr.pulse.get 0 k = 2 ∧ 0 < s.fld (F.MTR_PULSE_PENDING.COUNT k))) ∧
    (let s := ({ Tests.up with mtr := { Tests.up.mtr with pulse := [(15, 2)] } }.setFld (F.MTR_PULSE_PENDING.COUNT 15) 9).setFld F.MTR_CFG.EN 0; let k := (15 : Ix16); (s.powered .mt = true ∧ s.flag F.MTR_CFG.EN = false) ∧ (s.mtr.pulse.get 0 k = 2)) ∧
    (let s := { Tests.up with mtr := { Tests.up.mtr with pulse := [(15, 2)] } }; let k := (15 : Ix16); (s.powered .mt = true) ∧ (s.mtr.pulse.get 0 k = 2 ∧ s.fld (F.MTR_PULSE_PENDING.COUNT k) = 0)) ∧
    (let w := (⟨5, 0, some 9, [(3, 90, 9)], []⟩ : MtrWin); let rest := ([] : List MtrWin); let s := { Tests.up with mtr := { Tests.up.mtr with wins := [w] } }; (s.evtUp = true ∧ s.powered .mt = true) ∧ (s.mtr.wins = w :: rest ∧ w.hi.isSome = true)) := by
  refine ⟨?_, ?_, ?_, ?_, ?_, ?_, ?_, ?_, ?_, ?_⟩ <;> decide +kernel

/-- The hypotheses of `Energy_records` can be met, clause by clause. -/
theorem wit_Energy_records :
    (let s := { Tests.up with mtr := { Tests.up.mtr with started := true } }; (s.maySave = true)) ∧
    (let s := { Tests.up with mtr := { Tests.up.mtr with started := true } }; (s.maySave = true ∧ s.evtUp = true ∧ s.hasRoom Src.metering = true)) ∧
    (let s := { Tests.up with mtr := { Tests.up.mtr with started := true, retry := true } }; (s.maySave = true ∧ s.mtr.retry = true)) ∧
    (let s := { Tests.up with mtr := { Tests.up.mtr with started := true } }; (s.powered .gl = true) ∧ (s.mtr.started = true ∧ s.mtr.frozen = none ∧ s.pwr.up = none)) ∧
    (let s := { Tests.up with mtr := { Tests.up.mtr with started := true, frozen := some 3, pf := some (1, List.replicate 20 7) } }; let slot := (1 : Fin 2); let b := List.replicate 20 (7 : Byte); (s.powered .gl = true) ∧ (s.mtr.pf = some (slot.val, b))) ∧
    (let s := { Tests.up with mtr := { Tests.up.mtr with started := true, frozen := some 0 } }; let r := (0 : Nat); (s.powered .gl = true ∧ s.evtUp = true ∧ s.hasRoom Src.metering = true) ∧ (s.mtr.frozen = some r)) ∧
    (let s := Tests.up; (s.powered .gl = true ∧ s.evtUp = true ∧ s.hasRoom Src.metering = true) ∧ (s.mtr.started = false ∧ s.newestRecord = none)) ∧
    (let s := { Tests.up.setFld F.MTR_CFG.EN 1 with mtr := { Tests.up.mtr with started := true } }; (s.powered .gl = true) ∧ (s.mtr.started = true ∧ s.flag F.MTR_CFG.EN = true)) ∧
    (let s := { Tests.up with mtr := { Tests.up.mtr with started := true } }; (s.powered .gl = true) ∧ (s.mtr.started = true ∧ s.flag F.MTR_CFG.EN = false)) := by
  refine ⟨?_, ?_, ?_, ?_, ?_, ?_, ?_, ?_, ?_⟩ <;> decide +kernel

/-- The hypotheses of `Roles_and_claims` can be met, clause by clause. -/
theorem wit_Roles_and_claims :
    (let s := Tests.up.setFld F.TDM_CLAIM.CLAIM 0xEFFE; (s.evtUp = true) ∧ (s.role = roleAlone ∧ 2 ≤ s.fld F.TDM_CLAIM.CLAIM ∧ s.fld F.TDM_CLAIM.CLAIM ≤ 0xEFFE) ∧ (s.anyPrio (fun p => decide (2 ≤ p ∧ p ≤ 198)) = true)) ∧
    (let s := Tests.up.setFld F.TDM_CLAIM.CLAIM 0xEFFF; (s.evtUp = true ∧ s.hasRoom Src.tandem = true) ∧ (s.role = roleAlone ∧ (s.fld F.TDM_CLAIM.CLAIM < 2 ∨ 0xEFFE < s.fld F.TDM_CLAIM.CLAIM))) ∧
    (let s := Tests.up.setFld F.TDM_CLAIM.CLAIM 5; (s.evtUp = true) ∧ (s.role = roleAlone)) ∧
    (let s := Tests.principal Tests.up; (s.evtUp = true)) ∧
    (let s := (Tests.under Tests.up 3).setFld F.TDM_ROLE.PROMOTE 2; (s.evtUp = true ∧ s.hasRoom Src.tandem = true) ∧ (s.understudy = true ∧ s.pair = pairPaired ∧ s.fld F.TDM_ROLE.PROMOTE = 2)) ∧
    (let s := Tests.under Tests.up 3; (s.evtUp = true) ∧ (s.understudy = false ∨ s.pair ≠ pairPaired ∨ s.fld F.TDM_ROLE.PROMOTE ≠ 2)) ∧
    (let s := Tests.up; let c := (0xEFFF : BitVec 16); (s.evtUp = true) ∧ ((s.role = roleAlone ∧ c.toNat ≤ 0xEFFF) ∨ (s.role = rolePrincipal ∧ s.pair = pairNone ∧ 2 ≤ c.toNat ∧ c.toNat ≤ 0xEFFE))) ∧
    (let s := Tests.principal Tests.up; let c := (5 : BitVec 16); (s.evtUp = true) ∧ (s.role = roleUnderstudy ∨ (s.role = rolePrincipal ∧ s.pair ≠ pairNone) ∨ (s.role = roleAlone ∧ 0xEFFF < c.toNat))) ∧
    (let s := Tests.principal Tests.up; (s.evtUp = true ∧ s.hasRoom Src.tandem = true) ∧ (s.mirrors = true)) ∧
    (let s := Tests.under Tests.up 2; (s.evtUp = true) ∧ (s.understudy = true ∧ s.pair = pairSyncing)) ∧
    (let s := (Tests.under Tests.up 3).setFld F.TDM_ROLE.PROMOTE 2; (s.evtUp = true ∧ s.hasRoom Src.tandem = true) ∧ (s.understudy = true ∧ s.pair = pairPaired ∧ s.fld F.TDM_STATE.ADRIFT = 0 ∧ s.fld F.TDM_ROLE.PROMOTE ≠ 1 ∧ s.promoteHolds = false)) ∧
    (let s := (Tests.under Tests.up 3).setFld F.TDM_ROLE.PROMOTE 1; (s.evtUp = true ∧ s.hasRoom Src.tandem = true) ∧ (s.understudy = true ∧ s.pair = pairPaired ∧ s.fld F.TDM_STATE.ADRIFT = 0 ∧ s.fld F.TDM_ROLE.PROMOTE = 1)) := by
  refine ⟨?_, ?_, ?_, ?_, ?_, ?_, ?_, ?_, ?_, ?_, ?_, ?_⟩ <;> decide +kernel

/-- The hypotheses of `Messages_of_a_pair` can be met, clause by clause. -/
theorem wit_Messages_of_a_pair :
    (let s := (Tests.principal Tests.up).setTdm { tdmReset with msgs := [⟨4, 0x11, [], none, false, true⟩, ⟨5, 0x11, [], none, false, true⟩], nextMseq := 6 }; let i := (0 : TandemIx); (s.linkTalks (tdLink i) = true) ∧ (s.mirrors = true)) ∧
    (let s := (Tests.principal Tests.up).setFld F.TDM_STATE.PAIR 0; let i := (0 : TandemIx); let rev := BitVec.ofNat 32 (Tests.up.rv R.GLB_REV); let fw := BitVec.ofNat 32 (Tests.up.rv R.GLB_FW_VERSION); (s.linkTalks (tdLink i) = true) ∧ (s.role = rolePrincipal ∧ s.pair = pairNone ∧ s.fld F.TDM_CLAIM.CLAIM ≤ 0xEFFE ∧ s.anyPrio (fun p => decide (p ≤ 198)) = true) ∧ (rev.toNat = s.rv R.GLB_REV ∧ fw.toNat = s.rv R.GLB_FW_VERSION)) ∧
    (let s := Tests.principal Tests.up; let i := (1 : TandemIx); (s.linkTalks (tdLink i) = true) ∧ (s.mirrors = true)) ∧
    (let s := (Tests.principal Tests.up).setTdm { tdmReset with own := [(9, 77, false)], differ := 3 }; let i := (1 : TandemIx); let frame := (9 : BitVec 64); let d := (77 : Word); let fl := (0 : Word); (s.linkTalks (tdLink i) = true) ∧ (s.mirrors = true ∧ bit fl.toNat 0 = false) ∧ (s.tdm.own.find? (·.1 = frame.toNat) = some (frame.toNat, d.toNat, false))) ∧
    (let s := (Tests.principal Tests.up).setTdm { tdmReset with own := [(9, 78, false)], adopted := [3] }; let i := (1 : TandemIx); let frame := (9 : BitVec 64); let d := (77 : Word); let fl := (0 : Word); let o := (78 : Nat); (s.linkTalks (tdLink i) = true) ∧ (s.mirrors = true ∧ bit fl.toNat 0 = false ∧ s.fld F.TDM_STATE.DIVERGED = 0) ∧ (s.tdm.own.find? (·.1 = frame.toNat) = some (frame.toNat, o, false) ∧ o ≠ d.toNat ∧ o < 2 ^ 32)) ∧
    (let b := zeros 808; let rest := ([] : List (List Byte)); let s := (Tests.principal Tests.up).setTdm { tdmReset with states := [b], turn := 1 }; let i := (1 : TandemIx); (s.evtUp = true) ∧ (s.mirrors = true ∧ s.sendsOn i = true ∧ s.tdm.states = b :: rest ∧ s.mayBuffer (tdLink i) b = true)) ∧
    (let b := zeros 8; let ty := (0x93 : Nat); let rest := ([] : List (Nat × List Byte)); let s := (Tests.under Tests.up 3).setTdm { tdmReset with up := [(ty, b)] }; let i := (0 : TandemIx); (s.evtUp = true) ∧ (s.understudy = true ∧ s.linkUp (tdLink i) = true ∧ s.linkActive (tdLink i) = true ∧ s.tdm.up = (ty, b) :: rest)) ∧
    (let s := (Tests.principal Tests.up).setTdm { tdmReset with msgs := [⟨4, 0x11, [], none, false, true⟩, ⟨5, 0x11, [], none, false, true⟩], nextMseq := 6, reported := 5 }; (s.evtUp = true) ∧ (s.mirrors = true ∧ s.tdm.msgs.any (·.mseq = s.tdm.reported) = true)) ∧
    (let s := (Tests.principal Tests.up).setTdm { tdmReset with msgs := [⟨5, 0x11, [], none, false, true⟩], nextMseq := 6, reported := 4 }; (s.evtUp = true ∧ s.hasRoom Src.tandem = true) ∧ (s.mirrors = true ∧ s.tdm.msgs.any (·.mseq = s.tdm.reported) = false ∧ s.tdm.reported ≠ s.tdm.nextMseq)) ∧
    (let s := Tests.under Tests.up 1; let i := (0 : TandemIx); let b := leBytes 1 s.pair ++ zeros 3 ++ leBytes 4 (s.rv R.GLB_REV) ++ leBytes 4 (s.rv R.GLB_FW_VERSION) ++ leBytes 4 s.tdm.rxNext ++ leBytes 8 s.lastRun; let c := leBytes 2 (((s.link (tdLink i)).rxSeq + 65535) % 65536) ++ zeros 6; (s.understudy = true ∧ s.linkUp (tdLink i) = true ∧ s.linkActive (tdLink i) = true) ∧ (b = leBytes 1 s.pair ++ zeros 3 ++ leBytes 4 (s.rv R.GLB_REV) ++ leBytes 4 (s.rv R.GLB_FW_VERSION) ++ leBytes 4 s.tdm.rxNext ++ leBytes 8 s.lastRun) ∧ (c = leBytes 2 (((s.link (tdLink i)).rxSeq + 65535) % 65536) ++ zeros 6)) := by
  refine ⟨?_, ?_, ?_, ?_, ?_, ?_, ?_, ?_, ?_, ?_⟩ <;> decide +kernel

/-- The hypotheses of `Understudy_side` can be met, clause by clause. -/
theorem wit_Understudy_side :
    (let s := Tests.linkAt (Tests.under Tests.up 1) 64 2; let i := (0 : TandemIx); (s.nodeUp i = true) ∧ (s.linkState (tdLink i) < lkAlign)) ∧
    (let s := Tests.under Tests.up 1; let i := (0 : TandemIx); (s.nodeUp i = true)) ∧
    (let s := Tests.linkAt (Tests.under Tests.up 1) 64 3; let i := (0 : TandemIx); let tag := (77 : BitVec 16); let b := leBytes 2 tag.toNat ++ leBytes 1 0 ++ leBytes 1 1 ++ zeros 4 ++ leBytes 4 (s.rv R.GLB_ID); (s.nodeUp i = true ∧ lkAlign ≤ s.linkState (tdLink i)) ∧ (s.linkActive (tdLink i) = false) ∧ (b = leBytes 2 tag.toNat ++ leBytes 1 0 ++ leBytes 1 1 ++ zeros 4 ++ leBytes 4 (s.rv R.GLB_ID))) ∧
    (let p := leBytes 4 1 ++ [3, 1, 0, 0] ++ zeros 8 ++ zeros 64; let s := Tests.under Tests.up 2; let i := (0 : TandemIx); (s.hearsDown i = true ∧ s.romNode = false ∧ s.waitingFrame = none) ∧ (16 ≤ p.length ∧ fieldAt p 0 4 = s.tdm.rxNext ∧ bit (fieldAt p 5 1) 1 = false) ∧ (s.understudy = true ∧ s.pair ≠ pairJoining ∧ s.tdm.ahead = [])) ∧
    (let s := Tests.under Tests.up 2; let i := (0 : TandemIx); let table := (3 : Nat); let entry := (4095 : Nat); let b := List.replicate 64 (9 : Byte); (s.hearsDown i = true ∧ s.romNode = false ∧ s.waitingFrame = none) ∧ (table < 2 ^ 32 ∧ entry < 2 ^ 64 ∧ table ≠ tTiming ∧ b.length < 4000) ∧ (s.understudy = true ∧ s.pair ≠ pairJoining ∧ s.tdm.ahead = [] ∧ s.tdm.cueIn = none ∧ s.tdm.rxNext < 2 ^ 32)) ∧
    (let p := leBytes 4 1 ++ leBytes 4 65541 ++ leBytes 8 8 ++ zeros 8 ++ [1, 2, 3, 4]; let s := { Tests.under Tests.up 2 with obj := ⟨[(5, ⟨kCurve, [], 4096, false, [9], [], none, none⟩)], [(5, 1)], []⟩ }; let i := (0 : TandemIx); (s.hearsDown i = true ∧ s.romNode = false ∧ s.waitingFrame = none) ∧ (24 ≤ p.length ∧ fieldAt p 0 4 = s.tdm.rxNext ∧ s.live (fieldAt p 4 4) = true ∧ fieldAt p 8 8 + (p.length - 24) < (s.obj? (handleIdx (fieldAt p 4 4))).size) ∧ (s.understudy = true ∧ s.pair ≠ pairJoining ∧ s.tdm.ahead = [])) ∧
    (let p := leBytes 4 1 ++ leBytes 4 0 ++ leBytes 8 900 ++ leBytes 4 0 ++ zeros 4 ++ [1, 2, 3, 4]; let s := { Tests.under Tests.up 2 with cfgApp := Tests.sigUp.cfgApp, obj := Tests.sigUp.obj }; let i := (0 : TandemIx); (s.hearsDown i = true ∧ s.romNode = false ∧ s.waitingFrame = none) ∧ (24 ≤ p.length ∧ fieldAt p 0 4 = s.tdm.rxNext ∧ s.passBegun (fieldAt p 4 4) (fieldAt p 8 8 + 1) = false ∧ s.passDue (fieldAt p 4 4) (fieldAt p 8 8) = false) ∧ (s.understudy = true ∧ s.pair ≠ pairJoining ∧ s.tdm.ahead = [])) ∧
    (let p := leBytes 8 44 ++ zeros 16 ++ [5, 0, 100, 2] ++ zeros 780; let s := Tests.under Tests.up 2; let i := (0 : TandemIx); (s.hearsDown i = true ∧ s.waitingFrame = none ∧ 808 ≤ p.length) ∧ (stFlags p = 2 ∧ s.understudy = true ∧ s.pair = pairSyncing ∧ s.fld F.TDM_STATE.ADRIFT = 0 ∧ s.tdm.alone.contains (stFrame p) = false) ∧ (2 ≤ s.fld F.TDM_ROLE.PROMOTE ∨ (0 < s.fld F.TDM_ROLE.WITNESS ∧ ∀ l : Fin 64, s.activeLink l = true → s.fld (F.CL_CLAIM.NODE l) ≠ stClaim p))) ∧
    (let p := leBytes 8 44 ++ zeros 16 ++ [5, 0, 100, 1] ++ zeros 780; let s := { Tests.under Tests.up 1 with cfgApp := Tests.sigUp.cfgApp, obj := Tests.sigUp.obj }; let i := (0 : TandemIx); (s.hearsDown i = true ∧ 808 ≤ p.length) ∧ (stFlags p = 1 ∧ s.understudy = true ∧ s.pair = pairJoining)) := by
  refine ⟨?_, ?_, ?_, ?_, ?_, ?_, ?_, ?_, ?_⟩ <;> decide +kernel

/-- The hypotheses of `Curtain_inputs` can be met, clause by clause. -/
theorem wit_Curtain_inputs :
    (let s := ((Tests.curAt 1).setFld (F.CUR_ALARM_CFG.EN 7) 1).setFld (F.CUR_ALARM_CFG.ACTION 7) 1; let k := (7 : Fin 8); let level := s.flag (F.CUR_ALARM_CFG.POL 7); (s.powered .cu = true ∧ s.evtUp = true ∧ s.hasRoom Src.curtain = true) ∧ (s.flag (F.CUR_ALARM_CFG.EN k) = true ∧ s.curMode ≠ cmFault ∧ bit (s.fld F.CUR_INPUTS.ALARMS) k = false) ∧ (level = s.flag (F.CUR_ALARM_CFG.POL k) ∧ s.fld (F.CUR_ALARM_CFG.ACTION k) = 1 ∧ s.curCauses = 0)) ∧
    (let s := ((Tests.curAt 1).setFld (F.CUR_ALARM_CFG.EN 0) 1).setFld (F.CUR_ALARM_CFG.ACTION 0) 2; let k := (0 : Fin 8); let level := s.flag (F.CUR_ALARM_CFG.POL 0); (s.powered .cu = true ∧ s.evtUp = true ∧ (s.evt.raised.filter (fun e => e.source = Src.curtain)).length < 7) ∧ (s.flag (F.CUR_ALARM_CFG.EN k) = true ∧ s.pwr.state ≠ psOff ∧ s.curMode = cmArmed ∧ bit (s.fld F.CUR_INPUTS.ALARMS) k = false) ∧ (level = s.flag (F.CUR_ALARM_CFG.POL k) ∧ s.fld (F.CUR_ALARM_CFG.ACTION k) = 2)) ∧
    (let s := Tests.curAt 0; (s.powered .cu = true)) ∧
    (let s := { Tests.curAt 2 with cur := { (Tests.curAt 2).cur with low := true, selLink := 5 } }; (s.powered .cu = true ∧ s.curMode = cmDropped)) ∧
    (let s := ((Tests.curAt 2).setFld F.CUR_RELEASE.RELEASE 5).setFld F.CUR_CAUSE.CAUSES 4; (s.powered .cu = true ∧ s.evtUp = true ∧ s.hasRoom Src.curtain = true) ∧ (s.curMode = cmDropped ∧ s.fld F.CUR_RELEASE.RELEASE ≠ 0 ∧ s.curCauses = 0)) ∧
    (let s := { (Tests.curAt 2).setFld F.CUR_RELEASE.RELEASE 5 with cur := { (Tests.curAt 2).cur with spiDrop := true } }; (s.curMode ≠ cmDropped ∨ s.fld F.CUR_RELEASE.RELEASE = 0 ∨ s.curCauses ≠ 0)) ∧
    (let s := { (Tests.curAt 3).setFld F.CUR_SEL_LINK.LINKS 1 with cur := { (Tests.curAt 3).cur with selLink := 1, testOut := 3 } }; (s.powered .cu = true) ∧ (s.curMode = cmTest ∧ s.curCauses = 0)) ∧
    (let s := (Tests.curAt 2).setFld F.CUR_INPUTS.CUR_OK 1; let c := CurFaultCause.selector; (s.powered .cu = true ∧ s.evtUp = true ∧ s.hasRoom Src.curtain = true) ∧ (curServes s.curMode = true ∧ (c = .lockstep ∨ c = .clock ∨ c = .sram ∨ c = .selector))) ∧
    (let s := Tests.curAt 0; let c := CurFaultCause.image; (s.powered .cu = true) ∧ (s.curMode = cmBoot ∧ (c = .image ∨ c = .selftest))) ∧
    (let s := { (Tests.curAt 4) with cur := { (Tests.curAt 4).cur with selLink := 9, spiDrop := true, stage := [(0x03001000, [1])] } }; (s.powered .cu = true)) ∧
    (let s := Tests.curAt 0; let ps := ([] : List (Word × List Byte)); (s.powered .cu = true ∧ s.curMode = cmBoot) ∧ ((s.curApply (ps.map (fun p => (spiAddr p.1.toNat, p.2)))).curCauses = 0)) ∧
    (let s := { Tests.curAt 0 with cur := { (Tests.curAt 0).cur with low := true } }; let ps := ([] : List (Word × List Byte)); (s.powered .cu = true ∧ s.curMode = cmBoot) ∧ ((s.curApply (ps.map (fun p => (spiAddr p.1.toNat, p.2)))).curCauses ≠ 0)) ∧
    (let s := Tests.curAt 0; let imageOk := false; let testOk := true; (s.powered .cu = true ∧ s.curMode = cmBoot) ∧ (imageOk = false ∨ testOk = false)) ∧
    (let s := Tests.curAt 3; (s.powered .cu = true) ∧ (curServes s.curMode = true)) ∧
    (let s := Tests.curAt 4; (s.curMode = cmBoot ∨ s.curMode = cmFault)) := by
  refine ⟨?_, ?_, ?_, ?_, ?_, ?_, ?_, ?_, ?_, ?_, ?_, ?_, ?_, ?_, ?_⟩ <;> decide +kernel

end Sys2Proof.Machine
end

