-- ==== Sys2Proof/Tests/Witness4.lean ====
section
/-! SUPPORT. For each statement with hypotheses, a state and operands that meet them, clause by clause (part 4 of 4). -/

namespace Sys2Proof.Machine

set_option Elab.async false

/-- The hypotheses of `Curtain_outputs` can be met, clause by clause. -/
theorem wit_Curtain_outputs :
    (let s := { (Tests.linkOn (Tests.curAt 2) 5).setFld F.CUR_SEL_LINK.LINKS 32 with cur := { (Tests.curAt 2).cur with sram := Tests.run 0x03040000 (leBytes 2 3 ++ leBytes 1 5 ++ leBytes 1 1 ++ leBytes 2 9 ++ leBytes 2 4 ++ leBytes 2 4 ++ leBytes 1 3) } }; let l := (5 : LinkIx); (s.curLinkRuns l = true) ∧ (s.surfaceLooks l ≠ [] ∨ s.lookBlocks l ≠ [])) ∧
    (let s := Tests.curAt 2; let l := (5 : LinkIx); (s.surfaceLooks l = [] ∧ s.lookBlocks l = [])) ∧
    (let s := { (Tests.linkOn (Tests.curAt 2) 5).setFld F.CUR_SEL_LINK.LINKS 32 with cur := { (Tests.curAt 2).cur with sram := Tests.run 0x03040000 (leBytes 2 3 ++ leBytes 1 5 ++ leBytes 1 1 ++ leBytes 2 9 ++ leBytes 2 4 ++ leBytes 2 4 ++ leBytes 1 3) } }; let l := (5 : LinkIx); (s.curLinkRuns l = true) ∧ (s.surfaceLooks l ≠ [] ∨ s.lookBlocks l ≠ [])) ∧
    (let s := { ((Tests.curAt 2).setFld F.CUR_SEL_PORT.NET 255).setFld (F.NET_STATE.LINK_UP 7) 1 with cur := { (Tests.curAt 2).cur with sram := Tests.run (fixLookAddr 0) (leBytes 1 routeSacn ++ leBytes 1 2 ++ leBytes 2 63999 ++ leBytes 2 0 ++ leBytes 2 1 ++ [200, 201]) } }; let p := (7 : PortIx); (s.powered .cu = true ∧ s.netUp = true ∧ s.netCurtain p = true ∧ s.flag (F.NET_STATE.LINK_UP p) = true) ∧ (s.cur.retNet.contains p.val = false)) ∧
    (let s := ({ ((Tests.curAt 1).setFld F.CUR_SEL_PORT.NET 255).setFld (F.NET_STATE.LINK_UP 7) 1 with cur := { (Tests.curAt 1).cur with retNet := [7] } }).updNet 7 (fun x => { x with curTerm := [(4, 1)] }); let p := (7 : PortIx); let u := (4 : Nat); (s.powered .cu = true ∧ s.netUp = true ∧ s.netCurtain p = true ∧ s.flag (F.NET_STATE.LINK_UP p) = true) ∧ (s.cur.retNet.contains p.val = true ∧ (s.netSt p).curTerm = [(u, 1)])) ∧
    (let s := (Tests.curAt 2).setFld F.CUR_SEL_PORT.LINE 0xFFFF; let n := (15 : Ix16); (s.powered .cu = true ∧ s.evtUp = true) ∧ (s.lineCurtain n = true ∧ s.cur.retLine.contains n.val = false ∧ s.understudy = false)) ∧
    (let s := { (Tests.curAt 1).setFld F.CUR_SEL_PORT.LINE 0xFFFF with cur := { (Tests.curAt 1).cur with retLine := [3, 15] } }; let n := (15 : Ix16); (s.powered .cu = true ∧ s.evtUp = true) ∧ (s.lineCurtain n = true ∧ s.cur.retLine.contains n.val = true)) ∧
    (let e := leBytes 2 0 ++ zeros 30; let s := { Tests.curAt 1 with cur := { (Tests.curAt 1).cur with patchq := [(6, e)], sram := Tests.run (fixLookAddr (Pt.safeLook e)) (leBytes 1 (Pt.route e) ++ leBytes 1 0 ++ leBytes 2 (Pt.routeA e) ++ leBytes 2 (Pt.routeB e) ++ leBytes 2 (Pt.start e)) } }; let n := (6 : Nat); let rest := ([] : List (Nat × List Byte)); (s.powered .cu = true) ∧ (s.cur.patchq = (n, e) :: rest ∧ s.lookFits (Pt.safeLook e) e = true)) ∧
    (let e := leBytes 2 0 ++ zeros 30; let s := { Tests.curAt 1 with cur := { (Tests.curAt 1).cur with patchq := [(6, e)], sram := Tests.run (fixLookAddr (Pt.safeLook e)) (leBytes 1 (Pt.route e) ++ leBytes 1 0 ++ leBytes 2 (Pt.routeA e + 1) ++ leBytes 2 (Pt.routeB e) ++ leBytes 2 (Pt.start e)) } }; let n := (6 : Nat); let rest := ([] : List (Nat × List Byte)); (s.powered .cu = true ∧ s.evtUp = true ∧ s.hasRoom Src.curtain = true) ∧ (s.cur.patchq = (n, e) :: rest ∧ s.lookFits (Pt.safeLook e) e = false)) ∧
    (let s := Tests.curAt 1; (s.powered .cu = true ∧ s.evtUp = true ∧ s.hasRoom Src.curtain = true)) ∧
    (let s := Tests.curAt 1; (s.powered .cu = true ∧ s.evtUp = true ∧ s.hasRoom Src.curtain = true) ∧ (s.cur.refusedAt = 0)) ∧
    (let s := { Tests.curAt 1 with cur := { (Tests.curAt 1).cur with refusedAt := 1 } }; (s.powered .cu = true) ∧ (s.cur.refusedAt ≠ 0 ∧ s.time.house < s.cur.refusedAt - 1 + hclkPerSecond)) := by
  refine ⟨?_, ?_, ?_, ?_, ?_, ?_, ?_, ?_, ?_, ?_, ?_, ?_⟩ <;> decide +kernel

/-- The hypotheses of `Curtain_SPI` can be met, clause by clause. -/
theorem wit_Curtain_SPI :
    (let s := { Tests.curAt 1 with cur := { (Tests.curAt 1).cur with alive := some 255, ownAlive := 255, resp := [1, 2] } }; let m := Tests.spiMsg 0 0 0 []; (s.spiAccepts m m.data.length)) ∧
    (let s := { Tests.curAt 1 with cur := { (Tests.curAt 1).cur with sram := Tests.run (2 ^ 32) [5, 6, 7] } }; let m := Tests.spiMsg 9 0x80000000 0 []; let n := (4 : Nat); (s.spiAccepts m n) ∧ (spiInside m.addr.toNat n = true ∧ isCurMem (spiAddr m.addr.toNat) = true ∧ isCurMem (spiAddr m.addr.toNat + n) = true)) ∧
    (let s := Tests.curAt 1; let m := Tests.spiMsg 9 0x000FFFFC 0 []; let n := (8 : Nat); (s.spiAccepts m n) ∧ (spiInside m.addr.toNat n = false)) ∧
    (let s := Tests.curAt 2; let m := Tests.spiMsg 9 0x1000 0 [1, 2, 3, 4]; (s.spiAccepts m m.data.length) ∧ (spiWritable m.addr.toNat m.data.length = true ∧ (s.cur.stage.map (fun w => w.2.length)).sum + m.data.length ≤ 65536)) ∧
    (let s := Tests.curAt 2; let m := Tests.spiMsg 9 0x0FFC 0 [1, 2, 3, 4]; (s.spiAccepts m m.data.length) ∧ (spiWritable m.addr.toNat m.data.length = false)) ∧
    (let s := { Tests.curAt 1 with cur := { (Tests.curAt 1).cur with stage := [(storeBase, [1, 2])] } }; let m := Tests.spiMsg 9 0 (BitVec.ofNat 32 (crc32c [1, 2])) []; (s.spiAccepts m m.data.length ∧ s.evtUp = true) ∧ (s.curMode = cmArmed ∧ (s.updCur (fun x => { x with silent := false })).curCauses = 0 ∧ crc32c (s.cur.stage.flatMap (·.2)) = m.arg.toNat) ∧ ((s.curApply s.cur.stage).checkGraphics.hasRoom Src.curtain = true)) ∧
    (let a := storeBase + storeSize - 2; let d := ([1, 2] : List Byte); let s := { Tests.curAt 1 with cur := { (Tests.curAt 1).cur with stage := [(storeBase + storeSize - 2, [1, 2])] } }; let m := Tests.spiMsg 9 0 (BitVec.ofNat 32 (crc32c [1, 2])) []; (s.spiAccepts m m.data.length) ∧ (s.curMode = cmArmed ∧ (s.updCur (fun x => { x with silent := false })).curCauses = 0 ∧ crc32c d = m.arg.toNat) ∧ (s.cur.stage = [(a, d)] ∧ storeBase ≤ a ∧ a + d.length ≤ storeBase + storeSize)) ∧
    (let s := Tests.curAt 1; let m := Tests.spiMsg 9 0 1 []; (s.spiAccepts m m.data.length) ∧ (s.curMode ≠ cmArmed ∨ crc32c (s.cur.stage.flatMap (·.2)) ≠ m.arg.toNat)) ∧
    (let s := { Tests.curAt 1 with cur := { (Tests.curAt 1).cur with stage := [(storeBase, [1, 2])] } }; let m := Tests.spiMsg 9 0 0 []; (s.spiAccepts m m.data.length)) ∧
    (let s := Tests.curAt 3; let m := Tests.spiMsg 9 0 0 []; (s.spiAccepts m m.data.length) ∧ (s.curMode = cmArmed ∨ s.curMode = cmTest)) ∧
    (let s := { Tests.curAt 2 with cur := { (Tests.curAt 2).cur with spiDrop := true } }; let m := Tests.spiMsg 9 0 0 []; (s.spiAccepts m m.data.length ∧ s.evtUp = true ∧ s.hasRoom Src.curtain = true) ∧ (s.curMode = cmDropped ∧ (s.updCur (fun x => { x with spiDrop := false, silent := false })).curCauses = 0)) ∧
    (let s := { Tests.curAt 2 with cur := { (Tests.curAt 2).cur with low := true } }; let m := Tests.spiMsg 9 0 0 []; (s.spiAccepts m m.data.length) ∧ (s.curMode = cmDropped ∧ s.cur.low = true)) ∧
    (let s := Tests.curAt 1; let m := Tests.spiMsg 9 0 3600 [1, 0, 0, 0, 0, 0, 0, 128, 129, 1, 0, 5, 3, 0, 0, 0]; (s.spiAccepts m 16 ∧ m.data.length = 16 ∧ s.evtUp = true ∧ s.hasRoom Src.curtain = true) ∧ (s.curMode = cmArmed ∧ (s.updCur (fun x => { x with silent := false })).curCauses = 0 ∧ inRange 1 3600 m.arg.toNat = true ∧ s.pwr.state ≠ psDark)) ∧
    (let s := Tests.curAt 3; let m := Tests.spiMsg 9 0 3600 (zeros 16); (s.spiAccepts m 16 ∧ m.data.length = 16) ∧ (s.curMode ≠ cmArmed ∨ inRange 1 3600 m.arg.toNat = false)) ∧
    (let s := { Tests.curAt 3 with cur := { (Tests.curAt 3).cur with selLink := 5, testOut := 1 } }; let m := Tests.spiMsg 9 0 0 []; (s.spiAccepts m m.data.length) ∧ (s.curMode = cmTest ∧ (s.updCur (fun x => { x with silent := false })).curCauses = 0)) ∧
    (let s := ((Tests.curAt 1).setFld F.CUR_SPI_CFG.SPI_WD 1).setFld F.CUR_SPI_CFG.SPI_WD_DROP 1; (s.powered .cu = true ∧ s.evtUp = true ∧ s.hasRoom Src.curtain = true) ∧ (s.curMode = cmArmed ∧ s.fld F.CUR_SPI_CFG.SPI_WD ≠ 0)) ∧
    (let s := Tests.curAt 1; let m := (⟨3, 0, 0, [], false⟩ : SpiMsg); (s.powered .cu = true ∧ curServes s.curMode = true ∧ m.crcOk = false)) := by
  refine ⟨?_, ?_, ?_, ?_, ?_, ?_, ?_, ?_, ?_, ?_, ?_, ?_, ?_, ?_, ?_, ?_, ?_⟩ <;> decide +kernel

/-- The hypotheses of `Fly_channels` can be met, clause by clause. -/
theorem wit_Fly_channels :
    (let s := Tests.flyRegs (Tests.flyImg 0x1000 0x2000 8 0x00011212); let n := (3 : Ix32); (s.evtUp = true) ∧ (s.flyBusy n = false ∧ s.flyCheck (s.flyImage n) = 0 ∧ Fly.count (s.flyImage n) ≠ 0)) ∧
    (let s := Tests.flyRegs (Tests.flyImg 0x1002 0x2000 8 0x00011212); let n := (3 : Ix32); (s.evtUp = true ∧ s.hasRoom (Src.fly n) = true) ∧ (s.flyBusy n = false ∧ s.flyCheck (s.flyImage n) ≠ 0)) ∧
    (let s := Tests.flyOn Tests.flyX; let n := (3 : Ix32); (s.flyBusy n = true)) ∧
    (let x := { Tests.flyX with read := 4, written := 4 }; let s := Tests.flyOn x; let n := (3 : Ix32); (s.evtUp = true) ∧ (s.flyOf n = some x ∧ x.flight = none ∧ x.move = none ∧ Fly.evt x.img = false ∧ Fly.dstSpace x.img ≠ spObject)) ∧
    (let x := { Tests.flyX with read := 8, hold := List.replicate 8 (7, false), flight := some 8 }; let s := Tests.flyOn x; let n := (3 : Ix32); let w := (8 : Nat); (s.evtUp = true) ∧ (s.flyOf n = some x ∧ x.flight = some w)) ∧
    (let x := Tests.flyX; let s := { Tests.flyOn x with mem := { (Tests.flyOn x).mem with hbm := Tests.run 0x1000 [1, 2, 3, 4, 5] } }; let n := (3 : Ix32); (s.evtUp = true ∧ s.flyNext = some n.val ∧ s.mem.ce = [] ∧ s.mem.ue = []) ∧ (s.flyOf n = some x ∧ Fly.indexed x.img = false ∧ Fly.srcFix x.img = false ∧ Fly.dstFix x.img = false ∧ Fly.descends x.img = false) ∧ (Fly.srcSpace x.img = spHbm ∧ (Fly.dstSpace x.img = spHbm ∨ Fly.dstSpace x.img = spStage))) ∧
    (let s := Tests.flyOn Tests.flyX; let n := (4 : Ix32); (s.flyNext ≠ some n.val)) ∧
    (let x := { Tests.flyX with read := 8, hold := List.replicate 8 (7, false), flight := some 8 }; let s := Tests.flyOn x; let n := (3 : Ix32); let w := (8 : Nat); (s.evtUp = true) ∧ (s.flyOf n = some x ∧ x.flight = some w ∧ x.fail = 0 ∧ x.stop = 0 ∧ x.lastWord = none ∧ x.move = none ∧ Fly.evt x.img = false) ∧ (Fly.indexed x.img = false ∧ Fly.dstFix x.img = false ∧ Fly.descends x.img = false ∧ Fly.dstSpace x.img = spStage) ∧ (w ≤ x.hold.length ∧ w % Fly.dstW x.img = 0 ∧ (x.hold.all (fun b => !b.2)) = true)) ∧
    (let x := { Tests.flyX with read := 8, hold := List.replicate 8 (7, false), flight := some 8, stop := 1 }; let s := Tests.flyOn x; let n := (3 : Ix32); let w := (8 : Nat); (s.evtUp = true) ∧ (s.flyOf n = some x ∧ x.flight = some w ∧ x.fail = 0 ∧ x.stop = 1 ∧ Fly.dstSpace x.img = spStage ∧ x.move = none)) ∧
    (let x := { Tests.flyX with fail := feIndex, flight := some 0 }; let s := Tests.flyOn x; let n := (3 : Ix32); let w := (0 : Nat); (s.evtUp = true ∧ s.hasRoom (Src.fly n) = true) ∧ (s.flyOf n = some x ∧ x.flight = some w ∧ x.fail ≠ 0 ∧ x.fail < 16 ∧ x.move = none ∧ Fly.dstSpace x.img ≠ spObject)) := by
  refine ⟨?_, ?_, ?_, ?_, ?_, ?_, ?_, ?_, ?_, ?_⟩ <;> decide +kernel

/-- The hypotheses of `Queue_blocks` can be met, clause by clause. -/
theorem wit_Queue_blocks :
    (let s := Tests.up; let q := (31 : Ix32); let b := ([1, 2] : List Byte); (s.evtUp = true ∧ aliasBytes b = true ∧ s.flag (F.QB_CFG.WRITER q) = false) ∧ ((s.qbSt q).words = [] ∧ (s.qbSt q).open_ = false ∧ (s.qbSt q).readWait = false)) ∧
    (let w := (⟨zeros 12, true, false, false, false, 1, none⟩ : QWord); let s := Tests.up.setQb 31 { qbReset with words := [w], item := 1, open_ := true }; let q := (31 : Ix32); let b := ([1, 2, 3, 4] : List Byte); (s.evtUp = true ∧ aliasBytes b = true ∧ s.flag (F.QB_CFG.WRITER q) = false) ∧ ((s.qbSt q).packing = some w ∧ w.bytes.length + b.length ≤ 16 ∧ (s.qbSt q).readWait = false)) ∧
    (let s := Tests.up; let q := (31 : Ix32); let b := ([1, 2] : List Byte); (s.evtUp = true ∧ aliasBytes b = true ∧ s.flag (F.QB_CFG.WRITER q) = false) ∧ ((s.qbSt q).words = [] ∧ (s.qbSt q).open_ = false ∧ (s.qbSt q).readWait = false)) ∧
    (let s := Tests.up.setQb 31 { qbReset with words := List.replicate 256 ⟨[1], true, true, false, true, 1, none⟩, item := 1 }; let q := (31 : Ix32); let b := ([1, 2] : List Byte); (s.evtUp = true ∧ aliasBytes b = true ∧ s.flag (F.QB_CFG.WRITER q) = false) ∧ ((s.qbSt q).words.length = 256 ∧ (s.qbSt q).open_ = false ∧ (s.qbSt q).readWait = false)) ∧
    (let s := Tests.up.setFld (F.QB_CFG.WRITER 31) 1; let q := (31 : Ix32); let b := ([1, 2] : List Byte); (s.evtUp = true ∧ aliasBytes b = true ∧ s.flag (F.QB_CFG.WRITER q) = true)) ∧
    (let w := (⟨[1, 2, 3, 4, 5], true, true, false, true, 1, none⟩ : QWord); let s := Tests.up.setQb 31 { qbReset with words := [w], item := 1 }; let q := (31 : Ix32); (s.evtUp = true) ∧ ((s.qbSt q).readable = some w)) ∧
    (let s := Tests.up.setFld F.QB_RD_STALL.NS 5; let q := (31 : Ix32); (s.evtUp = true) ∧ ((s.qbSt q).readable = none ∧ s.fld F.QB_RD_STALL.NS ≠ 0)) ∧
    (let s := Tests.up.setQb 31 { qbReset with readWait := true }; let q := (31 : Ix32); (s.evtUp = true) ∧ ((s.qbSt q).readWait = true)) ∧
    (let s := (Tests.up.setFld (F.QB_CFG.WRITER 31) 1).setQb 31 { qbReset with words := List.replicate 254 ⟨[1], true, true, false, true, 1, none⟩, item := 1 }; let q := (31 : Ix32); let b := List.replicate 32 (9 : Byte); (s.evtUp = true) ∧ (s.qbTakes q b.length = true ∧ b ≠ [] ∧ (s.qbSt q).open_ = false ∧ (s.qbSt q).readWait = false)) ∧
    (let s := (Tests.up.setFld (F.QB_CFG.WRITER 31) 1).setQb 31 { qbReset with words := List.replicate 254 ⟨[1], true, true, false, true, 1, none⟩, item := 1 }; let q := (31 : Ix32); let b := List.replicate 33 (9 : Byte); (s.qbTakes q b.length = false)) ∧
    (let s := Tests.up; let v := (4 : Word); (s.evtUp = true) ∧ (1 ≤ bits v.toNat 0 3 ∧ bits v.toNat 0 3 ≤ 4)) ∧
    (let s := Tests.up; let v := (0x2000 : Word); (s.evtUp = true) ∧ (bits v.toNat 0 3 = 0 ∧ 8 ≤ bits v.toNat 8 6 ∧ bits v.toNat 8 6 ≤ 32)) ∧
    (let s := Tests.up; let c := (0 : Ix16); let b := ([49, 50, 51, 52] : List Byte); (s.evtUp = true ∧ aliasBytes b = true ∧ s.flag (F.CHK_ALIVE_CFG.EN c) = false ∧ s.fld (F.CHK_CFG.WIDTH c) ≤ 32)) ∧
    (let s := ((Tests.up.setFld (F.CHK_ALIVE_CFG.EN 0) 1).setFld (F.CHK_ALIVE_STATE.HAVE 0) 1).setFld (F.CHK_ALIVE_STATE.L 0) 255; let c := (0 : Ix16); (s.evtUp = true ∧ s.flag (F.CHK_ALIVE_CFG.EN c) = true ∧ s.flag (F.CHK_ALIVE_CFG.WIDTH8 c) = true ∧ s.fld (F.CHK_POS.POS c) = s.fld (F.CHK_ALIVE_CFG.BYTE c)) ∧ (s.flag (F.CHK_ALIVE_STATE.HAVE c) = true)) ∧
    (let s := Tests.up; (s.evtUp = true)) ∧
    (let s := Tests.up; (s.evtUp = true)) := by
  refine ⟨?_, ?_, ?_, ?_, ?_, ?_, ?_, ?_, ?_, ?_, ?_, ?_, ?_, ?_, ?_, ?_⟩ <;> decide +kernel

/-- The hypotheses of `Power_entries` can be met, clause by clause. -/
theorem wit_Power_entries :
    (let q := (⟨false, 2, 2, [], none, none, false⟩ : PwrSeq); let s := Tests.moving 0 q; (s.pwr.seq = some q ∧ q.exit = false ∧ q.step = 2 ∧ q.target < psDeep)) ∧
    (let q := (⟨false, 2, 3, [], none, none, false⟩ : PwrSeq); let s := Tests.moving 0 q; (s.pwr.seq = some q ∧ q.exit = false ∧ q.step = 3 ∧ (q.target = psIdle ∨ q.target = psSleep) ∧ q.desc = none ∧ s.wakePending = [])) ∧
    (let q := (⟨false, 1, 3, [], none, none, false⟩ : PwrSeq); let s := (Tests.moving 0 q).setFld F.PWR_WAKE_PEND.PEND 12; let n := (2 : Nat); let rest := ([3] : List Nat); (s.pwr.seq = some q ∧ q.exit = false ∧ q.step = 3 ∧ (q.target = psIdle ∨ q.target = psSleep) ∧ q.desc = none ∧ s.wakePending = n :: rest) ∧ (s.evtUp = true ∧ s.hasRoom Src.ghostLight = true)) ∧
    (let q := (⟨false, 4, 11, [4], none, none, false⟩ : PwrSeq); let s := Tests.moving 0 q; let r := (4 : Nat); (s.pwr.seq = some q ∧ q.exit = false ∧ q.step = 11 ∧ q.rails = [r] ∧ q.target < 6 ∧ s.wakePending = [])) ∧
    (let q := (⟨false, 2, 11, [9, 8], none, none, false⟩ : PwrSeq); let s := Tests.moving 0 q; let r := (9 : Nat); let rest := ([8] : List Nat); (s.pwr.up = none ∧ s.pwr.seq = some q ∧ q.exit = false ∧ q.rails = r :: rest)) ∧
    (let q := (⟨true, 0, 2, [7], none, none, false⟩ : PwrSeq); let s := Tests.moving 2 q; let r := (7 : Nat); (s.pwr.seq = some q ∧ q.exit = true ∧ q.step = 2 ∧ q.rails = [r] ∧ s.pwr.state ≠ psIdle)) ∧
    (let q := (⟨true, 0, 3, [], none, none, false⟩ : PwrSeq); let s := { (Tests.moving 2 q).setFld F.PWR_WAKE_PEND.PEND 4 with off := [.net] }; (s.pwr.seq = some q ∧ q.exit = true ∧ q.step = 3 ∧ q.desc = none ∧ q.deeper = none ∧ s.pwr.state = psSleep ∧ s.boot.pllLost = false) ∧ (s.hasRoom Src.ghostLight = true ∧ s.inReset = false ∧ s.powered .core = true ∧ Domain.core ∉ s.pwr.offBefore)) ∧
    (let q := (⟨true, 0, 4, [], none, none, false⟩ : PwrSeq); let s := { Tests.moving 3 q with off := [.cu, .mt, .core] }; let b := (64 : BitVec 8); let k := (6 : Fin 7); (s.pwr.seq = some q ∧ q.exit = true ∧ q.step = 4 ∧ b.toNat = 2 ^ k.val ∧ s.boot.pllLost = false)) ∧
    (let q := (⟨true, 0, 4, [], none, none, false⟩ : PwrSeq); let s := { Tests.moving 4 q with off := [.cu, .mt, .core] }; (s.pwr.seq = some q ∧ q.exit = true ∧ q.step = 4 ∧ s.boot.pllLost = false)) ∧
    (let q := (⟨true, 0, 3, [], none, none, false⟩ : PwrSeq); let s := { Tests.moving 5 q with off := [.core] }; (s.pwr.seq = some q ∧ q.exit = true ∧ q.step = 3 ∧ s.pwr.state = psOff ∧ s.boot.pllLost = false)) ∧
    (let q := (⟨true, 0, 2, [9, 8], none, none, false⟩ : PwrSeq); let s := Tests.moving 2 q; let r := (9 : Nat); let rest := ([8] : List Nat); (s.pwr.up = none ∧ s.pwr.seq = some q ∧ q.exit = true ∧ q.rails = r :: rest ∧ q.deeper = none)) := by
  refine ⟨?_, ?_, ?_, ?_, ?_, ?_, ?_, ?_, ?_, ?_, ?_⟩ <;> decide +kernel

/-- The hypotheses of `Wake_sources` can be met, clause by clause. -/
theorem wit_Wake_sources :
    (let s := Tests.inPower 5; (s.powered .gl = true ∧ s.pwr.up = none)) ∧
    (let s := Tests.inPower 2; (s.powered .host = true ∧ (s.pwr.state = psIdle ∨ s.pwr.state = psSleep))) ∧
    (let s := Tests.up; (s.pwr.state = psRun)) ∧
    (let s := ({ Tests.inPower 3 with time := { (Tests.inPower 3).time with rtc := 9 } }).setRv R.PWR_WAKE_TIME 9; (s.powered .gl = true ∧ s.pwr.up = none ∧ s.rv R.PWR_WAKE_TIME ≠ 0 ∧ s.time.rtc = s.rv R.PWR_WAKE_TIME ∧ s.pwr.state ≠ psOff)) ∧
    (let s := Tests.inPower 2; (s.powered .gl = true ∧ s.pwr.up = none ∧ s.pwr.seq = none ∧ s.pwr.state ≠ psOff)) ∧
    (let s := (Tests.inPower 5).setRv R.PWR_WAKE_TIME 9; (s.pwr.state = psOff)) ∧
    (let s := { Tests.inPower 4 with off := [.mt, .cu, .core] }; (s.pwr.state = psDark ∧ s.pwr.seq = none ∧ s.pwr.window = false)) ∧
    (let s := { (Tests.inPower 4).setFld F.GL_DARK_CFG.TEMP_ACTION 0 with pwr := { (Tests.inPower 4).pwr with window := true }, time := { Tests.up.time with running := false } }; (s.pwr.state = psDark ∧ s.pwr.window = true ∧ s.mtrRuns = false) ∧ (s.darkChannels = [] ∧ s.fld F.GL_DARK_CFG.TEMP_ACTION = 0)) ∧
    (let s := { (Tests.inPower 4).setFld F.GL_DARK_CFG.TEMP_ACTION 2 with pwr := { (Tests.inPower 4).pwr with window := true }, time := { Tests.up.time with running := false } }; let temp := (0x0600 : BitVec 16); (s.pwr.state = psDark ∧ s.pwr.window = true ∧ s.mtrRuns = false ∧ s.pwr.seq = none) ∧ (s.darkChannels = [] ∧ s.fld F.GL_DARK_CFG.TEMP_ACTION = 2 ∧ ((s.fld F.GL_DARK_CFG.TEMP_MAX * 16 : Nat) : Int) < temp.toInt ∧ bit (s.fld F.PWR_WAKE_EN.EN) 6 = true)) ∧
    (let s := { (Tests.inPower 3).setFld (F.CUR_ALARM_CFG.EN 7) 1 with off := [.cu] }; let k := (7 : Fin 8); (s.powered .cu = false ∧ (s.pwr.state = psDeep ∨ s.pwr.state = psDark) ∧ s.flag (F.CUR_ALARM_CFG.EN k) = true)) ∧
    (let s := { (Tests.inPower 3).setFld (F.CUR_ALARM_CFG.EN 7) 0 with off := [.cu] }; let k := (7 : Fin 8); (s.flag (F.CUR_ALARM_CFG.EN k) = false)) ∧
    (let s := Tests.up; (s.powered .gl = true ∧ s.pwr.state ≠ psOff)) := by
  refine ⟨?_, ?_, ?_, ?_, ?_, ?_, ?_, ?_, ?_, ?_, ?_, ?_⟩ <;> decide +kernel

/-- The hypotheses of `Supplies` can be met, clause by clause. -/
theorem wit_Supplies :
    (let s := Tests.dead; (s.powered .gl = false)) ∧
    (let u := (⟨3, [], 0, false, false⟩ : PowerUp); let s := Tests.rising u; (s.powered .gl = true ∧ s.pwr.up = some u ∧ u.held = false ∧ u.step = 3)) ∧
    (let u := (⟨4, [], 0, false, false⟩ : PowerUp); let s := Tests.rising u; (s.powered .gl = true ∧ s.pwr.up = some u ∧ u.held = false ∧ u.step = 4)) ∧
    (let u := (⟨5, [9], 0, false, false⟩ : PowerUp); let s := Tests.rising u; let r := (9 : Nat); (s.powered .gl = true ∧ s.pwr.up = some u ∧ u.held = false ∧ u.step = 5 ∧ u.waits = false ∧ u.rails = [r])) ∧
    (let u := (⟨5, [3, 4], 2, false, false⟩ : PowerUp); let s := { Tests.rising u with pwr := { (Tests.rising u).pwr with rails := [0, 1, 2] } }; let r := (3 : Nat); let rest := ([4] : List Nat); (s.pwr.up = some u ∧ u.step = 5 ∧ u.rails = r :: rest)) ∧
    (let s := { Tests.up with time := { Tests.up.time with house := 5, rtc := 7 } }; (s.powered .gl = true ∧ allRails.all (fun r => s.pwr.rails.contains r) = true)) ∧
    (let s := { Tests.up with boot := { Tests.up.boot with otpFw := 3 } }; (s.mtr.pf = none)) ∧
    (let s := { Tests.up with mtr := { Tests.up.mtr with started := true }, pbk := { Tests.up.pbk with stub := 1023 } }; (s.powered .gl = true ∧ s.mtr.started = true ∧ s.mtr.frozen = none ∧ s.pwr.up = none)) := by
  refine ⟨?_, ?_, ?_, ?_, ?_, ?_, ?_, ?_⟩ <;> decide +kernel

/-- The hypotheses of `Host_resets` can be met, clause by clause. -/
theorem wit_Host_resets :
    (let s := Tests.ringWith 2 (Tests.entry (Tests.desc 5 0 0 0 0 0 0 0 [])); (s.powered .host = true)) ∧
    (let s := Tests.ringWith 2 (Tests.entry (Tests.desc 5 0 0 0 0 0 0 0 [])); (s.powered .host = true)) ∧
    (let s := { Tests.up with boot := { Tests.up.boot with retry := true } }; (s.powered .host = true ∧ s.boot.held = false ∧ s.boot.retry = true)) ∧
    (let s := Tests.up; (s.powered .host = true ∧ s.boot.held = false ∧ s.boot.retry = false)) ∧
    (let s := Tests.up; (s.powered .host = true ∧ s.boot.held = false ∧ s.boot.retry = false)) ∧
    (let s := Tests.linkOn (Tests.linkOn Tests.up 5) 63; let l := (63 : BitVec 6); (s.evtUp = true ∧ s.powered (linkDomain l.toNat) = true)) ∧
    (let s := Tests.up; let n := (15 : BitVec 6); (s.evtUp = true ∧ n.toNat < 16 ∧ s.lineCurtain n.toNat = false)) ∧
    (let s := Tests.up; let k := (3 : BitVec 3); let n := (16 : BitVec 6); (s.evtUp = true ∧ s.hasRoom Src.hostRegs = true) ∧ ((k.toNat = 1 ∧ 8 ≤ n.toNat) ∨ (k.toNat = 2 ∧ 8 ≤ n.toNat) ∨ (k.toNat = 3 ∧ 16 ≤ n.toNat) ∨ (k.toNat = 4 ∧ 16 ≤ n.toNat) ∨ 5 ≤ k.toNat)) ∧
    (let s := Tests.ringWith 2 (Tests.entry (Tests.desc 5 0 0 0 0 0 0 0 [])); (s.powered .core = true ∧ s.boot.held = false ∧ s.time.running = true)) ∧
    (let s := Tests.up.setFld F.GLB_WD.EN 1; (s.powered .core = true ∧ s.boot.held = false ∧ s.time.running = true ∧ s.flag F.GLB_WD.EN = true)) ∧
    (let s := Tests.up; (s.time.running = true ∧ s.boot.pllLost = false ∧ s.powered .cu = true ∧ s.evt.glQueue = [] ∧ s.evt.raised = [])) ∧
    (let s := { Tests.up with inReset := true, time := { Tests.up.time with running := false }, boot := { Tests.up.boot with pllLost := true } }; (s.boot.pllLost = true) ∧ (s.inReset = true ∨ s.pwr.state < psSleep)) := by
  refine ⟨?_, ?_, ?_, ?_, ?_, ?_, ?_, ?_, ?_, ?_, ?_, ?_⟩ <;> decide +kernel

/-- The hypotheses of `Boot` can be met, clause by clause. -/
theorem wit_Boot :
    (let s := { Tests.bootAt 1 0 with boot := { Tests.up.boot with pkg := 4 }, mem := { Tests.up.mem with sram := Tests.run 0 Tests.pkg } }; let a := true; let b := true; (s.booting = true ∧ (s.boot.pkg = pkgActive ∨ s.boot.pkg = pkgTandem) ∧ s.pkgCheck a b = 0)) ∧
    (let s := { Tests.bootAt 1 0 with boot := { Tests.up.boot with pkg := 1 } }; let a := true; let b := true; (s.booting = true ∧ s.boot.pkg = pkgActive ∧ s.pkgCheck a b ≠ 0 ∧ s.evt.glQueue.length < 64)) ∧
    (let s := { Tests.bootAt 1 0 with boot := { Tests.up.boot with pkg := 2 } }; let a := true; let b := true; (s.booting = true ∧ s.boot.pkg = pkgWings ∧ s.pkgCheck a b ≠ 0 ∧ s.evt.glQueue.length < 64)) ∧
    (let s := { Tests.bootAt 0 1 with boot := { Tests.up.boot with window := true } }; (s.booting = true ∧ s.boot.window = true ∧ s.boot.pkg = 0)) ∧
    (let s := Tests.bootAt 1 2; (s.romNode = true ∧ s.bootState = btLoading ∧ s.boot.pkg = 0)) ∧
    (let s := Tests.bootAt 1 2; (s.romNode = true ∧ s.bootState ≤ btVerifying ∧ s.evt.glQueue.length < 64)) ∧
    (let s := Tests.bootAt 3 0; let d := (⟨0, 0, 0, 0, [], 0, 0, 0, 0⟩ : Degraded); (s.booting = true ∧ s.bootState = btStarting ∧ s.hasRoom Src.glb = true ∧ d.cores ≠ BitVec.allOnes 4 ∧ anyDegraded d = false)) ∧
    (let s := { Tests.up with boot := { Tests.up.boot with wings := 1, total := 2, marks := [0], flash := Tests.run wingsAt [1, 2, 3] } }; (s.evtUp = true ∧ s.boot.wings ≠ wgInstalling ∧ s.boot.chunks = [])) ∧
    (let s := { Tests.up with boot := { Tests.up.boot with wings := 3 } }; (s.boot.wings = wgInstalling)) ∧
    (let c := (⟨7, 1, [1, 2, 3, 4]⟩ : ChunkWrite); let rest := ([] : List ChunkWrite); let s := { Tests.up with boot := { Tests.up.boot with wings := 1, total := 3, marks := [0], chunks := [c] } }; (s.evtUp = true ∧ s.boot.chunks = c :: rest ∧ s.boot.marks.contains c.index = false ∧ s.boot.marks.length + 1 ≠ s.boot.total ∧ c.bytes.length ≤ 4096)) ∧
    (let c := (⟨7, 1, [1, 2, 3, 4]⟩ : ChunkWrite); let rest := ([] : List ChunkWrite); let s := { Tests.up with boot := { Tests.up.boot with wings := 1, total := 2, marks := [0], chunks := [c] } }; (s.evtUp = true ∧ s.boot.chunks = c :: rest ∧ s.boot.marks.contains c.index = false ∧ s.boot.marks.length + 1 = s.boot.total ∧ s.hasRoom Src.glb = true)) ∧
    (let s := { Tests.up with boot := { Tests.up.boot with wings := 3, total := 1, marks := [0], flash := Tests.run wingsAt [1, 2, 3, 4, 0, 1, 1, 9, 0, 0, 0, 0, 1, 0] } }; (s.evtUp = true ∧ s.boot.wings = wgInstalling ∧ s.hasRoom Src.glb = true)) ∧
    (let s := { Tests.up with boot := { Tests.up.boot with wings := 3, total := 1, marks := [0], flash := Tests.run wingsAt [1, 2, 3, 4, 0, 1, 1, 9, 0, 0, 0, 0, 1, 0] } }; (s.evtUp = true ∧ s.boot.wings = wgInstalling ∧ s.hasRoom Src.glb = true)) := by
  refine ⟨?_, ?_, ?_, ?_, ?_, ?_, ?_, ?_, ?_, ?_, ?_, ?_, ?_⟩ <;> decide +kernel

/-- The hypotheses of `Event_release` can be met, clause by clause. -/
theorem wit_Event_release :
    (let e := (⟨3, 6, 1, false, [], 0⟩ : EvtRec); let s := { Tests.up with time := { Tests.up.time with house := 260 }, evt := { Tests.up.evt with held := [⟨3, 6, 2, false, [], 0⟩, e, ⟨4, 1, 0, false, [], 0⟩] } }; (s.evtUp = true ∧ s.evt.warmLost = 0 ∧ firstEvt s.evt.held = some e ∧ e.house + 256 < s.time.house ∧ e.lost = 0 ∧ s.evt.store.length < 4096 ∧ e.house < 2 ^ 64)) ∧
    (let e := (⟨3, 6, 1, false, [], 5⟩ : EvtRec); let s := { Tests.up with time := { Tests.up.time with house := 260 }, evt := { Tests.up.evt with held := [e] } }; (s.evtUp = true ∧ s.evt.warmLost = 0 ∧ firstEvt s.evt.held = some e ∧ e.house + 256 < s.time.house ∧ e.lost ≠ 0 ∧ s.evt.store.length < 4095)) ∧
    (let s := { Tests.up with time := { Tests.up.time with house := 259 }, evt := { Tests.up.evt with held := [⟨3, 6, 2, false, [], 0⟩] } }; (s.evt.warmLost = 0 ∧ s.evt.held.all (fun e => decide (s.time.house ≤ e.house + 256)) = true)) ∧
    (let e := (⟨3, 6, 1, false, [], 0⟩ : EvtRec); let s := { Tests.up with time := { Tests.up.time with house := 260 }, evt := { Tests.up.evt with held := [e], store := List.replicate 4096 e } }; (s.evtUp = true ∧ s.evt.warmLost = 0 ∧ firstEvt s.evt.held = some e ∧ e.house + 256 < s.time.house ∧ e.lost = 0 ∧ s.evt.store.length = 4096 ∧ s.eventRings = [])) ∧
    (let e := (⟨3, 6, 1, false, [7], 0⟩ : EvtRec); let rest := ([] : List EvtRec); let s := { Tests.ringUp 3 with evt := { Tests.up.evt with store := [e] } }; let n := (3 : RingIx); (s.hostUp = true ∧ s.evt.store = e :: rest ∧ s.eventRings = [n.val] ∧ s.unconsumed n + 2 < s.cqSlots n ∧ (s.ring n).lost = 0)) ∧
    (let e := (⟨3, 6, 1, false, [7], 0⟩ : EvtRec); let rest := ([] : List EvtRec); let s := ({ Tests.ringUp 3 with evt := { Tests.up.evt with store := [e] } }).setRing 3 { (Tests.ringUp 3).ring 3 with cqTail := 14 }; let n := (3 : RingIx); (s.hostUp = true ∧ s.evt.store = e :: rest ∧ s.eventRings = [n.val] ∧ s.cqSlots n ≤ s.unconsumed n + 2)) := by
  refine ⟨?_, ?_, ?_, ?_, ?_, ?_⟩ <;> decide +kernel

/-- The hypotheses of `Ledgers_and_the_Prompt_Book` can be met, clause by clause. -/
theorem wit_Ledgers_and_the_Prompt_Book :
    (let s := Tests.up; (s.ledgers.all (fun x => x.2.2.1 == x.2.2.2) = true)) ∧
    (let s := Tests.up.setRv R.FLY_BURSTS_OPEN 1; let x := (((5, 0, 1, 0) : Nat × Nat × Nat × Nat)); (s.evtUp = true ∧ s.rv R.EVT_LEDGER ≠ 0 ∧ s.hasRoom Src.events = true ∧ x.1 < 7) ∧ (s.ledgers.filter (fun y => y.2.2.1 != y.2.2.2) = [x])) ∧
    (let s := Tests.up; let ts := List.replicate 19 (0x0500 : BitVec 16); (s.powered .gl = true ∧ ts.length = 19)) ∧
    (let s := Tests.linkOn Tests.up 65; (s.evtUp = true)) ∧
    (let s := Tests.up.setRv R.PBK_SEQ 5; (s.evtUp = true ∧ s.pwr.seq = none ∧ s.rv R.PBK_SEQ ≠ 0)) ∧
    (let s := Tests.up.setRv R.PBK_SEQ 5; (s.evtUp = true ∧ s.pwr.seq = none)) := by
  refine ⟨?_, ?_, ?_, ?_, ?_, ?_⟩ <;> decide +kernel

end Sys2Proof.Machine
end

section
/-! SUPPORT. What register reads and writes leave, and what a field and a register hold at reset, said once (R8 to R14). -/

namespace Sys2Proof.Machine

variable (s : State)

/-! ### Register values at reset -/

/-- A register holds its table's reset value right after reset. -/
theorem State.reset_rv {off v : Nat} (h : (findReg off).map (fun x => x.1.resetValue) = some v) :
    State.reset.rv off = v % 2 ^ 64 := by
  obtain ⟨⟨r, base⟩, hf, rfl⟩ := Option.map_eq_some_iff.1 h
  change (resetVal off).toNat = _
  unfold resetVal
  rw [hf]
  exact BitVec.toNat_ofNat _ _

/-- A field holds its bits of the register's reset value. -/
theorem State.reset_fld {f : Fld} {v : Nat} (h : (findReg f.reg).map (fun x => x.1.resetValue) = some v) :
    State.reset.fld f = bits (v % 2 ^ 64) f.lsb f.width := by
  unfold State.fld
  rw [State.reset_rv h]

/-- Every field of a register that resets to 0 reads 0. -/
theorem State.reset_fld_zero {f : Fld} (h : (findReg f.reg).map (fun x => x.1.resetValue) = some 0) : State.reset.fld f = 0 := by
  rw [State.reset_fld h]
  simp [bits]

/-! ### Reads (R11) -/

/-- Latching a register changes only what the next reads return. -/
theorem State.latchReg_eq (off : Nat) : s.latchReg off = { s with regShadow := (s.latchReg off).regShadow } := by
  unfold State.latchReg
  split
  · dsimp only
    split <;> rfl
  · rfl

theorem State.latchRegs_eq (l : List Nat) :
    l.foldl State.latchReg s = { s with regShadow := (l.foldl State.latchReg s).regShadow } := by
  induction l generalizing s with
  | nil => rfl
  | cons off l ih =>
    rw [List.foldl_cons, ih (s.latchReg off), s.latchReg_eq off]

@[simp] theorem State.latchRegs_sent (l : List Nat) : (l.foldl State.latchReg s).sent = s.sent := by rw [s.latchRegs_eq l]

@[simp] theorem State.latch_sent (off v : Nat) : (s.latch off v).sent = s.sent := rfl
@[simp] theorem State.latch_get_same (off v : Nat) : (s.latch off v).regShadow.get none off = some (BitVec.ofNat 32 v) := by
  simp [State.latch]

/-- A read of a low half returns the low 32 bits of the value as it stands. -/
theorem State.readLow_sent (r : RegDef) (base : Nat) :
    (s.readLow r base).sent = s.sent ++ [.readData (r.readMask (s.regValue base) % 2 ^ 32)] := by
  unfold State.readLow State.send
  dsimp only
  repeat' split
  all_goals simp

/-- A read of the low half of a 64-bit register holds the high half (R11). -/
theorem State.readLow_high {r : RegDef} (base : Nat) (h : r.wide = true) :
    (s.readLow r base).regShadow.get none (base + 4) = some (BitVec.ofNat 32 (r.readMask (s.regValue base) / 2 ^ 32)) := by
  unfold State.readLow State.send
  dsimp only
  rw [if_pos h]
  split <;> simp

/-- A read clears the `RC` fields of the register (R12). -/
theorem State.readLow_rv {r : RegDef} (base : Nat) (h : r.fields.any (fun f => f.access = .rc) = true) :
    (s.readLow r base).rv base = r.afterRead (s.rv base) % 2 ^ 64 := by
  unfold State.readLow State.send
  dsimp only
  rw [if_pos h]
  exact State.rv_setRv_same _ _ _

/-- No array of registers with an effect of its own holds the offset. -/
theorem RegAct.findSome_at_none {α : Type} {l : List (RegAct α)} {off : Nat} (h : l.all (fun x => (x.at_ off).isNone) = true) :
    l.findSome? (·.at_ off) = none :=
  List.findSome?_eq_none_iff.2 fun x hx => Option.isNone_iff_eq_none.1 (List.all_eq_true.1 h x hx)

/-- A read that reaches a register's low half, which no latched value and no effect of its own governs. -/
theorem State.regRead_low {off : Nat} {a : Agent} {r : RegDef} (h4 : off % 4 = 0) (hlive : s.reach a off = .live)
    (hreg : findReg off = some (r, off)) (hplain : (readers a).all (fun x => (x.at_ off).isNone) = true)
    (hshadow : s.regShadow.get none off = none) : s.regRead off a = s.readLow r off := by
  unfold State.regRead State.readLive State.readWord
  rw [if_neg (not_not.2 h4), hlive, RegAct.findSome_at_none hplain, hshadow, hreg]
  exact if_pos rfl

/-! ### Writes (R7, R12) -/

/-- A write that reaches a 32-bit register without an effect of its own, and carries no reserved encoding, stores what its fields accept. -/
theorem State.regWrite_narrow {off v : Nat} {a : Agent} {r : RegDef} (h4 : off % 4 = 0) (hlive : s.reach a off = .live)
    (hcur : off < 0x03000000) (hreg : findReg off = some (r, off)) (hw : r.wide = false)
    (hplain : writers.all (fun x => (x.at_ off).isNone) = true) (hok : r.refuses v = false) :
    s.regWrite off v a = s.setRv off (r.written (s.rv off) v) := by
  have hnot : ¬ (0x03000000 ≤ off ∧ off < 0x03100000) := by omega
  have hfields : s.writeReg off v (agentSource a) = s.setRv off (r.written (s.rv off) v) := by
    unfold State.writeReg State.writeFields
    rw [hreg]
    simp [hok]
  unfold State.regWrite State.writeLive State.writeWhole
  rw [if_neg (not_not.2 h4), hlive]
  simp only [if_neg hnot, hreg, hw, RegAct.findSome_at_none hplain, hfields, Bool.not_false, if_true]

end Sys2Proof.Machine
end

section
/-! SUPPORT. What reading and writing memory leave of the state, and the bytes a write stores (R60 to R66). -/

namespace Sys2Proof.Machine

variable (s : State)

/-! ### The frame of a memory access -/

/-- From `s` to `t` only registers, events, memory and its pages, page moves and the Prompt Book's error counts may have changed:
what reading, writing and retiring memory can reach. -/
def MemFrame (s t : State) : Prop :=
  t = { s with regs := t.regs, evt := t.evt, mem := t.mem, blk := t.blk, pbk := t.pbk }

theorem MemFrame.refl : MemFrame s s := rfl

theorem MemFrame.trans {s t u : State} (h : MemFrame s t) (h2 : MemFrame t u) : MemFrame s u := by
  unfold MemFrame at h h2 ⊢
  rw [h] at h2
  exact h2

/-- A fold over steps that stay within the frame does. -/
theorem MemFrame.foldl {α : Type} (f : State → α → State) (hf : ∀ s a, MemFrame s (f s a)) (l : List α) (s : State) :
    MemFrame s (l.foldl f s) := by
  induction l generalizing s with
  | nil => exact MemFrame.refl s
  | cons a l ih => exact (hf s a).trans (ih _)

theorem MemFrame.sent {s t : State} (h : MemFrame s t) : t.sent = s.sent := by rw [h]

theorem MemFrame.raise (source code : Nat) (args : List Nat) : MemFrame s (s.raise source code args) := by
  unfold State.raise State.hold State.deferCurtain State.deferGhost
  dsimp only
  repeat' split
  all_goals rfl

theorem MemFrame.freeUnits (sram : Bool) (l : List Nat) : MemFrame s (s.freeUnits sram l) := by
  refine MemFrame.foldl _ (fun s u => ?_) l s
  split
  · rfl
  · split <;> rfl

theorem MemFrame.stopMove (m : PageMove) : MemFrame s (s.stopMove m) :=
  MemFrame.trans (t := { s with blk := { s.blk with moves := s.blk.moves.filter (· ≠ m) } }) rfl (MemFrame.freeUnits _ _ _)

theorem MemFrame.stopMovesTo (pc : Nat) : MemFrame s (s.stopMovesTo pc) :=
  (MemFrame.foldl State.stopMove MemFrame.stopMove _ s).trans rfl

/-- A pseudo-channel that leaves the plan. -/
theorem MemFrame.clearPc (pc cause : Nat) : MemFrame s (s.clearHealth 2 pc cause) := by
  have h0 : ¬ (2 : Nat) = 0 := by decide
  have h1 : ¬ (2 : Nat) = 1 := by decide
  unfold State.clearHealth
  simp only [if_neg h0, if_neg h1]
  split
  · exact (MemFrame.trans (t := s.setFld _ _) rfl (MemFrame.raise _ _ _ _)).trans (MemFrame.stopMovesTo _ _)
  · rfl

theorem MemFrame.retirePage (p : Nat) : MemFrame s (s.retirePage p) := by
  have hraise : MemFrame s ((s.setPage p pgRetired).raise Src.obj E.PAGE_RETIRED (words2 (p * pageSize))) :=
    MemFrame.trans (t := s.setPage p pgRetired) rfl (MemFrame.raise _ _ _ _)
  unfold State.retirePage
  split
  · rfl
  · dsimp only
    split
    · refine hraise.trans (MemFrame.trans ?_ (MemFrame.clearPc _ _ _))
      rfl
    · exact hraise

theorem MemFrame.noteUe (cw : Nat) : MemFrame s (s.noteUe cw) := by
  unfold State.noteUe
  refine MemFrame.trans ?_ (MemFrame.raise _ _ _ _)
  split <;> rfl

theorem MemFrame.noteCe (cw : Nat) : MemFrame s (s.noteCe cw) := by
  unfold State.noteCe
  dsimp only
  generalize cwPc cw = pc
  split
  all_goals
    split
    · refine MemFrame.trans ?_ (MemFrame.raise _ _ _ _)
      rfl
    · rfl

theorem MemFrame.consume (cw : Nat) : MemFrame s (s.consume cw).1 := by
  unfold State.consume
  split
  · refine (MemFrame.noteUe s cw).trans ?_
    dsimp only
    split
    · exact MemFrame.retirePage _ _
    · rfl
  · split
    · refine (MemFrame.noteCe s cw).trans ?_
      dsimp only
      split
      · split
        · refine MemFrame.trans ?_ (MemFrame.retirePage _ _)
          rfl
        · rfl
      · rfl
    · rfl

/-- Reading codewords folds the states of reading each. -/
theorem State.consumeAll_fst (cws : List Nat) : (s.consumeAll cws).1 = cws.foldl (fun s cw => (s.consume cw).1) s := by
  have hfold : ∀ (l : List Nat) (x : State × List Nat),
      (l.foldl (fun r cw => let c := r.1.consume cw; (c.1, if c.2 then r.2 ++ [cw] else r.2)) x).1 =
        l.foldl (fun s cw => (s.consume cw).1) x.1 := fun l => by
    induction l with
    | nil => exact fun x => rfl
    | cons cw l ih => exact fun x => ih _
  exact hfold cws (s, [])

theorem MemFrame.consumeAll (cws : List Nat) : MemFrame s (s.consumeAll cws).1 := by
  rw [s.consumeAll_fst cws]
  exact MemFrame.foldl _ MemFrame.consume cws s

theorem MemFrame.inject (p : Place) (n : Nat) : MemFrame s (s.inject p n) := by
  unfold State.inject
  dsimp only
  repeat' split
  all_goals rfl

theorem MemFrame.writeMem (p : Place) (bs : List Byte) : MemFrame s (s.writeMem p bs) := by
  refine (MemFrame.consumeAll s (partCws p bs.length)).trans (MemFrame.trans ?_ (MemFrame.inject _ _ _))
  rfl

/-! ### Memory without errors -/

/-- Where no codeword is marked, reading some changes nothing and finds none poisoned. -/
theorem State.consumeAll_clean (cws : List Nat) (hce : s.mem.ce = []) (hue : s.mem.ue = []) : s.consumeAll cws = (s, []) := by
  have hone : ∀ cw, s.consume cw = (s, false) := fun cw => by simp [State.consume, hce, hue]
  unfold State.consumeAll
  induction cws with
  | nil => rfl
  | cons cw cws ih => simpa [hone] using ih

theorem MemSt.remark_clean {m : MemSt} (p : Place) (n : Nat) (hce : m.ce = []) (hue : m.ue = []) : m.remark p n = m := by
  cases m
  subst hce hue
  unfold MemSt.remark
  split <;> rfl

/-- With no mark and no injection asked for, a write stores its bytes and does nothing else. -/
theorem State.writeMem_clean (p : Place) (bs : List Byte) (hce : s.mem.ce = []) (hue : s.mem.ue = [])
    (hinj : s.fld F.OBJ_INJECT.MODE = 0) : s.writeMem p bs = { s with mem := s.mem.putBytes p bs } := by
  unfold State.writeMem
  simp only [s.consumeAll_clean _ hce hue, MemSt.remark_clean p _ hce hue]
  exact if_pos hinj

/-! ### The bytes a write stores -/

theorem MemSt.byte_congr {m n : MemSt} (h : n.hbm = m.hbm) (g : n.sram = m.sram) (q : Place) : n.byte q = m.byte q := by
  cases q
  · exact congrArg (fun x => FMap.get 0 x _) h
  · exact congrArg (fun x => FMap.get 0 x _) g

/-- Bytes at places that a run of writes does not reach stay. -/
theorem MemSt.byte_putBytes_out (m : MemSt) (p q : Place) (bs : List Byte) (h : ∀ i < bs.length, q ≠ p.add i) :
    (m.putBytes p bs).byte q = m.byte q := by
  have apart : ∀ a b : Nat, (∀ i < bs.length, b ≠ a + i) → b < a ∨ a + bs.length ≤ b := fun a b hab => by
    by_contra hc
    exact hab (b - a) (by omega) (by omega)
  cases p with
  | hbm a => cases q with
    | hbm b => exact FMap.get_putList_out _ _ _ _ _ _ (apart a b fun i hi e => h i hi (congrArg Place.hbm e))
    | sram b => rfl
  | sram a => cases q with
    | hbm b => rfl
    | sram b => exact FMap.get_putList_out _ _ _ _ _ _ (apart a b fun i hi e => h i hi (congrArg Place.sram e))

/-- Whatever errors a write meets on its way, memory then holds the bytes written. -/
theorem State.writeMem_byte (p q : Place) (bs : List Byte) : (s.writeMem p bs).mem.byte q = (s.mem.putBytes p bs).byte q := by
  obtain ⟨hh, hs⟩ := s.consumeAll_bytes (partCws p bs.length)
  unfold State.writeMem
  generalize (s.consumeAll (partCws p bs.length)).1 = t at hh hs
  obtain ⟨ih, is⟩ := State.inject_bytes ({ t with mem := (t.mem.remark p bs.length).putBytes p bs } : State) p bs.length
  rw [MemSt.byte_congr ih is]
  apply MemSt.byte_congr <;> cases p <;> simp [MemSt.putBytes, hh, hs]

theorem State.writeMem_byte_in (p : Place) (bs : List Byte) (i : Nat) (h : i < bs.length) :
    (s.writeMem p bs).mem.byte (p.add i) = bs.getD i 0 := by
  rw [s.writeMem_byte, MemSt.byte_putBytes_in _ _ _ _ h]

theorem State.writeMem_byte_out (p q : Place) (bs : List Byte) (h : ∀ i < bs.length, q ≠ p.add i) :
    (s.writeMem p bs).mem.byte q = s.mem.byte q := by
  rw [s.writeMem_byte, MemSt.byte_putBytes_out _ _ _ _ h]

/-! ### Bytes of an object in one page -/

/-- A write that lies in the one page of an object, and does not cover it whole, is one write to memory. -/
theorem State.writeUnits_onePage (p off : Nat) (bs : List Byte) (fuel : Nat) (h0 : bs ≠ []) (hfit : off + bs.length ≤ pageSize)
    (hpart : bs.length < pageSize) :
    s.writeUnits false [p] off bs (fuel + 2) = (s.writeMem (.hbm (p * pageSize + off)) bs, [p]) := by
  have hpos := List.length_pos_iff.2 h0
  have hoff : off < pageSize := by omega
  have hall : bs.length ≤ pageSize - off % pageSize := by rw [Nat.mod_eq_of_lt hoff]; omega
  have hplace : placeOf false [p] off = .hbm (p * pageSize + off) := by
    simp [placeOf, Nat.div_eq_of_lt hoff, Nat.mod_eq_of_lt hoff]
  have hne : ¬ bs.length = pageSize := by omega
  unfold State.writeUnits
  simp [h0, List.take_of_length_le hall, List.drop_of_length_le hall, hne, hplace, State.writeUnits]

/-- What such a write to an object stores, and what it leaves. -/
theorem State.objWrite_onePage (idx p off : Nat) (bs : List Byte) (hpages : (s.obj? idx).pages = [p])
    (hsram : (s.obj? idx).sram = false) (h0 : bs ≠ []) (hfit : off + bs.length ≤ pageSize) (hpart : bs.length < pageSize) :
    (s.objWrite idx off bs).mem = (s.writeMem (.hbm (p * pageSize + off)) bs).mem ∧ (s.objWrite idx off bs).sent = s.sent := by
  have hpos := List.length_pos_iff.2 h0
  obtain ⟨fuel, hfuel⟩ : ∃ fuel, bs.length + 1 = fuel + 2 := ⟨bs.length - 1, by omega⟩
  unfold State.objWrite
  simp only [hpages, hsram, hfuel, s.writeUnits_onePage p off bs fuel h0 hfit hpart]
  exact ⟨rfl, (MemFrame.writeMem s _ _).sent⟩

end Sys2Proof.Machine
end

section
/-! SUPPORT. Accesses through the object aperture and the debug window, and the patrol scrubber (R59, R64, R67). -/

namespace Sys2Proof.Machine

variable (s : State)

/-! ### Aperture (R59) -/

/-- The aperture accepts a naturally aligned read of 1, 2, 4 or 8 bytes. -/
theorem apertureOk_read {off k : Nat} (hk : k = 1 ∨ k = 2 ∨ k = 4 ∨ k = 8) (hal : off % k = 0) : apertureOk off (.read k) = true := by
  rcases hk with rfl | rfl | rfl | rfl <;> simp [apertureOk, hal]

/-- What the aperture takes as a write has at least one byte and at most 256. -/
theorem apertureOk_write_length {off : Nat} {b : List Byte} (h : apertureOk off (.write b) = true) : b ≠ [] ∧ b.length ≤ 256 := by
  simp only [apertureOk, Bool.and_eq_true, Bool.or_eq_true, Bool.not_eq_true', List.isEmpty_eq_false_iff, List.contains_eq_mem,
    List.mem_cons, List.not_mem_nil, or_false, decide_eq_true_eq] at h
  obtain ⟨h0, ⟨h8, -⟩ | h256⟩ := h <;> exact ⟨h0, by omega⟩

/-- Where no codeword is marked, reading an object delivers its bytes and changes nothing. -/
theorem State.readObj_clean (o : Obj) (off n : Nat) (hce : s.mem.ce = []) (hue : s.mem.ue = []) :
    s.readObj o off n = (s, s.objBytes o off n, none) := by
  unfold State.readObj
  simp [s.consumeAll_clean _ hce hue, State.objBytes]

/-- An object without a coverage map has none to mark. -/
theorem State.coverMixed_curve {o : Obj} (off n : Nat) (h : o.kind = kCurve) : s.coverMixed o off n = s := by
  unfold State.coverMixed
  rw [h]
  exact if_neg (by decide)

@[simp] theorem State.noteUnmirrored_mem : s.noteUnmirrored.mem = s.mem := by
  unfold State.noteUnmirrored
  split <;> simp

@[simp] theorem State.noteUnmirrored_sent : s.noteUnmirrored.sent = s.sent := by
  unfold State.noteUnmirrored
  split <;> simp

end Sys2Proof.Machine
end

section
/-! SUPPORT. The clauses of the statements of chapter 0, each about one command, and the statements assembled from them. -/

namespace Sys2Proof.Machine

variable (s : State)

/-! ### Register accesses (R9 to R14) -/

theorem exec_regReadLowHalf (off : Fin 134217728) (a : Agent) : exec (.regReadLowHalf off a) s = s.done (s.regRead off a) := rfl
theorem exec_rcCounterRead (off : Fin 134217728) (a : Agent) : exec (.rcCounterRead off a) s = s.done (s.regRead off a) := rfl
theorem exec_registerWrite (off : Fin 134217728) (v : Word) (a : Agent) :
    exec (.registerWrite off v a) s = s.done (s.regWrite off v.toNat a) := rfl

/-- R10: an access that is not an aligned 32-bit one only sends Unsupported Request. -/
theorem exec_regAccessUnsupported (off : Fin 134217728) (n : Nat) (w : Bool) (h : ¬ (n = 4 ∧ off.val % 4 = 0)) :
    exec (.regAccessUnsupported off n w) s = .next (s.send .unsupported) := by
  change (if n = 4 ∧ off.val % 4 = 0 then _ else s.done (s.send .unsupported)) = _
  rw [if_neg h]
  exact s.done_of rfl rfl

/-- R10, R26: the register map has registers, and arrays of them, at 32-bit aligned offsets only. -/
theorem regTable_aligned : ∀ r ∈ regTable, r.base % 4 = 0 ∧ (r.dims.all (fun d => d.1 % 4 == 0)) = true := by decide +kernel

/-! ### Windows (R59, R67) -/

/-- While the host is up and no load window stands in its place, an aperture access goes to the object. -/
theorem exec_apertureAccess (off : Fin 134217728) (op : WindowOp) (hup : s.hostUp = true) (hwin : s.boot.window = false) :
    exec (.apertureAccess off op) s = s.done (s.aperture off op) := by
  change s.done (if s.boot.window && s.powered .host then _ else if s.hostUp then s.aperture off op else _) = _
  simp [hup, hwin]

/-- A read of an object without marked codewords returns its bytes (R59). -/
theorem State.aperture_read {off k : Nat} (hok : apertureOk off (.read k) = true) (hlive : s.live (s.fld F.OBJ_APT_HANDLE.HANDLE) = true)
    (hfit : s.rv R.OBJ_APT_BASE + off + k ≤ (s.obj? (handleIdx (s.fld F.OBJ_APT_HANDLE.HANDLE))).size)
    (hce : s.mem.ce = []) (hue : s.mem.ue = []) :
    s.aperture off (.read k) = s.send (.readData (leNat
      (s.objBytes (s.obj? (handleIdx (s.fld F.OBJ_APT_HANDLE.HANDLE))) (s.rv R.OBJ_APT_BASE + off) k))) := by
  unfold State.aperture
  simp [hok, hlive, opSize, hfit, s.readObj_clean _ _ _ hce hue]

/-- A write within a live object stores its bytes, marks coverage, and may be told as unmirrored (R59, R149, R335). -/
theorem State.aperture_write {off : Nat} {b : List Byte} (hok : apertureOk off (.write b) = true)
    (hlive : s.live (s.fld F.OBJ_APT_HANDLE.HANDLE) = true)
    (hfit : s.rv R.OBJ_APT_BASE + off + b.length ≤ (s.obj? (handleIdx (s.fld F.OBJ_APT_HANDLE.HANDLE))).size) :
    s.aperture off (.write b) = ((s.objWrite (handleIdx (s.fld F.OBJ_APT_HANDLE.HANDLE)) (s.rv R.OBJ_APT_BASE + off) b).coverMixed
      (s.obj? (handleIdx (s.fld F.OBJ_APT_HANDLE.HANDLE))) (s.rv R.OBJ_APT_BASE + off) b.length).noteUnmirrored := by
  unfold State.aperture
  simp [hok, hlive, opSize, hfit]

/-- While the host and HBM are up, a debug window access goes to HBM. -/
theorem exec_debugWindowAccess (off : Fin 34359738368) (op : WindowOp) (hup : s.hostUp = true) (hhbm : s.powered .hbm = true) :
    exec (.debugWindowAccess off op) s = s.done (s.window off op) := by
  change s.done (if s.hostUp && s.powered .hbm then s.window off op else _) = _
  simp [hup, hhbm]

/-- A read of HBM without marked codewords returns its bytes. -/
theorem State.window_read {off k : Nat} (hen : s.flag F.HST_DBG_EN.BAR4 = true) (hin : off < 0x600000000)
    (hrec : s.inRecords off k = false) (hce : s.mem.ce = []) (hue : s.mem.ue = []) :
    s.window off (.read k) = s.send (.readData (leNat (s.mem.bytesAt (.hbm off) k))) := by
  have hnot : ¬ hbmBytes ≤ off := Nat.not_le.2 hin
  unfold State.window
  simp [hen, hnot, hrec, s.consumeAll_clean _ hce hue]

/-- A write that ends within HBM writes all its bytes. -/
theorem State.window_write {off : Nat} {b : List Byte} (hen : s.flag F.HST_DBG_EN.BAR4 = true) (hin : off + b.length ≤ 0x600000000)
    (hpos : 0 < b.length) : s.window off (.write b) = s.writeMem (.hbm off) b := by
  have hnot : ¬ hbmBytes ≤ off := by unfold hbmBytes; omega
  have hall : b.length ≤ hbmBytes - off := by unfold hbmBytes; omega
  unfold State.window
  simp [hen, hnot, List.take_of_length_le hall]

/-! ### Patrol scrubber (R64) -/

/-- The counter of corrected errors in Stage SRAM advances, whatever else the error leads to. -/
theorem State.noteCe_sram_count {cw : Nat} (h : ¬ cw < 2 ^ 31) :
    (s.noteCe cw).fld F.OBJ_SRAM_CE_CNT.COUNT = (s.fld F.OBJ_SRAM_CE_CNT.COUNT + 1) % 2 ^ 64 := by
  have hbump : (s.bump F.OBJ_SRAM_CE_CNT.COUNT).fld F.OBJ_SRAM_CE_CNT.COUNT = (s.fld F.OBJ_SRAM_CE_CNT.COUNT + 1) % 2 ^ 64 :=
    s.fld_setFld_same F.OBJ_SRAM_CE_CNT.COUNT _ (by decide)
  have hpc : cwPc cw = 32 := if_neg h
  unfold State.noteCe
  simp only [hpc, if_true]
  split
  · rw [State.raise_fld _ _ _ _ _ (by decide) (by decide) (by decide)]
    exact hbump
  · exact hbump

@[simp] theorem State.noteCe_ce (cw : Nat) : (s.noteCe cw).mem.ce = s.mem.ce := by
  unfold State.noteCe
  dsimp only
  generalize cwPc cw = pc
  split <;> split <;> simp

/-- The scrubber at a Stage SRAM codeword with a correctable error notes the error and removes its mark. -/
theorem State.scrub_sram {cw : Nat} (h : ¬ cw < 2 ^ 31) (hce : s.mem.ce.contains cw = true) (hue : s.mem.ue.contains cw = false) :
    s.scrub cw = { s.noteCe cw with mem := { (s.noteCe cw).mem with ce := s.mem.ce.filter (· ≠ cw) } } := by
  have hpage : ¬ (cw < 2 ^ 31 ∧ cw * 16 % pageSize = 0) := fun hc => h hc.1
  have hread : s.consume cw = (s.noteCe cw, false) := by
    unfold State.consume
    rw [hue, hce]
    exact if_neg h
  unfold State.scrub
  simp only [if_neg hpage, hread, State.noteCe_ce]

theorem exec_patrolScrub_sram (n : Fin 4194304) (hup : s.evtUp = true) :
    exec (.patrolScrub (.sram n)) s = s.done (s.scrub (2 ^ 31 + n.val)) := by
  change s.done (s.when (s.evtUp && true) (s.scrub (2 ^ 31 + n.val))) = _
  rw [hup]
  rfl

/-! ### The statements -/

/-- Settles O16: the access sends Unsupported Request and nothing else (R10), and the register map is aligned throughout. -/
theorem unsupportedRegisterAccesses : Obligations.Unsupported_register_accesses := by
  unfold Obligations.Unsupported_register_accesses
  exact ⟨exec_regAccessUnsupported, regTable_aligned⟩

/-- Settles O7, from the rules for reading a field after a write to the same field, to another one and to another register. -/
theorem fieldsAreSeparate : Obligations.Fields_are_separate := by
  unfold Obligations.Fields_are_separate
  refine ⟨fun s f v h64 => s.fld_setFld_same f v h64, fun s f g v h64 hapart => ?_, fun s f v off hoff => s.rv_setFld_other v hoff⟩
  by_cases hreg : g.reg = f.reg
  · exact s.fld_setFld_apart v hreg h64 (hapart.resolve_left (not_not.2 hreg))
  · exact s.fld_setFld_reg v hreg

/-- Settles O2: each register involved is looked up in the register map, and its field read off the reset value found there. -/
theorem resetState : Obligations.Reset_state := by
  have links : ∀ n : Fin 66, (findReg (R.CL_STATE n)).map (fun x => x.1.resetValue) = some 0 := by decide +kernel
  have channels : ∀ n : Fin 32, (findReg (R.FLY_STATUS n)).map (fun x => x.1.resetValue) = some 0 := by decide +kernel
  have rings : ∀ n : Fin 64, (findReg (R.HST_RING_CFG n)).map (fun x => x.1.resetValue) = some 0x440 := by decide +kernel
  have rates : ∀ x : StageClk, (findReg (R.TIM_RATE (clkIx x))).map (fun x => x.1.resetValue) = some 0 := by
    intro x
    cases x <;> decide +kernel
  have clocks : ∀ x : StageClk, State.reset.clk x = ClockSt.cold := fun x => by cases x <;> rfl
  unfold Obligations.Reset_state
  refine ⟨⟨?identity, ?revision⟩, ⟨rfl, fun x => ⟨?value, ?unlocked, ?rate⟩⟩, rfl, ?curtain, ?role, ?claim, ?dispatch,
    fun n => ?link, fun n => ?channel, fun n => ?ring⟩
  case identity => exact (State.reset_fld (f := F.GLB_ID.ID) (v := 0x4B586400) (by decide +kernel)).trans (by decide)
  case revision => exact (State.reset_fld (f := F.GLB_REV.REV) (v := 0xA1) (by decide +kernel)).trans (by decide)
  case value => rw [clocks x]; rfl
  case unlocked => rw [clocks x]; rfl
  case rate =>
    unfold State.rate
    rw [State.reset_fld_zero (f := F.TIM_RATE.RATE (clkIx x)) (rates x)]
    rfl
  case curtain => exact State.reset_fld_zero (f := F.CUR_STATE.MODE) (by decide +kernel)
  case role => exact State.reset_fld_zero (f := F.TDM_STATE.ROLE) (by decide +kernel)
  case claim => exact State.reset_fld_zero (f := F.TDM_CLAIM.CLAIM) (by decide +kernel)
  case dispatch => exact State.reset_fld_zero (f := F.CB_MODE.MODE) (by decide +kernel)
  case link => exact State.reset_fld_zero (f := F.CL_STATE.STATE n) (links n)
  case channel => exact State.reset_fld_zero (f := F.FLY_STATUS.STATE n) (channels n)
  case ring => exact (State.reset_fld (f := F.HST_RING_CFG.ENABLE n) (rings n)).trans (by simp [F.HST_RING_CFG.ENABLE, bits])

/-- Settles O22, command by command: where the access goes, and then the rule of the operation it becomes. -/
theorem registerAndWindowAccesses : Obligations.Register_and_window_accesses := by
  unfold Obligations.Register_and_window_accesses
  refine ⟨?readLow, ?readClear, ?write, ?apertureRead, ?apertureWrite, ?windowRead, ?windowWrite, ?scrub⟩
  case readLow =>
    intro s off a r h4 hlive hreg hwide hplain hshadow
    rw [exec_regReadLowHalf, answers_done, s.regRead_low h4 hlive hreg hplain hshadow]
    exact ⟨s.readLow_sent r off, s.readLow_high off hwide⟩
  case readClear =>
    intro s off a r h4 hlive hreg hplain hshadow hrc
    rw [exec_rcCounterRead, answers_done, s.regRead_low h4 hlive hreg hplain hshadow]
    exact ⟨s.readLow_sent r off, s.readLow_rv off hrc⟩
  case write =>
    intro s off v a r h4 hlive hcur hreg hwide hplain hok
    rw [exec_registerWrite, s.regWrite_narrow h4 hlive hcur hreg hwide hplain hok]
    exact s.done_of rfl rfl
  case apertureRead =>
    intro s off k hup hwin hk hal hlive hfit ⟨hce, hue⟩
    rw [exec_apertureAccess s off _ hup hwin, s.aperture_read (apertureOk_read hk hal) hlive hfit hce hue]
    exact s.done_of rfl rfl
  case apertureWrite =>
    intro s off b p hup hwin hok hlive hkind ⟨hpages, hsram⟩ hfit hsize
    obtain ⟨h0, hlen⟩ := apertureOk_write_length hok
    obtain ⟨hmem, hsent⟩ := s.objWrite_onePage (handleIdx (s.fld F.OBJ_APT_HANDLE.HANDLE)) p (s.rv R.OBJ_APT_BASE + off) b
      hpages hsram h0 (hfit.trans hsize) (by unfold pageSize; omega)
    rw [exec_apertureAccess s off _ hup hwin, answers_done, s.aperture_write hok hlive hfit, State.coverMixed_curve _ _ _ hkind]
    simp only [State.settle_mem, State.settle_sent, State.noteUnmirrored_mem, State.noteUnmirrored_sent, hmem]
    exact ⟨fun i hi => s.writeMem_byte_in _ b i hi, fun q hq => s.writeMem_byte_out _ q b hq, hsent⟩
  case windowRead =>
    intro s off k hup hhbm hen hin hrec ⟨hce, hue⟩
    rw [exec_debugWindowAccess s off _ hup hhbm, s.window_read hen hin hrec hce hue]
    exact s.done_of rfl rfl
  case windowWrite =>
    intro s off b hup hhbm hen hin hpos ⟨hce, hue⟩ hinj
    rw [exec_debugWindowAccess s off _ hup hhbm, s.window_write hen hin hpos, s.writeMem_clean _ _ hce hue hinj]
    exact s.done_of rfl rfl
  case scrub =>
    intro s n hup hce hue
    have hn : ¬ 2 ^ 31 + n.val < 2 ^ 31 := by omega
    obtain ⟨hhbm, hsram⟩ := s.noteCe_bytes (2 ^ 31 + n.val)
    rw [exec_patrolScrub_sram s n hup, answers_done, s.scrub_sram hn hce hue]
    exact ⟨s.noteCe_sram_count hn, rfl, hhbm, hsram⟩

end Sys2Proof.Machine
end

section
/-! SUPPORT. The answer of every command: which clocks it settles to, and that the commands behind it wait on (R22, R68, R433). -/

namespace Sys2Proof.Machine

variable (s : State)

/-- What a command that resets no clock answers: it is refused as ill-formed, or it settles to the state it leads to. -/
inductive Settles : Host.Outcome State Fault Refusal → Prop
  | illFormed : Settles (.fault .illFormed)
  | done (t : State) : Settles (s.done t)

/-- What a supply, `RST_N` or the end of a power state answers: the queue stands, and each of the two clocks stands or starts anew. -/
inductive Restarts : Host.Outcome State Fault Refusal → Prop
  | stand (t : State) : Restarts (s.doneAs t s.time.house s.time.rtc s.time.rtcFrac)
  | house (t : State) : Restarts (s.doneAs t 0 s.time.rtc s.time.rtcFrac)
  | all (t : State) : Restarts (s.doneAs t 0 0 0)

variable {s}

/-- A check, for an ill-formed command on either side of it, between two answers. -/
theorem Settles.ite {p : Prop} [Decidable p] {o o' : Host.Outcome State Fault Refusal} (h : Settles s o) (h' : Settles s o') :
    Settles s (if p then o else o') := by
  split
  · exact h
  · exact h'

theorem Settles.next {t : State} (h : Settles s (.next t)) : ∃ u, t = s.settle u := by
  generalize ho : Host.Outcome.next t = o at h
  cases h with
  | illFormed => cases ho
  | done u => exact ⟨u, Host.Outcome.next.inj ho⟩

theorem Restarts.doneCold (c : Bool) (t : State) : Restarts s (s.doneCold c t) := by
  cases c
  · exact .stand t
  · exact .house t

theorem Restarts.pending {t : State} (h : Restarts s (.next t)) : t.pending = s.pending := by
  generalize ho : Host.Outcome.next t = o at h
  cases h <;> cases ho <;> rfl

variable (s)

/-- Every arm of `exec` but the four that may reset a clock ends in `done`, some behind a check of the command's form (assumption 158). -/
theorem exec_settles (c : Instr) (h : c.mayReset = false) : Settles s (exec c s) := by
  cases c with
  | qbWriteData | qbWriteLast | chkDataWrite | doorbellVectorArrival | descriptorArrival | pbkSecondTick =>
    exact .ite (.done _) .illFormed
  | regAccessUnsupported | linkBlockLock | calRunDone | cfgResponse | statusReceived | tandemNodeRequest | mirrorReceived
  | bulkReceived | lampstateReceived | stateReceived => exact .ite .illFormed (.done _)
  | powerExitStep | rstNLow | vddGlLoss | powerOn => cases h
  | _ => exact .done _

/-- The four commands that may reset a clock (R413, R433) ask only whether the Ghost Light has power and whether `OFF` ends. -/
theorem exec_restarts (c : Instr) (h : c.mayReset = true) : Restarts s (exec c s) := by
  cases c with
  | powerExitStep banks => exact .doneCold s.endsOff (s.exitStep banks.toNat)
  | rstNLow =>
    change Restarts s (if s.powered .gl then s.doneCold true s.rstN else s.doneCold false s)
    split <;> exact .doneCold _ _
  | vddGlLoss => exact .all s.glLoss
  | powerOn =>
    change Restarts s (if s.powered .gl then s.done s else s.doneAs s.powerOn 0 0 0)
    split
    · exact .stand s
    · exact .all s.powerOn
  | _ => cases h

/-- A command that may not reset a clock settles to some state. -/
theorem exec_settle {c : Instr} {s t : State} (hc : c.mayReset = false) (h : exec c s = .next t) : ∃ u, t = s.settle u :=
  (h ▸ exec_settles s c hc).next

/-- No command touches the commands that wait behind it. -/
theorem exec_pending {c : Instr} {s t : State} (h : exec c s = .next t) : t.pending = s.pending := by
  cases hc : c.mayReset with
  | false =>
    obtain ⟨u, rfl⟩ := exec_settle hc h
    exact s.settle_pending u
  | true => exact (h ▸ exec_restarts s c hc).pending

end Sys2Proof.Machine
end

section
/-! SUPPORT. What one HCLK cycle does to the house clock and the real-time clock, and what keeps them within their widths (R22, R68). -/

namespace Sys2Proof.Machine

variable (s : State)

/-! ### What leaves the time unit as it is -/

/-- A fold over steps that leave the time unit leaves it. -/
theorem State.foldl_time {α : Type} {f : State → α → State} (hf : ∀ s a, (f s a).time = s.time) (l : List α) :
    (l.foldl f s).time = s.time :=
  List.foldlRecOn (motive := fun t => t.time = s.time) l f rfl fun t ht a _ => (hf t a).trans ht

@[simp] theorem State.bumpSat_time (f : Fld) (n : Nat) : (s.bumpSat f n).time = s.time := rfl

@[simp] theorem State.invertBit_time (l k : Nat) : (s.invertBit l k).time = s.time := by
  unfold State.invertBit
  dsimp only
  split <;> simp

@[simp] theorem State.injectRate_time (l k : Nat) : (s.injectRate l k).time = s.time := by
  unfold State.injectRate
  dsimp only
  split
  · split <;> simp
  · rfl

@[simp] theorem State.laneTime_time (l : Nat) : (s.laneTime l).time = s.time := by
  unfold State.laneTime
  refine (State.foldl_time _ (fun s k => ?_) _).trans (State.foldl_time s (fun s k => s.injectRate_time l k) _)
  split <;> simp

@[simp] theorem State.cycleCounts_time : s.cycleCounts.time = s.time := by
  unfold State.cycleCounts
  refine (State.foldl_time _ (fun s l => s.bumpBy_time _ _) _).trans ((State.foldl_time _ State.laneTime_time _).trans ?_)
  split <;> simp

@[simp] theorem State.rxDrain_time : s.rxDrain.time = s.time := s.foldl_time (fun s p => s.updNet_time p _) _

@[simp] theorem State.deliver_time (c : Consumer) (r : CallRec) : (s.deliver c r).time = s.time := by
  unfold State.deliver
  cases c <;> rfl

@[simp] theorem State.dispatchN_time (n : Nat) : (s.dispatchN n).time = s.time := by
  induction n generalizing s with
  | zero => rfl
  | succ n ih =>
    unfold State.dispatchN
    split
    · rfl
    · split
      · exact (ih _).trans (s.deliver_time _ _)
      · rfl

@[simp] theorem State.dispatchAll_time : s.dispatchAll.time = s.time := by
  unfold State.dispatchAll
  split <;> simp

@[simp] theorem State.handoffEnds_time : s.handoffEnds.time = s.time := rfl

@[simp] theorem State.fclkCycle_time : s.fclkCycle.time = s.time := by
  unfold State.fclkCycle
  dsimp only
  split <;> simp

@[simp] theorem State.takeDeferred_time : s.takeDeferred.time = s.time := by
  unfold State.takeDeferred
  split
  · split <;> rfl
  all_goals rfl

@[simp] theorem State.presentEvents_time : s.presentEvents.time = s.time := by
  unfold State.presentEvents
  split <;> simp

/-! ### The clocks of one cycle -/

/-- The cycle's clocks are the root-derived ones: the real-time clock has counted before them. -/
theorem State.clockCycle_rtc : s.clockCycle.time.rtc = s.time.rtc ∧ s.clockCycle.time.rtcFrac = s.time.rtcFrac := by
  unfold State.clockCycle
  dsimp only
  split <;> exact ⟨rfl, rfl⟩

theorem State.clockCycle_house_lt : s.clockCycle.time.house < 2 ^ 64 := Nat.mod_lt _ (Nat.two_pow_pos 64)

variable {s}

/-- The range of the clocks is a fact about the time unit alone. -/
theorem State.clocksInRange.of_time {t : State} (h : s.clocksInRange) (ht : t.time = s.time) : t.clocksInRange := by
  unfold State.clocksInRange
  rw [ht]
  exact h

/-- A count of the real-time clock wraps at 64 bits and takes one count off its fraction. -/
theorem State.clocksInRange.rtcTick (h : s.clocksInRange) : ({ s with time := s.time.rtcTick } : State).clocksInRange := by
  obtain ⟨hhouse, hrtc, hfrac⟩ := h
  unfold State.clocksInRange TimeSt.rtcTick
  dsimp only
  split
  next hfull =>
    have hrest : s.time.rtcFrac + 32768 - hclkPerSecond < hclkPerSecond := by unfold hclkPerSecond at *; omega
    exact ⟨hhouse, Nat.mod_lt _ (Nat.two_pow_pos 64), hrest⟩
  next hpart => exact ⟨hhouse, hrtc, Nat.lt_of_not_le hpart⟩

theorem State.clocksInRange.clockCycle (h : s.clocksInRange) : s.clockCycle.clocksInRange := by
  obtain ⟨-, hrtc, hfrac⟩ := h
  obtain ⟨hr, hf⟩ := s.clockCycle_rtc
  exact ⟨s.clockCycle_house_lt, hr ▸ hrtc, hf ▸ hfrac⟩

theorem State.clocksInRange.tick (h : s.clocksInRange) : s.tick.clocksInRange := by
  have hrtc : (if s.powered .gl then { s with time := s.time.rtcTick } else s : State).clocksInRange := by
    split
    · exact h.rtcTick
    · exact h
  unfold State.tick
  dsimp only
  generalize (if s.powered .gl then { s with time := s.time.rtcTick } else s : State) = u at hrtc
  split
  · exact State.clocksInRange.clockCycle (hrtc.of_time (by simp))
  · exact hrtc

/-! ### The clocks of an answer -/

theorem State.clocksInRange.settle (h : s.clocksInRange) (t : State) : (s.settle t).clocksInRange := h

theorem Restarts.clocksInRange {t : State} (h : Restarts s (.next t)) (hs : s.clocksInRange) : t.clocksInRange := by
  obtain ⟨hhouse, hrtc, hfrac⟩ := hs
  have h0 : 0 < 2 ^ 64 := Nat.two_pow_pos 64
  have hc0 : 0 < hclkPerSecond := by decide
  generalize ho : Host.Outcome.next t = o at h
  cases h with
  | stand u => cases ho; exact ⟨hhouse, hrtc, hfrac⟩
  | house u => cases ho; exact ⟨h0, hrtc, hfrac⟩
  | all u => cases ho; exact ⟨h0, h0, hc0⟩

theorem exec_clocksInRange {c : Instr} {t : State} (hs : s.clocksInRange) (h : exec c s = .next t) : t.clocksInRange := by
  cases hc : c.mayReset with
  | false =>
    obtain ⟨u, rfl⟩ := exec_settle hc h
    exact hs.settle u
  | true => exact (h ▸ exec_restarts s c hc).clocksInRange hs

/-! ### The statements -/

/-- Settles O3: the memories by evaluation, the rest by the values written out in the state after reset. -/
theorem resetIsInForm : Obligations.Reset_is_in_form := by
  unfold Obligations.Reset_is_in_form
  have hclocks : State.reset.clocksInRange := by
    change 0 < 2 ^ 64 ∧ 0 < 2 ^ 64 ∧ 0 < hclkPerSecond
    decide
  exact ⟨hclocks, reset_memory_wf, rfl, rfl⟩

/-- Settles O6: what a command answers is settled or restarted, and a command that may not reset a clock settles. -/
theorem onlyResetsSetTheClocks : Obligations.Only_resets_set_the_clocks := by
  unfold Obligations.Only_resets_set_the_clocks
  refine ⟨fun c s t h => exec_pending h, fun c s t hc h => ?_⟩
  obtain ⟨u, rfl⟩ := exec_settle hc h
  exact ⟨rfl, rfl, rfl⟩

/-- Settles O4: an empty queue lets one cycle pass, and a command's answer leaves each clock or starts it anew. -/
theorem clocksStayInRange : Obligations.Clocks_stay_in_range := by
  unfold Obligations.Clocks_stay_in_range
  intro s t hs hstep
  unfold step at hstep
  split at hstep
  next => cases hstep; exact hs.tick
  next c rest hpending => exact exec_clocksInRange (hs.of_time (t := s.popped) rfl) hstep

end Sys2Proof.Machine
end

section
/-! SUPPORT. What ring, vector and store operations of the host interface read and leave: one lemma per operation (R30 to R52). -/

namespace Sys2Proof.Machine

variable (s : State)

/-! ### Rings and vectors -/

@[simp] theorem State.ring_setRing_same (n : Nat) (r : RingSt) : (s.setRing n r).ring n = r := FMap.get_put_same _ _ _ _

theorem State.ring_setRing_other {n m : Nat} (r : RingSt) (h : m ≠ n) : (s.setRing n r).ring m = s.ring m :=
  FMap.get_put_other _ _ _ _ h

theorem State.ring_of_host {s t : State} (h : t.host = s.host) (n : Nat) : t.ring n = s.ring n := by unfold State.ring; rw [h]

@[simp] theorem State.setStore_ring (l : List StoreEntry) (n : Nat) : (s.setStore l).ring n = s.ring n := rfl
@[simp] theorem State.dropEntry_ring (id n : Nat) : (s.dropEntry id).ring n = s.ring n := rfl
@[simp] theorem State.setVec_ring (v : Nat) (x : VecSt) (n : Nat) : (s.setVec v x).ring n = s.ring n := rfl
@[simp] theorem State.send_ring (x : Sent) (n : Nat) : (s.send x).ring n = s.ring n := rfl
@[simp] theorem State.raise_ring (source code : Nat) (args : List Nat) (n : Nat) : (s.raise source code args).ring n = s.ring n :=
  State.ring_of_host (s.raise_host source code args) n

/-! ### Changes of rings, vectors, registers and events alone -/

/-- From `s` to `t` only the host's rings, the causes of vectors, events and the counters of lost events may have changed: what taking
over doorbell words and advancing completion queues can reach. -/
def RingFrame (s t : State) : Prop :=
  t = { s with regs := t.regs, evt := t.evt, host := { s.host with rings := t.host.rings, vecs := t.host.vecs } } ∧
    ∀ o, o ∉ eventCounters → t.rv o = s.rv o

theorem RingFrame.refl : RingFrame s s := ⟨rfl, fun _ _ => rfl⟩

theorem RingFrame.trans {s t u : State} (h : RingFrame s t) (h2 : RingFrame t u) : RingFrame s u := by
  obtain ⟨h, hr⟩ := h
  obtain ⟨h2, hr2⟩ := h2
  refine ⟨?_, fun o ho => (hr2 o ho).trans (hr o ho)⟩
  rw [h] at h2
  exact h2

theorem RingFrame.setRing (n : Nat) (r : RingSt) : RingFrame s (s.setRing n r) := ⟨rfl, fun _ _ => rfl⟩

theorem RingFrame.signal (n : Nat) : RingFrame s (s.signal n) := ⟨rfl, fun _ _ => rfl⟩

/-- Raising an event changes events and the three counters of lost events only. -/
theorem State.raise_frame (source code : Nat) (args : List Nat) :
    s.raise source code args = { s with regs := (s.raise source code args).regs, evt := (s.raise source code args).evt } := by
  unfold State.raise State.hold State.deferCurtain State.deferGhost
  dsimp only
  repeat' split
  all_goals rfl

theorem State.raise_rv_of_notMem (source code : Nat) (args : List Nat) {o : Nat} (h : o ∉ eventCounters) :
    (s.raise source code args).rv o = s.rv o := by
  simp only [eventCounters, List.mem_cons, List.not_mem_nil, or_false, not_or] at h
  obtain ⟨h1, h2, h3⟩ := h
  exact s.raise_rv source code args o h1 h2 h3

theorem RingFrame.raise (source code : Nat) (args : List Nat) : RingFrame s (s.raise source code args) := by
  refine ⟨?_, fun o ho => s.raise_rv_of_notMem source code args ho⟩
  rw [s.raise_host]
  exact s.raise_frame source code args

theorem RingFrame.mem {s t : State} (h : RingFrame s t) : t.mem = s.mem := by rw [h.1]
theorem RingFrame.sent {s t : State} (h : RingFrame s t) : t.sent = s.sent := by rw [h.1]
theorem RingFrame.store {s t : State} (h : RingFrame s t) : t.host.store = s.host.store := by rw [h.1]
theorem RingFrame.entry {s t : State} (h : RingFrame s t) (id : Nat) : t.entry? id = s.entry? id := by
  unfold State.entry?; rw [h.store]

/-- The configuration of a ring is not among the counters of lost events. -/
theorem ringCfg_notMem_eventCounters {n : Nat} (h : n < 64) : R.HST_RING_CFG n ∉ eventCounters := by
  simp only [eventCounters, R.HST_RING_CFG, R.EVT_SRC_LOST_CNT, R.CUR_EVT_LOST_CNT, R.GL_EVT_LOST_CNT, List.mem_cons, List.not_mem_nil,
    or_false]
  omega

theorem RingFrame.cfg {s t : State} (h : RingFrame s t) {n : Nat} (hn : n < 64) : t.rv (R.HST_RING_CFG n) = s.rv (R.HST_RING_CFG n) :=
  h.2 _ (ringCfg_notMem_eventCounters hn)

/-- A ring's class, sizes and enable are fields of one register. -/
theorem State.ringShape_of_rv {s t : State} {n : Nat} (h : t.rv (R.HST_RING_CFG n) = s.rv (R.HST_RING_CFG n)) :
    t.isDescRing n = s.isDescRing n ∧ t.isEventRing n = s.isEventRing n ∧ t.ringSlots n = s.ringSlots n ∧ t.cqSlots n = s.cqSlots n := by
  have hf : ∀ f : Fld, f.reg = R.HST_RING_CFG n → t.fld f = s.fld f := fun f hr => by unfold State.fld; rw [hr, h]
  simp only [State.isDescRing, State.isEventRing, State.ringEnabled, State.ringClass, State.ringSlots, State.cqSlots, State.flag,
    hf (F.HST_RING_CFG.CLASS n) rfl, hf (F.HST_RING_CFG.ENABLE n) rfl, hf (F.HST_RING_CFG.SIZE_LOG2 n) rfl,
    hf (F.HST_RING_CFG.CQ_SIZE_LOG2 n) rfl, and_self]

/-! ### `CQ_FULL` and the completion queue (R47, R48) -/

theorem RingFrame.noteFull (n : Nat) : RingFrame s (s.noteFull n) := by
  unfold State.noteFull
  dsimp only
  split
  · split
    · exact RingFrame.refl s
    · exact (RingFrame.setRing s n _).trans (RingFrame.raise _ _ _ _)
  · exact RingFrame.setRing s n _

/-- Of a ring, only that its full queue has been told. -/
theorem State.noteFull_ring_same (n : Nat) : ∃ told, (s.noteFull n).ring n = { s.ring n with cqFullTold := told } := by
  unfold State.noteFull
  dsimp only
  split
  · split
    · exact ⟨(s.ring n).cqFullTold, rfl⟩
    · exact ⟨true, by simp⟩
  · exact ⟨false, by simp⟩

theorem State.noteFull_ring_other {n m : Nat} (h : m ≠ n) : (s.noteFull n).ring m = s.ring m := by
  unfold State.noteFull
  dsimp only
  split
  · split
    · rfl
    · rw [State.raise_ring, s.ring_setRing_other _ h]
  · exact s.ring_setRing_other _ h

theorem RingFrame.advanceCq (n : Nat) : RingFrame s (s.advanceCq n) := RingFrame.setRing s n _

@[simp] theorem State.advanceCq_ring (n : Nat) : (s.advanceCq n).ring n = { s.ring n with
    cqTail := ((s.ring n).cqTail + 1) % s.cqSlots n
    phase := if ((s.ring n).cqTail + 1) % s.cqSlots n = 0 then !(s.ring n).phase else (s.ring n).phase } :=
  s.ring_setRing_same n _

/-! ### Finishing, rejecting and flushing descriptors -/

/-- From `s` to `t` only registers and the host interface may have changed: what the completion of descriptors can reach. -/
def HostFrame (s t : State) : Prop := t = { s with regs := t.regs, host := t.host }

theorem HostFrame.refl : HostFrame s s := rfl

theorem HostFrame.trans {s t u : State} (h : HostFrame s t) (h2 : HostFrame t u) : HostFrame s u := by
  unfold HostFrame at h h2 ⊢
  rw [h] at h2
  exact h2

theorem HostFrame.foldl {α : Type} (f : State → α → State) (hf : ∀ s a, HostFrame s (f s a)) (l : List α) (s : State) :
    HostFrame s (l.foldl f s) := by
  induction l generalizing s with
  | nil => exact HostFrame.refl s
  | cons a l ih => exact (hf s a).trans (ih _)

theorem HostFrame.setStore (l : List StoreEntry) : HostFrame s (s.setStore l) := rfl
theorem HostFrame.setRing (n : Nat) (r : RingSt) : HostFrame s (s.setRing n r) := rfl

theorem HostFrame.mem {s t : State} (h : HostFrame s t) : t.mem = s.mem := by rw [h]
theorem HostFrame.sent {s t : State} (h : HostFrame s t) : t.sent = s.sent := by rw [h]

theorem HostFrame.finish (id status result : Nat) : HostFrame s (s.finish id status result) := by
  unfold State.finish
  split
  · exact HostFrame.refl s
  · dsimp only
    split <;> split <;> rfl

@[simp] theorem State.finish_mem (id status result : Nat) : (s.finish id status result).mem = s.mem := (HostFrame.finish s id status result).mem
@[simp] theorem State.finish_sent (id status result : Nat) : (s.finish id status result).sent = s.sent :=
  (HostFrame.finish s id status result).sent
@[simp] theorem State.finish_evt (id status result : Nat) : (s.finish id status result).evt = s.evt := by
  rw [HostFrame.finish s id status result]
@[simp] theorem State.finish_obj (id status result : Nat) : (s.finish id status result).obj = s.obj := by
  rw [HostFrame.finish s id status result]
@[simp] theorem State.finish_blk (id status result : Nat) : (s.finish id status result).blk = s.blk := by
  rw [HostFrame.finish s id status result]
@[simp] theorem State.finish_cb (id status result : Nat) : (s.finish id status result).cb = s.cb := by
  rw [HostFrame.finish s id status result]
@[simp] theorem State.finish_pwr (id status result : Nat) : (s.finish id status result).pwr = s.pwr := by
  rw [HostFrame.finish s id status result]
@[simp] theorem State.finish_off (id status result : Nat) : (s.finish id status result).off = s.off := by
  rw [HostFrame.finish s id status result]

/-- Of the registers, finishing a descriptor touches only the counts of its ring. -/
theorem State.finish_rv {id : Nat} (status result : Nat) {e : StoreEntry} {o : Nat} (he : s.entry? id = some e)
    (hdone : o ≠ R.HST_RING_DONE_CNT e.ring) (herr : o ≠ R.HST_RING_ERR_CNT e.ring) : (s.finish id status result).rv o = s.rv o := by
  have hd : (s.bump (F.HST_RING_DONE_CNT.COUNT e.ring)).rv o = s.rv o := s.rv_setFld_other _ hdone
  have hcounts : ∀ t : State, t.rv o = s.rv o → (t.bump (F.HST_RING_ERR_CNT.COUNT e.ring)).rv o = s.rv o :=
    fun t ht => (t.rv_setFld_other _ herr).trans ht
  unfold State.finish
  rw [he]
  dsimp only
  split <;> split
  · exact hd
  · exact hcounts _ hd
  · exact hd
  · exact hcounts _ hd

theorem HostFrame.rejectCue (c : CueRec) (status index : Nat) : HostFrame s (s.rejectCue c status index) := by
  unfold State.rejectCue
  refine HostFrame.trans ?_ (HostFrame.finish _ _ _ _)
  split
  · split <;> rfl
  · rfl

/-- Of a ring whose descriptors are flushed: registers and the host interface. -/
theorem HostFrame.flushRing (n : Nat) : HostFrame s (s.flushRing n) := by
  unfold State.flushRing
  refine HostFrame.trans ?_ (HostFrame.foldl _ (fun s id => HostFrame.finish s id St.flushed 0) _ _)
  refine HostFrame.trans (HostFrame.trans (HostFrame.trans ?_ (HostFrame.setStore _ _)) (HostFrame.setStore _ _)) (HostFrame.setRing _ _ _)
  cases s.openCue n with
  | none => exact HostFrame.refl s
  | some c => exact HostFrame.rejectCue s c St.flushed 0

end Sys2Proof.Machine
end

section
/-! SUPPORT. The doorbell vector: its fields, and what each ring takes over of its word (R33, R35). -/

namespace Sys2Proof.Machine

variable (s : State)

/-! ### Bytes and fields -/

theorem slice_eq_map (b : List Byte) (off n : Nat) : slice b off n = (List.range n).map (fun i => b.getD (off + i) 0) := by
  unfold slice
  refine List.ext_getElem (by simp) (fun i h1 h2 => ?_)
  rw [List.length_map, List.length_range] at h2
  rw [List.getElem_map, List.getElem_range, List.getElem_append]
  split
  next h =>
    rw [List.length_take, List.length_drop] at h
    rw [List.getElem_take, List.getElem_drop, List.getD_eq_getElem _ _ (by omega)]
  next h =>
    rw [List.length_take, List.length_drop] at h
    rw [List.getElem_replicate, List.getD_eq_default _ _ (by omega)]

@[simp] theorem slice_length (b : List Byte) (off n : Nat) : (slice b off n).length = n := by simp [slice_eq_map]

theorem slice_append (b : List Byte) (off m n : Nat) : slice b off (m + n) = slice b off m ++ slice b (off + m) n := by
  simp only [slice_eq_map, List.range_add, List.map_append, List.map_map, Function.comp_def, Nat.add_assoc]

theorem slice_all (b : List Byte) : slice b 0 b.length = b := by
  refine List.ext_getElem (by simp) (fun i h1 h2 => ?_)
  rw [List.getElem_of_eq (slice_eq_map b 0 b.length), List.getElem_map, List.getElem_range, Nat.zero_add, List.getD_eq_getElem _ _ h2]

theorem leNat_append (a b : List Byte) : leNat (a ++ b) = leNat a + 256 ^ a.length * leNat b := by
  induction a with
  | nil => simp [leNat]
  | cons x a ih => simp only [List.cons_append, leNat, ih, List.length_cons, Nat.pow_succ']; ring

theorem leNat_lt (a : List Byte) : leNat a < 256 ^ a.length := by
  induction a with
  | nil => simp [leNat]
  | cons x a ih =>
    have hx : x.toNat < 256 := x.isLt
    simp only [leNat, List.length_cons, Nat.pow_succ']
    omega

/-- The two halves of a 32-bit field are the two 16-bit fields in it. -/
theorem bits_fieldAt_four (b : List Byte) (off : Nat) :
    bits (fieldAt b off 4) 0 16 = fieldAt b off 2 ∧ bits (fieldAt b off 4) 16 16 = fieldAt b (off + 2) 2 := by
  have hlo : leNat (slice b off 2) < 65536 := by simpa using leNat_lt (slice b off 2)
  have hhi : leNat (slice b (off + 2) 2) < 65536 := by simpa using leNat_lt (slice b (off + 2) 2)
  unfold bits fieldAt
  rw [slice_append b off 2 2, leNat_append, slice_length]
  omega

/-! ### One ring and its word -/

/-- A doorbell word is in range for a ring, which is not stopped where it holds descriptors (R35). -/
def State.wordOk (n word : Nat) : Prop :=
  (s.isDescRing n = true → (s.ring n).stopped = false ∧ bits word 0 16 < s.ringSlots n) ∧
    (s.isDescRing n = true ∨ s.isEventRing n = true → bits word 16 16 < s.cqSlots n)

/-- A ring that has become `r` has taken over its doorbell word, as far as its class has it (R33). -/
def State.tookWord (n word : Nat) (r : RingSt) : Prop :=
  r.stopped = (s.ring n).stopped ∧ (s.isDescRing n = true → r.tail = bits word 0 16) ∧
    (s.isDescRing n = true ∨ s.isEventRing n = true → r.cqHead = bits word 16 16) ∧
    (s.isDescRing n = false → r.tail = (s.ring n).tail)

/-- Both speak of one ring and its configuration only. -/
theorem State.word_congr {s t : State} {n : Nat} (hr : t.ring n = s.ring n) (hc : t.rv (R.HST_RING_CFG n) = s.rv (R.HST_RING_CFG n))
    (word : Nat) : (t.wordOk n word ↔ s.wordOk n word) ∧ ∀ r, t.tookWord n word r ↔ s.tookWord n word r := by
  obtain ⟨hd, he, hs, hq⟩ := State.ringShape_of_rv hc
  unfold State.wordOk State.tookWord
  simp only [hr, hd, he, hs, hq, implies_true, and_self]

/-- No ring holds both descriptors and events (R30). -/
theorem State.isDescRing_of_isEventRing {n : Nat} (h : s.isEventRing n = true) : s.isDescRing n = false := by
  simp only [State.isEventRing, Bool.and_eq_true, beq_iff_eq] at h
  simp [State.isDescRing, h.2, clsEvent, clsShow, clsMgmt]

/-- A ring with a word in range takes it over; nothing else follows but `CQ_FULL`. -/
theorem State.takeWord_took {n word : Nat} (h : s.wordOk n word) :
    RingFrame s (s.takeWord n word) ∧ (∀ m ≠ n, (s.takeWord n word).ring m = s.ring m) ∧
      s.tookWord n word ((s.takeWord n word).ring n) := by
  obtain ⟨hdesc, hhead⟩ := h
  unfold State.takeWord
  dsimp only
  by_cases hev : s.isEventRing n = true
  · have hnd := s.isDescRing_of_isEventRing hev
    rw [if_pos hev, if_pos (decide_eq_true (hhead (Or.inr hev)))]
    exact ⟨RingFrame.setRing s n _, fun m hm => s.ring_setRing_other _ hm, by simp [State.tookWord, hnd, hev]⟩
  · by_cases hd : s.isDescRing n = true
    · obtain ⟨hrun, htail⟩ := hdesc hd
      have hok : (decide (bits word 16 16 < s.cqSlots n) && decide (bits word 0 16 < s.ringSlots n)) = true := by
        simp [hhead (Or.inl hd), htail]
      rw [if_neg hev, if_pos hd, if_neg (by simp [hrun]), if_pos hok]
      refine ⟨(RingFrame.setRing s n _).trans (RingFrame.noteFull _ n), fun m hm => ?_, ?_⟩
      · rw [State.noteFull_ring_other _ hm, s.ring_setRing_other _ hm]
      · obtain ⟨told, htold⟩ := (s.setRing n { s.ring n with tail := bits word 0 16, cqHead := bits word 16 16 }).noteFull_ring_same n
        rw [htold]
        simp [State.tookWord, hd]
    · rw [if_neg hev, if_neg hd]
      exact ⟨RingFrame.refl s, fun m _ => rfl, by simp [State.tookWord, hev, hd]⟩

/-- Rings that take over their words one after the other each take over their own. -/
theorem State.takeWords_took (word : Nat → Nat) (l : List Nat) (hnd : l.Nodup) (h64 : ∀ n ∈ l, n < 64)
    (hok : ∀ n ∈ l, s.wordOk n (word n)) :
    RingFrame s (l.foldl (fun s n => s.takeWord n (word n)) s) ∧
      (∀ m ∉ l, (l.foldl (fun s n => s.takeWord n (word n)) s).ring m = s.ring m) ∧
      ∀ n ∈ l, s.tookWord n (word n) ((l.foldl (fun s n => s.takeWord n (word n)) s).ring n) := by
  induction l generalizing s with
  | nil => exact ⟨RingFrame.refl s, fun _ _ => rfl, fun _ h => absurd h List.not_mem_nil⟩
  | cons a l ih =>
    obtain ⟨ha, hl⟩ := List.nodup_cons.1 hnd
    obtain ⟨hframe, hother, htook⟩ := s.takeWord_took (hok a List.mem_cons_self)
    have hsame : ∀ n ∈ l, (s.takeWord a (word a)).ring n = s.ring n ∧
        (s.takeWord a (word a)).rv (R.HST_RING_CFG n) = s.rv (R.HST_RING_CFG n) := fun n hn =>
      ⟨hother n (fun hc => ha (hc ▸ hn)), hframe.cfg (h64 n (List.mem_cons_of_mem _ hn))⟩
    obtain ⟨iframe, iother, itook⟩ := ih (s.takeWord a (word a)) hl (fun n hn => h64 n (List.mem_cons_of_mem _ hn))
      (fun n hn => (State.word_congr (hsame n hn).1 (hsame n hn).2 _).1.2 (hok n (List.mem_cons_of_mem _ hn)))
    refine ⟨hframe.trans iframe, fun m hm => ?_, fun n hn => ?_⟩
    · rw [List.mem_cons, not_or] at hm
      exact (iother m hm.2).trans (hother m hm.1)
    · rcases List.mem_cons.1 hn with rfl | hn
      · rw [List.foldl_cons, iother n ha]
        exact htook
      · exact ((State.word_congr (hsame n hn).1 (hsame n hn).2 _).2 _).1 (itook n hn)

/-! ### Polls, and the arrival of the vector -/

/-- A poll or nudge while no read is outstanding sends one. -/
theorem State.pollDoorbell_sends (hen : s.flag F.HST_CTRL.ENABLE = true) (hout : s.host.dbOutstanding = false) :
    s.pollDoorbell = { s with host := { s.host with dbOutstanding := true }
                              sent := s.sent ++ [.hostRead (s.fld F.HST_DB_ADDR.ADDR * 256) 256] } := by
  unfold State.pollDoorbell
  simp only [hen, hout]
  rfl

/-- One during a read is merged into it. -/
theorem State.pollDoorbell_merges (hen : s.flag F.HST_CTRL.ENABLE = true) (hout : s.host.dbOutstanding = true) :
    s.pollDoorbell = { s with host := { s.host with dbAgain := true } } := by
  unfold State.pollDoorbell
  simp only [hen, hout]
  rfl

/-- The read of the vector has returned, without a failure. -/
def State.vectorRead : State := { s with host := { s.host with dbOutstanding := false, dbFails := 0, dbTold := false } }

/-- With no further read owed, a vector that arrives is taken over ring by ring. -/
theorem State.vectorArrives_bytes (b : List Byte) (hout : s.host.dbOutstanding = true) (hagain : s.host.dbAgain = false)
    (hok : ∀ n < 64, s.wordOk n (fieldAt b (4 * n) 4)) :
    s.vectorArrives (.bytes b) = (List.range 64).foldl (fun s n => s.takeWord n (fieldAt b (4 * n) 4)) s.vectorRead := by
  obtain ⟨hframe, -, -⟩ := s.vectorRead.takeWords_took (fun n => fieldAt b (4 * n) 4) (List.range 64) List.nodup_range
    (fun n hn => List.mem_range.1 hn) (fun n hn => hok n (List.mem_range.1 hn))
  have hnot : ((List.range 64).foldl (fun s n => s.takeWord n (fieldAt b (4 * n) 4)) s.vectorRead).host.dbAgain = false := by
    rw [hframe.1]
    exact hagain
  unfold State.vectorArrives
  rw [hout]
  change State.pollAgain ((List.range 64).foldl (fun s n => s.takeWord n (fieldAt b (4 * n) 4)) s.vectorRead) = _
  unfold State.pollAgain
  rw [hnot]
  rfl

/-! ### Fetches and arrivals of descriptors (R37, R44) -/

/-- A ring with a descriptor to fetch and room for it sends one read (R37). -/
theorem State.fetchNext_fetches {n : Nat} (hen : s.flag F.HST_CTRL.ENABLE = true) (hdesc : s.isDescRing n = true)
    (hrun : (s.ring n).stopped = false) (hmore : (s.ring n).tail ≠ (s.ring n).fetchHead) (hshare : s.heldBy n < 1024)
    (hstore : s.host.store.length < 8192) :
    s.fetchNext n = ((({ s with host := { s.host with
        store := s.host.store ++ [⟨s.host.nextId, n, (s.ring n).fetchHead, [], .fetching, 0, none, false, [], [], 0, 0, []⟩]
        nextId := s.host.nextId + 1 } } : State).setRing n
          { s.ring n with fetchHead := ((s.ring n).fetchHead + 1) % s.ringSlots n }).send
        (.hostRead (s.ringBase n + (s.ring n).fetchHead * 64) 64)) := by
  have hnot : (!s.flag F.HST_CTRL.ENABLE || !s.isDescRing n || (s.ring n).stopped || (s.ring n).tail == (s.ring n).fetchHead ||
      decide (1024 ≤ s.heldBy n) || decide (8192 ≤ s.host.store.length)) = false := by
    simp [hen, hdesc, hrun, hmore, hshare, hstore]
  unfold State.fetchNext
  exact if_neg (ne_true_of_eq_false hnot)

/-- Entries with the id of `e` that are all replaced by one: it is found in the place of `e`. -/
theorem State.entry_updEntry_const {id : Nat} {e e' : StoreEntry} (hid : e'.id = id) (h : s.entry? id = some e) :
    (s.updEntry id (fun _ => e')).entry? id = some e' := by
  have hupd : s.updEntry id (fun _ => e') = s.updEntry id (fun x => { e' with id := x.id }) := by
    unfold State.updEntry
    congr 1
    refine List.map_congr_left (fun x _ => ?_)
    split
    next hx => dsimp only; rw [hx, ← hid]
    next => rfl
  rw [hupd, s.entry_updEntry id (fun x => { e' with id := x.id }) e (fun _ => rfl) h, s.entry_id h, ← hid]

/-- A clean descriptor that is no cue and no member of one is stored, and nothing else follows (R44). -/
theorem State.descArrives_clean {n : Nat} {b : List Byte} {e : StoreEntry}
    (hfind : s.host.store.find? (fun x => x.ring = n && x.phase == .fetching) = some e) (hfresh : e.verdict = 0)
    (halone : e.member = none) (hskip : (s.ring n).skip = 0) (hcue : (s.ring n).cueFetch = none)
    (hclean : s.descStatus { e with bytes := b, phase := .arrived } false = 0) (hop : fieldAt b 0 1 ≠ opCue) :
    s.descArrives n (.bytes b) = s.updEntry e.id (fun _ => { e with bytes := b, phase := .arrived }) := by
  have hring : e.ring = n := by
    have := List.find?_some hfind
    simp only [Bool.and_eq_true, decide_eq_true_eq] at this
    exact this.1
  have hplace : s.placeMember e.ring = (s, none) := by
    unfold State.placeMember
    simp only [hring, hcue]
  have hkeep : ({ e with bytes := b, phase := .arrived, member := none } : StoreEntry) = { e with bytes := b, phase := .arrived } := by
    rw [← halone]
  have hnot : ¬ ({ e with bytes := b, phase := .arrived } : StoreEntry).opcode = opCue := hop
  have hflush : ¬ e.verdict = St.flushed := by rw [hfresh]; decide
  unfold State.descArrives
  rw [hfind]
  simp only [hskip, Nat.lt_irrefl, if_false, if_neg hflush]
  unfold State.validate
  simp only [hplace, hkeep, Option.isSome_none, hclean, Bool.false_eq_true, if_false, ne_eq, not_true, if_neg hnot]
  rw [hfresh, halone]

end Sys2Proof.Machine
end

section
/-! SUPPORT. Completions, messages, restarts and settings of rings, and the statements about doorbells and rings assembled from them (R30 to
R53). -/

namespace Sys2Proof.Machine

variable (s : State)

/-! ### Completions and messages (R36, R47, R48, R50) -/

/-- The completion `e` has been written to its slot of queue `n`, and has left the store. -/
def State.completionSent (n : Nat) (rest : List Nat) (e : StoreEntry) : State :=
  (((s.send (.hostWrite (s.cqBase n + (s.ring n).cqTail * 16) (completionBytes e (s.ring n) s.time.house))).setRing n
    { s.ring n with waiting := rest }).dropEntry e.id).advanceCq n

theorem State.completionSent_ring (n : Nat) (rest : List Nat) (e : StoreEntry) : ∃ phase, (s.completionSent n rest e).ring n =
    { s.ring n with waiting := rest, cqTail := ((s.ring n).cqTail + 1) % s.cqSlots n, phase := phase } := by
  unfold State.completionSent
  rw [State.advanceCq_ring, State.dropEntry_ring, State.ring_setRing_same]
  exact ⟨_, rfl⟩

/-- The oldest waiting completion is written where the queue has room; then its vector may signal and `CQ_FULL` be told. -/
theorem State.writeCompletion_oldest {n id : Nat} {rest : List Nat} {e : StoreEntry} (hwait : (s.ring n).waiting = id :: rest)
    (hroom : s.cqFull n = false) (he : s.entry? id = some e) :
    s.writeCompletion n =
      (if e.irq then (s.completionSent n rest e).signal n else s.completionSent n rest e).noteFull n := by
  have hid := s.entry_id he
  subst hid
  unfold State.writeCompletion
  simp only [hwait, hroom, he]
  rfl

theorem RingFrame.signalIf (c : Bool) (n : Nat) : RingFrame s (if c then s.signal n else s) ∧
    ∀ m, (if c then s.signal n else s).ring m = s.ring m := by
  cases c
  · exact ⟨RingFrame.refl s, fun _ => rfl⟩
  · exact ⟨RingFrame.signal s n, fun _ => rfl⟩

/-- A write to the mask word of a vector's table entry with the mask bit clear unmasks it (R29). -/
theorem State.bar2Write_unmask (v : Fin 64) : s.bar2Write (v.val * 16 + 12) 0 = s.unmask v := by
  have hv := v.isLt
  have htable : ¬ 0x400 ≤ v.val * 16 + 12 := by omega
  have hword : (v.val * 16 + 12) % 16 = 12 := by omega
  have hvec : (v.val * 16 + 12) / 16 = v.val := by omega
  unfold State.bar2Write
  simp only [if_neg htable, hword, hvec]
  rfl

/-! ### Restarts and settings (R30, R51) -/

theorem State.restart_inRange {n head : Nat} (h : head < s.ringSlots n) :
    s.restart n head = (s.flushRing n).setRing n { (s.flushRing n).ring n with fetchHead := head, stopped := false } :=
  if_neg (Nat.not_le.2 h)

/-- The register definition of a ring's configuration. -/
def ringCfgDef : RegDef :=
  ⟨"HST_RING_CFG", 0x101000, [(0x40, 64)], false,
    [⟨"CLASS", 0, 2, .rw, .H, 0x0, .any⟩, ⟨"ENABLE", 2, 1, .rw, .H, 0x0, .any⟩, ⟨"IRQ", 3, 1, .rw, .H, 0x0, .any⟩,
      ⟨"SIZE_LOG2", 4, 4, .rw, .H, 0x4, .range 4 15⟩, ⟨"CQ_SIZE_LOG2", 8, 4, .rw, .H, 0x4, .range 4 15⟩, ⟨"VEC", 12, 6, .rw, .H, 0x0, .any⟩]⟩

theorem findReg_ringCfg : ∀ n : Fin 64, findReg (R.HST_RING_CFG n) = some (ringCfgDef, R.HST_RING_CFG n) := by decide +kernel

/-- A write whose two sizes are in range is taken over field by field. -/
theorem ringCfgDef_written (old v : Nat) (hs : 4 ≤ bits v 4 4) (hq : 4 ≤ bits v 8 4) : ringCfgDef.written old v =
    setBits (setBits (setBits (setBits (setBits (setBits old 0 2 (bits v 0 2)) 2 1 (bits v 2 1)) 3 1 (bits v 3 1)) 4 4 (bits v 4 4))
      8 4 (bits v 8 4)) 12 6 (bits v 12 6) := by
  have hs' : bits v 4 4 ≤ 15 := Nat.le_of_lt_succ (bits_lt v 4 4)
  have hq' : bits v 8 4 ≤ 15 := Nat.le_of_lt_succ (bits_lt v 8 4)
  simp [RegDef.written, ringCfgDef, FieldDef.next, Check.ok, hs, hs', hq, hq']

/-- Each field of the configuration then reads as the same field of what was written. -/
theorem ringCfgDef_written_bits (old v : Nat) (hs : 4 ≤ bits v 4 4) (hq : 4 ≤ bits v 8 4) :
    bits (ringCfgDef.written old v) 0 2 = bits v 0 2 ∧ bits (ringCfgDef.written old v) 2 1 = bits v 2 1 ∧
    bits (ringCfgDef.written old v) 3 1 = bits v 3 1 ∧ bits (ringCfgDef.written old v) 4 4 = bits v 4 4 ∧
    bits (ringCfgDef.written old v) 8 4 = bits v 8 4 ∧ bits (ringCfgDef.written old v) 12 6 = bits v 12 6 := by
  have hfield : ∀ l w, bits v l w % 2 ^ w = bits v l w := fun l w => Nat.mod_mod _ _
  rw [ringCfgDef_written old v hs hq]
  simp (disch := decide) only [bits_setBits_same, bits_setBits_other, hfield, and_self]

theorem ringCfgDef_written_lt {old : Nat} (v : Nat) (hold : old < 2 ^ 64) (hs : 4 ≤ bits v 4 4) (hq : 4 ≤ bits v 8 4) :
    ringCfgDef.written old v < 2 ^ 64 := by
  rw [ringCfgDef_written old v hs hq]
  refine setBits_lt _ _ _ _ _ (setBits_lt _ _ _ _ _ (setBits_lt _ _ _ _ _ (setBits_lt _ _ _ _ _ (setBits_lt _ _ _ _ _
    (setBits_lt _ _ _ _ _ hold ?_) ?_) ?_) ?_) ?_) ?_ <;> decide

/-- The word that a command with these settings writes, field by field. -/
theorem ringCfg_word (cls : BitVec 2) (enable irq : Bool) (size cqSize : BitVec 4) (vec : Fin 64) {w : Nat}
    (hw : w = cls.toNat + b2n enable * 4 + b2n irq * 8 + size.toNat * 16 + cqSize.toNat * 256 + vec.val * 4096) :
    bits w 0 2 = cls.toNat ∧ bits w 2 1 = b2n enable ∧ bits w 3 1 = b2n irq ∧ bits w 4 4 = size.toNat ∧ bits w 8 4 = cqSize.toNat ∧
      bits w 12 6 = vec.val := by
  have h1 := cls.isLt
  have h2 := size.isLt
  have h3 := cqSize.isLt
  have h4 := vec.isLt
  have h5 : b2n enable < 2 := by cases enable <;> decide
  have h6 : b2n irq < 2 := by cases irq <;> decide
  unfold bits
  omega

/-- The settings of a quiet ring change in its register, and in no other (R30). -/
theorem State.ringCfg_quiet (n : Fin 64) (v source : Nat) (hoff : s.ringEnabled n = false) (hheld : s.heldBy n = 0) :
    (s.ringCfg n v source).regs = (s.setRv (R.HST_RING_CFG n) (ringCfgDef.written (s.rv (R.HST_RING_CFG n)) v)).regs ∧
      (s.ringCfg n v source).mem = s.mem ∧ (s.ringCfg n v source).evt = s.evt := by
  have hbit : bit (s.rv (R.HST_RING_CFG n)) 2 = false := by
    have hzero : bits (s.rv (R.HST_RING_CFG n)) 2 1 = 0 := by
      simpa [State.ringEnabled, State.flag, State.fld, F.HST_RING_CFG.ENABLE] using hoff
    simp [bit, hzero]
  unfold State.ringCfg
  simp only [findReg_ringCfg n, hbit, hheld, Nat.lt_irrefl, Bool.false_eq_true, or_self, if_false]
  split <;> exact ⟨rfl, rfl, rfl⟩

/-- What a ring's settings are once their register has the value `x` and no other has changed. -/
theorem State.ringSettings_of_regs {s t : State} {n x : Nat} (hx : x < 2 ^ 64) (ht : t.regs = (s.setRv (R.HST_RING_CFG n) x).regs) :
    t.ringClass n = bits x 0 2 ∧ t.ringEnabled n = (bits x 2 1 != 0) ∧ t.flag (F.HST_RING_CFG.IRQ n) = (bits x 3 1 != 0) ∧
      t.fld (F.HST_RING_CFG.SIZE_LOG2 n) = bits x 4 4 ∧ t.fld (F.HST_RING_CFG.CQ_SIZE_LOG2 n) = bits x 8 4 ∧
      t.fld (F.HST_RING_CFG.VEC n) = bits x 12 6 ∧ ∀ o : Nat, o ≠ R.HST_RING_CFG n → t.rv o = s.rv o := by
  have hrv : t.rv (R.HST_RING_CFG n) = x := by rw [State.rv_eq_of_regs ht, s.rv_setRv_same, Nat.mod_eq_of_lt hx]
  have hfld : ∀ l w, t.fld ⟨R.HST_RING_CFG n, l, w⟩ = bits x l w := fun l w => congrArg (bits · l w) hrv
  exact ⟨hfld 0 2, congrArg (· != 0) (hfld 2 1), congrArg (· != 0) (hfld 3 1), hfld 4 4, hfld 8 4, hfld 12 6,
    fun o ho => (State.rv_eq_of_regs ht o).trans (s.rv_setRv_other x ho)⟩

@[simp] theorem b2n_bne_zero (b : Bool) : (b2n b != 0) = b := by cases b <;> rfl

/-! ### The statements -/

theorem State.evtUp_of_hostUp (h : s.hostUp = true) : s.evtUp = true := by
  unfold State.hostUp at h
  exact (Bool.and_eq_true_iff.1 h).2

/-- Settles O23: each command becomes one operation, and the vector is taken over ring by ring. -/
theorem doorbellsAndFetches : Obligations.Doorbells_and_fetches := by
  unfold Obligations.Doorbells_and_fetches
  refine ⟨?poll, ?nudge, ?merged, ?arrival, ?fetch, ?descriptor⟩
  case poll =>
    intro s hup hen hout
    change s.done (s.when s.hostUp s.pollDoorbell) = _
    rw [hup, State.when_true, s.pollDoorbell_sends hen hout]
    exact s.done_of rfl rfl
  case nudge =>
    intro s hup hen hout
    change s.done (s.when s.hostUp s.pollDoorbell) = _
    rw [hup, State.when_true, s.pollDoorbell_sends hen hout]
    exact s.done_of rfl rfl
  case merged =>
    intro s hup hen hout
    change s.done (s.when s.hostUp s.pollDoorbell) = _
    rw [hup, State.when_true, s.pollDoorbell_merges hen hout]
    exact s.done_of rfl rfl
  case arrival =>
    intro s b hup hlen hout hagain hdesc hhead
    have hok : ∀ n < 64, s.vectorRead.wordOk n (fieldAt b (4 * n) 4) := fun n hn => by
      unfold State.wordOk
      rw [(bits_fieldAt_four b (4 * n)).1, (bits_fieldAt_four b (4 * n)).2]
      exact ⟨hdesc n hn, hhead n hn⟩
    obtain ⟨hframe, -, htook⟩ := s.vectorRead.takeWords_took (fun n => fieldAt b (4 * n) 4) (List.range 64) List.nodup_range
      (fun n hn => List.mem_range.1 hn) (fun n hn => hok n (List.mem_range.1 hn))
    change Answers (if (b.length == 256) = true then s.done (s.when s.hostUp (s.vectorArrives (.bytes b))) else _) _
    rw [if_pos (beq_iff_eq.2 hlen), hup, State.when_true, s.vectorArrives_bytes b hout hagain hok, answers_done]
    generalize (List.range 64).foldl (fun s n => s.takeWord n (fieldAt b (4 * n) 4)) s.vectorRead = t at hframe htook
    refine ⟨?_, ?_, hframe.mem, hframe.sent, hframe.store, fun n hn => ?_⟩
    · rw [State.settle_host, hframe.1]; rfl
    · rw [State.settle_host, hframe.1]; rfl
    · have h := htook n (List.mem_range.2 hn)
      unfold State.tookWord at h
      rw [(bits_fieldAt_four b (4 * n)).1, (bits_fieldAt_four b (4 * n)).2] at h
      exact h
  case fetch =>
    intro s n hup hen hdesc hrun hmore hshare hstore
    change Answers (s.done (s.when s.hostUp (s.fetchNext n))) _
    rw [hup, State.when_true, s.fetchNext_fetches hen hdesc hrun hmore hshare hstore, answers_done]
    exact ⟨rfl, State.ring_setRing_same _ _ _, rfl, rfl, rfl, rfl, rfl⟩
  case descriptor =>
    intro s n b e hup hlen hfind he ⟨hfresh, halone⟩ hskip hcue hclean hop
    change Answers (if (b.length == 64) = true then s.done (s.when s.hostUp (s.descArrives n (.bytes b))) else _) _
    rw [if_pos (beq_iff_eq.2 hlen), hup, State.when_true, s.descArrives_clean hfind hfresh halone hskip hcue hclean hop, answers_done]
    exact ⟨s.entry_updEntry_const (e' := { e with bytes := b, phase := .arrived }) rfl he, rfl, rfl, rfl, rfl⟩

/-- Settles O24: each command becomes one operation on a ring or a vector, whose equation or frame is stated above. -/
theorem completionsAndMessages : Obligations.Completions_and_messages := by
  unfold Obligations.Completions_and_messages
  refine ⟨?completion, ?head, ?message, ?masked, ?unmask, ?restart, ?beyond, ?settings⟩
  case completion =>
    intro s n id rest e hup hwait hroom he
    have hid := s.entry_id he
    change Answers (s.done (s.when s.hostUp (s.writeCompletion n))) _
    rw [hup, State.when_true, s.writeCompletion_oldest hwait hroom he, answers_done]
    obtain ⟨hsignal, hring⟩ := RingFrame.signalIf (s.completionSent n rest e) e.irq n
    generalize (if e.irq then (s.completionSent n rest e).signal n else s.completionSent n rest e) = u at hsignal hring
    have hframe := hsignal.trans (RingFrame.noteFull u n)
    obtain ⟨told, htold⟩ := u.noteFull_ring_same n
    obtain ⟨phase, hphase⟩ := s.completionSent_ring n rest e
    rw [hring n, hphase] at htold
    refine ⟨hframe.sent, ?_, congrArg RingSt.waiting htold, congrArg RingSt.cqTail htold, hframe.mem⟩
    refine (hframe.entry id).trans ?_
    rw [← hid]
    exact State.entry_dropEntry _ e.id
  case head =>
    intro s n hup hnew
    change s.done (s.when s.hostUp (s.writeHead n)) = _
    rw [hup, State.when_true, State.writeHead, if_neg hnew]
    exact s.done_of rfl rfl
  case message =>
    intro s v hup hcause hen hheads hmask hover
    change s.done (s.when s.hostUp (s.sendMsix v)) = _
    rw [hup, State.when_true, State.sendMsix]
    simp only [hcause, hen, hheads, hmask, hover]
    exact s.done_of rfl rfl
  case masked =>
    intro s v hup hcause hen hheads hmask
    change s.done (s.when s.hostUp (s.sendMsix v)) = _
    rw [hup, State.when_true, State.sendMsix]
    simp only [hcause, hen, hheads, hmask]
    exact s.done_of rfl rfl
  case unmask =>
    intro s v hup hpend hen hover
    change s.done (s.when s.hostUp (s.bar2Write (v.val * 16 + 12) 0)) = _
    rw [hup, State.when_true, s.bar2Write_unmask v, State.unmask]
    simp only [hpend, hen, hover]
    exact s.done_of rfl rfl
  case restart =>
    intro s n head hup hin
    have hframe := HostFrame.flushRing s n
    change Answers (s.done (s.when s.hostUp (s.restart n head.toNat))) _
    rw [hup, State.when_true, s.restart_inRange hin, answers_done]
    have hring := (s.flushRing n).ring_setRing_same n { (s.flushRing n).ring n with fetchHead := head.toNat, stopped := false }
    exact ⟨congrArg RingSt.fetchHead hring, congrArg RingSt.stopped hring, hframe.mem, hframe.sent⟩
  case beyond =>
    intro s n head hup hroom hout
    change Answers (s.done (s.when s.hostUp (s.restart n head.toNat))) _
    rw [hup, State.when_true, State.restart, if_pos hout, s.raise_room _ _ _ (s.evtUp_of_hostUp hup) hroom, answers_done]
    exact ⟨rfl, rfl, rfl⟩
  case settings =>
    intro s n cls enable irq size cqSize vec hup hoff hheld ⟨hsize, hcq⟩
    generalize hw : cls.toNat + b2n enable * 4 + b2n irq * 8 + size.toNat * 16 + cqSize.toNat * 256 + vec.val * 4096 = w
    obtain ⟨hcls, hen, hirq, hsz, hcqsz, hvec⟩ := ringCfg_word cls enable irq size cqSize vec hw.symm
    have h4 : 4 ≤ bits w 4 4 := hsz ▸ hsize
    have h8 : 4 ≤ bits w 8 4 := hcqsz ▸ hcq
    obtain ⟨hregs, hmem, hevt⟩ := s.ringCfg_quiet n w Src.hostRegs hoff hheld
    obtain ⟨bcls, ben, birq, bsz, bcq, bvec⟩ := ringCfgDef_written_bits (s.rv (R.HST_RING_CFG n)) w h4 h8
    obtain ⟨fcls, fen, firq, fsz, fcq, fvec, fother⟩ := State.ringSettings_of_regs (ringCfgDef_written_lt w (s.rv_lt _) h4 h8) hregs
    change Answers (s.done (s.when s.hostUp (s.ringCfg n _ Src.hostRegs))) _
    rw [hw, hup, State.when_true, answers_done]
    rw [ben, hen, b2n_bne_zero] at fen
    rw [birq, hirq, b2n_bne_zero] at firq
    exact ⟨fcls.trans (bcls.trans hcls), fen, firq, fsz.trans (bsz.trans hsz), fcq.trans (bcq.trans hcqsz), fvec.trans (bvec.trans hvec),
      fother, hmem, hevt⟩

end Sys2Proof.Machine
end

section
/-! SUPPORT. The registers that memory accesses leave alone, and what taking pages and blocks and starting moves can reach (R60 to R66,
R128 to R134). -/

namespace Sys2Proof.Machine

variable (s : State)

/-! ### Registers beyond the reach of memory accesses -/

/-- A register that reading, writing and retiring memory may change: one of the blocks below `CMP`, or a counter of lost events. -/
def memoryReg (o : Nat) : Bool := decide (o < 0x400000) || eventCounters.contains o

/-- From `s` to `t` every register stays that memory accesses cannot reach. -/
def KeepsRegs (s t : State) : Prop := ∀ o, memoryReg o = false → t.rv o = s.rv o

theorem KeepsRegs.of_regs {s t : State} (h : t.regs = s.regs) : KeepsRegs s t := fun o _ => State.rv_eq_of_regs h o

theorem KeepsRegs.trans {s t u : State} (h : KeepsRegs s t) (h2 : KeepsRegs t u) : KeepsRegs s u :=
  fun o ho => (h2 o ho).trans (h o ho)

theorem KeepsRegs.foldl {α : Type} (f : State → α → State) (hf : ∀ s a, KeepsRegs s (f s a)) (l : List α) (s : State) :
    KeepsRegs s (l.foldl f s) := by
  induction l generalizing s with
  | nil => exact KeepsRegs.of_regs rfl
  | cons a l ih => exact (hf s a).trans (ih _)

theorem KeepsRegs.setRv {off : Nat} (v : Nat) (h : memoryReg off = true) : KeepsRegs s (s.setRv off v) :=
  fun _ ho => s.rv_setRv_other v fun hc => Bool.false_ne_true (ho.symm.trans (hc ▸ h))

theorem KeepsRegs.raise (source code : Nat) (args : List Nat) : KeepsRegs s (s.raise source code args) := fun _ ho =>
  s.raise_rv_of_notMem source code args (by
    simp only [memoryReg, Bool.or_eq_false_iff, List.contains_eq_mem, decide_eq_false_iff_not] at ho
    exact ho.2)

theorem State.freeUnits_regs (sram : Bool) (l : List Nat) : (s.freeUnits sram l).regs = s.regs := by
  unfold State.freeUnits
  induction l generalizing s with
  | nil => rfl
  | cons u l ih =>
    refine (ih _).trans ?_
    dsimp only
    split
    · rfl
    · split <;> rfl

theorem State.stopMoves_regs (l : List PageMove) : (l.foldl State.stopMove s).regs = s.regs := by
  induction l generalizing s with
  | nil => rfl
  | cons m l ih => exact (ih _).trans (State.freeUnits_regs _ _ _)

theorem KeepsRegs.clearPc (pc cause : Nat) : KeepsRegs s (s.clearHealth 2 pc cause) := by
  have h0 : ¬ (2 : Nat) = 0 := by decide
  have h1 : ¬ (2 : Nat) = 1 := by decide
  unfold State.clearHealth
  simp only [if_neg h0, if_neg h1]
  split
  · exact ((KeepsRegs.setRv s _ (by decide)).trans (KeepsRegs.raise _ _ _ _)).trans (KeepsRegs.of_regs (State.stopMoves_regs _ _))
  · exact KeepsRegs.of_regs rfl

theorem KeepsRegs.retirePage (p : Nat) : KeepsRegs s (s.retirePage p) := by
  have hraise : KeepsRegs s ((s.setPage p pgRetired).raise Src.obj E.PAGE_RETIRED (words2 (p * pageSize))) :=
    KeepsRegs.raise (s.setPage p pgRetired) _ _ _
  unfold State.retirePage
  split
  · exact KeepsRegs.of_regs rfl
  · dsimp only
    split
    · refine hraise.trans (KeepsRegs.trans ?_ (KeepsRegs.clearPc _ _ _))
      exact KeepsRegs.of_regs rfl
    · exact hraise

theorem cwPc_lt (cw : Nat) : cwPc cw < 64 := by
  unfold cwPc pagesPerPc pageSize
  split <;> omega

theorem memoryReg_below {o : Nat} (h : o < 0x400000) : memoryReg o = true := by simp [memoryReg, h]

theorem KeepsRegs.noteUe (cw : Nat) : KeepsRegs s (s.noteUe cw) := by
  have hpc := cwPc_lt cw
  unfold State.noteUe
  refine KeepsRegs.trans (KeepsRegs.trans ?_ (KeepsRegs.setRv _ _ (by decide))) (KeepsRegs.raise _ _ _ _)
  split
  · exact KeepsRegs.setRv s _ (by decide)
  · exact KeepsRegs.setRv s _ (memoryReg_below (by unfold F.OBJ_UE_CNT.COUNT R.OBJ_UE_CNT; dsimp only; omega))

theorem KeepsRegs.noteCe (cw : Nat) : KeepsRegs s (s.noteCe cw) := by
  have hpc := cwPc_lt cw
  have hcount : KeepsRegs s (if cwPc cw = 32 then s.bump F.OBJ_SRAM_CE_CNT.COUNT else s.bump (F.OBJ_CE_CNT.COUNT (cwPc cw))) := by
    split
    · exact KeepsRegs.setRv s _ (by decide)
    · exact KeepsRegs.setRv s _ (memoryReg_below (by unfold F.OBJ_CE_CNT.COUNT R.OBJ_CE_CNT; dsimp only; omega))
  unfold State.noteCe
  dsimp only
  generalize (if cwPc cw = 32 then s.bump F.OBJ_SRAM_CE_CNT.COUNT else s.bump (F.OBJ_CE_CNT.COUNT (cwPc cw))) = t at hcount
  refine hcount.trans ?_
  split
  · refine KeepsRegs.trans ?_ (KeepsRegs.raise _ _ _ _)
    exact KeepsRegs.of_regs rfl
  · exact KeepsRegs.of_regs rfl

theorem KeepsRegs.consume (cw : Nat) : KeepsRegs s (s.consume cw).1 := by
  unfold State.consume
  split
  · refine (KeepsRegs.noteUe s cw).trans ?_
    dsimp only
    split
    · exact KeepsRegs.retirePage _ _
    · exact KeepsRegs.of_regs rfl
  · split
    · refine (KeepsRegs.noteCe s cw).trans ?_
      dsimp only
      split
      · split
        · refine KeepsRegs.trans ?_ (KeepsRegs.retirePage _ _)
          exact KeepsRegs.of_regs rfl
        · exact KeepsRegs.of_regs rfl
      · exact KeepsRegs.of_regs rfl
    · exact KeepsRegs.of_regs rfl

theorem KeepsRegs.inject (p : Place) (n : Nat) : KeepsRegs s (s.inject p n) := by
  unfold State.inject
  dsimp only
  split
  · exact KeepsRegs.of_regs rfl
  · split
    · exact KeepsRegs.of_regs rfl
    · refine KeepsRegs.trans ?_ (KeepsRegs.setRv _ _ (by decide))
      split <;> exact KeepsRegs.of_regs rfl

/-- Writing memory keeps the registers of every other block. -/
theorem KeepsRegs.writeMem (p : Place) (bs : List Byte) : KeepsRegs s (s.writeMem p bs) := by
  have hread : KeepsRegs s (s.consumeAll (partCws p bs.length)).1 := by
    rw [s.consumeAll_fst]
    exact KeepsRegs.foldl _ KeepsRegs.consume _ s
  refine hread.trans (KeepsRegs.trans ?_ (KeepsRegs.inject _ _ _))
  exact KeepsRegs.of_regs rfl

/-- The role of the pair is not within the reach of memory accesses (R330). -/
theorem KeepsRegs.tdmState {s t : State} (h : KeepsRegs s t) : t.rv R.TDM_STATE = s.rv R.TDM_STATE := h _ (by decide)

theorem State.mirrors_of_rv {s t : State} (h : t.rv R.TDM_STATE = s.rv R.TDM_STATE) : t.mirrors = s.mirrors := by
  have hf : ∀ f : Fld, f.reg = R.TDM_STATE → t.fld f = s.fld f := fun f hr => by unfold State.fld; rw [hr, h]
  unfold State.mirrors State.role State.pair
  rw [hf F.TDM_STATE.ROLE rfl, hf F.TDM_STATE.PAIR rfl]

/-! ### Pages and blocks that are taken, and moves that start -/

/-- From `s` to `t` only which pages and blocks are in use, moves and open choices may have changed. -/
def AllocFrame (s t : State) : Prop :=
  t = { s with mem := { s.mem with pages := t.mem.pages, blocks := t.mem.blocks }, blk := t.blk, freeCtr := t.freeCtr }

theorem AllocFrame.refl : AllocFrame s s := rfl

theorem AllocFrame.trans {s t u : State} (h : AllocFrame s t) (h2 : AllocFrame t u) : AllocFrame s u := by
  unfold AllocFrame at h h2 ⊢
  rw [h] at h2
  exact h2

theorem AllocFrame.ite {s t u : State} {p : Prop} [Decidable p] (h : AllocFrame s t) (h2 : AllocFrame s u) :
    AllocFrame s (if p then t else u) := by
  split
  · exact h
  · exact h2

theorem AllocFrame.host {s t : State} (h : AllocFrame s t) : t.host = s.host := by rw [h]
theorem AllocFrame.regs {s t : State} (h : AllocFrame s t) : t.regs = s.regs := by rw [h]
theorem AllocFrame.obj {s t : State} (h : AllocFrame s t) : t.obj = s.obj := by rw [h]
theorem AllocFrame.sent {s t : State} (h : AllocFrame s t) : t.sent = s.sent := by rw [h]
theorem AllocFrame.sameBytes {s t : State} (h : AllocFrame s t) : SameBytes s t := by rw [h]; exact ⟨rfl, rfl⟩

theorem AllocFrame.takePage (pc : Nat) : AllocFrame s (s.takePage pc).1 := rfl

theorem AllocFrame.takePages (pc n : Nat) : AllocFrame s (s.takePages pc n).1 := by
  induction n generalizing s with
  | zero => exact AllocFrame.refl s
  | succ n ih => exact (AllocFrame.takePage s pc).trans (ih _)

theorem AllocFrame.fillPcs (n fuel : Nat) : AllocFrame s (s.fillPcs n fuel).1 := by
  induction fuel generalizing s n with
  | zero => exact AllocFrame.refl s
  | succ fuel ih =>
    unfold State.fillPcs
    split
    · exact AllocFrame.refl s
    · split
      · exact AllocFrame.refl s
      · exact (AllocFrame.takePages s _ _).trans (ih _ _)

theorem AllocFrame.takeBlocks (n : Nat) : AllocFrame s (s.takeBlocks n).1 := by
  induction n generalizing s with
  | zero => exact AllocFrame.refl s
  | succ n ih => exact AllocFrame.trans (t := (s.setBlock _ pgUsed).freeStep) rfl (ih _)

theorem AllocFrame.allocUnits {s : State} {sram : Bool} {n : Nat} {r : State × List Nat} (h : s.allocUnits sram n = some r) :
    AllocFrame s r.1 := by
  cases sram with
  | true =>
    unfold State.allocUnits State.allocSram at h
    rw [if_pos rfl] at h
    split at h
    · cases h; exact AllocFrame.takeBlocks s n
    · cases h
  | false =>
    unfold State.allocUnits State.allocHbm at h
    rw [if_neg Bool.false_ne_true] at h
    split at h
    · cases h; exact AllocFrame.fillPcs s n 32
    · cases h

theorem AllocFrame.allocPair {s : State} {sram : Bool} {bytes aux : Nat} {r : State × List Nat × List Nat}
    (h : s.allocPair sram bytes aux = some r) : AllocFrame s r.1 := by
  unfold State.allocPair at h
  dsimp only at h
  split at h
  · cases h
  next u pages hu =>
    split at h
    · cases h
    next v more hv =>
      cases h
      exact (AllocFrame.allocUnits hu).trans (AllocFrame.allocUnits hv)

theorem AllocFrame.addMove (m : PageMove) : AllocFrame s (s.addMove m) := rfl

theorem AllocFrame.startMove (evac : Bool) (r : MoveReq) : AllocFrame s (s.startMove evac r) := by
  unfold State.startMove
  split
  · dsimp only
    split
    · exact AllocFrame.refl s
    · split
      · split
        · exact AllocFrame.refl s
        · split
          next u b c hu => exact (AllocFrame.allocPair hu).trans (AllocFrame.addMove _ _)
          next => exact AllocFrame.refl s
      · split
        · exact (AllocFrame.takePages s _ _).trans (AllocFrame.addMove _ _)
        · exact AllocFrame.refl s
  · split
    · split
      · exact AllocFrame.refl s
      · exact (AllocFrame.takePages s _ _).trans (AllocFrame.addMove _ _)
    · exact AllocFrame.refl s

theorem AllocFrame.startMoves (evac : Bool) (budget fuel : Nat) : AllocFrame s (s.startMoves evac budget fuel) := by
  induction fuel generalizing s with
  | zero => exact AllocFrame.refl s
  | succ fuel ih =>
    unfold State.startMoves
    split
    · exact AllocFrame.refl s
    · refine AllocFrame.ite (AllocFrame.refl s) (AllocFrame.trans (AllocFrame.trans ?_ (AllocFrame.startMove _ _ _)) (ih _))
      exact rfl

theorem AllocFrame.pumpMoves : AllocFrame s s.pumpMoves := (AllocFrame.startMoves s true _ _).trans (AllocFrame.startMoves _ false _ _)

/-! ### Free pages of the plan (R61, R128) -/

/-- Listing one more key lengthens a selection of the table by one at most, and only one that selects the key. -/
theorem FMap.length_filter_insert {α : Type} (m : FMap α) (k : Nat) (v : α) (p : Nat → Bool) :
    ((FMap.insert m k v).filter (fun e => p e.1)).length ≤ (m.filter (fun e => p e.1)).length + (if p k then 1 else 0) := by
  induction m with
  | nil => cases h : p k <;> simp [FMap.insert, h]
  | cons e m ih =>
    obtain ⟨j, w⟩ := e
    unfold FMap.insert
    split
    · rw [List.filter_cons]
      split <;> simp_all
    · split
      next hk =>
        subst hk
        cases h : p k <;> simp [h]
      next =>
        rw [List.filter_cons, List.filter_cons]
        split
        · simp only [List.length_cons]; omega
        · exact ih

/-- Sums over distinct indices of terms of which one may be lower by one. -/
theorem sum_map_le_of_one_lower (f g : Nat → Nat) (q : Nat) (l : List Nat) (hl : l.Nodup)
    (h : ∀ x, f x ≤ g x + (if q = x then 1 else 0)) : (l.map f).sum ≤ (l.map g).sum + 1 := by
  have hcount : (l.map f).sum ≤ (l.map g).sum + l.count q := by
    clear hl
    induction l with
    | nil => simp
    | cons x l ih =>
      have hx := h x
      simp only [List.map_cons, List.sum_cons, List.count_cons, beq_iff_eq]
      simp only [eq_comm (a := q)] at hx
      split at hx <;> simp_all <;> omega
  exact hcount.trans (Nat.add_le_add_left (List.nodup_iff_count_le_one.1 hl q) _)

/-- A page that is taken is one free page less at most. -/
theorem State.planFree_setPage (p : Nat) : s.planFree ≤ (s.setPage p pgUsed).planFree + 1 := by
  refine sum_map_le_of_one_lower s.pcFree (s.setPage p pgUsed).pcFree (pagePc p) _ (List.nodup_range.filter _) (fun pc => ?_)
  have hlen := FMap.length_filter_insert s.mem.pages p pgUsed (fun k => decide (pagePc k = pc))
  have hput : (s.setPage p pgUsed).mem.pages = FMap.insert s.mem.pages p pgUsed := by
    have hne : ¬ pgUsed = pgFree := by decide
    unfold State.setPage FMap.put
    rw [if_neg hne]
  unfold State.pcFree
  rw [hput]
  simp only [decide_eq_true_eq] at hlen
  split at hlen
  next hp => rw [if_pos hp]; omega
  next hp => rw [if_neg hp]; omega

theorem State.planFree_takePages (pc n : Nat) : s.planFree ≤ (s.takePages pc n).1.planFree + n := by
  induction n generalizing s with
  | zero => exact Nat.le_refl _
  | succ n ih =>
    have hone : s.planFree ≤ (s.takePage pc).1.planFree + 1 := s.planFree_setPage _
    have hrest : (s.takePage pc).1.planFree ≤ (s.takePages pc (n + 1)).1.planFree + n := ih _
    omega

theorem State.planFree_fillPcs (n fuel : Nat) : s.planFree ≤ (s.fillPcs n fuel).1.planFree + n := by
  induction fuel generalizing s n with
  | zero => exact Nat.le_add_right _ _
  | succ fuel ih =>
    unfold State.fillPcs
    split
    · exact Nat.le_add_right _ _
    · split
      · exact Nat.le_add_right _ _
      next pc _ =>
        have hfirst := s.planFree_takePages pc (min n (s.pcFree pc))
        have hrest := ih (s.takePages pc (min n (s.pcFree pc))).1 (n - min n (s.pcFree pc))
        dsimp only
        omega

theorem State.allocUnits_hbm {n : Nat} (h : n ≤ s.planFree) : s.allocUnits false n = some (s.fillPcs n 32) := by
  unfold State.allocUnits State.allocHbm
  rw [if_neg Bool.false_ne_true, if_pos h]

/-- Pages for both areas of an object are found where the plan has as many free (R61, R128). -/
theorem State.allocPair_hbm {bytes aux : Nat} (h : ceilDiv bytes pageSize + ceilDiv aux pageSize ≤ s.planFree) :
    ∃ r, s.allocPair false bytes aux = some r := by
  have hleft := s.planFree_fillPcs (ceilDiv bytes pageSize) 32
  unfold State.allocPair
  simp only [Bool.false_eq_true, if_false, s.allocUnits_hbm (n := ceilDiv bytes pageSize) (by omega),
    State.allocUnits_hbm (s.fillPcs (ceilDiv bytes pageSize) 32).1 (n := ceilDiv aux pageSize) (by omega)]
  exact ⟨_, rfl⟩

end Sys2Proof.Machine
end

section
/-! SUPPORT. How a descriptor begins, runs and finishes, and how its data is requested (R37, R44, R56). -/

namespace Sys2Proof.Machine

variable (s : State)

/-! ### A descriptor that begins -/

@[simp] theorem State.begin_regs (id : Nat) : (s.begin id).regs = s.regs := rfl
@[simp] theorem State.begin_sent (id : Nat) : (s.begin id).sent = s.sent := rfl
@[simp] theorem State.begin_evt (id : Nat) : (s.begin id).evt = s.evt := rfl
@[simp] theorem State.begin_mem (id : Nat) : (s.begin id).mem = s.mem := rfl
@[simp] theorem State.begin_obj (id : Nat) : (s.begin id).obj = s.obj := rfl
@[simp] theorem State.begin_blk (id : Nat) : (s.begin id).blk = s.blk := rfl
@[simp] theorem State.begin_cb (id : Nat) : (s.begin id).cb = s.cb := rfl
@[simp] theorem State.begin_pwr (id : Nat) : (s.begin id).pwr = s.pwr := rfl
@[simp] theorem State.begin_off (id : Nat) : (s.begin id).off = s.off := rfl
@[simp] theorem State.begin_storeLength (id : Nat) : (s.begin id).host.store.length = s.host.store.length := List.length_map _

theorem State.begin_entry {e : StoreEntry} (h : s.entry? e.id = some e) :
    (s.begin e.id).entry? e.id = some { e with phase := .begun } :=
  s.entry_updEntry e.id (fun x => { x with phase := .begun }) e (fun _ => rfl) h

/-- The next descriptor of a ring is one of that ring. -/
theorem State.ring_of_nextToBegin {n : Nat} {e : StoreEntry} (h : s.nextToBegin n = some e) : e.ring = n := by
  unfold State.nextToBegin at h
  split at h
  · cases h
  next x hx =>
    split at h
    · cases h
      have hfound := List.find?_some hx
      simp only [Bool.and_eq_true, decide_eq_true_eq] at hfound
      exact hfound.1
    · cases h

/-- A descriptor that passes its checks begins and takes effect (R44). -/
theorem State.runNext_of_canRun {n op : Nat} {e : StoreEntry} {want : StoreEntry → Bool} {run : State → StoreEntry → State}
    (h : s.canRun n e op) (hwant : want e = true) : s.runNext n want run = run (s.begin e.id) e := by
  obtain ⟨-, hnext, -, hop, hserved, hchecks⟩ := h
  subst hop
  have hzero : ¬ (0 : Nat) = St.zeroLength := by decide
  unfold State.runNext
  simp only [hnext, hwant, hserved, hchecks, if_neg hzero, Bool.not_true, Bool.false_eq_true, if_false, ne_eq, not_true_eq_false]

/-- A command that runs the next descriptor of a ring answers with the effect of that descriptor. -/
theorem State.answers_runNext {n op : Nat} {e : StoreEntry} {run : State → StoreEntry → State} {p : State → Prop}
    (h : s.canRun n e op) :
    Answers (s.done (s.when s.hostUp (s.runNext n (fun e => e.opcode == op) run))) p ↔ p (s.settle (run (s.begin e.id) e)) := by
  have hwant : (fun e : StoreEntry => e.opcode == op) e = true := beq_iff_eq.2 h.2.2.2.1
  rw [h.1, State.when_true, s.runNext_of_canRun h hwant, answers_done]

/-- A begun descriptor finishes, where nothing between has touched the host interface. -/
theorem State.finish_begun {t : State} {e : StoreEntry} (status result : Nat) (he : s.entry? e.id = some e)
    (hhost : t.host = (s.begin e.id).host) : Finished (t.finish e.id status result) e status result :=
  t.finish_finished e.id status result { e with phase := .begun } ((State.entry_of_host hhost e.id).trans (s.begin_entry he))

/-! ### Data of a descriptor (R56) -/

/-- A transfer of at most the Max Read Request Size within 4 KiB is one request. -/
theorem readReqs_one {mrrs addr n : Nat} (hn : 0 < n) (hmrrs : n ≤ mrrs) (hpage : addr % 4096 + n ≤ 4096) :
    readReqs mrrs addr n n = [(addr, n)] := by
  have hmin : min (min n mrrs) (4096 - addr % 4096) = n := by omega
  obtain ⟨k, rfl⟩ := Nat.exists_eq_succ_of_ne_zero hn.ne'
  unfold readReqs
  rw [if_neg (Nat.succ_ne_zero k)]
  simp only [hmin, Nat.sub_self]
  cases k <;> simp [readReqs]

/-- Its data is then asked for with one host read. -/
theorem State.requestData_one {e : StoreEntry} (hn : 0 < e.length) (hmrrs : e.length ≤ s.host.mrrs)
    (hpage : e.hostAddr % 4096 + e.length ≤ 4096) :
    s.requestData e = (s.updEntry e.id (fun x => { x with reqs := [(e.hostAddr, e.length)] })).send (.hostRead e.hostAddr e.length) := by
  unfold State.requestData
  rw [readReqs_one hn hmrrs hpage]
  rfl

end Sys2Proof.Machine
end

section
/-! SUPPORT. What the object, cue and write operations of descriptors do in the cases the statements name (R53 to R58, R128 to R131, R42). -/

namespace Sys2Proof.Machine

variable (s : State)

/-! ### Objects and handles (R53) -/

theorem State.obj?_of_obj {s t : State} (h : t.obj = s.obj) (idx : Nat) : t.obj? idx = s.obj? idx := by unfold State.obj?; rw [h]
theorem State.gen_of_obj {s t : State} (h : t.obj = s.obj) (idx : Nat) : t.gen idx = s.gen idx := by unfold State.gen; rw [h]
theorem State.handleOf_of_obj {s t : State} (h : t.obj = s.obj) (idx : Nat) : t.handleOf idx = s.handleOf idx := by
  unfold State.handleOf State.gen; rw [h]
theorem State.live_of_obj {s t : State} (h : t.obj = s.obj) (x : Nat) : t.live x = s.live x := by
  unfold State.live State.gen State.obj?; rw [h]

@[simp] theorem State.obj?_setObj_same (idx : Nat) (o : Obj) : (s.setObj idx o).obj? idx = o := FMap.get_put_same _ _ _ _

/-- The handle of an index that holds an object is live. -/
theorem State.live_handleOf {idx : Nat} (h0 : 0 < idx) (h16 : idx < 65536) (hkind : (s.obj? idx).kind ≠ 0) :
    s.live (s.handleOf idx) = true := by
  have hidx : handleIdx (s.handleOf idx) = idx := by unfold handleIdx State.handleOf; omega
  have hgen : handleGen (s.handleOf idx) = s.gen idx := by unfold handleGen State.handleOf; omega
  unfold State.live
  simp [hidx, hgen, hkind, h0.ne']

/-- A handle of an index that has been freed is not. -/
theorem State.live_freeIndex (h : Nat) : (s.freeIndex (handleIdx h)).live h = false := by
  have hnone : (s.freeIndex (handleIdx h)).obj? (handleIdx h) = objNone := s.obj?_setObj_same (handleIdx h) objNone
  unfold State.live
  rw [hnone]
  simp [objNone]

theorem MemFrame.host {s t : State} (h : MemFrame s t) : t.host = s.host := by rw [h]
theorem MemFrame.obj {s t : State} (h : MemFrame s t) : t.obj = s.obj := by rw [h]

theorem pickFrom_lt (used : Nat → Bool) {n : Nat} (hn : 0 < n) (v fuel : Nat) : pickFrom used n v fuel < n := by
  induction fuel generalizing v with
  | zero => exact Nat.mod_lt _ hn
  | succ fuel ih =>
    unfold pickFrom
    split
    · exact ih _
    · exact Nat.mod_lt _ hn

/-! ### Checks of personalities and curves (R197, R199) -/

theorem State.noteCheck_frame (idx : Nat) (v : Verdict) :
    s.noteCheck idx v = { s with regs := (s.noteCheck idx v).regs, evt := (s.noteCheck idx v).evt } := by
  unfold State.noteCheck
  split
  · split
    · rfl
    · exact State.raise_frame (s.bump _) _ _ _
  · split
    · rfl
    · exact State.raise_frame s _ _ _

theorem State.noteCheck_rv (idx : Nat) (v : Verdict) {o : Nat} (he : o ∉ eventCounters) (hf : o ≠ R.FIX_INVALID_CNT) :
    (s.noteCheck idx v).rv o = s.rv o := by
  unfold State.noteCheck
  split
  · split
    · rfl
    · exact (State.raise_rv_of_notMem _ _ _ _ he).trans (s.rv_setFld_other _ hf)
  · split
    · rfl
    · exact State.raise_rv_of_notMem _ _ _ _ he

/-- A check stores a verdict and notes it, or is none of this kind of object. -/
theorem State.examine_cases (idx : Nat) (w : CheckWhen) :
    s.examine idx w = s ∨ ∃ c v, s.examine idx w = (s.setCheck idx c).noteCheck idx v := by
  by_cases h : (s.obj? idx).kind = kPersonality ∨ (s.obj? idx).kind = kCurve
  · exact Or.inr ⟨_, _, if_pos h⟩
  · exact Or.inl (if_neg h)

theorem State.examine_frame (idx : Nat) (w : CheckWhen) : s.examine idx w =
    { s with regs := (s.examine idx w).regs, evt := (s.examine idx w).evt, fix := (s.examine idx w).fix } := by
  obtain h | ⟨c, v, h⟩ := s.examine_cases idx w
  · rw [h]
  · rw [h, State.noteCheck_frame]
    rfl

theorem State.examine_rv (idx : Nat) (w : CheckWhen) {o : Nat} (he : o ∉ eventCounters) (hf : o ≠ R.FIX_INVALID_CNT) :
    (s.examine idx w).rv o = s.rv o := by
  obtain h | ⟨c, v, h⟩ := s.examine_cases idx w
  · rw [h]
  · rw [h]
    exact State.noteCheck_rv (s.setCheck idx c) idx v he hf

@[simp] theorem State.examine_host (idx : Nat) (w : CheckWhen) : (s.examine idx w).host = s.host := by rw [s.examine_frame]
@[simp] theorem State.examine_obj (idx : Nat) (w : CheckWhen) : (s.examine idx w).obj = s.obj := by rw [s.examine_frame]
@[simp] theorem State.examine_mem (idx : Nat) (w : CheckWhen) : (s.examine idx w).mem = s.mem := by rw [s.examine_frame]
@[simp] theorem State.examine_sent (idx : Nat) (w : CheckWhen) : (s.examine idx w).sent = s.sent := by rw [s.examine_frame]

theorem State.examine_tdmState (idx : Nat) (w : CheckWhen) : (s.examine idx w).rv R.TDM_STATE = s.rv R.TDM_STATE :=
  s.examine_rv idx w (by decide) (by decide)

/-! ### `OBJ_CREATE` (R55) -/

/-- A change within the reach of memory accesses alone. -/
def MemOnly (s t : State) : Prop := MemFrame s t ∧ KeepsRegs s t

theorem MemOnly.refl : MemOnly s s := ⟨MemFrame.refl s, KeepsRegs.of_regs rfl⟩

theorem MemOnly.trans {s t u : State} (h : MemOnly s t) (h2 : MemOnly t u) : MemOnly s u := ⟨h.1.trans h2.1, h.2.trans h2.2⟩

theorem MemOnly.foldl {α : Type} (f : State → α → State) (hf : ∀ s a, MemOnly s (f s a)) (l : List α) (s : State) :
    MemOnly s (l.foldl f s) :=
  ⟨MemFrame.foldl f (fun s a => (hf s a).1) l s, KeepsRegs.foldl f (fun s a => (hf s a).2) l s⟩

theorem MemOnly.writeMem (p : Place) (bs : List Byte) : MemOnly s (s.writeMem p bs) := ⟨MemFrame.writeMem s p bs, KeepsRegs.writeMem s p bs⟩

theorem MemOnly.zeroUnits (sram : Bool) (units : List Nat) : MemOnly s (s.zeroUnits sram units) :=
  MemOnly.foldl _ (fun s _ => MemOnly.writeMem s _ _) units s

theorem MemOnly.initCover (o : Obj) : MemOnly s (s.initCover o) := by
  unfold State.initCover
  split
  · exact MemOnly.foldl _ (fun s _ => MemOnly.writeMem s _ _) _ s
  · exact MemOnly.refl s

/-- Where a handle, the kind's limit and the plan's pages allow it, an object is made: it stands at a free index, and its memory is
written (R55, R61). -/
theorem State.createObj_creates {k : Nat} {param : List Byte} (hlive : s.liveIdx.length < 65535)
    (hlimit : (s.liveIdx.filter (fun i => (s.obj? i).kind = k)).length < kindLimit k) (hplace : s.placesInSram k (objSize k param) = false)
    (hroom : ceilDiv (objSize k param) pageSize + ceilDiv (auxSize k param) pageSize ≤ s.planFree) :
    ∃ idx o u, 0 < idx ∧ idx < 65536 ∧ (o.kind = k ∧ o.param = param ∧ o.size = objSize k param) ∧ AllocFrame s u ∧
      MemOnly (u.freeStep.setObj idx o) (s.createObj k param).1 ∧ (s.createObj k param).2 = (0, u.handleOf idx) := by
  obtain ⟨⟨u, pages, aux⟩, hu⟩ := s.allocPair_hbm hroom
  have hno : ¬ (65535 ≤ s.liveIdx.length ∨ kindLimit k ≤ (s.liveIdx.filter (fun i => (s.obj? i).kind = k)).length) := by omega
  have hpick : u.pickFree (fun i => (u.obj? (i + 1)).kind != 0) 65535 < 65535 := pickFrom_lt _ (by decide) _ _
  refine ⟨1 + u.pickFree (fun i => (u.obj? (i + 1)).kind != 0) 65535,
    ⟨k, param, objSize k param, false, pages, aux, none, none⟩, u, by omega, by omega, ⟨rfl, rfl, rfl⟩, AllocFrame.allocPair hu, ?_, ?_⟩
  · unfold State.createObj
    simp only [if_neg hno, hplace, hu]
    exact (MemOnly.zeroUnits _ _ _).trans (MemOnly.initCover _ _)
  · unfold State.createObj
    simp only [if_neg hno, hplace, hu]
    exact congrArg (Prod.mk 0) (State.handleOf_of_obj (MemOnly.zeroUnits _ _ _).1.obj _)

/-- `OBJ_CREATE` then finishes with the new handle, and nothing in between touches the host interface. -/
theorem State.doCreate_creates {e : StoreEntry} (hlive : s.liveIdx.length < 65535)
    (hlimit : (s.liveIdx.filter (fun i => (s.obj? i).kind = e.arg0)).length < kindLimit e.arg0)
    (hplace : s.placesInSram e.arg0 (objSize e.arg0 e.param) = false)
    (hroom : ceilDiv (objSize e.arg0 e.param) pageSize + ceilDiv (auxSize e.arg0 e.param) pageSize ≤ s.planFree)
    (hmirrors : s.mirrors = false) :
    ∃ (idx : Nat) (t : State), 0 < idx ∧ idx < 65536 ∧ s.doCreate e = t.finish e.id St.ok (t.handleOf idx) ∧ t.host = s.host ∧
      (t.obj? idx).kind = e.arg0 ∧ (t.obj? idx).param = e.param ∧ (t.obj? idx).size = objSize e.arg0 e.param := by
  obtain ⟨idx, o, u, h0, h16, ⟨hkind, hparam, hsize⟩, halloc, ⟨hmem, hregs⟩, hout⟩ := s.createObj_creates hlive hlimit hplace hroom
  generalize hmade : s.createObj e.arg0 e.param = r at hmem hregs hout
  obtain ⟨v, out⟩ := r
  obtain rfl : out = (0, u.handleOf idx) := hout
  have hchecked : (v.examine (handleIdx (u.handleOf idx)) .created).obj = (u.freeStep.setObj idx o).obj :=
    (v.examine_obj _ _).trans hmem.obj
  have hat : (v.examine (handleIdx (u.handleOf idx)) .created).obj? idx = o :=
    (State.obj?_of_obj hchecked idx).trans (State.obj?_setObj_same _ _ _)
  have hhandle : (v.examine (handleIdx (u.handleOf idx)) .created).handleOf idx = u.handleOf idx :=
    State.handleOf_of_obj (s := u.freeStep.setObj idx o) hchecked idx
  have hrole : (v.examine (handleIdx (u.handleOf idx)) .created).mirrors = false :=
    (State.mirrors_of_rv ((v.examine_tdmState _ _).trans (hregs.tdmState.trans (State.rv_eq_of_regs (s := s) halloc.regs _)))).trans
      hmirrors
  refine ⟨idx, v.examine (handleIdx (u.handleOf idx)) .created, h0, h16, ?_, (v.examine_host _ _).trans (hmem.host.trans halloc.host),
    hat ▸ hkind, hat ▸ hparam, hat ▸ hsize⟩
  unfold State.doCreate State.makeObj
  simp only [hmade, if_true, hrole, Bool.false_eq_true, if_false]
  rw [hhandle]

/-! ### `OBJ_WRITE` (R46, R56) -/

/-- A write that begins leaves the entries of its own ring as they are. -/
theorem State.overtake_entry {e x : StoreEntry} (copy : Bool) {id : Nat} (h : s.entry? id = some x) (hring : x.ring = e.ring) :
    (s.overtake e copy).entry? id = some x := by
  unfold State.overtake State.entry? State.setStore
  dsimp only
  rw [List.find?_map]
  have hid : ((fun x : StoreEntry => decide (x.id = id)) ∘ fun x =>
      if x.ring ≠ e.ring ∧ x.opcode = opWrite ∧ x.phase = .begun ∧ x.handle = e.handle ∧ x.copy = copy then
        { x with yielded := x.yielded ++ [e.blocks] } else x) = fun x => decide (x.id = id) := by
    funext x
    dsimp only [Function.comp]
    split <;> rfl
  rw [hid]
  refine (congrArg _ h).trans (congrArg some (if_neg fun hc => ?_))
  exact hc.1 hring

/-- A write in place whose data is one request asks for it; its own entry notes the request, and nothing else of it changes. -/
theorem State.writeBegins_inPlace {e x : StoreEntry} (hcopy : s.writesCopy e = false) (hx : s.entry? e.id = some x) (hring : x.ring = e.ring)
    (hn : 0 < e.length) (hmrrs : e.length ≤ s.host.mrrs) (hpage : e.hostAddr % 4096 + e.length ≤ 4096) :
    (s.writeBegins e).sent = s.sent ++ [.hostRead e.hostAddr e.length] ∧
      (s.writeBegins e).entry? e.id = some { x with reqs := [(e.hostAddr, e.length)] } ∧ (s.writeBegins e).mem = s.mem ∧
      (s.writeBegins e).obj = s.obj ∧ (s.writeBegins e).regs = s.regs := by
  have hcopy' : (s.overtake e (s.writesCopy e)).writesCopy e = false := hcopy
  unfold State.writeBegins
  simp only [hcopy', Bool.false_eq_true, if_false]
  rw [State.requestData_one (s.overtake e (s.writesCopy e)) hn hmrrs hpage]
  exact ⟨rfl, State.entry_updEntry _ e.id (fun x => { x with reqs := [(e.hostAddr, e.length)] }) x (fun _ => rfl)
    (s.overtake_entry _ hx hring), rfl, rfl, rfl⟩

/-- A write to an object's one page stores its bytes there and nowhere else, and leaves the object in that page. -/
theorem State.objWrite_inPage {idx p : Nat} (off : Nat) (bs : List Byte) (hpages : (s.obj? idx).pages = [p]) (hsram : (s.obj? idx).sram = false)
    (hfit : off + bs.length < pageSize) :
    ∃ m, MemOnly s m ∧ s.objWrite idx off bs = m.updObj idx (fun o => { o with pages := [p] }) ∧
      (∀ i < bs.length, m.mem.byte (.hbm (p * pageSize + off + i)) = bs.getD i 0) ∧
      ∀ a : Place, (∀ i < bs.length, a ≠ .hbm (p * pageSize + off + i)) → m.mem.byte a = s.mem.byte a := by
  unfold State.objWrite
  simp only [hpages, hsram]
  by_cases h0 : bs = []
  · subst h0
    exact ⟨s, MemOnly.refl s, rfl, fun i hi => absurd hi (Nat.not_lt_zero i), fun a _ => rfl⟩
  · have hpos := List.length_pos_iff.2 h0
    obtain ⟨fuel, hfuel⟩ : ∃ fuel, bs.length + 1 = fuel + 2 := ⟨bs.length - 1, by omega⟩
    rw [hfuel, s.writeUnits_onePage p off bs fuel h0 (by omega) (by omega)]
    exact ⟨s.writeMem (.hbm (p * pageSize + off)) bs, MemOnly.writeMem s _ _, rfl, fun i hi => s.writeMem_byte_in _ bs i hi,
      fun a ha => s.writeMem_byte_out _ a bs ha⟩

/-- What follows a completed write to a personality: its check, and no coverage or sampling (R149, R197). -/
theorem State.writeEnds_personality {idx : Nat} (off n : Nat) (h : (s.obj? idx).kind = kPersonality) :
    (s.writeEnds idx off n false).host = s.host ∧ (s.writeEnds idx off n false).obj = s.obj ∧
      (s.writeEnds idx off n false).mem = s.mem ∧ (s.writeEnds idx off n false).sent = s.sent ∧
      (s.writeEnds idx off n false).rv R.TDM_STATE = s.rv R.TDM_STATE := by
  have hcover : ∀ (sram : Bool) (pages aux : List Nat), s.recover (s.obj? idx) sram pages aux off n = s := fun sram pages aux => by
    unfold State.recover
    rw [h]
    exact if_neg (by decide)
  have hstale : ∀ t : State, (t.noteStale idx).host = t.host ∧ (t.noteStale idx).obj = t.obj ∧ (t.noteStale idx).mem = t.mem ∧
      (t.noteStale idx).sent = t.sent ∧ (t.noteStale idx).regs = t.regs := fun t => by
    unfold State.noteStale
    split <;> exact ⟨rfl, rfl, rfl, rfl, rfl⟩
  obtain ⟨h1, h2, h3, h4, h5⟩ := hstale (s.examine idx .written)
  have hkind : (((s.examine idx .written).noteStale idx).obj? idx).kind = kPersonality := by
    rw [State.obj?_of_obj (h2.trans (s.examine_obj _ _)), h]
  have hsample : ((s.examine idx .written).noteStale idx).resample idx false = (s.examine idx .written).noteStale idx := by
    exact if_neg (by rw [hkind]; decide)
  have hends : s.writeEnds idx off n false = (s.examine idx .written).noteStale idx := by
    unfold State.writeEnds
    simp only [hcover, Bool.false_eq_true, if_false]
    exact hsample
  rw [hends]
  exact ⟨h1.trans (s.examine_host _ _), h2.trans (s.examine_obj _ _), h3.trans (s.examine_mem _ _), h4.trans (s.examine_sent _ _),
    (State.rv_eq_of_regs h5 _).trans (s.examine_tdmState _ _)⟩

/-- The bytes of a write in place all land where the descriptor has them, when they come in one piece. -/
theorem State.landBytes_whole {e : StoreEntry} (b : List Byte) (hlive : s.live e.handle = true) (hreqs : e.reqs = [(e.hostAddr, e.length)])
    (hdata : e.data = []) (hyield : e.yielded = []) : s.landBytes e b = s.objWrite (handleIdx e.handle) e.offset b := by
  have hanswered : e.answered = 0 := by simp [StoreEntry.answered, hreqs]
  have hcopy : e.copy = false := by simp [StoreEntry.copy, hdata]
  unfold State.landBytes StoreEntry.parts
  simp [hlive, hyield, hanswered, hcopy]

/-- A personality's write whose last bytes have landed finishes OK (R56). -/
theorem State.writeFinishes_personality {e : StoreEntry} (hstatus : e.status = 0) (hdata : e.data = []) (hlive : s.live e.handle = true)
    (hkind : (s.obj? (handleIdx e.handle)).kind = kPersonality) (hmirrors : s.mirrors = false) :
    s.writeFinishes e = (s.writeEnds (handleIdx e.handle) e.offset e.length false).finish e.id St.ok e.length := by
  have hcopy : e.copy = false := by simp [StoreEntry.copy, hdata]
  have hok : ¬ e.status = St.hostAbort := by rw [hstatus]; decide
  obtain ⟨-, -, -, -, hrole⟩ := s.writeEnds_personality e.offset e.length hkind
  have hmirror : (s.writeEnds (handleIdx e.handle) e.offset e.length false).mirrorWrite e =
      s.writeEnds (handleIdx e.handle) e.offset e.length false := by
    unfold State.mirrorWrite
    rw [State.mirrors_of_rv hrole, hmirrors]
    rfl
  unfold State.writeFinishes
  simp only [if_neg hok, hlive, if_true, hcopy, Bool.false_eq_true, if_false, hmirror]

/-- The only request of a write to a personality is answered with all its bytes: they land, and the write finishes. -/
theorem State.writeAnswer_personality {e : StoreEntry} {b : List Byte} {p : Nat} (he : s.entry? e.id = some e)
    (hreqs : e.reqs = [(e.hostAddr, e.length)]) (hdata : e.data = []) (hstatus : e.status = 0) (hyield : e.yielded = [])
    (hlen : b.length = e.length) (hfit : e.offset + e.length < pageSize) (hlive : s.live e.handle = true)
    (hkind : (s.obj? (handleIdx e.handle)).kind = kPersonality) (hpages : (s.obj? (handleIdx e.handle)).pages = [p])
    (hsram : (s.obj? (handleIdx e.handle)).sram = false) (hmirrors : s.mirrors = false) :
    Finished (s.writeAnswer e e.length (.bytes b)) e St.ok e.length ∧
      (∀ i < b.length, (s.writeAnswer e e.length (.bytes b)).mem.byte (.hbm (p * pageSize + e.offset + i)) = b.getD i 0) ∧
      (∀ a : Place, (∀ i < b.length, a ≠ .hbm (p * pageSize + e.offset + i)) →
        (s.writeAnswer e e.length (.bytes b)).mem.byte a = s.mem.byte a) ∧
      (s.writeAnswer e e.length (.bytes b)).sent = s.sent := by
  have hok : ¬ e.status = St.hostAbort := by rw [hstatus]; decide
  have hall : padTo e.length b = b := by rw [← hlen]; exact slice_all b
  obtain ⟨m, ⟨hmem, hregs⟩, hwrite, hin, hout⟩ := s.objWrite_inPage e.offset b hpages hsram (by omega)
  -- the state in which the bytes have landed and the request is gone
  generalize hu : (m.updObj (handleIdx e.handle) (fun o => { o with pages := [p] })).updEntry e.id (fun x => { x with reqs := x.reqs.drop 1 }) = u
  have hhost : (m.updObj (handleIdx e.handle) (fun o => { o with pages := [p] })).host = s.host := hmem.host
  have hobj : u.obj? (handleIdx e.handle) = { s.obj? (handleIdx e.handle) with pages := [p] } := by
    subst hu
    refine (State.obj?_setObj_same _ _ _).trans ?_
    rw [State.obj?_of_obj hmem.obj]
  have hukind : (u.obj? (handleIdx e.handle)).kind = kPersonality := by rw [hobj]; exact hkind
  have hgen : u.gen (handleIdx e.handle) = s.gen (handleIdx e.handle) := by
    subst hu
    exact State.gen_of_obj hmem.obj _
  have hulive : u.live e.handle = true := by
    unfold State.live at hlive ⊢
    rw [hobj, hgen]
    exact hlive
  have humirrors : u.mirrors = false := by
    subst hu
    exact (State.mirrors_of_rv (s := s) hregs.tdmState).trans hmirrors
  have huentry : u.entry? e.id = some { e with reqs := [] } := by
    subst hu
    refine (State.entry_updEntry _ e.id (fun x => { x with reqs := x.reqs.drop 1 }) e (fun _ => rfl)
      ((State.entry_of_host hhost e.id).trans he)).trans ?_
    rw [hreqs]
    rfl
  have hanswer : s.writeAnswer e e.length (.bytes b) = (u.writeEnds (handleIdx e.handle) e.offset e.length false).finish e.id St.ok e.length := by
    unfold State.writeAnswer
    simp only [if_neg hok, hall, s.landBytes_whole b hlive hreqs hdata hyield, hwrite, hu, huentry, List.isEmpty_nil, if_true]
    exact u.writeFinishes_personality (e := { e with reqs := [] }) hstatus hdata hulive hukind humirrors
  obtain ⟨h1, -, h3, h4, -⟩ := u.writeEnds_personality e.offset e.length hukind
  have humem : u.mem = m.mem := by subst hu; rfl
  have husent : u.sent = s.sent := by subst hu; exact hmem.sent
  rw [hanswer]
  simp only [State.finish_mem, State.finish_sent, h3, h4, humem, husent, and_true]
  exact ⟨State.finish_finished _ e.id St.ok e.length { e with reqs := [] } ((State.entry_of_host h1 e.id).trans huentry), hin, hout⟩

end Sys2Proof.Machine
end

section
/-! SUPPORT. Destruction and pins of objects, cues and their members, and the statement about object descriptors (R42, R55 to R58, R131). -/

namespace Sys2Proof.Machine

variable (s : State)

/-! ### `OBJ_DESTROY` (R58) -/

/-- From `s` to `t` only memory in use, objects, moves, transfers and the fixture unit may have changed: what the end of an object
reaches. -/
def ReleaseFrame (s t : State) : Prop := t = { s with mem := t.mem, blk := t.blk, obj := t.obj, fly := t.fly, fix := t.fix }

theorem ReleaseFrame.trans {s t u : State} (h : ReleaseFrame s t) (h2 : ReleaseFrame t u) : ReleaseFrame s u := by
  unfold ReleaseFrame at h h2 ⊢
  rw [h] at h2
  exact h2

theorem ReleaseFrame.foldl {α : Type} (f : State → α → State) (hf : ∀ s a, ReleaseFrame s (f s a)) (l : List α) (s : State) :
    ReleaseFrame s (l.foldl f s) := by
  induction l generalizing s with
  | nil => exact rfl
  | cons a l ih => exact (hf s a).trans (ih _)

theorem ReleaseFrame.host {s t : State} (h : ReleaseFrame s t) : t.host = s.host := by rw [h]
theorem ReleaseFrame.sent {s t : State} (h : ReleaseFrame s t) : t.sent = s.sent := by rw [h]
theorem ReleaseFrame.regs {s t : State} (h : ReleaseFrame s t) : t.regs = s.regs := by rw [h]

theorem ReleaseFrame.freeUnits (sram : Bool) (l : List Nat) : ReleaseFrame s (s.freeUnits sram l) := by
  refine ReleaseFrame.foldl _ (fun s u => ?_) l s
  split
  · rfl
  · split <;> rfl

theorem ReleaseFrame.stopMove (m : PageMove) : ReleaseFrame s (s.stopMove m) :=
  ReleaseFrame.trans (t := { s with blk := { s.blk with moves := s.blk.moves.filter (· ≠ m) } }) rfl (ReleaseFrame.freeUnits _ _ _)

theorem ReleaseFrame.dropShadow (idx : Nat) : ReleaseFrame s (s.dropShadow idx) := by
  unfold State.dropShadow
  split
  · rfl
  · exact ReleaseFrame.trans (t := s.updObj idx (fun o => { o with shadow := none })) rfl (ReleaseFrame.freeUnits _ _ _)

theorem ReleaseFrame.freeLater (sram : Bool) (units chans : List Nat) : ReleaseFrame s (s.freeLater sram units chans) := by
  unfold State.freeLater
  dsimp only
  split
  · exact ReleaseFrame.freeUnits s _ _
  · rfl

/-- An object that is destroyed ends with its index freed. -/
theorem State.destroyObj_frees (idx : Nat) : ∃ t, ReleaseFrame s t ∧ s.destroyObj idx = t.freeIndex idx := by
  have hstop := (ReleaseFrame.foldl State.stopMove ReleaseFrame.stopMove (s.objMoves idx) s).trans (ReleaseFrame.dropShadow _ idx)
  generalize hstart : (((s.objMoves idx).foldl State.stopMove s).dropShadow idx) = u at hstop
  have hkept : ReleaseFrame u (u.keepForFly (u.handleOf idx) (u.obj? idx)).1 := rfl
  have hfreed := (hstop.trans hkept).trans (ReleaseFrame.freeLater _ (u.obj? idx).sram ((u.obj? idx).pages ++ (u.obj? idx).aux)
    (u.keepForFly (u.handleOf idx) (u.obj? idx)).2)
  unfold State.destroyObj
  simp only [hstart]
  generalize State.freeLater _ _ _ _ = v at hfreed ⊢
  refine ⟨_, hfreed.trans ?_, rfl⟩
  rfl

/-- `OBJ_DESTROY` of an object that nothing refers to makes its handle stale, and finishes. -/
theorem State.doDestroy_unreferenced {e : StoreEntry} (href : s.referenced (handleIdx e.handle) = false) (hmirrors : s.mirrors = false) :
    ∃ t : State, s.doDestroy e = t.finish e.id St.ok 0 ∧ t.host = s.host ∧ t.sent = s.sent ∧ t.live e.handle = false := by
  obtain ⟨u, hframe, hend⟩ := s.destroyObj_frees (handleIdx e.handle)
  have hrole : (u.freeIndex (handleIdx e.handle)).mirrors = false :=
    (State.mirrors_of_rv (s := s) (State.rv_eq_of_regs (t := u.freeIndex (handleIdx e.handle)) hframe.regs _)).trans hmirrors
  refine ⟨u.freeIndex (handleIdx e.handle), ?_, hframe.host, hframe.sent, u.live_freeIndex e.handle⟩
  unfold State.doDestroy
  simp only [href, hend, hrole, Bool.false_eq_true, if_false]

/-! ### `OBJ_PIN` (R131) -/

/-- An object with no move of its own that is pinned where it lies (mode 3) gets its pin; moves of others may start. -/
theorem State.doPin_inPlace {e : StoreEntry} (htarget : Pa.target e.arg0 = 0) (hmode : Pa.mode e.arg0 = 3)
    (hmoves : s.objMoves (handleIdx e.handle) = []) :
    ∃ t : State, s.doPin e = t.finish e.id St.ok 0 ∧
      AllocFrame (s.updObj (handleIdx e.handle) (fun o => { o with pin := some ⟨3, Pa.group e.arg0⟩ })) t := by
  have hbytes : ∀ t : State, t.pinBytes (handleIdx e.handle) 3 (Pa.group e.arg0) = 0 := fun t => rfl
  have h31 : ¬ ((3 : Nat) = 1 ∧ ¬ s.pcUp (Pa.group e.arg0) = true) := by omega
  have h32 : ¬ (3 : Nat) = 2 := by omega
  have h30 : ¬ (3 : Nat) = 0 := by omega
  refine ⟨(s.updObj (handleIdx e.handle) (fun o => { o with pin := some ⟨3, Pa.group e.arg0⟩ })).startPinMove (handleIdx e.handle), ?_, ?_⟩
  · unfold State.doPin
    simp only [htarget, hmode, if_true]
    unfold State.pinObj
    simp only [if_neg h31, h32, false_and, if_false, hmoves, List.filter_nil, List.foldl_nil, if_neg h30, hbytes, Nat.zero_min]
  · unfold State.startPinMove
    refine AllocFrame.trans ?_ (AllocFrame.pumpMoves _)
    rfl

/-- A pin of a canvas's items to a group that a planned engine serves is stored. -/
theorem State.doPin_canvas {e : StoreEntry} (htarget : Pa.target e.arg0 = 1) (hmode : Pa.mode e.arg0 = 1)
    (hserved : s.planServes true (Pa.group e.arg0) = true) :
    s.doPin e = (s.setBlk { s.blk with canvasPins := s.blk.canvasPins.put 0 e.offset (Pa.group e.arg0 + 1) }).finish e.id St.ok 0 := by
  have h10 : ¬ (1 : Nat) = 0 := by omega
  unfold State.doPin
  simp only [htarget, hmode, if_neg h10]
  unfold State.pinWork
  simp only [BEq.rfl, hserved, not_true_eq_false, and_false, if_false, if_neg h10, if_true]

/-! ### Cues and their members (R42, R43) -/

/-- What an update of an entry leaves of the places of members. -/
theorem State.memberOf_updEntry {id c i : Nat} {f : StoreEntry → StoreEntry} (hf : ∀ x, (f x).member = x.member)
    (h : s.memberOf c i = none) : (s.updEntry id f).memberOf c i = none := by
  unfold State.memberOf State.updEntry State.setStore
  dsimp only
  rw [List.find?_map]
  have hplace : ((fun e : StoreEntry => decide (e.member = some (c, i))) ∘ fun e => if e.id = id then f e else e) =
      fun e => decide (e.member = some (c, i)) := by
    funext x
    dsimp only [Function.comp]
    split
    · rw [hf]
    · rfl
  rw [hplace]
  exact congrArg (Option.map _) h

/-- Where the next member of an open cue has not arrived, there is nothing to settle. -/
theorem State.settleCue_waits {ring : Nat} {c : CueRec} (hopen : s.openCue ring = some c) (hnext : s.memberOf c.id c.taken = none) :
    s.settleCue ring = s := by
  unfold State.settleCue
  simp only [hopen, hnext]

/-- A cue that opens on a ring without one is that ring's open cue. -/
theorem find_append_ring {l : List CueRec} {c : CueRec} {ring : Nat} (h : l.find? (fun x => decide (x.ring = ring)) = none)
    (hc : c.ring = ring) : (l ++ [c]).find? (fun x => decide (x.ring = ring)) = some c := by
  rw [List.find?_append, h, Option.none_or, List.find?_cons_of_pos (by simpa using hc)]

/-- An open cue that is replaced in the list by its next form is found in that form. -/
theorem find_replace_cue {l : List CueRec} {c c' : CueRec} {ring : Nat} (h : l.find? (fun x => decide (x.ring = ring)) = some c)
    (hc : c'.ring = ring) : (l.map (fun x => if x.id = c.id then c' else x)).find? (fun x => decide (x.ring = ring)) = some c' := by
  induction l with
  | nil => cases h
  | cons a l ih =>
    rw [List.map_cons]
    by_cases hid : a.id = c.id
    · rw [if_pos hid, List.find?_cons_of_pos (by simpa using hc)]
    · by_cases ha : a.ring = ring
      · rw [List.find?_cons_of_pos (by simpa using ha)] at h
        cases h
        exact absurd rfl hid
      · rw [List.find?_cons_of_neg (by simpa using ha)] at h
        rw [if_neg hid, List.find?_cons_of_neg (by simpa using ha)]
        exact ih h

/-- A `CUE` on a ring without an open cue, none of whose members has arrived, opens it. -/
theorem State.cueOpens_waits {e : StoreEntry} (hopen : s.openCue e.ring = none) (hmember : s.memberOf e.id 0 = none)
    (htimed : fieldAt e.param 0 1 = 1) :
    s.cueOpens e = s.setOpenCues (s.host.openCues ++ [⟨e.id, e.ring, e.tag, e.arg0, 0, [],
      some (timeOf (bits (fieldAt e.param 8 8) 0 48) (fieldAt e.param 16 4)), false, [(e.bytes, [])], 0, 0⟩]) := by
  unfold State.cueOpens
  simp only [if_pos htimed]
  exact State.settleCue_waits _ (find_append_ring hopen rfl) hmember

/-- A member that is not the last, while the next has not arrived, joins its cue and begins. -/
theorem State.takeMember_waits {c : CueRec} {e : StoreEntry} (ws : List CfgWrite) (data : List Byte) {ring : Nat}
    (hopen : s.openCue ring = some c) (hring : c.ring = ring) (hmore : c.taken + 1 ≠ c.count)
    (hnext : s.memberOf c.id (c.taken + 1) = none) :
    (s.takeMember c e ws data).openCue ring =
        some { c with taken := c.taken + 1, writes := c.writes ++ ws, ops := c.ops ++ [(e.bytes, data)] } ∧
      s.takeMember c e ws data = (s.updEntry e.id (fun x => { x with phase := .begun })).setOpenCues (s.host.openCues.map (fun x =>
        if x.id = c.id then { c with taken := c.taken + 1, writes := c.writes ++ ws, ops := c.ops ++ [(e.bytes, data)] } else x)) := by
  subst hring
  have hfound := find_replace_cue (c' := { c with taken := c.taken + 1, writes := c.writes ++ ws, ops := c.ops ++ [(e.bytes, data)] })
    hopen rfl
  have hwait : s.takeMember c e ws data = (s.updEntry e.id (fun x => { x with phase := .begun })).setOpenCues (s.host.openCues.map (fun x =>
      if x.id = c.id then { c with taken := c.taken + 1, writes := c.writes ++ ws, ops := c.ops ++ [(e.bytes, data)] } else x)) := by
    unfold State.takeMember
    simp only [if_neg hmore]
    exact State.settleCue_waits _ hfound (s.memberOf_updEntry (f := fun x => { x with phase := .begun }) (fun _ => rfl) hnext)
  exact ⟨hwait ▸ hfound, hwait⟩

/-- A `SET` whose entries pass every check is taken with one write for each entry. -/
theorem State.setMember_inline {c : CueRec} {e : StoreEntry} (hinline : e.inline_ = true)
    (hclean : (setEntries e.arg0 (slice e.param 0 e.length)).all (entryClean e.arg0) = true)
    (hrange : e.offset + (setEntries e.arg0 (slice e.param 0 e.length)).length ≤ tabCount e.arg0)
    (hstatus : s.entriesStatus e.arg0 e.offset (setEntries e.arg0 (slice e.param 0 e.length)) = 0) :
    s.setMember c e = s.takeMember c e (((setEntries e.arg0 (slice e.param 0 e.length)).zipIdx e.offset).map
      (fun x => ⟨e.arg0, x.2, x.1, c.taken⟩)) (slice e.param 0 e.length) := by
  have hany : (setEntries e.arg0 (slice e.param 0 e.length)).any (fun x => !entryClean e.arg0 x) = false := by
    rw [List.any_eq_not_all_not]
    simpa using hclean
  unfold State.setMember
  rw [if_pos (Or.inr hinline)]
  unfold State.setData
  simp only [hany, Bool.false_eq_true, if_false, if_neg (Nat.not_lt.2 hrange), hstatus, ne_eq, not_true_eq_false]

/-! ### The statement -/

/-- Settles O25, descriptor by descriptor: the next one of the ring runs, and its operation ends in the case the clause names. -/
theorem objectDescriptors : Obligations.Object_descriptors := by
  unfold Obligations.Object_descriptors
  refine ⟨?nop, ?create, ?write, ?read, ?destroy, ?pin, ?canvas, ?cue, ?set, ?data⟩
  case nop =>
    intro s n e hrun hopen
    have hmember : s.nextMember n = none := by unfold State.nextMember; simp only [hopen]
    have hnop : s.runNop n = s.runNext n (fun e => e.opcode == opNop) (fun s e => s.finish e.id St.ok 0) := by
      unfold State.runNop
      simp only [hmember]
    change Answers (s.done (s.when s.hostUp (s.runNop n))) _
    rw [hnop, s.answers_runNext hrun]
    exact ⟨s.finish_begun St.ok 0 hrun.2.2.1 rfl, State.finish_mem _ _ _ _, State.finish_obj _ _ _ _, State.finish_sent _ _ _ _,
      State.finish_evt _ _ _ _⟩
  case create =>
    intro s n e hrun hmirrors harg hlive hlimit hplace hroom
    obtain ⟨idx, t, h0, h16, hdone, hhost, hkind, hparam, hsize⟩ :=
      (s.begin e.id).doCreate_creates (e := e) hlive hlimit hplace hroom hmirrors
    change Answers (s.done (s.when s.hostUp (s.runNext n (fun e => e.opcode == opCreate) State.doCreate))) _
    rw [s.answers_runNext hrun, hdone]
    have hobj : (s.settle (t.finish e.id St.ok (t.handleOf idx))).obj = t.obj := State.finish_obj _ _ _ _
    refine ⟨idx, h16, ?_⟩
    rw [State.live_of_obj hobj, State.obj?_of_obj hobj, State.handleOf_of_obj hobj]
    exact ⟨s.finish_begun St.ok _ hrun.2.2.1 hhost, t.live_handleOf h0 h16 (by rw [hkind]; omega), hkind, hparam, hsize⟩
  case write =>
    intro s n e hrun hcopy ⟨hmrrs, hpage⟩ hpos
    obtain ⟨hsent, hentry, hmem, hobj, hregs⟩ := (s.begin e.id).writeBegins_inPlace (x := { e with phase := .begun }) hcopy
      (s.begin_entry hrun.2.2.1) rfl hpos hmrrs hpage
    change Answers (s.done (s.when s.hostUp (s.runNext n (fun e => e.opcode == opWrite) State.writeBegins))) _
    rw [s.answers_runNext hrun]
    exact ⟨hsent, congrArg (Option.map fun x : StoreEntry => (x.phase, x.reqs)) hentry, hmem, hobj, hregs⟩
  case read =>
    intro s n e hrun ⟨hce, hue⟩
    have hread : (s.begin e.id).doRead e = ((s.begin e.id).send
        (.hostWrite e.hostAddr (s.objBytes (s.obj? (handleIdx e.handle)) e.offset e.length))).finish e.id St.ok e.length := by
      unfold State.doRead
      simp only [(s.begin e.id).readObj_clean _ _ _ hce hue]
      rfl
    change Answers (s.done (s.when s.hostUp (s.runNext n (fun e => e.opcode == opRead) State.doRead))) _
    rw [s.answers_runNext hrun, hread]
    exact ⟨s.finish_begun St.ok _ hrun.2.2.1 rfl, State.finish_sent _ _ _ _, State.finish_mem _ _ _ _, State.finish_obj _ _ _ _,
      State.finish_evt _ _ _ _⟩
  case destroy =>
    intro s n e hrun href hmirrors
    obtain ⟨t, hdone, hhost, hsent, hstale⟩ := (s.begin e.id).doDestroy_unreferenced (e := e) href hmirrors
    change Answers (s.done (s.when s.hostUp (s.runNext n (fun e => e.opcode == opDestroy) State.doDestroy))) _
    rw [s.answers_runNext hrun, hdone]
    exact ⟨s.finish_begun St.ok 0 hrun.2.2.1 hhost, (State.live_of_obj (t.finish_obj e.id St.ok 0) e.handle).trans hstale,
      (t.finish_sent e.id St.ok 0).trans hsent⟩
  case pin =>
    intro s n e hrun ⟨htarget, hmode⟩ hmoves
    obtain ⟨t, hdone, hframe⟩ := (s.begin e.id).doPin_inPlace (e := e) htarget hmode hmoves
    change Answers (s.done (s.when s.hostUp (s.runNext n (fun e => e.opcode == opPin) State.doPin))) _
    rw [s.answers_runNext hrun, hdone]
    have hobj : (s.settle (t.finish e.id St.ok 0)).obj = _ := (t.finish_obj e.id St.ok 0).trans hframe.obj
    have hmem := t.finish_mem e.id St.ok 0
    refine ⟨s.finish_begun St.ok 0 hrun.2.2.1 hframe.host, ?_, (congrArg MemSt.hbm hmem).trans hframe.sameBytes.1,
      (congrArg MemSt.sram hmem).trans hframe.sameBytes.2, (t.finish_sent e.id St.ok 0).trans hframe.sent⟩
    rw [State.obj?_of_obj hobj]
    exact congrArg Obj.pin (State.obj?_setObj_same (s.begin e.id) (handleIdx e.handle) _)
  case canvas =>
    intro s n e hrun ⟨htarget, hmode⟩ hserved
    change Answers (s.done (s.when s.hostUp (s.runNext n (fun e => e.opcode == opPin) State.doPin))) _
    rw [s.answers_runNext hrun, (s.begin e.id).doPin_canvas htarget hmode hserved]
    refine ⟨s.finish_begun St.ok 0 hrun.2.2.1 rfl, ?_, State.finish_mem _ _ _ _, State.finish_obj _ _ _ _, State.finish_sent _ _ _ _⟩
    rw [State.settle_blk, State.finish_blk]
    exact FMap.get_put_same 0 (s.begin e.id).blk.canvasPins e.offset (Pa.group e.arg0 + 1)
  case cue =>
    intro s n e hup ⟨hnext, hop, hring⟩ hserved hopen hmember htimed
    have hrun : s.runCue n = (s.begin e.id).cueOpens e := by
      unfold State.runCue
      simp only [hnext, hop, hserved, ne_eq, not_true_eq_false, Bool.false_eq_true, if_false]
    have hopen' : (s.begin e.id).openCue e.ring = none := by rw [hring]; exact hopen
    change Answers (s.done (s.when s.hostUp (s.runCue n))) _
    rw [hup, State.when_true, hrun, State.cueOpens_waits _ hopen'
      (s.memberOf_updEntry (f := fun x => { x with phase := .begun }) (fun _ => rfl) hmember) htimed, hring, answers_done]
    exact ⟨rfl, rfl, rfl, rfl, rfl, rfl, rfl⟩
  case set =>
    intro s n c e hup hnext ⟨hop, hinline⟩ hclean hrange hstatus ⟨hmore, hring, hwait⟩ hopen
    have hrun : s.runSet n = s.setMember c e := by
      unfold State.runSet
      simp only [hnext, if_pos hop]
    obtain ⟨hfound, htaken⟩ := s.takeMember_waits (e := e) (((setEntries e.arg0 (slice e.param 0 e.length)).zipIdx e.offset).map
      (fun x => ⟨e.arg0, x.2, x.1, c.taken⟩)) (slice e.param 0 e.length) hopen hring hmore hwait
    change Answers (s.done (s.when s.hostUp (s.runSet n))) _
    rw [hup, State.when_true, hrun, s.setMember_inline hinline hclean hrange hstatus, answers_done]
    refine ⟨hfound, ?_⟩
    rw [htaken]
    exact ⟨rfl, rfl, rfl, rfl, rfl, rfl⟩
  case data =>
    intro s n e b p hup ⟨hfind, he⟩ ⟨hop, hreqs, hdata, hstatus, hyield⟩ ⟨hlen, hfit⟩ ⟨hlive, hkind⟩ ⟨hpages, hsram⟩ hmirrors
    have hrun : s.hostReadArrives n (.bytes b) = s.writeAnswer e e.length (.bytes b) := by
      unfold State.hostReadArrives
      simp only [hfind, if_pos hop, hreqs, List.headD_cons]
    change Answers (s.done (s.when s.hostUp (s.hostReadArrives n (.bytes b)))) _
    rw [hup, State.when_true, hrun, answers_done]
    exact s.writeAnswer_personality he hreqs hdata hstatus hyield hlen (by unfold pageSize; omega) hlive hkind hpages hsram hmirrors

end Sys2Proof.Machine
end

section
/-! SUPPORT. Posts of the ring processor, the start of a transfer, and the statement about management descriptors and reports (R39 to
R41, R100 to R117, R382, R393, R410). -/

namespace Sys2Proof.Machine

variable (s : State)

/-! ### Dispatch (R108 to R111) -/

/-- From `s` to `t` calls may have been dispatched: of the registers only the count of dispatches changes, and a slot stays in use. -/
def DispatchFrame (s t : State) : Prop :=
  t = { s with regs := t.regs, cb := t.cb, sent := t.sent } ∧ (∀ o, o ≠ R.CB_DISPATCH_CNT → t.rv o = s.rv o) ∧
    ∀ slot, s.slotUsed slot = true → t.slotUsed slot = true

theorem DispatchFrame.refl : DispatchFrame s s := ⟨rfl, fun _ _ => rfl, fun _ h => h⟩

theorem DispatchFrame.trans {s t u : State} (h : DispatchFrame s t) (h2 : DispatchFrame t u) : DispatchFrame s u := by
  obtain ⟨hst, hregs, hslots⟩ := h
  obtain ⟨htu, hregs2, hslots2⟩ := h2
  refine ⟨?_, fun o ho => (hregs2 o ho).trans (hregs o ho), fun slot hs => hslots2 slot (hslots slot hs)⟩
  rw [hst] at htu
  exact htu

/-- A call that is delivered leaves its list for the hands of its consumer, with its slot. -/
theorem State.slotUsed_of_moved {s t : State} {c : Consumer} {r : CallRec} (hqueue : t.cb.queue = s.cb.queue.filter (·.slot ≠ r.slot))
    (hhanded : t.cb.handed = s.cb.handed) (hheld : t.cb.held = s.cb.held ++ [(c, { r with handoff := true })]) {slot : Nat}
    (h : s.slotUsed slot = true) : t.slotUsed slot = true := by
  unfold State.slotUsed at h ⊢
  rw [hqueue, hhanded, hheld]
  simp only [Bool.or_eq_true, List.any_eq_true, decide_eq_true_eq] at h ⊢
  obtain (⟨x, hx, hslot⟩ | hh) | ⟨x, hx, hslot⟩ := h
  · by_cases hr : x.slot = r.slot
    · exact .inr ⟨_, List.mem_append_right _ (List.mem_singleton_self _), hr.symm.trans hslot⟩
    · exact .inl (.inl ⟨x, List.mem_filter.2 ⟨hx, decide_eq_true hr⟩, hslot⟩)
  · exact .inl (.inr hh)
  · exact .inr ⟨x, List.mem_append_left _ hx, hslot⟩

theorem DispatchFrame.deliver (c : Consumer) (r : CallRec) : DispatchFrame s (s.deliver c r) := by
  refine ⟨?_, fun o ho => ?_, fun slot => State.slotUsed_of_moved (c := c) (r := r) ?_ ?_ ?_⟩
  case refine_2 =>
    have hcount : ∀ t : State, (t.bump F.CB_DISPATCH_CNT.COUNT).rv o = t.rv o := fun t => t.rv_setFld_other _ ho
    cases c <;> exact hcount _
  all_goals cases c <;> rfl

theorem DispatchFrame.dispatchN (n : Nat) : DispatchFrame s (s.dispatchN n) := by
  induction n generalizing s with
  | zero => exact DispatchFrame.refl s
  | succ n ih =>
    unfold State.dispatchN
    split
    · exact DispatchFrame.refl s
    · split
      · exact (DispatchFrame.deliver s _ _).trans (ih _)
      · exact DispatchFrame.refl s

theorem DispatchFrame.dispatchAll : DispatchFrame s s.dispatchAll := by
  unfold State.dispatchAll
  split
  · exact DispatchFrame.refl s
  · exact DispatchFrame.dispatchN s _

/-! ### Posts of the ring processor (R103, R104, R204) -/

/-- From `s` to `t` one post has been counted and holds `slot`, with the host interface and memory left alone. -/
def SlotTaken (s t : State) (slot : Nat) : Prop :=
  t.host = s.host ∧ t.mem = s.mem ∧ t.slotUsed slot = true ∧
    t.fld F.CB_POST_CNT.COUNT = (s.fld F.CB_POST_CNT.COUNT + 1) % 2 ^ 64

theorem SlotTaken.dispatched {s t u : State} {slot : Nat} (h : SlotTaken s t slot) (hd : DispatchFrame t u) : SlotTaken s u slot := by
  obtain ⟨hhost, hmem, hslot, hcount⟩ := h
  obtain ⟨hframe, hregs, hslots⟩ := hd
  refine ⟨?_, ?_, hslots slot hslot, ?_⟩
  · rw [hframe]; exact hhost
  · rw [hframe]; exact hmem
  · unfold State.fld at hcount ⊢
    rw [hregs _ (by decide)]
    exact hcount

theorem State.enqueue_posts (source : Nat) (w : CallWord) : SlotTaken s (s.enqueue source w).1 (s.pickFree s.slotUsed 8192) := by
  unfold State.enqueue
  dsimp only
  refine ⟨?host, ?mem, ?slot, ?count⟩
  case host => split <;> rfl
  case mem => split <;> rfl
  case slot => simp [State.slotUsed]
  case count =>
    refine (State.fld_setFld_same _ F.CB_POST_CNT.COUNT _ (by decide)).trans ?_
    split
    · rfl
    · rw [show (State.freeStep (s.bump F.CB_RETARGET_CNT.COUNT)).fld F.CB_POST_CNT.COUNT = s.fld F.CB_POST_CNT.COUNT from
        s.fld_setFld_reg (f := F.CB_RETARGET_CNT.COUNT) _ (by decide)]
      rfl

/-- A valid word of class SM is no request for a compile. -/
theorem State.kind_of_valid {w : CallWord} (hvalid : s.callInvalid w 0 none = false) (hcls : w.cls = clsSM) : w.kind ≠ kCalCompile := by
  intro hk
  have hclass : (kindClass kCalCompile != some clsSM) = true := by decide
  unfold State.callInvalid at hvalid
  simp [hk, hcls, hclass] at hvalid

/-- A `CALL` whose word is valid and finds space takes a slot and finishes with its number. -/
theorem State.doCall_accepts {n : RingIx} {e : StoreEntry} (hfree : s.producerStalled (.host n) = false)
    (hvalid : s.callInvalid (callOfBytes e.param) 0 none = false) (hcls : (callOfBytes e.param).cls = clsSM)
    (hspace : s.findsSpace Src.rings (callOfBytes e.param) = true) :
    ∃ t : State, s.doCall n e = t.finish e.id St.ok (s.pickFree s.slotUsed 8192) ∧ SlotTaken s t (s.pickFree s.slotUsed 8192) := by
  refine ⟨(s.enqueue Src.rings (callOfBytes e.param)).1.dispatchAll, ?_, (s.enqueue_posts _ _).dispatched (DispatchFrame.dispatchAll _)⟩
  have hpost : s.cbPost (.host n) Src.rings e.id (callOfBytes e.param) 0 =
      ((s.enqueue Src.rings (callOfBytes e.param)).1.dispatchAll, .ok (s.pickFree s.slotUsed 8192)) := by
    unfold State.cbPost
    simp only [hvalid, hspace, Bool.false_eq_true, if_false, if_true]
    rfl
  have hroute : s.doCall n e = (s.cbPost (.host n) Src.rings e.id (callOfBytes e.param) 0).1.settlePost (.host n) e.id (callOfBytes e.param)
      (s.cbPost (.host n) Src.rings e.id (callOfBytes e.param) 0).2 := by
    unfold State.doCall State.postFrom
    simp only [hfree, Bool.false_eq_true, if_false]
    rfl
  rw [hroute, hpost]
  unfold State.settlePost
  simp only [if_neg (s.kind_of_valid hvalid hcls)]

/-- Where no partner is kept in step, a request for a compile is not mirrored. -/
theorem State.mirrorCompile_alone (id : Nat) (h : s.mirrors = false) : s.mirrorCompile id = s := by
  unfold State.mirrorCompile
  split
  · rw [h, if_neg Bool.false_ne_true]
  · rfl

/-- A `CAL_COMPILE` that finds space takes a slot, is handed over, and finishes with the slot's number. -/
theorem State.doCompile_accepts {n : RingIx} {e : StoreEntry} (hmirrors : s.mirrors = false)
    (hspace : s.slotSpace Src.rings (compileWord s e) = true) :
    ∃ t : State, s.doCompile n e = t.finish e.id St.ok (s.pickFree s.slotUsed 8192) ∧ t.host = s.host ∧ t.mem = s.mem ∧ t.sent = s.sent ∧
      t.cb.handed.map (fun r => (r.slot, r.word.kind, r.word.arg0)) =
        s.cb.handed.map (fun r => (r.slot, r.word.kind, r.word.arg0)) ++ [(s.pickFree s.slotUsed 8192, kCalCompile, e.handle)] := by
  have hhand : s.cbHand (.host n) Src.rings e.id (compileWord s e) =
      ((s.cbHand (.host n) Src.rings e.id (compileWord s e)).1, .ok (s.pickFree s.slotUsed 8192)) := by
    unfold State.cbHand
    simp only [hspace, if_true]
  have hcounted : (s.freeStep.bump F.CB_POST_CNT.COUNT).mirrors = false :=
    (State.mirrors_of_rv (s := s) (s.freeStep.rv_setFld_other (f := F.CB_POST_CNT.COUNT) _ (by decide))).trans hmirrors
  refine ⟨(s.cbHand (.host n) Src.rings e.id (compileWord s e)).1, ?_, ?_⟩
  · unfold State.doCompile
    dsimp only
    rw [hhand]
    have hkind : (compileWord s e).kind = kCalCompile := rfl
    unfold State.settlePost
    simp only [hkind, if_true]
    rw [State.mirrorCompile_alone]
    unfold State.cbHand
    simp only [hspace, if_true]
    exact hcounted
  · unfold State.cbHand
    simp only [hspace, if_true]
    refine ⟨rfl, rfl, rfl, ?_⟩
    exact List.map_append

/-! ### The start of a transfer (R382, R386) -/

theorem State.fld_setRv_other {off : Nat} {f : Fld} (v : Nat) (h : f.reg ≠ off) : (s.setRv off v).fld f = s.fld f := by
  unfold State.fld
  rw [s.rv_setRv_other v h]

/-- What the books of a channel leave of its status. -/
theorem State.fld_flyBooks {n : Nat} (x : FlySt) (held : Nat) {f : Fld} (hreg : f.reg = R.FLY_STATUS n) (hlow : f.lsb + f.width ≤ 16) :
    (s.flyBooks n x held).fld f = s.fld f := by
  have hwritten : f.reg ≠ R.FLY_WRITTEN n := by rw [hreg]; unfold R.FLY_STATUS R.FLY_WRITTEN; omega
  have hresidue : f.reg ≠ R.FLY_RESIDUE n := by rw [hreg]; unfold R.FLY_STATUS R.FLY_RESIDUE; omega
  unfold State.flyBooks
  dsimp only
  rw [State.fld_setRv_other _ _ hresidue, State.fld_setRv_other _ _ hwritten]
  exact s.fld_setFld_apart (f := F.FLY_STATUS.HELD n) _ hreg (by decide : 16 + 9 ≤ 64) (.inl hlow)

theorem State.rv_flyBooks {n o : Nat} (x : FlySt) (held : Nat) (hstatus : o ≠ R.FLY_STATUS n) (hwritten : o ≠ R.FLY_WRITTEN n)
    (hresidue : o ≠ R.FLY_RESIDUE n) : (s.flyBooks n x held).rv o = s.rv o := by
  unfold State.flyBooks
  dsimp only
  rw [State.rv_setRv_other _ _ hresidue, State.rv_setRv_other _ _ hwritten]
  exact s.rv_setFld_other (f := F.FLY_STATUS.HELD n) _ hstatus

/-- A channel whose image passes the checks and has elements becomes busy with it. -/
theorem State.flyStart_runs {n : Nat} {img : List Byte} {move : Option Nat} (hcheck : s.flyCheck img = 0) (hcount : Fly.count img ≠ 0) :
    ∃ chans, s.flyStart n img move = ((((((s.setRv (R.FLY_STATUS n) 0).setFld (F.FLY_STATUS.STATE n) fsBusy).setFld (F.FLY_STATUS.OVLP n)
      (b2n (Fly.overlaps img))).setFld (F.FLY_STATUS.DESC n) (b2n (Fly.descends img))).setRv R.FLY_BUSY chans).setFly n
        (some ⟨img, move, [], 0, 0, [], none, 0, none, 0⟩)).flyBooks n ⟨img, move, [], 0, 0, [], none, 0, none, 0⟩ 0 := by
  unfold State.flyStart
  simp only [hcheck, ne_eq, not_true_eq_false, if_false, if_neg hcount]
  exact ⟨_, rfl⟩

theorem State.flyOf_flyBooks (n m : Nat) (x : FlySt) (held : Nat) : (s.flyBooks n x held).flyOf m = s.flyOf m := rfl
theorem State.flyOf_setFly_same (n : Nat) (x : Option FlySt) : (s.setFly n x).flyOf n = x := FMap.get_put_same _ _ _ _
theorem State.setFly_fld (n : Nat) (x : Option FlySt) (f : Fld) : (s.setFly n x).fld f = s.fld f := rfl
theorem State.setFly_rv (n : Nat) (x : Option FlySt) (o : Nat) : (s.setFly n x).rv o = s.rv o := rfl

/-- What the status of a channel that starts is made of. -/
theorem State.fld_flyStart {n : Nat} {img : List Byte} {move : Option Nat} (hcheck : s.flyCheck img = 0) (hcount : Fly.count img ≠ 0)
    {f : Fld} (hreg : f.reg = R.FLY_STATUS n) (hlow : f.lsb + f.width ≤ 8) :
    (s.flyStart n img move).fld f = (((s.setRv (R.FLY_STATUS n) 0).setFld (F.FLY_STATUS.STATE n) fsBusy).setFld (F.FLY_STATUS.OVLP n)
      (b2n (Fly.overlaps img))).fld f := by
  obtain ⟨chans, hrun⟩ := s.flyStart_runs (n := n) (move := move) hcheck hcount
  have hother : f.reg ≠ R.FLY_BUSY := by rw [hreg]; unfold R.FLY_STATUS R.FLY_BUSY; omega
  rw [hrun, State.fld_flyBooks _ _ _ hreg (by omega), State.setFly_fld, State.fld_setRv_other _ _ hother]
  exact State.fld_setFld_apart _ (f := F.FLY_STATUS.DESC n) _ hreg (by decide : 8 + 1 ≤ 64) (.inl hlow)

/-- What a channel that starts shows of itself. -/
theorem State.flyStart_status {n : Nat} {img : List Byte} {move : Option Nat} (hcheck : s.flyCheck img = 0) (hcount : Fly.count img ≠ 0) :
    (s.flyStart n img move).fld (F.FLY_STATUS.STATE n) = fsBusy ∧ (s.flyStart n img move).fld (F.FLY_STATUS.ERR n) = 0 ∧
      (s.flyStart n img move).fld (F.FLY_STATUS.OVLP n) = b2n (Fly.overlaps img) ∧
      (s.flyStart n img move).flyOf n = some ⟨img, move, [], 0, 0, [], none, 0, none, 0⟩ := by
  refine ⟨?state, ?err, ?ovlp, ?image⟩
  case state =>
    rw [s.fld_flyStart hcheck hcount rfl (by decide : 0 + 3 ≤ 8),
      State.fld_setFld_apart _ (f := F.FLY_STATUS.OVLP n) (g := F.FLY_STATUS.STATE n) _ rfl (by decide : 7 + 1 ≤ 64)
        (.inl (by decide : 0 + 3 ≤ 7)),
      State.fld_setFld_same _ _ _ (by decide : 0 + 3 ≤ 64)]
    rfl
  case err =>
    rw [s.fld_flyStart hcheck hcount rfl (by decide : 3 + 4 ≤ 8),
      State.fld_setFld_apart _ (f := F.FLY_STATUS.OVLP n) (g := F.FLY_STATUS.ERR n) _ rfl (by decide : 7 + 1 ≤ 64)
        (.inl (by decide : 3 + 4 ≤ 7)),
      State.fld_setFld_apart _ (f := F.FLY_STATUS.STATE n) (g := F.FLY_STATUS.ERR n) _ rfl (by decide : 0 + 3 ≤ 64)
        (.inr (by decide : 0 + 3 ≤ 3))]
    unfold State.fld
    exact congrArg (fun v => bits v 3 4) (s.rv_setRv_same (R.FLY_STATUS n) 0)
  case ovlp =>
    have hbit : b2n (Fly.overlaps img) < 2 := by unfold b2n; split <;> omega
    rw [s.fld_flyStart hcheck hcount rfl (by decide : 7 + 1 ≤ 8), State.fld_setFld_same _ _ _ (by decide : 7 + 1 ≤ 64)]
    exact Nat.mod_eq_of_lt hbit
  case image =>
    obtain ⟨chans, hrun⟩ := s.flyStart_runs (n := n) (move := move) hcheck hcount
    rw [hrun, State.flyOf_flyBooks, State.flyOf_setFly_same]

/-- A channel that starts keeps the registers that lie between `FLY_BUSY` and its status. -/
theorem State.rv_flyStart {n o : Nat} {img : List Byte} {move : Option Nat} (hcheck : s.flyCheck img = 0) (hcount : Fly.count img ≠ 0)
    (hbusy : R.FLY_BUSY < o) (hstatus : o < R.FLY_STATUS n) : (s.flyStart n img move).rv o = s.rv o := by
  have hwritten : o ≠ R.FLY_WRITTEN n := by unfold R.FLY_STATUS at hstatus; unfold R.FLY_WRITTEN; omega
  have hresidue : o ≠ R.FLY_RESIDUE n := by unfold R.FLY_STATUS at hstatus; unfold R.FLY_RESIDUE; omega
  obtain ⟨chans, hrun⟩ := s.flyStart_runs (n := n) (move := move) hcheck hcount
  rw [hrun, State.rv_flyBooks _ _ _ hstatus.ne hwritten hresidue, State.setFly_rv, State.rv_setRv_other _ _ hbusy.ne',
    State.rv_setFld_other _ (f := F.FLY_STATUS.DESC n) _ hstatus.ne, State.rv_setFld_other _ (f := F.FLY_STATUS.OVLP n) _ hstatus.ne,
    State.rv_setFld_other _ (f := F.FLY_STATUS.STATE n) _ hstatus.ne, State.rv_setRv_other _ _ hstatus.ne]

/-- From `s` to `t` only registers and channels may have changed. -/
def ChannelFrame (s t : State) : Prop := t = { s with regs := t.regs, fly := t.fly }

theorem ChannelFrame.trans {s t u : State} (h : ChannelFrame s t) (h2 : ChannelFrame t u) : ChannelFrame s u := by
  unfold ChannelFrame at h h2 ⊢
  rw [h] at h2
  exact h2

theorem ChannelFrame.setRv (off v : Nat) : ChannelFrame s (s.setRv off v) := rfl
theorem ChannelFrame.setFly (n : Nat) (x : Option FlySt) : ChannelFrame s (s.setFly n x) := rfl
theorem ChannelFrame.setFld (f : Fld) (v : Nat) : ChannelFrame s (s.setFld f v) := rfl

theorem ChannelFrame.flyBooks (n : Nat) (x : FlySt) (held : Nat) : ChannelFrame s (s.flyBooks n x held) :=
  ((ChannelFrame.setFld s _ _).trans (ChannelFrame.setRv _ _ _)).trans (ChannelFrame.setRv _ _ _)

theorem ChannelFrame.flyLoad (n : Nat) (img : List Byte) : ChannelFrame s (s.flyLoad n img) :=
  (((((ChannelFrame.setRv s _ _).trans (ChannelFrame.setRv _ _ _)).trans (ChannelFrame.setRv _ _ _)).trans
    (ChannelFrame.setRv _ _ _)).trans (ChannelFrame.setRv _ _ _)).trans (ChannelFrame.setRv _ _ _)

theorem ChannelFrame.flyStart {n : Nat} {img : List Byte} {move : Option Nat} (hcheck : s.flyCheck img = 0) (hcount : Fly.count img ≠ 0) :
    ChannelFrame s (s.flyStart n img move) := by
  obtain ⟨chans, hrun⟩ := s.flyStart_runs (n := n) (move := move) hcheck hcount
  rw [hrun]
  refine ChannelFrame.trans ?_ (ChannelFrame.flyBooks _ _ _ _)
  refine ChannelFrame.trans ?_ (ChannelFrame.setFly _ _ _)
  exact ((((ChannelFrame.setRv s _ _).trans (ChannelFrame.setFld _ _ _)).trans (ChannelFrame.setFld _ _ _)).trans
    (ChannelFrame.setFld _ _ _)).trans (ChannelFrame.setRv _ _ _)

theorem flyAddresses_between (n : Nat) : (R.FLY_BUSY < R.FLY_SRC n ∧ R.FLY_SRC n < R.FLY_STATUS n) ∧
    R.FLY_BUSY < R.FLY_DST n ∧ R.FLY_DST n < R.FLY_STATUS n := by
  unfold R.FLY_BUSY R.FLY_SRC R.FLY_DST R.FLY_STATUS
  omega

/-- The addresses of an image that is loaded. -/
theorem State.rv_flyLoad (n : Nat) (img : List Byte) : (s.flyLoad n img).rv (R.FLY_SRC n) = Fly.src img % 2 ^ 64 ∧
    (s.flyLoad n img).rv (R.FLY_DST n) = Fly.dst img % 2 ^ 64 := by
  unfold State.flyLoad R.FLY_SRC R.FLY_DST R.FLY_COUNT R.FLY_CFG R.FLY_IDX_BASE R.FLY_IDX_COUNT
  constructor <;> simp (disch := omega) only [State.rv_setRv_other, State.rv_setRv_same]

/-- A `MOVE` to a free channel, of an image that passes its checks, loads it and starts it. -/
theorem State.doMove_starts {n : Nat} {e : StoreEntry} (hrun : s.canRun n e opMove) (hfree : s.flyBusy (e.arg0 % 32) = false)
    (hallowed : s.moveRefused e.param = false) :
    s.doMove n = ((s.begin e.id).flyLoad (e.arg0 % 32) e.param).flyStart (e.arg0 % 32) e.param (some e.id) := by
  have hbegun : (s.begin e.id).moveRefused e.param = false := hallowed
  unfold State.doMove
  simp only [hrun.2.1, hfree, Bool.false_eq_true, false_and, and_false, if_false]
  have hwant : (fun e : StoreEntry => e.opcode == opMove) e = true := beq_iff_eq.2 hrun.2.2.2.1
  rw [s.runNext_of_canRun hrun hwant, if_neg (by rw [hbegun]; exact Bool.false_ne_true)]

/-! ### Power (R410) -/

/-- From `RUN`, where no sequence is under way and retention has not failed, `POWER_STATE` of `IDLE`, `SLEEP` or `OFF` begins the entry. -/
theorem State.powerState_enters {e : StoreEntry} (hseq : s.pwr.seq = none) (hstate : s.pwr.state = psRun)
    (hret : s.flag F.PWR_STATE.RET_FAULT = false) (harg : e.arg0 = psIdle ∨ e.arg0 = psSleep ∨ e.arg0 = psOff) :
    s.powerState e = s.beginEntry e.arg0 (some e.id) := by
  have hother : ¬ e.arg0 = s.pwr.state := by rw [hstate]; obtain h | h | h := harg <;> rw [h] <;> decide
  have hstays : ¬ (e.arg0 = psDeep ∨ e.arg0 = psDark) := by obtain h | h | h := harg <;> rw [h] <;> decide
  have hawake : ¬ s.pwr.state = psIdle := by rw [hstate]; decide
  unfold State.powerState
  simp only [hseq, Option.isSome_none, Bool.false_eq_true, if_false, if_neg hother, hret, and_false, hstays, false_and, if_neg hawake]

/-! ### Reports (R41) -/

/-- A command for a report answers with the report that the begun descriptor's state gives. -/
theorem State.answers_report {n : Nat} {e : StoreEntry} {kind : Nat} {bytes : State → List Byte} {p : State → Prop}
    (h : s.canRun n e opReport) (hkind : e.arg0 = kind) :
    Answers (s.done (s.when s.hostUp (s.runReport n kind bytes))) p ↔
      p (s.settle ((s.begin e.id).report (bytes (s.begin e.id)) e)) := by
  have hwant : (fun e : StoreEntry => e.opcode == opReport && e.arg0 == kind) e = true := by
    simp only [h.2.2.2.1, hkind, BEq.rfl, Bool.and_self]
  unfold State.runReport
  rw [h.1, State.when_true, s.runNext_of_canRun h hwant, answers_done]

/-- A report goes to the host, cut to `LENGTH`; the descriptor finishes with its whole length. -/
theorem State.report_sends {e : StoreEntry} (b : List Byte) (he : s.entry? e.id = some e) :
    ((s.begin e.id).report b e).sent = s.sent ++ [.hostWrite e.hostAddr (b.take e.length)] ∧
      Finished ((s.begin e.id).report b e) e St.ok b.length ∧ ((s.begin e.id).report b e).mem = s.mem ∧
      ((s.begin e.id).report b e).evt = s.evt :=
  ⟨State.finish_sent _ _ _ _, s.finish_begun St.ok _ he rfl, State.finish_mem _ _ _ _, State.finish_evt _ _ _ _⟩

/-- The ledger report begins with the house clock and the store's ledger. -/
theorem State.take_ledgerReport : s.ledgerReport.take 16 =
    leBytes 8 s.time.house ++ leBytes 4 (8192 - s.host.store.length) ++ leBytes 4 s.host.store.length := by
  obtain ⟨rest, hrest⟩ : ∃ rest, s.ledgerReport =
      (leBytes 8 s.time.house ++ leBytes 4 (8192 - s.host.store.length) ++ leBytes 4 s.host.store.length) ++ rest := by
    unfold State.ledgerReport State.storeFree
    simp only [List.append_assoc]
    exact ⟨_, rfl⟩
  rw [hrest]
  exact List.take_left' rfl

/-! ### The statement -/

/-- Settles O26, descriptor by descriptor: the next one of the ring runs, and its operation ends in the case the clause names. -/
theorem managementDescriptors : Obligations.Management_descriptors := by
  unfold Obligations.Management_descriptors
  refine ⟨?call, ?compile, ?move, ?present, ?enters, ?chunk, ?placement, ?ledgers, ?book, ?objects⟩
  case call =>
    intro s n e hrun hfree ⟨hvalid, hcls⟩ hspace
    obtain ⟨t, hdone, hhost, hmem, hslot, hcount⟩ := (s.begin e.id).doCall_accepts (n := n) (e := e) hfree hvalid hcls hspace
    have hentry := (State.entry_of_host hhost e.id).trans (s.begin_entry hrun.2.2.1)
    have hring : e.ring < 64 := (s.ring_of_nextToBegin hrun.2.1).trans_lt n.isLt
    have hkept : (t.finish e.id St.ok ((s.begin e.id).pickFree (s.begin e.id).slotUsed 8192)).rv R.CB_POST_CNT = t.rv R.CB_POST_CNT :=
      t.finish_rv _ _ hentry (by unfold R.CB_POST_CNT R.HST_RING_DONE_CNT; dsimp only; omega)
        (by unfold R.CB_POST_CNT R.HST_RING_ERR_CNT; dsimp only; omega)
    have hguard : (s.hostUp && !s.producerStalled (.host n)) = s.hostUp := by rw [hfree, Bool.not_false, Bool.and_true]
    change Answers (s.done (s.when (s.hostUp && !s.producerStalled (.host n))
      (s.runNext n (fun e => e.opcode == opCall) (fun s e => s.doCall n e)))) _
    rw [hguard, s.answers_runNext hrun, hdone]
    refine ⟨s.finish_begun St.ok _ hrun.2.2.1 hhost, ?_, ?_, (t.finish_mem _ _ _).trans hmem⟩
    · unfold State.slotUsed at hslot ⊢
      rw [State.settle_cb, State.finish_cb]
      exact hslot
    · unfold State.fld at hcount ⊢
      exact (congrArg (fun v => bits v 0 64) hkept).trans hcount
  case compile =>
    intro s n e hrun hfree hmirrors hspace
    obtain ⟨t, hdone, hhost, hmem, hsent, hhanded⟩ := (s.begin e.id).doCompile_accepts (n := n) (e := e) hmirrors hspace
    have hguard : (s.hostUp && !s.producerStalled (.host n)) = s.hostUp := by rw [hfree, Bool.not_false, Bool.and_true]
    change Answers (s.done (s.when (s.hostUp && !s.producerStalled (.host n))
      (s.runNext n (fun e => e.opcode == opCompile) (fun s e => s.doCompile n e)))) _
    rw [hguard, s.answers_runNext hrun, hdone]
    refine ⟨s.finish_begun St.ok _ hrun.2.2.1 hhost, ?_, (t.finish_mem _ _ _).trans hmem, (t.finish_sent _ _ _).trans hsent⟩
    rw [State.settle_cb, State.finish_cb]
    exact hhanded
  case move =>
    intro s n e hrun hfree hallowed hcheck hcount
    change Answers (s.done (s.when s.hostUp (s.doMove n))) _
    rw [hrun.1, State.when_true, s.doMove_starts hrun hfree hallowed, answers_done]
    generalize e.arg0 % 32 = k
    have hloaded : ((s.begin e.id).flyLoad k e.param).flyCheck e.param = 0 := hcheck
    obtain ⟨hstate, herr, hovlp, hfly⟩ := ((s.begin e.id).flyLoad k e.param).flyStart_status (n := k) (move := some e.id) hloaded hcount
    obtain ⟨⟨hsrc0, hsrc1⟩, hdst0, hdst1⟩ := flyAddresses_between k
    obtain ⟨hsrc, hdst⟩ := (s.begin e.id).rv_flyLoad k e.param
    have hframe := (ChannelFrame.flyLoad (s.begin e.id) k e.param).trans
      (ChannelFrame.flyStart _ (n := k) (move := some e.id) hloaded hcount)
    have hkeeps := fun o => ((s.begin e.id).flyLoad k e.param).rv_flyStart (n := k) (o := o) (move := some e.id) hloaded hcount
    generalize ((s.begin e.id).flyLoad k e.param).flyStart k e.param (some e.id) = t at hstate herr hovlp hfly hframe hkeeps ⊢
    refine ⟨hstate, herr, hovlp, (hkeeps _ hsrc0 hsrc1).trans hsrc, (hkeeps _ hdst0 hdst1).trans hdst, hfly, ?entry, ?mem, ?sent, ?evt⟩
    case entry =>
      refine congrArg (Option.map (·.phase)) ((State.entry_of_host ?_ e.id).trans (s.begin_entry hrun.2.2.1))
      rw [State.settle_host, hframe]
    case mem => rw [State.settle_mem, hframe]; rfl
    case sent => rw [State.settle_sent, hframe]; rfl
    case evt => rw [State.settle_evt, hframe]; rfl
  case present =>
    intro s n e hrun hseq hsame
    have hdone : (s.begin e.id).powerState e = (s.begin e.id).finish e.id St.ok 0 := by
      unfold State.powerState
      simp only [State.begin_pwr, hseq, Option.isSome_none, Bool.false_eq_true, if_false, hsame, if_true]
    change Answers (s.done (s.when s.hostUp (s.runNext n (fun e => e.opcode == opPower) State.powerState))) _
    rw [s.answers_runNext hrun, hdone]
    exact ⟨s.finish_begun St.ok 0 hrun.2.2.1 rfl, State.finish_pwr _ _ _ _, State.finish_off _ _ _ _, State.finish_sent _ _ _ _⟩
  case enters =>
    intro s n e hrun ⟨hseq, hstate, hret⟩ harg
    change Answers (s.done (s.when s.hostUp (s.runNext n (fun e => e.opcode == opPower) State.powerState))) _
    rw [s.answers_runNext hrun, (s.begin e.id).powerState_enters hseq hstate hret harg]
    exact ⟨rfl, congrArg (Option.map (·.phase)) (s.begin_entry hrun.2.2.1), rfl, rfl⟩
  case chunk =>
    intro s n e hrun ⟨hlen, hpage, hmrrs⟩
    have hrequest := State.requestData_one (s.begin e.id) (e := e) (by omega) (hlen.trans hmrrs.symm).le (by omega)
    have hentry := (s.begin e.id).entry_updEntry e.id (fun x => { x with reqs := [(e.hostAddr, e.length)] }) { e with phase := .begun }
      (fun _ => rfl) (s.begin_entry hrun.2.2.1)
    change Answers (s.done (s.when s.hostUp (s.runNext n (fun e => e.opcode == opUpdate) State.requestData))) _
    rw [s.answers_runNext hrun, hrequest]
    rw [hlen] at hentry ⊢
    exact ⟨rfl, congrArg (Option.map fun x : StoreEntry => (x.phase, x.reqs)) hentry, rfl, rfl, rfl⟩
  case placement =>
    intro s n e hrun hkind
    change Answers (s.done (s.when s.hostUp (s.runReport n 1 (·.blk.report)))) _
    rw [s.answers_report hrun hkind]
    exact s.report_sends _ hrun.2.2.1
  case ledgers =>
    intro s n e hrun hkind _
    obtain ⟨hsent, hfinished, hkept⟩ := s.report_sends (s.begin e.id).ledgerReport hrun.2.2.1
    have hhead := (s.begin e.id).take_ledgerReport
    rw [State.begin_storeLength] at hhead
    change Answers (s.done (s.when s.hostUp (s.runReport n 2 State.ledgerReport))) _
    rw [s.answers_report hrun hkind]
    exact ⟨⟨_, hsent, hfinished, hhead⟩, hkept⟩
  case book =>
    intro s n e hrun hkind
    change Answers (s.done (s.when s.hostUp (s.runReport n 3 State.bookReport))) _
    rw [s.answers_report hrun hkind]
    exact s.report_sends s.bookReport hrun.2.2.1
  case objects =>
    intro s n e hrun hkind
    change Answers (s.done (s.when s.hostUp (s.runReport n 4 State.objectTable))) _
    rw [s.answers_report hrun hkind]
    exact s.report_sends s.objectTable hrun.2.2.1

end Sys2Proof.Machine
end

section
/-! SUPPORT. What writes to the stage clocks, their rates and their arbiter leave, and an event raised where its source has room (R70 to
R79, R454). -/

namespace Sys2Proof.Machine

variable (s : State)

/-! ### Stage clocks -/

@[simp] theorem State.clk_setClk_same (x : StageClk) (c : ClockSt) : (s.setClk x c).clk x = c := by cases x <;> rfl

theorem State.clk_setClk_other {x y : StageClk} (c : ClockSt) (h : y ≠ x) : (s.setClk x c).clk y = s.clk y := by
  cases x <;> cases y <;> first | rfl | exact absurd rfl h

/-- Setting a clock changes nothing but the two clocks. -/
theorem State.setClk_frame (x : StageClk) (c : ClockSt) :
    s.setClk x c = { s with time := { s.time with a := (s.setClk x c).time.a, b := (s.setClk x c).time.b } } := by cases x <;> rfl

@[simp] theorem State.setClk_regs (x : StageClk) (c : ClockSt) : (s.setClk x c).regs = s.regs := by cases x <;> rfl
@[simp] theorem State.setClk_evt (x : StageClk) (c : ClockSt) : (s.setClk x c).evt = s.evt := by cases x <;> rfl
@[simp] theorem State.setClk_frames (x : StageClk) (c : ClockSt) : (s.setClk x c).frames = s.frames := by cases x <;> rfl
@[simp] theorem State.setClk_show (x : StageClk) (c : ClockSt) : (s.setClk x c).time.show_ = s.time.show_ := by cases x <;> rfl
@[simp] theorem State.setClk_house (x : StageClk) (c : ClockSt) : (s.setClk x c).time.house = s.time.house := by cases x <;> rfl
@[simp] theorem State.setClk_refs (x : StageClk) (c : ClockSt) : (s.setClk x c).time.refs = s.time.refs := by cases x <;> rfl
@[simp] theorem State.setClk_sched (x : StageClk) (c : ClockSt) : (s.setClk x c).time.sched = s.time.sched := by cases x <;> rfl
@[simp] theorem State.setClk_evtUp (x : StageClk) (c : ClockSt) : (s.setClk x c).evtUp = s.evtUp := by cases x <;> rfl

/-- Settling keeps both clocks. -/
@[simp] theorem State.clk_settle (t : State) (x : StageClk) : (s.settle t).clk x = t.clk x := by cases x <;> rfl

theorem State.clk_of_time {s t : State} (h : t.time = s.time) (x : StageClk) : t.clk x = s.clk x := by
  cases x
  · exact congrArg TimeSt.a h
  · exact congrArg TimeSt.b h

theorem State.flag_of_regs {s t : State} (h : t.regs = s.regs) (f : Fld) : t.flag f = s.flag f := by
  unfold State.flag; rw [State.fld_eq_of_regs h]

theorem State.showSel_of_regs {s t : State} (h : t.regs = s.regs) : t.showSel = s.showSel := by
  unfold State.showSel; rw [State.flag_of_regs h]

theorem State.prioList_of_regs {s t : State} (h : t.regs = s.regs) (x : StageClk) : t.prioList x = s.prioList x := by
  unfold State.prioList; simp only [State.fld_eq_of_regs h]

/-! ### Events of a source that has room (R454) -/

/-- The event of a source with room touches no register. -/
theorem State.raise_regs (source code : Nat) (args : List Nat) (hu : s.evtUp = true) (hr : s.hasRoom source = true) :
    (s.raise source code args).regs = s.regs := by
  rw [s.raise_room source code args hu hr]

/-- A step that leaves the events and the house clock may come before the one that raises. -/
theorem State.raises_after {s t : State} (source code : Nat) (args : List Nat) (hevt : t.evt = s.evt)
    (hhouse : t.time.house = s.time.house) (hu : t.evtUp = true) (hr : s.hasRoom source = true) :
    Raises s (t.raise source code args) source code args := by
  have hroom : t.hasRoom source = true := by unfold State.hasRoom; rw [hevt]; exact hr
  rw [t.raise_room source code args hu hroom]
  simp [Raises, hevt, hhouse]

/-- So may a field that is set just before. -/
theorem State.raises_setFld {s t : State} (f : Fld) (v source code : Nat) (args : List Nat) (hevt : t.evt = s.evt)
    (hhouse : t.time.house = s.time.house) (hu : t.evtUp = true) (hr : s.hasRoom source = true) :
    Raises s ((t.setFld f v).raise source code args) source code args :=
  State.raises_after source code args hevt hhouse hu hr

/-- Settling keeps the events. -/
theorem Raises.settle {s t : State} {source code : Nat} {args : List Nat} (h : Raises s t source code args) :
    Raises s (s.settle t) source code args := h

/-- An event that a source raises is among those raised. -/
theorem Raises.hasEvent {s t : State} {source code : Nat} {args : List Nat} (h : Raises s t source code args) :
    HasEvent s t source code args := by
  unfold HasEvent
  rw [show t.evt.raised = _ from h]
  simp

@[simp] theorem State.raise_clk (source code : Nat) (args : List Nat) (x : StageClk) : (s.raise source code args).clk x = s.clk x :=
  State.clk_of_time (s.raise_time source code args) x

@[simp] theorem State.raise_showSel (source code : Nat) (args : List Nat) : (s.raise source code args).showSel = s.showSel := by
  unfold State.showSel State.flag
  rw [s.raise_fld _ _ _ _ (by decide) (by decide) (by decide)]

theorem State.hasRoom_of_evt {s t : State} (h : t.evt = s.evt) (source : Nat) : t.hasRoom source = s.hasRoom source := by
  unfold State.hasRoom; rw [h]

end Sys2Proof.Machine
end

section
/-! SUPPORT. Steps, unlocks, rates and priorities of the stage clocks, the selection and the slew of show time, and the statement about
them (R70 to R84). -/

namespace Sys2Proof.Machine

variable (s : State)

/-- Show time that is locked, or whose clock is not, does not lock (R84). -/
theorem State.showLock_stays (h : s.time.show_.locked = true ∨ (s.clk s.showSel).locked = false) : s.showLock = s := by
  unfold State.showLock
  exact if_pos (by rcases h with h | h <;> simp [h])

/-! ### Steps and unlocks of a clock (R72, R73) -/

/-- A step of a locked clock, or one that would leave the range of a time value, only raises `STEP_REFUSED`. -/
theorem State.stageStep_refused {x : StageClk} (h : (s.clk x).locked = true ∨ ((s.clk x).val : Int) + s.stepOffset x < 0 ∨
    (timeMod : Int) ≤ ((s.clk x).val : Int) + s.stepOffset x) :
    s.stageStep x = s.raise Src.clocks E.STEP_REFUSED (s.stepArgs x ++ [0]) := by
  unfold State.stageStep
  dsimp only
  refine if_pos ?_
  simpa [or_assoc] using h

/-- The clock moved and locked by a step (R72). -/
def ClockSt.stepped (c : ClockSt) (offset : Int) : ClockSt := { c with val := ((c.val : Int) + offset).toNat, locked := true }

/-- An unlocked clock whose step stays in range moves and locks; show time stays where it has nothing to follow. -/
theorem State.stageStep_moves {x : StageClk} (hfree : (s.clk x).locked = false) (hlow : 0 ≤ ((s.clk x).val : Int) + s.stepOffset x)
    (hhigh : ((s.clk x).val : Int) + s.stepOffset x < (timeMod : Int))
    (hshow : s.time.show_.locked = true ∨ (s.showSel ≠ x ∧ (s.clk s.showSel).locked = false)) :
    s.stageStep x = (s.setClk x ((s.clk x).stepped (s.stepOffset x))).raise Src.clocks E.STAGE_STEP
      (s.stepArgs x ++ [s.time.lastMarked]) := by
  have hmoved : (s.stepOffset x != 0 && !s.time.show_.locked && s.showSel == x) = false := by
    rcases hshow with h | ⟨h, -⟩ <;> simp [h]
  have hrange : ((s.clk x).locked || decide (((s.clk x).val : Int) + s.stepOffset x < 0) ||
      decide ((timeMod : Int) ≤ ((s.clk x).val : Int) + s.stepOffset x)) = false := by
    simp only [hfree, Bool.false_or, Bool.or_eq_false_iff, decide_eq_false_iff_not]
    omega
  unfold State.stageStep
  simp only [hrange, hmoved, Bool.false_eq_true, if_false]
  refine State.showLock_stays _ ?_
  rw [State.raise_time, State.setClk_show, State.raise_showSel, State.raise_clk, State.showSel_of_regs (s.setClk_regs x _)]
  exact hshow.imp_right fun ⟨hsel, hclk⟩ => by rwa [s.clk_setClk_other _ hsel]

/-- An unlock frees the clock and tells the first frame not yet presented. -/
theorem State.stageUnlockNow_locked {x : StageClk} (h : (s.clk x).locked = true) :
    s.stageUnlockNow x = (s.setClk x { s.clk x with locked := false, cause := causeDeclared }).raise Src.clocks E.STAGE_UNLOCK
      [clkIx x + 2 * causeDeclared, s.firstUnpresented] := by
  unfold State.stageUnlockNow State.stageUnlock State.freeClock
  rw [if_pos h, State.clk_setClk_same]
  unfold State.firstUnpresented
  rw [State.setClk_frames, State.setClk_sched]

/-! ### Rates and priorities (R71, R75, R77) -/

theorem signedOf_toNat {w : Nat} (r : BitVec w) (hw : 0 < w) : signedOf w r.toNat = r.toInt := by
  have hlt := r.isLt
  have hpow : 2 ^ w = 2 * 2 ^ (w - 1) := by rw [← pow_succ']; congr 1; omega
  unfold signedOf
  rw [Nat.mod_eq_of_lt hlt, BitVec.toInt_eq_toNat_cond]
  split <;> split <;> first | rfl | omega

/-- A signed value reads back from the field of its width. -/
theorem signedOf_ofSigned {w : Nat} (r : BitVec w) (hw : 0 < w) : signedOf w (ofSigned w r.toInt % 2 ^ w) = r.toInt := by
  have hlt := r.isLt
  have henc : ofSigned w r.toInt = r.toNat := by
    unfold ofSigned
    rw [← BitVec.toNat_ofInt]
    simp
  rw [henc, Nat.mod_eq_of_lt hlt, signedOf_toNat r hw]

/-- A rate that is put is the rate read, on a clock that keeps its value and its arbiter. -/
theorem State.putRate_rate (x : StageClk) (r : BitVec 23) : (s.putRate x r.toInt).rate x = r.toInt := by
  unfold State.putRate State.rate
  rw [State.fld_setFld_same _ _ _ (by simp [F.TIM_RATE.RATE])]
  exact signedOf_ofSigned r (by decide)

theorem State.clk_setFld (f : Fld) (v : Nat) (x : StageClk) : (s.setFld f v).clk x = s.clk x := State.clk_of_time (s.setFld_time f v) x

theorem State.putRate_clk_same (x : StageClk) (r : Int) : ∃ hist, (s.putRate x r).clk x = { s.clk x with hist := hist } := by
  unfold State.putRate
  exact ⟨_, (State.clk_setFld _ _ _ x).trans (s.clk_setClk_same x _)⟩

/-- The register definition of a clock's priorities. -/
def timPrioDef : RegDef :=
  ⟨"TIM_PRIO", 0x80012C, [(0x100, 2)], false,
    [⟨"P0", 0, 4, .rw, .W, 0x0, .enum 6⟩, ⟨"P1", 4, 4, .rw, .W, 0x0, .enum 6⟩, ⟨"P2", 8, 4, .rw, .W, 0x0, .enum 6⟩,
      ⟨"P3", 12, 4, .rw, .W, 0x0, .enum 6⟩]⟩

theorem findReg_timPrio (x : StageClk) : findReg (R.TIM_PRIO (clkIx x)) = some (timPrioDef, R.TIM_PRIO (clkIx x)) := by
  cases x <;> decide +kernel

/-- The word that `TimPrioWrite` writes, and its four codes. -/
def prioWord (p : Fin 4 → BitVec 4) : Nat := (p 0).toNat + (p 1).toNat * 16 + (p 2).toNat * 256 + (p 3).toNat * 4096

theorem prioWord_bits (p : Fin 4 → BitVec 4) : bits (prioWord p) 0 4 = (p 0).toNat ∧ bits (prioWord p) 4 4 = (p 1).toNat ∧
    bits (prioWord p) 8 4 = (p 2).toNat ∧ bits (prioWord p) 12 4 = (p 3).toNat := by
  have h0 := (p 0).isLt
  have h1 := (p 1).isLt
  have h2 := (p 2).isLt
  have h3 := (p 3).isLt
  unfold bits prioWord
  omega

/-- Codes up to 6 are taken over, and nothing is reported (R75). -/
theorem timPrioDef_written (old : Nat) {p : Fin 4 → BitVec 4} (h : ∀ i, (p i).toNat ≤ 6) :
    timPrioDef.refuses (prioWord p) = false ∧ timPrioDef.written old (prioWord p) =
      setBits (setBits (setBits (setBits old 0 4 (p 0).toNat) 4 4 (p 1).toNat) 8 4 (p 2).toNat) 12 4 (p 3).toNat := by
  obtain ⟨h0, h1, h2, h3⟩ := prioWord_bits p
  simp [RegDef.refuses, RegDef.written, timPrioDef, FieldDef.next, FieldDef.bad, Check.ok, h0, h1, h2, h3, h]

/-- From `s` to `t` the codes of a clock's priorities have been written, and nothing else. -/
def PrioWritten (s t : State) (x : StageClk) (p : Fin 4 → BitVec 4) : Prop :=
  t = { s with regs := t.regs } ∧ (∀ f : Fld, f.reg ≠ R.TIM_PRIO (clkIx x) → t.fld f = s.fld f) ∧
    t.fld (F.TIM_PRIO.P0 (clkIx x)) = (p 0).toNat ∧ t.fld (F.TIM_PRIO.P1 (clkIx x)) = (p 1).toNat ∧
    t.fld (F.TIM_PRIO.P2 (clkIx x)) = (p 2).toNat ∧ t.fld (F.TIM_PRIO.P3 (clkIx x)) = (p 3).toNat

theorem State.writeReg_timPrio (x : StageClk) {p : Fin 4 → BitVec 4} (source : Nat) (h : ∀ i, (p i).toNat ≤ 6) :
    PrioWritten s (s.writeReg (R.TIM_PRIO (clkIx x)) (prioWord p) source) x p := by
  obtain ⟨hok, hval⟩ := timPrioDef_written (s.rv (R.TIM_PRIO (clkIx x))) h
  have hlt : timPrioDef.written (s.rv (R.TIM_PRIO (clkIx x))) (prioWord p) < 2 ^ 64 := by
    rw [hval]
    refine setBits_lt _ _ _ _ _ (setBits_lt _ _ _ _ _ (setBits_lt _ _ _ _ _ (setBits_lt _ _ _ _ _ (s.rv_lt _) ?_) ?_) ?_) ?_ <;> decide
  have hwrite : s.writeReg (R.TIM_PRIO (clkIx x)) (prioWord p) source =
      s.setRv (R.TIM_PRIO (clkIx x)) (timPrioDef.written (s.rv (R.TIM_PRIO (clkIx x))) (prioWord p)) := by
    unfold State.writeReg State.writeFields
    simp only [findReg_timPrio x, hok, Bool.false_eq_true, if_false]
  have hp : ∀ i, (p i).toNat % 2 ^ 4 = (p i).toNat := fun i => Nat.mod_eq_of_lt (p i).isLt
  have hfld : ∀ l w, (s.writeReg (R.TIM_PRIO (clkIx x)) (prioWord p) source).fld ⟨R.TIM_PRIO (clkIx x), l, w⟩ =
      bits (timPrioDef.written (s.rv (R.TIM_PRIO (clkIx x))) (prioWord p)) l w := fun l w => by
    rw [hwrite]
    unfold State.fld
    rw [State.rv_setRv_same, Nat.mod_eq_of_lt hlt]
  refine ⟨by rw [hwrite]; rfl, fun f hf => ?_, (hfld 0 4).trans ?_, (hfld 4 4).trans ?_, (hfld 8 4).trans ?_, (hfld 12 4).trans ?_⟩
  · rw [hwrite]
    exact s.fld_setRv_other _ hf
  all_goals
    rw [hval]
    simp (disch := decide) only [bits_setBits_same, bits_setBits_other, hp]

/-! ### The arbiter (R77) -/

/-- A clock that tracks no reference takes the first of its priorities that is qualified. -/
theorem State.arbiter_selects {x : StageClk} {b : Nat} (newly : Option Nat) (harb : (s.clk x).arb ≠ arbTrack)
    (hbest : (s.prioList x).find? ((s.clk x).qual.contains ·) = some b) : s.arbiter x newly = s.selectRef x b := by
  unfold State.arbiter
  simp only [if_neg harb, hbest]

/-- A clock that tracks no reference and has none to take stays as it is. -/
theorem State.arbiter_waits {x : StageClk} (newly : Option Nat) (harb : (s.clk x).arb ≠ arbTrack)
    (hbest : (s.prioList x).find? ((s.clk x).qual.contains ·) = none) : s.arbiter x newly = s := by
  unfold State.arbiter
  simp only [if_neg harb, hbest]

/-- A clock that tracks a reference and has none left enters holdover. -/
theorem State.arbiter_holds {x : StageClk} (newly : Option Nat) (harb : (s.clk x).arb = arbTrack) (hqual : (s.clk x).qual = []) :
    s.arbiter x newly = s.enterHoldover x := by
  unfold State.arbiter
  have hbest : (s.prioList x).find? ((s.clk x).qual.contains ·) = none := by simp [hqual]
  have hlost : ((s.prioList x).contains (s.clk x).src && (s.clk x).qual.contains (s.clk x).src) = false := by simp [hqual]
  simp only [if_pos harb, hlost, hbest, Bool.false_eq_true, if_false]

/-- One code before an empty place is the whole list. -/
theorem State.prioList_single {x : StageClk} {c : Nat} (h0 : s.fld (F.TIM_PRIO.P0 (clkIx x)) = c) (hc : c ≠ 0)
    (h1 : s.fld (F.TIM_PRIO.P1 (clkIx x)) = 0) : s.prioList x = [c] := by
  unfold State.prioList
  simp [h0, h1, hc, List.takeWhile]

/-- What the selection of a reference leaves. -/
theorem State.selectRef_clk (x : StageClk) (src : Nat) :
    (s.selectRef x src).clk x = { s.clk x with arb := arbTrack, src := src } := by
  unfold State.selectRef
  rw [State.raise_clk, State.clk_setClk_same]

theorem State.selectRef_raises (x : StageClk) (src : Nat) (hu : s.evtUp = true) (hr : s.hasRoom Src.clocks = true) :
    Raises s (s.selectRef x src) Src.clocks E.REF_SELECT [clkIx x, src] :=
  State.raises_after _ _ _ (s.setClk_evt x _) (s.setClk_house x _) (by simpa using hu) hr

/-! ### Show time (R83, R84) -/

theorem State.showSel_setSel (x : StageClk) : (s.setFld F.TIM_SHOW_CTRL.SEL (clkIx x)).showSel = x := by
  unfold State.showSel State.flag
  rw [s.fld_setFld_same F.TIM_SHOW_CTRL.SEL (clkIx x) (by decide)]
  cases x <;> rfl

/-- Selecting the other clock under locked show time computes the difference to it anew and tells it. -/
theorem State.selWrite_locked {x : StageClk} (hsel : s.showSel ≠ x) (hlocked : s.time.show_.locked = true) :
    s.selWrite x = (s.setFld F.TIM_SHOW_CTRL.SEL (clkIx x)).slewCalc.raise Src.clocks E.SHOW_SELECT
      ([clkIx x] ++ words2 (showOffset (((s.clk x).val : Int) - (s.time.show_.val : Int)))) := by
  unfold State.selWrite
  dsimp only
  rw [if_neg hsel, if_pos (show (s.setFld F.TIM_SHOW_CTRL.SEL (clkIx x)).time.show_.locked = true from hlocked)]
  have hd : (s.setFld F.TIM_SHOW_CTRL.SEL (clkIx x)).slewCalc.time.show_.d = ((s.clk x).val : Int) - (s.time.show_.val : Int) := by
    unfold State.slewCalc
    rw [s.showSel_setSel x, s.clk_setFld]
    rfl
  rw [hd]

/-- Marking links one by one changes the links alone. -/
theorem State.foldl_updLink (g : LinkSt → LinkSt) (l : List Nat) :
    ∃ links, l.foldl (fun s n => s.updLink n g) s = { s with links := links } := by
  induction l generalizing s with
  | nil => exact ⟨s.links, rfl⟩
  | cons n l ih =>
    obtain ⟨links, h⟩ := ih (s.updLink n g)
    exact ⟨links, h⟩

/-- A jump without a schedule and with no frame on its way drops nothing (R97). -/
theorem State.jump_idle (hframes : s.frames = []) (hsched : s.time.sched.running = false) :
    ∃ mtr links, s.jump = { s with mtr := mtr, links := links, time := { s.time with lastClosed := none } } := by
  obtain ⟨links, h⟩ := State.foldl_updLink ({ s.spoilWindows with time := { s.spoilWindows.time with lastClosed := none } } : State)
    (fun y => { y with jumped := true }) (List.range 66)
  have hidle : s.spoilWindows.time.sched.running = false := hsched
  refine ⟨s.spoilWindows.mtr, links, Eq.trans ?_ h⟩
  unfold State.jump
  simp only [hframes, List.map_nil, List.foldl_nil, hidle, Bool.false_eq_true, if_false]

/-- An unlock of show time that has nothing to drop raises `SHOW_UNLOCK` (R84). -/
theorem State.showUnlockNow_idle (hlocked : s.time.show_.locked = true) (hclk : (s.clk s.showSel).locked = false)
    (hsched : s.time.sched.running = false) (hframes : s.frames = []) :
    ∃ t : State, s.showUnlockNow = t.raise Src.clocks E.SHOW_UNLOCK [clkIx s.showSel + 2 * causeDeclared, s.time.sched.seq] ∧
      t.time.show_ = { s.time.show_ with locked := false, cause := causeDeclared } ∧ t.evt = s.evt ∧
      t.time.house = s.time.house ∧ t.evtUp = s.evtUp := by
  obtain ⟨mtr, links, hjump⟩ := State.jump_idle (s.setShow { s.time.show_ with locked := false, cause := causeDeclared }) hframes hsched
  refine ⟨(s.setShow { s.time.show_ with locked := false, cause := causeDeclared }).jump, ?_, by rw [hjump]; rfl, by rw [hjump]; rfl,
    by rw [hjump]; rfl, by rw [hjump]; rfl⟩
  have hsel : ((s.setShow { s.time.show_ with locked := false, cause := causeDeclared }).jump).showSel = s.showSel :=
    State.showSel_of_regs (by rw [hjump]; rfl)
  unfold State.showUnlockNow State.showFree
  rw [if_pos hlocked, State.showLock_stays]
  · unfold State.showUnlock
    rw [hsel, hjump]
    unfold State.firstUnpresented
    simp only [State.setShow, hframes]
  · refine .inr ?_
    unfold State.showUnlock
    rw [State.raise_showSel, State.raise_clk, hsel, hjump]
    cases hx : s.showSel <;> rw [hx] at hclk <;> exact hclk

/-! ### The statement -/

/-- A refused step tells so and leaves the clocks, the registers and the frames (R72). -/
theorem exec_stageCtrlStep_refused {x : StageClk} (hup : s.evtUp = true) (hroom : s.hasRoom Src.clocks = true)
    (h : (s.clk x).locked = true ∨ ((s.clk x).val : Int) + s.stepOffset x < 0 ∨ (timeMod : Int) ≤ ((s.clk x).val : Int) + s.stepOffset x) :
    Answers (exec (.stageCtrlStep x) s) fun t =>
      t.time = s.time ∧ Raises s t Src.clocks E.STEP_REFUSED (s.stepArgs x ++ [0]) ∧ t.regs = s.regs ∧ t.frames = s.frames := by
  change Answers (s.done (s.when s.evtUp (s.stageStep x))) _
  rw [answers_done, s.when_of hup, s.stageStep_refused h]
  refine ⟨?_, s.raise_raises _ _ _ hup hroom, s.raise_regs _ _ _ hup hroom, s.raise_frames _ _ _⟩
  rw [State.settle_time, State.raise_time]

/-- Settles O27, command by command: each becomes one operation on a clock or on show time, and the event it raises. -/
theorem stageClocks : Obligations.Stage_clocks := by
  unfold Obligations.Stage_clocks
  refine ⟨?step, ?locked, ?unlock, ?rate, ?prio, ?select, ?below, ?above, ?sel, ?free, ?slew⟩
  case step =>
    intro s x hup hfree ⟨hlow, hhigh⟩ hshow hroom
    change Answers (s.done (s.when s.evtUp (s.stageStep x))) _
    have hroom' : (s.setClk x ((s.clk x).stepped (s.stepOffset x))).hasRoom Src.clocks = true := by
      rwa [State.hasRoom_of_evt (s.setClk_evt x _)]
    rw [answers_done, s.when_of hup, s.stageStep_moves hfree hlow hhigh hshow, State.clk_settle, State.raise_clk, State.clk_setClk_same]
    refine ⟨Int.toNat_of_nonneg hlow, rfl, State.raises_after _ _ _ (s.setClk_evt x _) (s.setClk_house x _) (by simpa using hup) hroom,
      ?_, ?_, ?_⟩
    · simp
    · simp
    · rw [State.settle_regs, State.raise_regs _ _ _ _ (by simpa using hup) hroom', State.setClk_regs]
  case locked => exact fun s x hup hlocked hroom => exec_stageCtrlStep_refused s hup hroom (.inl hlocked)
  case below => exact fun s x ⟨hup, hroom⟩ _ hlow => exec_stageCtrlStep_refused s hup hroom (.inr (.inl hlow))
  case above => exact fun s x ⟨hup, hroom⟩ _ hhigh => exec_stageCtrlStep_refused s hup hroom (.inr (.inr hhigh))
  case unlock =>
    intro s x hup hlocked hroom
    change Answers (s.done (s.when s.evtUp (s.stageUnlockNow x))) _
    have hroom' : (s.setClk x { s.clk x with locked := false, cause := causeDeclared }).hasRoom Src.clocks = true := by
      rwa [State.hasRoom_of_evt (s.setClk_evt x _)]
    rw [answers_done, s.when_of hup, s.stageUnlockNow_locked hlocked, State.clk_settle, State.raise_clk, State.clk_setClk_same]
    refine ⟨rfl, State.raises_after _ _ _ (s.setClk_evt x _) (s.setClk_house x _) (by simpa using hup) hroom, ?_, ?_, ?_⟩
    · simp
    · rw [State.settle_regs, State.raise_regs _ _ _ _ (by simpa using hup) hroom', State.setClk_regs]
    · simp
  case rate =>
    intro s x r hup htrack hrange
    change Answers (s.done (s.when s.evtUp (s.rateWrite x r.toNat))) _
    have hput : s.rateWrite x r.toNat = s.putRate x r.toInt := by
      unfold State.rateWrite
      rw [signedOf_toNat r (by decide)]
      exact if_pos ⟨htrack, hrange⟩
    obtain ⟨hist, hclk⟩ := s.putRate_clk_same x r.toInt
    rw [answers_done, s.when_of hup, hput, State.clk_settle, hclk]
    exact ⟨s.putRate_rate x r, rfl, htrack, rfl, s.setClk_evt x _⟩
  case prio =>
    intro s x p hup hcodes hqual harb
    obtain ⟨hframe, -, h0, h1, h2, h3⟩ := s.writeReg_timPrio x Src.hostRegs hcodes
    have hwaits : s.prioWrite x (prioWord p) Src.hostRegs = s.writeReg (R.TIM_PRIO (clkIx x)) (prioWord p) Src.hostRegs := by
      unfold State.prioWrite
      generalize s.writeReg (R.TIM_PRIO (clkIx x)) (prioWord p) Src.hostRegs = t at hframe
      have hclk : t.clk x = s.clk x := State.clk_of_time (by rw [hframe]) x
      exact t.arbiter_waits none (by rw [hclk, harb]; decide) (by simp [hclk, hqual])
    change Answers (s.done (s.when s.evtUp (s.prioWrite x (prioWord p) Src.hostRegs))) _
    rw [answers_done, s.when_of hup, hwaits]
    exact ⟨h0, h1, h2, h3, by rw [hframe]; rfl, by rw [hframe]; rfl⟩
  case select =>
    intro s x p0 hup ⟨hlow, hhigh⟩ hqual harb hroom
    obtain ⟨hframe, -, h0, h1, -, -⟩ := s.writeReg_timPrio x (p := ![p0, 0, 0, 0]) Src.hostRegs (by
      intro i; fin_cases i <;> simp [hhigh])
    have hselects : ∀ t : State, t = { s with regs := t.regs } → t.fld (F.TIM_PRIO.P0 (clkIx x)) = p0.toNat →
        t.fld (F.TIM_PRIO.P1 (clkIx x)) = 0 → t.arbiter x none = t.selectRef x p0.toNat := by
      intro t hframe h0 h1
      have hclk : t.clk x = s.clk x := State.clk_of_time (by rw [hframe]) x
      refine t.arbiter_selects none (by rw [hclk, harb]; decide) ?_
      rw [t.prioList_single h0 (by omega) h1, hclk, hqual]
      simp
    change Answers (s.done (s.when s.evtUp
      ((s.writeReg (R.TIM_PRIO (clkIx x)) (prioWord ![p0, 0, 0, 0]) Src.hostRegs).arbiter x none))) _
    generalize s.writeReg (R.TIM_PRIO (clkIx x)) (prioWord ![p0, 0, 0, 0]) Src.hostRegs = t at hframe h0 h1
    rw [answers_done, s.when_of hup, hselects t hframe h0 h1, State.clk_settle, State.selectRef_clk]
    have hraises := t.selectRef_raises x p0.toNat (by rw [hframe]; exact hup) (by rw [hframe]; exact hroom)
    rw [hframe] at hraises ⊢
    exact ⟨rfl, rfl, hraises⟩
  case sel =>
    intro s x hup hsel hlocked hroom
    change Answers (s.done (s.when s.evtUp (s.selWrite x))) _
    rw [answers_done, s.when_of hup, s.selWrite_locked hsel hlocked]
    have hregs := State.raise_regs (s.setFld F.TIM_SHOW_CTRL.SEL (clkIx x)).slewCalc Src.clocks E.SHOW_SELECT
      ([clkIx x] ++ words2 (showOffset (((s.clk x).val : Int) - (s.time.show_.val : Int)))) hup hroom
    refine ⟨?_, ?_, ?_, ?_, State.raises_after _ _ _ rfl rfl hup hroom, ?_⟩
    · refine (State.fld_eq_of_regs (s := s.setFld F.TIM_SHOW_CTRL.SEL (clkIx x)) hregs _).trans ?_
      rw [s.fld_setFld_same F.TIM_SHOW_CTRL.SEL _ (by decide)]
      cases x <;> rfl
    · exact (State.showSel_of_regs (s := s.setFld F.TIM_SHOW_CTRL.SEL (clkIx x)) hregs).trans (s.showSel_setSel x)
    · rw [State.settle_time, State.raise_time]; rfl
    · rw [State.settle_time, State.raise_time]
      unfold State.slewCalc
      rw [s.showSel_setSel x, s.clk_setFld]
      rfl
    · rw [State.settle_frames, State.raise_frames]; rfl
  case free =>
    intro s hup hlocked hclk hroom ⟨hsched, hframes⟩
    change Answers (s.done (s.when s.evtUp s.showUnlockNow)) _
    obtain ⟨t, heq, hshow, hevt, hhouse, hupt⟩ := s.showUnlockNow_idle hlocked hclk hsched hframes
    rw [answers_done, s.when_of hup, heq, State.settle_time, State.raise_time, hshow]
    exact ⟨rfl, rfl, (State.raises_after _ _ _ hevt hhouse (hupt.trans hup) hroom).hasEvent⟩
  case slew =>
    intro s hrun hlocked
    change s.done (s.when (s.time.running && s.time.show_.locked) s.slewCalc) = _
    rw [hrun, hlocked]
    rfl

end Sys2Proof.Machine
end

section
/-! SUPPORT. Edges, qualification and loss of the timing references, holdover, and the statement about them (R75 to R80). -/

namespace Sys2Proof.Machine

variable (s : State)

/-! ### Reference inputs (R76, R80) -/

@[simp] theorem State.refSt_setRef_same (r : Nat) (x : RefSt) : (s.setRef r x).refSt r = x := FMap.get_put_same _ _ _ _

@[simp] theorem State.clk_setRef (r : Nat) (y : RefSt) (x : StageClk) : (s.setRef r y).clk x = s.clk x := by cases x <;> rfl

theorem State.refSt_of_time {s t : State} (h : t.time.refs = s.time.refs) (r : Nat) : t.refSt r = s.refSt r := by
  unfold State.refSt; rw [h]

@[simp] theorem State.refSt_settle (t : State) (r : Nat) : (s.settle t).refSt r = t.refSt r := rfl

@[simp] theorem State.refSt_setRv (off v r : Nat) : (s.setRv off v).refSt r = s.refSt r := rfl

@[simp] theorem State.rv_settle (t : State) (off : Nat) : (s.settle t).rv off = t.rv off := rfl

theorem State.evtUp_of_refOn {r : Nat} (h : s.refOn r = true) : s.evtUp = true := (Bool.and_eq_true_iff.1 h).1

/-- The phase of an edge of reference `r` against a clock's value (R80). -/
def State.edgePhase (r t : Nat) : Rat := phaseOf t (s.fld (F.TIM_REF_NUM.VALUE r)) (s.fld (F.TIM_REF_DEN.VALUE r))

/-- An edge within a group adds its phases. -/
theorem State.refEdge_adds {r : Nat} (hlast : (s.refSt r).last = none) (hn : (s.refSt r).n + 1 < 2 ^ s.fld (F.TIM_REF_CFG.AVG_LOG2 r)) :
    s.refEdge r = s.setRef r ⟨some (s.time.a.val, s.time.b.val), true, (s.refSt r).sumA + s.edgePhase r s.time.a.val,
      (s.refSt r).sumB + s.edgePhase r s.time.b.val, (s.refSt r).n + 1⟩ := by
  unfold State.refEdge
  simp only [hlast, if_pos hn]
  rfl

/-- The edge that ends a group gives the average of its phases and starts the next group. -/
theorem State.refEdge_ends {r : Nat} (hlast : (s.refSt r).last = none) (hn : ¬ (s.refSt r).n + 1 < 2 ^ s.fld (F.TIM_REF_CFG.AVG_LOG2 r)) :
    s.refEdge r = ((s.setRef r ⟨some (s.time.a.val, s.time.b.val), true, 0, 0, 0⟩).setRv (R.TIM_REF_PHASE_A r)
        (ofSigned 64 (roundEven (((s.refSt r).sumA + s.edgePhase r s.time.a.val) / (((s.refSt r).n + 1 : Nat) : Rat) / 65536)))).setRv
      (R.TIM_REF_PHASE_B r)
        (ofSigned 64 (roundEven (((s.refSt r).sumB + s.edgePhase r s.time.b.val) / (((s.refSt r).n + 1 : Nat) : Rat) / 65536))) := by
  unfold State.refEdge
  simp only [hlast, if_neg hn]
  rfl

/-! ### Qualification (R76, R77) -/

/-- The clock with one more qualified reference. -/
def ClockSt.withQual (c : ClockSt) (code : Nat) : ClockSt := { c with qual := c.qual ++ [code] }

/-- The clock with one qualified reference fewer. -/
def ClockSt.withoutQual (c : ClockSt) (code : Nat) : ClockSt := { c with qual := c.qual.filter (· ≠ code) }

theorem State.qualify_new {x : StageClk} {code : Nat} (h : (s.clk x).qual.contains code = false) :
    s.qualify x code = (s.setClk x ((s.clk x).withQual code)).arbiter x (some code) := by
  unfold State.qualify
  simp only [h, Bool.false_eq_true, if_false]
  rfl

theorem State.disqualify_absent {x : StageClk} {code : Nat} (h : (s.clk x).qual = []) : s.disqualify x code = s := by
  unfold State.disqualify
  simp only [h, List.contains_nil, Bool.false_eq_true, if_false]

theorem State.disqualify_listed {x : StageClk} {code : Nat} (h : (s.clk x).qual.contains code = true) :
    s.disqualify x code = (s.setClk x ((s.clk x).withoutQual code)).arbiter x none := by
  unfold State.disqualify
  simp only [h, if_true]
  rfl

/-- The priorities are read from one register. -/
theorem State.prioList_of_rv {s t : State} {x : StageClk} (h : t.rv (R.TIM_PRIO (clkIx x)) = s.rv (R.TIM_PRIO (clkIx x))) :
    t.prioList x = s.prioList x := by
  unfold State.prioList State.fld F.TIM_PRIO.P0 F.TIM_PRIO.P1 F.TIM_PRIO.P2 F.TIM_PRIO.P3
  simp only [h]

/-- A clock that runs free takes the only reference of its priorities once it qualifies. -/
theorem State.qualify_selects {x : StageClk} {code : Nat} (hnew : (s.clk x).qual.contains code = false) (hlist : s.prioList x = [code])
    (harb : (s.clk x).arb ≠ arbTrack) : s.qualify x code = (s.setClk x ((s.clk x).withQual code)).selectRef x code := by
  rw [s.qualify_new hnew]
  refine State.arbiter_selects _ _ (by rw [State.clk_setClk_same]; exact harb) ?_
  rw [State.prioList_of_regs (s.setClk_regs x _), hlist, State.clk_setClk_same]
  simp [ClockSt.withQual]

/-- What the qualification leaves: the clock tracks the reference, which is told; the reference inputs and the registers stay. -/
theorem State.qualify_selects_leaves {x : StageClk} {code : Nat} (hnew : (s.clk x).qual.contains code = false)
    (hlist : s.prioList x = [code]) (harb : (s.clk x).arb ≠ arbTrack) (hu : s.evtUp = true) (hr : s.hasRoom Src.clocks = true) :
    (s.qualify x code).clk x = { s.clk x with qual := (s.clk x).qual ++ [code], arb := arbTrack, src := code } ∧
      Raises s (s.qualify x code) Src.clocks E.REF_SELECT [clkIx x, code] ∧
      (s.qualify x code).time.refs = s.time.refs ∧ (s.qualify x code).regs = s.regs := by
  rw [s.qualify_selects hnew hlist harb]
  have hu' : (s.setClk x ((s.clk x).withQual code)).evtUp = true := by rwa [State.setClk_evtUp]
  have hr' : (s.setClk x ((s.clk x).withQual code)).hasRoom Src.clocks = true := by rwa [State.hasRoom_of_evt (s.setClk_evt x _)]
  have hraises := State.selectRef_raises _ x code hu' hr'
  rw [Raises, s.setClk_evt, s.setClk_house] at hraises
  refine ⟨by rw [State.selectRef_clk, State.clk_setClk_same]; rfl, hraises, ?_, ?_⟩ <;> unfold State.selectRef
  · rw [State.raise_time, State.setClk_refs, State.setClk_refs]
  · rw [State.raise_regs _ _ _ _ (by rwa [State.setClk_evtUp]) (by rwa [State.hasRoom_of_evt (State.setClk_evt _ x _)]),
      State.setClk_regs, State.setClk_regs]

/-! ### Holdover (R78) -/

theorem State.heldRate_congr {s t : State} {x : StageClk} (hhouse : t.time.house = s.time.house) (hrate : t.rate x = s.rate x)
    (hhist : (t.clk x).hist = (s.clk x).hist) : t.heldRate x = s.heldRate x := by
  unfold State.heldRate
  rw [hhouse, hrate, hhist]

theorem State.rate_of_regs {s t : State} (h : t.regs = s.regs) (x : StageClk) : t.rate x = s.rate x := by
  unfold State.rate; rw [State.fld_eq_of_regs h]

/-- The references a clock has qualified do not bear on its held rate. -/
theorem State.heldRate_setQual (x : StageClk) (q : List Nat) : (s.setClk x { s.clk x with qual := q }).heldRate x = s.heldRate x :=
  State.heldRate_congr (s.setClk_house x _) (State.rate_of_regs (s.setClk_regs x _) x) (by rw [State.clk_setClk_same])

@[simp] theorem State.putRate_evt (x : StageClk) (r : Int) : (s.putRate x r).evt = s.evt := s.setClk_evt x _
@[simp] theorem State.putRate_house (x : StageClk) (r : Int) : (s.putRate x r).time.house = s.time.house := s.setClk_house x _
@[simp] theorem State.putRate_refs (x : StageClk) (r : Int) : (s.putRate x r).time.refs = s.time.refs := s.setClk_refs x _
@[simp] theorem State.putRate_evtUp (x : StageClk) (r : Int) : (s.putRate x r).evtUp = s.evtUp := s.setClk_evtUp x _

theorem State.putRate_clk_other {x y : StageClk} (r : Int) (h : y ≠ x) : (s.putRate x r).clk y = s.clk y :=
  (State.clk_setFld _ _ _ y).trans (s.clk_setClk_other _ h)

/-- A clock in holdover follows no reference, and is told with the held rate; the other clock and the references stay. -/
theorem State.enterHoldover_clk (x : StageClk) :
    ∃ hist, (s.enterHoldover x).clk x = { s.clk x with hist := hist, arb := arbHoldover, src := 0 } := by
  obtain ⟨hist, h⟩ := s.putRate_clk_same x (s.heldRate x)
  refine ⟨hist, ?_⟩
  unfold State.enterHoldover
  rw [State.raise_clk, State.clk_setClk_same, h]

theorem State.enterHoldover_clk_other {x y : StageClk} (h : y ≠ x) : (s.enterHoldover x).clk y = s.clk y := by
  unfold State.enterHoldover
  rw [State.raise_clk, State.clk_setClk_other _ _ h, s.putRate_clk_other _ h]

theorem State.enterHoldover_refs (x : StageClk) : (s.enterHoldover x).time.refs = s.time.refs := by
  unfold State.enterHoldover
  rw [State.raise_time, State.setClk_refs, State.putRate_refs]

theorem State.enterHoldover_raises (x : StageClk) (hu : s.evtUp = true) (hr : s.hasRoom Src.clocks = true) :
    Raises s (s.enterHoldover x) Src.clocks E.HOLDOVER [clkIx x, ofSigned 32 (s.heldRate x)] := by
  unfold State.enterHoldover
  refine State.raises_after _ _ _ ?_ ?_ ?_ hr <;> simp [hu]

/-- A clock whose only qualified reference is the one it tracks enters holdover when it loses that. -/
theorem State.loses_only {x : StageClk} {src : Nat} (harb : (s.clk x).arb = arbTrack) (hqual : (s.clk x).qual = [src]) :
    (s.setClk x ((s.clk x).withoutQual src)).arbiter x none = (s.setClk x ((s.clk x).withoutQual src)).enterHoldover x := by
  refine State.arbiter_holds _ none (by rw [State.clk_setClk_same]; exact harb) ?_
  rw [State.clk_setClk_same]
  simp [ClockSt.withoutQual, hqual]

/-- What the loss leaves: the clock in holdover without references, told with the rate held before. -/
theorem State.loses_only_leaves {x : StageClk} {src : Nat} (hqual : (s.clk x).qual = [src]) (hu : s.evtUp = true)
    (hr : s.hasRoom Src.clocks = true) :
    (((s.setClk x ((s.clk x).withoutQual src)).enterHoldover x).clk x).arb = arbHoldover ∧
      (((s.setClk x ((s.clk x).withoutQual src)).enterHoldover x).clk x).qual = [] ∧
      Raises s ((s.setClk x ((s.clk x).withoutQual src)).enterHoldover x) Src.clocks E.HOLDOVER
        [clkIx x, ofSigned 32 (s.heldRate x)] := by
  obtain ⟨hist, hclk⟩ := (s.setClk x ((s.clk x).withoutQual src)).enterHoldover_clk x
  have hraises := (s.setClk x ((s.clk x).withoutQual src)).enterHoldover_raises x (by simpa using hu)
    (by rwa [State.hasRoom_of_evt (s.setClk_evt x _)])
  rw [hclk, State.clk_setClk_same]
  refine ⟨rfl, by simp [ClockSt.withoutQual, hqual], ?_⟩
  rw [Raises, s.setClk_evt, s.setClk_house, show (s.setClk x ((s.clk x).withoutQual src)).heldRate x = s.heldRate x from
    s.heldRate_setQual x _] at hraises
  exact hraises

/-- Where only clock `A` had the reference, its loss takes that clock to holdover and leaves the other. -/
theorem State.loses_on_A {code : Nat} (harb : (s.clk .A).arb = arbTrack) (hqual : (s.clk .A).qual = [code]) (hb : (s.clk .B).qual = []) :
    (s.disqualify .A code).disqualify .B code = (s.setClk .A ((s.clk .A).withoutQual code)).enterHoldover .A := by
  rw [s.disqualify_listed (x := .A) (by rw [hqual]; simp), s.loses_only harb hqual, State.disqualify_absent _ (x := .B)]
  rw [State.enterHoldover_clk_other _ (by decide), State.clk_setClk_other _ _ (by decide), hb]

/-! ### The statement -/

/-- Settles O28, command by command: the edge's sums, and what the arbiter makes of a reference gained or lost. -/
theorem references : Obligations.References := by
  unfold Obligations.References
  refine ⟨?edge, ?group, ?qualify, ?missing, ?silent, ?expired, ?ptp⟩
  case edge =>
    intro s r hon hlast hn
    change Answers (s.done (s.when (s.refOn r) (s.refEdge r))) _
    rw [answers_done, s.when_of hon, s.refEdge_adds hlast hn]
    rw [State.refSt_settle, State.refSt_setRef_same]
    exact ⟨rfl, rfl, rfl, rfl, rfl⟩
  case group =>
    intro s r hon hlast ⟨havg, hn, hsum⟩
    change Answers (s.done (s.when (s.refOn r) (s.refEdge r))) _
    rw [answers_done, s.when_of hon, s.refEdge_ends hlast (by rw [havg, hn]; decide)]
    have hapart : R.TIM_REF_PHASE_A r ≠ R.TIM_REF_PHASE_B r := by unfold R.TIM_REF_PHASE_A R.TIM_REF_PHASE_B; omega
    rw [State.rv_settle, State.rv_setRv_other _ _ hapart, State.rv_setRv_same, State.refSt_settle, State.refSt_setRv, State.refSt_setRv,
      State.refSt_setRef_same]
    refine ⟨?_, rfl, rfl⟩
    rw [hn, hsum, zero_add, zero_add, Nat.cast_one, div_one, State.edgePhase]
  case qualify =>
    intro s r x hon hnew hlist harb hroom
    change Answers (s.done (s.when (s.refOn r) ((s.setRef r { s.refSt r with present := true }).qualify x (refCode r)))) _
    have hclk : (s.setRef r { s.refSt r with present := true }).clk x = s.clk x := s.clk_setRef r _ x
    obtain ⟨hafter, hraises, hrefs, hregs⟩ := State.qualify_selects_leaves (s.setRef r { s.refSt r with present := true }) (x := x)
      (code := refCode r) (by rwa [hclk]) hlist (by rw [hclk, harb]; decide) (s.evtUp_of_refOn hon) hroom
    rw [answers_done, s.when_of hon, State.clk_settle, hafter, hclk]
    refine ⟨rfl, rfl, rfl, hraises, ?_, hregs⟩
    exact congrArg RefSt.present ((State.refSt_of_time hrefs r).trans (s.refSt_setRef_same r _))
  case missing =>
    intro s r hon ⟨hqual, harb, _⟩ hb hroom
    change Answers (s.done (s.when (s.refOn r) (s.loseRef r))) _
    have hlose := State.loses_on_A (s.setRef r { s.refSt r with present := false, last := none }) harb hqual hb
    have hleaves := State.loses_only_leaves (s.setRef r { s.refSt r with present := false, last := none }) (x := .A) (src := refCode r)
      hqual (s.evtUp_of_refOn hon) hroom
    have hrefs : (s.loseRef r).time.refs = (s.setRef r { s.refSt r with present := false, last := none }).time.refs :=
      (congrArg (·.time.refs) hlose).trans ((State.enterHoldover_refs _ _).trans (State.setClk_refs _ _ _))
    have href := (State.refSt_of_time hrefs r).trans (s.refSt_setRef_same r _)
    rw [← hlose] at hleaves
    obtain ⟨hhold, hnone, hraises⟩ := hleaves
    rw [answers_done, s.when_of hon]
    exact ⟨hhold, hnone, congrArg RefSt.present href, congrArg RefSt.last href, hraises.hasEvent⟩
  case silent =>
    intro s x hup ⟨harb, hqual⟩ hroom
    have hlate : s.servoLate x = (s.setClk x ((s.clk x).withoutQual (s.clk x).src)).arbiter x none := by
      unfold State.servoLate
      exact if_pos harb
    change Answers (s.done (s.when s.evtUp (s.servoLate x))) _
    rw [answers_done, s.when_of hup, hlate, s.loses_only harb hqual, State.clk_settle]
    exact s.loses_only_leaves hqual hup hroom
  case expired =>
    intro s x hup harb hroom
    have hexp : s.holdExpired x = (s.setClk x { s.clk x with arb := arbFreerun, src := 0 }).raise Src.clocks E.HOLDOVER_EXPIRED
        [clkIx x] := if_pos harb
    change Answers (s.done (s.when s.evtUp (s.holdExpired x))) _
    rw [answers_done, s.when_of hup, hexp, State.clk_settle, State.raise_clk, State.clk_setClk_same]
    refine ⟨rfl, State.raises_after _ _ _ (s.setClk_evt x _) (s.setClk_house x _) (by simpa using hup) hroom, ?_⟩
    rw [State.settle_regs, State.raise_regs _ _ _ _ (by simpa using hup) (by rwa [State.hasRoom_of_evt (s.setClk_evt x _)]),
      State.setClk_regs]
  case ptp =>
    intro s x hup hflag ⟨hqual, harb⟩ hlist
    change Answers (s.done (s.when s.evtUp (s.ptpOk x true))) _
    have hset : s.ptpOk x true = ((s.setFld (F.TIM_CTRL.PTP_OK (clkIx x)) 1).setClk x ((s.clk x).withQual 1)) := by
      unfold State.ptpOk
      dsimp only
      rw [if_neg (by rw [hflag]; decide), if_pos rfl, State.qualify_new _ (by rw [State.clk_setFld, hqual]; rfl), State.clk_setFld]
      refine State.arbiter_waits _ _ (by rw [State.clk_setClk_same]; exact harb ▸ (by decide)) ?_
      rw [State.prioList_of_regs (State.setClk_regs _ x _), State.prioList_of_rv (s := s), hlist]
      · rfl
      · exact s.rv_setFld_other _ (by cases x <;> decide)
    rw [answers_done, s.when_of hup, hset, State.clk_settle, State.clk_setClk_same]
    refine ⟨?_, by simp [ClockSt.withQual, hqual], harb, State.setClk_evt _ x _⟩
    refine (State.flag_of_regs (State.setClk_regs (s.setFld (F.TIM_CTRL.PTP_OK (clkIx x)) 1) x ((s.clk x).withQual 1)) _).trans ?_
    unfold State.flag
    rw [s.fld_setFld_same _ _ (by simp [F.TIM_CTRL.PTP_OK])]
    rfl

end Sys2Proof.Machine
end

section
/-! SUPPORT. Linear timecode, the cue pins and the time triggers, and the statement about them (R81 to R87). -/

namespace Sys2Proof.Machine

variable (s : State)

/-! ### Linear timecode (R81, R82) -/

/-- The register word of a received label. -/
def ltcWord (f : LtcFrame) : Nat :=
  f.frame % 64 + f.sec % 64 * 2 ^ 6 + f.min % 64 * 2 ^ 12 + f.hour % 32 * 2 ^ 18 + b2n f.dropFrame * 2 ^ 23 + 2 ^ 24

theorem State.ltcIn_label (f : LtcFrame) : s.ltcIn (some f) =
    (({ s with time := { s.time with ltcBad := 0 } } : State).setRv R.TIM_LTC_IN_LAST (ltcWord f)).setRv R.TIM_LTC_IN_USER f.user.toNat := rfl

/-- The word of a label gives it back, and says that it is valid. -/
theorem ltcWord_fields {f : LtcFrame} (hf : f.frame < 64 ∧ f.sec < 64 ∧ f.min < 64 ∧ f.hour < 32) :
    ltcWord f < 2 ^ 64 ∧ bits (ltcWord f) 24 1 = 1 ∧ ltcWord f % 64 = f.frame ∧ ltcWord f / 2 ^ 6 % 64 = f.sec ∧ ltcWord f / 2 ^ 12 % 64 = f.min ∧
      ltcWord f / 2 ^ 18 % 32 = f.hour := by
  obtain ⟨hframe, hsec, hmin, hhour⟩ := hf
  have hdrop : b2n f.dropFrame < 2 := by cases f.dropFrame <;> decide
  unfold ltcWord bits
  omega

/-- The fourth discarded frame in a row ends the label's validity and tells the loss. -/
theorem State.ltcIn_fourth (h : s.time.ltcBad = 3) : s.ltcIn none =
    (({ s with time := { s.time with ltcBad := 4 } } : State).setFld F.TIM_LTC_IN_LAST.VALID 0).raise Src.clocks E.LTC_LOST [] := by
  unfold State.ltcIn
  simp only [h, if_true]

theorem State.ltcOut_sends {h m sec f : Nat} (hen : s.flag F.TIM_LTC_OUT_CFG.EN = true)
    (hlabel : ltcLabel s.showNow (signedOf 32 (s.rv R.TIM_LTC_OUT_OFFSET)) (s.fld F.TIM_LTC_OUT_CFG.RATE) = (h, m, sec, f)) :
    s.ltcOut = s.send (.ltc h m sec f (s.fld F.TIM_LTC_OUT_CFG.RATE == 2) (s.rv R.TIM_LTC_OUT_USER)) := by
  unfold State.ltcOut
  rw [if_pos hen]
  dsimp only
  rw [hlabel]

/-! ### What show time and the triggers read -/

theorem State.showNow_congr {s t : State} (htime : t.time = s.time) (hsel : t.rv R.TIM_SHOW_CTRL = s.rv R.TIM_SHOW_CTRL) :
    t.showNow = s.showNow := by
  have hshow : t.showSel = s.showSel := by
    unfold State.showSel State.flag State.fld F.TIM_SHOW_CTRL.SEL
    rw [hsel]
  unfold State.showNow
  rw [htime, hshow, State.clk_of_time htime]

/-- Whether a slot is due depends on the clocks, its settings and its target. -/
theorem State.trigDue_congr {s t : State} {n : Nat} (htime : t.time = s.time) (hsel : t.rv R.TIM_SHOW_CTRL = s.rv R.TIM_SHOW_CTRL)
    (hctrl : t.rv (R.TIM_TRIG_CTRL n) = s.rv (R.TIM_TRIG_CTRL n)) (hsec : t.rv (R.TIM_TRIG_TARGET_S n) = s.rv (R.TIM_TRIG_TARGET_S n))
    (hns : t.rv (R.TIM_TRIG_TARGET_NS n) = s.rv (R.TIM_TRIG_TARGET_NS n)) : t.trigDue n = s.trigDue n := by
  have hclock : (t.trigClock n).1 = (s.trigClock n).1 := by
    unfold State.trigClock State.fld F.TIM_TRIG_CTRL.CLOCK
    rw [hctrl, htime, State.showNow_congr htime hsel]
    dsimp only
    split
    · rfl
    · split <;> rfl
  unfold State.trigDue State.trigTarget State.flag
  rw [hclock]
  unfold State.fld F.TIM_TRIG_CTRL.ARM F.TIM_TRIG_TARGET_S.TARGET_S F.TIM_TRIG_TARGET_NS.TARGET_NS
  rw [hctrl, hsec, hns]

/-- Whether a later slot takes the pin depends on the clocks, the settings, and the targets of later slots (R86). -/
theorem State.pinOvertaken_congr {s t : State} {n : Nat} (htime : t.time = s.time) (hsel : t.rv R.TIM_SHOW_CTRL = s.rv R.TIM_SHOW_CTRL)
    (hctrl : ∀ m, t.rv (R.TIM_TRIG_CTRL m) = s.rv (R.TIM_TRIG_CTRL m))
    (htarget : ∀ m, n < m → t.rv (R.TIM_TRIG_TARGET_S m) = s.rv (R.TIM_TRIG_TARGET_S m) ∧
      t.rv (R.TIM_TRIG_TARGET_NS m) = s.rv (R.TIM_TRIG_TARGET_NS m)) : t.pinOvertaken n = s.pinOvertaken n := by
  have hfld : ∀ m l w, t.fld ⟨R.TIM_TRIG_CTRL m, l, w⟩ = s.fld ⟨R.TIM_TRIG_CTRL m, l, w⟩ := fun m l w => by
    unfold State.fld
    rw [hctrl m]
  unfold State.pinOvertaken F.TIM_TRIG_CTRL.ACTION F.TIM_TRIG_CTRL.CUE_IO_PIN
  refine List.any_congr rfl fun m => ?_
  simp only [hfld]
  by_cases hm : n < m
  · rw [State.trigDue_congr htime hsel (hctrl m) (htarget m hm).1 (htarget m hm).2]
  · simp [hm]

/-! ### Cue pins (R87) -/

/-- A new level of an input pin is stored, and told with show time where its edge is selected. -/
theorem State.cueIoEdge_selected {pin : Nat} {level : Bool} (hlevel : s.flag (F.TIM_CUEIO_CFG.IN pin) ≠ level)
    (hmode : s.fld (F.TIM_CUEIO_CFG.MODE pin) = 1) (hedge : bit (s.fld (F.TIM_CUEIO_CFG.EDGE pin)) (if level then 0 else 1) = true) :
    s.cueIoEdge pin level = (s.setFld (F.TIM_CUEIO_CFG.IN pin) (b2n level)).raise Src.trigger E.CUE_IO_EDGE
      [pin + b2n level * 2 ^ 8 + secOf s.showNow / 2 ^ 32 * 2 ^ 16, secOf s.showNow % 2 ^ 32, nsOf s.showNow, fracOf s.showNow] := by
  have hapart : ∀ l w, l + w ≤ 13 → (s.setFld (F.TIM_CUEIO_CFG.IN pin) (b2n level)).fld ⟨R.TIM_CUEIO_CFG pin, l, w⟩ =
      s.fld ⟨R.TIM_CUEIO_CFG pin, l, w⟩ := fun l w h => s.fld_setFld_apart _ rfl (by simp [F.TIM_CUEIO_CFG.IN]) (.inl h)
  have hselected : (s.setFld (F.TIM_CUEIO_CFG.IN pin) (b2n level)).edgeSelected pin level = true := by
    unfold State.edgeSelected
    rw [show (s.setFld _ _).fld (F.TIM_CUEIO_CFG.MODE pin) = _ from hapart 0 2 (by decide),
      show (s.setFld _ _).fld (F.TIM_CUEIO_CFG.EDGE pin) = _ from hapart 2 2 (by decide)]
    exact Bool.and_eq_true_iff.2 ⟨beq_iff_eq.2 hmode, hedge⟩
  have hnow : (s.setFld (F.TIM_CUEIO_CFG.IN pin) (b2n level)).showNow = s.showNow :=
    State.showNow_congr rfl (s.rv_setFld_other _ (by unfold R.TIM_SHOW_CTRL F.TIM_CUEIO_CFG.IN R.TIM_CUEIO_CFG; dsimp only; omega))
  unfold State.cueIoEdge
  rw [if_neg (by rw [hmode]; simpa using hlevel)]
  dsimp only
  rw [if_pos hselected, hnow]

/-- A pin in `OUT` mode is driven to the level it takes. -/
theorem State.driveCueIo_out {pin : Nat} (level : Bool) (hmode : s.fld (F.TIM_CUEIO_CFG.MODE pin) = 2) :
    s.driveCueIo pin level = (s.setFld (F.TIM_CUEIO_CFG.OUT pin) (b2n level)).send (.pin "CUE_IO" pin level) := by
  unfold State.driveCueIo
  exact if_pos ((s.fld_setFld_apart (f := F.TIM_CUEIO_CFG.OUT pin) (g := F.TIM_CUEIO_CFG.MODE pin) _ rfl
    (by simp [F.TIM_CUEIO_CFG.OUT]) (.inl (by simp [F.TIM_CUEIO_CFG.OUT, F.TIM_CUEIO_CFG.MODE]))).trans hmode)

/-! ### Time triggers (R85, R86) -/

/-- A slot is due, and no slot before it is. -/
abbrev State.firesNext (s : State) (slot : Fin 256) : Prop := s.trigDue slot = true ∧ ∀ m : Nat, m < slot.val → s.trigDue m = false

theorem State.firesNext.guard {s : State} {slot : Fin 256} (h : s.firesNext slot) :
    (!s.trigDue slot || (List.range slot.val).any (s.trigDue ·)) = false := by
  have hany : (List.range slot.val).any (s.trigDue ·) = false :=
    List.any_eq_false.2 fun m hm => by simp [h.2 m (List.mem_range.1 hm)]
  rw [h.1, hany]
  rfl

/-- The count of a slot's firings. -/
def State.fired (s : State) (n : Nat) : State := s.bump (F.TIM_TRIG_FIRE_CNT.FIRE_CNT n)

/-- A periodic slot counts its firing and takes its next target (R85). -/
def State.retargeted (s : State) (n next : Nat) : State :=
  ((s.fired n).setFld (F.TIM_TRIG_TARGET_S.TARGET_S n) (secOf next)).setFld (F.TIM_TRIG_TARGET_NS.TARGET_NS n) (nsOf next)

/-- A slot without a period fires once, on time, and disarms. -/
theorem State.triggerFire_once {slot : Fin 256} (hnext : s.firesNext slot) (hperiod : s.fld (F.TIM_TRIG_PERIOD.PERIOD slot) = 0)
    (htime : (s.trigClock slot).1 < s.trigTarget slot + (s.trigClock slot).2) :
    s.triggerFire slot = ((s.fired slot).setFld (F.TIM_TRIG_CTRL.ARM slot) 0).trigAct slot := by
  unfold State.triggerFire
  simp only [hnext.guard, hperiod, Nat.zero_mul, Nat.not_le.2 htime, Bool.false_eq_true, if_false, if_true, decide_false]
  rfl

/-- A periodic slot fires on time, moves its target by its period, and stays armed. -/
theorem State.triggerFire_again {slot : Fin 256} (hnext : s.firesNext slot) (hperiod : s.fld (F.TIM_TRIG_PERIOD.PERIOD slot) ≠ 0)
    (htime : (s.trigClock slot).1 < s.trigTarget slot + (s.trigClock slot).2)
    (hnow : (s.trigClock slot).1 < s.trigTarget slot + s.fld (F.TIM_TRIG_PERIOD.PERIOD slot) * nsU) :
    s.triggerFire slot = (s.retargeted slot (s.trigTarget slot + s.fld (F.TIM_TRIG_PERIOD.PERIOD slot) * nsU)).trigAct slot := by
  have hdue : s.trigTarget slot ≤ (s.trigClock slot).1 := of_decide_eq_true (Bool.and_eq_true_iff.1 hnext.1).2
  have hpos : s.fld (F.TIM_TRIG_PERIOD.PERIOD slot) * nsU ≠ 0 := Nat.mul_ne_zero hperiod (by decide)
  have hsteps : ((s.trigClock slot).1 - s.trigTarget slot) / max 1 (s.fld (F.TIM_TRIG_PERIOD.PERIOD slot) * nsU) + 1 = 1 := by
    rw [Nat.div_eq_of_lt (by omega)]
  unfold State.triggerFire
  simp only [hnext.guard, Nat.not_le.2 htime, Bool.false_eq_true, if_false, if_neg hpos, if_pos hdue, hsteps, Nat.one_mul, decide_false]
  rfl

theorem State.trigAct_event {slot : Fin 256} (h : s.fld (F.TIM_TRIG_CTRL.ACTION slot) = 4) :
    s.trigAct slot = s.raise Src.trigger E.TRIGGER [slot] := by
  unfold State.trigAct
  simp [h]

theorem State.trigAct_pin {slot : Fin 256} (h : s.fld (F.TIM_TRIG_CTRL.ACTION slot) = 2) (hfree : s.pinOvertaken slot = false) :
    s.trigAct slot = s.driveCueIo (s.fld (F.TIM_TRIG_CTRL.CUE_IO_PIN slot)) (s.flag (F.TIM_TRIG_CTRL.LEVEL slot)) := by
  unfold State.trigAct
  simp [h, hfree]

/-- Counting a firing and disarming leave the other settings of the slot. -/
theorem State.fld_fired_ctrl (n v : Nat) (f : Fld) (hreg : f.reg = R.TIM_TRIG_CTRL n) (hlsb : 1 ≤ f.lsb) :
    ((s.fired n).setFld (F.TIM_TRIG_CTRL.ARM n) v).fld f = s.fld f := by
  have hother : f.reg ≠ (F.TIM_TRIG_FIRE_CNT.FIRE_CNT n).reg := by
    rw [hreg]
    unfold F.TIM_TRIG_FIRE_CNT.FIRE_CNT R.TIM_TRIG_FIRE_CNT R.TIM_TRIG_CTRL
    dsimp only
    omega
  exact (State.fld_setFld_apart (f := F.TIM_TRIG_CTRL.ARM n) _ v hreg (by simp [F.TIM_TRIG_CTRL.ARM]) (.inr hlsb)).trans
    (s.fld_setFld_reg _ hother)

@[simp] theorem State.retargeted_sent (n next : Nat) : (s.retargeted n next).sent = s.sent := rfl
@[simp] theorem State.retargeted_evt (n next : Nat) : (s.retargeted n next).evt = s.evt := rfl

/-- A firing with a next target writes three registers of its slot. -/
theorem State.rv_retargeted {n next o : Nat} (hsec : o ≠ R.TIM_TRIG_TARGET_S n) (hns : o ≠ R.TIM_TRIG_TARGET_NS n)
    (hcount : o ≠ R.TIM_TRIG_FIRE_CNT n) : (s.retargeted n next).rv o = s.rv o :=
  (State.rv_setFld_other _ _ hns).trans ((State.rv_setFld_other _ _ hsec).trans (s.rv_setFld_other _ hcount))

/-- The registers of the slots' settings, and those of the targets of other slots, are none of the three. -/
theorem State.rv_retargeted_ctrl (n next m : Nat) : (s.retargeted n next).rv (R.TIM_TRIG_CTRL m) = s.rv (R.TIM_TRIG_CTRL m) := by
  refine s.rv_retargeted ?_ ?_ ?_ <;>
    unfold R.TIM_TRIG_CTRL <;> simp only [R.TIM_TRIG_TARGET_S, R.TIM_TRIG_TARGET_NS, R.TIM_TRIG_FIRE_CNT] <;> omega

theorem State.rv_retargeted_target {n m : Nat} (next : Nat) (h : n < m) :
    (s.retargeted n next).rv (R.TIM_TRIG_TARGET_S m) = s.rv (R.TIM_TRIG_TARGET_S m) ∧
      (s.retargeted n next).rv (R.TIM_TRIG_TARGET_NS m) = s.rv (R.TIM_TRIG_TARGET_NS m) := by
  constructor <;> refine s.rv_retargeted ?_ ?_ ?_ <;>
    simp only [R.TIM_TRIG_TARGET_S, R.TIM_TRIG_TARGET_NS, R.TIM_TRIG_FIRE_CNT] <;> omega

/-- Registers outside the slots' array are none of the three. -/
theorem State.rv_retargeted_below {o : Nat} (n next : Nat) (h : o < 0x801000) : (s.retargeted n next).rv o = s.rv o := by
  refine s.rv_retargeted ?_ ?_ ?_ <;> simp only [R.TIM_TRIG_TARGET_S, R.TIM_TRIG_TARGET_NS, R.TIM_TRIG_FIRE_CNT] <;> omega

theorem State.fld_retargeted_below {f : Fld} (n next : Nat) (h : f.reg < 0x801000) : (s.retargeted n next).fld f = s.fld f := by
  unfold State.fld
  rw [s.rv_retargeted_below n next h]

theorem nsOf_lt (t : Nat) : nsOf t < 2 ^ 30 := by
  have h : t % secU < 1000000000 * nsU := Nat.mod_lt _ (by decide)
  exact (Nat.div_lt_of_lt_mul (by rwa [Nat.mul_comm])).trans (by decide)

/-- The target then reads as the one taken. -/
theorem State.fld_retargeted (n next : Nat) :
    (s.retargeted n next).fld (F.TIM_TRIG_TARGET_S.TARGET_S n) = secOf next % 2 ^ 48 ∧
      (s.retargeted n next).fld (F.TIM_TRIG_TARGET_NS.TARGET_NS n) = nsOf next := by
  constructor
  · refine (State.fld_setFld_reg _ _ ?_).trans (State.fld_setFld_same _ _ _ (by simp [F.TIM_TRIG_TARGET_S.TARGET_S]))
    simp [F.TIM_TRIG_TARGET_S.TARGET_S, F.TIM_TRIG_TARGET_NS.TARGET_NS, R.TIM_TRIG_TARGET_S, R.TIM_TRIG_TARGET_NS]
  · refine (State.fld_setFld_same _ _ _ (by simp [F.TIM_TRIG_TARGET_NS.TARGET_NS])).trans ?_
    exact Nat.mod_eq_of_lt (nsOf_lt next)

theorem State.fld_retargeted_ctrl (n next : Nat) (f : Fld) (h : f.reg = R.TIM_TRIG_CTRL n) : (s.retargeted n next).fld f = s.fld f := by
  unfold State.fld
  rw [h, s.rv_retargeted_ctrl]

/-- A periodic slot whose pin no later slot takes drives it (R86). -/
theorem State.trigAct_retargeted {slot : Fin 256} {next : Nat} (haction : s.fld (F.TIM_TRIG_CTRL.ACTION slot) = 2)
    (hmode : s.fld (F.TIM_CUEIO_CFG.MODE (s.fld (F.TIM_TRIG_CTRL.CUE_IO_PIN slot))) = 2) (hfree : s.pinOvertaken slot = false) :
    (s.retargeted slot next).trigAct slot = ((s.retargeted slot next).setFld
      (F.TIM_CUEIO_CFG.OUT (s.fld (F.TIM_TRIG_CTRL.CUE_IO_PIN slot))) (b2n (s.flag (F.TIM_TRIG_CTRL.LEVEL slot)))).send
        (.pin "CUE_IO" (s.fld (F.TIM_TRIG_CTRL.CUE_IO_PIN slot)) (s.flag (F.TIM_TRIG_CTRL.LEVEL slot))) := by
  have hctrl := s.fld_retargeted_ctrl slot next
  have hpin : s.fld (F.TIM_TRIG_CTRL.CUE_IO_PIN slot) < 16 := s.fld_lt _
  have hovertaken : (s.retargeted slot next).pinOvertaken slot = s.pinOvertaken slot :=
    State.pinOvertaken_congr rfl (s.rv_retargeted_below _ _ (by decide)) (s.rv_retargeted_ctrl slot next)
      fun m hm => s.rv_retargeted_target next hm
  have hbelow : (F.TIM_CUEIO_CFG.MODE (s.fld (F.TIM_TRIG_CTRL.CUE_IO_PIN slot))).reg < 0x801000 := by
    simp only [F.TIM_CUEIO_CFG.MODE, R.TIM_CUEIO_CFG]
    omega
  rw [State.trigAct_pin _ ((hctrl _ rfl).trans haction) (hovertaken.trans hfree), State.flag, hctrl (F.TIM_TRIG_CTRL.LEVEL slot) rfl,
    hctrl (F.TIM_TRIG_CTRL.CUE_IO_PIN slot) rfl]
  exact State.driveCueIo_out _ _ ((s.fld_retargeted_below slot next hbelow).trans hmode)

@[simp] theorem State.fld_send (x : Sent) (f : Fld) : (s.send x).fld f = s.fld f := rfl
@[simp] theorem State.fld_settle (t : State) (f : Fld) : (s.settle t).fld f = t.fld f := rfl
@[simp] theorem State.flag_settle (t : State) (f : Fld) : (s.settle t).flag f = t.flag f := rfl

/-! ### The statement -/

/-- Settles O29, command by command: the label's word, the level of a pin, and the firing of a slot that is due. -/
theorem ltcAndPins : Obligations.Ltc_and_pins := by
  unfold Obligations.Ltc_and_pins
  refine ⟨?label, ?lost, ?out, ?edge, ?once, ?again⟩
  case label =>
    intro s f hup hf
    obtain ⟨hlt, hvalid, hframe, hsec, hmin, hhour⟩ := ltcWord_fields hf
    change Answers (s.done (s.when s.evtUp (s.ltcIn (some f)))) _
    rw [answers_done, s.when_of hup, s.ltcIn_label]
    have hrv : ∀ t : State, ((t.setRv R.TIM_LTC_IN_LAST (ltcWord f)).setRv R.TIM_LTC_IN_USER f.user.toNat).rv R.TIM_LTC_IN_LAST =
        ltcWord f := fun t => by
      rw [State.rv_setRv_other _ _ (by decide), State.rv_setRv_same, Nat.mod_eq_of_lt hlt]
    have huser : f.user.toNat < 2 ^ 64 := lt_trans f.user.isLt (by decide)
    refine ⟨?_, ?_, ?_, ?_, ?_, ?_, ?_, ?_⟩
    · rw [State.fld_settle, State.fld, show F.TIM_LTC_IN_LAST.VALID.reg = R.TIM_LTC_IN_LAST from rfl, hrv]
      exact hvalid
    · rw [State.rv_settle, hrv, hframe]
    · rw [State.rv_settle, hrv, hsec]
    · rw [State.rv_settle, hrv, hmin]
    · rw [State.rv_settle, hrv, hhour]
    · rw [State.rv_settle, State.rv_setRv_same, Nat.mod_eq_of_lt huser]
    · rw [State.settle_time, State.setRv_time, State.setRv_time]
    · rw [State.settle_evt, State.setRv_evt, State.setRv_evt]
  case lost =>
    intro s hup hbad hroom
    change Answers (s.done (s.when s.evtUp (s.ltcIn none))) _
    rw [answers_done, s.when_of hup, s.ltcIn_fourth hbad]
    refine ⟨?_, ?_, Raises.settle ?_⟩
    · rw [State.fld_settle, State.raise_fld _ _ _ _ _ (by decide) (by decide) (by decide),
        State.fld_setFld_same _ _ _ (by decide), Nat.zero_mod]
    · rw [State.settle_time, State.raise_time, State.setFld_time]
    · exact State.raises_setFld _ _ _ _ _ rfl rfl hup hroom
  case out =>
    intro s h m sec f hup hen hlabel
    change s.done (s.when s.evtUp s.ltcOut) = _
    rw [s.when_of hup, s.ltcOut_sends hen hlabel]
    exact s.done_of rfl rfl
  case edge =>
    intro s pin level hup hlevel hmode hedge hroom
    change Answers (s.done (s.when s.evtUp (s.cueIoEdge pin level))) _
    rw [answers_done, s.when_of hup, s.cueIoEdge_selected hlevel hmode hedge]
    refine ⟨?_, Raises.settle (State.raises_setFld _ _ _ _ _ rfl rfl hup hroom), ?_, ?_⟩
    · have hregs := State.raise_regs (s.setFld (F.TIM_CUEIO_CFG.IN pin) (b2n level)) Src.trigger E.CUE_IO_EDGE
        [pin + b2n level * 2 ^ 8 + secOf s.showNow / 2 ^ 32 * 2 ^ 16, secOf s.showNow % 2 ^ 32, nsOf s.showNow, fracOf s.showNow] hup hroom
      rw [State.flag_settle, State.flag_of_regs hregs]
      unfold State.flag
      rw [s.fld_setFld_same _ _ (by simp [F.TIM_CUEIO_CFG.IN])]
      cases level <;> rfl
    · rw [State.settle_time, State.raise_time]; rfl
    · rw [State.settle_sent, State.raise_sent]; rfl
  case once =>
    intro s slot hup hnext haction hperiod htime hroom
    change Answers (s.done (s.when s.evtUp (s.triggerFire slot))) _
    have hact := (s.fld_fired_ctrl slot 0 (F.TIM_TRIG_CTRL.ACTION slot) rfl (by simp [F.TIM_TRIG_CTRL.ACTION])).trans haction
    rw [answers_done, s.when_of hup, s.triggerFire_once hnext hperiod htime, State.trigAct_event _ hact]
    have hregs := State.raise_regs ((s.fired slot).setFld (F.TIM_TRIG_CTRL.ARM slot) 0) Src.trigger E.TRIGGER [slot] hup hroom
    refine ⟨Raises.settle (State.raises_setFld _ _ _ _ _ rfl rfl hup hroom), ?_, ?_, ?_, ?_⟩
    · rw [State.flag_settle, State.flag_of_regs hregs]
      unfold State.flag
      rw [State.fld_setFld_same _ _ _ (by simp [F.TIM_TRIG_CTRL.ARM])]
      rfl
    · rw [State.fld_settle, State.fld_eq_of_regs hregs, State.fld_setFld_reg _ _ (by
        simp [F.TIM_TRIG_CTRL.ARM, F.TIM_TRIG_FIRE_CNT.FIRE_CNT, R.TIM_TRIG_CTRL, R.TIM_TRIG_FIRE_CNT])]
      exact State.fld_setFld_same _ _ _ (by simp [F.TIM_TRIG_FIRE_CNT.FIRE_CNT])
    · rw [State.settle_time, State.raise_time]; rfl
    · rw [State.settle_sent, State.raise_sent]; rfl
  case again =>
    intro s slot hup hnext ⟨haction, hmode, hfree⟩ hperiod htime hnow
    change Answers (s.done (s.when s.evtUp (s.triggerFire slot))) _
    rw [answers_done, s.when_of hup, s.triggerFire_again hnext hperiod htime hnow, s.trigAct_retargeted haction hmode hfree]
    generalize s.trigTarget slot + s.fld (F.TIM_TRIG_PERIOD.PERIOD slot) * nsU = next
    obtain ⟨hsec, hns⟩ := s.fld_retargeted slot next
    have hpin : s.fld (F.TIM_TRIG_CTRL.CUE_IO_PIN slot) < 16 := s.fld_lt _
    have hkeeps : ∀ f : Fld, 0x801000 ≤ f.reg → (((s.retargeted slot next).setFld
        (F.TIM_CUEIO_CFG.OUT (s.fld (F.TIM_TRIG_CTRL.CUE_IO_PIN slot))) (b2n (s.flag (F.TIM_TRIG_CTRL.LEVEL slot)))).send
        (.pin "CUE_IO" (s.fld (F.TIM_TRIG_CTRL.CUE_IO_PIN slot)) (s.flag (F.TIM_TRIG_CTRL.LEVEL slot)))).fld f =
          (s.retargeted slot next).fld f := fun f hf => by
      rw [State.fld_send]
      refine State.fld_setFld_reg _ _ ?_
      simp only [F.TIM_CUEIO_CFG.OUT, R.TIM_CUEIO_CFG]
      omega
    refine ⟨?_, ?_, ?_, ?_, ?_⟩
    · rw [State.settle_sent, State.send_sent, State.setFld_sent, State.retargeted_sent]
    · rw [State.fld_settle, hkeeps _ (by simp only [F.TIM_TRIG_TARGET_S.TARGET_S, R.TIM_TRIG_TARGET_S]; omega), hsec]
    · rw [State.fld_settle, hkeeps _ (by simp only [F.TIM_TRIG_TARGET_NS.TARGET_NS, R.TIM_TRIG_TARGET_NS]; omega), hns]
    · rw [State.flag_settle, State.flag, hkeeps _ (by simp only [F.TIM_TRIG_CTRL.ARM, R.TIM_TRIG_CTRL]; omega),
        s.fld_retargeted_ctrl slot next _ rfl]
      exact (Bool.and_eq_true_iff.1 hnext.1).1
    · rw [State.settle_evt, State.send_evt, State.setFld_evt, State.retargeted_evt]

end Sys2Proof.Machine
end

section
/-! SUPPORT. What the operations of the frame timeline leave of frames, counters and events: one relation, and one lemma per operation
(R88 to R97, R174, R183, R350). -/

namespace Sys2Proof.Machine

variable (s : State)

/-! ### Frames that stay -/

/-- A frame's record keeps its number, its send deadline once past, its abandonment, and whether it is late. -/
def FrameRec.Stays (a b : FrameRec) : Prop :=
  b.seq = a.seq ∧ (a.sendPassed = true → b.sendPassed = true) ∧ (a.abandoned = true → b.abandoned = true) ∧ b.late = a.late

theorem FrameRec.Stays.refl (a : FrameRec) : a.Stays a := ⟨rfl, id, id, rfl⟩

theorem FrameRec.Stays.trans {a b c : FrameRec} (h : a.Stays b) (h2 : b.Stays c) : a.Stays c := by
  obtain ⟨hseq, hsend, haband, hlate⟩ := h
  obtain ⟨hseq2, hsend2, haband2, hlate2⟩ := h2
  exact ⟨hseq2.trans hseq, hsend2 ∘ hsend, haband2 ∘ haband, hlate2.trans hlate⟩

theorem forall₂_trans {α : Type} {r : α → α → Prop} (hr : ∀ {a b c}, r a b → r b c → r a c) {l m n : List α}
    (h : List.Forall₂ r l m) (h2 : List.Forall₂ r m n) : List.Forall₂ r l n := by
  induction h generalizing n with
  | nil => exact h2
  | cons hab _ ih =>
    cases h2 with
    | cons hbc hrest => exact .cons (hr hab hbc) (ih hrest)

/-- Frames that keep their numbers are found under them, with what the relation carries over. -/
theorem any_find_of_forall₂ {r : FrameRec → FrameRec → Prop} {p q : FrameRec → Bool} (hseq : ∀ {a b}, r a b → b.seq = a.seq)
    (hpq : ∀ {a b}, r a b → p a = true → q b = true) {l m : List FrameRec} (h : List.Forall₂ r l m) (n : Nat)
    (hp : (l.find? (·.seq = n)).any p = true) : (m.find? (·.seq = n)).any q = true := by
  induction h with
  | nil => exact hp
  | @cons a b l m hab _ ih =>
    by_cases ha : a.seq = n
    · rw [List.find?_cons_of_pos (by simpa using ha)] at hp
      rw [List.find?_cons_of_pos (by simpa [hseq hab] using ha)]
      exact hpq hab hp
    · rw [List.find?_cons_of_neg (by simpa using ha)] at hp
      rw [List.find?_cons_of_neg (by simpa [hseq hab] using ha)]
      exact ih hp

theorem map_seq_of_forall₂ {r : FrameRec → FrameRec → Prop} (hseq : ∀ {a b}, r a b → b.seq = a.seq) {l m : List FrameRec}
    (h : List.Forall₂ r l m) : m.map (·.seq) = l.map (·.seq) := by
  induction h with
  | nil => rfl
  | cons hab _ ih => rw [List.map_cons, List.map_cons, hseq hab, ih]

/-- An update of one frame relates the frames before and after. -/
theorem State.forall₂_updFrame {r : FrameRec → FrameRec → Prop} (hrefl : ∀ a, r a a) (seq : Nat) {f : FrameRec → FrameRec}
    (hf : ∀ a, a.seq = seq → r a (f a)) : List.Forall₂ r s.frames (s.updFrame seq f).frames := by
  change List.Forall₂ r s.frames (s.frames.map _)
  rw [List.forall₂_map_right_iff, List.forall₂_same]
  intro a _
  split
  · exact hf a ‹_›
  · exact hrefl a

/-! ### The relation -/

/-- The counters of the timeline, and what a post reads. -/
def timelineRegs : List Nat := [R.BLK_DISCARD_CNT, R.TIM_FRAME_LATE_CNT, R.TDM_LATE_CNT, R.CB_POST_CNT, R.CB_LIST_CAP]

/-- From `s` to `t` the frames stay, the timeline's counters and the clocks stand, and only sources other than the trigger unit and the
tandem raise events. -/
structure Calm (s t : State) : Prop where
  frames : List.Forall₂ FrameRec.Stays s.frames t.frames
  time : t.time = s.time
  off : t.off = s.off
  inReset : t.inReset = s.inReset
  rv : ∀ o ∈ timelineRegs, t.rv o = s.rv o
  quiet : ∀ src, src = Src.trigger ∨ src = Src.tandem →
    t.evt.raised.filter (·.source = src) = s.evt.raised.filter (·.source = src)
  raised : ∀ e ∈ s.evt.raised, e ∈ t.evt.raised

theorem State.frames_stay (l : List FrameRec) : List.Forall₂ FrameRec.Stays l l :=
  List.forall₂_same.2 fun a _ => FrameRec.Stays.refl a

theorem Calm.of_parts {s t : State} (hframes : t.frames = s.frames) (htime : t.time = s.time) (hoff : t.off = s.off)
    (hreset : t.inReset = s.inReset) (hrv : ∀ o ∈ timelineRegs, t.rv o = s.rv o) (hevt : t.evt = s.evt) : Calm s t where
  frames := by rw [hframes]; exact State.frames_stay _
  time := htime
  off := hoff
  inReset := hreset
  rv := hrv
  quiet := fun _ _ => by rw [hevt]
  raised := fun _ h => by rwa [hevt]

theorem Calm.refl : Calm s s := .of_parts rfl rfl rfl rfl (fun _ _ => rfl) rfl

theorem Calm.trans {s t u : State} (h : Calm s t) (h2 : Calm t u) : Calm s u where
  frames := forall₂_trans (r := FrameRec.Stays) (fun ha hb => ha.trans hb) h.frames h2.frames
  time := h2.time.trans h.time
  off := h2.off.trans h.off
  inReset := h2.inReset.trans h.inReset
  rv := fun o ho => (h2.rv o ho).trans (h.rv o ho)
  quiet := fun src hs => (h2.quiet src hs).trans (h.quiet src hs)
  raised := fun e he => h2.raised e (h.raised e he)

/-- A fold over calm steps is calm. -/
theorem Calm.foldl {α : Type} {f : State → α → State} {l : List α} (hf : ∀ s, ∀ a ∈ l, Calm s (f s a)) (s : State) :
    Calm s (l.foldl f s) := by
  induction l generalizing s with
  | nil => exact Calm.refl s
  | cons a l ih => exact (hf s a List.mem_cons_self).trans (ih (fun s b hb => hf s b (List.mem_cons_of_mem _ hb)) _)

theorem Calm.ite {s t u : State} {p : Prop} [Decidable p] (h : Calm s t) (h2 : Calm s u) : Calm s (if p then t else u) := by
  split
  · exact h
  · exact h2

theorem Calm.setRv {off : Nat} (v : Nat) (h : off ∉ timelineRegs) : Calm s (s.setRv off v) :=
  .of_parts rfl rfl rfl rfl (fun _ ho => s.rv_setRv_other v fun e => h (e ▸ ho)) rfl

theorem Calm.setFld {f : Fld} (v : Nat) (h : f.reg ∉ timelineRegs) : Calm s (s.setFld f v) := Calm.setRv s _ h

theorem Calm.setTdm (x : TdmSt) : Calm s (s.setTdm x) := .of_parts rfl rfl rfl rfl (fun _ _ => rfl) rfl

theorem Calm.updLink (l : Nat) (g : LinkSt → LinkSt) : Calm s (s.updLink l g) := .of_parts rfl rfl rfl rfl (fun _ _ => rfl) rfl

theorem Calm.updPush (l : Nat) (g : PushSt → PushSt) : Calm s (s.updPush l g) := .of_parts rfl rfl rfl rfl (fun _ _ => rfl) rfl

theorem Calm.updFrame (seq : Nat) {f : FrameRec → FrameRec} (hf : ∀ a, FrameRec.Stays a (f a)) : Calm s (s.updFrame seq f) where
  frames := s.forall₂_updFrame FrameRec.Stays.refl seq fun a _ => hf a
  time := rfl
  off := rfl
  inReset := rfl
  rv := fun _ _ => rfl
  quiet := fun _ _ => rfl
  raised := fun _ h => h

/-- An event is dropped, deferred, or stands behind those raised before. -/
theorem State.raise_raised (source code : Nat) (args : List Nat) : (s.raise source code args).evt.raised = s.evt.raised ∨
    ∃ e : EvtRec, e.source = source ∧ (s.raise source code args).evt.raised = s.evt.raised ++ [e] := by
  unfold State.raise State.hold State.deferCurtain State.deferGhost
  dsimp only
  repeat' split
  all_goals first
    | exact .inl rfl
    | exact .inr ⟨_, rfl, rfl⟩

theorem eventCounters_notMem_timelineRegs : ∀ o ∈ timelineRegs, o ∉ eventCounters := by decide

theorem Calm.raise {source : Nat} (code : Nat) (args : List Nat) (h : source ≠ Src.trigger ∧ source ≠ Src.tandem) :
    Calm s (s.raise source code args) where
  frames := by rw [State.raise_frames]; exact State.frames_stay _
  time := s.raise_time _ _ _
  off := s.raise_off _ _ _
  inReset := s.raise_inReset _ _ _
  rv := fun o ho => s.raise_rv_of_notMem source code args (eventCounters_notMem_timelineRegs o ho)
  quiet := fun src hsrc => by
    have hne : source ≠ src := by
      rcases hsrc with rfl | rfl
      · exact h.1
      · exact h.2
    rcases s.raise_raised source code args with hr | ⟨e, he, hr⟩
    · rw [hr]
    · rw [hr, List.filter_append, List.filter_singleton]
      simp [he, hne]
  raised := fun e he => s.raise_keeps source code args he

theorem Calm.evtUp {s t : State} (h : Calm s t) : t.evtUp = s.evtUp := by
  unfold State.evtUp State.powered
  rw [h.off, h.inReset, h.time]

theorem Calm.hasRoom {s t : State} (h : Calm s t) {src : Nat} (hs : src = Src.trigger ∨ src = Src.tandem) :
    t.hasRoom src = s.hasRoom src := by
  unfold State.hasRoom
  rw [h.quiet src hs]

theorem Calm.fld {s t : State} (h : Calm s t) {f : Fld} (hf : f.reg ∈ timelineRegs) : t.fld f = s.fld f := by
  unfold State.fld
  rw [h.rv _ hf]

end Sys2Proof.Machine
end

section
/-! SUPPORT. Each operation of a send deadline, by the relation above: passes and their windows, `GO`s, digests and resynchronisation
(R94 to R96, R174, R183, R347, R350). -/

namespace Sys2Proof.Machine

variable (s : State)

/-! ### Passes and windows (R174, R183) -/

theorem Calm.bump {f : Fld} (h : f.reg ∉ timelineRegs) : Calm s (s.bump f) := Calm.setFld s _ h

/-- A window's registers lie apart from the timeline's. -/
theorem sptIncompleteCnt_notMem {w : Nat} (h : w < 48) : R.SPT_INCOMPLETE_CNT w ∉ timelineRegs := by
  simp [timelineRegs, R.SPT_INCOMPLETE_CNT, R.BLK_DISCARD_CNT, R.TIM_FRAME_LATE_CNT, R.TDM_LATE_CNT, R.CB_POST_CNT, R.CB_LIST_CAP]
  omega

theorem sptStatus_notMem (w : Nat) : R.SPT_STATUS w ∉ timelineRegs := by
  simp [timelineRegs, R.SPT_STATUS, R.BLK_DISCARD_CNT, R.TIM_FRAME_LATE_CNT, R.TDM_LATE_CNT, R.CB_POST_CNT, R.CB_LIST_CAP]
  omega

theorem pshState_notMem (l : Nat) : R.PSH_STATE l ∉ timelineRegs := by
  simp [timelineRegs, R.PSH_STATE, R.BLK_DISCARD_CNT, R.TIM_FRAME_LATE_CNT, R.TDM_LATE_CNT, R.CB_POST_CNT, R.CB_LIST_CAP]
  omega

theorem clClaim_notMem (l : Nat) : R.CL_CLAIM l ∉ timelineRegs := by
  simp [timelineRegs, R.CL_CLAIM, R.BLK_DISCARD_CNT, R.TIM_FRAME_LATE_CNT, R.TDM_LATE_CNT, R.CB_POST_CNT, R.CB_LIST_CAP]
  omega

theorem clTxFrameCnt_notMem (l : Nat) : R.CL_TX_FRAME_CNT l ∉ timelineRegs := by
  simp [timelineRegs, R.CL_TX_FRAME_CNT, R.BLK_DISCARD_CNT, R.TIM_FRAME_LATE_CNT, R.TDM_LATE_CNT, R.CB_POST_CNT, R.CB_LIST_CAP]
  omega

theorem Calm.spotLost {w : Nat} (h : w < 48) : Calm s (s.spotLost w) := by
  have hset : Calm s (s.setRv R.SPT_INCOMPLETE (s.rv R.SPT_INCOMPLETE ||| 2 ^ w)) := Calm.setRv s _ (by decide)
  exact (hset.trans (Calm.bump _ (f := F.SPT_INCOMPLETE_CNT.COUNT w) (sptIncompleteCnt_notMem h))).trans
    (Calm.raise _ E.SPOT_INCOMPLETE [] (by decide))

theorem Calm.neverBegun (seq : Nat) : Calm s (s.neverBegun seq) := by
  unfold State.neverBegun
  split
  · exact Calm.refl s
  · refine Calm.foldl (fun t l _ => Calm.foldl (fun t w hw => Calm.spotLost t ?_) t) s
    exact of_decide_eq_true (List.mem_filter.1 hw).2

theorem Calm.passEnds (l : Nat) (ok : Bool) : Calm s (s.passEnds l ok) := by
  have hidle : Calm s ((s.updPush l (fun p => { p with pass := none })).setFld (F.PSH_STATE.PHASE l) phIdle) :=
    (Calm.updPush s l _).trans (Calm.setFld _ _ (pshState_notMem l))
  exact (hidle.trans (Calm.setFld _ (f := F.PSH_STATE.LAST_OK l) _ (pshState_notMem l))).trans
    (Calm.setFld _ (f := F.CL_CLAIM.OWN l) _ (clClaim_notMem l))

theorem Calm.abandonPass (l : Nat) : Calm s (s.abandonPass l) := by
  unfold State.abandonPass
  split
  · exact Calm.refl s
  · refine Calm.trans ?_ (Calm.passEnds _ l false)
    split
    · exact Calm.refl s
    · refine (Calm.foldl (fun t w hw => Calm.spotLost t ?_) s).trans (Calm.updFrame _ _ fun a => ⟨rfl, id, id, rfl⟩)
      split at hw
      · exact of_decide_eq_true (Bool.and_eq_true_iff.1 (List.mem_filter.1 hw).2).1
      · cases hw

theorem Calm.noteDroppedSpots (f : FrameRec) (links : List Nat) : Calm s (s.noteDroppedSpots f links) := by
  refine Calm.foldl (fun t w _ => ?_) s
  exact Calm.ite (Calm.setFld t (f := F.SPT_STATUS.DROPPED w) _ (sptStatus_notMem w)) (Calm.refl t)

/-! ### `GO` (R94, R247) -/

theorem Calm.txFrame (l type : Nat) (payload : List Byte) : Calm s (s.txFrame l type payload) := by
  unfold State.txFrame
  refine Calm.ite (Calm.refl s) ?_
  have hsent : Calm s (s.sendFrame l type (s.claimOn l) (s.link l).txSeq payload) :=
    .of_parts rfl rfl rfl rfl (fun _ _ => rfl) rfl
  exact (hsent.trans (Calm.updLink _ l _)).trans (Calm.bump _ (f := F.CL_TX_FRAME_CNT.COUNT l) (clTxFrameCnt_notMem l))

theorem Calm.sendGo (l : Nat) (f : FrameRec) : Calm s (s.sendGo l f) :=
  (Calm.txFrame s l _ _).trans (Calm.updFrame _ _ fun _ => ⟨rfl, id, id, rfl⟩)

/-! ### Mirrored operations and resynchronisation (R333, R335, R347) -/

theorem Calm.mirrorOp (ring : Nat) (desc : List Byte) (result : Nat) (data : List Byte) (src : Option (Nat × Nat × Nat)) (copy : Bool) :
    Calm s (s.mirrorOp ring desc result data src copy) :=
  Calm.foldl (fun t _ _ => (Calm.setTdm t _).trans (Calm.bump _ (f := F.TDM_MIRROR_CNT.COUNT) (by decide))) s

theorem Calm.mirrorTable (ring : Nat) (c : CfgTab) : Calm s (s.mirrorTable ring c) :=
  Calm.foldl (fun t _ _ => Calm.mirrorOp t _ _ _ _ _ _) s

theorem Calm.mirrorObjects : Calm s s.mirrorObjects := Calm.foldl (fun t _ _ => Calm.mirrorOp t _ _ _ _ _ _) s

theorem Calm.setPair (p : Nat) : Calm s (s.setPair p) := Calm.setFld s (f := F.TDM_STATE.PAIR) _ (by decide)

theorem Calm.startResync : Calm s s.startResync := by
  have hpair : Calm s ((s.setPair pairSyncing).setTdm
      { tdmReset with streaming := true, told := s.tdm.told, toldMismatch := s.tdm.toldMismatch, turn := s.tdm.turn }) :=
    (Calm.setPair s _).trans (Calm.setTdm _ _)
  have hlamps : ∀ t : State, Calm t { t with fix := { t.fix with lampDue := [] } } := fun t =>
    .of_parts rfl rfl rfl rfl (fun _ _ => rfl) rfl
  have hrecords : ∀ t : State, Calm t (((t.mirrorTable ringApplied t.cfgApp).mirrorTable ringAccepted t.cfgAcc).mirrorObjects) := fun t =>
    ((Calm.mirrorTable t _ _).trans (Calm.mirrorTable _ _ _)).trans (Calm.mirrorObjects _)
  exact (((hpair.trans (hlamps _)).trans (Calm.setTdm _ _)).trans (hrecords _)).trans (Calm.setTdm _ _)

/-! ### Digests (R350) -/

theorem Calm.compareDigests (own partner : Nat) : Calm s (s.compareDigests own partner) := by
  unfold State.compareDigests
  refine (Calm.setRv s (off := R.TDM_DIGEST) (own + partner * 2 ^ 32) (by decide)).trans ?_
  have hflag : ∀ (t : State) (v : Nat), Calm t (t.setFld F.TDM_STATE.DIVERGED v) := fun t v => Calm.setFld t v (by decide)
  refine Calm.ite ((hflag _ _).trans (Calm.setTdm _ _)) ?_
  have hdiverged : ∀ t : State, Calm t ((t.setFld F.TDM_STATE.DIVERGED 1).bump F.TDM_DIVERGE_CNT.COUNT) := fun t =>
    (hflag t 1).trans (Calm.bump _ (by decide))
  refine (hdiverged _).trans (Calm.ite (Calm.setTdm _ _) (Calm.ite (Calm.refl _) (Calm.ite ?_ (Calm.setTdm _ _))))
  exact (hflag _ 0).trans (Calm.startResync _)

theorem Calm.digestKnown (f : FrameRec) : Calm s (s.digestKnown f) := by
  unfold State.digestKnown
  refine Calm.ite ((Calm.setFld s (f := F.TDM_DIGEST.OWN) _ (by decide)).trans (Calm.setTdm _ _)) (Calm.ite ?_ (Calm.refl s))
  split
  · exact (Calm.setTdm s _).trans (Calm.ite (Calm.refl _) (Calm.compareDigests _ _ _))
  · exact Calm.setTdm s _

/-! ### Discarded items (R127, R218) -/

/-- A frame that was abandoned has no barrier: moving it on changes its phase at most. -/
theorem Calm.advanceFrame {seq : Nat} (h : ∀ f, s.frame? seq = some f → f.abandoned = true) : Calm s (s.advanceFrame seq) := by
  have hphase : ∀ v, Calm s (s.updFrame seq (fun f => { f with phase := v })) := fun v =>
    Calm.updFrame s seq fun _ => ⟨rfl, id, id, rfl⟩
  unfold State.advanceFrame State.advancePhase
  split
  case h_1 => exact Calm.refl s
  case h_2 f hf =>
    have haband := h f hf
    by_cases hearly : f.phase = 1 ∨ f.phase = 2
    · simp only [haband, hearly, and_self, if_true]
      exact hphase 5
    · obtain ⟨h1, h2⟩ := not_or.1 hearly
      simp only [haband, h1, h2, or_self, and_false, false_and, if_false, Bool.not_true, Bool.and_false, Bool.false_eq_true]
      exact Calm.ite (hphase 5) (Calm.refl s)

/-! ### The relation without counters: what clause by clause is left of the frames -/

/-- A frame's record keeps its number, and its send deadline once past. -/
def FrameRec.Follows (a b : FrameRec) : Prop := b.seq = a.seq ∧ (a.sendPassed = true → b.sendPassed = true)

theorem FrameRec.Follows.trans {a b c : FrameRec} (h : a.Follows b) (h2 : b.Follows c) : a.Follows c :=
  ⟨h2.1.trans h.1, h2.2 ∘ h.2⟩

/-- From `s` to `t` every frame has followed. -/
def FramesFollow (s t : State) : Prop := List.Forall₂ FrameRec.Follows s.frames t.frames

theorem FramesFollow.trans {s t u : State} (h : FramesFollow s t) (h2 : FramesFollow t u) : FramesFollow s u :=
  forall₂_trans (r := FrameRec.Follows) (fun ha hb => ha.trans hb) h h2

theorem FramesFollow.refl : FramesFollow s s := List.forall₂_same.2 fun _ _ => ⟨rfl, id⟩

theorem Calm.follows {s t : State} (h : Calm s t) : FramesFollow s t :=
  h.frames.imp fun _ _ hab => ⟨hab.1, hab.2.1⟩

theorem FramesFollow.updFrame (seq : Nat) {f : FrameRec → FrameRec} (hf : ∀ a, FrameRec.Follows a (f a)) :
    FramesFollow s (s.updFrame seq f) :=
  s.forall₂_updFrame (r := FrameRec.Follows) (fun _ => ⟨rfl, id⟩) seq fun a _ => hf a

theorem FramesFollow.ite {s t u : State} {p : Prop} [Decidable p] (h : FramesFollow s t) (h2 : FramesFollow s u) :
    FramesFollow s (if p then t else u) := by
  split
  · exact h
  · exact h2

end Sys2Proof.Machine
end

section
/-! SUPPORT. The send deadline of a frame: what comes before the items are discarded, the discard, and the telling (R94 to R96, R127). -/

namespace Sys2Proof.Machine

variable (s : State)

/-! ### Frames found after an update -/

/-- What is found under a frame's own number is what the update made of it. -/
theorem State.frame_updFrame {seq : Nat} {f : FrameRec → FrameRec} (hf : ∀ a, (f a).seq = a.seq) :
    (s.updFrame seq f).frame? seq = (s.frame? seq).map f := by
  change (s.frames.map (fun x => if x.seq = seq then f x else x)).find? (·.seq = seq) = (s.frames.find? (·.seq = seq)).map f
  induction s.frames with
  | nil => rfl
  | cons a l ih =>
    by_cases ha : a.seq = seq
    · rw [List.map_cons, if_pos ha, List.find?_cons_of_pos (by simpa [hf] using ha), List.find?_cons_of_pos (by simpa using ha)]
      rfl
    · rw [List.map_cons, if_neg ha, List.find?_cons_of_neg (by simpa using ha), List.find?_cons_of_neg (by simpa using ha), ih]

theorem State.frame_isSome {f : FrameRec} (h : f ∈ s.frames) : ∃ g, s.frame? f.seq = some g :=
  Option.isSome_iff_exists.1 (List.find?_isSome.2 ⟨f, h, decide_eq_true rfl⟩)

theorem State.frame_of_frames {s t : State} (h : t.frames = s.frames) (seq : Nat) : t.frame? seq = s.frame? seq := by
  unfold State.frame?; rw [h]

theorem Calm.frame_any {s t : State} (h : Calm s t) {p : FrameRec → Bool} (hp : ∀ {a b}, FrameRec.Stays a b → p a = true → p b = true)
    {seq : Nat} (hs : (s.frame? seq).any p = true) : (t.frame? seq).any p = true :=
  any_find_of_forall₂ (r := FrameRec.Stays) (fun hab => hab.1) hp h.frames seq hs

/-! ### The parts of a send deadline -/

/-- Links that a frame is counted on. -/
def State.countedLinks (s : State) (f : FrameRec) : List Nat := (List.range 64).filter (fun l => s.counted f l)

/-- The frame's send deadline is past. -/
def State.markSent (s : State) (seq : Nat) : State := s.updFrame seq (fun f => { f with sendPassed := true })

/-- Passes still under way at a send deadline end, and `DROP_ALL` sends every `GO`. -/
def State.deadlinePasses (s : State) (f : FrameRec) (links : List Nat) : State :=
  let s := (List.range 64).foldl (fun s l => match s.passOf l with
    | some p => if p.frame = f.seq then s.abandonPass l else s
    | none => s) (s.neverBegun f.seq)
  if Tm.dropAll (f.cfg.entry tTiming 0) && links.all (fun l => f.finished.contains l) then
    links.foldl (fun s l => if f.goSent.contains l then s else s.sendGo l f) s else s

/-- A dropped frame is told late on the links that have no `GO`, and its digest is known. -/
def State.deadlineTold (s : State) (f g : FrameRec) (links : List Nat) : State :=
  let out := links.filter (fun l => !g.goSent.contains l)
  let s := s.noteLate f.seq out g.abandoned
  let s := if out.isEmpty then s else s.noteDroppedSpots g out
  s.digestKnown g

/-- A send deadline up to the telling. -/
def State.deadlineDiscards (s : State) (f : FrameRec) : State :=
  ((s.markSent f.seq).deadlinePasses f (s.countedLinks f)).discardItems f

theorem State.sendDeadline_eq {f : FrameRec} (h : s.frames.find? (fun g => !g.sendPassed) = some f) :
    s.sendDeadline = match (s.deadlineDiscards f).frame? f.seq with
      | none => s.deadlineDiscards f
      | some g => (s.deadlineDiscards f).deadlineTold f g (s.countedLinks f) := by
  unfold State.sendDeadline
  rw [h]
  rfl

theorem Calm.markSent (seq : Nat) : Calm s (s.markSent seq) := Calm.updFrame s seq fun _ => ⟨rfl, fun _ => rfl, id, rfl⟩

theorem State.markSent_sendPassed {f : FrameRec} (h : f ∈ s.frames) : ((s.markSent f.seq).frame? f.seq).any (·.sendPassed) = true := by
  obtain ⟨g, hg⟩ := s.frame_isSome h
  unfold State.markSent
  rw [State.frame_updFrame, hg]
  · rfl
  · exact fun _ => rfl

theorem Calm.deadlinePasses (f : FrameRec) (links : List Nat) : Calm s (s.deadlinePasses f links) := by
  have hpasses : Calm s ((List.range 64).foldl (fun s l => match s.passOf l with
      | some p => if p.frame = f.seq then s.abandonPass l else s
      | none => s) (s.neverBegun f.seq)) := by
    refine (Calm.neverBegun s _).trans (Calm.foldl (fun u l _ => ?_) _)
    split
    · exact Calm.ite (Calm.abandonPass u l) (Calm.refl u)
    · exact Calm.refl u
  refine hpasses.trans (Calm.ite (Calm.foldl (fun u l _ => ?_) _) (Calm.refl _))
  exact Calm.ite (Calm.refl u) (Calm.sendGo u l f)

/-! ### Discarded items (R127) -/

/-- The number of a frame's items with unposted calls. -/
def FrameRec.unposted (f : FrameRec) : Nat := (f.plan.filter Item.unposted).length

/-- Stalled posts of a frame's items are withdrawn. -/
def State.withdrawStalled (s : State) (seq : Nat) : State :=
  { s with cb := { s.cb with stalled := s.cb.stalled.filter (fun x =>
      !(x.producer == Producer.blocking && x.word.frame == seq && x.word.kind != kCalCompile)) } }

/-- A frame's record with its unposted items discarded. -/
def FrameRec.discard (n : Nat) (g : FrameRec) : FrameRec :=
  { g with plan := g.plan.map (fun i =>
      if i.unposted then { i with p1 := if i.p1 = 0 then 3 else i.p1, p2 := if i.render then i.p2 else 3 } else i)
           abandoned := g.abandoned || decide (0 < n) || !g.planned }

/-- The discard of a frame's unposted items: they are counted. -/
def State.discardCounted (s : State) (f : FrameRec) : State :=
  (s.withdrawStalled f.seq).bumpBy F.BLK_DISCARD_CNT.COUNT f.unposted

/-- The discard of a frame's unposted items: the record changes, and the frame moves on. -/
def State.discardFrame (s : State) (f : FrameRec) : State :=
  let t := s.updFrame f.seq (FrameRec.discard f.unposted)
  if 0 < f.unposted then t.advanceFrame f.seq else t

theorem State.discardItems_eq (f : FrameRec) (h : f.phase ≠ 4) : s.discardItems f = (s.discardCounted f).discardFrame f := by
  unfold State.discardItems
  rw [if_neg h]
  rfl

/-- After the discard of at least one item the frame is abandoned. -/
theorem State.frame_discard {n : Nat} (h : 0 < n) (seq : Nat) (f : FrameRec)
    (hf : (s.updFrame seq (FrameRec.discard n)).frame? seq = some f) : f.abandoned = true := by
  have hfound : (s.updFrame seq (FrameRec.discard n)).frame? seq = (s.frame? seq).map (FrameRec.discard n) :=
    s.frame_updFrame fun _ => rfl
  rw [hfound] at hf
  obtain ⟨g, -, rfl⟩ := Option.map_eq_some_iff.1 hf
  simp [FrameRec.discard, h]

theorem Calm.withdrawStalled (seq : Nat) : Calm s (s.withdrawStalled seq) := .of_parts rfl rfl rfl rfl (fun _ _ => rfl) rfl

theorem Calm.discard (seq n : Nat) : Calm s (s.updFrame seq (FrameRec.discard n)) :=
  Calm.updFrame s seq fun a => ⟨rfl, id, fun h => by simp [FrameRec.discard, h], rfl⟩

/-- Apart from the count, a discard is calm. -/
theorem Calm.discardFrame (f : FrameRec) : Calm s (s.discardFrame f) := by
  unfold State.discardFrame
  refine (Calm.discard s f.seq f.unposted).trans ?_
  split
  · exact Calm.advanceFrame _ (s.frame_discard ‹_› f.seq)
  · exact Calm.refl _

theorem State.follows_discardItems (f : FrameRec) : FramesFollow s (s.discardItems f) := by
  by_cases h : f.phase = 4
  · unfold State.discardItems
    rw [if_pos h]
    exact FramesFollow.refl s
  · rw [s.discardItems_eq f h]
    exact (Calm.discardFrame (s.discardCounted f) f).follows

/-! ### Late frames (R96) -/

theorem State.follows_noteLate (seq : Nat) (links : List Nat) (incomplete : Bool) : FramesFollow s (s.noteLate seq links incomplete) := by
  have hdropped : ∀ all, FramesFollow s (s.updFrame seq (fun f => { f with dropped := all })) := fun all =>
    FramesFollow.updFrame s seq fun _ => ⟨rfl, id⟩
  have hlate : ∀ t : State, FramesFollow t (t.updFrame seq (fun f => { f with late := true })) := fun t =>
    FramesFollow.updFrame t seq fun _ => ⟨rfl, id⟩
  have htold : ∀ (t : State) code args, FramesFollow t ((t.bump F.TIM_FRAME_LATE_CNT.COUNT).raise Src.trigger code args) := fun t code args => by
    unfold FramesFollow
    rw [State.raise_frames]
    exact FramesFollow.refl t
  unfold State.noteLate
  split
  · exact FramesFollow.refl s
  · refine (hdropped _).trans (FramesFollow.ite (FramesFollow.refl _) ?_)
    refine FramesFollow.trans ?_ ((hlate _).trans (htold _ _ _))
    exact FramesFollow.ite (FramesFollow.refl _) (FramesFollow.refl _)

theorem State.follows_deadlineTold (f g : FrameRec) (links : List Nat) : FramesFollow s (s.deadlineTold f g links) := by
  unfold State.deadlineTold
  refine (s.follows_noteLate f.seq (links.filter (fun l => !g.goSent.contains l)) g.abandoned).trans
    (FramesFollow.trans ?_ (Calm.digestKnown _ g).follows)
  exact FramesFollow.ite (FramesFollow.refl _) (Calm.noteDroppedSpots _ _ _).follows

theorem State.follows_deadlineDiscards (f : FrameRec) : FramesFollow (s.markSent f.seq) (s.deadlineDiscards f) :=
  (Calm.deadlinePasses _ _ _).follows.trans (State.follows_discardItems _ f)

/-- From the mark on, the frames follow. -/
theorem State.follows_sendDeadline {f : FrameRec} (h : s.frames.find? (fun g => !g.sendPassed) = some f) :
    FramesFollow (s.markSent f.seq) s.sendDeadline := by
  rw [s.sendDeadline_eq h]
  split
  · exact s.follows_deadlineDiscards f
  · exact (s.follows_deadlineDiscards f).trans (State.follows_deadlineTold _ _ _ _)

/-- A send deadline marks the oldest frame that has not reached it, and keeps the numbers of all. -/
theorem State.sendDeadline_marks {f : FrameRec} (h : s.frames.find? (fun g => !g.sendPassed) = some f) :
    (s.sendDeadline.frame? f.seq).any (·.sendPassed) = true ∧ s.sendDeadline.frames.map (·.seq) = s.frames.map (·.seq) := by
  have hfollow := s.follows_sendDeadline h
  refine ⟨any_find_of_forall₂ (fun hab => hab.1) (fun hab => hab.2) hfollow f.seq (s.markSent_sendPassed (List.mem_of_find?_eq_some h)), ?_⟩
  have hseq := map_seq_of_forall₂ (fun hab => hab.1) hfollow
  rw [hseq]
  exact map_seq_of_forall₂ (fun hab => hab.1) (Calm.markSent s f.seq).frames

/-! ### A frame whose items were not all posted -/

/-- An event that is raised stands among the events, with its source, its code and the house clock. -/
theorem State.raise_event (source code : Nat) (args : List Nat) (hu : s.evtUp = true) (hr : s.hasRoom source = true) {house : Nat}
    (hh : s.time.house = house) :
    ∃ e ∈ (s.raise source code args).evt.raised, e.source = source ∧ e.code = code ∧ e.house = house := by
  rw [s.raise_room source code args hu hr]
  exact ⟨_, List.mem_append_right _ (List.mem_singleton_self _), rfl, rfl, hh⟩

/-- A frame not told late before is told: its record, the count, the event, and what else stands. -/
structure TellsLate (s t : State) (seq : Nat) : Prop where
  frame : ∃ f g, s.frame? seq = some f ∧ t.frame? seq = some g ∧ g.abandoned = f.abandoned ∧ g.late = true
  count : Counts s t F.TIM_FRAME_LATE_CNT.COUNT 1
  rest : ∀ o, o ≠ R.TIM_FRAME_LATE_CNT → t.rv o = s.rv o
  event : ∃ e ∈ t.evt.raised, e.source = Src.trigger ∧ e.code = E.FRAME_LATE ∧ e.house = s.time.house

/-- The event of a late frame, behind its count. -/
theorem State.tellsLate_of {s t : State} {seq : Nat} {f : FrameRec} (args : List Nat) (hregs : t.regs = s.regs) (hevt : t.evt = s.evt)
    (htime : t.time = s.time) (hu : t.evtUp = true) (hr : s.hasRoom Src.trigger = true) (hs : s.frame? seq = some f)
    (ht : (t.frame? seq).map (fun g => (g.abandoned, g.late)) = some (f.abandoned, true)) :
    TellsLate s ((t.bump F.TIM_FRAME_LATE_CNT.COUNT).raise Src.trigger E.FRAME_LATE args) seq := by
  have hroom : (t.bump F.TIM_FRAME_LATE_CNT.COUNT).hasRoom Src.trigger = true := by
    rw [State.hasRoom_of_evt (s := s) ((t.bump_evt _).trans hevt)]; exact hr
  have hsame : ((t.bump F.TIM_FRAME_LATE_CNT.COUNT).raise Src.trigger E.FRAME_LATE args).regs = (t.bump F.TIM_FRAME_LATE_CNT.COUNT).regs :=
    State.raise_regs _ _ _ _ hu hroom
  constructor
  case frame =>
    obtain ⟨g, hg, hgs⟩ := Option.map_eq_some_iff.1 ht
    obtain ⟨haband, hlate⟩ := Prod.ext_iff.1 hgs
    refine ⟨f, g, hs, ?_, haband, hlate⟩
    exact (State.frame_of_frames ((State.raise_frames _ _ _ _).trans (t.bump_frames _)) seq).trans hg
  case count =>
    unfold Counts
    rw [State.fld_eq_of_regs hsame, ← State.fld_eq_of_regs hregs]
    exact State.fld_setFld_same _ F.TIM_FRAME_LATE_CNT.COUNT _ (by decide)
  case rest =>
    intro o ho
    rw [State.rv_eq_of_regs hsame, ← State.rv_eq_of_regs hregs]
    exact State.rv_setFld_other _ _ ho
  case event =>
    exact (t.bump F.TIM_FRAME_LATE_CNT.COUNT).raise_event Src.trigger E.FRAME_LATE args hu hroom (by rw [State.bump_time, htime])

/-- A frame with discarded items, not told late before, is told late. -/
theorem State.noteLate_tells {seq : Nat} {f : FrameRec} (links : List Nat) (hf : s.frame? seq = some f) (hlate : f.late = false)
    (hu : s.evtUp = true) (hr : s.hasRoom Src.trigger = true) : TellsLate s (s.noteLate seq links true) seq := by
  unfold State.noteLate
  rw [hf]
  simp only [hlate, Bool.not_true, Bool.and_false, Bool.or_self, Bool.false_eq_true, if_false]
  have hmap : ∀ t : State, t.frame? seq = some { f with dropped := links.foldl (fun l n => insertAsc n l) f.dropped } →
      ((t.updFrame seq (fun f => { f with late := true })).frame? seq).map (fun g => (g.abandoned, g.late)) = some (f.abandoned, true) := by
    intro t ht
    rw [State.frame_updFrame, ht]
    · rfl
    · exact fun _ => rfl
  have hdropped : (s.updFrame seq (fun g => { g with dropped := links.foldl (fun l n => insertAsc n l) f.dropped })).frame? seq =
      some { f with dropped := links.foldl (fun l n => insertAsc n l) f.dropped } := by
    rw [State.frame_updFrame, hf]
    · rfl
    · exact fun _ => rfl
  split
  · exact State.tellsLate_of _ rfl rfl rfl hu hr hf (hmap _ hdropped)
  · exact State.tellsLate_of _ rfl rfl rfl hu hr hf (hmap _ hdropped)

theorem State.evtUp_discardCounted (f : FrameRec) : (s.discardCounted f).evtUp = s.evtUp := rfl

theorem State.hasRoom_discardCounted (f : FrameRec) (src : Nat) : (s.discardCounted f).hasRoom src = s.hasRoom src := rfl

theorem State.rv_discardCounted (f : FrameRec) {o : Nat} (h : o ≠ R.BLK_DISCARD_CNT) : (s.discardCounted f).rv o = s.rv o :=
  State.rv_setFld_other (s.withdrawStalled f.seq) _ h

theorem State.counts_discardCounted (f : FrameRec) : Counts s (s.discardCounted f) F.BLK_DISCARD_CNT.COUNT f.unposted :=
  State.fld_setFld_same (s.withdrawStalled f.seq) F.BLK_DISCARD_CNT.COUNT _ (by decide)

/-- A frame with discarded items is abandoned, and late if it was. -/
theorem State.discarded_frame {f : FrameRec} (h : 0 < f.unposted) (hf : (s.frame? f.seq).any (!·.late) = true) :
    ((s.discardFrame f).frame? f.seq).any (fun g => g.abandoned && !g.late) = true := by
  unfold State.discardFrame
  dsimp only
  rw [if_pos h]
  refine (Calm.advanceFrame _ (s.frame_discard h f.seq)).frame_any ?_ ?_
  · rintro a b ⟨-, -, haband, hlate⟩ hab
    simp only [Bool.and_eq_true] at hab ⊢
    exact ⟨haband hab.1, hlate ▸ hab.2⟩
  · obtain ⟨g, hg, hlate⟩ := (Option.any_eq_true _ _).1 hf
    have hfound : (s.updFrame f.seq (FrameRec.discard f.unposted)).frame? f.seq = (s.frame? f.seq).map (FrameRec.discard f.unposted) :=
      s.frame_updFrame fun _ => rfl
    rw [hfound, hg]
    simpa [FrameRec.discard, h] using hlate

/-- What follows the telling of a late frame is calm. -/
theorem Calm.deadlineTold (f g : FrameRec) (links : List Nat) :
    Calm (s.noteLate f.seq (links.filter (fun l => !g.goSent.contains l)) g.abandoned) (s.deadlineTold f g links) := by
  unfold State.deadlineTold
  exact (Calm.ite (Calm.refl _) (Calm.noteDroppedSpots _ _ _)).trans (Calm.digestKnown _ g)

/-- A frame whose items were not all posted, as a send deadline finds it: not past its send deadline, not complete, not told late. -/
def FrameRec.Incomplete (f : FrameRec) : Prop := f.sendPassed = false ∧ f.phase < 4 ∧ f.late = false ∧ 0 < f.unposted

/-- From `s` to `t` the unposted items of a frame have been discarded and counted; nothing is told yet. -/
structure Discards (s t : State) (f : FrameRec) : Prop where
  frame : (t.frame? f.seq).any (fun g => g.abandoned && !g.late) = true
  count : Counts s t F.BLK_DISCARD_CNT.COUNT f.unposted
  lateCount : t.fld F.TIM_FRAME_LATE_CNT.COUNT = s.fld F.TIM_FRAME_LATE_CNT.COUNT
  up : t.evtUp = s.evtUp
  room : t.hasRoom Src.trigger = s.hasRoom Src.trigger
  time : t.time = s.time

theorem State.deadlineDiscards_discards {f : FrameRec} (hframes : s.frames = [f]) (hf : f.Incomplete) :
    Discards s (s.deadlineDiscards f) f := by
  obtain ⟨-, hphase, hlate, hitems⟩ := hf
  have hcalm : Calm s ((s.markSent f.seq).deadlinePasses f (s.countedLinks f)) := (Calm.markSent s f.seq).trans (Calm.deadlinePasses _ _ _)
  have hdiscards : s.deadlineDiscards f = (State.discardCounted ((s.markSent f.seq).deadlinePasses f (s.countedLinks f)) f).discardFrame f :=
    State.discardItems_eq _ f (by omega)
  rw [hdiscards]
  generalize (s.markSent f.seq).deadlinePasses f (s.countedLinks f) = a at hcalm
  have hmoved := Calm.discardFrame (a.discardCounted f) f
  constructor
  case frame =>
    refine (a.discardCounted f).discarded_frame hitems ?_
    exact hcalm.frame_any (p := (!·.late)) (fun ⟨_, _, _, hkept⟩ h => by rw [hkept]; exact h) (by simp [State.frame?, hframes, hlate])
  case count =>
    unfold Counts
    rw [hmoved.fld (by decide), ← hcalm.fld (by decide)]
    exact a.counts_discardCounted f
  case lateCount =>
    rw [hmoved.fld (by decide), ← hcalm.fld (by decide)]
    unfold State.fld
    rw [a.rv_discardCounted f (by decide)]
  case up => rw [hmoved.evtUp, a.evtUp_discardCounted, hcalm.evtUp]
  case room => rw [hmoved.hasRoom (.inl rfl), a.hasRoom_discardCounted, hcalm.hasRoom (.inl rfl)]
  case time => exact hmoved.time.trans hcalm.time

/-- What a send deadline leaves of a frame whose items were not all posted. -/
theorem State.sendDeadline_discards {f : FrameRec} (hu : s.evtUp = true) (hframes : s.frames = [f]) (hf : f.Incomplete)
    (hr : s.hasRoom Src.trigger = true) :
    (s.sendDeadline.frame? f.seq).any (fun g => g.abandoned && g.late) = true ∧
      Counts s s.sendDeadline F.BLK_DISCARD_CNT.COUNT f.unposted ∧ Counts s s.sendDeadline F.TIM_FRAME_LATE_CNT.COUNT 1 ∧
      ∃ e ∈ s.sendDeadline.evt.raised, e.source = Src.trigger ∧ e.code = E.FRAME_LATE ∧ e.house = s.time.house := by
  have hsend := s.sendDeadline_eq (f := f) (by simp [hframes, hf.1])
  obtain ⟨hframe, hcount, hlateCount, hup, hroom, htime⟩ := s.deadlineDiscards_discards hframes hf
  generalize s.deadlineDiscards f = c at hsend hframe hcount hlateCount hup hroom htime
  obtain ⟨g, hg, hgl⟩ := (Option.any_eq_true _ _).1 hframe
  obtain ⟨haband, hglate⟩ := Bool.and_eq_true_iff.1 hgl
  have htells := c.noteLate_tells ((s.countedLinks f).filter (fun l => !g.goSent.contains l)) hg (by simpa using hglate)
    (hup.trans hu) (hroom.trans hr)
  have htold := Calm.deadlineTold c f g (s.countedLinks f)
  simp only [hg] at hsend
  rw [← hsend, haband] at htold
  generalize s.sendDeadline = t at htold ⊢
  generalize c.noteLate f.seq _ true = d at htells htold
  obtain ⟨⟨g1, g2, hg1, hg2, hab2, hlate2⟩, hlateOne, hrest, e, he, hsource, hcode, hhouse⟩ := htells
  cases hg.symm.trans hg1
  refine ⟨htold.frame_any ?_ ?_, ?_, ?_, e, htold.raised e he, hsource, hcode, htime ▸ hhouse⟩
  · rintro x y ⟨-, -, hxy, hl⟩ hx
    simp only [Bool.and_eq_true] at hx ⊢
    exact ⟨hxy hx.1, hl ▸ hx.2⟩
  · rw [hg2]
    simp [hab2, haband, hlate2]
  · unfold Counts at hcount ⊢
    rw [htold.fld (by decide), ← hcount]
    unfold State.fld
    rw [hrest _ (by decide)]
  · unfold Counts at hlateOne ⊢
    rw [htold.fld (by decide), hlateOne, hlateCount]

end Sys2Proof.Machine
end

section
/-! SUPPORT. The presentation of a frame: what its end leaves alone (R42, R89, R96, R140). -/

namespace Sys2Proof.Machine

variable (s : State)

/-! ### What follows the number of a presented frame -/

/-- From `s` to `t` only the clocks, the fixture and metering units, the ports and memory in use may have changed: what a frame's end
reaches beside its record. -/
def EndFrame (s t : State) : Prop :=
  t = { s with time := t.time, fix := t.fix, mtr := t.mtr, sig := t.sig, mem := t.mem, blk := t.blk, obj := t.obj, fly := t.fly, cmp := t.cmp }

theorem EndFrame.refl : EndFrame s s := rfl

theorem EndFrame.trans {s t u : State} (h : EndFrame s t) (h2 : EndFrame t u) : EndFrame s u := by
  unfold EndFrame at h h2 ⊢
  rw [h] at h2
  exact h2

theorem EndFrame.foldl {α : Type} (f : State → α → State) (hf : ∀ s a, EndFrame s (f s a)) (l : List α) (s : State) :
    EndFrame s (l.foldl f s) := by
  induction l generalizing s with
  | nil => exact rfl
  | cons a l ih => exact (hf s a).trans (ih _)

theorem EndFrame.ite {s t u : State} {p : Prop} [Decidable p] (h : EndFrame s t) (h2 : EndFrame s u) :
    EndFrame s (if p then t else u) := by
  split
  · exact h
  · exact h2

theorem EndFrame.host {s t : State} (h : EndFrame s t) : t.host = s.host := by rw [h]
theorem EndFrame.regs {s t : State} (h : EndFrame s t) : t.regs = s.regs := by rw [h]
theorem EndFrame.frames {s t : State} (h : EndFrame s t) : t.frames = s.frames := by rw [h]

theorem EndFrame.of_release {s t : State} (h : ReleaseFrame s t) : EndFrame s t := by
  unfold ReleaseFrame at h
  unfold EndFrame
  rw [h]

theorem EndFrame.freeUnits (sram : Bool) (l : List Nat) : EndFrame s (s.freeUnits sram l) := .of_release (ReleaseFrame.freeUnits s sram l)

theorem EndFrame.reap : EndFrame s s.reap := by
  unfold State.reap
  exact EndFrame.trans (t := { s with obj := { s.obj with dying := _ } }) rfl (EndFrame.foldl _ (fun t d => EndFrame.freeUnits t _ _) _ _)

theorem EndFrame.freeTile (n : Nat) : EndFrame s (s.freeTile n) := by
  unfold State.freeTile
  split
  · exact EndFrame.refl s
  · exact EndFrame.trans (t := { s with blk := _, cmp := _ }) rfl (EndFrame.freeUnits _ _ _)

theorem EndFrame.reapTiles : EndFrame s s.reapTiles := by
  have hrecords : ∀ (t : State) (l m : List Nat), EndFrame t (({ t with fix := { t.fix with recPages := l } }).freeUnits false m) :=
    fun t l m => EndFrame.trans (t := { t with fix := { t.fix with recPages := l } }) rfl (EndFrame.freeUnits _ _ _)
  unfold State.reapTiles
  dsimp only
  split
  · exact hrecords s _ _
  · exact (EndFrame.foldl _ (fun t n => EndFrame.freeTile t n) _ s).trans (hrecords _ _ _)

theorem EndFrame.portShows (f : FrameRec) (n : Nat) : EndFrame s (s.portShows f n) := by
  unfold State.portShows
  exact EndFrame.trans (t := s.updSig n _) rfl (EndFrame.ite rfl rfl)

theorem EndFrame.openWindow (f : FrameRec) : EndFrame s (s.openWindow f) := EndFrame.ite rfl rfl

/-- A marked frame's number is kept (R89). -/
def State.noteMarked (s : State) (f : FrameRec) (jumped : Bool) : State :=
  if s.marked && !jumped then { s with time := { s.time with lastMarked := f.seq } } else s

/-- The slot values of a complete frame are kept. -/
def State.keepSlots (s : State) (f : FrameRec) : State :=
  if f.phase = 4 then { s with fix := { s.fix with slots := f.slots, slotsSeq := f.seq + 1 } } else s

/-- What the presentation of a frame changes between its number and the end of its record. -/
def State.showFrame (s : State) (f : FrameRec) : State := (((s.noteMarked f false).keepSlots f).openWindow f).portsFollow f false

theorem EndFrame.showFrame (f : FrameRec) : EndFrame s (s.showFrame f) := by
  have hmarked : ∀ t : State, EndFrame t (t.noteMarked f false) := fun _ => EndFrame.ite rfl rfl
  have hslots : ∀ t : State, EndFrame t (t.keepSlots f) := fun _ => EndFrame.ite rfl rfl
  have hports : ∀ t : State, EndFrame t (t.portsFollow f false) := fun t =>
    EndFrame.foldl _ (fun t n => EndFrame.portShows t f n) _ t
  exact (((hmarked s).trans (hslots _)).trans (EndFrame.openWindow _ f)).trans (hports _)

/-! ### The end of a presented frame -/

/-- The `CUE`s of a frame complete with `OK` or `LATE` (R42). -/
def State.finishCues (s : State) (f : FrameRec) : State :=
  f.cues.foldl (fun s id => s.finish id (if f.late then St.late else St.ok) (f.seq % 2 ^ 32)) s

theorem State.endFrame_eq (f : FrameRec) :
    s.endFrame f false = (((((s.finishCues f).setRv R.TIM_FRAME_SEQ f.seq).showFrame f).leaveFrame f.seq).reap).reapTiles := rfl

theorem State.finishCues_frames (f : FrameRec) : (s.finishCues f).frames = s.frames := by
  have hframe : HostFrame s (s.finishCues f) := HostFrame.foldl _ (fun t id => HostFrame.finish t id _ _) f.cues s
  rw [hframe]

/-- The end of a frame takes its record away, and changes no other frame, no register and no descriptor. -/
theorem State.endFrame_parts (f : FrameRec) :
    (s.endFrame f false).frames = s.frames.filter (fun x => decide (x.seq ≠ f.seq)) ∧
      (s.endFrame f false).regs = ((s.finishCues f).setRv R.TIM_FRAME_SEQ f.seq).regs ∧
      (s.endFrame f false).host = (s.finishCues f).host := by
  rw [s.endFrame_eq f]
  have hshow := EndFrame.showFrame ((s.finishCues f).setRv R.TIM_FRAME_SEQ f.seq) f
  generalize ((s.finishCues f).setRv R.TIM_FRAME_SEQ f.seq).showFrame f = a at hshow
  have hend : EndFrame (a.leaveFrame f.seq) (a.leaveFrame f.seq).reap.reapTiles := (EndFrame.reap _).trans (EndFrame.reapTiles _)
  refine ⟨hend.frames.trans ?_, hend.regs.trans hshow.regs, hend.host.trans hshow.host⟩
  change a.frames.filter _ = _
  rw [hshow.frames]
  exact congrArg _ (s.finishCues_frames f)

/-! ### The presentation of the oldest frame -/

theorem FramesFollow.filter_seq {s t : State} (h : FramesFollow s t) (n : Nat) :
    (t.frames.filter (fun x => decide (x.seq ≠ n))).map (·.seq) = (s.frames.filter (fun x => decide (x.seq ≠ n))).map (·.seq) := by
  have hmap := map_seq_of_forall₂ (r := FrameRec.Follows) (fun hab => hab.1) h
  have hfilter : ∀ l : List FrameRec,
      (l.filter (fun x => decide (x.seq ≠ n))).map (·.seq) = (l.map (·.seq)).filter (fun m => decide (m ≠ n)) := fun l => by
    rw [List.filter_map]
    rfl
  rw [hfilter, hfilter, hmap]

/-- A presentation of the oldest frame, past its send deadline, is the end of that frame as it stands after it has been told. -/
theorem State.presentation_ends {f : FrameRec} (hhead : s.frames.head? = some f) (hsent : f.sendPassed = true) :
    ∃ g : FrameRec, g.seq = f.seq ∧ (s.noteLate f.seq [] (f.abandoned || f.phase != 4)).frame? f.seq = some g ∧
      s.presentation = (s.noteLate f.seq [] (f.abandoned || f.phase != 4)).endFrame g false := by
  have hfollow := s.follows_noteLate f.seq [] (f.abandoned || f.phase != 4)
  have hfirst : (s.frame? f.seq).any (fun _ => true) = true := by
    obtain ⟨g, hg⟩ := s.frame_isSome (List.mem_of_mem_head? hhead)
    rw [hg]
    rfl
  have hfound := any_find_of_forall₂ (r := FrameRec.Follows) (q := fun _ => true) (fun hab => hab.1) (fun _ _ => rfl) hfollow f.seq hfirst
  obtain ⟨g, hg, -⟩ := (Option.any_eq_true _ _).1 hfound
  refine ⟨g, by simpa using List.find?_some hg, hg, ?_⟩
  unfold State.presentation
  rw [hhead]
  simp only [hsent, Bool.not_true, Bool.false_eq_true, if_false]
  rw [show State.frame? _ f.seq = some g from hg]

theorem State.presentation_removes {f : FrameRec} (hhead : s.frames.head? = some f) (hsent : f.sendPassed = true) :
    s.presentation.frames.map (·.seq) = (s.frames.filter (fun x => decide (x.seq ≠ f.seq))).map (·.seq) ∧
      s.presentation.rv R.TIM_FRAME_SEQ = f.seq % 2 ^ 64 := by
  obtain ⟨g, hseq, -, heq⟩ := s.presentation_ends hhead hsent
  have hfollow := s.follows_noteLate f.seq [] (f.abandoned || f.phase != 4)
  rw [heq]
  generalize s.noteLate f.seq [] (f.abandoned || f.phase != 4) = a at hfollow
  obtain ⟨hframes, hregs, -⟩ := a.endFrame_parts g
  refine ⟨?_, ?_⟩
  · rw [hframes, hseq]
    exact hfollow.filter_seq f.seq
  · rw [State.rv_eq_of_regs hregs, State.rv_setRv_same, hseq]

/-- A complete frame that was dropped nowhere, or is late already, is told nothing more. -/
theorem State.noteLate_nothing {f : FrameRec} (hf : s.frame? f.seq = some f) (h : f.dropped = [] ∨ f.late = true) :
    s.noteLate f.seq [] false = s.updFrame f.seq (fun g => { g with dropped := f.dropped }) := by
  unfold State.noteLate
  rw [hf]
  rcases h with h | h <;> simp [h]

theorem State.presentation_completes {f : FrameRec} {id : Nat} {e : StoreEntry} (hhead : s.frames.head? = some f)
    (hsent : f.sendPassed = true) (hcomplete : f.abandoned = false ∧ f.phase = 4) (htold : f.dropped = [] ∨ f.late = true)
    (hcues : f.cues = [id]) (he : s.entry? id = some e) :
    Finished s.presentation e (if f.late then St.late else St.ok) (f.seq % 2 ^ 32) := by
  obtain ⟨g, hseq, hg, heq⟩ := s.presentation_ends hhead hsent
  have hfirst : s.frame? f.seq = some f := by
    obtain ⟨rest, hrest⟩ := List.head?_eq_some_iff.1 hhead
    unfold State.frame?
    rw [hrest, List.find?_cons_of_pos (by simp)]
  rw [heq]
  simp only [hcomplete.1, hcomplete.2, bne_self_eq_false, Bool.or_self, s.noteLate_nothing hfirst htold] at hg ⊢
  have hfound := s.frame_updFrame (seq := f.seq) (f := fun g => { g with dropped := f.dropped }) fun _ => rfl
  rw [hfirst, hg] at hfound
  cases hfound
  have hfinish : (s.updFrame f.seq (fun g => { g with dropped := f.dropped })).finishCues f =
      (s.updFrame f.seq (fun g => { g with dropped := f.dropped })).finish id (if f.late then St.late else St.ok) (f.seq % 2 ^ 32) := by
    unfold State.finishCues
    rw [hcues]
    rfl
  obtain ⟨-, -, hhost⟩ := State.endFrame_parts (s.updFrame f.seq (fun g => { g with dropped := f.dropped })) f
  unfold Finished
  rw [State.entry_of_host hhost, hfinish]
  exact State.finish_finished _ id _ _ e he

end Sys2Proof.Machine
end

section
/-! SUPPORT. What the close of a frame's cues leaves alone, and the post of its `FRAME_START` (R88 to R92, R119, R177, R229, R264,
R303). -/

namespace Sys2Proof.Machine

variable (s : State)

/-! ### The relation -/

/-- From `s` to `t` the settings that a frame's cues commit have taken effect: registers, events, pushes, Ethernet ports and the Curtain may
have changed, not the frames, the clocks, the counters of the timeline, or the role in a pair. -/
structure Closes (s t : State) : Prop where
  parts : t = { s with regs := t.regs, evt := t.evt, psh := t.psh, net := t.net, cur := t.cur, sacnDue := t.sacnDue }
  calm : Calm s t
  pair : t.rv R.TDM_STATE = s.rv R.TDM_STATE

theorem Closes.refl : Closes s s := ⟨rfl, Calm.refl s, rfl⟩

theorem Closes.trans {s t u : State} (h : Closes s t) (h2 : Closes t u) : Closes s u := by
  refine ⟨?_, h.calm.trans h2.calm, h2.pair.trans h.pair⟩
  have hu := h2.parts
  rw [h.parts] at hu
  exact hu

theorem Closes.foldl {α : Type} {f : State → α → State} {l : List α} (hf : ∀ s, ∀ a ∈ l, Closes s (f s a)) (s : State) :
    Closes s (l.foldl f s) := by
  induction l generalizing s with
  | nil => exact Closes.refl s
  | cons a l ih => exact (hf s a List.mem_cons_self).trans (ih (fun s b hb => hf s b (List.mem_cons_of_mem _ hb)) _)

theorem Closes.ite {s t u : State} {p : Prop} [Decidable p] (h : Closes s t) (h2 : Closes s u) : Closes s (if p then t else u) := by
  split
  · exact h
  · exact h2

theorem Closes.frames {s t : State} (h : Closes s t) : t.frames = s.frames := by rw [h.parts]
theorem Closes.cues {s t : State} (h : Closes s t) : t.cues = s.cues := by rw [h.parts]
theorem Closes.cb {s t : State} (h : Closes s t) : t.cb = s.cb := by rw [h.parts]

theorem Closes.understudy {s t : State} (h : Closes s t) : t.understudy = s.understudy := by
  unfold State.understudy State.role State.fld
  rw [show t.rv F.TDM_STATE.ROLE.reg = s.rv F.TDM_STATE.ROLE.reg from h.pair]

theorem Closes.mirrors {s t : State} (h : Closes s t) : t.mirrors = s.mirrors := State.mirrors_of_rv h.pair

/-- Registers that neither the timeline nor the pair uses. -/
theorem Closes.setFld {f : Fld} (v : Nat) (h : f.reg ∉ timelineRegs) (hpair : R.TDM_STATE ≠ f.reg) : Closes s (s.setFld f v) :=
  ⟨rfl, Calm.setFld s v h, s.rv_setFld_other v hpair⟩

theorem Closes.raise {source : Nat} (code : Nat) (args : List Nat) (h : source ≠ Src.trigger ∧ source ≠ Src.tandem) :
    Closes s (s.raise source code args) := by
  refine ⟨?_, Calm.raise s code args h, s.raise_rv_of_notMem source code args (by decide)⟩
  have hframe := s.raise_frame source code args
  generalize s.raise source code args = t at hframe ⊢
  rw [hframe]

theorem Closes.updPush (l : Nat) (g : PushSt → PushSt) : Closes s (s.updPush l g) := ⟨rfl, Calm.updPush s l g, rfl⟩

/-! ### The margin of a new schedule (R264) -/

theorem Closes.marginCheck {l : Nat} (h : l < 64) : Closes s (s.marginCheck l) := by
  refine Closes.ite (Closes.raise s _ _ ?_) (Closes.refl s)
  simp only [Src.link, Src.trigger, Src.tandem]
  omega

/-- Only the schedule changes. -/
def State.withSched (s : State) (x : SchedSt) : State := { s with time := { s.time with sched := x } }

/-- What leaves the schedule alone does so from every schedule. -/
theorem Closes.withSched {s t : State} (h : Closes s t) (x : SchedSt) : Closes (s.withSched x) (t.withSched x) where
  parts := by
    have hparts := h.parts
    generalize t.regs = r at hparts
    generalize t.evt = e at hparts
    generalize t.psh = p at hparts
    generalize t.net = n at hparts
    generalize t.cur = c at hparts
    generalize t.sacnDue = d at hparts
    subst hparts
    rfl
  calm :=
    { frames := h.calm.frames
      time := by unfold State.withSched; rw [h.calm.time]
      off := h.calm.off
      inReset := h.calm.inReset
      rv := h.calm.rv
      quiet := h.calm.quiet
      raised := h.calm.raised }
  pair := h.pair

theorem Closes.setSched (x : SchedSt) : Closes (s.withSched x) (s.setSched x) := by
  unfold State.setSched
  exact Closes.ite (Closes.refl _) (Closes.foldl (fun t l hl => Closes.marginCheck t (List.mem_range.1 hl)) _)

/-! ### Settings of the cues (R177, R229, R303, R366) -/

theorem Closes.noteForgets (old new : CfgTab) (seq : Nat) : Closes s (s.noteForgets old new seq) :=
  Closes.foldl (fun t _ _ => Closes.foldl (fun u l _ => Closes.updPush u l _) t) s

theorem netSacnStatus_notMem (p : Nat) : R.NET_SACN_STATUS p ∉ timelineRegs := by
  simp [timelineRegs, R.NET_SACN_STATUS, R.BLK_DISCARD_CNT, R.TIM_FRAME_LATE_CNT, R.TDM_LATE_CNT, R.CB_POST_CNT, R.CB_LIST_CAP]
  omega

theorem tdmState_ne_netSacnStatus (p : Nat) : R.TDM_STATE ≠ R.NET_SACN_STATUS p := by
  simp only [R.TDM_STATE, R.NET_SACN_STATUS]
  omega

theorem Closes.admitOn (c : CfgTab) (a : State × Nat) {p : Nat} (h : p < 8) : Closes a.1 (State.admitOn c a p).1 := by
  have hnet : ∀ (t : State) g, Closes t (t.updNet p g) := fun t g => ⟨rfl, .of_parts rfl rfl rfl rfl (fun _ _ => rfl) rfl, rfl⟩
  have hset : ∀ (t : State) (f : Fld) v, f.reg = R.NET_SACN_STATUS p → Closes t (t.setFld f v) := fun t f v hf =>
    Closes.setFld t v (hf ▸ netSacnStatus_notMem p) (hf ▸ tdmState_ne_netSacnStatus p)
  have heth : Src.eth p ≠ Src.trigger ∧ Src.eth p ≠ Src.tandem := by
    simp only [Src.eth, Src.link, Src.trigger, Src.tandem]
    omega
  unfold State.admitOn
  dsimp only
  split
  · exact (((hnet _ _).trans (hset _ (F.NET_SACN_STATUS.ADMITTED p) _ rfl)).trans (hset _ (F.NET_SACN_STATUS.OVERLOAD p) _ rfl)).trans
      (Closes.raise _ _ _ heth)
  · exact ((hnet _ _).trans (hset _ (F.NET_SACN_STATUS.ADMITTED p) _ rfl)).trans (hset _ (F.NET_SACN_STATUS.OVERLOAD p) _ rfl)

theorem Closes.admitSacn (c : CfgTab) : Closes s (s.admitSacn c) := by
  have hports : ∀ (l : List Nat), (∀ p ∈ l, p < 8) → ∀ a : State × Nat, Closes a.1 (l.foldl (State.admitOn c) a).1 := by
    intro l
    induction l with
    | nil => exact fun _ a => Closes.refl a.1
    | cons p l ih =>
      intro hl a
      exact (Closes.admitOn c a (hl p List.mem_cons_self)).trans (ih (fun q hq => hl q (List.mem_cons_of_mem _ hq)) _)
  have hdue : ∀ t : State, Closes t { t with sacnDue := false } := fun t => ⟨rfl, .of_parts rfl rfl rfl rfl (fun _ _ => rfl) rfl, rfl⟩
  exact (hports _ (fun p hp => List.mem_range.1 hp) (s, 0)).trans (hdue _)

theorem Closes.patchCommitted (c : CfgTab) : Closes s (s.patchCommitted c) :=
  ⟨rfl, .of_parts rfl rfl rfl rfl (fun _ _ => rfl) rfl, rfl⟩

theorem Closes.functionsAgain : Closes s s.functionsAgain := by
  refine Closes.foldl (fun t e _ => Closes.ite ?_ (Closes.refl t)) s
  exact (Closes.setFld t (f := F.LMP_FUNC_OFF.FUNC) _ (by decide) (by decide)).trans (Closes.raise _ _ _ (by decide))

/-! ### The cues of a frame (R90 to R92) -/

/-- The cues that are due leave the list for the configuration and the frame's record. -/
def State.takeCues (s : State) (seq : Nat) (due : CueRec → Bool) : State :=
  let now := s.cues.filter due
  let old := s.cfgApp
  let new := old.writeAll (now.flatMap (·.writes))
  let s := { s with cfgApp := new, cues := s.cues.filter (fun c => !due c) }
  s.updFrame seq (fun f => { f with cfg := new, cfgPrev := old, cues := (now.filter (·.mseq = 0)).map (·.id) })

/-- The settings that a list of cues commits take effect. -/
def State.commitCues (s : State) (now : List CueRec) (old new : CfgTab) (seq : Nat) : State :=
  let s := s.noteForgets old new seq
  let patch := patchWritten now && ((old.entriesOf tPatch ++ new.entriesOf tPatch).any (fun i => old.entry tPatch i != new.entry tPatch i))
  let s := if patch || s.sacnDue then s.admitSacn new else s
  (if patch then s.patchCommitted new else s).functionsAgain

/-- Frame timing among the cues of a frame changes the schedule. -/
def State.retimeBy (s : State) (now : List CueRec) (new : CfgTab) (seq : Nat) : State :=
  match s.frame? seq with
  | some f => if now.any (fun c => c.writes.any (fun w => w.table == tTiming)) then s.retime f (new.entry tTiming 0) else s
  | none => s

theorem State.applyCues_eq (seq : Nat) (due : CueRec → Bool) :
    s.applyCues seq due = ((s.takeCues seq due).commitCues (s.cues.filter due) s.cfgApp (s.takeCues seq due).cfgApp seq).retimeBy
      (s.cues.filter due) (s.takeCues seq due).cfgApp seq := rfl

theorem Closes.commitCues (now : List CueRec) (old new : CfgTab) (seq : Nat) : Closes s (s.commitCues now old new seq) := by
  unfold State.commitCues
  refine ((Closes.noteForgets s old new seq).trans ?_).trans (Closes.functionsAgain _)
  exact (Closes.ite (Closes.admitSacn _ _) (Closes.refl _)).trans (Closes.ite (Closes.patchCommitted _ _) (Closes.refl _))

/-- Without cues the schedule stands. -/
theorem State.retimeBy_nil (new : CfgTab) (seq : Nat) : s.retimeBy [] new seq = s := by
  unfold State.retimeBy
  split <;> rfl

/-- Where no later frame has been scheduled, frame timing changes the schedule alone, with what its margin makes known. -/
theorem State.retimeBy_closes (now : List CueRec) (new : CfgTab) {seq : Nat} (h : ∀ g ∈ s.frames, g.seq ≤ seq) :
    ∃ x, Closes (s.withSched x) (s.retimeBy now new seq) := by
  have hstands : ∃ x, Closes (s.withSched x) s := ⟨s.time.sched, Closes.refl s⟩
  unfold State.retimeBy
  split
  · rename_i f hf
    have hseq : f.seq = seq := by simpa using List.find?_some hf
    split
    · have hlater : s.frames.filter (fun g => decide (f.seq < g.seq)) = [] := by
        rw [List.filter_eq_nil_iff]
        intro g hg
        have := h g hg
        simp only [decide_eq_true_eq]
        omega
      unfold State.retime
      simp only [hlater, List.isEmpty_nil, if_true]
      exact ⟨_, Closes.setSched s _⟩
    · exact hstands
  · exact hstands

/-- Where no later frame has been scheduled, the cues of a frame leave the state they were taken in, but for the schedule. -/
theorem State.applyCues_closes {seq : Nat} (due : CueRec → Bool) (h : ∀ g ∈ s.frames, g.seq ≤ seq) :
    ∃ x, Closes ((s.takeCues seq due).withSched x) (s.applyCues seq due) := by
  rw [s.applyCues_eq seq due]
  have hcommit := Closes.commitCues (s.takeCues seq due) (s.cues.filter due) s.cfgApp (s.takeCues seq due).cfgApp seq
  generalize (s.takeCues seq due).commitCues (s.cues.filter due) s.cfgApp (s.takeCues seq due).cfgApp seq = a at hcommit
  have hframes : ∀ g ∈ a.frames, g.seq ≤ seq := by
    rw [hcommit.frames]
    intro g hg
    obtain ⟨g0, hg0, rfl⟩ := List.mem_map.1 hg
    have hle := h g0 hg0
    split
    · exact hle
    · exact hle
  obtain ⟨x, hx⟩ := a.retimeBy_closes (s.cues.filter due) (s.takeCues seq due).cfgApp hframes
  exact ⟨x, (hcommit.withSched x).trans hx⟩

/-- Where no cue is due, the frame's cues leave the state but for its record. -/
theorem State.applyCues_none {seq : Nat} {due : CueRec → Bool} (h : s.cues.filter due = []) :
    Closes (s.takeCues seq due) (s.applyCues seq due) := by
  rw [s.applyCues_eq seq due, h, State.retimeBy_nil]
  exact Closes.commitCues _ _ _ _ _

theorem State.takeCues_seqs (seq : Nat) (due : CueRec → Bool) : (s.takeCues seq due).frames.map (·.seq) = s.frames.map (·.seq) := by
  change (s.frames.map _).map _ = _
  rw [List.map_map]
  refine List.map_congr_left fun a _ => ?_
  simp only [Function.comp_apply]
  split <;> rfl

end Sys2Proof.Machine
end

section
/-! SUPPORT. The post of a `FRAME_START`, the cue deadline, and a frame that goes on alone (R88 to R92, R100 to R111, R119, R337). -/

namespace Sys2Proof.Machine

variable (s : State)

/-! ### What a post of the schedule leaves alone (R100 to R105, R119) -/

/-- From `s` to `t` a word has been posted: registers, events, the Call Board, what is sent and choices left free may have changed, not the count
of frames that went on alone, and no event is lost. -/
structure Posts (s t : State) : Prop where
  parts : t = { s with regs := t.regs, evt := t.evt, cb := t.cb, sent := t.sent, freeCtr := t.freeCtr }
  late : t.rv R.TDM_LATE_CNT = s.rv R.TDM_LATE_CNT
  raised : ∀ e ∈ s.evt.raised, e ∈ t.evt.raised

theorem Posts.trans {s t u : State} (h : Posts s t) (h2 : Posts t u) : Posts s u := by
  refine ⟨?_, h2.late.trans h.late, fun e he => h2.raised e (h.raised e he)⟩
  have hu := h2.parts
  rw [h.parts] at hu
  exact hu

theorem Posts.refl : Posts s s := ⟨rfl, rfl, fun _ h => h⟩

theorem Posts.frames {s t : State} (h : Posts s t) : t.frames = s.frames := by rw [h.parts]
theorem Posts.cues {s t : State} (h : Posts s t) : t.cues = s.cues := by rw [h.parts]
theorem Posts.time {s t : State} (h : Posts s t) : t.time = s.time := by rw [h.parts]

theorem Posts.setCb (x : CbSt) : Posts s { s with cb := x } := ⟨rfl, rfl, fun _ h => h⟩

theorem Posts.bump {f : Fld} (h : R.TDM_LATE_CNT ≠ f.reg) : Posts s (s.bump f) := ⟨rfl, s.rv_setFld_other _ h, fun _ h => h⟩

theorem Posts.freeStep : Posts s s.freeStep := ⟨rfl, rfl, fun _ h => h⟩

theorem Posts.raise (source code : Nat) (args : List Nat) : Posts s (s.raise source code args) := by
  refine ⟨?_, s.raise_rv_of_notMem source code args (by decide), fun e he => s.raise_keeps source code args he⟩
  have hframe := s.raise_frame source code args
  generalize s.raise source code args = t at hframe ⊢
  rw [hframe]

theorem Posts.dispatchAll : Posts s s.dispatchAll := by
  obtain ⟨hparts, hregs, -⟩ := DispatchFrame.dispatchAll s
  generalize s.dispatchAll = t at hparts hregs
  refine ⟨?_, hregs _ (by decide), fun e he => ?_⟩
  · rw [hparts]
  · rw [hparts]
    exact he

theorem Posts.enqueue (source : Nat) (w : CallWord) : Posts s (s.enqueue source w).1 := by
  have hrest : ∀ (t : State) (r : CallRec), Posts t
      { t.freeStep.bump F.CB_POST_CNT.COUNT with
        cb := { (t.freeStep.bump F.CB_POST_CNT.COUNT).cb with queue := (t.freeStep.bump F.CB_POST_CNT.COUNT).cb.queue ++ [r] } } := fun t r =>
    ((Posts.freeStep t).trans (Posts.bump _ (by decide))).trans (Posts.setCb _ _)
  unfold State.enqueue
  dsimp only
  split
  · exact hrest s _
  · exact (Posts.bump s (f := F.CB_RETARGET_CNT.COUNT) (by decide)).trans (hrest _ _)

theorem Posts.cbPost (p : Producer) (source ref : Nat) (w : CallWord) (reserved : Nat) : Posts s (s.cbPost p source ref w reserved).1 := by
  unfold State.cbPost
  split
  · exact (Posts.bump s (f := F.CB_INVALID_CNT.COUNT) (by decide)).trans (Posts.raise _ _ _ _)
  · split
    · exact (Posts.enqueue s source w).trans (Posts.dispatchAll _)
    · split
      · exact Posts.setCb s _
      · exact Posts.bump s (f := F.CB_REFUSED_CNT.COUNT) (by decide)

/-- A refused post of the schedule is told; no other outcome changes anything. -/
theorem Posts.settleSchedule (ref : Nat) (w : CallWord) (o : PostOut) : Posts s (s.settlePost .schedule ref w o) := by
  cases o with
  | refused => exact Posts.raise s Src.trigger E.TRIGGER_REFUSED []
  | ok _ => exact Posts.refl s
  | invalid => exact Posts.refl s
  | stalls => exact Posts.refl s

theorem State.postFrom_schedule (w : CallWord) : s.postFrom .schedule 0 w 0 =
    if s.producerStalled .schedule then { s with cb := { s.cb with behind := s.cb.behind ++ [⟨.schedule, 0, w, 0, false⟩] } }
    else (s.cbPost .schedule Src.trigger 0 w 0).1.settlePost .schedule 0 w (s.cbPost .schedule Src.trigger 0 w 0).2 := rfl

theorem Posts.postFrameStart (seq tPres : Nat) : Posts s (s.postFrameStart seq tPres) := by
  unfold State.postFrameStart
  rw [s.postFrom_schedule]
  split
  · exact Posts.setCb s _
  · exact (Posts.cbPost s _ _ _ _ _).trans (Posts.settleSchedule _ _ _ _)

/-! ### A post on a quiet Call Board -/

/-- The word of a `FRAME_START` as it is posted. -/
def frameStartWord (seq tPres : Nat) : CallWord :=
  ⟨kFrameStart, clsBLK, 7, 0, false, false, 0, 0, 0xFFFF, seq, nsOf tPres, secOf tPres % 2 ^ 32, secOf tPres / 2 ^ 32 % 2 ^ 16, 0⟩

/-- No call waits, is held or is handed over, no post stalls, and no consumer waits. -/
structure QuietBoard (s : State) : Prop where
  free : s.producerStalled .schedule = false
  queue : s.cb.queue = []
  held : s.cb.held = []
  handed : s.cb.handed = []
  waiting : s.cb.waiting = []

theorem State.dispatchAll_nobody (h : s.cb.waiting = []) : s.dispatchAll = s := by
  unfold State.dispatchAll
  rw [h]
  split <;> rfl

theorem State.enqueue_cb (source : Nat) (w : CallWord) :
    ∃ r : CallRec, (s.enqueue source w).1.cb = { s.cb with queue := s.cb.queue ++ [r] } ∧
      r.word = { w with producer := source, parent := 0xFFFF } := by
  refine ⟨⟨s.pickFree s.slotUsed 8192, { w with producer := source, parent := 0xFFFF }, s.placeGroup w.cls w.group, w.children, false, false,
    false⟩, ?_, rfl⟩
  unfold State.enqueue
  dsimp only
  split <;> rfl

theorem State.frameStart_valid (seq tPres : Nat) : s.callInvalid (frameStartWord seq tPres) 0 none = false := by
  simp [State.callInvalid, frameStartWord, kindClass]

theorem QuietBoard.findsSpace {s : State} (h : QuietBoard s) (hcap : 0 < s.fld F.CB_LIST_CAP.CAP) (seq tPres : Nat) :
    s.findsSpace Src.trigger (frameStartWord seq tPres) = true := by
  have hreserve : usesReserve Src.trigger = true := rfl
  have hlist : s.listCount (frameStartWord seq tPres).prio (s.placeGroup (frameStartWord seq tPres).cls (frameStartWord seq tPres).group) = 0 := by
    unfold State.listCount
    rw [h.queue]
    rfl
  have hfree : s.slotsFree = 8192 := by
    unfold State.slotsFree State.slotsQueued State.slotsDispatched State.slotsHandoff
    rw [h.queue, h.held, h.handed]
    rfl
  unfold State.findsSpace State.slotSpace
  rw [hlist, hfree, hreserve]
  simpa [frameStartWord] using hcap

/-- On a quiet Call Board a `FRAME_START` is queued and counted. -/
theorem QuietBoard.postFrameStart {s : State} (h : QuietBoard s) (hcap : 0 < s.fld F.CB_LIST_CAP.CAP) (seq tPres : Nat) :
    (s.postFrameStart seq tPres).cb.queue.map (·.word) = [{ frameStartWord seq tPres with producer := Src.trigger }] ∧
      Counts s (s.postFrameStart seq tPres) F.CB_POST_CNT.COUNT 1 := by
  obtain ⟨r, hr, hword⟩ := s.enqueue_cb Src.trigger (frameStartWord seq tPres)
  have hpost : s.postFrameStart seq tPres = (s.enqueue Src.trigger (frameStartWord seq tPres)).1 := by
    change s.postFrom .schedule 0 (frameStartWord seq tPres) 0 = _
    rw [s.postFrom_schedule, h.free, if_neg Bool.false_ne_true]
    unfold State.cbPost
    simp only [s.frameStart_valid, h.findsSpace hcap, Bool.false_eq_true, if_false, if_true]
    rw [State.dispatchAll_nobody _ (by rw [hr]; exact h.waiting)]
    rfl
  rw [hpost]
  obtain ⟨-, -, -, hcount⟩ := s.enqueue_posts Src.trigger (frameStartWord seq tPres)
  refine ⟨?_, hcount⟩
  rw [hr]
  simp [h.queue, hword, frameStartWord]

/-! ### The cue deadline (R88 to R92) -/

/-- The presentation instant of the next frame. -/
def State.nextInstant (s : State) : Nat := (s.time.sched.instant s.time.sched.k).toNat

/-- The schedule after its next frame. -/
def SchedSt.advance (x : SchedSt) : SchedSt := { x with k := x.k + 1, seq := x.seq + 1, given := x.seq, numbered := true }

/-- The next frame of the schedule is added. -/
def State.nextFrame (s : State) : State :=
  let t := s.setSched s.time.sched.advance
  { t with time := { t.time with lastClosed := some s.nextInstant }
           frames := t.frames ++ [newFrame s.time.sched.seq s.nextInstant t.cfgApp t.cfgApp t.understudy] }

theorem State.nextFrame_frames : ∃ g : FrameRec, g.seq = s.time.sched.seq ∧ s.nextFrame.frames = s.frames ++ [g] := by
  have hkept : (s.setSched s.time.sched.advance).frames = s.frames := (Closes.setSched s _).frames
  unfold State.nextFrame
  dsimp only
  rw [hkept]
  exact ⟨_, rfl, rfl⟩

theorem State.nextFrame_understudy : s.nextFrame.understudy = s.understudy := (Closes.setSched s s.time.sched.advance).understudy

theorem State.nextFrame_mirrors : s.nextFrame.mirrors = s.mirrors := (Closes.setSched s s.time.sched.advance).mirrors

theorem State.nextFrame_cues : s.nextFrame.cues = s.cues := (Closes.setSched s s.time.sched.advance).cues

theorem State.nextFrame_cb : s.nextFrame.cb = s.cb := (Closes.setSched s s.time.sched.advance).cb

theorem State.nextFrame_time : s.nextFrame.time = { s.time with sched := s.time.sched.advance, lastClosed := some s.nextInstant } := by
  change ({ (s.setSched s.time.sched.advance).time with lastClosed := _ } : TimeSt) = _
  rw [(Closes.setSched s s.time.sched.advance).calm.time]
  rfl

theorem State.nextFrame_fld {f : Fld} (h : f.reg ∈ timelineRegs) : s.nextFrame.fld f = s.fld f :=
  (Closes.setSched s s.time.sched.advance).calm.fld h

/-- A unit that stands alone closes the cues of the next frame and posts its `FRAME_START`. -/
theorem State.cueDeadline_alone {a : State} (hrun : s.time.sched.running = true) (hunder : s.understudy = false) (hmirrors : s.mirrors = false)
    (ha : s.nextFrame.applyCues s.time.sched.seq (·.dueIn s.nextInstant) = a) (hm : a.mirrors = false) :
    s.cueDeadline = a.postFrameStart s.time.sched.seq s.nextInstant := by
  have hclose : s.nextFrame.closeCues s.time.sched.seq s.nextInstant = a.postFrameStart s.time.sched.seq s.nextInstant := by
    unfold State.closeCues
    simp only [s.nextFrame_mirrors, hmirrors, ha, hm, Bool.false_eq_true, if_false]
  rw [← hclose]
  have hcue : s.cueDeadline = if !s.time.sched.running then s
      else if s.nextFrame.understudy then s.nextFrame.tryBegin else s.nextFrame.closeCues s.time.sched.seq s.nextInstant := rfl
  rw [hcue, hrun, s.nextFrame_understudy, hunder, Bool.not_true, if_neg Bool.false_ne_true, if_neg Bool.false_ne_true]

theorem State.withSched_frames (x : SchedSt) : (s.withSched x).frames = s.frames := rfl
theorem State.withSched_mirrors (x : SchedSt) : (s.withSched x).mirrors = s.mirrors := rfl
theorem State.takeCues_mirrors (seq : Nat) (due : CueRec → Bool) : (s.takeCues seq due).mirrors = s.mirrors := rfl

/-- What a cue deadline leaves of the frames, the cues and the last instant closed. -/
theorem State.cueDeadline_closes (hrun : s.time.sched.running = true) (hunder : s.understudy = false) (hmirrors : s.mirrors = false)
    (hseqs : ∀ g ∈ s.frames, g.seq < s.time.sched.seq) :
    s.cueDeadline.frames.map (·.seq) = s.frames.map (·.seq) ++ [s.time.sched.seq] ∧
      s.cueDeadline.cues = s.cues.filter (fun c => !c.dueIn s.nextInstant) ∧ s.cueDeadline.time.lastClosed = some s.nextInstant := by
  obtain ⟨new, hnew, hframes⟩ := s.nextFrame_frames
  have hlast : ∀ g ∈ s.nextFrame.frames, g.seq ≤ s.time.sched.seq := by
    rw [hframes]
    intro g hg
    rcases List.mem_append.1 hg with hold | hg
    · exact (hseqs g hold).le
    · rw [List.mem_singleton.1 hg, hnew]
  obtain ⟨x, hx⟩ := s.nextFrame.applyCues_closes (·.dueIn s.nextInstant) hlast
  have hclosed := s.cueDeadline_alone hrun hunder hmirrors rfl
    (by rw [hx.mirrors, State.withSched_mirrors, State.takeCues_mirrors, s.nextFrame_mirrors, hmirrors])
  rw [hclosed]
  have hpost := Posts.postFrameStart (s.nextFrame.applyCues s.time.sched.seq (·.dueIn s.nextInstant)) s.time.sched.seq s.nextInstant
  refine ⟨?_, ?_, ?_⟩
  · rw [hpost.frames, hx.frames, State.withSched_frames, State.takeCues_seqs, hframes, List.map_append, List.map_singleton, hnew]
  · rw [hpost.cues, hx.cues]
    change s.nextFrame.cues.filter _ = _
    rw [s.nextFrame_cues]
  · rw [hpost.time, hx.calm.time]
    change s.nextFrame.time.lastClosed = _
    rw [s.nextFrame_time]

/-- What a cue deadline leaves where no cue waits and the Call Board is quiet. -/
theorem State.cueDeadline_posts (hrun : s.time.sched.running = true) (hunder : s.understudy = false) (hmirrors : s.mirrors = false)
    (hcues : s.cues = []) (hquiet : QuietBoard s) (hcap : 0 < s.fld F.CB_LIST_CAP.CAP) :
    s.cueDeadline.time.sched = s.time.sched.advance ∧
      s.cueDeadline.cb.queue.map (·.word) = [{ frameStartWord s.time.sched.seq s.nextInstant with producer := Src.trigger }] ∧
      Counts s s.cueDeadline F.CB_POST_CNT.COUNT 1 := by
  have hx := s.nextFrame.applyCues_none (seq := s.time.sched.seq) (due := (·.dueIn s.nextInstant)) (by rw [s.nextFrame_cues, hcues]; rfl)
  have hclosed := s.cueDeadline_alone hrun hunder hmirrors rfl
    (by rw [hx.mirrors, State.takeCues_mirrors, s.nextFrame_mirrors, hmirrors])
  rw [hclosed]
  generalize s.nextFrame.applyCues s.time.sched.seq (·.dueIn s.nextInstant) = a at hx
  have hcb : a.cb = s.cb := hx.cb.trans s.nextFrame_cb
  have hfld : ∀ {f : Fld}, f.reg ∈ timelineRegs → a.fld f = s.fld f := fun hf => (hx.calm.fld hf).trans (s.nextFrame_fld hf)
  obtain ⟨hfree, hqueue, hheld, hhanded, hwaiting⟩ := hquiet
  have hboard : QuietBoard a := by
    constructor
    case free => unfold State.producerStalled at hfree ⊢; rw [hcb]; exact hfree
    all_goals rw [hcb]; assumption
  obtain ⟨hword, hcount⟩ := hboard.postFrameStart (by rw [hfld (by decide)]; exact hcap) s.time.sched.seq s.nextInstant
  refine ⟨?_, hword, ?_⟩
  · rw [(Posts.postFrameStart a _ _).time, hx.calm.time]
    change s.nextFrame.time.sched = _
    rw [s.nextFrame_time]
  · unfold Counts at hcount ⊢
    rw [hcount, hfld (by decide)]

end Sys2Proof.Machine
end

section
/-! SUPPORT. A waiting frame that goes on alone, and the statement about cue, send and wait deadlines and presentations (R88 to R97,
R337). -/

namespace Sys2Proof.Machine

variable (s : State)

/-! ### A frame that goes on alone (R337) -/

/-- A frame's record as it goes on alone. -/
def FrameRec.goAlone (s : State) (g : FrameRec) : FrameRec :=
  { g with waits := false, alone := true, acts := some s.tdm.ready, given := if s.understudy then some s.tdm.given else none
           funcOff := if s.understudy then s.tdm.funcOff else s.fld F.LMP_FUNC_OFF.FUNC }

/-- The record of a frame that goes on alone, with its number kept for the pair. -/
def State.markAlone (s : State) (seq : Nat) : State :=
  let t := s.updFrame seq (FrameRec.goAlone s)
  t.setTdm { t.tdm with alone := t.tdm.alone ++ [seq] }

/-- A frame that goes on alone takes no cue. -/
def State.startAlone (s : State) (seq : Nat) : State := (s.markAlone seq).applyCues seq (fun _ => false)

theorem State.beginAlone_eq (f : FrameRec) : s.beginAlone f =
    (((s.startAlone f.seq).bump F.TDM_LATE_CNT.COUNT).raise Src.tandem E.TDM_LATE []).postFrameStart f.seq f.tPres := rfl

/-- The record of a frame that takes no cue. -/
def FrameRec.withoutCues (c : CfgTab) (g : FrameRec) : FrameRec := { g with cfg := c, cfgPrev := c, cues := [] }

/-- The frames after one has gone on alone. -/
theorem State.startAlone_frames (seq : Nat) : ∃ c : CfgTab, (s.startAlone seq).frames =
    s.frames.map (fun g => if g.seq = seq then FrameRec.withoutCues c (FrameRec.goAlone s g) else g) := by
  have hnone : (s.markAlone seq).cues.filter (fun _ => false) = [] := by simp
  have hclose := (s.markAlone seq).applyCues_none (seq := seq) hnone
  refine ⟨s.cfgApp, hclose.frames.trans ?_⟩
  have htake : ((s.markAlone seq).takeCues seq (fun _ => false)).frames =
      (s.markAlone seq).frames.map (fun g => if g.seq = seq then FrameRec.withoutCues s.cfgApp g else g) := by
    unfold State.takeCues
    simp only [hnone]
    rfl
  rw [htake]
  change (s.frames.map _).map _ = _
  rw [List.map_map]
  refine List.map_congr_left fun g _ => ?_
  by_cases hg : g.seq = seq
  · simp only [Function.comp_apply, hg, if_true]
    exact if_pos hg
  · simp only [Function.comp_apply, hg, if_false]

/-- Apart from the frames, one that starts alone is calm. -/
theorem State.startAlone_calm (seq : Nat) : Calm ((s.markAlone seq).takeCues seq (fun _ => false)) (s.startAlone seq) :=
  ((s.markAlone seq).applyCues_none (seq := seq) (by simp)).calm

theorem State.markAlone_evtUp (seq : Nat) : ((s.markAlone seq).takeCues seq (fun _ => false)).evtUp = s.evtUp := rfl
theorem State.markAlone_hasRoom (seq src : Nat) : ((s.markAlone seq).takeCues seq (fun _ => false)).hasRoom src = s.hasRoom src := rfl
theorem State.markAlone_time (seq : Nat) : ((s.markAlone seq).takeCues seq (fun _ => false)).time = s.time := rfl
theorem State.markAlone_fld (seq : Nat) (f : Fld) : ((s.markAlone seq).takeCues seq (fun _ => false)).fld f = s.fld f := rfl

/-- Events raised stay: one that was there is there. -/
theorem hasEvent_of_raised {s t u : State} {source code : Nat} {args : List Nat} (h : HasEvent s t source code args)
    (hraised : ∀ e ∈ t.evt.raised, e ∈ u.evt.raised) : HasEvent s u source code args := by
  obtain ⟨e, he, hp⟩ := List.any_eq_true.1 h
  exact List.any_eq_true.2 ⟨e, hraised e he, hp⟩

/-- Counting a frame that went on alone, telling it, and posting its `FRAME_START`. -/
theorem State.tellAlone_leaves (seq tPres : Nat) (hu : s.evtUp = true) (hr : s.hasRoom Src.tandem = true) {t : State}
    (ht : t = ((s.bump F.TDM_LATE_CNT.COUNT).raise Src.tandem E.TDM_LATE []).postFrameStart seq tPres) :
    t.frames = s.frames ∧ Counts s t F.TDM_LATE_CNT.COUNT 1 ∧ HasEvent s t Src.tandem E.TDM_LATE [] := by
  have hpost := Posts.postFrameStart ((s.bump F.TDM_LATE_CNT.COUNT).raise Src.tandem E.TDM_LATE []) seq tPres
  rw [← ht] at hpost
  refine ⟨?_, ?_, ?_⟩
  · rw [hpost.frames, State.raise_frames, State.bump_frames]
  · have hcount : t.fld F.TDM_LATE_CNT.COUNT = (s.bump F.TDM_LATE_CNT.COUNT).fld F.TDM_LATE_CNT.COUNT := by
      have hrv : t.rv R.TDM_LATE_CNT = (s.bump F.TDM_LATE_CNT.COUNT).rv R.TDM_LATE_CNT :=
        hpost.late.trans (State.raise_rv_of_notMem _ Src.tandem E.TDM_LATE [] (by decide))
      unfold State.fld
      exact congrArg (fun v => bits v _ _) hrv
    exact hcount.trans (s.fld_setFld_same F.TDM_LATE_CNT.COUNT _ (by decide))
  · have htold : HasEvent s ((s.bump F.TDM_LATE_CNT.COUNT).raise Src.tandem E.TDM_LATE []) Src.tandem E.TDM_LATE [] :=
      (State.raises_after (s := s) (t := s.bump F.TDM_LATE_CNT.COUNT) _ _ _ (s.bump_evt _) rfl hu hr).hasEvent
    exact hasEvent_of_raised htold hpost.raised

/-- What a frame that goes on alone leaves. -/
theorem State.beginAlone_leaves (f : FrameRec) (hu : s.evtUp = true) (hr : s.hasRoom Src.tandem = true) :
    (s.beginAlone f).frames = (s.startAlone f.seq).frames ∧ Counts s (s.beginAlone f) F.TDM_LATE_CNT.COUNT 1 ∧
      HasEvent s (s.beginAlone f) Src.tandem E.TDM_LATE [] := by
  have hcalm := s.startAlone_calm f.seq
  have hbegin := s.beginAlone_eq f
  generalize s.startAlone f.seq = a at hcalm hbegin
  have hup : a.evtUp = true := by rw [hcalm.evtUp, s.markAlone_evtUp, hu]
  have hroom : a.hasRoom Src.tandem = true := by rw [hcalm.hasRoom (.inr rfl), s.markAlone_hasRoom, hr]
  have htime : a.time = s.time := hcalm.time.trans (s.markAlone_time _)
  have hfld : a.fld F.TDM_LATE_CNT.COUNT = s.fld F.TDM_LATE_CNT.COUNT := (hcalm.fld (by decide)).trans (s.markAlone_fld _ _)
  obtain ⟨hframes, hcount, hevent⟩ := a.tellAlone_leaves f.seq f.tPres hup hroom hbegin
  refine ⟨hframes, ?_, ?_⟩
  · unfold Counts at hcount ⊢
    rw [hcount, hfld]
  · unfold HasEvent at hevent ⊢
    rw [← htime]
    exact hevent

/-! ### No further frame begins -/

theorem State.tryBegin_nobody (h : s.waitingFrame = none) : s.tryBegin = s := by
  unfold State.tryBegin
  cases s.frames.length with
  | zero => rfl
  | succ n =>
    unfold State.beginWaiting
    rw [h]

/-- The waiting frame's wait ends: it goes on alone, and where no other frame waits none follows. -/
theorem State.waitEnds {f : FrameRec} (hu : s.evtUp = true) (hwait : s.waitingFrame = some f)
    (honly : ∀ g ∈ s.frames, g.waits = true → g.seq = f.seq) (hr : s.hasRoom Src.tandem = true) :
    (((s.beginAlone f).tryBegin).frame? f.seq).any (fun g => g.alone && !g.waits) = true ∧
      Counts s (s.beginAlone f).tryBegin F.TDM_LATE_CNT.COUNT 1 ∧ HasEvent s (s.beginAlone f).tryBegin Src.tandem E.TDM_LATE [] := by
  obtain ⟨hframes, hcount, hevent⟩ := s.beginAlone_leaves f hu hr
  obtain ⟨c, hstart⟩ := s.startAlone_frames f.seq
  rw [hstart] at hframes
  have hnobody : (s.beginAlone f).waitingFrame = none := by
    unfold State.waitingFrame
    rw [hframes, List.find?_eq_none]
    intro g hg
    obtain ⟨g0, hg0, rfl⟩ := List.mem_map.1 hg
    split
    · exact Bool.false_ne_true
    · exact fun hw => ‹¬ g0.seq = f.seq› (honly g0 hg0 hw)
  rw [State.tryBegin_nobody _ hnobody]
  refine ⟨?_, hcount, hevent⟩
  obtain ⟨g, hg⟩ := s.frame_isSome (List.mem_of_find?_eq_some hwait)
  have hfound : (s.beginAlone f).frame? f.seq = (s.frame? f.seq).map (fun g => FrameRec.withoutCues c (FrameRec.goAlone s g)) :=
    (State.frame_of_frames (s := s.updFrame f.seq (fun g => FrameRec.withoutCues c (FrameRec.goAlone s g))) hframes f.seq).trans
      (s.frame_updFrame fun _ => rfl)
  rw [hfound, hg]
  rfl

/-! ### The statement -/

/-- Settles O34, a clause at a time: a cue deadline of a unit that stands alone, a send deadline, a presentation, and the end of a wait. -/
theorem frameDeadlines : Obligations.Frame_deadlines := by
  unfold Obligations.Frame_deadlines
  refine ⟨?cue, ?posts, ?send, ?discards, ?presentation, ?completes, ?wait⟩
  case cue =>
    rintro s ⟨hruns, hrun⟩ ⟨hunder, hmirrors⟩ hseqs
    obtain ⟨hframes, hcues, hlast⟩ := s.cueDeadline_closes hrun hunder hmirrors fun g hg => of_decide_eq_true (List.all_eq_true.1 hseqs g hg)
    change Answers (s.done (s.when s.showRuns s.cueDeadline)) _
    rw [hruns, State.when_true, answers_done]
    exact ⟨hframes, hcues, hlast⟩
  case posts =>
    rintro s w ⟨hruns, hrun⟩ ⟨hunder, hmirrors⟩ ⟨hcues, -⟩ ⟨hfree, hqueue, hheld, hhanded, hwaiting⟩ hcap rfl
    obtain ⟨hsched, hword, hcount⟩ := s.cueDeadline_posts hrun hunder hmirrors hcues ⟨hfree, hqueue, hheld, hhanded, hwaiting⟩ hcap
    change Answers (s.done (s.when s.showRuns s.cueDeadline)) _
    rw [hruns, State.when_true, answers_done, State.settle_cb, State.fld_settle]
    exact ⟨hsched, hword, hcount⟩
  case send =>
    intro s f hup hfind
    change Answers (s.done (s.when s.evtUp s.sendDeadline)) _
    rw [hup, State.when_true, answers_done]
    exact s.sendDeadline_marks hfind
  case discards =>
    rintro s f hup ⟨hframes, hsent, hphase, hlate⟩ hitems hroom
    obtain ⟨hframe, hdiscards, hone, e, he, hsource, hcode, hhouse⟩ :=
      s.sendDeadline_discards hup hframes ⟨hsent, hphase, hlate, Nat.pos_of_ne_zero hitems⟩ hroom
    change Answers (s.done (s.when s.evtUp s.sendDeadline)) _
    rw [hup, State.when_true, answers_done]
    unfold Counts at hdiscards hone ⊢
    rw [State.fld_settle, State.fld_settle]
    refine ⟨hframe, hdiscards, hone, List.any_eq_true.2 ⟨e, he, ?_⟩⟩
    simp [hsource, hcode, hhouse]
  case presentation =>
    rintro s f hup ⟨hhead, hsent⟩
    change Answers (s.done (s.when s.evtUp s.presentation)) _
    rw [hup, State.when_true, answers_done, State.rv_settle]
    exact s.presentation_removes hhead hsent
  case completes =>
    rintro s f id e hup ⟨hhead, hsent, haband, hphase, htold⟩ ⟨hcues, he⟩
    change Answers (s.done (s.when s.evtUp s.presentation)) _
    rw [hup, State.when_true, answers_done]
    exact s.presentation_completes hhead hsent ⟨haband, hphase⟩ htold hcues he
  case wait =>
    rintro s f hup ⟨hwait, honly⟩ hroom
    have honlyOne : ∀ g ∈ s.frames, g.waits = true → g.seq = f.seq := fun g hg hw =>
      beq_iff_eq.1 (List.all_eq_true.1 honly g (List.mem_filter.2 ⟨hg, hw⟩))
    obtain ⟨hframe, hcount, hevent⟩ := s.waitEnds hup hwait honlyOne hroom
    have hexec : exec .tdmWaitExpiry s = s.done (s.when s.evtUp (s.beginAlone f).tryBegin) := by
      change s.done (s.when s.evtUp (match s.waitingFrame with | some f => (s.beginAlone f).tryBegin | none => s)) = _
      rw [hwait]
    rw [hexec, hup, State.when_true, answers_done]
    generalize (s.beginAlone f).tryBegin = t at hframe hcount hevent ⊢
    unfold Counts at hcount ⊢
    rw [State.fld_settle]
    exact ⟨hframe, hcount, hevent⟩

end Sys2Proof.Machine
end

section
/-! SUPPORT. The report of a stall, and the statement about it (R118). -/

namespace Sys2Proof.Machine

variable (s : State)

/-- A stall that has been told, or any while the report is switched off, is not reported. -/
theorem State.stallReport_silent {p : Producer} {x : Stalled} (hx : s.cb.stalled.find? (fun y => y.producer = p) = some x)
    (hoff : x.told = true ∨ s.fld F.CB_STALL_WD.LIMIT = 0) : s.stallReport p = s := by
  unfold State.stallReport
  simp only [hx, hoff, if_true]

/-- A stall that has not been told is marked and reported. -/
theorem State.stallReport_tells {p : Producer} {x : Stalled} (hx : s.cb.stalled.find? (fun y => y.producer = p) = some x)
    (htold : x.told = false) (hon : s.fld F.CB_STALL_WD.LIMIT ≠ 0) :
    s.stallReport p = ({ s with cb := { s.cb with
        stalled := s.cb.stalled.map (fun y => if y = x then { y with told := true } else y) } } : State).raise
      Src.callBoard E.CB_STALL [x.source, 32 * x.word.prio + s.placeGroup x.word.cls x.word.group] := by
  unfold State.stallReport
  simp only [hx, htold, hon, Bool.false_eq_true, or_self, if_false]

/-- Settles O21: a stall is marked and reported, one that is marked changes nothing, and the limit is read from the register table. -/
theorem stallReport : Obligations.Stall_report := by
  unfold Obligations.Stall_report
  refine ⟨?tells, ?silent, ?limit⟩
  case tells =>
    rintro s p x hup hx ⟨htold, hon⟩ hroom
    change Answers (s.done (s.when s.evtUp (s.stallReport p))) _
    rw [hup, State.when_true, s.stallReport_tells hx htold hon, answers_done]
    exact ⟨Raises.settle (State.raises_after _ _ _ rfl rfl hup hroom), State.raise_cb _ _ _ _, State.raise_regs _ _ _ _ hup hroom⟩
  case silent =>
    intro s p x hx hoff
    change s.done (s.when s.evtUp (s.stallReport p)) = _
    rw [s.stallReport_silent hx hoff, State.when, ite_self]
    exact s.done_of rfl rfl
  case limit => exact (State.reset_fld (f := F.CB_STALL_WD.LIMIT) (v := 1000) (by decide +kernel)).trans (by decide)

end Sys2Proof.Machine
end

section
/-! SUPPORT. Which calls a consumer may take, what dispatches leave of the Call Board, and the single dispatch (R105, R108 to R111,
R117). -/

namespace Sys2Proof.Machine

variable (s : State)

/-! ### Calls that may be taken (R109) -/

theorem State.mem_queue_of_bestCall {c : Consumer} {r : CallRec} (h : s.bestCall c = some r) : r ∈ s.cb.queue := by
  obtain ⟨p, -, hp⟩ := List.exists_of_findSome?_eq_some h
  obtain ⟨g, -, hg⟩ := List.exists_of_findSome?_eq_some hp
  exact List.mem_of_find?_eq_some hg

theorem State.mem_queue_of_nextMatch {c : Consumer} {r : CallRec} (h : s.nextMatch = some (c, r)) : r ∈ s.cb.queue := by
  have hmatch : (c, r) ∈ s.matches_ := by
    unfold State.nextMatch at h
    split at h
    next m hm =>
      cases h
      exact List.mem_of_find?_eq_some hm
    next => exact List.mem_of_mem_head? h
  obtain ⟨d, -, hd⟩ := List.mem_filterMap.1 hmatch
  obtain ⟨x, hx, hpair⟩ := Option.map_eq_some_iff.1 hd
  cases hpair
  exact s.mem_queue_of_bestCall hx

/-- A consumer scans its own groups whatever `STEAL` says. -/
theorem State.own_subset_scanOrder (c : Consumer) : c.own ⊆ s.scanOrder c := by
  intro g hg
  unfold State.scanOrder
  cases c with
  | re n => exact List.mem_append_left _ (List.mem_append_left _ hg)
  | fe n => exact List.mem_append_left _ (List.mem_append_left _ hg)
  | sm n => exact hg
  | blk => exact hg

theorem mem_priorities {p : Nat} (h : p < 8) : p ∈ ([7, 6, 5, 4, 3, 2, 1, 0] : List Nat) := by
  simp only [List.mem_cons, List.not_mem_nil, or_false]
  omega

/-- The only call queued is what a consumer of its class that serves its group takes. -/
theorem State.bestCall_only {c : Consumer} {r : CallRec} (hqueue : s.cb.queue = [r]) (hcls : r.word.cls = c.cls) (hprio : r.word.prio < 8)
    (hown : c.own.contains r.list = true) : s.bestCall c = some r := by
  have hlist : r.list ∈ s.scanOrder c := s.own_subset_scanOrder c (List.contains_iff_mem.1 hown)
  have hoffered : s.oldestIn c r.word.prio r.list = some r := by
    unfold State.oldestIn
    rw [hqueue, List.find?_cons_of_pos]
    exact decide_eq_true ⟨hcls, rfl, rfl, .inr hown⟩
  have htaken : s.bestCall c ≠ none := fun hnone => by
    have hscan := List.findSome?_eq_none_iff.1 (List.findSome?_eq_none_iff.1 hnone _ (mem_priorities hprio)) _ hlist
    rw [hoffered] at hscan
    cases hscan
  obtain ⟨x, hx⟩ := Option.ne_none_iff_exists'.1 htaken
  have hmem := s.mem_queue_of_bestCall hx
  rw [hqueue, List.mem_singleton] at hmem
  rw [hx, hmem]

/-! ### The single dispatch -/

theorem State.dispatchAll_empty (h : s.cb.queue = []) : s.dispatchAll = s := by
  unfold State.dispatchAll
  rw [h]
  rfl

/-- A waiting consumer with a port and a running clock takes the only call queued, which it may take. -/
theorem State.dispatchAll_one {c : Consumer} {r : CallRec} (hwaiting : s.cb.waiting = [c]) (hqueue : s.cb.queue = [r])
    (hcls : r.word.cls = c.cls) (hprio : r.word.prio < 8) (hown : c.own.contains r.list = true) (hclock : s.clocked c = true)
    (hport : s.portBusy c = false) (hmode : s.fld F.CB_MODE.MODE ≠ modeTest) : s.dispatchAll = s.deliver c r := by
  have hmatches : s.matches_ = [(c, r)] := by
    unfold State.matches_
    simp [hwaiting, hclock, hport, s.bestCall_only hqueue hcls hprio hown]
  have hnext : s.nextMatch = some (c, r) := by
    unfold State.nextMatch
    rw [hmatches, List.find?_cons_of_pos (a := (c, r)) hown]
  unfold State.dispatchAll
  rw [hqueue, hwaiting]
  change s.dispatchN 1 = _
  simp only [State.dispatchN, hmode, false_and, if_false, hnext]

theorem State.deliver_cb (c : Consumer) (r : CallRec) : (s.deliver c r).cb = { s.cb with
    queue := s.cb.queue.filter (·.slot ≠ r.slot)
    waiting := s.cb.waiting.filter (· ≠ c)
    held := s.cb.held ++ [(c, { r with handoff := true })] } := by
  cases c <;> rfl

theorem State.deliver_dispatchCount (c : Consumer) (r : CallRec) :
    (s.deliver c r).fld F.CB_DISPATCH_CNT.COUNT = (s.fld F.CB_DISPATCH_CNT.COUNT + 1) % 2 ^ 64 := by
  have hcount : ∀ t : State, t.regs = s.regs →
      (t.bump F.CB_DISPATCH_CNT.COUNT).fld F.CB_DISPATCH_CNT.COUNT = (s.fld F.CB_DISPATCH_CNT.COUNT + 1) % 2 ^ 64 := fun t ht => by
    rw [← State.fld_eq_of_regs ht]
    exact t.fld_setFld_same F.CB_DISPATCH_CNT.COUNT _ (by decide)
  cases c <;> exact hcount _ rfl

/-! ### Calls that stand in the ready lists or have been dispatched -/

theorem State.hasCall_iff {slot list resv : Nat} {w : CallWord} : s.hasCall slot w list resv = true ↔
    ∃ r, (r ∈ s.cb.queue ∨ r ∈ s.cb.held.map (·.2)) ∧ r.slot = slot ∧ r.word = w ∧ r.list = list ∧ r.resv = resv := by
  unfold State.hasCall
  simp only [List.any_eq_true, List.mem_append, decide_eq_true_eq]

/-- A slot stands for one call: that call is queued or dispatched, and no other one is queued under the slot. -/
def State.slotHolds (s : State) (slot : Nat) (w : CallWord) (list resv : Nat) : Prop :=
  s.hasCall slot w list resv = true ∧ ∀ r ∈ s.cb.queue, r.slot = slot → r.word = w ∧ r.list = list ∧ r.resv = resv

/-- From `s` to `t` calls may have been dispatched: none of the held calls is lost, a slot stands for the call it stood for, and the
Call Board's other parts stand. -/
structure Delivers (s t : State) : Prop where
  rest : t.cb = { s.cb with queue := t.cb.queue, held := t.cb.held, waiting := t.cb.waiting }
  held : s.cb.held <+: t.cb.held
  slots : ∀ {slot w list resv}, s.slotHolds slot w list resv → t.slotHolds slot w list resv

theorem Delivers.refl : Delivers s s := ⟨rfl, ⟨[], List.append_nil _⟩, id⟩

theorem Delivers.trans {s t u : State} (h : Delivers s t) (h2 : Delivers t u) : Delivers s u := by
  refine ⟨?_, h.held.trans h2.held, h2.slots ∘ h.slots⟩
  have hu := h2.rest
  rw [h.rest] at hu
  exact hu

theorem Delivers.deliver (c : Consumer) {r : CallRec} (hr : r ∈ s.cb.queue) : Delivers s (s.deliver c r) := by
  have hcb := s.deliver_cb c r
  refine ⟨by rw [hcb], by rw [hcb]; exact ⟨_, rfl⟩, ?_⟩
  rintro slot w list resv ⟨hcall, honly⟩
  refine ⟨?_, fun x hx => ?_⟩
  · obtain ⟨x, hx, hslot, hrest⟩ := s.hasCall_iff.1 hcall
    rw [State.hasCall_iff, hcb]
    simp only [List.map_append, List.mem_append, List.mem_filter, List.map_cons, List.map_nil, List.mem_singleton]
    obtain hx | hx := hx
    · by_cases hsame : x.slot = r.slot
      · exact ⟨{ r with handoff := true }, .inr (.inr rfl), hsame.symm.trans hslot, honly r hr (hsame.symm.trans hslot)⟩
      · exact ⟨x, .inl ⟨hx, decide_eq_true hsame⟩, hslot, hrest⟩
    · exact ⟨x, .inr (.inl hx), hslot, hrest⟩
  · rw [hcb] at hx
    exact honly x (List.mem_of_mem_filter hx)

theorem Delivers.dispatchN (n : Nat) : Delivers s (s.dispatchN n) := by
  induction n generalizing s with
  | zero => exact Delivers.refl s
  | succ n ih =>
    unfold State.dispatchN
    split
    · exact Delivers.refl s
    · split
      next hmatch => exact (Delivers.deliver s _ (s.mem_queue_of_nextMatch hmatch)).trans (ih _)
      · exact Delivers.refl s

theorem Delivers.dispatchAll : Delivers s s.dispatchAll := by
  unfold State.dispatchAll
  split
  · exact Delivers.refl s
  · exact Delivers.dispatchN s _

theorem State.heldCall_of_kept {s t : State} {c : Consumer} {r : CallRec} (h : s.cb.held <+: t.cb.held) (hr : s.heldCall c = some r) :
    t.heldCall c = some r := by
  obtain ⟨x, hx, hxr⟩ := Option.map_eq_some_iff.1 hr
  unfold State.heldCall
  rw [h.find?_eq_some hx, Option.map_some, hxr]

end Sys2Proof.Machine
end

section
/-! SUPPORT. What an accepted post leaves, and what its producer does with the outcome (R100, R103 to R107). -/

namespace Sys2Proof.Machine

variable (s : State)

/-! ### Slots that are free (R104, R117) -/

theorem length_le_slotSum (l : List CallRec) : l.length ≤ slotSum l := by
  induction l with
  | nil => exact Nat.zero_le _
  | cons r l ih =>
    simp only [slotSum, List.map_cons, List.sum_cons, List.length_cons, CallRec.slots] at ih ⊢
    omega

/-- Where a post finds a slot, fewer than 8,192 calls hold one. -/
theorem State.calls_lt_of_slotSpace {source : Nat} {w : CallWord} (h : s.slotSpace source w = true) :
    s.cb.queue.length + s.cb.handed.length + s.cb.held.length < 8192 := by
  have hfree : 1 + w.children + (if usesReserve source then 0 else s.fld F.CB_RESERVE.RESERVE) ≤ s.slotsFree := of_decide_eq_true h
  have hheld := List.length_eq_length_filter_add (l := s.cb.held.map (·.2)) (·.handoff)
  have hqueue := length_le_slotSum s.cb.queue
  have hhanded := length_le_slotSum s.cb.handed
  have hhandoff := length_le_slotSum ((s.cb.held.map (·.2)).filter (·.handoff))
  have hrun := length_le_slotSum ((s.cb.held.map (·.2)).filter (fun c => !c.handoff))
  rw [List.length_map] at hheld
  unfold State.slotsFree State.slotsQueued State.slotsDispatched State.slotsHandoff at hfree
  omega

theorem State.slotSpace_of_findsSpace {source : Nat} {w : CallWord} (h : s.findsSpace source w = true) : s.slotSpace source w = true :=
  (Bool.and_eq_true_iff.1 h).2

/-- A call queued under a free slot number is the one its slot stands for. -/
theorem State.slotHolds_of_queued {s t : State} {r : CallRec} (hfree : s.slotUsed r.slot = false)
    (hqueue : t.cb.queue = s.cb.queue ++ [r]) : t.slotHolds r.slot r.word r.list r.resv := by
  refine ⟨t.hasCall_iff.2 ⟨r, .inl ?_, rfl, rfl, rfl, rfl⟩, fun x hx hslot => ?_⟩
  · rw [hqueue]
    exact List.mem_append_right _ (List.mem_singleton_self _)
  · rw [hqueue, List.mem_append, List.mem_singleton] at hx
    obtain hx | rfl := hx
    · have hused : s.slotUsed r.slot = true := by
        unfold State.slotUsed
        rw [List.any_eq_true.2 ⟨x, hx, decide_eq_true hslot⟩]
        rfl
      rw [hfree] at hused
      cases hused
    · exact ⟨rfl, rfl, rfl⟩

/-! ### Words accepted (R104, R106) -/

/-- The call that an accepted word becomes. -/
def State.postedCall (s : State) (source parent : Nat) (w : CallWord) (resv : Nat) : CallRec :=
  ⟨s.callSlot, { w with producer := source, parent := parent }, s.placeGroup w.cls w.group, resv, false, false, false⟩

theorem State.enqueue_board (source : Nat) (w : CallWord) : (s.enqueue source w).1.cb =
    { s.cb with queue := s.cb.queue ++ [s.postedCall source 0xFFFF w w.children] } := by
  unfold State.enqueue
  dsimp only
  split <;> rfl

theorem State.enqueueChild_board {c : Consumer} {r : CallRec} (w : CallWord) (hr : s.heldCall c = some r) :
    (s.enqueueChild c w).1.cb = { s.cb with
      queue := s.cb.queue ++ [s.postedCall c.source r.slot w 0]
      held := s.cb.held.map (fun h => if h.1 = c then (h.1, { h.2 with resv := h.2.resv - 1, posted := true }) else h) } := by
  obtain ⟨x, hx, rfl⟩ := Option.map_eq_some_iff.1 hr
  unfold State.enqueueChild
  simp only [hx]
  split <;> rfl

/-- A post is counted once, whether or not its call is placed in another group. -/
theorem State.enqueueChild_count (c : Consumer) (w : CallWord) :
    (s.enqueueChild c w).1.fld F.CB_POST_CNT.COUNT = (s.fld F.CB_POST_CNT.COUNT + 1) % 2 ^ 64 :=
  (s.enqueue_posts c.source w).2.2.2

theorem DispatchFrame.fld {s t : State} (h : DispatchFrame s t) {f : Fld} (hf : f.reg ≠ R.CB_DISPATCH_CNT) : t.fld f = s.fld f := by
  unfold State.fld
  rw [h.2.1 _ hf]

/-- A word that is queued under a free slot number and counted is posted, whatever is dispatched then. -/
theorem State.posted_of_queued {s t : State} {source parent resv : Nat} {w : CallWord} (hfree : s.slotUsed s.callSlot = false)
    (hqueue : t.cb.queue = s.cb.queue ++ [s.postedCall source parent w resv])
    (hcount : t.fld F.CB_POST_CNT.COUNT = (s.fld F.CB_POST_CNT.COUNT + 1) % 2 ^ 64) : Posted s t.dispatchAll source parent w resv :=
  ⟨((DispatchFrame.dispatchAll t).fld (by decide)).trans hcount,
    ((Delivers.dispatchAll t).slots (State.slotHolds_of_queued (r := s.postedCall source parent w resv) hfree hqueue)).1⟩

theorem State.posted_enqueue {source : Nat} {w : CallWord} (hspace : s.findsSpace source w = true) :
    Posted s (s.enqueue source w).1.dispatchAll source 0xFFFF w w.children :=
  State.posted_of_queued (s.callSlot_free (s.calls_lt_of_slotSpace (s.slotSpace_of_findsSpace hspace)))
    (congrArg CbSt.queue (s.enqueue_board source w)) (s.enqueue_posts source w).2.2.2

/-- A valid word that finds space is queued, and what can be dispatched is. -/
theorem State.cbPost_accepts {p : Producer} {source ref : Nat} {w : CallWord} (hvalid : s.callInvalid w 0 none = false)
    (hspace : s.findsSpace source w = true) :
    s.cbPost p source ref w 0 = ((s.enqueue source w).1.dispatchAll, .ok s.callSlot) := by
  unfold State.cbPost
  simp only [hvalid, hspace, Bool.false_eq_true, if_false, if_true]
  rfl

/-- A post leaves the stalled posts and those behind them. -/
theorem State.enqueue_stalled (source : Nat) (w : CallWord) : (s.enqueue source w).1.dispatchAll.cb.stalled = s.cb.stalled ∧
    (s.enqueue source w).1.dispatchAll.cb.behind = s.cb.behind := by
  rw [(Delivers.dispatchAll _).rest, s.enqueue_board source w]
  exact ⟨rfl, rfl⟩

/-! ### What a producer does with an accepted post (R103) -/

/-- From `s` to `t` of the Call Board only the calls handed to the Blocking Unit may have changed, and no post has been counted. -/
structure KeepsBoard (s t : State) : Prop where
  cb : t.cb = { s.cb with handed := t.cb.handed }
  count : t.rv R.CB_POST_CNT = s.rv R.CB_POST_CNT

theorem KeepsBoard.refl : KeepsBoard s s := ⟨rfl, rfl⟩

theorem KeepsBoard.of_eq {s t : State} (hcb : t.cb = s.cb) (hcount : t.rv R.CB_POST_CNT = s.rv R.CB_POST_CNT) : KeepsBoard s t :=
  ⟨by rw [hcb], hcount⟩

theorem KeepsBoard.trans {s t u : State} (h : KeepsBoard s t) (h2 : KeepsBoard t u) : KeepsBoard s u := by
  refine ⟨?_, h2.count.trans h.count⟩
  have hu := h2.cb
  rw [h.cb] at hu
  exact hu

theorem KeepsBoard.foldl {α : Type} {f : State → α → State} (hf : ∀ s a, KeepsBoard s (f s a)) (l : List α) (s : State) :
    KeepsBoard s (l.foldl f s) := by
  induction l generalizing s with
  | nil => exact KeepsBoard.refl s
  | cons a l ih => exact (hf s a).trans (ih _)

theorem KeepsBoard.setTdm (x : TdmSt) : KeepsBoard s (s.setTdm x) := ⟨rfl, rfl⟩

theorem KeepsBoard.bump {f : Fld} (h : R.CB_POST_CNT ≠ f.reg) : KeepsBoard s (s.bump f) := .of_eq rfl (s.rv_setFld_other _ h)

theorem KeepsBoard.mirrorOp (ring : Nat) (desc : List Byte) (result : Nat) (data : List Byte) (src : Option (Nat × Nat × Nat)) (copy : Bool) :
    KeepsBoard s (s.mirrorOp ring desc result data src copy) :=
  KeepsBoard.foldl (fun t _ => (KeepsBoard.setTdm t _).trans (KeepsBoard.bump _ (f := F.TDM_MIRROR_CNT.COUNT) (by decide))) _ s

theorem KeepsBoard.mirrorCompile (id : Nat) : KeepsBoard s (s.mirrorCompile id) := by
  unfold State.mirrorCompile
  split
  next e _ =>
    split
    · exact (KeepsBoard.mirrorOp s e.ring e.bytes 0 [] none false).trans ⟨rfl, rfl⟩
    · exact KeepsBoard.refl s
  next => exact KeepsBoard.refl s

/-- The counts of a ring's descriptors lie apart from the Call Board's. -/
theorem KeepsBoard.finish (id status result : Nat) : KeepsBoard s (s.finish id status result) := by
  refine .of_eq (s.finish_cb id status result) ?_
  cases he : s.entry? id with
  | none => unfold State.finish; rw [he]
  | some e =>
    exact s.finish_rv status result he (by unfold R.CB_POST_CNT R.HST_RING_DONE_CNT; omega) (by unfold R.CB_POST_CNT R.HST_RING_ERR_CNT; omega)

theorem KeepsBoard.rootPosted (idx : Nat) (r : Nat × Nat) : KeepsBoard s (s.rootPosted idx r) := by
  unfold State.rootPosted
  split
  · exact KeepsBoard.refl s
  · exact ⟨rfl, rfl⟩

theorem KeepsBoard.settleAccepted (p : Producer) (ref : Nat) (w : CallWord) (slot : Nat) :
    KeepsBoard s (s.settlePost p ref w (.ok slot)) := by
  unfold State.settlePost
  cases p with
  | host n =>
    refine KeepsBoard.trans ?_ (KeepsBoard.finish _ ref St.ok slot)
    split
    · exact KeepsBoard.mirrorCompile s ref
    · exact KeepsBoard.refl s
  | blocking =>
    dsimp only
    split
    · exact KeepsBoard.rootPosted s _ _
    · exact ⟨rfl, rfl⟩
  | core n => exact ⟨rfl, rfl⟩
  | trigger slot => exact KeepsBoard.refl s
  | schedule => exact KeepsBoard.refl s
  | link n => exact KeepsBoard.refl s
  | other source => exact KeepsBoard.refl s

theorem KeepsBoard.fld {s t : State} (h : KeepsBoard s t) : t.fld F.CB_POST_CNT.COUNT = s.fld F.CB_POST_CNT.COUNT :=
  congrArg (fun v => bits v 0 64) h.count

theorem KeepsBoard.posted {s t u : State} (h : KeepsBoard t u) {source parent resv : Nat} {w : CallWord}
    (hp : Posted s t source parent w resv) : Posted s u source parent w resv := by
  refine ⟨h.fld.trans hp.1, ?_⟩
  unfold State.hasCall
  rw [h.cb]
  exact hp.2

/-! ### A whole word of a producer that is not stalled (R103, R105) -/

/-- A word that is no child post goes the way of its producer. -/
theorem State.postFrom_whole {p : Producer} {w : CallWord} (ref reserved : Nat) (hfree : s.producerStalled p = false)
    (hchild : w.child = false) : s.postFrom p ref w reserved =
      (s.cbPost p (producerSource p) ref w reserved).1.settlePost p ref w (s.cbPost p (producerSource p) ref w reserved).2 := by
  unfold State.postFrom
  rw [hfree, if_neg Bool.false_ne_true, hchild]
  cases p <;> rfl

/-- A valid word that finds space is posted, and its producer goes on. -/
theorem State.postFrom_accepts {p : Producer} {w : CallWord} (ref : Nat) (hfree : s.producerStalled p = false) (hchild : w.child = false)
    (hvalid : s.callInvalid w 0 none = false) (hspace : s.findsSpace (producerSource p) w = true) :
    s.postFrom p ref w 0 = (s.enqueue (producerSource p) w).1.dispatchAll.settlePost p ref w (.ok s.callSlot) := by
  rw [s.postFrom_whole ref 0 hfree hchild, s.cbPost_accepts hvalid hspace]

theorem State.postFrom_posted {p : Producer} {w : CallWord} (ref : Nat) (hfree : s.producerStalled p = false) (hchild : w.child = false)
    (hvalid : s.callInvalid w 0 none = false) (hspace : s.findsSpace (producerSource p) w = true) :
    Posted s (s.postFrom p ref w 0) (producerSource p) 0xFFFF w w.children := by
  rw [s.postFrom_accepts ref hfree hchild hvalid hspace]
  exact (KeepsBoard.settleAccepted _ p ref w _).posted (s.posted_enqueue hspace)

end Sys2Proof.Machine
end

section
/-! SUPPORT. The retirement of an engine's render call: its cost is learnt, its item has run, and its frame moves on (R108, R122, R126,
R213). -/

namespace Sys2Proof.Machine

variable (s : State)

/-! ### A frame that moves on (R126, R213) -/

/-- What a frame that moves on leaves of an item: its number, its class, and how far its first call has come. -/
def Item.firstCall (i : Item) : Nat × Bool × Nat := (i.num, i.render, i.p1)

/-- A frame's record keeps its number and the first calls of its items. -/
def FrameRec.KeepsFirst (a b : FrameRec) : Prop := b.seq = a.seq ∧ b.plan.map Item.firstCall = a.plan.map Item.firstCall

theorem FrameRec.KeepsFirst.refl (a : FrameRec) : a.KeepsFirst a := ⟨rfl, rfl⟩

theorem FrameRec.KeepsFirst.trans {a b c : FrameRec} (h : a.KeepsFirst b) (h2 : b.KeepsFirst c) : a.KeepsFirst c :=
  ⟨h2.1.trans h.1, h2.2.trans h.2⟩

/-- Every item of this number that is rendered has run. -/
def FrameRec.rendered (num : Nat) (f : FrameRec) : Bool := f.plan.all (fun x => !(x.num == num && x.render) || x.p1 == 2)

theorem FrameRec.KeepsFirst.rendered {a b : FrameRec} (h : a.KeepsFirst b) {num : Nat} (ha : a.rendered num = true) :
    b.rendered num = true := by
  have hfirst : ∀ f : FrameRec,
      f.rendered num = (f.plan.map Item.firstCall).all (fun x => !(x.1 == num && x.2.1) || x.2.2 == 2) := fun f => by
    rw [List.all_map]
    rfl
  rw [hfirst, h.2, ← hfirst]
  exact ha

/-- From `s` to `t` frames may have moved on: the first calls of their items stand, and so do the Call Board, the Blocking Unit, the
power of the clusters and the health of the engines. -/
structure MovesOn (s t : State) : Prop where
  frames : List.Forall₂ FrameRec.KeepsFirst s.frames t.frames
  cb : t.cb = s.cb
  blk : t.blk = s.blk
  off : t.off = s.off
  rv : ∀ o ∈ [R.BLK_HEALTH_RE, R.BLK_HEALTH_FE], t.rv o = s.rv o

theorem MovesOn.of_parts {s t : State} (hframes : t.frames = s.frames) (hcb : t.cb = s.cb) (hblk : t.blk = s.blk) (hoff : t.off = s.off)
    (hrv : ∀ o ∈ [R.BLK_HEALTH_RE, R.BLK_HEALTH_FE], t.rv o = s.rv o) : MovesOn s t where
  frames := by rw [hframes]; exact List.forall₂_same.2 fun a _ => FrameRec.KeepsFirst.refl a
  cb := hcb
  blk := hblk
  off := hoff
  rv := hrv

theorem MovesOn.refl : MovesOn s s := .of_parts rfl rfl rfl rfl fun _ _ => rfl

theorem MovesOn.trans {s t u : State} (h : MovesOn s t) (h2 : MovesOn t u) : MovesOn s u where
  frames := forall₂_trans (r := FrameRec.KeepsFirst) (fun ha hb => ha.trans hb) h.frames h2.frames
  cb := h2.cb.trans h.cb
  blk := h2.blk.trans h.blk
  off := h2.off.trans h.off
  rv := fun o ho => (h2.rv o ho).trans (h.rv o ho)

theorem MovesOn.foldl {α : Type} {f : State → α → State} (hf : ∀ s a, MovesOn s (f s a)) (l : List α) (s : State) :
    MovesOn s (l.foldl f s) := by
  induction l generalizing s with
  | nil => exact MovesOn.refl s
  | cons a l ih => exact (hf s a).trans (ih _)

theorem MovesOn.updFrame (seq : Nat) {f : FrameRec → FrameRec} (hf : ∀ a, FrameRec.KeepsFirst a (f a)) : MovesOn s (s.updFrame seq f) where
  frames := s.forall₂_updFrame FrameRec.KeepsFirst.refl seq fun a _ => hf a
  cb := rfl
  blk := rfl
  off := rfl
  rv := fun _ _ => rfl

theorem MovesOn.setRv {off : Nat} (v : Nat) (h : off ∉ [R.BLK_HEALTH_RE, R.BLK_HEALTH_FE]) : MovesOn s (s.setRv off v) :=
  .of_parts rfl rfl rfl rfl fun _ ho => s.rv_setRv_other v fun e => h (e ▸ ho)

theorem MovesOn.raise (source code : Nat) (args : List Nat) : MovesOn s (s.raise source code args) := by
  have hcounters : ∀ o ∈ [R.BLK_HEALTH_RE, R.BLK_HEALTH_FE], o ∉ eventCounters := by decide
  exact .of_parts (s.raise_frames _ _ _) (s.raise_cb _ _ _) (s.raise_blk _ _ _) (s.raise_off _ _ _) fun o ho =>
    s.raise_rv_of_notMem source code args (hcounters o ho)

/-- What a feed's outcome is counted and told by. -/
theorem MovesOn.countAndTell {p : Prop} [Decidable p] {f : Fld} (source code : Nat) (args : List Nat)
    (h : f.reg ∉ [R.BLK_HEALTH_RE, R.BLK_HEALTH_FE]) : MovesOn s (if p then (s.bump f).raise source code args else s) := by
  split
  · exact (MovesOn.setRv s _ h).trans (MovesOn.raise _ _ _ _)
  · exact MovesOn.refl s

theorem feedPower_notMem (n : Nat) : R.FIX_FEED_POWER n ∉ [R.BLK_HEALTH_RE, R.BLK_HEALTH_FE] := by
  simp [R.FIX_FEED_POWER, R.BLK_HEALTH_RE, R.BLK_HEALTH_FE]
  omega

theorem feedScale_notMem (n : Nat) : R.FIX_FEED_SCALE n ∉ [R.BLK_HEALTH_RE, R.BLK_HEALTH_FE] := by
  simp [R.FIX_FEED_SCALE, R.BLK_HEALTH_RE, R.BLK_HEALTH_FE]
  omega

theorem MovesOn.feedBarrier (f : FrameRec) (feed : Nat) : MovesOn s (s.feedBarrier f feed) := by
  unfold State.feedBarrier
  dsimp only
  refine MovesOn.trans ?_ (MovesOn.setRv _ _ (feedScale_notMem feed))
  refine MovesOn.trans ?_ (MovesOn.updFrame _ f.seq fun _ => ⟨rfl, rfl⟩)
  refine MovesOn.trans ?_ (MovesOn.setRv _ _ (feedPower_notMem feed))
  exact (MovesOn.countAndTell s (f := F.FIX_HOLD_CNT.COUNT) _ _ _ (by decide)).trans
    (MovesOn.countAndTell _ (f := F.FIX_DARK_CNT.COUNT) _ _ _ (by decide))

theorem MovesOn.barrier (f : FrameRec) : MovesOn s (s.barrier f) := MovesOn.foldl (fun t n => MovesOn.feedBarrier t f n) _ s

/-- The start of pass 2 marks the second calls of items whose first was lost. -/
theorem FrameRec.keepsFirst_lost (f : FrameRec) (phase : Nat) : f.KeepsFirst
    { f with phase := phase, plan := f.plan.map (fun i => if !i.render ∧ i.p1 = 3 then { i with p2 := 3 } else i) } := by
  refine ⟨rfl, ?_⟩
  rw [List.map_map]
  refine List.map_congr_left fun i _ => ?_
  dsimp only [Function.comp]
  split <;> rfl

theorem MovesOn.advancePhase (seq fuel : Nat) : MovesOn s (s.advancePhase seq fuel) := by
  induction fuel generalizing s with
  | zero => exact MovesOn.refl s
  | succ fuel ih =>
    have hphase : ∀ v, MovesOn s (s.updFrame seq (fun f => { f with phase := v })) := fun v => MovesOn.updFrame s seq fun _ => ⟨rfl, rfl⟩
    unfold State.advancePhase
    split
    next => exact MovesOn.refl s
    next f _ =>
      dsimp only
      split
      · exact hphase 5
      split
      · exact (hphase 2).trans (ih _)
      split
      · exact ((MovesOn.updFrame s seq fun a => a.keepsFirst_lost 3).trans (MovesOn.barrier _ f)).trans (ih _)
      split
      · split
        · exact MovesOn.updFrame s seq fun _ => ⟨rfl, rfl⟩
        · exact hphase 5
      · exact MovesOn.refl s

theorem MovesOn.frame_rendered {s t : State} (h : MovesOn s t) {seq num : Nat}
    (hs : (s.frame? seq).any (FrameRec.rendered num) = true) : (t.frame? seq).any (FrameRec.rendered num) = true :=
  any_find_of_forall₂ (r := FrameRec.KeepsFirst) (fun hab => hab.1) (fun hab => hab.rendered) h.frames seq hs

/-- Whether a consumer serves rests on the health masks, the power of its cluster, and whether that is parked. -/
theorem State.serves_congr {s t : State} (hrv : ∀ o ∈ [R.BLK_HEALTH_RE, R.BLK_HEALTH_FE], t.rv o = s.rv o) (hoff : t.off = s.off)
    (hparked : t.blk.parked = s.blk.parked) (c : Consumer) : t.serves c = s.serves c := by
  have hcluster : ∀ k, t.clusterUp k = s.clusterUp k := fun k => by
    unfold State.clusterUp State.powered
    rw [hoff, hparked]
  cases c with
  | re n =>
    change (bit (bits (t.rv R.BLK_HEALTH_RE) 0 16) n && t.clusterUp (n / 4)) = _
    rw [hrv _ (by decide), hcluster]
    rfl
  | fe n =>
    change (bit (bits (t.rv R.BLK_HEALTH_FE) 0 32) n && t.clusterUp (4 + n / 8)) = _
    rw [hrv _ (by decide), hcluster]
    rfl
  | sm n => rfl
  | blk => rfl

/-! ### The cost and the item of a render call (R108, R122) -/

theorem State.callFrame_of_frame {seq : Nat} {f : FrameRec} (h : s.frame? seq = some f) : s.callFrame? seq = some f := by
  unfold State.frame? at h
  unfold State.callFrame?
  rw [List.find?_append, h]
  rfl

/-- What a call of an item reports stands in the item's history. -/
theorem ItemHist.reported_cost (h : ItemHist) (kind num cost base size : Nat) :
    (h.reported kind num cost base size).measured = cost ∧ (h.reported kind num cost base size).ranBy = num + 1 := by
  unfold ItemHist.reported
  dsimp only
  split <;> exact ⟨rfl, rfl⟩

/-- The cost of a render call goes to its item's history. -/
theorem State.learn_render {c : Consumer} {w : CallWord} (cost : Nat) {f : FrameRec} {i : Item} (hkind : w.kind = kRenderTile)
    (hframe : s.frame? w.frame = some f) (hitem : f.plan.find? (fun x => x.num = w.item ∧ x.render = true) = some i) :
    ∃ h : ItemHist, s.learn c w cost = s.setHist (histKey true i.num) h ∧ h.measured = cost ∧ h.ranBy = c.num + 1 := by
  have hrender : (w.kind == kRenderTile) = true := beq_iff_eq.2 hkind
  unfold State.learn
  simp only [s.callFrame_of_frame hframe, hrender, hitem, Bool.not_true, Bool.false_and, Bool.false_eq_true, if_false]
  exact ⟨_, rfl, ItemHist.reported_cost _ _ _ _ _ _⟩

/-- A frame in which a render call's item has run. -/
def FrameRec.markRendered (num : Nat) (f : FrameRec) : FrameRec :=
  { f with plan := f.plan.map (fun i => if i.num = num ∧ i.render = true then { i with p1 := 2 } else i) }

theorem FrameRec.markRendered_rendered (num : Nat) (f : FrameRec) : (f.markRendered num).rendered num = true := by
  unfold FrameRec.rendered FrameRec.markRendered
  rw [List.all_map, List.all_eq_true]
  intro i _
  dsimp only [Function.comp]
  split
  next => exact Bool.or_true _
  next h =>
    have hother : (i.num == num && i.render) = false := by simpa using h
    rw [hother]
    rfl

theorem State.markRetired_render {w : CallWord} (hkind : w.kind = kRenderTile) :
    s.markRetired w = s.updFrame w.frame (FrameRec.markRendered w.item) := by
  have hpass2 : ¬ kRenderTile = kPass2 := by decide
  unfold State.markRetired
  simp only [hkind, hpass2, if_false, BEq.rfl]
  rfl

/-- What the retirement of a render call leaves: the consumer's call is gone and nothing else of the Call Board, the item's history holds
the cost and who ran it, and the frame's item has run. -/
theorem State.retireRun_render {c : Consumer} {r : CallRec} (cost : Nat) {f : FrameRec} {i : Item} (hkind : r.word.kind = kRenderTile)
    (hframe : s.frame? r.word.frame = some f) (hitem : f.plan.find? (fun x => x.num = r.word.item ∧ x.render = true) = some i) :
    (s.retireRun c r cost).cb = { s.cb with held := s.cb.held.filter (·.1 ≠ c) } ∧ (s.retireRun c r cost).serves c = s.serves c ∧
      ((s.retireRun c r cost).hist (histKey true i.num)).measured = cost ∧
      ((s.retireRun c r cost).hist (histKey true i.num)).ranBy = c.num + 1 ∧
      ((s.retireRun c r cost).frame? r.word.frame).any (FrameRec.rendered i.num) = true := by
  obtain ⟨h, hlearn, hcost, hran⟩ := (s.retire c).learn_render (c := c) cost hkind hframe hitem
  have hnum : i.num = r.word.item := by
    have hfound := List.find?_some hitem
    exact (of_decide_eq_true hfound).1
  have hother : ¬ kRenderTile = kCalCompile := by decide
  have hretire : s.retireRun c r cost =
      ((((s.retire c).setHist (histKey true i.num) h).updFrame r.word.frame (FrameRec.markRendered r.word.item)).advanceFrame
        r.word.frame).pruneGone := by
    unfold State.retireRun
    simp only [hkind, hother, if_false, hlearn, State.markRetired_render _ hkind]
  have hmoves : MovesOn (((s.retire c).setHist (histKey true i.num) h).updFrame r.word.frame (FrameRec.markRendered r.word.item))
      (s.retireRun c r cost) := by
    rw [hretire]
    exact (MovesOn.advancePhase _ _ 4).trans (.of_parts rfl rfl rfl rfl fun _ _ => rfl)
  have hhist : (s.retireRun c r cost).hist (histKey true i.num) = h := by
    unfold State.hist
    rw [hmoves.blk]
    exact FMap.get_put_same _ _ _ _
  refine ⟨hmoves.cb, State.serves_congr hmoves.rv hmoves.off (congrArg BlkSt.parked hmoves.blk) c, by rw [hhist, hcost],
    by rw [hhist, hran], hmoves.frame_rendered ?_⟩
  rw [State.frame_updFrame _ (f := FrameRec.markRendered r.word.item) fun _ => rfl, hnum]
  change (Option.map _ (s.frame? r.word.frame)).any _ = true
  rw [hframe]
  exact f.markRendered_rendered r.word.item

end Sys2Proof.Machine
end

section
/-! SUPPORT. Stalled posts, child posts, dispatch modes and the standbys of engines, and the statement about posts to the Call Board
(R98 to R116). -/

namespace Sys2Proof.Machine

variable (s : State)

/-! ### Outcomes that accept nothing (R100, R105) -/

theorem State.cbPost_invalid {p : Producer} {source ref : Nat} {w : CallWord} (h : s.callInvalid w 0 none = true) :
    s.cbPost p source ref w 0 = (s.noteInvalid source w.word0, .invalid) := by
  unfold State.cbPost
  rw [if_pos h, Nat.zero_mul, Nat.add_zero]

theorem State.cbPost_refused {p : Producer} {source ref : Nat} {w : CallWord} (hvalid : s.callInvalid w 0 none = false)
    (hspace : s.findsSpace source w = false) (hmode : s.fld F.CB_MODE.MODE ≠ modeService) :
    s.cbPost p source ref w 0 = (s.bump F.CB_REFUSED_CNT.COUNT, .refused) := by
  unfold State.cbPost
  simp only [hvalid, hspace, hmode, Bool.false_eq_true, if_false]

theorem State.cbPost_stalls {p : Producer} {source ref : Nat} {w : CallWord} (hvalid : s.callInvalid w 0 none = false)
    (hspace : s.findsSpace source w = false) (hmode : s.fld F.CB_MODE.MODE = modeService) :
    s.cbPost p source ref w 0 = ({ s with cb := { s.cb with stalled := s.cb.stalled ++ [⟨p, source, w, ref, false⟩] } }, .stalls) := by
  unfold State.cbPost
  simp only [hvalid, hspace, hmode, Bool.false_eq_true, if_false, if_true]

/-! ### Stalled posts (R105) -/

/-- A stalled post of the ring processor that is handed to the Blocking Unit and enters no list (R204). -/
def Stalled.isHanded (x : Stalled) : Bool :=
  match x.producer with
  | .host _ => x.word.kind == kCalCompile
  | _ => false

theorem State.stalledFits_eq (x : Stalled) :
    s.stalledFits x = if x.isHanded then s.slotSpace x.source x.word else s.findsSpace x.source x.word := by
  obtain ⟨p, source, w, ref, told⟩ := x
  cases p with
  | host n =>
    unfold State.stalledFits Stalled.isHanded
    simp only [beq_iff_eq]
  | _ => rfl

/-- How a stalled post reaches the Call Board. -/
def State.repost (s : State) (x : Stalled) : State × PostOut :=
  if x.isHanded then s.cbHand x.producer x.source x.ref x.word else s.cbPost x.producer x.source x.ref x.word 0

/-- Where no post has been held back, none is issued. -/
theorem State.issueBehind_none (h : s.cb.behind = []) : s.issueBehind s.cb.behind.length = s := by
  rw [h]
  rfl

/-- A stalled post that is accepted is no longer stalled. -/
def State.unstall (s : State) (x : Stalled) : State := { s with cb := { s.cb with stalled := s.cb.stalled.erase x } }

theorem State.acceptStalled_eq {x : Stalled} {t : State} {out : PostOut} (hr : (s.unstall x).repost x = (t, out))
    (hbehind : (t.settlePost x.producer x.ref x.word out).cb.behind = []) :
    s.acceptStalled x = t.settlePost x.producer x.ref x.word out := by
  have hposted : s.acceptStalled x =
      (((s.unstall x).repost x).1.settlePost x.producer x.ref x.word ((s.unstall x).repost x).2).issueBehind
        (((s.unstall x).repost x).1.settlePost x.producer x.ref x.word ((s.unstall x).repost x).2).cb.behind.length := rfl
  rw [hposted, hr]
  exact State.issueBehind_none _ hbehind

/-- A stalled post that fits is accepted and counted. -/
theorem State.repost_accepts {x : Stalled} (hfits : s.stalledFits x = true) (hvalid : s.callInvalid x.word 0 none = false) :
    ∃ t slot, s.repost x = (t, .ok slot) ∧ t.cb.stalled = s.cb.stalled ∧ t.cb.behind = s.cb.behind ∧
      t.fld F.CB_POST_CNT.COUNT = (s.fld F.CB_POST_CNT.COUNT + 1) % 2 ^ 64 := by
  rw [s.stalledFits_eq] at hfits
  unfold State.repost
  split at hfits
  next hhand =>
    rw [if_pos hhand]
    unfold State.cbHand
    rw [if_pos hfits]
    exact ⟨_, _, rfl, rfl, rfl, s.fld_setFld_same F.CB_POST_CNT.COUNT _ (by decide)⟩
  next hhand =>
    obtain ⟨hstalled, hbehind⟩ := s.enqueue_stalled x.source x.word
    rw [if_neg hhand, s.cbPost_accepts hvalid hfits]
    exact ⟨_, _, rfl, hstalled, hbehind, (s.posted_enqueue hfits).1⟩

/-- The earliest stalled post that fits is accepted, and where none waits behind it nothing follows. -/
theorem State.acceptStalled_posts {x : Stalled} (hfits : s.stalledFits x = true) (hvalid : s.callInvalid x.word 0 none = false)
    (hbehind : s.cb.behind = []) : (s.acceptStalled x).cb.stalled = s.cb.stalled.erase x ∧
      (s.acceptStalled x).fld F.CB_POST_CNT.COUNT = (s.fld F.CB_POST_CNT.COUNT + 1) % 2 ^ 64 := by
  obtain ⟨t, slot, hpost, hst, hbe, hcount⟩ :=
    (s.unstall x).repost_accepts (x := x) hfits hvalid
  have hkeeps := KeepsBoard.settleAccepted t x.producer x.ref x.word slot
  have hnone : (t.settlePost x.producer x.ref x.word (.ok slot)).cb.behind = [] := by
    rw [hkeeps.cb]
    exact hbe.trans hbehind
  rw [s.acceptStalled_eq hpost hnone]
  refine ⟨?_, hkeeps.fld.trans hcount⟩
  rw [hkeeps.cb]
  exact hst

theorem State.stalledAccept_first {p : Producer} {x : Stalled} (hx : s.cb.stalled.find? (fun y => s.stalledFits y) = some x)
    (hp : x.producer = p) : s.stalledAccept p = s.acceptStalled x := by
  unfold State.stalledAccept
  simp only [hx, hp, if_true]

/-! ### Child posts (R106) -/

theorem State.cbChild_accepts {c : Consumer} {w : CallWord} (hvalid : s.callInvalid w 0 (some c) = false) :
    (s.cbChild c w 0).1 = (s.enqueueChild c w).1.dispatchAll := by
  unfold State.cbChild
  simp only [hvalid, Bool.false_eq_true, if_false]

/-- The parent has one reservation less, and has posted a child. -/
theorem State.enqueueChild_heldCall {c : Consumer} {r : CallRec} (w : CallWord) (hr : s.heldCall c = some r) :
    (s.enqueueChild c w).1.heldCall c = some { r with resv := r.resv - 1, posted := true } := by
  obtain ⟨x, hx, rfl⟩ := Option.map_eq_some_iff.1 hr
  have hconsumer : x.1 = c := by
    have hfound := List.find?_some hx
    exact of_decide_eq_true hfound
  have hsame : ((fun h : Consumer × CallRec => decide (h.1 = c)) ∘
      fun h => if h.1 = c then (h.1, { h.2 with resv := h.2.resv - 1, posted := true }) else h) = fun h => decide (h.1 = c) := by
    funext h
    dsimp only [Function.comp]
    split <;> rfl
  unfold State.heldCall
  rw [s.enqueueChild_board w hr, List.find?_map, hsame, hx]
  simp only [Option.map_some, hconsumer, if_true]

/-- A valid child post is counted and takes a reservation of its parent's call. -/
theorem State.cbChild_posts {c : Consumer} {w : CallWord} {r : CallRec} (hr : s.heldCall c = some r)
    (hvalid : s.callInvalid w 0 (some c) = false) (hfree : s.slotUsed s.callSlot = false) :
    Posted s (s.cbChild c w 0).1 c.source r.slot w 0 ∧ ((s.cbChild c w 0).1.heldCall c).map (·.resv) = some (r.resv - 1) := by
  rw [s.cbChild_accepts hvalid]
  refine ⟨State.posted_of_queued hfree (congrArg CbSt.queue (s.enqueueChild_board w hr)) (s.enqueueChild_count c w), ?_⟩
  rw [State.heldCall_of_kept (Delivers.dispatchAll _).held (s.enqueueChild_heldCall w hr)]
  rfl

/-! ### Standbys of engines (R108) -/

/-- A further consumer waits. -/
def State.withWaiting (s : State) (c : Consumer) : State := { s with cb := { s.cb with waiting := s.cb.waiting ++ [c] } }

theorem State.wait_new {c : Consumer} (h : s.cb.waiting.contains c = false) : s.wait c = s.withWaiting c := by
  unfold State.wait
  rw [h, if_neg Bool.false_ne_true]
  rfl

/-- A consumer that waits alone takes the only call queued, which it may take. -/
theorem State.withWaiting_takes {c : Consumer} {r : CallRec} (hwaiting : s.cb.waiting = []) (hqueue : s.cb.queue = [r])
    (hcls : r.word.cls = c.cls) (hprio : r.word.prio < 8) (hown : c.own.contains r.list = true) (hclock : s.clocked c = true)
    (hport : s.portBusy c = false) (hmode : s.fld F.CB_MODE.MODE ≠ modeTest) :
    (s.withWaiting c).dispatchAll = (s.withWaiting c).deliver c r ∧
      ((s.withWaiting c).deliver c r).cb = { s.cb with queue := [], held := s.cb.held ++ [(c, { r with handoff := true })] } := by
  have halone : (s.withWaiting c).cb.waiting = [c] := congrArg (· ++ [c]) hwaiting
  refine ⟨(s.withWaiting c).dispatchAll_one halone hqueue hcls hprio hown hclock hport hmode, ?_⟩
  rw [State.deliver_cb, halone, show (s.withWaiting c).cb.queue = [r] from hqueue]
  simp [State.withWaiting, hwaiting]

/-- A serving consumer that holds no call waits, and what can be dispatched is. -/
theorem State.standby_free {c : Consumer} (cost : Nat) (hheld : s.heldCall c = none) (hserves : s.serves c = true) :
    s.standby c cost = (s.wait c).dispatchAll := by
  unfold State.standby
  simp only [hheld, hserves, if_true]

/-- A consumer that has run its call retires it first. -/
theorem State.standby_ran {c : Consumer} {r : CallRec} (cost : Nat) (hheld : s.heldCall c = some r) (hran : r.ran = true) :
    s.standby c cost =
      (if (s.retireRun c r cost).serves c then (s.retireRun c r cost).wait c else s.retireRun c r cost).dispatchAll := by
  unfold State.standby
  simp only [hheld, hran, if_true]

/-- An engine whose cluster runs has a running clock. -/
theorem State.clocked_of_engineRuns {d : Domain} (c : Consumer) (h : s.engineRuns d = true) : s.clocked c = true :=
  Bool.or_eq_true_iff.2 (.inl (Bool.and_eq_true_iff.1 h).2)

/-- A consumer whose call has retired holds none. -/
theorem heldCall_of_retired {s t : State} {c : Consumer} (h : t.cb.held = s.cb.held.filter (·.1 ≠ c)) : t.heldCall c = none := by
  unfold State.heldCall
  rw [h, List.find?_eq_none.2 fun x hx => by simpa using (List.mem_filter.1 hx).2]
  rfl

/-! ### Dispatch modes (R105) -/

theorem State.settlePost_core (n : Fin 4) (ref : Nat) (w : CallWord) :
    s.settlePost (.core n) ref w .refused = s.send (.readData (1 + 0xFFFF * 2 ^ 16)) := rfl

theorem State.refuseStalled_none (hstalled : s.cb.stalled = []) (hbehind : s.cb.behind = []) : s.refuseStalled = s := by
  have hsame : ({ s with cb := { s.cb with stalled := [] } } : State) = s := by rw [← hstalled]
  unfold State.refuseStalled
  dsimp only
  rw [hstalled, hsame, List.foldl_nil, State.issueBehind_none _ hbehind]

/-- The stalled post of a core is refused, and its read returns. -/
theorem State.refuseStalled_core {x : Stalled} {n : Fin 4} (hstalled : s.cb.stalled = [x]) (hx : x.producer = .core n)
    (hbehind : s.cb.behind = []) : s.refuseStalled =
      (({ s with cb := { s.cb with stalled := [] } } : State).bump F.CB_REFUSED_CNT.COUNT).send (.readData (1 + 0xFFFF * 2 ^ 16)) := by
  unfold State.refuseStalled
  dsimp only
  rw [hstalled, List.foldl_cons, List.foldl_nil, hx, State.settlePost_core]
  exact State.issueBehind_none _ hbehind

/-- A mode that is not left for another leaves stalled posts and `HOLD` alone. -/
theorem State.setMode_stays {m : Nat} (htest : s.fld F.CB_MODE.MODE ≠ modeTest)
    (h : s.fld F.CB_MODE.MODE ≠ modeService ∨ m = modeService ∨ (s.cb.stalled = [] ∧ s.cb.behind = [])) :
    s.setMode m = s.setFld F.CB_MODE.MODE m := by
  have hposts : (if s.fld F.CB_MODE.MODE = modeService ∧ m ≠ modeService then (s.setFld F.CB_MODE.MODE m).refuseStalled
      else s.setFld F.CB_MODE.MODE m) = s.setFld F.CB_MODE.MODE m := by
    split
    next hleaves =>
      obtain hnot | hnot | ⟨hstalled, hbehind⟩ := h
      · exact absurd hleaves.1 hnot
      · exact absurd hnot hleaves.2
      · exact State.refuseStalled_none _ hstalled hbehind
    next => rfl
  unfold State.setMode
  simp only [hposts, htest, false_and, if_false]

theorem State.setMode_leavesService {m : Nat} (hold : s.fld F.CB_MODE.MODE = modeService) (hm : m ≠ modeService) :
    s.setMode m = (s.setFld F.CB_MODE.MODE m).refuseStalled := by
  have htest : ¬ modeService = modeTest := by decide
  unfold State.setMode
  simp only [hold, hm, htest, ne_eq, not_false_eq_true, and_self, if_true, false_and, if_false]

theorem State.setMode_leavesTest {m : Nat} (hold : s.fld F.CB_MODE.MODE = modeTest) (hm : m ≠ modeTest) (hqueue : s.cb.queue = []) :
    s.setMode m = (s.setFld F.CB_MODE.MODE m).setFld F.CB_CTRL.HOLD 0 := by
  have hservice : ¬ modeTest = modeService := by decide
  unfold State.setMode
  simp only [hold, hm, hservice, ne_eq, not_false_eq_true, and_self, if_true, false_and, if_false]
  exact State.dispatchAll_empty _ hqueue

/-! ### The statement -/

/-- Settles O30, command by command: a posted word goes the way of its outcome, a standby the way of the call its engine holds, and a
mode the way of the one it replaces. -/
theorem callPosts : Obligations.Call_posts := by
  unfold Obligations.Call_posts
  refine ⟨?accepts, ?invalid, ?refused, ?stalls, ?stalled, ?child, ?waits, ?takes, ?retires, ?mode, ?service, ?test⟩
  case accepts =>
    rintro s p v w hup ⟨rfl, hreserved, hchild⟩ hfree ⟨hvalid, hspace⟩
    change Answers (s.done (s.when s.evtUp (s.postFrom p 0 _ (callReserved (wordBytes v))))) _
    rw [hup, State.when_true, answers_done, hreserved]
    exact s.postFrom_posted 0 hfree hchild hvalid hspace
  case invalid =>
    rintro s n v w hup ⟨rfl, hreserved, hchild⟩ hfree hinvalid hroom
    change Answers (s.done (s.when s.evtUp (s.postFrom (.core n) 0 _ (callReserved (wordBytes v))))) _
    rw [hup, State.when_true, answers_done, hreserved, s.postFrom_whole 0 0 hfree hchild, s.cbPost_invalid hinvalid]
    refine ⟨State.raise_cb _ _ _ _, ?_, State.raises_after (s := s) Src.callBoard E.CB_INVALID _ rfl rfl hup hroom, ?_⟩
    · exact (State.raise_fld _ _ _ _ _ (by decide) (by decide) (by decide)).trans
        (s.fld_setFld_same F.CB_INVALID_CNT.COUNT _ (by decide))
    · exact congrArg (· ++ _) (State.raise_sent _ _ _ _)
  case refused =>
    rintro s n v w hup ⟨rfl, hreserved, hchild⟩ hfree ⟨hvalid, hspace⟩ hmode
    change Answers (s.done (s.when s.evtUp (s.postFrom (.core n) 0 _ (callReserved (wordBytes v))))) _
    rw [hup, State.when_true, answers_done, hreserved, s.postFrom_whole 0 0 hfree hchild,
      s.cbPost_refused (source := producerSource (.core n)) hvalid hspace hmode]
    exact ⟨rfl, s.fld_setFld_same F.CB_REFUSED_CNT.COUNT _ (by decide), rfl, rfl⟩
  case stalls =>
    rintro s n v w hup ⟨rfl, hreserved, hchild⟩ hfree ⟨hvalid, hspace⟩ hmode
    change s.done (s.when s.evtUp (s.postFrom (.core n) 0 _ (callReserved (wordBytes v)))) = _
    rw [hup, State.when_true, hreserved, s.postFrom_whole 0 0 hfree hchild,
      s.cbPost_stalls (source := producerSource (.core n)) hvalid hspace hmode]
    exact s.done_of rfl rfl
  case stalled =>
    rintro s p x hup hx ⟨hp, hvalid⟩ hbehind
    obtain ⟨hstalled, hcount⟩ := s.acceptStalled_posts (List.find?_some hx) hvalid hbehind
    change Answers (s.done (s.when s.evtUp (s.stalledAccept p))) _
    rw [hup, State.when_true, answers_done, s.stalledAccept_first hx hp]
    exact ⟨hcount, hstalled⟩
  case child =>
    rintro s e v w r ⟨hup, hruns⟩ ⟨rfl, hreserved, hchild⟩ hheld hvalid hslots
    change Answers (s.done (s.when (s.evtUp && s.engineRuns (engineDomain (Engine.consumer e)) && (callOfBytes (wordBytes v)).child)
      (s.cbChild (Engine.consumer e) _ (callReserved (wordBytes v))).1)) _
    rw [hup, hruns, hchild, hreserved, State.when_of _ (by rfl), answers_done]
    exact s.cbChild_posts hheld hvalid (s.callSlot_free hslots)
  case waits =>
    rintro s e cost ⟨hup, hruns⟩ ⟨hheld, hserves⟩ ⟨hqueue, hnew⟩
    change s.done (s.when (s.evtUp && s.engineRuns (engineDomain (Engine.consumer e))) (s.standby (Engine.consumer e) cost.toNat)) = _
    rw [hup, hruns, State.when_of _ (by rfl), s.standby_free _ hheld hserves, s.wait_new hnew,
      (s.withWaiting _).dispatchAll_empty hqueue]
    exact s.done_of rfl rfl
  case takes =>
    rintro s e cost r ⟨hup, hruns⟩ ⟨hheld, hserves⟩ ⟨hwaiting, hqueue⟩ ⟨hcls, hprio, hown⟩ ⟨hmode, hport⟩
    change Answers (s.done (s.when (s.evtUp && s.engineRuns (engineDomain (Engine.consumer e)))
      (s.standby (Engine.consumer e) cost.toNat))) _
    rw [hup, hruns, State.when_of _ (by rfl), s.standby_free _ hheld hserves, s.wait_new (by rw [hwaiting]; rfl), answers_done]
    obtain ⟨hdispatch, hcb⟩ := s.withWaiting_takes hwaiting hqueue hcls hprio hown (s.clocked_of_engineRuns _ hruns) hport hmode
    rw [hdispatch]
    refine ⟨hcb, State.deliver_dispatchCount _ _ r, ?_⟩
    cases e <;> rfl
  case retires =>
    rintro s e cost r f i ⟨hup, hruns⟩ ⟨hheld, hran, hkind⟩ ⟨hqueue, hnew, hserves⟩ ⟨hframe, hitem⟩
    obtain ⟨hcb, hstill, hcost, hby, hrendered⟩ :=
      s.retireRun_render (c := Engine.consumer e) cost.toNat hkind hframe hitem
    have hwaits : (s.retireRun (Engine.consumer e) r cost.toNat).cb.waiting = s.cb.waiting := by rw [hcb]
    have hempty : (s.retireRun (Engine.consumer e) r cost.toNat).cb.queue = [] := by rw [hcb]; exact hqueue
    change Answers (s.done (s.when (s.evtUp && s.engineRuns (engineDomain (Engine.consumer e)))
      (s.standby (Engine.consumer e) cost.toNat))) _
    rw [hup, hruns, State.when_of _ (by rfl), s.standby_ran _ hheld hran, hstill, hserves, if_pos rfl,
      State.wait_new _ (by rw [hwaits]; exact hnew), (State.withWaiting _ _).dispatchAll_empty hempty, answers_done]
    exact ⟨heldCall_of_retired (s := s) (congrArg CbSt.held hcb), congrArg (· ++ [Engine.consumer e]) hwaits, hcost, hby, hrendered⟩
  case mode =>
    intro s m hup htest hkeeps
    change s.done (s.when s.evtUp (s.setMode m.toNat)) = _
    rw [hup, State.when_true, s.setMode_stays htest hkeeps]
    exact s.done_of rfl rfl
  case service =>
    rintro s m n x hup ⟨hm, hold⟩ ⟨hstalled, hx, hbehind⟩
    change Answers (s.done (s.when s.evtUp (s.setMode m.toNat))) _
    rw [hup, State.when_true, s.setMode_leavesService hold hm, (s.setFld _ _).refuseStalled_core hstalled hx hbehind, answers_done]
    have hmode : (s.setFld F.CB_MODE.MODE m.toNat).fld F.CB_MODE.MODE = m.toNat :=
      (s.fld_setFld_same F.CB_MODE.MODE m.toNat (by decide)).trans (Nat.mod_eq_of_lt m.isLt)
    have hrefused : (s.setFld F.CB_MODE.MODE m.toNat).fld F.CB_REFUSED_CNT.COUNT = s.fld F.CB_REFUSED_CNT.COUNT :=
      s.fld_setFld_reg m.toNat (by decide)
    refine ⟨?_, rfl, ?_, rfl⟩
    · exact (State.fld_setFld_reg _ (f := F.CB_REFUSED_CNT.COUNT) _ (by decide)).trans hmode
    · rw [← hrefused]
      exact State.fld_setFld_same _ F.CB_REFUSED_CNT.COUNT _ (by decide)
  case test =>
    rintro s m hup ⟨hold, hm⟩ hqueue
    change s.done (s.when s.evtUp (s.setMode m.toNat)) = _
    rw [hup, State.when_true, s.setMode_leavesTest hold hm hqueue]
    exact s.done_of rfl rfl

end Sys2Proof.Machine
end

section
/-! SUPPORT. The Call Board ports of the Stage Manager cores, and the statement about them (R110 to R115). -/

namespace Sys2Proof.Machine

variable (s : State)

/-! ### Standby ports (R112, R113) -/

/-- A core whose withdraw is pending reads the null call at once. -/
theorem State.coreStandby_withdrawn {n : Nat} (h : s.cb.wdPend.contains n = true) : s.coreStandby n =
    ({ s.retire (.sm n) with cb := { (s.retire (.sm n)).cb with wdPend := s.cb.wdPend.filter (· ≠ n) } } : State).send
      (.readData nullCall) := by
  unfold State.coreStandby
  exact if_pos h

/-- A core with no withdraw pending waits; its read stalls where it is given no call. -/
theorem State.coreStandby_waits {n : Nat} {t : State} (hpend : s.cb.wdPend.contains n = false)
    (hnew : s.cb.waiting.contains (.sm n) = false) (ht : ((s.retire (.sm n)).withWaiting (.sm n)).dispatchAll = t) :
    s.coreStandby n = if t.cb.waiting.contains (.sm n) then t.send .readStalls else t := by
  have hwait : (s.retire (.sm n)).wait (.sm n) = (s.retire (.sm n)).withWaiting (.sm n) := State.wait_new _ hnew
  have hkept : ¬ (s.retire (.sm n)).cb.wdPend.contains n = true := by
    change ¬ s.cb.wdPend.contains n = true
    rw [hpend]
    exact Bool.false_ne_true
  unfold State.coreStandby
  dsimp only
  rw [if_neg hkept, hwait, ht]

/-- Where no call is queued, a core's read stalls. -/
theorem State.coreStandby_stalls {n : Nat} (hqueue : s.cb.queue = []) (hpend : s.cb.wdPend.contains n = false)
    (hnew : s.cb.waiting.contains (.sm n) = false) :
    s.coreStandby n = ((s.retire (.sm n)).withWaiting (.sm n)).send .readStalls := by
  have hlast : ((s.retire (.sm n)).withWaiting (.sm n)).cb.waiting.contains (.sm n) = true := by simp [State.withWaiting]
  rw [s.coreStandby_waits hpend hnew (State.dispatchAll_empty _ hqueue), if_pos hlast]

/-- A core that waits alone takes the only call queued, and its read returns the call's slot and kind. -/
theorem State.coreStandby_takes {n : Nat} {r : CallRec} (hawake : s.pwr.state ≠ 1) (hwaiting : s.cb.waiting = []) (hqueue : s.cb.queue = [r])
    (hpend : s.cb.wdPend.contains n = false) (hcls : r.word.cls = clsSM) (hprio : r.word.prio < 8) (hlist : r.list < 32)
    (hport : (s.retire (.sm n)).portBusy (.sm n) = false) (hmode : s.fld F.CB_MODE.MODE ≠ modeTest) :
    s.coreStandby n = ((s.retire (.sm n)).withWaiting (.sm n)).deliver (.sm n) r ∧
      (((s.retire (.sm n)).withWaiting (.sm n)).deliver (.sm n) r).cb =
        { (s.retire (.sm n)).cb with queue := [], held := (s.retire (.sm n)).cb.held ++ [(.sm n, { r with handoff := true })] } := by
  have hown : (Consumer.sm n).own.contains r.list = true := List.contains_iff_mem.2 (List.mem_range.2 hlist)
  have hclock : (s.retire (.sm n)).clocked (.sm n) = true := Bool.or_eq_true_iff.2 (.inl (bne_iff_ne.2 hawake))
  obtain ⟨hdispatch, hcb⟩ :=
    (s.retire (.sm n)).withWaiting_takes (c := .sm n) hwaiting hqueue hcls hprio hown hclock hport hmode
  have hgone : (((s.retire (.sm n)).withWaiting (.sm n)).deliver (.sm n) r).cb.waiting.contains (.sm n) = false := by
    rw [hcb]
    change s.cb.waiting.contains _ = false
    rw [hwaiting]
    rfl
  refine ⟨?_, hcb⟩
  rw [s.coreStandby_waits hpend (by rw [hwaiting]; rfl) hdispatch, hgone, if_neg Bool.false_ne_true]

theorem State.standbyRead_own (n : Fin 4) : s.standbyRead n (.core n) = s.coreStandby n := by
  unfold State.standbyRead
  exact if_pos rfl

/-- Another agent's read returns the null call and is told. -/
theorem State.standbyRead_misuse {n : Fin 4} {a : Agent} (h : a ≠ .core n) :
    s.standbyRead n a = (s.send (.readData nullCall)).raise Src.callBoard E.CB_PORT_MISUSE [] := by
  unfold State.standbyRead
  split
  next c => exact if_neg fun hc => h (congrArg Agent.core (Fin.ext hc))
  next => rfl

/-- A withdraw ends the stalled read of its core. -/
theorem State.withdraw_ends {n : Nat} (h : s.cb.waiting.contains (.sm n) = true) : s.withdraw n =
    ({ s with cb := { s.cb with waiting := s.cb.waiting.filter (· ≠ Consumer.sm n) } } : State).send (.readData nullCall) := by
  unfold State.withdraw
  exact if_pos h

/-- A withdraw that finds no read stalled is kept. -/
theorem State.withdraw_kept {n : Nat} (h : s.cb.waiting.contains (.sm n) = false) :
    s.withdraw n = { s with cb := { s.cb with wdPend := insertAsc n s.cb.wdPend } } := by
  unfold State.withdraw
  rw [h, if_neg Bool.false_ne_true]

/-! ### Post ports (R114) -/

/-- A core's read of its own post port returns the slot of a word that is accepted. -/
theorem State.postRead_accepts {n : Fin 4} {w : CallWord} (hword : callOfBytes (s.postWord n) = w) (hreserved : callReserved (s.postWord n) = 0)
    (hchild : w.child = false) (hfree : s.producerStalled (.core n) = false) (hvalid : s.callInvalid w 0 none = false)
    (hspace : s.findsSpace (Src.core n) w = true) :
    s.postRead n (.core n) = (s.enqueue (Src.core n) w).1.dispatchAll.send (.readData (s.callSlot * 2 ^ 16)) := by
  have hposted : s.postFrom (.core n) 0 w 0 = (s.enqueue (Src.core n) w).1.dispatchAll.send (.readData (s.callSlot * 2 ^ 16)) :=
    s.postFrom_accepts 0 hfree hchild hvalid hspace
  have hstill : ((s.enqueue (Src.core n) w).1.dispatchAll.send (.readData (s.callSlot * 2 ^ 16))).producerStalled (.core n) = false := by
    unfold State.producerStalled at hfree ⊢
    rw [State.send_cb, (s.enqueue_stalled (Src.core n) w).1]
    exact hfree
  unfold State.postRead
  simp only [hword, hreserved, hposted, hstill, if_true, Bool.false_eq_true, if_false]

/-- Another agent's read posts nothing. -/
theorem State.postRead_misuse {n : Fin 4} {a : Agent} (h : a ≠ .core n) :
    s.postRead n a = s.send (.readData (2 + 0xFFFF * 2 ^ 16)) := by
  unfold State.postRead
  exact if_neg h

/-! ### The statement -/

/-- Settles O31, port by port: a read of its core goes the way of the calls and withdraws that wait for it, one of another agent posts and
takes nothing. -/
theorem coreCallPorts : Obligations.Core_call_ports := by
  unfold Obligations.Core_call_ports
  refine ⟨?stalls, ?takes, ?withdrawn, ?misuse, ?withdraw, ?kept, ?post, ?postMisuse⟩
  case stalls =>
    rintro s n hup ⟨hqueue, hpend, hnew⟩
    change s.done (s.when s.evtUp (s.standbyRead n (.core n))) = _
    rw [hup, State.when_true, s.standbyRead_own, s.coreStandby_stalls hqueue hpend hnew]
    exact s.done_of rfl rfl
  case takes =>
    rintro s n r ⟨hup, hawake⟩ ⟨hwaiting, hqueue, hpend⟩ ⟨hcls, hprio, hlist⟩ hports hmode
    have hport : (s.retire (.sm n)).portBusy (.sm n) = false := by
      unfold State.portBusy
      rw [List.any_eq_not_all_not, Bool.not_eq_false']
      exact hports
    obtain ⟨htaken, hcb⟩ := s.coreStandby_takes (n := n) hawake hwaiting hqueue hpend hcls hprio hlist hport hmode
    change Answers (s.done (s.when s.evtUp (s.standbyRead n (.core n)))) _
    rw [hup, State.when_true, s.standbyRead_own, htaken, answers_done]
    exact ⟨congrArg CbSt.queue hcb, congrArg CbSt.held hcb, rfl, State.deliver_dispatchCount _ (.sm n) r⟩
  case withdrawn =>
    intro s n hup hpend
    change s.done (s.when s.evtUp (s.standbyRead n (.core n))) = _
    rw [hup, State.when_true, s.standbyRead_own, s.coreStandby_withdrawn hpend]
    exact s.done_of rfl rfl
  case misuse =>
    intro s n a hup hother hroom
    change Answers (s.done (s.when s.evtUp (s.standbyRead n a))) _
    rw [hup, State.when_true, s.standbyRead_misuse hother, answers_done]
    exact ⟨State.raise_sent _ _ _ _, Raises.settle (State.raises_after _ _ _ rfl rfl hup hroom), State.raise_cb _ _ _ _,
      State.raise_regs _ _ _ _ hup hroom⟩
  case withdraw =>
    intro s n hup hwaits
    change s.done (s.when s.evtUp (s.withdraw n)) = _
    rw [hup, State.when_true, s.withdraw_ends hwaits]
    exact s.done_of rfl rfl
  case kept =>
    intro s n hup hwaits
    change s.done (s.when s.evtUp (s.withdraw n)) = _
    rw [hup, State.when_true, s.withdraw_kept hwaits]
    exact s.done_of rfl rfl
  case post =>
    rintro s n w hup ⟨hword, hreserved, hchild⟩ hfree ⟨hvalid, hspace⟩
    change Answers (s.done (s.when s.evtUp (s.postRead n (.core n)))) _
    rw [hup, State.when_true, s.postRead_accepts hword hreserved hchild hfree hvalid hspace, answers_done]
    exact ⟨s.posted_enqueue hspace, List.getLast?_concat⟩
  case postMisuse =>
    intro s n a hup hother
    change s.done (s.when s.evtUp (s.postRead n a)) = _
    rw [hup, State.when_true, s.postRead_misuse hother]
    exact s.done_of rfl rfl

end Sys2Proof.Machine
end

section
/-! SUPPORT. A health mask that the host writes while a compile waits for its gamut header: the header's write may retire a page, and that
clears a bit of the mask again (R65, R133, R204, R205). -/

namespace Sys2Proof.Machine

open Sys2Proof.Tests

variable (s : State)

/-! ### What a health write does after the mask is stored -/

theorem exec_blkHealthWrite {which : Fin 3} {mask : Word} (hup : s.evtUp = true) :
    exec (.blkHealthWrite which mask) s = s.done (s.healthWrite which mask.toNat) :=
  congrArg s.done (s.when_of hup _)

/-- A mask with every bit set takes no pseudo-channel out of the plan; the lists and the compiles are then settled as after every health
write. -/
theorem State.healthWrite_allPcs {mask : Nat} (hall : ∀ n < F.BLK_HEALTH_PC.MASK.width, bit mask n = true) :
    s.healthWrite 2 mask =
      ((s.setFld F.BLK_HEALTH_PC.MASK (s.fld F.BLK_HEALTH_PC.MASK ||| mask)).rebalance).dispatchAll.afterLoss := by
  have hkept : (List.range F.BLK_HEALTH_PC.MASK.width).foldl (fun s n => if bit mask n then s else s.clearHealth 2 n hcHost) s = s :=
    List.foldlRecOn (motive := (· = s)) _ _ rfl fun t ht n hn => (if_pos (hall n (List.mem_range.mp hn))).trans ht
  have hfaults : ∀ t : State, t.clearFaults 2 mask = t := fun t => by
    unfold State.clearFaults
    simp
  change (((State.clearFaults _ 2 mask).rebalance).dispatchAll).afterLoss = _
  rw [hfaults]
  exact congrArg (fun t : State =>
    ((t.setFld F.BLK_HEALTH_PC.MASK (t.fld F.BLK_HEALTH_PC.MASK ||| mask)).rebalance).dispatchAll.afterLoss) hkept

/-! ### A compile whose phase B has nothing left to run (R204, R205) -/

theorem State.dropLost_noLeaf {idx : Nat} {c : CompSt} (hcomp : s.comp? idx = some c) (htodo : c.todo = []) : s.dropLost idx = s := by
  unfold State.dropLost
  simp [hcomp, htodo]

theorem State.settleComp_phaseB {idx : Nat} {c : CompSt} (hcomp : s.comp? idx = some c) (hphase : c.phase = 2) (hroots : c.roots = [])
    (htodo : c.todo = []) : s.settleComp idx = s.headerWritten idx := by
  unfold State.settleComp
  simp [hcomp, hphase, hroots, htodo]

/-- After engines have left, the only compile writes its gamut header when its phase B has no root and no leaf left. -/
theorem State.afterLoss_phaseB {idx : Nat} {c : CompSt} (hcomps : s.fix.comps = [(idx, c)]) (hphase : c.phase = 2) (hroots : c.roots = [])
    (htodo : c.todo = []) : s.afterLoss = (s.headerWritten idx).advanceAll.pruneGone := by
  have hcomp : s.comp? idx = some c := by simp [State.comp?, hcomps]
  have hdrop : (s.fix.comps.map (·.1)).foldl State.dropLost s = s := by
    rw [hcomps]
    exact s.dropLost_noLeaf hcomp htodo
  have hsettle : s.settleComps = s.headerWritten idx := by
    unfold State.settleComps
    rw [hcomps]
    exact s.settleComp_phaseB hcomp hphase hroots htodo
  unfold State.afterLoss
  rw [hdrop, hsettle]

/-! ### The counterexample -/

/-- A `CALSTORE` of one lamp and three emitters: its bytes lie in page 9, its compiled area in page 10, both of pseudo-channel 0. -/
def smallCalstore : Obj := ⟨kCalstore, leBytes 4 1 ++ leBytes 4 3, 18, false, [9], [10], none, none⟩

/-- Its compile in phase B, after the post of the only root has been refused (R205): no root and no leaf is left. -/
def refusedCompile : CompSt := { compNone with handle := 5 + 65536, phase := 2, refused := [(0, 1)], partial_ := true }

/-- That compile is under way, the first codeword of the gamut header it is to write is poisoned, and one retired page is enough for a
pseudo-channel to fail. Every pseudo-channel is in the plan. -/
def poisonedHeader : State :=
  { up with
    obj := ⟨[(5, smallCalstore)], [(5, 1)], []⟩
    fix := { up.fix with comps := [(5, refusedCompile)] }
    mem := { up.mem with pages := [(9, pgUsed), (10, pgUsed)], ue := [(headerPlace smallCalstore 1 0).cw] } }.setFld
      F.OBJ_SCRUB.PC_FAIL_PAGES 1

/-- All ones are written to the mask. Writing the header reads its poisoned codeword, so page 10 is retired, and pseudo-channel 0 leaves the
plan. -/
theorem poisonedHeader_healthWrite :
    (poisonedHeader.healthWrite 2 0xFFFFFFFF).fld F.BLK_HEALTH_PC.MASK = 0xFFFFFFFE := by
  rw [State.healthWrite_allPcs _ (by decide), State.afterLoss_phaseB _ (idx := 5) (c := refusedCompile) (by decide +kernel) rfl rfl rfl]
  decide +kernel

/-- Refutes O32, in its clause on BlkHealthWrite: the host writes all ones to BLK_HEALTH_PC in `poisonedHeader`, and the mask then holds
0xFFFF_FFFE. A health write ends with the work that waited on lost engines; where that is a compile's gamut header, a poisoned codeword
in its place takes a pseudo-channel out of the plan after the mask has been stored (R65, R133). -/
theorem not_framePlanAndPosts : ¬ Obligations.Frame_plan_and_posts := by
  unfold Obligations.Frame_plan_and_posts
  rintro ⟨-, -, -, -, healthWrite, -⟩
  have hmask := healthWrite poisonedHeader 2 0xFFFFFFFF (by decide +kernel)
  have hall : (0xFFFFFFFF : Word).toNat = 0xFFFFFFFF := by decide
  have hpcs : ((2 : Fin 3) : Nat) = 2 := rfl
  have hfld : healthFld 2 = F.BLK_HEALTH_PC.MASK := rfl
  rw [exec_blkHealthWrite _ (by decide +kernel), answers_done, State.fld_settle, hall, hpcs, hfld, poisonedHeader_healthWrite] at hmask
  exact absurd hmask (by decide)

end Sys2Proof.Machine
end

section
/-! SUPPORT. What the work of an engine leaves of the Call Board, of the tiles held and of the counters of work done: one relation, and one
lemma per operation of composition and of the fixture passes (R151 to R158, R171, R199, R213 to R216). -/

namespace Sys2Proof.Machine

variable (s : State)

/-! ### The relation -/

/-- The counters of tiles, lamps and fixtures, which each call of its kind advances once. -/
def workCounters : List Nat := [R.CMP_TILE_CNT, R.FIX_LAMP_CNT, R.FIX_FIXTURE_CNT]

/-- From `s` to `t` the Call Board, the held tiles and the counters of work done stand. -/
structure Works (s t : State) : Prop where
  cb : t.cb = s.cb
  held : t.cmp.held = s.cmp.held
  rv : ∀ o ∈ workCounters, t.rv o = s.rv o

theorem Works.of_regs {s t : State} (hcb : t.cb = s.cb) (hheld : t.cmp.held = s.cmp.held) (hregs : t.regs = s.regs) : Works s t :=
  ⟨hcb, hheld, fun o _ => State.rv_eq_of_regs hregs o⟩

theorem Works.refl : Works s s := .of_regs rfl rfl rfl

theorem Works.trans {s t u : State} (h : Works s t) (h2 : Works t u) : Works s u :=
  ⟨h2.cb.trans h.cb, h2.held.trans h.held, fun o ho => (h2.rv o ho).trans (h.rv o ho)⟩

theorem Works.foldl {α : Type} {f : State → α → State} (hf : ∀ s a, Works s (f s a)) (l : List α) (s : State) :
    Works s (l.foldl f s) := by
  induction l generalizing s with
  | nil => exact Works.refl s
  | cons a l ih => exact (hf s a).trans (ih _)

theorem Works.ite {s t u : State} {p : Prop} [Decidable p] (h : Works s t) (h2 : Works s u) : Works s (if p then t else u) := by
  split
  · exact h
  · exact h2

theorem Works.setFld {f : Fld} (v : Nat) (h : f.reg ∉ workCounters) : Works s (s.setFld f v) :=
  ⟨rfl, rfl, fun _ ho => s.rv_setFld_other v fun e => h (e ▸ ho)⟩

theorem Works.bumpBy {f : Fld} (n : Nat) (h : f.reg ∉ workCounters) : Works s (s.bumpBy f n) := Works.setFld s _ h

theorem Works.raise (source code : Nat) (args : List Nat) : Works s (s.raise source code args) :=
  ⟨s.raise_cb _ _ _, congrArg CmpSt.held (s.raise_cmp _ _ _), fun o ho => s.raise_rv_of_notMem source code args <|
    (by decide : ∀ x ∈ workCounters, x ∉ eventCounters) o ho⟩

theorem Works.updFrame (seq : Nat) (f : FrameRec → FrameRec) : Works s (s.updFrame seq f) := .of_regs rfl rfl rfl

/-! ### Memory -/

theorem Works.of_mem {s t : State} (hframe : MemFrame s t) (hregs : KeepsRegs s t) : Works s t :=
  ⟨by rw [hframe], by rw [hframe], fun o ho => hregs o ((by decide : ∀ x ∈ workCounters, memoryReg x = false) o ho)⟩

theorem Works.consumeAll (cws : List Nat) : Works s (s.consumeAll cws).1 := by
  refine .of_mem (MemFrame.consumeAll s cws) ?_
  rw [s.consumeAll_fst]
  exact KeepsRegs.foldl _ KeepsRegs.consume cws s

/-- A tile without pages receives two where they are free (R158). -/
theorem Works.storeTile (n : Nat) : Works s ((s.storeTile n).getD s) := by
  unfold State.storeTile State.allocTile
  cases s.bestPc 2 with
  | none => exact Works.refl s
  | some pc =>
    have htaken := AllocFrame.takePages s pc 2
    exact .of_regs (by simp only [Option.map_some, Option.getD_some]; rw [htaken])
      (by simp only [Option.map_some, Option.getD_some]; rw [htaken]) htaken.regs

/-! ### Composition (R151, R155) -/

theorem Works.notePoison (seq handle : Nat) (o : Obj) (bad : List Nat) : Works s (s.notePoison seq handle o bad) := by
  unfold State.notePoison
  split
  · exact Works.refl s
  next cw _ =>
    have hcounted : Works s (((s.bumpBy F.CMP_POISON_CNT.COUNT bad.length).setFld F.CMP_LAST_POISON.HANDLE handle).setFld
        F.CMP_LAST_POISON.BLOCK (((List.range (ceilDiv o.size 16)).find? (fun k => (o.place (16 * k)).cw = cw)).getD 0)) :=
      ((Works.bumpBy s _ (by decide)).trans (Works.setFld _ _ (by decide))).trans (Works.setFld _ _ (by decide))
    dsimp only
    split
    · exact hcounted
    · exact Works.ite hcounted (hcounted.trans ((Works.updFrame _ _ _).trans (Works.raise _ _ _ _)))

theorem Works.noteMixed (seq handle : Nat) (blocks : List Nat) : Works s (s.noteMixed seq handle blocks) :=
  Works.ite (Works.refl s) (Works.updFrame s _ _)

/-- The layers of a tile are fetched, or counted as hidden or empty. -/
theorem Works.fetchLayers (f : FrameRec) (t : Region) (l : List (List Byte)) (hidden : Bool) :
    Works s (s.fetchLayers f t l hidden).1 := by
  induction l generalizing s hidden with
  | nil => exact Works.refl s
  | cons e rest ih =>
    unfold State.fetchLayers
    dsimp only
    split
    · exact ih s hidden
    · split
      · exact (Works.bumpBy s 1 (by decide)).trans (ih _ _)
      · split
        · exact (Works.bumpBy s 1 (by decide)).trans (ih _ _)
        · refine (Works.bumpBy s (f := F.CMP_FETCH_CNT.COUNT) 1 (by decide)).trans
            (Works.trans (Works.trans ?_ (Works.noteMixed _ _ _ _)) (ih _ _))
          split
          · exact Works.refl _
          · exact (Works.consumeAll _ _).trans (Works.notePoison _ _ _ _ _)

/-! ### Fixture passes (R171, R199, R214 to R216) -/

theorem Works.setDrive (surf lamp bank : Nat) (b : List Byte) : Works s (s.setDrive surf lamp bank b) := .of_regs rfl rfl rfl
theorem Works.setOut (entry bank : Nat) (b : List Byte) : Works s (s.setOut entry bank b) := .of_regs rfl rfl rfl
theorem Works.setRecPower (key : Nat) (x : Rat × Rat) : Works s (s.setRecPower key x) := .of_regs rfl rfl rfl
theorem Works.keepSums (seq n : Nat) (l : List (Nat × Sums)) : Works s (s.keepSums seq n l) := Works.updFrame s _ _

theorem Works.injectRecords (keys : List Nat) : Works s (s.injectRecords keys) := by
  have hdone : ∀ t : State, Works t (t.setFld F.OBJ_INJECT.MODE 0).freeStep := fun t =>
    (Works.setFld t _ (by decide)).trans (.of_regs rfl rfl rfl)
  unfold State.injectRecords
  refine Works.ite (Works.refl s) (Works.ite ((Works.of_regs ?_ ?_ ?_).trans (hdone _)) (.of_regs rfl rfl rfl))
  all_goals rfl

theorem Works.noteFixPoison (seq key count : Nat) : Works s (s.noteFixPoison seq key count) := by
  have hcounted : Works s (s.bumpBy F.FIX_POISON_CNT.COUNT count) := Works.bumpBy s _ (by decide)
  unfold State.noteFixPoison
  refine Works.ite (Works.refl s) ?_
  dsimp only
  split
  · exact hcounted
  · exact Works.ite hcounted (hcounted.trans ((Works.updFrame _ _ _).trans (Works.raise _ _ _ _)))

theorem Works.noteMisses (seq key : Nat) (tiles : List Nat) : Works s (s.noteMisses seq key tiles) := by
  have hstored : ∀ (t : State) (l : List Nat),
      Works t (l.foldl (fun s n => if (s.cmp.tiles.get none n).isNone then (s.storeTile n).getD s else s) t) := fun t l =>
    Works.foldl (fun u n => Works.ite (Works.storeTile u n) (Works.refl u)) l t
  have hcounted := (Works.bumpBy s (f := F.CMP_TILE_MISS_CNT.COUNT) tiles.length (by decide)).trans (hstored _ tiles.dedup)
  unfold State.noteMisses
  refine Works.ite (Works.refl s) ?_
  dsimp only
  split
  · exact hcounted
  · exact Works.ite hcounted (hcounted.trans ((Works.updFrame _ _ _).trans (Works.raise _ _ _ _)))

theorem Works.noteCurves (v : State) (seq : Nat) (pers : List Nat) : Works s (s.noteCurves v seq pers) := by
  refine Works.foldl (fun t idx => ?_) _ s
  split
  · exact Works.ite ((Works.updFrame _ _ _).trans (Works.raise _ _ _ _)) (Works.refl t)
  · exact Works.refl t

/-- What pass 1 reports of an item, and the sums it keeps of it. -/
theorem Works.noted (v : State) (seq poisonKey count missKey : Nat) (tiles pers : List Nat) (n : Nat) (l : List (Nat × Sums)) :
    Works s ((((s.noteFixPoison seq poisonKey count).noteMisses seq missKey tiles).noteCurves v seq pers).keepSums seq n l) :=
  (((Works.noteFixPoison s _ _ _).trans (Works.noteMisses _ _ _ _)).trans (Works.noteCurves _ _ _ _)).trans (Works.keepSums _ _ _ _)

/-! ### Work that is counted -/

/-- From `s` to `t` an engine has worked, and one counter of work has advanced by `n`. -/
def WorksCounting (s t : State) (f : Fld) (n : Nat) : Prop := ∃ u, Works s u ∧ Works (u.bumpBy f n) t

theorem Works.counting {s u : State} (h : Works s u) (f : Fld) (n : Nat) : WorksCounting s (u.bumpBy f n) f n :=
  ⟨u, h, Works.refl _⟩

theorem WorksCounting.then {s t u : State} {f : Fld} {n : Nat} (h : WorksCounting s t f n) (h2 : Works t u) : WorksCounting s u f n := by
  obtain ⟨v, hv, ht⟩ := h
  exact ⟨v, hv, ht.trans h2⟩

theorem WorksCounting.cb {s t : State} {f : Fld} {n : Nat} (h : WorksCounting s t f n) : t.cb = s.cb := by
  obtain ⟨u, hu, ht⟩ := h
  exact ht.cb.trans hu.cb

theorem WorksCounting.held {s t : State} {f : Fld} {n : Nat} (h : WorksCounting s t f n) : t.cmp.held = s.cmp.held := by
  obtain ⟨u, hu, ht⟩ := h
  exact ht.held.trans hu.held

theorem Works.fld {s t : State} (h : Works s t) {f : Fld} (hf : f.reg ∈ workCounters) : t.fld f = s.fld f := by
  unfold State.fld
  rw [h.rv _ hf]

/-- The counter wraps at its width (R7). -/
theorem WorksCounting.counts {s t : State} {f : Fld} {n : Nat} (h : WorksCounting s t f n) (hf : f.reg ∈ workCounters)
    (hwidth : f.lsb + f.width ≤ 64) : Counts s t f n := by
  obtain ⟨u, hu, ht⟩ := h
  rw [Counts, ht.fld hf, ← hu.fld hf]
  exact u.fld_setFld_same f _ hwidth

/-- Compositing a tile counts it once (R146, R151). -/
theorem State.composite_counts (f : FrameRec) (n : Nat) : WorksCounting s (s.composite f n).1 F.CMP_TILE_CNT.COUNT 1 :=
  ((Works.fetchLayers s f _ _ _).counting _ _).then (Works.bumpBy _ (f := F.CMP_NONFINITE_CNT.COUNT) _ (by decide))

/-- Pass 1 of a chunk counts its lamps once (R212). -/
theorem State.chunkPass1_counts (f : FrameRec) (n first count : Nat) :
    WorksCounting s (s.chunkPass1 f n first count) F.FIX_LAMP_CNT.COUNT count := by
  unfold State.chunkPass1
  refine ((Works.counting ?stored _ _).then (Works.bumpBy _ (f := F.FIX_CLIP_CNT.COUNT) _ (by decide))).then
    (Works.noted _ _ _ _ _ _ _ _ _ _)
  refine (Works.consumeAll s _).trans ((Works.foldl (fun t x => ?_) _ _).trans (Works.injectRecords _ _))
  exact (Works.setDrive t _ _ _ _).trans (Works.setRecPower _ _ _)

/-- Pass 1 of a patch range counts its fixtures once (R212). -/
theorem State.rangePass1_counts (f : FrameRec) (n : Nat) :
    WorksCounting s (s.rangePass1 f n) F.FIX_FIXTURE_CNT.COUNT (f.rangeFixtures n).length := by
  unfold State.rangePass1
  refine ((Works.counting ?stored _ _).then (Works.bumpBy _ (f := F.FIX_CLIP_CNT.COUNT) _ (by decide))).then
    (Works.noted _ _ _ _ _ _ _ _ _ _)
  refine (Works.consumeAll s _).trans ((Works.foldl (fun t x => ?_) _ _).trans (Works.injectRecords _ _))
  exact (Works.setOut t _ _ _).trans (Works.setRecPower _ _ _)

end Sys2Proof.Machine
end

section
/-! SUPPORT. What reading and writing memory leave of its poison marks and of its other half, and what a run of single bytes and the two
pages of a tile hold after a write (R62, R63, R65, R154). -/

namespace Sys2Proof.Machine

variable (s : State)

/-! ### Poison marks that reads leave -/

/-- Both memories hold the same poisoned codewords. -/
def SameUe (s t : State) : Prop := t.mem.ue = s.mem.ue

theorem SameUe.trans {s t u : State} (h : SameUe s t) (h2 : SameUe t u) : SameUe s u := Eq.trans h2 h

theorem SameUe.foldl {α : Type} {f : State → α → State} (hf : ∀ s a, SameUe s (f s a)) (l : List α) (s : State) :
    SameUe s (l.foldl f s) := by
  induction l generalizing s with
  | nil => rfl
  | cons a l ih => exact (hf s a).trans (ih _)

theorem SameUe.raise (source code : Nat) (args : List Nat) : SameUe s (s.raise source code args) :=
  congrArg MemSt.ue (s.raise_mem _ _ _)

theorem SameUe.stopMove (m : PageMove) : SameUe s (s.stopMove m) := by
  refine SameUe.foldl (fun t u => ?_) _ _
  split
  · rfl
  · split <;> rfl

theorem SameUe.clearPc (pc cause : Nat) : SameUe s (s.clearHealth 2 pc cause) := by
  have h0 : ¬ (2 : Nat) = 0 := by decide
  have h1 : ¬ (2 : Nat) = 1 := by decide
  unfold State.clearHealth
  simp only [if_neg h0, if_neg h1]
  split
  · exact (SameUe.raise (s.setFld _ _) _ _ _).trans (SameUe.foldl SameUe.stopMove _ _)
  · rfl

theorem SameUe.retirePage (p : Nat) : SameUe s (s.retirePage p) := by
  have hraise : SameUe s ((s.setPage p pgRetired).raise Src.obj E.PAGE_RETIRED (words2 (p * pageSize))) :=
    SameUe.raise (s.setPage p pgRetired) _ _ _
  unfold State.retirePage
  split
  · rfl
  · dsimp only
    split
    · refine hraise.trans (SameUe.trans ?_ (SameUe.clearPc _ _ _))
      rfl
    · exact hraise

theorem SameUe.noteUe (cw : Nat) : SameUe s (s.noteUe cw) := by
  unfold State.noteUe
  refine SameUe.trans ?_ (SameUe.raise _ _ _ _)
  split <;> rfl

theorem SameUe.noteCe (cw : Nat) : SameUe s (s.noteCe cw) := by
  unfold State.noteCe
  dsimp only
  generalize cwPc cw = pc
  split
  all_goals
    split
    · refine SameUe.trans ?_ (SameUe.raise _ _ _ _)
      rfl
    · rfl

/-- Reading a codeword removes no poison, whatever it retires. -/
theorem SameUe.consume (cw : Nat) : SameUe s (s.consume cw).1 := by
  unfold State.consume
  split
  · refine (SameUe.noteUe s cw).trans ?_
    dsimp only
    split
    · exact SameUe.retirePage _ _
    · rfl
  · split
    · refine (SameUe.noteCe s cw).trans ?_
      dsimp only
      split
      · split
        · refine SameUe.trans ?_ (SameUe.retirePage _ _)
          rfl
        · rfl
      · rfl
    · rfl

theorem State.consume_snd (cw : Nat) : (s.consume cw).2 = s.mem.ue.contains cw := by
  unfold State.consume
  split
  · exact Eq.symm ‹_›
  next hclean =>
    rw [Bool.eq_false_of_not_eq_true hclean]
    dsimp only
    repeat' split
    all_goals rfl

/-- Of the codewords read, those that hold poison are returned. -/
theorem State.consumeAll_snd (cws : List Nat) : (s.consumeAll cws).2 = cws.filter (s.mem.ue.contains ·) := by
  have hfold : ∀ (l : List Nat) (x : State × List Nat),
      (l.foldl (fun r cw => let c := r.1.consume cw; (c.1, if c.2 then r.2 ++ [cw] else r.2)) x).2 =
        x.2 ++ l.filter (x.1.mem.ue.contains ·) := fun l => by
    induction l with
    | nil => exact fun x => (List.append_nil _).symm
    | cons cw l ih =>
      intro x
      have hue : (x.1.consume cw).1.mem.ue = x.1.mem.ue := SameUe.consume x.1 cw
      rw [List.foldl_cons, ih]
      simp only [hue, x.1.consume_snd cw, List.filter_cons]
      split <;> simp
  exact hfold cws (s, [])

/-! ### Writes of single bytes -/

/-- Bytes written one by one to places that all differ are held there. -/
theorem State.writeEach_byte (pl : Nat → Place) (b : Nat → Byte) (n : Nat) (hapart : ∀ i < n, ∀ j < n, pl i = pl j → i = j)
    {k : Nat} (hk : k < n) : ((List.range n).foldl (fun s k => s.writeMem (pl k) [b k]) s).mem.byte (pl k) = b k := by
  have hself : ∀ p : Place, p.add 0 = p := fun p => by cases p <;> rfl
  induction n with
  | zero => exact absurd hk (Nat.not_lt_zero _)
  | succ n ih =>
    rw [List.range_succ, List.foldl_append, List.foldl_cons, List.foldl_nil]
    by_cases hlast : k = n
    · subst hlast
      have hin := State.writeMem_byte_in ((List.range k).foldl (fun s k => s.writeMem (pl k) [b k]) s) (pl k) [b k] 0 Nat.one_pos
      rwa [hself] at hin
    · rw [State.writeMem_byte_out]
      · exact ih (fun i hi j hj => hapart i (by omega) j (by omega)) (by omega)
      · intro i hi hplace
        obtain rfl : i = 0 := Nat.lt_one_iff.1 hi
        rw [hself] at hplace
        exact hlast (hapart k hk n (Nat.lt_succ_self n) hplace)

/-- A write to HBM leaves Stage SRAM. -/
theorem State.writeMem_hbm_sram (a : Nat) (bs : List Byte) : (s.writeMem (.hbm a) bs).mem.sram = s.mem.sram := by
  obtain ⟨-, hs⟩ := s.consumeAll_bytes (partCws (.hbm a) bs.length)
  unfold State.writeMem
  rw [(State.inject_bytes _ _ _).2]
  exact (MemSt.remark_sram _ _ _).trans hs

/-! ### The two pages of a tile (R154) -/

theorem TileSt.place_first (p : TileSt) {k : Nat} (h : k < pageSize) : p.place k = (p.place 0).add k := by
  unfold TileSt.place placeOf
  simp [Nat.div_eq_of_lt h, Nat.mod_eq_of_lt h, Place.add]

theorem TileSt.place_second (p : TileSt) {k : Nat} (h : k < pageSize) : p.place (pageSize + k) = (p.place pageSize).add k := by
  have hpos : 0 < pageSize := by decide
  unfold TileSt.place placeOf
  simp [Nat.add_div_left _ hpos, Nat.div_eq_of_lt h, Nat.mod_eq_of_lt h, Place.add, Nat.div_self hpos]

theorem TileSt.place_hbm (p : TileSt) : p.place 0 = .hbm (p.page0 * pageSize) ∧ p.place pageSize = .hbm (p.page1 * pageSize) := by
  have hpos : 0 < pageSize := by decide
  unfold TileSt.place placeOf
  simp [Nat.div_self hpos]

/-- A tile's bytes are written to its two pages. -/
def State.writePages (s : State) (p : TileSt) (b : List Byte) : State :=
  (s.writeMem (p.place 0) (b.take pageSize)).writeMem (p.place pageSize) (b.drop pageSize)

theorem MemFrame.writePages (p : TileSt) (b : List Byte) : MemFrame s (s.writePages p b) :=
  (MemFrame.writeMem s _ _).trans (MemFrame.writeMem _ _ _)

theorem State.writePages_sram (p : TileSt) (b : List Byte) : (s.writePages p b).mem.sram = s.mem.sram :=
  (State.writeMem_hbm_sram _ _ _).trans (State.writeMem_hbm_sram _ _ _)

/-- Bytes of other pages stay. -/
theorem State.writePages_out (p : TileSt) {b : List Byte} (hlen : b.length ≤ 131072) {a : Nat} (h0 : a / 65536 ≠ p.page0)
    (h1 : a / 65536 ≠ p.page1) : (s.writePages p b).mem.byte (.hbm a) = s.mem.byte (.hbm a) := by
  have hother : ∀ page i, i < pageSize → a / 65536 ≠ page → Place.hbm a ≠ (Place.hbm (page * pageSize)).add i := by
    intro page i hi hne he
    have ha : a = page * pageSize + i := Place.hbm.inj he
    unfold pageSize at hi ha
    omega
  have htake : (b.take pageSize).length ≤ pageSize := List.length_take_le _ _
  have hdrop : (b.drop pageSize).length ≤ pageSize := by rw [List.length_drop]; unfold pageSize; omega
  unfold State.writePages
  rw [p.place_hbm.1, p.place_hbm.2, State.writeMem_byte_out, State.writeMem_byte_out]
  · exact fun i hi => hother _ i (by omega) h0
  · exact fun i hi => hother _ i (by omega) h1

/-- The two pages of a tile hold its bytes, where they differ. -/
theorem State.writePages_in {p : TileSt} {b : List Byte} (hpages : p.page0 ≠ p.page1) (hlen : b.length ≤ 131072) {k : Nat}
    (hk : k < b.length) : (s.writePages p b).mem.byte (p.place k) = b.getD k 0 := by
  unfold State.writePages
  by_cases hfirst : k < pageSize
  · rw [p.place_first hfirst, State.writeMem_byte_out, State.writeMem_byte_in _ _ _ _ (by simp; omega)]
    · simp [List.getD_eq_getElem?_getD, hfirst]
    · intro i hi
      rw [p.place_hbm.1, p.place_hbm.2]
      intro he
      have ha : p.page0 * pageSize + k = p.page1 * pageSize + i := Place.hbm.inj he
      rw [List.length_drop] at hi
      unfold pageSize at hi hfirst ha
      omega
  · obtain ⟨j, rfl⟩ : ∃ j, k = pageSize + j := ⟨k - pageSize, by omega⟩
    rw [p.place_second (by unfold pageSize at *; omega), State.writeMem_byte_in _ _ _ _ (by simp; omega)]
    simp [List.getD_eq_getElem?_getD]

end Sys2Proof.Machine
end

section
/-! SUPPORT. What the compile of a `CALSTORE` leaves of the calls handed over and of the compiles under way, and the record that a call of
its first phase writes (R201 to R205). -/

namespace Sys2Proof.Machine

variable (s : State)

/-! ### Compiles under way -/

theorem FMap.find_insert_same {α : Type} (m : FMap α) (k : Nat) (v : α) : (FMap.insert m k v).find? (·.1 = k) = some (k, v) := by
  induction m with
  | nil => simp [FMap.insert]
  | cons e m ih =>
    obtain ⟨j, w⟩ := e
    unfold FMap.insert
    split
    · simp
    · split
      · simp
      · rw [List.find?_cons_of_neg (by simpa using Ne.symm ‹_›), ih]

theorem FMap.find_insert_other {α : Type} (m : FMap α) {k i : Nat} (v : α) (h : i ≠ k) :
    (FMap.insert m k v).find? (·.1 = i) = m.find? (·.1 = i) := by
  induction m with
  | nil => simp [FMap.insert, h.symm]
  | cons e m ih =>
    obtain ⟨j, w⟩ := e
    unfold FMap.insert
    split
    · rw [List.find?_cons_of_neg (by simpa using h.symm)]
    · split
      next hk =>
        subst hk
        rw [List.find?_cons_of_neg (by simpa using h.symm), List.find?_cons_of_neg (by simpa using h.symm)]
      next =>
        rw [List.find?_cons, List.find?_cons, ih]

@[simp] theorem State.comp_setComp_same (idx : Nat) (c : CompSt) : (s.setComp idx c).comp? idx = some c := by
  unfold State.comp? State.setComp
  rw [FMap.find_insert_same]
  rfl

theorem State.comp_setComp_other {idx i : Nat} (c : CompSt) (h : i ≠ idx) : (s.setComp idx c).comp? i = s.comp? i := by
  unfold State.comp? State.setComp
  rw [FMap.find_insert_other _ _ h]

/-- From `s` to `t` the calls handed over stand, and the compiles under way are those of the same `CALSTORE`s. -/
structure CompsStay (s t : State) : Prop where
  handed : t.cb.handed = s.cb.handed
  handle : ∀ i, (t.comp? i).map (·.handle) = (s.comp? i).map (·.handle)

theorem CompsStay.of_parts {s t : State} (hhanded : t.cb.handed = s.cb.handed) (hfix : t.fix = s.fix) : CompsStay s t :=
  ⟨hhanded, fun i => by unfold State.comp?; rw [hfix]⟩

theorem CompsStay.refl : CompsStay s s := .of_parts rfl rfl

theorem CompsStay.trans {s t u : State} (h : CompsStay s t) (h2 : CompsStay t u) : CompsStay s u :=
  ⟨h2.handed.trans h.handed, fun i => (h2.handle i).trans (h.handle i)⟩

theorem CompsStay.foldl {α : Type} {f : State → α → State} (hf : ∀ s a, CompsStay s (f s a)) (l : List α) (s : State) :
    CompsStay s (l.foldl f s) := by
  induction l generalizing s with
  | nil => exact CompsStay.refl s
  | cons a l ih => exact (hf s a).trans (ih _)

theorem CompsStay.ite {s t u : State} {p : Prop} [Decidable p] (h : CompsStay s t) (h2 : CompsStay s u) :
    CompsStay s (if p then t else u) := by
  split
  · exact h
  · exact h2

theorem CompsStay.raise (source code : Nat) (args : List Nat) : CompsStay s (s.raise source code args) :=
  .of_parts (congrArg CbSt.handed (s.raise_cb _ _ _)) (s.raise_fix _ _ _)

theorem CompsStay.writeMem (p : Place) (bs : List Byte) : CompsStay s (s.writeMem p bs) := by
  have hframe := MemFrame.writeMem s p bs
  exact .of_parts (by rw [hframe]) (by rw [hframe])

/-- A compile moves on under its handle. -/
theorem CompsStay.setComp {s t : State} (h : CompsStay s t) {idx : Nat} {c d : CompSt} (hc : s.comp? idx = some c)
    (hd : d.handle = c.handle) : CompsStay s (t.setComp idx d) := by
  refine ⟨h.handed, fun i => ?_⟩
  by_cases hi : i = idx
  · rw [hi, State.comp_setComp_same, hc, Option.map_some, Option.map_some, hd]
  · rw [t.comp_setComp_other d hi, h.handle i]

/-! ### Posts of the roots (R204, R205) -/

theorem CompsStay.cbPost (p : Producer) (source ref : Nat) (w : CallWord) (reserved : Nat) :
    CompsStay s (s.cbPost p source ref w reserved).1 := by
  have hfix : (s.cbPost p source ref w reserved).1.fix = s.fix := by rw [(Posts.cbPost s p source ref w reserved).parts]
  refine .of_parts ?_ hfix
  unfold State.cbPost
  split
  · exact congrArg CbSt.handed (State.raise_cb _ _ _ _)
  · split
    · change (s.enqueue source w).1.dispatchAll.cb.handed = _
      rw [(Delivers.dispatchAll _).rest, s.enqueue_board source w]
    · split <;> rfl

theorem CompsStay.rootPosted (idx : Nat) (r : Nat × Nat) : CompsStay s (s.rootPosted idx r) := by
  unfold State.rootPosted
  split
  · exact CompsStay.refl s
  next hc => exact (CompsStay.refl s).setComp hc rfl

theorem CompsStay.rootRefused (idx : Nat) (r : Nat × Nat) : CompsStay s (s.rootRefused idx r) := by
  unfold State.rootRefused
  split
  · exact CompsStay.refl s
  next hc => exact (CompsStay.refl s).setComp hc rfl

theorem CompsStay.postRoots (idx : Nat) (l : List (Nat × Nat)) : CompsStay s (s.postRoots idx l) := by
  induction l generalizing s with
  | nil => exact CompsStay.refl s
  | cons r l ih =>
    unfold State.postRoots
    refine CompsStay.ite (CompsStay.refl s) ?_
    split
    · exact CompsStay.refl s
    next c _ =>
      have hpost := CompsStay.cbPost s .blocking Src.blocking 0 (s.compWord idx c r false) 0
      dsimp only
      split
      · exact (hpost.trans (CompsStay.rootPosted _ _ _)).trans (ih _)
      · exact hpost
      · exact (hpost.trans (CompsStay.rootRefused _ _ _)).trans (ih _)

theorem CompsStay.postAllRoots (idx : Nat) : CompsStay s (s.postAllRoots idx) := by
  unfold State.postAllRoots
  split
  · exact CompsStay.postRoots s _ _
  · exact CompsStay.refl s

/-! ### The end of a phase (R204) -/

theorem CompsStay.headerWritten (idx : Nat) : CompsStay s (s.headerWritten idx) := by
  unfold State.headerWritten
  split
  · exact CompsStay.refl s
  next c hc =>
    have hphase := (CompsStay.foldl (fun t k => CompsStay.writeMem t (headerPlace (s.obj? idx) (1 - (s.cal idx).bank) k)
      [c.header.getD k 0]) (List.range 64) s).setComp (d := { c with phase := 3 }) hc rfl
    exact CompsStay.ite (hphase.trans (.of_parts rfl rfl)) hphase

theorem CompsStay.settleComp (idx : Nat) : CompsStay s (s.settleComp idx) := by
  have htold : ∀ (t : State) (empty : Bool) (args : List Nat),
      CompsStay t (if empty then t.raise Src.fix E.CAL_GAMUT_EMPTY args else t) := fun t empty args =>
    CompsStay.ite (CompsStay.raise t _ _ _) (CompsStay.refl t)
  unfold State.settleComp
  split
  · exact CompsStay.refl s
  next c hc =>
    refine CompsStay.ite (CompsStay.refl s) (CompsStay.ite ?_ (CompsStay.ite (CompsStay.headerWritten s idx) (CompsStay.refl s)))
    have hphase := fun (empty709 empty2020 : Bool) roots =>
      ((htold s empty709 [c.handle, 0]).trans (htold _ empty2020 [c.handle, 1])).setComp (d := { c with phase := 2, roots := roots }) hc rfl
    exact CompsStay.ite ((hphase _ _ _).trans (CompsStay.headerWritten _ _)) ((hphase _ _ _).trans (CompsStay.postAllRoots _ _))

theorem CompsStay.settleComps : CompsStay s s.settleComps := CompsStay.foldl CompsStay.settleComp _ s

/-! ### A call handed over (R204 step 1) -/

/-- Where no compile is under way, a call of a live object that is handed over begins one. -/
theorem State.takeCompile_begins {r : CallRec} {rest : List CallRec} (hhanded : s.cb.handed = r :: rest)
    (hlive : s.live r.word.arg0 = true) (hcomps : s.fix.comps = []) : s.takeCompile.cb.handed = rest ∧
      (s.takeCompile.comp? (handleIdx r.word.arg0)).map (·.handle) = some r.word.arg0 := by
  have hliveStill : ({ s with cb := { s.cb with handed := rest } } : State).live r.word.arg0 = true := hlive
  have hnone : ({ s with cb := { s.cb with handed := rest } } : State).comp? (handleIdx r.word.arg0) = none := by
    unfold State.comp?
    rw [hcomps]
    rfl
  have htaken : s.takeCompile = (({ s with cb := { s.cb with handed := rest } } : State).startComp (handleIdx r.word.arg0)
      r.word.arg0 r.word.arg1).postAllRoots (handleIdx r.word.arg0) := by
    unfold State.takeCompile
    simp [hhanded, hliveStill, hnone]
  rw [htaken]
  obtain ⟨hrest, hhandle⟩ := CompsStay.postAllRoots (({ s with cb := { s.cb with handed := rest } } : State).startComp
    (handleIdx r.word.arg0) r.word.arg0 r.word.arg1) (handleIdx r.word.arg0)
  refine ⟨hrest, (hhandle _).trans ?_⟩
  unfold State.startComp
  rw [State.comp_setComp_same]
  rfl

/-! ### The record of a lamp (R200 to R202) -/

theorem compileRecord_length (es : List EmitData) : (compileRecord es).length = calRecord es.length := slice_length _ _ _

theorem State.lampData_length (o : Obj) (l : Nat) : (s.lampData o l).length = calEmitters o.param := by simp [State.lampData]

theorem SameBytes.lampData {s t : State} (h : SameBytes s t) (o : Obj) (l : Nat) : t.lampData o l = s.lampData o l := by
  have hbyte : ∀ off, t.objByte o off = s.objByte o off := fun off => MemSt.byte_congr h.1 h.2 _
  unfold State.lampData State.objBytes
  simp only [hbyte]

theorem State.updLeaf_mem (idx leaf : Nat) (f : LeafRes → LeafRes) : (s.updLeaf idx leaf f).mem = s.mem := by
  unfold State.updLeaf
  split <;> rfl

theorem State.updLeaf_cb (idx leaf : Nat) (f : LeafRes → LeafRes) : (s.updLeaf idx leaf f).cb = s.cb := by
  unfold State.updLeaf
  split <;> rfl

theorem State.updLeaf_obj (idx leaf : Nat) (f : LeafRes → LeafRes) : (s.updLeaf idx leaf f).obj = s.obj := by
  unfold State.updLeaf
  split <;> rfl

theorem State.updLeaf_cal (idx leaf : Nat) (f : LeafRes → LeafRes) : (s.updLeaf idx leaf f).fix.cal = s.fix.cal := by
  unfold State.updLeaf
  split <;> rfl

/-- Phase A of a lamp without poison stores the record compiled of its data in the bank not in use. -/
theorem State.leafA_stores (idx leaf l : Nat) (hapart : ((List.range (calRecord (calEmitters (s.obj? idx).param))).map
    (recordPlace (s.obj? idx) (1 - (s.cal idx).bank) l)).Nodup) {k : Nat} (hk : k < calRecord (calEmitters (s.obj? idx).param)) :
    (s.leafA idx leaf l []).mem.byte (recordPlace (s.obj? idx) (1 - (s.cal idx).bank) l k) =
      (compileRecord (s.lampData (s.obj? idx) l)).getD k 0 := by
  have hlen : (compileRecord (s.lampData (s.obj? idx) l)).length = calRecord (calEmitters (s.obj? idx).param) := by
    rw [compileRecord_length, s.lampData_length]
  have hclean : (binCws (s.obj? idx) l).any (([] : List Nat).contains ·) = false := by simp
  unfold State.leafA
  dsimp only
  rw [State.updLeaf_mem, hclean, if_neg Bool.false_ne_true, hlen]
  refine State.writeEach_byte s _ (fun k => (compileRecord (s.lampData (s.obj? idx) l)).getD k 0) _ (fun i hi j hj hij => ?_) hk
  exact List.inj_on_of_nodup_map hapart (List.mem_range.2 hi) (List.mem_range.2 hj) hij

theorem State.leafA_cb (idx leaf l : Nat) (bad : List Nat) : (s.leafA idx leaf l bad).cb = s.cb := by
  unfold State.leafA
  dsimp only
  rw [State.updLeaf_cb, MemFrame.foldl _ (fun t k => MemFrame.writeMem t _ _) _ s]

/-- A leaf of one lamp whose data hold no poison is phase A of that lamp, after its data have been read. -/
theorem State.runLeaf_one {idx : Nat} {w : CallWord} (hcount : w.arg2 = 1) (hphase : w.arg3 = 0)
    (hclean : (s.consumeAll (binCws (s.obj? idx) w.arg1).dedup).2 = []) : s.runLeaf idx w =
      ((s.updLeaf idx w.arg1 (fun _ => leafNone)).consumeAll (binCws (s.obj? idx) w.arg1).dedup).1.leafA idx w.arg1 w.arg1 [] := by
  have hbit : bit 0 0 = false := rfl
  have hbad : ((s.updLeaf idx w.arg1 (fun _ => leafNone)).consumeAll (binCws (s.obj? idx) w.arg1).dedup).2 = [] := by
    rw [State.consumeAll_snd, State.updLeaf_mem, ← State.consumeAll_snd, hclean]
  unfold State.runLeaf
  simp only [hcount, hphase, hbit, Bool.false_eq_true, if_false, List.range_one, List.map_cons, List.map_nil, Nat.add_zero,
    List.flatMap_cons, List.flatMap_nil, List.append_nil, List.foldl_cons, List.foldl_nil, hbad]

/-- Such a call leaves the Call Board, and the record of its lamp in the bank not in use. -/
theorem State.runLeaf_records {idx : Nat} {w : CallWord} (hcount : w.arg2 = 1) (hphase : w.arg3 = 0)
    (hclean : (s.consumeAll (binCws (s.obj? idx) w.arg1).dedup).2 = [])
    (hapart : ((List.range (calRecord (calEmitters (s.obj? idx).param))).map
      (recordPlace (s.obj? idx) (1 - (s.cal idx).bank) w.arg1)).Nodup) :
    (s.runLeaf idx w).cb = s.cb ∧ ∀ k < calRecord (calEmitters (s.obj? idx).param),
      (s.runLeaf idx w).mem.byte (recordPlace (s.obj? idx) (1 - (s.cal idx).bank) w.arg1 k) =
        (compileRecord (s.lampData (s.obj? idx) w.arg1)).getD k 0 := by
  rw [s.runLeaf_one hcount hphase hclean]
  have hbytes := State.consumeAll_bytes (s.updLeaf idx w.arg1 (fun _ => leafNone)) (binCws (s.obj? idx) w.arg1).dedup
  have hframe := MemFrame.consumeAll (s.updLeaf idx w.arg1 (fun _ => leafNone)) (binCws (s.obj? idx) w.arg1).dedup
  generalize ((s.updLeaf idx w.arg1 (fun _ => leafNone)).consumeAll (binCws (s.obj? idx) w.arg1).dedup).1 = u at hbytes hframe
  have hobj : u.obj? idx = s.obj? idx := State.obj?_of_obj (hframe.obj.trans (s.updLeaf_obj _ _ _)) idx
  have hcal : u.cal idx = s.cal idx := by
    unfold State.cal
    rw [show u.fix = (s.updLeaf idx w.arg1 (fun _ => leafNone)).fix by rw [hframe], State.updLeaf_cal]
  have hdata : u.lampData (s.obj? idx) w.arg1 = s.lampData (s.obj? idx) w.arg1 := by
    rw [SameBytes.lampData (s := s)]
    exact ⟨hbytes.1.trans (congrArg MemSt.hbm (s.updLeaf_mem _ _ _)), hbytes.2.trans (congrArg MemSt.sram (s.updLeaf_mem _ _ _))⟩
  refine ⟨(u.leafA_cb _ _ _ _).trans ?_, fun k hk => ?_⟩
  · rw [hframe]
    exact s.updLeaf_cb _ _ _
  · have hstored := u.leafA_stores idx w.arg1 w.arg1
    rw [hobj, hcal, hdata] at hstored
    exact hstored hapart hk

end Sys2Proof.Machine
end

section
/-! SUPPORT. What engines do with their calls, and the statement about compiles, tiles and fixture passes (R139 to R161, R185 to R221). -/

namespace Sys2Proof.Machine

variable (s : State)

/-! ### The call that an engine holds (R108) -/

theorem State.heldCall_of_toRun {c : Consumer} {kind : Nat} {r : CallRec} (h : s.toRun c kind = some r) : s.heldCall c = some r := by
  unfold State.toRun at h
  split at h
  next x hx =>
    split at h
    · rw [hx, h]
    · cases h
  next => cases h

/-- The call that an engine held before its work has run when that is marked. -/
theorem State.markRan_ran {s t : State} {c : Consumer} {kind : Nat} {r : CallRec} (hrun : s.toRun c kind = some r) (hcb : t.cb = s.cb) :
    ((t.markRan c).heldCall c).map (·.ran) = some true := by
  have hheld := s.heldCall_of_toRun hrun
  unfold State.heldCall at hheld ⊢
  obtain ⟨x, hx, -⟩ := Option.map_eq_some_iff.1 hheld
  have hconsumer : x.1 = c := by
    have hfound := List.find?_some hx
    exact of_decide_eq_true hfound
  have hsame : ((fun h : Consumer × CallRec => decide (h.1 = c)) ∘
      fun h => if h.1 = c then (h.1, { h.2 with ran := true }) else h) = fun h => decide (h.1 = c) := by
    funext h
    dsimp only [Function.comp]
    split <;> rfl
  unfold State.markRan
  rw [hcb, List.find?_map, hsame, hx]
  simp [hconsumer]

/-! ### Compiles (R204) -/

/-- A call of the first phase for one lamp is run as a leaf. -/
theorem State.runCompile_leaf {n : Nat} {r : CallRec} {c : CompSt} (hrun : s.toRun (.fe n) kCalCompile = some r)
    (hcomp : s.comp? (handleIdx r.word.arg0) = some c) (hhandle : c.handle = r.word.arg0) (hphase : c.phase = 1)
    (harg : r.word.arg3 = 0) (hchildren : r.word.children = 0) :
    s.runCompile n = (s.runLeaf (handleIdx r.word.arg0) r.word).markRan (.fe n) := by
  unfold State.runCompile
  simp [hrun, hcomp, hhandle, hphase, harg, hchildren]

/-! ### Tiles (R152, R154) -/

theorem State.heldTiles_setHeld (n : Nat) (l : List HeldTile) : (s.setHeld n l).heldTiles n = l := FMap.get_put_same _ _ _ _

/-- A call finds its frame among those under way, and its engine room for the tile. -/
theorem State.renderTile_runs {n : Nat} {r : CallRec} {f : FrameRec} (hrun : s.toRun (.re n) kRenderTile = some r)
    (hroom : (s.heldTiles n).length < 7) (hframe : s.frame? r.word.frame = some f) : s.renderTile n =
      ((s.composite f r.word.item).1.setHeld n (s.heldTiles n ++ [⟨r.word.item, r.word.frame, (s.composite f r.word.item).2⟩])).markRan
        (.re n) := by
  have hheld : (s.composite f r.word.item).1.heldTiles n = s.heldTiles n :=
    congrArg (fun m => FMap.get [] m n) (s.composite_counts f r.word.item).held
  unfold State.renderTile
  simp only [hrun, if_neg (Nat.not_le.2 hroom), s.callFrame_of_frame hframe, hheld]

/-- A tile that has been composited is held behind those held before and counted, and its call has run. -/
theorem State.composited_leaves {u : State} {n : Nat} {r : CallRec} (tile : HeldTile) (hrun : s.toRun (.re n) kRenderTile = some r)
    (hcounts : WorksCounting s u F.CMP_TILE_CNT.COUNT 1) :
    (s.settle ((u.setHeld n (s.heldTiles n ++ [tile])).markRan (.re n))).heldTiles n = s.heldTiles n ++ [tile] ∧
      (s.settle ((u.setHeld n (s.heldTiles n ++ [tile])).markRan (.re n))).fld F.CMP_TILE_CNT.COUNT =
        (s.fld F.CMP_TILE_CNT.COUNT + 1) % 2 ^ 64 ∧
      ((s.settle ((u.setHeld n (s.heldTiles n ++ [tile])).markRan (.re n))).heldCall (.re n)).map (·.ran) = some true :=
  ⟨State.heldTiles_setHeld _ _ _, hcounts.counts (by decide) (by decide), State.markRan_ran hrun hcounts.cb⟩

/-- A tile whose fence is over is written to the pages that its frame found for it, and listed with the frame. -/
theorem State.tileWriteback_writes {n : Nat} {h : HeldTile} {rest : List HeldTile} {f : FrameRec} {p : TileSt}
    (hheld : s.heldTiles n = h :: rest) (hfence : s.fenceOver h = true) (hframe : s.frame? h.frame = some f)
    (htile : f.snap.tiles.get none h.item = some p) :
    s.tileWriteback n = ((s.setHeld n rest).writePages p h.bytes).updFrame h.frame (fun f => { f with
      tiles := f.tiles ++ [h.item], shots := if f.watched h.item then f.shots.put [] h.item h.bytes else f.shots }) := by
  have hfound : (s.setHeld n rest).frame? h.frame = some f := hframe
  unfold State.tileWriteback
  rw [hheld]
  dsimp only
  rw [if_pos hfence]
  unfold State.writeTile
  rw [hfound]
  dsimp only
  rw [htile]
  rfl

/-- The next tile is held first then, both pages hold the bytes, and no other byte has changed. -/
theorem State.storedTile (n : Nat) (rest : List HeldTile) {p : TileSt} {b : List Byte} (hpages : p.page0 ≠ p.page1)
    (hlen : b.length ≤ 131072) :
    ((s.setHeld n rest).writePages p b).heldTiles n = rest ∧ ((s.setHeld n rest).writePages p b).frames = s.frames ∧
      (∀ k < b.length, ((s.setHeld n rest).writePages p b).mem.byte (p.place k) = b.getD k 0) ∧
      (∀ a, a / 65536 ≠ p.page0 → a / 65536 ≠ p.page1 →
        ((s.setHeld n rest).writePages p b).mem.byte (.hbm a) = s.mem.byte (.hbm a)) ∧
      ((s.setHeld n rest).writePages p b).mem.sram = s.mem.sram := by
  have hrest := MemFrame.writePages (s.setHeld n rest) p b
  refine ⟨?_, ?_, fun k hk => State.writePages_in _ hpages hlen hk, fun a h0 h1 => State.writePages_out _ p hlen h0 h1,
    State.writePages_sram _ _ _⟩
  · rw [hrest]
    exact s.heldTiles_setHeld n rest
  · rw [hrest]
    rfl

/-! ### Fixture passes (R212 to R217) -/

theorem State.runPass1_runs {n : Nat} {r : CallRec} {f : FrameRec} (hrun : s.toRun (.fe n) kPass1 = some r)
    (hframe : s.frame? r.word.frame = some f) : s.runPass1 n =
      (if isRange r.word.item then s.rangePass1 f r.word.item
        else s.chunkPass1 f r.word.item r.word.arg1 r.word.arg2).markRan (.fe n) := by
  unfold State.runPass1
  simp only [hrun, s.callFrame_of_frame hframe]

theorem State.runPass2_runs {n : Nat} {r : CallRec} {f : FrameRec} (hrun : s.toRun (.fe n) kPass2 = some r)
    (hframe : s.frame? r.word.frame = some f) (hlamps : isRange r.word.item = false) : s.runPass2 n =
      (s.chunkPass2 f r.word.item r.word.arg1 r.word.arg2).markRan (.fe n) := by
  unfold State.runPass2
  simp only [hrun, s.callFrame_of_frame hframe, hlamps, Bool.false_eq_true, if_false]

/-- A feed that passes leaves the records that pass 1 wrote. -/
theorem State.chunkPass2_passes {f : FrameRec} {n : Nat} (first count : Nat)
    (h : f.outcome (Sf.feed (f.cfg.entry tSurface (n / 1024))) = outPass) : s.chunkPass2 f n first count = s := by
  unfold State.chunkPass2
  dsimp only
  rw [h]
  exact if_neg (by decide)

theorem State.driveRec_setDrive (surf lamp bank : Nat) (b : List Byte) : (s.setDrive surf lamp bank b).driveRec surf lamp bank = b :=
  FMap.get_put_same _ _ _ _

/-- A dark feed's lamp takes a record of codes 0 with the errors of the previous one, in the bank that its item's pointer does not name. -/
theorem State.chunkPass2_darkens {f : FrameRec} {n : Nat} (lamp : Nat)
    (h : f.outcome (Sf.feed (f.cfg.entry tSurface (n / 1024))) = outDark) :
    ∃ fix : FixSt, s.chunkPass2 f n lamp 1 = { s with fix := fix } ∧
      ({ s with fix := fix } : State).driveRec (n / 1024) lamp (1 - s.itemBank n) =
        darkDrive (padTo ((s.driveRec (n / 1024) lamp (1 - s.itemBank n)).length) (s.driveRead (n / 1024) lamp (s.itemBank n))) := by
  have hdark : s.chunkPass2 f n lamp 1 = (s.setDrive (n / 1024) lamp (1 - s.itemBank n) (darkDrive (padTo
      ((s.driveRec (n / 1024) lamp (1 - s.itemBank n)).length) (s.driveRead (n / 1024) lamp (s.itemBank n))))).setRecPower
        (driveKey (n / 1024) lamp (1 - s.itemBank n)) (0, 0) := by
    unfold State.chunkPass2
    dsimp only
    rw [h, if_pos (.inr rfl)]
    simp only [if_true, List.range_one, List.map_cons, List.map_nil, Nat.add_zero, List.foldl_cons, List.foldl_nil]
  exact ⟨_, hdark, s.driveRec_setDrive _ _ _ _⟩

/-! ### The statement -/

/-- Settles O33, command by command: a compile begins, a leaf stores its lamp's record, a tile is composited or stored, and a fixture pass
counts what it evaluates, passes on or darkens. -/
theorem engineCalls : Obligations.Engine_calls := by
  unfold Obligations.Engine_calls
  refine ⟨?roots, ?call, ?render, ?writeback, ?lamps, ?range, ?passes, ?dark⟩
  case roots =>
    rintro s r rest hup ⟨hhanded, hlive, hcomps⟩
    change Answers (s.done (s.when s.evtUp s.takeCompile.settleComps)) _
    rw [hup, State.when_true, answers_done]
    obtain ⟨hrest, hhandle⟩ := s.takeCompile_begins hhanded hlive hcomps
    have hstay := CompsStay.settleComps s.takeCompile
    exact ⟨hstay.handed.trans hrest, (hstay.handle _).trans hhandle⟩
  case call =>
    rintro s n r c o ⟨hup, hruns⟩ ⟨hrun, hcomp, rfl⟩ ⟨hhandle, hphase, harg, hchildren, hcount⟩ hclean - hapart
    change Answers (s.done (s.when (s.evtUp && s.engineRuns (engineDomain (.fe n))) (s.runCompile n))) _
    rw [hup, hruns, State.when_of _ (by rfl), answers_done, s.runCompile_leaf hrun hcomp hhandle hphase harg hchildren]
    obtain ⟨hcb, hbytes⟩ := s.runLeaf_records hcount harg hclean hapart
    exact ⟨State.markRan_ran hrun hcb, List.map_congr_left fun k hk => hbytes k (List.mem_range.1 hk)⟩
  case render =>
    rintro s n r f ⟨hup, hruns⟩ ⟨hrun, hroom, hframe⟩
    change Answers (s.done (s.when (s.evtUp && s.engineRuns (engineDomain (.re n))) (s.renderTile n))) _
    rw [hup, hruns, State.when_of _ (by rfl), answers_done, s.renderTile_runs hrun hroom hframe]
    exact s.composited_leaves _ hrun (s.composite_counts f r.word.item)
  case writeback =>
    rintro s n h rest f p ⟨hup, hruns⟩ ⟨hheld, hfence⟩ ⟨hframe, htile⟩ ⟨hpages, hlen, -⟩
    change Answers (s.done (s.when (s.evtUp && s.engineRuns (engineDomain (.re n))) (s.tileWriteback n))) _
    rw [hup, hruns, State.when_of _ (by rfl), answers_done, s.tileWriteback_writes hheld hfence hframe htile]
    obtain ⟨hfirst, hframes, hin, hout, hsram⟩ := s.storedTile n rest hpages hlen
    generalize (s.setHeld n rest).writePages p h.bytes = u at hfirst hframes hin hout hsram
    refine ⟨hfirst, hin, hout, hsram, ?_⟩
    change ((u.updFrame h.frame _).frame? h.frame).map (·.tiles) = _
    rw [u.frame_updFrame (by intro _; rfl), State.frame_of_frames hframes, hframe]
    rfl
  case lamps =>
    rintro s n r f ⟨hup, hruns⟩ ⟨hrun, hframe, hlamps⟩
    change Answers (s.done (s.when (s.evtUp && s.engineRuns (engineDomain (.fe n))) (s.runPass1 n))) _
    rw [hup, hruns, State.when_of _ (by rfl), answers_done, s.runPass1_runs hrun hframe, if_neg (by rw [hlamps]; exact Bool.false_ne_true)]
    have hcounts := s.chunkPass1_counts f r.word.item r.word.arg1 r.word.arg2
    generalize s.chunkPass1 f r.word.item r.word.arg1 r.word.arg2 = u at hcounts ⊢
    exact ⟨hcounts.counts (by decide) (by decide), State.markRan_ran hrun hcounts.cb⟩
  case range =>
    rintro s n r f ⟨hup, hruns⟩ ⟨hrun, hframe, hrange⟩
    change Answers (s.done (s.when (s.evtUp && s.engineRuns (engineDomain (.fe n))) (s.runPass1 n))) _
    rw [hup, hruns, State.when_of _ (by rfl), answers_done, s.runPass1_runs hrun hframe, if_pos hrange]
    have hcounts := s.rangePass1_counts f r.word.item
    generalize s.rangePass1 f r.word.item = u at hcounts ⊢
    exact ⟨hcounts.counts (by decide) (by decide), State.markRan_ran hrun hcounts.cb⟩
  case passes =>
    rintro s n r f ⟨hup, hruns⟩ ⟨hrun, hframe, hlamps⟩ houtcome
    change s.done (s.when (s.evtUp && s.engineRuns (engineDomain (.fe n))) (s.runPass2 n)) = _
    rw [hup, hruns, State.when_of _ (by rfl), s.runPass2_runs hrun hframe hlamps, s.chunkPass2_passes _ _ houtcome]
    exact s.done_of rfl rfl
  case dark =>
    rintro s n r f ⟨hup, hruns⟩ ⟨hrun, hframe, hlamps, hcount⟩ houtcome
    change Answers (s.done (s.when (s.evtUp && s.engineRuns (engineDomain (.fe n))) (s.runPass2 n))) _
    rw [hup, hruns, State.when_of _ (by rfl), answers_done, s.runPass2_runs hrun hframe hlamps, hcount]
    obtain ⟨fix, hdark, hrecord⟩ := s.chunkPass2_darkens r.word.arg1 houtcome
    rw [hdark]
    exact ⟨hrecord, State.markRan_ran hrun rfl, rfl, rfl, rfl⟩

end Sys2Proof.Machine
end

section
/-! SUPPORT. What the operations of a push pass leave of the pass itself, of the records of units and of frames: one relation, with the
rules that build it (R162 to R184). -/

namespace Sys2Proof.Machine

variable (s : State)

/-! ### Push states and passes -/

@[simp] theorem State.push_updPush (l : Nat) (g : PushSt → PushSt) : (s.updPush l g).push l = g (s.push l) := FMap.get_put_same _ _ _ _

@[simp] theorem State.passOf_updPass (l : Nat) (g : PassSt → PassSt) : (s.updPass l g).passOf l = (s.passOf l).map g := by
  unfold State.updPass State.passOf
  rw [s.push_updPush]

@[simp] theorem State.push_settle (t : State) (l : Nat) : (s.settle t).push l = t.push l := rfl
@[simp] theorem State.passOf_settle (t : State) (l : Nat) : (s.settle t).passOf l = t.passOf l := rfl
@[simp] theorem State.frame_settle (t : State) (seq : Nat) : (s.settle t).frame? seq = t.frame? seq := rfl

theorem State.push_of_psh {s t : State} (h : t.psh = s.psh) (l : Nat) : t.push l = s.push l := by
  unfold State.push; rw [h]

theorem State.frame_seq {seq : Nat} {f : FrameRec} (h : s.frame? seq = some f) : f.seq = seq := by
  have hf := List.find?_some h
  simpa using hf

/-! ### Changes of registers, push states and events alone -/

/-- From `s` to `t` only registers, push states and events may have changed: what forgetting units and counting poison can reach. No
data of a unit depends on them. -/
def PushFrame (s t : State) : Prop := t = { s with regs := t.regs, psh := t.psh, evt := t.evt }

theorem PushFrame.refl : PushFrame s s := rfl

theorem PushFrame.trans {s t u : State} (h : PushFrame s t) (h2 : PushFrame t u) : PushFrame s u := by
  unfold PushFrame at h h2 ⊢
  rw [h] at h2
  exact h2

theorem PushFrame.foldl {α : Type} {f : State → α → State} (hf : ∀ s a, PushFrame s (f s a)) (l : List α) (s : State) :
    PushFrame s (l.foldl f s) := by
  induction l generalizing s with
  | nil => exact PushFrame.refl s
  | cons a l ih => exact (hf s a).trans (ih _)

theorem PushFrame.ite {s t u : State} {p : Prop} [Decidable p] (h : PushFrame s t) (h2 : PushFrame s u) :
    PushFrame s (if p then t else u) := by
  split
  · exact h
  · exact h2

theorem PushFrame.bumpBy (f : Fld) (n : Nat) : PushFrame s (s.bumpBy f n) := rfl

theorem PushFrame.updPush (l : Nat) (g : PushSt → PushSt) : PushFrame s (s.updPush l g) := rfl

theorem PushFrame.raise (source code : Nat) (args : List Nat) : PushFrame s (s.raise source code args) := by
  unfold PushFrame
  rw [s.raise_psh]
  exact s.raise_frame source code args

theorem PushFrame.frames {s t : State} (h : PushFrame s t) : t.frames = s.frames := by rw [h]
theorem PushFrame.sent {s t : State} (h : PushFrame s t) : t.sent = s.sent := by rw [h]
theorem PushFrame.link {s t : State} (h : PushFrame s t) (l : Nat) : t.link l = s.link l := by rw [h]; rfl

theorem PushFrame.unitData {s t : State} (h : PushFrame s t) (f : FrameRec) (funcOff l k : Nat) :
    t.unitData f funcOff l k = s.unitData f funcOff l k := by rw [h]; rfl

theorem PushFrame.walkUnits {s t : State} (h : PushFrame s t) (f : FrameRec) (c : CfgTab) (l : Nat) :
    (t.atSnap f).walkUnits c l = (s.atSnap f).walkUnits c l := by rw [h]; rfl

/-! ### The relation -/

/-- Registers that a pass under way leaves: `PSH_n_UNITS`, `PSH_n_STALE_CNT` and `CL_n_RX_FRAME_CNT` of every show link. -/
def PassReg (o : Nat) : Prop :=
  (0x501000 ≤ o ∧ o < 0x502000 ∧ (o % 64 = 4 ∨ o % 64 = 48)) ∨ (0x1000000 ≤ o ∧ o < 0x1400000 ∧ o % 65536 = 0x208)

theorem passReg_units (l : LinkIx) : PassReg (R.PSH_UNITS l) := by unfold PassReg R.PSH_UNITS; omega
theorem passReg_stale (l : LinkIx) : PassReg (R.PSH_STALE_CNT l) := by unfold PassReg R.PSH_STALE_CNT; omega
theorem passReg_rxFrame (l : LinkIx) : PassReg (R.CL_RX_FRAME_CNT l) := by unfold PassReg R.CL_RX_FRAME_CNT; omega

/-- A frame's record keeps its number, the links whose pass has begun, and the hashes of the units walked. -/
def FrameRec.SameWalk (a b : FrameRec) : Prop := b.seq = a.seq ∧ b.begun = a.begun ∧ b.hashes = a.hashes

theorem FrameRec.SameWalk.refl (a : FrameRec) : a.SameWalk a := ⟨rfl, rfl, rfl⟩

theorem FrameRec.SameWalk.trans {a b c : FrameRec} (h : a.SameWalk b) (h2 : b.SameWalk c) : a.SameWalk c := by
  obtain ⟨hseq, hbegun, hhashes⟩ := h
  obtain ⟨hseq2, hbegun2, hhashes2⟩ := h2
  exact ⟨hseq2.trans hseq, hbegun2.trans hbegun, hhashes2.trans hhashes⟩

/-- From `s` to `t` the pass of a link ends at most, and while it runs it stands at the same unit; the link's records of units, what every
frame keeps of its walks, and the registers above stand. -/
structure PassGoesOn (l : LinkIx) (s t : State) : Prop where
  frames : List.Forall₂ FrameRec.SameWalk s.frames t.frames
  units : (t.push l).units = (s.push l).units
  walked : (t.push l).walked = (s.push l).walked
  next : ∀ q, t.passOf l = some q → ∃ p, s.passOf l = some p ∧ q.next = p.next
  rv : ∀ o, PassReg o → t.rv o = s.rv o

namespace PassGoesOn

variable {l : LinkIx}

theorem of_parts {s t : State} (hframes : t.frames = s.frames) (hpsh : t.psh = s.psh) (hrv : ∀ o, PassReg o → t.rv o = s.rv o) :
    PassGoesOn l s t where
  frames := by rw [hframes]; exact List.forall₂_same.2 fun a _ => FrameRec.SameWalk.refl a
  units := by rw [State.push_of_psh hpsh]
  walked := by rw [State.push_of_psh hpsh]
  next := fun q hq => ⟨q, by rwa [State.passOf, State.push_of_psh hpsh] at hq, rfl⟩
  rv := hrv

theorem refl : PassGoesOn l s s := of_parts rfl rfl fun _ _ => rfl

theorem trans {s t u : State} (h : PassGoesOn l s t) (h2 : PassGoesOn l t u) : PassGoesOn l s u where
  frames := forall₂_trans (r := FrameRec.SameWalk) (fun ha hb => ha.trans hb) h.frames h2.frames
  units := h2.units.trans h.units
  walked := h2.walked.trans h.walked
  next := fun q hq => by
    obtain ⟨p, hp, hqp⟩ := h2.next q hq
    obtain ⟨p', hp', hpp⟩ := h.next p hp
    exact ⟨p', hp', hqp.trans hpp⟩
  rv := fun o ho => (h2.rv o ho).trans (h.rv o ho)

theorem foldl {α : Type} {f : State → α → State} {as : List α} (hf : ∀ s, ∀ a ∈ as, PassGoesOn l s (f s a)) (s : State) :
    PassGoesOn l s (as.foldl f s) := by
  induction as generalizing s with
  | nil => exact refl s
  | cons a as ih => exact (hf s a List.mem_cons_self).trans (ih (fun s b hb => hf s b (List.mem_cons_of_mem _ hb)) _)

theorem ite {s t u : State} {p : Prop} [Decidable p] (h : PassGoesOn l s t) (h2 : PassGoesOn l s u) :
    PassGoesOn l s (if p then t else u) := by
  split
  · exact h
  · exact h2

theorem setRv {off : Nat} (v : Nat) (h : ¬ PassReg off) : PassGoesOn l s (s.setRv off v) :=
  of_parts rfl rfl fun _ ho => s.rv_setRv_other v fun e => h (e ▸ ho)

theorem setFld {f : Fld} (v : Nat) (h : ¬ PassReg f.reg) : PassGoesOn l s (s.setFld f v) := setRv s _ h

theorem bumpBy {f : Fld} (n : Nat) (h : ¬ PassReg f.reg) : PassGoesOn l s (s.bumpBy f n) := setFld s _ h

theorem bump {f : Fld} (h : ¬ PassReg f.reg) : PassGoesOn l s (s.bump f) := setFld s _ h

theorem raise (source code : Nat) (args : List Nat) : PassGoesOn l s (s.raise source code args) :=
  of_parts (s.raise_frames _ _ _) (s.raise_psh _ _ _) fun o ho => s.raise_rv_of_notMem source code args fun he => by
    simp only [eventCounters, R.EVT_SRC_LOST_CNT, R.CUR_EVT_LOST_CNT, R.GL_EVT_LOST_CNT, List.mem_cons, List.not_mem_nil, or_false] at he
    unfold PassReg at ho
    omega

theorem send (x : Sent) : PassGoesOn l s (s.send x) := of_parts rfl rfl fun _ _ => rfl

theorem updSig (n : Nat) (g : SigSt → SigSt) : PassGoesOn l s (s.updSig n g) := of_parts rfl rfl fun _ _ => rfl

theorem updLink (m : Nat) (g : LinkSt → LinkSt) : PassGoesOn l s (s.updLink m g) := of_parts rfl rfl fun _ _ => rfl

theorem updFrame (seq : Nat) {f : FrameRec → FrameRec} (hf : ∀ a, FrameRec.SameWalk a (f a)) : PassGoesOn l s (s.updFrame seq f) where
  frames := s.forall₂_updFrame FrameRec.SameWalk.refl seq fun a _ => hf a
  units := rfl
  walked := rfl
  next := fun q hq => ⟨q, hq, rfl⟩
  rv := fun _ _ => rfl

theorem updPush {g : PushSt → PushSt} (hunits : ∀ x, (g x).units = x.units) (hwalked : ∀ x, (g x).walked = x.walked)
    (hnext : ∀ x q, (g x).pass = some q → ∃ p, x.pass = some p ∧ q.next = p.next) : PassGoesOn l s (s.updPush l g) where
  frames := List.forall₂_same.2 fun a _ => FrameRec.SameWalk.refl a
  units := by rw [s.push_updPush, hunits]
  walked := by rw [s.push_updPush, hwalked]
  next := fun q hq => hnext (s.push l) q (by rwa [State.passOf, s.push_updPush] at hq)
  rv := fun _ _ => rfl

theorem updPass {g : PassSt → PassSt} (hg : ∀ p, (g p).next = p.next) : PassGoesOn l s (s.updPass l g) :=
  updPush s (fun _ => rfl) (fun _ => rfl) fun x q hq => by
    obtain ⟨p, hp, rfl⟩ := Option.map_eq_some_iff.1 hq
    exact ⟨p, hp, hg p⟩

/-- What a frame keeps of its walks is found under its number. -/
theorem frame_any {s t : State} (h : PassGoesOn l s t) {p : FrameRec → Bool} (hp : ∀ {a b}, FrameRec.SameWalk a b → p a = true → p b = true)
    {seq : Nat} (hs : (s.frame? seq).any p = true) : (t.frame? seq).any p = true :=
  any_find_of_forall₂ (r := FrameRec.SameWalk) (fun hab => hab.1) hp h.frames seq hs

theorem frame_hashes {s t : State} (h : PassGoesOn l s t) {seq : Nat} {f : FrameRec} (hf : s.frame? seq = some f) :
    ∃ g, t.frame? seq = some g ∧ g.hashes = f.hashes := by
  have hany : (t.frame? seq).any (fun g => decide (g.hashes = f.hashes)) = true :=
    h.frame_any (fun ⟨_, _, hsame⟩ ha => by rw [hsame]; exact ha) (by rw [hf]; exact decide_eq_true rfl)
  obtain ⟨g, hg, hhashes⟩ := (Option.any_eq_true _ _).1 hany
  exact ⟨g, hg, of_decide_eq_true hhashes⟩

theorem fld {s t : State} (h : PassGoesOn l s t) {f : Fld} (hf : PassReg f.reg) : t.fld f = s.fld f := by
  unfold State.fld
  rw [h.rv _ hf]

end PassGoesOn

end Sys2Proof.Machine
end

section
/-! SUPPORT. Each operation of a push pass, by the relation above: frames and requests that a link sends, windows and their results, the
walk, the end of a pass, and up frames (R166 to R184, R229, R240, R245, R249, R254, R331, R343 to R346). -/

namespace Sys2Proof.Machine

variable (s : State)

theorem pshState_notPassReg (l : LinkIx) : ¬ PassReg (R.PSH_STATE l) := by unfold PassReg R.PSH_STATE; omega
theorem pshSweep_notPassReg (l : LinkIx) : ¬ PassReg (R.PSH_SWEEP l) := by unfold PassReg R.PSH_SWEEP; omega
theorem clClaim_notPassReg (m : Nat) : ¬ PassReg (R.CL_CLAIM m) := by unfold PassReg R.CL_CLAIM; omega

/-- The registers of the Spot windows lie between those of the passes and those of the links. -/
theorem notPassReg_of_window {o : Nat} (h : 0x580000 ≤ o ∧ o < 0x1000000) : ¬ PassReg o := by unfold PassReg; omega

/-- So do the registers above those of the show links. -/
theorem notPassReg_of_above {o : Nat} (h : 0x1400000 ≤ o) : ¬ PassReg o := by unfold PassReg; omega

namespace PassGoesOn

variable {l : LinkIx}

/-! ### What a link sends (R229, R240, R249, R254) -/

theorem txFrame (m type : Nat) (payload : List Byte) : PassGoesOn l s (s.txFrame m type payload) := by
  unfold State.txFrame
  have hsent : PassGoesOn l s (s.sendFrame m type (s.claimOn m) (s.link m).txSeq payload) := of_parts rfl rfl fun _ _ => rfl
  have hcount : ¬ PassReg (R.CL_TX_FRAME_CNT m) := by unfold PassReg R.CL_TX_FRAME_CNT; omega
  exact ite (refl s) ((hsent.trans (updLink _ m _)).trans (bump _ (f := F.CL_TX_FRAME_CNT.COUNT m) hcount))

theorem showCredits (m : Nat) : PassGoesOn l s (s.showCredits m) := by
  have hout : ¬ PassReg (R.CL_CRED_OUT m) := by unfold PassReg R.CL_CRED_OUT; omega
  have hheld : ¬ PassReg (R.CL_CRED_HELD m) := by unfold PassReg R.CL_CRED_HELD; omega
  exact (setFld s (f := F.CL_CRED_OUT.COUNT m) _ hout).trans (setFld _ (f := F.CL_CRED_HELD.COUNT m) _ hheld)

theorem txBuffered (m type : Nat) (payload : List Byte) : PassGoesOn l s (s.txBuffered m type payload) := by
  unfold State.txBuffered
  exact (txFrame s m type payload).trans (ite ((updLink _ m _).trans (showCredits _ m)) (refl _))

theorem drainN (m n : Nat) : PassGoesOn l s (s.drainN m n) := by
  induction n generalizing s with
  | zero => exact refl s
  | succ n ih =>
    unfold State.drainN
    split
    · exact refl s
    · exact ite ((updLink s m _).trans ((txBuffered _ m _ _).trans (ih _))) (refl s)

theorem txWait (m : Nat) (w : TxWait) : PassGoesOn l s (s.txWait m w) := (updLink s m _).trans (drainN _ m _)

theorem cfgRequest (m : Nat) (req : CfgReq) (write : Bool) (addr count : Nat) (words : List Nat) :
    PassGoesOn l s (s.cfgRequest m req write addr count words) := (updLink s m _).trans (txWait _ m _)

theorem sendClears (m : Nat) : PassGoesOn l s (s.sendClears m) :=
  foldl (fun t r _ => by
    unfold State.sendClear
    split
    · exact cfgRequest t m _ _ _ _ _
    · exact cfgRequest t m _ _ _ _ _
    · exact refl t) s

theorem sendProfiles (v : State) (m : Nat) (c : CfgTab) : PassGoesOn l s (s.sendProfiles v m c) := by
  unfold State.sendProfiles
  refine ite (refl s) ((foldl (fun t i _ => ?_) s).trans (foldl (fun t i _ => ?_) _))
  · exact ite (refl t) ((updLink t m _).trans (txWait _ m _))
  · exact (updLink t m _).trans (txWait _ m _)

/-! ### Windows (R180 to R183, R373) -/

theorem pushHist {w : Nat} (h : w < 48) (crc seq : Nat) : PassGoesOn l s (s.pushHist w crc seq) := by
  have hist : ∀ i ≤ 7, ¬ PassReg (R.SPT_HIST w i) := fun i hi => notPassReg_of_window (by unfold R.SPT_HIST; omega)
  have hstatus : ¬ PassReg (R.SPT_STATUS w) := notPassReg_of_window (by unfold R.SPT_STATUS; omega)
  have hshift := foldl (l := l) (as := List.range 7) (fun t i _ => setRv t (t.rv (R.SPT_HIST w (6 - i))) (hist (7 - i) (by omega))) s
  exact (hshift.trans (setRv _ _ (hist 0 (by omega)))).trans (setFld _ (f := F.SPT_STATUS.HIST_COUNT w) _ hstatus)

theorem spotResult {w : Nat} (h : w < 48) (e : List Byte) (seq crc : Nat) (dropped : Bool) :
    PassGoesOn l s (s.spotResult w e seq crc dropped) := by
  have hstatus : ¬ PassReg (R.SPT_STATUS w) := notPassReg_of_window (by unfold R.SPT_STATUS; omega)
  have hresult : ¬ PassReg (R.SPT_RESULT w) := notPassReg_of_window (by unfold R.SPT_RESULT; omega)
  have hframe : ¬ PassReg (R.SPT_FRAME w) := notPassReg_of_window (by unfold R.SPT_FRAME; omega)
  have hcount : ¬ PassReg (R.SPT_MISMATCH_CNT w) := notPassReg_of_window (by unfold R.SPT_MISMATCH_CNT; omega)
  have hlatched := (((setFld (l := l) s (f := F.SPT_STATUS.VALID w) 1 hstatus).trans (setRv _ crc hresult)).trans
    (setRv _ seq hframe)).trans (setFld _ (f := F.SPT_STATUS.DROPPED w) (b2n dropped) hstatus)
  have hmatch : ∀ (t : State) (v : Nat), PassGoesOn l t (t.setFld (F.SPT_STATUS.MATCH w) v) := fun t v => setFld t v hstatus
  have hmismatch : ∀ (t : State) (v : Nat), PassGoesOn l t (t.setRv R.SPT_MISMATCH v) := fun t v =>
    setRv t v (notPassReg_of_window (by decide))
  exact hlatched.trans (ite (pushHist _ h crc seq) (ite (hmatch _ 1) ((((hmatch _ 0).trans (hmismatch _ _)).trans
    (bump _ (f := F.SPT_MISMATCH_CNT.COUNT w) hcount)).trans (raise _ Src.psh _ _))))

theorem curtainResult (w : Nat) (e : List Byte) (seq crc : Nat) (safe : Bool) : PassGoesOn l s (s.curtainResult w e seq crc safe) := by
  have habove : ∀ n, ¬ PassReg (R.CUR_WIN_STATUS n) ∧ ¬ PassReg (R.CUR_WIN_RESULT n) ∧ ¬ PassReg (R.CUR_WIN_SEQ n) ∧
      ¬ PassReg (R.CUR_WIN_MISMATCH_CNT n) := fun n =>
    ⟨notPassReg_of_above (by unfold R.CUR_WIN_STATUS; omega), notPassReg_of_above (by unfold R.CUR_WIN_RESULT; omega),
      notPassReg_of_above (by unfold R.CUR_WIN_SEQ; omega), notPassReg_of_above (by unfold R.CUR_WIN_MISMATCH_CNT; omega)⟩
  obtain ⟨hstatus, hresult, hseq, hcount⟩ := habove (w - 48)
  have hlatched := (((setFld (l := l) s (f := F.CUR_WIN_STATUS.VALID (w - 48)) 1 hstatus).trans
    (setFld _ (f := F.CUR_WIN_RESULT.CRC (w - 48)) crc hresult)).trans (setFld _ (f := F.CUR_WIN_SEQ.SEQ (w - 48)) seq hseq)).trans
    (setFld _ (f := F.CUR_WIN_STATUS.SAFE (w - 48)) (b2n safe) hstatus)
  have hmatch : ∀ (t : State) (v : Nat), PassGoesOn l t (t.setFld (F.CUR_WIN_STATUS.MATCH (w - 48)) v) := fun t v => setFld t v hstatus
  have hlook : ∀ t : State, PassGoesOn l t (if safe then t.setFld F.CUR_STATE.LOOK_BAD 1 else t) := fun t =>
    ite (setFld t 1 (notPassReg_of_above (by decide))) (refl t)
  exact hlatched.trans (ite (refl _) (ite (hmatch _ 1) ((((hmatch _ 0).trans (hlook _)).trans
    (bump _ (f := F.CUR_WIN_MISMATCH_CNT.COUNT (w - 48)) hcount)).trans (raise _ Src.curtain _ _))))

theorem canvasSpots (f : FrameRec) : PassGoesOn l s (s.canvasSpots f) := by
  unfold State.canvasSpots
  refine ite (refl s) ((updFrame s f.seq (f := fun x => { x with spotDone := true }) fun _ => ⟨rfl, rfl, rfl⟩).trans
    (foldl (fun t w hw => ?_) _))
  exact ite (spotResult t (List.mem_range.1 hw) _ _ _ _) (refl t)

theorem recordWindow (f : FrameRec) (p : PassSt) (m w : Nat) : PassGoesOn l s (s.recordWindow f p m w) := by
  unfold State.recordWindow
  dsimp only
  split
  · exact spotResult s ‹_› _ _ _ _
  · exact ite (refl s) (curtainResult s w _ _ _ _)

theorem walkWindows : PassGoesOn l s (s.walkWindows l) := by
  unfold State.walkWindows
  split
  · exact refl s
  · split
    · exact refl s
    · exact (foldl (fun t w _ => recordWindow t _ _ l w) s).trans (updPass _ fun _ => rfl)

/-! ### The end of a pass (R173, R343, R344) -/

theorem passEnds (ok : Bool) : PassGoesOn l s (s.passEnds l ok) := by
  have hnone : PassGoesOn l s (s.updPush l (fun p => { p with pass := none })) :=
    updPush s (fun _ => rfl) (fun _ => rfl) fun _ _ hq => nomatch hq
  exact ((hnone.trans (setFld _ (f := F.PSH_STATE.PHASE l) _ (pshState_notPassReg l))).trans
    (setFld _ (f := F.PSH_STATE.LAST_OK l) _ (pshState_notPassReg l))).trans (setFld _ (f := F.CL_CLAIM.OWN l) _ (clClaim_notPassReg l))

theorem catchStart : PassGoesOn l s (s.catchStart l) := by
  unfold State.catchStart
  split
  · exact refl s
  · split
    · exact refl s
    · exact ite (updPass s fun _ => rfl) (refl s)

theorem passCheck : PassGoesOn l s (s.passCheck l) := by
  unfold State.passCheck
  refine (catchStart s).trans ?_
  dsimp only
  split
  · exact refl _
  next p _ =>
    have hfinished : ∀ t : State, PassGoesOn l t (t.updFrame p.frame (fun f => { f with finished := f.finished ++ [l.val] })) := fun t =>
      updFrame t _ fun _ => ⟨rfl, rfl, rfl⟩
    have htold : ∀ t : State, PassGoesOn l t (t.updPush l (fun x => { x with noAckTold := false })) := fun t =>
      updPush t (fun _ => rfl) (fun _ => rfl) fun _ q hq => ⟨q, hq, rfl⟩
    exact ite (refl _) (ite (passEnds _ true) (ite (((hfinished _).trans (htold _)).trans (passEnds _ true))
      (setFld _ (f := F.PSH_STATE.PHASE l) _ (pshState_notPassReg l))))

/-! ### The walk (R166, R171, R231) -/

theorem notePushPoison (f : FrameRec) (k : Nat) : PassGoesOn l s (s.notePushPoison f l k) := by
  unfold State.notePushPoison
  have hcount : ¬ PassReg R.PSH_POISON_CNT := by unfold PassReg R.PSH_POISON_CNT; omega
  dsimp only
  refine ite (refl s) ((bumpBy s (f := F.PSH_POISON_CNT.COUNT) (s.unitPoison f k) hcount).trans ?_)
  split
  · exact ite (refl _) ((updPass (g := fun p => { p with poisonTold := true }) _ fun _ => rfl).trans (raise _ Src.psh _ _))
  · exact refl _

theorem noteNode (m node : Nat) : PassGoesOn l s (s.noteNode m node).1 := by
  unfold State.noteNode
  split
  · exact refl s
  · split
    · exact refl s
    · exact (updLink s m _).trans (raise _ _ _ _)

theorem judge (f : FrameRec) (p : PassSt) (i k : Nat) (data : List Byte) (hash : Nat) : PassGoesOn l s (s.judge f p l i k data hash) := by
  unfold State.judge
  have hnode := noteNode (l := l) s l (f.cfg.unitNode k)
  exact ite (refl s) (ite hnode (hnode.trans (ite (updPass _ fun _ => rfl) (refl _))))

theorem handPorts (f : FrameRec) (p : PassSt) (surf : Nat) : PassGoesOn l s (s.handPorts f p surf) := by
  unfold State.handPorts
  exact ite (refl s) (foldl (fun t _ _ => updSig t _ _) s)

/-! ### Up frames and claims (R240, R331, R343, R346) -/

theorem setClaim (c : Nat) : PassGoesOn l s (s.setClaim c) :=
  (setFld s (f := F.TDM_CLAIM.CLAIM) c (notPassReg_of_above (by decide))).trans
    (foldl (fun t m _ => ite (refl t) (setFld t (f := F.CL_CLAIM.OWN m) c (clClaim_notPassReg m))) _)

/-- Fields of the pair's state register. -/
theorem tdmState {f : Fld} (v : Nat) (h : f.reg = R.TDM_STATE) : PassGoesOn l s (s.setFld f v) :=
  setFld s v (h ▸ notPassReg_of_above (by decide))

theorem setTdm (x : TdmSt) : PassGoesOn l s (s.setTdm x) := of_parts rfl rfl fun _ _ => rfl

theorem linesIdle : PassGoesOn l s s.linesIdle :=
  (of_parts rfl rfl fun _ _ => rfl :
    PassGoesOn l s { s with line := s.line.map (fun e => (e.1, { e.2 with until_ := min e.2.until_ s.time.house })) }).trans
    (foldl (fun t _ _ => send t _) _)

theorem toJoining : PassGoesOn l s s.toJoining := by
  unfold State.toJoining
  have hidle : PassGoesOn l s (if s.understudy then s else s.linesIdle) := ite (refl s) (linesIdle s)
  have hrole := ((hidle.trans (tdmState _ (f := F.TDM_STATE.ROLE) roleUnderstudy rfl)).trans
    (tdmState _ (f := F.TDM_STATE.PAIR) pairJoining rfl)).trans (tdmState _ (f := F.TDM_STATE.ADRIFT) 0 rfl)
  exact ((hrole.trans (tdmState _ (f := F.TDM_STATE.DIVERGED) 0 rfl)).trans (setTdm _ _)).trans (setClaim _ 0)

theorem promote : PassGoesOn l s s.promote := by
  unfold State.promote
  have hrole := ((tdmState (l := l) s (f := F.TDM_STATE.ROLE) rolePrincipal rfl).trans
    (tdmState _ (f := F.TDM_STATE.PAIR) pairNone rfl)).trans (tdmState _ (f := F.TDM_STATE.ADRIFT) 0 rfl)
  have hreset := (hrole.trans (tdmState _ (f := F.TDM_STATE.DIVERGED) 0 rfl)).trans (setTdm _ tdmReset)
  have hprio : ∀ (t : State) (n : Nat), PassGoesOn l t (t.setFld (F.NET_SACN_CTRL.PRIORITY n) (s.tdm.prio + 1)) := fun t n =>
    setFld t _ (show ¬ PassReg (R.NET_SACN_CTRL n) from notPassReg_of_above (by unfold R.NET_SACN_CTRL; omega))
  exact (((hreset.trans (foldl (fun t n _ => hprio t n) _)).trans (setClaim _ _)).trans
    (bump _ (f := F.TDM_PROMOTE_CNT.COUNT) (notPassReg_of_above (by decide)))).trans (raise _ Src.tandem _ _)

theorem claimSeen (m : Nat) : PassGoesOn l s (s.claimSeen m) := by
  unfold State.claimSeen State.tryPromote
  exact ite (refl s) (ite (ite ((toJoining s).trans (raise _ Src.tandem _ _)) (refl s)) (ite (promote s) (refl s)))

/-- Beyond its count, an up frame leaves what a pass needs to go on. -/
theorem rxFrame (h : UpHdr) : PassGoesOn l (s.bump (F.CL_RX_FRAME_CNT.COUNT l)) (s.rxFrame l h) := by
  unfold State.rxFrame
  have hnode : ∀ t : State, PassGoesOn l t (if l.val < 64 then t.setFld (F.CL_CLAIM.NODE l) h.claim.toNat else t) := fun t =>
    ite (setFld t _ (clClaim_notPassReg l)) (refl t)
  have hcaught : ∀ (t : State) (c : Bool),
      PassGoesOn l t (if c then t.updPush l (fun p => { p with pass := p.pass.map (fun x => { x with caught := true }) }) else t) :=
    fun t c => ite (updPass t fun _ => rfl) (refl t)
  have hseen : ∀ t : State, PassGoesOn l t (if l.val < 64 then t.claimSeen l else t) := fun t => ite (claimSeen t l) (refl t)
  have hgap : ∀ t : State, PassGoesOn l t (if h.lseq.toNat = (t.link l).rxSeq then t else t.bump (F.CL_RX_GAP_CNT.COUNT l)) := fun t =>
    ite (refl t) (bump t (show ¬ PassReg (R.CL_RX_GAP_CNT l) by unfold PassReg R.CL_RX_GAP_CNT; omega))
  exact (((hnode _).trans (hcaught _ _)).trans (hseen _)).trans (ite (refl _) ((hgap _).trans (updLink _ l _)))

end PassGoesOn

end Sys2Proof.Machine
end

section
/-! SUPPORT. What each command of region push does to its link's pass, and the statement about passes, units, acknowledgements, `GO` and
Spot histories (R162 to R184, R244 to R247, R344). -/

namespace Sys2Proof.Machine

variable (s : State)

/-- A counter of 64 bits counts. -/
theorem State.counts_bump {f : Fld} (h : f.lsb + f.width ≤ 64) : Counts s (s.bump f) f 1 := s.fld_setFld_same f _ h

@[simp] theorem State.link_updLink (l : Nat) (g : LinkSt → LinkSt) : (s.updLink l g).link l = g (s.link l) := FMap.get_put_same _ _ _ _

@[simp] theorem State.link_showCredits (m l : Nat) : (s.showCredits m).link l = s.link l := rfl

@[simp] theorem State.updPush_evtUp (l : Nat) (g : PushSt → PushSt) : (s.updPush l g).evtUp = s.evtUp := by
  unfold State.evtUp State.powered; rfl

@[simp] theorem State.updFrame_regs (seq : Nat) (g : FrameRec → FrameRec) : (s.updFrame seq g).regs = s.regs := rfl

/-- What an update makes of every record is found under the number of a frame that is there. -/
theorem State.frame_updFrame_any {f : FrameRec} (hf : f ∈ s.frames) {g : FrameRec → FrameRec} (hg : ∀ a, (g a).seq = a.seq)
    {p : FrameRec → Bool} (hp : ∀ a, p (g a) = true) : ((s.updFrame f.seq g).frame? f.seq).any p = true := by
  obtain ⟨a, ha⟩ := s.frame_isSome hf
  rw [s.frame_updFrame hg, ha]
  exact hp a

/-! ### A pass begins (R169, R175 to R177) -/

theorem PushFrame.forgetUnits (l : Nat) (p : Nat × UnitRec → Bool) : PushFrame s (s.forgetUnits l p) :=
  (PushFrame.updPush s l _).trans (PushFrame.bumpBy _ _ 1)

theorem PushFrame.takeForgets (l seq : Nat) : PushFrame s (s.takeForgets l seq) := by
  unfold State.takeForgets
  exact ((PushFrame.ite ((PushFrame.forgetUnits s l _).trans (PushFrame.updPush _ l _)) (PushFrame.refl s)).trans
    (PushFrame.foldl (fun t _ => PushFrame.forgetUnits t l _) _ _)).trans (PushFrame.updPush _ l _)

theorem State.nextPass_mem {l : Nat} {f : FrameRec} (h : s.nextPass l = some f) : f ∈ s.frames := by
  unfold State.nextPass at h
  split at h
  · split at h
    · cases h
      exact List.mem_of_find?_eq_some ‹_›
    · cases h
  · cases h

/-- The record of a frame whose pass begins on a link. -/
def FrameRec.beginOn (l : Nat) (skip : Bool) (x : FrameRec) : FrameRec :=
  { x with begun := x.begun ++ [l], skipped := if skip then x.skipped ++ [l] else x.skipped }

/-- A pass that begins is noted: in its link's registers, with its frame, and in the link's push state. -/
def State.notePass (s : State) (l : Nat) (f : FrameRec) (units : Nat) (skip : Bool) (g : PushSt → PushSt) : State :=
  (((((s.setFld (F.PSH_UNITS.COUNT l) units).setFld (F.PSH_DIRTY.COUNT l) 0).setFld (F.PSH_STATE.SKIPPED l) (b2n skip)).setFld
    (F.PSH_STATE.PHASE l) phWalk).updFrame f.seq (FrameRec.beginOn l skip)).updPush l g

theorem State.notePass_begun (l : Nat) {f : FrameRec} (hf : f ∈ s.frames) (units : Nat) (skip : Bool) (g : PushSt → PushSt) :
    ((s.notePass l f units skip g).frame? f.seq).any (·.begun.contains l) = true := by
  unfold State.notePass
  rw [State.frame_of_frames (State.updPush_frames _ l g)]
  exact State.frame_updFrame_any _ (g := FrameRec.beginOn l skip) hf (fun _ => rfl) fun a => by simp [FrameRec.beginOn]

theorem State.notePass_units (l : LinkIx) (f : FrameRec) (units : Nat) (skip : Bool) (g : PushSt → PushSt) :
    (s.notePass l f units skip g).fld (F.PSH_UNITS.COUNT l) = units % 2 ^ (F.PSH_UNITS.COUNT l).width := by
  have hstate : R.PSH_UNITS l ≠ R.PSH_STATE l := by unfold R.PSH_UNITS R.PSH_STATE; omega
  have hdirty : R.PSH_UNITS l ≠ R.PSH_DIRTY l := by unfold R.PSH_UNITS R.PSH_DIRTY; omega
  unfold State.notePass
  rw [State.fld_eq_of_regs (State.updPush_regs _ l g), State.fld_eq_of_regs (State.updFrame_regs _ f.seq _)]
  rw [State.fld_setFld_reg _ _ hstate, State.fld_setFld_reg _ _ hstate, State.fld_setFld_reg _ _ hdirty,
    State.fld_setFld_same _ _ _ (show 0 + 20 ≤ 64 by decide)]

/-- What a pass that has been noted sends, reports and finishes at once. -/
theorem PassGoesOn.afterNote (l : LinkIx) (u v : State) (skip : Bool) (f : FrameRec) : PassGoesOn l u
    ((((if skip then u else (u.sendProfiles v l f.cfg).sendClears l).canvasSpots f).walkWindows l).passCheck l) :=
  (((ite (refl u) ((sendProfiles u v l f.cfg).trans (sendClears _ l))).trans (canvasSpots _ f)).trans (walkWindows _)).trans (passCheck _)

/-- A pass that begins is noted, and then goes on. -/
theorem State.beginPass_goesOn (l : LinkIx) {f : FrameRec} (hf : f ∈ s.frames) : ∃ u, PassGoesOn l u (s.beginPass l f) ∧
    (u.frame? f.seq).any (·.begun.contains l.val) = true ∧
    u.fld (F.PSH_UNITS.COUNT l) = ((s.atSnap f).walkUnits f.cfg l).length % 2 ^ (F.PSH_UNITS.COUNT l).width := by
  have hforgets := PushFrame.takeForgets s l f.seq
  rw [← hforgets.frames] at hf
  unfold State.beginPass
  dsimp only
  rw [hforgets.walkUnits]
  generalize s.takeForgets l f.seq = r at hf ⊢
  generalize hswept : r.setFld (F.PSH_SWEEP.COUNT l) _ = y
  have hy : f ∈ y.frames := by rw [← hswept]; exact hf
  exact ⟨_, PassGoesOn.afterNote l _ _ _ f, State.notePass_begun y l hy _ _ _, State.notePass_units y l f _ _ _⟩

theorem State.pushPassBegin_begins (l : LinkIx) {f : FrameRec} (hnone : s.passOf l = none) (hnext : s.nextPass l = some f) :
    s.pushPassBegin l = s.beginPass l f := by
  unfold State.pushPassBegin
  rw [hnone, hnext]

/-! ### The walk (R163 to R166) -/

theorem PushFrame.notePushPoison (f : FrameRec) (l k : Nat) : PushFrame s (s.notePushPoison f l k) := by
  unfold State.notePushPoison
  dsimp only
  refine PushFrame.ite (PushFrame.refl s) ((PushFrame.bumpBy s F.PSH_POISON_CNT.COUNT (s.unitPoison f k)).trans ?_)
  split
  · exact PushFrame.ite (PushFrame.refl _) ((PushFrame.updPush _ l _).trans (PushFrame.raise _ _ _ _))
  · exact PushFrame.refl _

/-- While it runs, the pass stands where it stood. -/
theorem PassGoesOn.next_all {l : LinkIx} {s t : State} (h : PassGoesOn l s t) {n : Nat} (hs : (s.passOf l).all (·.next == n) = true) :
    (t.passOf l).all (·.next == n) = true := by
  rw [Option.all_eq_true] at hs ⊢
  intro q hq
  obtain ⟨p, hp, hnext⟩ := h.next q hq
  rw [hnext]
  exact hs p hp

/-- The record of a frame of which a link's walk has hashed one more unit. -/
def FrameRec.addHash (l hash : Nat) (x : FrameRec) : FrameRec := { x with hashes := x.hashes.modify [] l (· ++ [hash]) }

theorem FrameRec.addHash_hashes (l hash : Nat) (x : FrameRec) : (x.addHash l hash).hashes.get [] l = x.hashes.get [] l ++ [hash] :=
  FMap.get_put_same _ _ _ _

/-- A unit's hash joins those of its frame and link, and the pass moves to the next unit; then it goes on. -/
theorem State.walkUnit_goesOn (l : LinkIx) {p : PassSt} {f : FrameRec} {k : Nat} (hp : s.passOf l = some p)
    (hf : s.frame? p.frame = some f) (hk : p.units[p.next]? = some k) : ∃ u, PassGoesOn l u (s.walkUnit l p f) ∧
    (∃ g, u.frame? p.frame = some g ∧ g.hashes.get [] l = f.hashes.get [] l ++ [unitHash (s.unitData f p.funcOff l k)]) ∧
    (u.passOf l).all (·.next == p.next + 1) = true := by
  have hjudged := (PassGoesOn.notePushPoison (l := l) s f k).trans (PassGoesOn.judge _ f p p.next k (s.unitData f p.funcOff l k)
    (unitHash (s.unitData f p.funcOff l k)))
  unfold State.walkUnit
  rw [hk]
  dsimp only
  rw [(PushFrame.notePushPoison s f l k).unitData]
  generalize unitHash (s.unitData f p.funcOff l k) = hash at hjudged ⊢
  generalize (s.notePushPoison f l k).judge f p l p.next k _ _ = u at hjudged ⊢
  refine ⟨(u.updFrame f.seq (FrameRec.addHash l hash)).updPass l (fun p => { p with next := p.next + 1 }),
    ((PassGoesOn.ite (PassGoesOn.handPorts _ f p _) (PassGoesOn.refl _)).trans (PassGoesOn.walkWindows _)).trans
    ((PassGoesOn.ite (PassGoesOn.setFld _ (f := F.PSH_SWEEP.COUNT l) _ (pshSweep_notPassReg l)) (PassGoesOn.refl _)).trans
      (PassGoesOn.passCheck _)), ?_, ?_⟩
  · obtain ⟨g, hg, hhashes⟩ := hjudged.frame_hashes hf
    refine ⟨g.addHash l hash, ?_, by rw [FrameRec.addHash_hashes, hhashes]⟩
    change (u.updFrame f.seq (FrameRec.addHash l hash)).frame? p.frame = _
    rw [s.frame_seq hf, u.frame_updFrame (f := FrameRec.addHash l hash) fun _ => rfl, hg]
    rfl
  · have hstands := hjudged.next_all (n := p.next) (by rw [hp]; exact beq_self_eq_true _)
    rw [State.passOf_updPass, Option.all_eq_true]
    rw [Option.all_eq_true] at hstands
    intro q hq
    obtain ⟨p', hp', rfl⟩ := Option.map_eq_some_iff.1 hq
    simpa using hstands p' hp'

theorem State.unitWalk_walks (l : LinkIx) {p : PassSt} {f : FrameRec} (hp : s.passOf l = some p) (hf : s.frame? p.frame = some f)
    (hfree : p.bufferFree = true) : s.unitWalk l = s.walkUnit l p f := by
  unfold State.unitWalk
  rw [hp]
  dsimp only
  rw [hf]
  exact if_pos hfree

/-! ### Sending (R166, R244, R245, R247, R254) -/

/-- From `s` to `t` a frame departs on a link: it is recorded with its blocks, and the next one's number is one further. -/
structure Departs (s t : State) (l type : Nat) (payload : List Byte) : Prop where
  sent : t.sent = s.sent ++ .linkFrame l type (s.claimOn l) (s.link l).txSeq payload ::
    s.blockWords l (frameBlocks type (s.claimOn l) (s.link l).txSeq payload)
  txSeq : (t.link l).txSeq = ((s.link l).txSeq + 1) % 65536

theorem State.txFrame_frames (l type : Nat) (payload : List Byte) : (s.txFrame l type payload).frames = s.frames := by
  unfold State.txFrame; split <;> rfl

theorem State.txFrame_evt (l type : Nat) (payload : List Byte) : (s.txFrame l type payload).evt = s.evt := by
  unfold State.txFrame; split <;> rfl

theorem State.txFrame_linkActive (l type : Nat) (payload : List Byte) : (s.txFrame l type payload).linkActive l = s.linkActive l := by
  have hstate : R.CL_STATE l ≠ R.CL_TX_FRAME_CNT l := by unfold R.CL_STATE R.CL_TX_FRAME_CNT; omega
  unfold State.txFrame
  split
  · rfl
  · exact congrArg (· == lkActive) (State.fld_setFld_reg _ (g := F.CL_STATE.STATE l) _ hstate)

/-- On a link that does not carry the Curtain's stream a frame departs at no cost of its own. -/
theorem State.txFrame_departs {l : Nat} (type : Nat) (payload : List Byte) (h : s.curtainOn l = false) :
    Departs s (s.txFrame l type payload) l type payload ∧ ((s.txFrame l type payload).link l).costs = (s.link l).costs := by
  unfold State.txFrame
  rw [h, Bool.false_and, if_neg Bool.false_ne_true]
  have hlink : ∀ g : LinkSt → LinkSt, ((s.sendFrame l type (s.claimOn l) (s.link l).txSeq payload).updLink l g).link l =
      g { s.link l with runs := (s.link l).runs + 1 } := fun g => by rw [State.link_updLink]; exact congrArg g (State.link_updLink _ l _)
  have hnumbered := hlink fun x => { x with txSeq := (x.txSeq + 1) % 65536 }
  exact ⟨⟨List.append_assoc _ _ _, congrArg LinkSt.txSeq hnumbered⟩, (congrArg LinkSt.costs hnumbered).trans rfl⟩

/-- On an `ACTIVE` link a buffered frame's cost is recorded with its number (R254). -/
theorem State.txBuffered_departs {l : Nat} (type : Nat) (payload : List Byte) (hactive : s.linkActive l = true)
    (h : s.curtainOn l = false) : Departs s (s.txBuffered l type payload) l type payload ∧
    ((s.txBuffered l type payload).link l).costs = (s.link l).costs ++ [((s.link l).txSeq, frameCost payload)] := by
  obtain ⟨hdeparts, hcosts⟩ := s.txFrame_departs type payload h
  unfold State.txBuffered
  dsimp only
  rw [s.txFrame_linkActive, hactive, if_pos rfl]
  generalize s.txFrame l type payload = r at hdeparts hcosts ⊢
  rw [State.link_showCredits, State.link_updLink, hcosts]
  refine ⟨⟨hdeparts.sent, ?_⟩, rfl⟩
  rw [State.link_showCredits, State.link_updLink]
  exact hdeparts.txSeq

/-- What is left to do once a segment has departed: counters, and the link's pass. -/
def State.afterSegment (s : State) (l : Nat) (u u' : UnitBuf) (rest : List UnitBuf) : State :=
  if u'.data.length ≤ u'.off then
    let s := (s.bump (F.PSH_SENT_CNT.COUNT l)).bumpBy (F.PSH_BYTES_CNT.COUNT l) u.data.length
    let s := if u.retry then s.bump (F.PSH_RESEND_CNT.COUNT l) else s.bump (F.PSH_DIRTY.COUNT l)
    let s := if u.swept then s.bump (F.PSH_REFRESH_CNT.COUNT l) else s
    s.updPass l (fun p => { p with sendQ := rest, waiting := p.waiting ++ [u'] })
  else s.updPass l (fun p => { p with sendQ := u' :: rest })

theorem PushFrame.afterSegment (l : Nat) (u u' : UnitBuf) (rest : List UnitBuf) : PushFrame s (s.afterSegment l u u' rest) := by
  unfold State.afterSegment
  have hsent := (PushFrame.bumpBy s (F.PSH_SENT_CNT.COUNT l) 1).trans (PushFrame.bumpBy _ (F.PSH_BYTES_CNT.COUNT l) u.data.length)
  exact PushFrame.ite (((hsent.trans (PushFrame.ite (PushFrame.bumpBy _ _ 1) (PushFrame.bumpBy _ _ 1))).trans
    (PushFrame.ite (PushFrame.bumpBy _ _ 1) (PushFrame.refl _))).trans (PushFrame.updPush _ l _)) (PushFrame.updPush s l _)

theorem State.afterSegment_units (l : Nat) (u u' : UnitBuf) (rest : List UnitBuf) :
    ((s.afterSegment l u u' rest).push l).units = (s.push l).units := by
  have hpass : ∀ (t : State) (g : PassSt → PassSt), t.psh = s.psh → ((t.updPass l g).push l).units = (s.push l).units := fun t g h => by
    unfold State.updPass
    rw [State.push_updPush, State.push_of_psh h]
  unfold State.afterSegment
  repeat' split
  all_goals exact hpass _ _ rfl

/-- A segment departs; the first one of a unit sets the unit's hashes. -/
theorem State.sendSegment_departs (l : Nat) (f : FrameRec) (u : UnitBuf) (rest : List UnitBuf) :
    PushFrame (s.txBuffered l ltRegion (regionPayload f u)) (s.sendSegment l f u rest) ∧
    (u.off = 0 → ((s.sendSegment l f u rest).push l).units.get unitNone u.key = ⟨some (unitHash u.data), none, f.cfg.unitNode u.key⟩) := by
  change PushFrame _ (State.afterSegment (if u.off = 0 then _ else _) l u _ rest) ∧
    (u.off = 0 → ((State.afterSegment (if u.off = 0 then _ else _) l u _ rest).push l).units.get unitNone u.key = _)
  constructor
  · refine PushFrame.trans ?_ (PushFrame.afterSegment _ l u _ rest)
    split
    · rfl
    · rfl
  · intro hfirst
    rw [if_pos hfirst, State.afterSegment_units, State.push_updPush]
    dsimp only
    rw [FMap.get_put_same]

theorem State.regionSend_sends {l : Nat} {p : PassSt} {f : FrameRec} {u : UnitBuf} {rest : List UnitBuf} (hp : s.passOf l = some p)
    (hq : p.sendQ = u :: rest) (hf : s.frame? p.frame = some f) (hhead : s.isHead f = true) (hwait : (s.link l).wait = [])
    (hmay : s.mayBuffer l (regionPayload f u) = true) : s.regionSend l = s.sendSegment l f u rest := by
  unfold State.regionSend
  rw [hp]
  dsimp only
  rw [hq, hf]
  dsimp only
  rw [hhead, hwait, hmay]
  rfl

theorem State.curtainOff_of_mayBuffer {l : Nat} {payload : List Byte} (hactive : s.linkActive l = true)
    (hmay : s.mayBuffer l payload = true) : s.curtainOn l = false := by
  unfold State.mayBuffer at hmay
  rw [if_pos hactive, Bool.and_eq_true_iff] at hmay
  simpa using hmay.2

theorem State.goSend_sends {l : Nat} {f : FrameRec} (hhead : s.frames.head? = some f) (hfinished : f.finished.contains l = true)
    (hgo : f.goSent.contains l = false) (hpassed : f.sendPassed = false) (hdrop : Tm.dropAll (f.cfg.entry tTiming 0) = false)
    (hactive : s.linkActive l = true) (hcurtain : s.curtainOn l = false) : s.goSend l = s.sendGo l f := by
  unfold State.goSend
  rw [hhead]
  dsimp only
  rw [hfinished, hgo, hpassed, hdrop, hactive, hcurtain]
  rfl

theorem State.sendGo_noted (l : Nat) {f : FrameRec} (hf : f ∈ s.frames) : ((s.sendGo l f).frame? f.seq).any (·.goSent.contains l) = true := by
  refine State.frame_updFrame_any (s.txFrame l ltGo (goPayload f)) (g := fun x => { x with goSent := x.goSent ++ [l] }) ?_ (fun _ => rfl)
    fun a => ?_
  · rwa [s.txFrame_frames]
  · simp

/-! ### Acknowledgements (R167, R173, R344) -/

/-- An `ACK` of the hash sent is recorded with its unit; then the pass goes on. -/
theorem State.ack_goesOn (l : LinkIx) {node key : Nat} (stored : Bool) {hash : Nat} (hwalked : (s.push l).walked.contains (key, node) = true)
    (hsent : ((s.push l).units.get unitNone key).sent = some hash) : ∃ u, PassGoesOn l u (s.ack l node key stored hash) ∧
    u.regs = s.regs ∧ (u.push l).units.get unitNone key =
      ⟨none, if stored then some hash else none, ((s.push l).units.get unitNone key).node⟩ := by
  unfold State.ack
  dsimp only
  rw [if_pos ⟨hwalked, hsent⟩]
  refine ⟨_, (PassGoesOn.updPass _ ?_).trans (PassGoesOn.passCheck _), rfl, ?_⟩
  · exact fun _ => rfl
  · rw [State.push_updPush]
    exact FMap.get_put_same _ _ _ _

/-- An `ACK` that names no unit of the pass, or another hash than the one sent, is counted as stale. -/
theorem State.ack_stale {l node key : Nat} (stored : Bool) {hash : Nat}
    (h : ((s.push l).walked.contains (key, node) && ((s.push l).units.get unitNone key).sent == some hash) = false) :
    s.ack l node key stored hash = s.bump (F.PSH_STALE_CNT.COUNT l) := by
  unfold State.ack
  dsimp only
  refine if_neg fun ⟨hwalked, hsent⟩ => ?_
  rw [hwalked, hsent] at h
  simp at h

theorem State.ackTimeout_retries {l : Nat} {p : PassSt} {f : FrameRec} {u : UnitBuf} {rest : List UnitBuf} (hp : s.passOf l = some p)
    (hwaiting : p.waiting = u :: rest) (hf : s.frame? p.frame = some f) (hcaught : p.caught = false)
    (hretries : u.retries < Ps.retries (f.cfg.entry tPush l)) : s.ackTimeout l =
      s.updPass l (fun p => { p with waiting := rest, sendQ := p.sendQ ++ [newBuf u.key u.data true (u.retries + 1)] }) := by
  unfold State.ackTimeout
  rw [hp]
  dsimp only
  rw [hwaiting, hf]
  dsimp only
  rw [hcaught, if_neg (by simp), if_pos hretries]

/-- A pass changes, and its link notes that `PUSH_NO_ACK` has been told. -/
def State.noteNoAck (s : State) (l : Nat) (g : PassSt → PassSt) : State :=
  (s.updPass l g).updPush l (fun x => { x with noAckTold := true })

theorem State.noteNoAck_passOf (l : Nat) (g : PassSt → PassSt) : (s.noteNoAck l g).passOf l = (s.passOf l).map g := by
  unfold State.noteNoAck
  rw [State.passOf, State.push_updPush]
  exact s.passOf_updPass l g

theorem State.noteNoAck_evtUp (l : Nat) (g : PassSt → PassSt) : (s.noteNoAck l g).evtUp = s.evtUp := by
  unfold State.noteNoAck State.updPass
  rw [State.updPush_evtUp, State.updPush_evtUp]

theorem State.ackTimeout_givesUp {l : Nat} {p : PassSt} {f : FrameRec} {u : UnitBuf} {rest : List UnitBuf} (hp : s.passOf l = some p)
    (hwaiting : p.waiting = u :: rest) (hf : s.frame? p.frame = some f) (hcaught : p.caught = false)
    (hretries : Ps.retries (f.cfg.entry tPush l) ≤ u.retries) (htold : (s.push l).noAckTold = false) : s.ackTimeout l =
      (s.noteNoAck l (fun p => { p with waiting := rest, failed := p.failed ++ [u.key] })).raise Src.psh E.PUSH_NO_ACK [] := by
  unfold State.ackTimeout
  rw [hp]
  dsimp only
  rw [hwaiting, hf]
  dsimp only
  rw [hcaught, if_neg (by simp), if_neg (Nat.not_lt.2 hretries), if_neg]
  · rfl
  · unfold State.updPass
    rw [State.push_updPush]
    simp [htold]

/-- Telling of a unit given up changes the pass and raises the event. -/
theorem State.noteNoAck_tells (l : Nat) (g : PassSt → PassSt) (hu : s.evtUp = true) (hr : s.hasRoom Src.psh = true) :
    ((s.noteNoAck l g).raise Src.psh E.PUSH_NO_ACK []).passOf l = (s.passOf l).map g ∧
    Raises s ((s.noteNoAck l g).raise Src.psh E.PUSH_NO_ACK []) Src.psh E.PUSH_NO_ACK [] ∧
    ((s.noteNoAck l g).raise Src.psh E.PUSH_NO_ACK []).regs = s.regs := by
  have hup : (s.noteNoAck l g).evtUp = true := (s.noteNoAck_evtUp l g).trans hu
  have hroom : (s.noteNoAck l g).hasRoom Src.psh = true := (State.hasRoom_of_evt (s := s) rfl _).trans hr
  refine ⟨?_, State.raises_after _ _ _ rfl rfl hup hr, State.raise_regs _ _ _ _ hup hroom⟩
  rw [State.passOf, State.push_of_psh (State.raise_psh _ _ _ _)]
  exact s.noteNoAck_passOf l g

/-! ### Up frames (R240) -/

theorem State.rxFrame_counts (l : LinkIx) (h : UpHdr) : Counts s (s.rxFrame l h) (F.CL_RX_FRAME_CNT.COUNT l) 1 :=
  ((PassGoesOn.rxFrame s h).fld (passReg_rxFrame l)).trans (s.counts_bump (show 0 + 64 ≤ 64 by decide))

theorem State.rxFrame_stale (l : LinkIx) (h : UpHdr) : (s.rxFrame l h).fld (F.PSH_STALE_CNT.COUNT l) = s.fld (F.PSH_STALE_CNT.COUNT l) := by
  have hapart : R.PSH_STALE_CNT l ≠ R.CL_RX_FRAME_CNT l := by unfold R.PSH_STALE_CNT R.CL_RX_FRAME_CNT; omega
  exact ((PassGoesOn.rxFrame s h).fld (passReg_stale l)).trans (s.fld_setFld_reg _ hapart)

theorem State.rxFrame_units (l : LinkIx) (h : UpHdr) : ((s.rxFrame l h).push l).units = (s.push l).units :=
  (PassGoesOn.rxFrame s h).units

theorem State.rxFrame_walked (l : LinkIx) (h : UpHdr) : ((s.rxFrame l h).push l).walked = (s.push l).walked :=
  (PassGoesOn.rxFrame s h).walked

/-- What an `ACK` received does, given the key it names. -/
def State.ackOf (s : State) (l : Nat) (h : UpHdr) (key : Option Nat) (node : Nat) (stored : Bool) (hash : Nat) : State :=
  match key with
  | some k => (s.rxFrame l h).ack l node k stored hash
  | none => (s.rxFrame l h).bump (F.PSH_STALE_CNT.COUNT l)

theorem State.exec_ackReceived (l : LinkIx) (h : UpHdr) (node : BitVec 16) (kind : Byte) (stored : Bool) (id : Word) (hash : BitVec 64)
    (htalks : s.linkTalks l = true) : exec (.ackReceived l h node kind stored id hash) s =
      s.done (s.ackOf l h (ackKey kind.toNat id.toNat node.toNat) node.toNat stored hash.toNat) := by
  change s.done (s.when (s.linkTalks l) (s.ackOf l h (ackKey kind.toNat id.toNat node.toNat) node.toNat stored hash.toNat)) = _
  rw [htalks, State.when_true]

/-- An `ACK` of no unit of the latest pass, or of another hash than the one sent, is counted as stale. -/
theorem State.ackReceived_stale (l : LinkIx) (h : UpHdr) {key : Option Nat} {node hash : Nat} (stored : Bool)
    (hstale : key.all (fun k => !((s.push l).walked.contains (k, node) && ((s.push l).units.get unitNone k).sent == some hash)) = true) :
    s.ackOf l h key node stored hash = (s.rxFrame l h).bump (F.PSH_STALE_CNT.COUNT l) := by
  cases key with
  | none => rfl
  | some k =>
    refine State.ack_stale _ stored ?_
    rw [s.rxFrame_units, s.rxFrame_walked]
    rwa [Option.all_some, Bool.not_eq_true'] at hstale

/-! ### Histories (R182) -/

/-- The eight entries of a window's history are latched (R182). -/
theorem State.readHist_spt (w : Nat) : (s.readHist w).spt = s.spt.put [] w ((List.range 8).map (fun k => s.rv (R.SPT_HIST w k))) := rfl

/-! ### The statement -/

/-- Settles O35, command by command: a pass begins or walks one unit further and goes on, a segment or a `GO` departs, an acknowledgement
is recorded or stale, a unit is sent again or given up, and a window's history is latched. -/
theorem pushPasses : Obligations.Push_passes := by
  unfold Obligations.Push_passes
  refine ⟨?begins, ?walks, ?sends, ?acked, ?stale, ?retries, ?givesUp, ?go, ?forget, ?hist⟩
  case begins =>
    rintro s l f hup ⟨hnone, hnext⟩
    change Answers (s.done (s.when s.evtUp (s.pushPassBegin l))) _
    rw [hup, State.when_true, answers_done, s.pushPassBegin_begins l hnone hnext]
    obtain ⟨u, hgoes, hbegun, hunits⟩ := s.beginPass_goesOn l (s.nextPass_mem hnext)
    exact ⟨hgoes.frame_any (fun ⟨_, hsame, _⟩ ha => by rw [hsame]; exact ha) hbegun, (hgoes.fld (passReg_units l)).trans hunits⟩
  case walks =>
    rintro s l p f k hup ⟨hp, hf, hfree, hk⟩
    change Answers (s.done (s.when s.evtUp (s.unitWalk l))) _
    rw [hup, State.when_true, answers_done, s.unitWalk_walks l hp hf hfree]
    obtain ⟨u, hgoes, ⟨g, hg, hhash⟩, hnext⟩ := s.walkUnit_goesOn l hp hf hk
    obtain ⟨g', hg', hhashes⟩ := hgoes.frame_hashes hg
    refine ⟨?_, hgoes.next_all hnext⟩
    rw [State.frame_settle, hg', ← hhash, ← hhashes]
    rfl
  case sends =>
    rintro s l p f u rest ⟨htalks, hactive⟩ ⟨hp, hq, hf⟩ ⟨hhead, hwait, hmay⟩
    change Answers (s.done (s.when (s.linkTalks l && s.linkActive l) (s.regionSend l))) _
    rw [htalks, hactive, State.when_of _ (by rfl), answers_done, s.regionSend_sends hp hq hf hhead hwait hmay]
    obtain ⟨hframe, hunit⟩ := s.sendSegment_departs l f u rest
    obtain ⟨hdeparts, hcosts⟩ := s.txBuffered_departs ltRegion (regionPayload f u) hactive (s.curtainOff_of_mayBuffer hactive hmay)
    have hlink := hframe.link l
    exact ⟨hframe.sent.trans hdeparts.sent, (congrArg LinkSt.txSeq hlink).trans hdeparts.txSeq,
      (congrArg LinkSt.costs hlink).trans hcosts, hunit⟩
  case acked =>
    rintro s l h node kind stored id hash k htalks ⟨hkey, hwalked⟩ hsent
    rw [s.exec_ackReceived l h node kind stored id hash htalks, answers_done, hkey]
    rw [← s.rxFrame_walked l h] at hwalked
    rw [← s.rxFrame_units l h] at hsent ⊢
    obtain ⟨u, hgoes, hregs, hunit⟩ := (s.rxFrame l h).ack_goesOn l stored hwalked hsent
    refine ⟨(congrArg (FMap.get unitNone · k) hgoes.units).trans hunit, ?_⟩
    have hcount := (hgoes.fld (f := F.CL_RX_FRAME_CNT.COUNT l) (passReg_rxFrame l)).trans (State.fld_eq_of_regs hregs _)
    exact hcount.trans (s.rxFrame_counts l h)
  case stale =>
    rintro s l h node kind stored id hash htalks hstale
    rw [s.exec_ackReceived l h node kind stored id hash htalks, answers_done, s.ackReceived_stale l h stored hstale]
    refine ⟨s.rxFrame_units l h, ((s.rxFrame l h).counts_bump (show 0 + 64 ≤ 64 by decide)).trans ?_⟩
    rw [s.rxFrame_stale]
  case retries =>
    rintro s l p f u rest hup ⟨hp, hwaiting, hf⟩ ⟨hcaught, hretries⟩
    change Answers (s.done (s.when s.evtUp (s.ackTimeout l))) _
    rw [hup, State.when_true, answers_done, s.ackTimeout_retries hp hwaiting hf hcaught hretries]
    refine ⟨?_, rfl, rfl, rfl⟩
    rw [State.passOf_settle, State.passOf_updPass, hp]
    rfl
  case givesUp =>
    rintro s l p f u rest hup ⟨hp, hwaiting, hf⟩ ⟨hcaught, hretries, htold⟩ hroom
    change Answers (s.done (s.when s.evtUp (s.ackTimeout l))) _
    rw [hup, State.when_true, answers_done, s.ackTimeout_givesUp hp hwaiting hf hcaught hretries htold]
    obtain ⟨hpass, hraises, hregs⟩ := s.noteNoAck_tells l (fun p => { p with waiting := rest, failed := p.failed ++ [u.key] }) hup hroom
    exact ⟨hpass.trans (by rw [hp]; rfl), hraises.settle, hregs⟩
  case go =>
    rintro s l f ⟨htalks, hactive, hcurtain⟩ ⟨hhead, hfinished, hgo, hpassed⟩ hdrop
    change Answers (s.done (s.when (s.linkTalks l) (s.goSend l))) _
    rw [htalks, State.when_true, answers_done, s.goSend_sends hhead hfinished hgo hpassed hdrop hactive hcurtain]
    obtain ⟨hdeparts, -⟩ := s.txFrame_departs ltGo (goPayload f) hcurtain
    exact ⟨hdeparts.sent, s.sendGo_noted l (List.mem_of_mem_head? hhead), s.txFrame_evt _ _ _⟩
  case forget =>
    rintro s l hup
    change Answers (s.done (s.when s.evtUp (s.updPush l (fun x => { x with forget := true })))) _
    rw [hup, State.when_true, answers_done, State.push_settle, State.push_updPush]
    exact ⟨rfl, rfl, rfl, rfl⟩
  case hist =>
    rintro s w hup
    change Answers (s.done (s.when s.evtUp (s.readHist w))) _
    rw [hup, State.when_true, answers_done]
    refine ⟨rfl, rfl, ?_⟩
    rw [State.settle_spt, s.readHist_spt, FMap.get_put_same]

end Sys2Proof.Machine
end

section
/-! SUPPORT. What sending on a link and receiving an up frame leave of the lamp drive: its failed list, its registers, its events, and the
clears that nodes have yet to answer (R229, R240, R254, R331, R343). -/

namespace Sys2Proof.Machine

variable (s : State)

/-! ### Sending (R229, R240, R254) -/

/-- From `s` to `t` links send at most: registers below those of the links, the failed list and the events stand, and no clear that a link
keeps for its node is lost. -/
structure LinksSend (s t : State) : Prop where
  lmp : t.lmp = s.lmp
  evt : t.evt = s.evt
  rv : ∀ o < 0x1000000, t.rv o = s.rv o
  clears : ∀ l, (s.link l).clears ⊆ (t.link l).clears

namespace LinksSend

theorem refl : LinksSend s s := ⟨rfl, rfl, fun _ _ => rfl, fun _ => List.Subset.refl _⟩

theorem trans {s t u : State} (h : LinksSend s t) (h2 : LinksSend t u) : LinksSend s u where
  lmp := h2.lmp.trans h.lmp
  evt := h2.evt.trans h.evt
  rv := fun o ho => (h2.rv o ho).trans (h.rv o ho)
  clears := fun l => List.Subset.trans (h.clears l) (h2.clears l)

theorem ite {s t u : State} {p : Prop} [Decidable p] (h : LinksSend s t) (h2 : LinksSend s u) : LinksSend s (if p then t else u) := by
  split
  · exact h
  · exact h2

theorem foldl {α : Type} {f : State → α → State} (hf : ∀ s a, LinksSend s (f s a)) (as : List α) (s : State) :
    LinksSend s (as.foldl f s) := by
  induction as generalizing s with
  | nil => exact refl s
  | cons a as ih => exact (hf s a).trans (ih _)

theorem setFld {f : Fld} (v : Nat) (h : 0x1000000 ≤ f.reg) : LinksSend s (s.setFld f v) where
  lmp := rfl
  evt := rfl
  rv := fun o ho => s.rv_setFld_other v (by omega)
  clears := fun _ => List.Subset.refl _

theorem updLink (l : Nat) {g : LinkSt → LinkSt} (hg : ∀ x, x.clears ⊆ (g x).clears) : LinksSend s (s.updLink l g) where
  lmp := rfl
  evt := rfl
  rv := fun _ _ => rfl
  clears := fun m => by
    by_cases h : m = l
    · rw [h, State.link_updLink]
      exact hg _
    · have hother : (s.updLink l g).link m = s.link m := FMap.get_put_other _ _ _ _ h
      rw [hother]
      exact List.Subset.refl _

/-- The clears of a link stay where an update leaves them. -/
theorem updLink_same (l : Nat) {g : LinkSt → LinkSt} (hg : ∀ x, (g x).clears = x.clears := by intro _; rfl) :
    LinksSend s (s.updLink l g) :=
  updLink s l fun x => by rw [hg]; exact List.Subset.refl _

theorem sendFrame (l type claim lseq : Nat) (payload : List Byte) : LinksSend s (s.sendFrame l type claim lseq payload) where
  lmp := rfl
  evt := rfl
  rv := fun _ _ => rfl
  clears := (updLink_same s l (g := fun x => { x with runs := x.runs + 1 })).clears

theorem txFrame (l type : Nat) (payload : List Byte) : LinksSend s (s.txFrame l type payload) := by
  unfold State.txFrame
  have hcount : 0x1000000 ≤ R.CL_TX_FRAME_CNT l := by unfold R.CL_TX_FRAME_CNT; omega
  exact ite (refl s) (((sendFrame s l _ _ _ _).trans (updLink_same _ l)).trans
    (setFld _ (f := F.CL_TX_FRAME_CNT.COUNT l) _ hcount))

theorem showCredits (l : Nat) : LinksSend s (s.showCredits l) := by
  have hout : 0x1000000 ≤ R.CL_CRED_OUT l := by unfold R.CL_CRED_OUT; omega
  have hheld : 0x1000000 ≤ R.CL_CRED_HELD l := by unfold R.CL_CRED_HELD; omega
  exact (setFld s (f := F.CL_CRED_OUT.COUNT l) _ hout).trans (setFld _ (f := F.CL_CRED_HELD.COUNT l) _ hheld)

theorem txBuffered (l type : Nat) (payload : List Byte) : LinksSend s (s.txBuffered l type payload) := by
  unfold State.txBuffered
  exact (txFrame s l type payload).trans (ite ((updLink_same _ l).trans (showCredits _ l)) (refl _))

theorem drainN (l n : Nat) : LinksSend s (s.drainN l n) := by
  induction n generalizing s with
  | zero => exact refl s
  | succ n ih =>
    unfold State.drainN
    split
    · exact refl s
    · exact ite ((updLink_same s l).trans ((txBuffered _ l _ _).trans (ih _))) (refl s)

theorem cfgRequest (l : Nat) (req : CfgReq) (write : Bool) (addr count : Nat) (words : List Nat) :
    LinksSend s (s.cfgRequest l req write addr count words) :=
  (updLink_same s l).trans ((updLink_same _ l).trans (drainN _ l _))

theorem sendClear (l : Nat) (r : CfgReq) : LinksSend s (s.sendClear l r) := by
  unfold State.sendClear
  split
  · exact cfgRequest s l _ _ _ _ _
  · exact cfgRequest s l _ _ _ _ _
  · exact refl s

end LinksSend

/-- A clear is kept with its link until its node answers. -/
def State.keepClear (s : State) (l : Nat) (r : CfgReq) : State :=
  s.updLink l (fun x => { x with clears := x.clears.filter (· ≠ r) ++ [r] })

theorem LinksSend.keepClear (l : Nat) (r : CfgReq) : LinksSend s (s.keepClear l r) :=
  updLink s l fun x c hc => by
    by_cases h : c = r
    · exact List.mem_append_right _ (List.mem_singleton.2 h)
    · exact List.mem_append_left _ (List.mem_filter.2 ⟨hc, decide_eq_true h⟩)

theorem LinksSend.clearAtNode_of_kept (l : Nat) (r : CfgReq) : LinksSend (s.keepClear l r) (s.clearAtNode l r) := by
  unfold State.clearAtNode
  exact ite (sendClear _ l r) (refl _)

theorem LinksSend.clearAtNode (l : Nat) (r : CfgReq) : LinksSend s (s.clearAtNode l r) :=
  (keepClear s l r).trans (clearAtNode_of_kept s l r)

/-- The link keeps the clear until its node answers (R229). -/
theorem State.mem_clears_clearAtNode (l : Nat) (r : CfgReq) : r ∈ ((s.clearAtNode l r).link l).clears := by
  refine (LinksSend.clearAtNode_of_kept s l r).clears l ?_
  unfold State.keepClear
  rw [State.link_updLink]
  exact List.mem_append_right _ (List.mem_singleton_self r)

/-! ### Up frames (R240, R331, R343) -/

/-- An event of one source is none of another's. -/
theorem State.raise_filter_other {source src : Nat} (code : Nat) (args : List Nat) (h : source ≠ src) :
    (s.raise source code args).evt.raised.filter (·.source = src) = s.evt.raised.filter (·.source = src) := by
  rcases s.raise_raised source code args with hr | ⟨e, he, hr⟩
  · rw [hr]
  · rw [hr, List.filter_append, List.filter_singleton]
    simp [he, h]

/-- From `s` to `t` the lamp drive stands: its failed list, its events, the event unit and the house clock. -/
structure LampsStand (s t : State) : Prop where
  lmp : t.lmp = s.lmp
  house : t.time.house = s.time.house
  evtUp : t.evtUp = s.evtUp
  raised : t.evt.raised.filter (·.source = Src.lmp) = s.evt.raised.filter (·.source = Src.lmp)

namespace LampsStand

theorem refl : LampsStand s s := ⟨rfl, rfl, rfl, rfl⟩

theorem trans {s t u : State} (h : LampsStand s t) (h2 : LampsStand t u) : LampsStand s u :=
  ⟨h2.lmp.trans h.lmp, h2.house.trans h.house, h2.evtUp.trans h.evtUp, h2.raised.trans h.raised⟩

theorem ite {s t u : State} {p : Prop} [Decidable p] (h : LampsStand s t) (h2 : LampsStand s u) : LampsStand s (if p then t else u) := by
  split
  · exact h
  · exact h2

theorem foldl {α : Type} {f : State → α → State} (hf : ∀ s a, LampsStand s (f s a)) (as : List α) (s : State) :
    LampsStand s (as.foldl f s) := by
  induction as generalizing s with
  | nil => exact refl s
  | cons a as ih => exact (hf s a).trans (ih _)

theorem setFld (f : Fld) (v : Nat) : LampsStand s (s.setFld f v) := ⟨rfl, rfl, rfl, rfl⟩

theorem send (x : Sent) : LampsStand s (s.send x) := ⟨rfl, rfl, rfl, rfl⟩

theorem raise {source : Nat} (code : Nat) (args : List Nat) (h : source ≠ Src.lmp) : LampsStand s (s.raise source code args) where
  lmp := s.raise_lmp _ _ _
  house := by rw [s.raise_time]
  evtUp := by unfold State.evtUp State.powered; rw [s.raise_off, s.raise_inReset, s.raise_time]
  raised := s.raise_filter_other code args h

theorem hasRoom {s t : State} (h : LampsStand s t) : t.hasRoom Src.lmp = s.hasRoom Src.lmp := by
  unfold State.hasRoom
  rw [h.raised]

theorem failed {s t : State} (h : LampsStand s t) : t.failed = s.failed := by
  unfold State.failed
  rw [h.lmp]

theorem setClaim (c : Nat) : LampsStand s (s.setClaim c) :=
  (setFld s F.TDM_CLAIM.CLAIM c).trans (foldl (fun t m => ite (refl t) (setFld t (F.CL_CLAIM.OWN m) c)) _ _)

theorem linesIdle : LampsStand s s.linesIdle :=
  (⟨rfl, rfl, rfl, rfl⟩ :
    LampsStand s { s with line := s.line.map (fun e => (e.1, { e.2 with until_ := min e.2.until_ s.time.house })) }).trans
    (foldl (fun t _ => send t _) _ _)

theorem toJoining : LampsStand s s.toJoining := by
  unfold State.toJoining
  have hidle : LampsStand s (if s.understudy then s else s.linesIdle) := ite (refl s) (linesIdle s)
  have hpair : ∀ t : State, LampsStand t (((((t.setRole roleUnderstudy).setPair pairJoining).setFld F.TDM_STATE.ADRIFT 0).setFld
      F.TDM_STATE.DIVERGED 0).setTdm tdmReset) := fun _ => ⟨rfl, rfl, rfl, rfl⟩
  exact (hidle.trans (hpair _)).trans (setClaim _ 0)

theorem promote : LampsStand s s.promote := by
  unfold State.promote
  have hpair : LampsStand s (((((s.setRole rolePrincipal).setPair pairNone).setFld F.TDM_STATE.ADRIFT 0).setFld
      F.TDM_STATE.DIVERGED 0).setTdm tdmReset) := ⟨rfl, rfl, rfl, rfl⟩
  exact (((hpair.trans (foldl (fun t n => setFld t (F.NET_SACN_CTRL.PRIORITY n) (s.tdm.prio + 1)) _ _)).trans (setClaim _ _)).trans
    (setFld _ F.TDM_PROMOTE_CNT.COUNT _)).trans (raise _ _ _ (by decide))

theorem claimSeen (l : Nat) : LampsStand s (s.claimSeen l) := by
  unfold State.claimSeen State.tryPromote
  exact ite (refl s) (ite (ite ((toJoining s).trans (raise _ _ _ (by decide))) (refl s)) (ite (promote s) (refl s)))

theorem rxFrame (l : Nat) (h : UpHdr) : LampsStand s (s.rxFrame l h) := by
  unfold State.rxFrame
  have hclaim : ∀ t : State, LampsStand t (if l < 64 then t.setFld (F.CL_CLAIM.NODE l) h.claim.toNat else t) := fun t =>
    ite (setFld t _ _) (refl t)
  have hcaught : ∀ (t : State) (c : Bool) (g : PushSt → PushSt), LampsStand t (if c then t.updPush l g else t) := fun t _ _ =>
    ite ⟨rfl, rfl, rfl, rfl⟩ (refl t)
  have hseen : ∀ t : State, LampsStand t (if l < 64 then t.claimSeen l else t) := fun t => ite (claimSeen t l) (refl t)
  have hgap : ∀ t : State, LampsStand t (if h.lseq.toNat = (t.link l).rxSeq then t else t.bump (F.CL_RX_GAP_CNT.COUNT l)) := fun t =>
    ite (refl t) (setFld t _ _)
  exact ((((setFld s (F.CL_RX_FRAME_CNT.COUNT l) _).trans (hclaim _)).trans (hcaught _ _ _)).trans (hseen _)).trans
    (ite (refl _) ((hgap _).trans ⟨rfl, rfl, rfl, rfl⟩))

end LampsStand

end Sys2Proof.Machine
end

section
/-! SUPPORT. Failed elements: functions that go off and come back, and elements that enter and leave the failed list (R228, R229, R253). -/

namespace Sys2Proof.Machine

variable (s : State)

/-! ### Bits -/

theorem bit_eq_testBit (v n : Nat) : bit v n = v.testBit n := by
  unfold bit bits
  rw [Nat.testBit_eq_decide_div_mod_eq, pow_one]
  rfl

/-- Of the numbers below `n`, the power of two `2 ^ k` has the bit `k` alone. -/
theorem range_filter_bit_two_pow {k n : Nat} (h : k < n) : (List.range n).filter (fun i => bit (2 ^ k) i) = [k] := by
  have hbit : (fun i => bit (2 ^ k) i) = fun i => i == k := by
    funext i
    rw [bit_eq_testBit, Nat.testBit_two_pow, beq_eq_decide]
    exact decide_eq_decide.2 eq_comm
  rw [hbit, List.filter_beq, List.nodup_range.count, if_pos (List.mem_range.2 h)]
  rfl

/-- Taking away the power of a bit that is set clears that bit alone. -/
theorem bit_sub_two_pow {v q : Nat} (hq : bit v q = true) (p : Nat) : bit (v - 2 ^ q) p = (bit v p && decide (p ≠ q)) := by
  have hone : bits v q 1 = 1 := by simpa [bit] using hq
  have hset : v - 2 ^ q = setBits v q 1 0 := by
    unfold setBits
    rw [hone, one_mul, Nat.zero_mod, Nat.zero_mul, Nat.add_zero]
  rw [hset]
  unfold bit
  by_cases h : p = q
  · rw [h, bits_setBits_same]
    simp
  · rw [bits_setBits_other v q 1 0 p 1 (by omega)]
    simp [h]

/-! ### The failed list -/

theorem FMap.mem_of_get {α : Type} {d v : α} {m : FMap α} {k : Nat} (h : FMap.get d m k = v) (hv : v ≠ d) : (k, v) ∈ m := by
  induction m with
  | nil => exact absurd h.symm hv
  | cons e m ih =>
    obtain ⟨j, w⟩ := e
    unfold FMap.get at h
    split at h
    next hj => rw [hj, h]; exact List.mem_cons_self
    next => exact List.mem_cons_of_mem _ (ih h)

/-- An element takes the place `i` of the failed list. -/
def State.listFailed (s : State) (i : Nat) (e : FailEnt) : State :=
  { s with lmp := { s.lmp with fails := s.lmp.fails.put none i (some e) } }

theorem State.mem_failed_listFailed (i : Nat) (e : FailEnt) : e ∈ (s.listFailed i e).failed := by
  have hput : (i, some e) ∈ s.lmp.fails.put none i (some e) :=
    FMap.mem_of_get (FMap.get_put_same none s.lmp.fails i (some e)) (by simp)
  exact List.mem_append_left _ (List.mem_filterMap.2 ⟨_, hput, rfl⟩)

/-- Registers that the failure of an element may write: the functions off, and the counters of elements and events lost. -/
def failureRegs : List Nat := R.LMP_FUNC_OFF :: R.LMP_FAILED_LOST_CNT :: eventCounters

/-- The counters of events lost lie above the registers of the lamp drive, the ports and the links. -/
theorem notMem_eventCounters_of_lt {o : Nat} (h : o < 0x2480000) : o ∉ eventCounters := by
  have habove : ∀ c ∈ eventCounters, 0x2480000 ≤ c := by decide
  exact fun hc => absurd (habove o hc) (Nat.not_le.2 h)

theorem notMem_failureRegs {o : Nat} (hoff : o ≠ R.LMP_FUNC_OFF) (hlost : o ≠ R.LMP_FAILED_LOST_CNT) (h : o < 0x2480000) :
    o ∉ failureRegs :=
  List.not_mem_cons_of_ne_of_not_mem hoff (List.not_mem_cons_of_ne_of_not_mem hlost (notMem_eventCounters_of_lt h))

/-- From `s` to `t` an element may have failed: the ports and the registers above stand, and the events raised stay. -/
structure FailureFrame (s t : State) : Prop where
  sig : t.sig = s.sig
  rv : ∀ o ∉ failureRegs, t.rv o = s.rv o
  raised : ∀ e ∈ s.evt.raised, e ∈ t.evt.raised

namespace FailureFrame

theorem refl : FailureFrame s s := ⟨rfl, fun _ _ => rfl, fun _ h => h⟩

theorem trans {s t u : State} (h : FailureFrame s t) (h2 : FailureFrame t u) : FailureFrame s u where
  sig := h2.sig.trans h.sig
  rv := fun o ho => (h2.rv o ho).trans (h.rv o ho)
  raised := fun e he => h2.raised e (h.raised e he)

theorem setFld {f : Fld} (v : Nat) (h : f.reg ∈ failureRegs) : FailureFrame s (s.setFld f v) where
  sig := rfl
  rv := fun _ ho => s.rv_setFld_other v fun e => ho (e ▸ h)
  raised := fun _ he => he

theorem raise (source code : Nat) (args : List Nat) : FailureFrame s (s.raise source code args) where
  sig := s.raise_sig _ _ _
  rv := fun _ ho => s.raise_rv_of_notMem source code args fun he => ho (List.mem_cons_of_mem _ (List.mem_cons_of_mem _ he))
  raised := fun _ he => s.raise_keeps source code args he

theorem functionOff (e : FailEnt) : FailureFrame s (s.functionOff e) := by
  unfold State.functionOff
  dsimp only
  split
  · exact (setFld s (f := F.LMP_FUNC_OFF.FUNC) _ (by decide)).trans (raise _ _ _ _)
  · exact refl s

theorem addFailed (e : FailEnt) (source : Nat) : FailureFrame s (s.addFailed e source) := by
  unfold State.addFailed
  dsimp only
  split
  · exact refl s
  · refine FailureFrame.trans ?_ ((raise _ source _ _).trans (functionOff _ e))
    split
    · exact ⟨rfl, fun _ _ => rfl, fun _ h => h⟩
    · have hlost : FailureFrame s { s with lmp := { s.lmp with lost := s.lmp.lost ++ [e] } } := ⟨rfl, fun _ _ => rfl, fun _ h => h⟩
      exact (hlost.trans (setFld _ (f := F.LMP_FAILED_LOST_CNT.COUNT) _ (by decide))).trans (raise _ _ _ _)

theorem fld {s t : State} (h : FailureFrame s t) {f : Fld} (hf : f.reg ∉ failureRegs) : t.fld f = s.fld f := by
  unfold State.fld
  rw [h.rv _ hf]

theorem sigSt {s t : State} (h : FailureFrame s t) (n : Nat) : t.sigSt n = s.sigSt n := by
  unfold State.sigSt
  rw [h.sig]

end FailureFrame

theorem State.functionOff_lmp (e : FailEnt) : (s.functionOff e).lmp = s.lmp := by
  unfold State.functionOff
  dsimp only
  split
  · rw [State.raise_lmp, State.setFld_lmp]
  · rfl

/-- A failure that is new takes a free place of the list, is reported, and its function goes off. -/
theorem State.addFailed_listed {e : FailEnt} (source : Nat) (hnew : s.failed.any (fun x => FailEnt.same x e) = false)
    (hfree : (List.range 1024).any (fun i => (s.lmp.fails.get none i).isNone) = true) :
    ∃ i, s.addFailed e source =
      ((s.listFailed i e).raise source E.LAMP_FAULT [e.surface, e.lamp, e.emitter, e.result]).functionOff e := by
  obtain ⟨i, hi⟩ := Option.isSome_iff_exists.1 (List.find?_isSome.2 (List.any_eq_true.1 hfree))
  refine ⟨i, ?_⟩
  unfold State.addFailed
  rw [hnew, if_neg Bool.false_ne_true, hi]
  rfl

/-- A new failure stands in the list, and its `LAMP_FAULT` among the events. -/
theorem State.addFailed_adds {e : FailEnt} {source : Nat} (hnew : s.failed.any (fun x => FailEnt.same x e) = false)
    (hfree : (List.range 1024).any (fun i => (s.lmp.fails.get none i).isNone) = true) (hu : s.evtUp = true)
    (hr : s.hasRoom source = true) : e ∈ (s.addFailed e source).failed ∧
    HasEvent s (s.addFailed e source) source E.LAMP_FAULT [e.surface, e.lamp, e.emitter, e.result] := by
  obtain ⟨i, hlisted⟩ := s.addFailed_listed source hnew hfree
  rw [hlisted]
  constructor
  · unfold State.failed
    rw [State.functionOff_lmp, State.raise_lmp]
    exact s.mem_failed_listFailed i e
  · have hraises := State.raises_after (s := s) (t := s.listFailed i e) source E.LAMP_FAULT [e.surface, e.lamp, e.emitter, e.result]
      rfl rfl hu hr
    exact hasEvent_of_raised hraises.hasEvent (FailureFrame.functionOff _ e).raised

/-! ### Clears (R229) -/

theorem LinksSend.fld {s t : State} (h : LinksSend s t) {f : Fld} (hf : f.reg < 0x1000000) : t.fld f = s.fld f := by
  unfold State.fld
  rw [h.rv _ hf]

theorem State.clearFuncs_single {f : Nat} (hf : f < 64) : s.clearFuncs (2 ^ f) = s.clearFunc f := by
  unfold State.clearFuncs
  rw [range_filter_bit_two_pow hf]
  rfl

/-- A function without failed elements is on again, and its clear goes to the nodes that carry it. -/
theorem State.clearFunc_sends {f : Nat} (hoff : s.funcIsOff f = true) (hsound : s.failed.any (fun e => s.funcOf e.surface = f) = false) :
    LinksSend (s.setFld F.LMP_FUNC_OFF.FUNC (s.fld F.LMP_FUNC_OFF.FUNC - 2 ^ f)) (s.clearFunc f) := by
  unfold State.clearFunc
  rw [hoff, hsound, Bool.and_false, if_neg (by decide)]
  exact LinksSend.foldl (fun t l => LinksSend.clearAtNode t l _) _ _

/-- A function with a failed element stays off. -/
theorem State.clearFunc_failed {f : Nat} (hen : s.flag F.LMP_CTRL.FUNC_EN = true)
    (hfailed : s.failed.any (fun e => s.funcOf e.surface = f) = true) : s.clearFunc f = s := by
  unfold State.clearFunc
  rw [hen, hfailed]
  exact if_pos (Bool.or_true _)

theorem State.clearEntry_node {i : Nat} {e : FailEnt} (hi : s.lmp.fails.get none i = some e) (hnode : e.node = true) :
    s.clearEntry i = (s.dropFailed (fun x => x == e)).clearAtNode e.link (.elemClear e.surface e.lamp e.emitter) := by
  unfold State.clearEntry
  rw [hi]
  exact if_pos hnode

theorem State.clearEntry_port {i : Nat} {e : FailEnt} (hi : s.lmp.fails.get none i = some e) (hnode : e.node = false) :
    s.clearEntry i = s.clearPosition e.port e.pos := by
  unfold State.clearEntry
  rw [hi]
  exact if_neg (by rw [hnode]; exact Bool.false_ne_true)

end Sys2Proof.Machine
end

section
/-! SUPPORT. Signal-string ports: the frame a port takes over and its periods, and the slots that go by (R225 to R233, R367, R370). -/

namespace Sys2Proof.Machine

variable (s : State)

/-! ### Ports -/

@[simp] theorem State.sigSt_updSig (n : Nat) (g : SigSt → SigSt) : (s.updSig n g).sigSt n = g (s.sigSt n) := FMap.get_put_same _ _ _ _

@[simp] theorem State.updSig_sent (n : Nat) (g : SigSt → SigSt) : (s.updSig n g).sent = s.sent := rfl
@[simp] theorem State.updSig_evt (n : Nat) (g : SigSt → SigSt) : (s.updSig n g).evt = s.evt := rfl
@[simp] theorem State.updSig_regs (n : Nat) (g : SigSt → SigSt) : (s.updSig n g).regs = s.regs := rfl

@[simp] theorem State.sigOut_regs (n : Nat) (opened : List Nat) : (s.sigOut n opened).regs = s.regs := rfl
@[simp] theorem State.sigOut_evt (n : Nat) (opened : List Nat) : (s.sigOut n opened).evt = s.evt := rfl
@[simp] theorem State.sigSt_sigOut (n : Nat) (opened : List Nat) (m : Nat) : (s.sigOut n opened).sigSt m = s.sigSt m := rfl
@[simp] theorem State.sigPeriods_sigOut (n : Nat) (opened : List Nat) (m : Nat) (prof : List Byte) :
    (s.sigOut n opened).sigPeriods m prof = s.sigPeriods m prof := rfl

@[simp] theorem State.sigSt_settle (t : State) (n : Nat) : (s.settle t).sigSt n = t.sigSt n := rfl
@[simp] theorem State.sigSt_setFld (f : Fld) (v n : Nat) : (s.setFld f v).sigSt n = s.sigSt n := rfl

@[simp] theorem State.sigSt_raise (source code : Nat) (args : List Nat) (n : Nat) : (s.raise source code args).sigSt n = s.sigSt n := by
  unfold State.sigSt
  rw [State.raise_sig]

@[simp] theorem State.sigSt_dropFailed (p : FailEnt → Bool) (n : Nat) : (s.dropFailed p).sigSt n = s.sigSt n := rfl

/-- With every switch closed, the word is the closing level on all 16 positions. -/
theorem State.sigOut_closed (n : Nat) :
    s.sigOut n [] = s.send (.sigWord n (if s.flag (F.SIG_CFG.BYP_POL n) then 0xFFFF else 0) true) := rfl

/-! ### Frames (R231, R233) -/

/-- From `s` to `t` port `n` takes over the codes of frame `x`: its own state and its register `SIG_n_STATE` may change. -/
structure TakesFrame (n : Nat) (x : SigFrame) (s t : State) : Prop where
  parts : t = { s with regs := t.regs, sig := t.sig }
  cur : (t.sigSt n).cur = some x
  rate : (t.sigSt n).rate = (s.sigSt n).rate
  rv : ∀ o ≠ R.SIG_STATE n, t.rv o = s.rv o

namespace TakesFrame

variable {s} {t : State} {n : Nat} {x : SigFrame}

theorem fld (h : TakesFrame n x s t) {f : Fld} (hf : f.reg ≠ R.SIG_STATE n) : t.fld f = s.fld f := by
  unfold State.fld
  rw [h.rv _ hf]

theorem sigCurtain (h : TakesFrame n x s t) (m : Nat) : t.sigCurtain m = s.sigCurtain m := by
  unfold State.sigCurtain
  rw [h.fld (f := F.CUR_SEL_SIG.SIG) (show R.CUR_SEL_SIG ≠ R.SIG_STATE n by unfold R.CUR_SEL_SIG R.SIG_STATE; omega)]

theorem sigPeriods (h : TakesFrame n x s t) (prof : List Byte) : t.sigPeriods n prof = s.sigPeriods n prof := by
  unfold State.sigPeriods
  rw [h.rate]

theorem sent (h : TakesFrame n x s t) : t.sent = s.sent := by rw [h.parts]
theorem evt (h : TakesFrame n x s t) : t.evt = s.evt := by rw [h.parts]
theorem house (h : TakesFrame n x s t) : t.time.house = s.time.house := by rw [h.parts]
theorem evtUp (h : TakesFrame n x s t) : t.evtUp = s.evtUp := by rw [h.parts]; rfl

theorem ite {u : State} {p : Prop} [Decidable p] (h : TakesFrame n x s t) (h2 : TakesFrame n x s u) :
    TakesFrame n x s (if p then t else u) := by
  split
  · exact h
  · exact h2

theorem setFld (h : TakesFrame n x s t) {f : Fld} (v : Nat) (hf : f.reg = R.SIG_STATE n) : TakesFrame n x s (t.setFld f v) where
  parts := by rw [h.parts]; rfl
  cur := h.cur
  rate := h.rate
  rv := fun o ho => (t.rv_setFld_other v (hf ▸ ho)).trans (h.rv o ho)

theorem updSig (h : TakesFrame n x s t) {g : SigSt → SigSt} (hcur : ∀ y, (g y).cur = y.cur := by intro _; rfl)
    (hrate : ∀ y, (g y).rate = y.rate := by intro _; rfl) : TakesFrame n x s (t.updSig n g) where
  parts := by rw [h.parts]; rfl
  cur := by rw [State.sigSt_updSig, hcur, h.cur]
  rate := by rw [State.sigSt_updSig, hrate, h.rate]
  rv := h.rv

theorem start (s : State) {g : SigSt → SigSt} (hcur : ∀ y, (g y).cur = some x := by intro _; rfl)
    (hrate : ∀ y, (g y).rate = y.rate := by intro _; rfl) : TakesFrame n x s (s.updSig n g) where
  parts := rfl
  cur := by rw [State.sigSt_updSig, hcur]
  rate := by rw [State.sigSt_updSig, hrate]
  rv := fun _ _ => rfl

end TakesFrame

theorem State.sigTake_takes {n : Nat} {x : SigFrame}
    (hx : ((s.sigSt n).next.filter (fun y => decide (y.frame ≤ s.fld F.TIM_FRAME_SEQ.SEQ))).getLast? = some x) :
    TakesFrame n x s (s.sigTake n) := by
  unfold State.sigTake
  dsimp only
  rw [hx]
  dsimp only
  exact ((TakesFrame.start s).updSig.setFld _ rfl).ite (TakesFrame.start s).updSig

/-- The periods of a frame are to begin on a port. -/
def State.readyPeriods (s : State) (n : Nat) (prof : List Byte) : State :=
  (s.updSig n (fun y => { y with left := s.sigPeriods n prof, running := false, tests := [] })).setFld (F.SIG_STATE.ACTIVE n)
    (b2n (decide (0 < s.sigPeriods n prof)))

/-- The check of the bypass switches fails. -/
def State.bypassFault (s : State) (n : Nat) : State :=
  (s.setFld (F.SIG_STATE.BYPASS_FAULT n) 1).raise (Src.sig n) E.SIG_BYPASS_FAULT []

@[simp] theorem State.readyPeriods_sent (n : Nat) (prof : List Byte) : (s.readyPeriods n prof).sent = s.sent := by
  unfold State.readyPeriods
  rw [State.setFld_sent, State.updSig_sent]

@[simp] theorem State.readyPeriods_evt (n : Nat) (prof : List Byte) : (s.readyPeriods n prof).evt = s.evt := by
  unfold State.readyPeriods
  rw [State.setFld_evt, State.updSig_evt]

theorem State.sigSt_readyPeriods (n : Nat) (prof : List Byte) : (s.readyPeriods n prof).sigSt n =
    { s.sigSt n with left := s.sigPeriods n prof, running := false, tests := [] } := by
  unfold State.readyPeriods
  rw [State.sigSt_setFld, State.sigSt_updSig]

theorem State.readyPeriods_active (n : Nat) (prof : List Byte) :
    (s.readyPeriods n prof).fld (F.SIG_STATE.ACTIVE n) = b2n (decide (0 < s.sigPeriods n prof)) := by
  refine (State.fld_setFld_same _ _ _ (show 17 + 1 ≤ 64 by decide)).trans (Nat.mod_eq_of_lt ?_)
  unfold b2n
  split
  · exact Nat.one_lt_two
  · exact Nat.two_pos

/-- `SIG_n_STATE.ACTIVE` is set beside `BYPASS_FAULT`. -/
theorem State.readyPeriods_bypass (n : Nat) (prof : List Byte) :
    (s.readyPeriods n prof).fld (F.SIG_STATE.BYPASS_FAULT n) = s.fld (F.SIG_STATE.BYPASS_FAULT n) :=
  State.fld_setFld_apart _ (f := F.SIG_STATE.ACTIVE n) (g := F.SIG_STATE.BYPASS_FAULT n) _ rfl (show 17 + 1 ≤ 64 by decide)
    (.inl (show 16 + 1 ≤ 17 by decide))

theorem sigState_notMem_failureRegs (n : Ix16) : R.SIG_STATE n ∉ failureRegs :=
  notMem_failureRegs (by unfold R.SIG_STATE R.LMP_FUNC_OFF; omega) (by unfold R.SIG_STATE R.LMP_FAILED_LOST_CNT; omega)
    (by unfold R.SIG_STATE; omega)

theorem State.bypassFault_fld (n : Ix16) : (s.bypassFault n).fld (F.SIG_STATE.BYPASS_FAULT n) = 1 := by
  unfold State.bypassFault
  rw [(FailureFrame.raise _ _ _ _).fld (sigState_notMem_failureRegs n), State.fld_setFld_same _ _ _ (show 16 + 1 ≤ 64 by decide)]
  rfl

theorem State.bypassFault_sigPeriods (n : Nat) (prof : List Byte) : (s.bypassFault n).sigPeriods n prof = s.sigPeriods n prof := by
  unfold State.sigPeriods State.bypassFault
  rw [State.sigSt_raise, State.sigSt_setFld]

theorem State.sigReturn_stays {n : Nat} (h : s.cur.retSig.contains n = false) : s.sigReturn n = s := by
  unfold State.sigReturn
  rw [h]
  exact if_neg Bool.false_ne_true

/-- The word with every switch closed goes out as the port's settings have it. -/
theorem TakesFrame.closed_sent {s t : State} {n : Nat} {x : SigFrame} (h : TakesFrame n x s t) :
    (t.sigOut n []).sent = s.sent ++ [.sigWord n (if s.flag (F.SIG_CFG.BYP_POL n) then 0xFFFF else 0) true] := by
  have hapart : R.SIG_CFG n ≠ R.SIG_STATE n := by unfold R.SIG_CFG R.SIG_STATE; omega
  have hpol : t.flag (F.SIG_CFG.BYP_POL n) = s.flag (F.SIG_CFG.BYP_POL n) := by
    unfold State.flag
    rw [h.fld (f := F.SIG_CFG.BYP_POL n) hapart]
  rw [State.sigOut_closed, hpol]
  exact congrArg (· ++ _) h.sent

section Frames

variable {s} {n : Nat} {x : SigFrame} (hen : s.flag (F.SIG_CFG.ENABLE n) = true) (hrole : s.understudy = false)
  (hcurtain : s.sigCurtain n = false) (htake : TakesFrame n x s (s.sigTake n))
include hen hrole hcurtain htake

/-- Without a sample of the sense input, the switches close and the frame's periods begin. -/
theorem State.sigFrame_begins : s.sigFrame n [] = ((s.sigTake n).sigOut n []).readyPeriods n x.prof := by
  have hshow : (s.sigTake n).sigCurtain n = false := (htake.sigCurtain n).trans hcurtain
  have hcur := htake.cur
  unfold State.sigFrame
  rw [hen, hrole, if_neg (by decide)]
  generalize s.sigTake n = t at hshow hcur ⊢
  dsimp only
  rw [hcur]
  dsimp only
  rw [hshow]
  rfl

/-- A sample above `SHORT` marks a bypass fault first (R233). -/
theorem State.sigFrame_faults {v : SenseCode} (hv : s.fld (F.SIG_THRESH.SHORT n) < v.toNat) :
    s.sigFrame n [v] = (((s.sigTake n).sigOut n []).bypassFault n).readyPeriods n x.prof := by
  have hshow : (s.sigTake n).sigCurtain n = false := (htake.sigCurtain n).trans hcurtain
  have hcur := htake.cur
  have hapart : R.SIG_THRESH n ≠ R.SIG_STATE n := by unfold R.SIG_THRESH R.SIG_STATE; omega
  rw [← htake.fld (f := F.SIG_THRESH.SHORT n) hapart] at hv
  unfold State.sigFrame
  rw [hen, hrole, if_neg (by decide)]
  generalize s.sigTake n = t at hshow hcur hv ⊢
  dsimp only
  rw [hcur]
  dsimp only
  rw [hshow, if_neg Bool.false_ne_true, List.head?_cons]
  dsimp only
  have hsent : (t.sigOut n []).sigCurtain n = false := hshow
  have hshort : (t.sigOut n []).fld (F.SIG_THRESH.SHORT n) < v.toNat := hv
  generalize t.sigOut n [] = u at hsent hshort ⊢
  simp only [hsent, hshort, Bool.false_eq_true, ↓reduceIte]
  rfl

end Frames

/-! ### Slots (R228, R232, R370) -/

/-- The Curtain's word rests on no state of the port. -/
theorem State.curtainWord_updSig (n : Nat) (g : SigSt → SigSt) : (s.updSig n g).curtainWord n = (s.curtainWord n).updSig n g := by
  unfold State.curtainWord
  rw [apply_ite (fun t : State => t.updSig n g)]
  rfl

/-- A word leaves, and nothing else changes. -/
theorem State.curtainWord_sends (n : Nat) : ∃ w, s.curtainWord n = s.send w := by
  unfold State.curtainWord
  dsimp only
  split
  · exact ⟨_, rfl⟩
  · exact ⟨_, rfl⟩

theorem State.sigSlot_curtain {n : Nat} (v : Nat) (hrole : s.understudy = false) (hcurtain : s.sigCurtain n = true) :
    s.sigSlot n v = (s.curtainWord n).updSig n (fun y => { y with tests := [], tslot := 0 }) := by
  have hrole' : (s.updSig n (fun y => { y with tests := [], tslot := 0 })).understudy = false := hrole
  unfold State.sigSlot
  rw [if_pos hcurtain]
  dsimp only
  rw [hrole', if_neg Bool.false_ne_true]
  exact s.curtainWord_updSig n _

theorem State.sigSlot_off {n : Nat} (v : Nat) (hen : s.flag (F.SIG_CFG.ENABLE n) = false) (hcurtain : s.sigCurtain n = false) :
    s.sigSlot n v = (s.sigClosed n).setFld (F.SIG_STATE.ACTIVE n) 0 := by
  unfold State.sigSlot
  rw [hcurtain, hen]
  rfl

/-- After a slot `SIG_n_STATE.ACTIVE` tells whether a period runs or is still to begin. -/
def State.showActive (s : State) (n : Nat) : State :=
  s.setFld (F.SIG_STATE.ACTIVE n) (b2n ((s.sigSt n).running || decide (0 < (s.sigSt n).left)))

@[simp] theorem State.sigSt_showActive (m n : Nat) : (s.showActive m).sigSt n = s.sigSt n := by
  unfold State.showActive
  rw [State.sigSt_setFld]

@[simp] theorem State.showActive_sent (n : Nat) : (s.showActive n).sent = s.sent := by
  unfold State.showActive
  rw [State.setFld_sent]

@[simp] theorem State.showActive_evt (n : Nat) : (s.showActive n).evt = s.evt := by
  unfold State.showActive
  rw [State.setFld_evt]

/-- A slot of a running period goes by on an enabled port of the show source. -/
theorem State.sigSlot_runs {n : Nat} {x : SigFrame} (v : Nat) (hen : s.flag (F.SIG_CFG.ENABLE n) = true) (hrole : s.understudy = false)
    (hcurtain : s.sigCurtain n = false) (hcur : (s.sigSt n).cur = some x) (hrun : (s.sigSt n).running = true) :
    s.sigSlot n v = (s.runSlot n x v).showActive n := by
  unfold State.sigSlot
  rw [hcurtain, hen, hrole, if_neg (by decide), if_neg (by decide)]
  dsimp only
  rw [hrun, Bool.not_true, Bool.false_and, if_neg Bool.false_ne_true, hcur]
  dsimp only
  rw [if_pos hrun]
  rfl

/-- In the PWM part each position whose slots are not over, and which is not held off, is open. -/
def State.pwmOpen (s : State) (n : Nat) : List Nat :=
  (List.range 16).filter (fun q => decide ((s.sigSt n).slot < (s.sigSt n).pwm.get 0 q) && !s.sigHeld n q)

theorem State.runSlot_pwm {n : Nat} {x : SigFrame} (v : Nat) (hslot : (s.sigSt n).slot < pwmSlots x.prof) :
    ∃ last, s.runSlot n x v = (s.sigOut n (s.pwmOpen n)).updSig n (fun y => { y with slot := y.slot + 1, running := !last }) := by
  unfold State.runSlot
  dsimp only
  rw [if_pos hslot]
  exact ⟨_, rfl⟩

/-- A test ends: its element's word has gone out, and the next test is to begin. -/
def State.endTest (s : State) (n p : Nat) (rest : List Nat) : State :=
  (s.sigOut n [p]).updSig n (fun y => { y with tslot := 0, tests := rest, running := !rest.isEmpty })

theorem State.sigSt_endTest (n p : Nat) (rest : List Nat) : (s.endTest n p rest).sigSt n =
    { s.sigSt n with tslot := 0, tests := rest, running := !rest.isEmpty } := by
  unfold State.endTest
  rw [State.sigSt_updSig, State.sigSt_sigOut]

theorem State.endTest_regs (n p : Nat) (rest : List Nat) : (s.endTest n p rest).regs = s.regs := by
  unfold State.endTest
  rw [State.updSig_regs, State.sigOut_regs]

/-- The last slot of a test takes its result, where the element is not held off. -/
theorem State.runSlot_test {n p : Nat} {x : SigFrame} {rest : List Nat} (v : Nat) (hslot : pwmSlots x.prof ≤ (s.sigSt n).slot)
    (htests : (s.sigSt n).tests = p :: rest) (hlast : testSlots x.prof ≤ (s.sigSt n).tslot + 1) (hheld : s.sigHeld n p = false) :
    s.runSlot n x v = (s.endTest n p rest).testResult n p v := by
  have hheld' : (s.sigOut n [p]).sigHeld n p = false := hheld
  unfold State.runSlot
  dsimp only
  rw [if_neg (Nat.not_lt.2 hslot), htests]
  dsimp only
  rw [hheld, if_neg Bool.false_ne_true, if_neg (Nat.not_lt.2 hlast), hheld', if_neg Bool.false_ne_true]
  rfl

end Sys2Proof.Machine
end

section
/-! SUPPORT. Test results and cleared positions of signal-string ports, a node's `FAULT`, and the statement about lamp elements and ports
(R222 to R234, R253). -/

namespace Sys2Proof.Machine

variable (s : State)

/-! ### Test results (R228) -/

/-- How a code that the converter reads compares with the thresholds. -/
def State.senseResult (s : State) (n code : Nat) : Nat :=
  if s.fld (F.SIG_THRESH.OPEN n) ≤ code then resOpen else if code ≤ s.fld (F.SIG_THRESH.SHORT n) then resShort else resOk

theorem State.senseResult_lt (n code : Nat) : s.senseResult n code < 4 := by
  unfold State.senseResult resOpen resShort resOk
  split
  · decide
  · split
    · decide
    · decide

/-- A test is counted, and its code, position and result stand in `SIG_n_SENSE_LAST`. -/
def State.countTest (s : State) (n p code : Nat) : State :=
  ((((s.bump (F.SIG_TEST_CNT.COUNT n)).bump F.LMP_TEST_CNT.COUNT).setFld (F.SIG_SENSE_LAST.CODE n) code).setFld
    (F.SIG_SENSE_LAST.POSITION n) p).setFld (F.SIG_SENSE_LAST.RESULT n) (s.senseResult n code)

/-- What a result may bring about: the count of failing tests, the record of the last one, and a second one that fails the element. -/
def State.judgeTest (s : State) (n p res : Nat) (x : SigFrame) : State :=
  let s := if res = resOk then s else s.bump F.LMP_FAIL_CNT.COUNT
  let last := (s.sigSt n).lastFail.get 0 p
  let s := s.updSig n (fun y => { y with lastFail := y.lastFail.put 0 p res })
  if res ≠ resOk ∧ last = res then
    match x.element p with
    | none => s
    | some (surf, lamp, em) =>
      (s.setFld (F.SIG_STATE.FAILED n) (s.fld (F.SIG_STATE.FAILED n) ||| 2 ^ p)).addFailed
        ⟨surf, lamp, em, res, false, 0, n, p⟩ (Src.sig n)
  else s

theorem State.testResult_judges {n : Nat} (p code : Nat) {x : SigFrame} (hcur : (s.sigSt n).cur = some x) :
    s.testResult n p code = (s.countTest n p code).judgeTest n p (s.senseResult n code) x := by
  unfold State.testResult
  rw [hcur]
  rfl

/-- Registers that tell of tests: each port's `SIG_n_SENSE_LAST` and `SIG_n_TEST_CNT`, and `LMP_TEST_CNT`. -/
def TestReg (o : Nat) : Prop := o = R.LMP_TEST_CNT ∨ ∃ n < 16, o = R.SIG_SENSE_LAST n ∨ o = R.SIG_TEST_CNT n

theorem testReg_count : TestReg R.LMP_TEST_CNT := .inl rfl
theorem testReg_sense (n : Ix16) : TestReg (R.SIG_SENSE_LAST n) := .inr ⟨n, n.isLt, .inl rfl⟩
theorem testReg_port (n : Ix16) : TestReg (R.SIG_TEST_CNT n) := .inr ⟨n, n.isLt, .inr rfl⟩

theorem TestReg.range {o : Nat} (h : TestReg o) : o = 0x700040 ∨ (0x781000 ≤ o ∧ o < 0x781400 ∧ o % 64 ≠ 8) := by
  rcases h with rfl | ⟨n, hn, rfl | rfl⟩
  · exact .inl rfl
  · unfold R.SIG_SENSE_LAST; omega
  · unfold R.SIG_TEST_CNT; omega

theorem TestReg.notMem_failureRegs {o : Nat} (h : TestReg o) : o ∉ failureRegs := by
  have ho := h.range
  exact Machine.notMem_failureRegs (by unfold R.LMP_FUNC_OFF; omega) (by unfold R.LMP_FAILED_LOST_CNT; omega) (by omega)

theorem sigState_notTestReg (n : Nat) : ¬ TestReg (R.SIG_STATE n) := fun h => by
  have ho := h.range
  unfold R.SIG_STATE at ho
  omega

/-- From `s` to `t` the tests that port `n` still carries and the registers that tell of tests stand. -/
structure TestsStand (n : Nat) (s t : State) : Prop where
  tests : (t.sigSt n).tests = (s.sigSt n).tests
  rv : ∀ o, TestReg o → t.rv o = s.rv o

namespace TestsStand

variable {n : Nat}

theorem refl : TestsStand n s s := ⟨rfl, fun _ _ => rfl⟩

theorem trans {s t u : State} (h : TestsStand n s t) (h2 : TestsStand n t u) : TestsStand n s u :=
  ⟨h2.tests.trans h.tests, fun o ho => (h2.rv o ho).trans (h.rv o ho)⟩

theorem ite {s t u : State} {p : Prop} [Decidable p] (h : TestsStand n s t) (h2 : TestsStand n s u) :
    TestsStand n s (if p then t else u) := by
  split
  · exact h
  · exact h2

theorem setFld {f : Fld} (v : Nat) (h : ¬ TestReg f.reg) : TestsStand n s (s.setFld f v) :=
  ⟨rfl, fun _ ho => s.rv_setFld_other v fun e => h (e ▸ ho)⟩

theorem of_failure {s t : State} (h : FailureFrame s t) : TestsStand n s t :=
  ⟨by rw [h.sigSt], fun o ho => h.rv o ho.notMem_failureRegs⟩

theorem judgeTest (p res : Nat) (x : SigFrame) : TestsStand n s (s.judgeTest n p res x) := by
  have hcounted : TestsStand n s (if res = resOk then s else s.bump F.LMP_FAIL_CNT.COUNT) :=
    ite (refl s) (setFld s (f := F.LMP_FAIL_CNT.COUNT) _ fun h => absurd h.range (by decide))
  have hnoted : ∀ t : State, TestsStand n t (t.updSig n (fun y => { y with lastFail := y.lastFail.put 0 p res })) := fun t =>
    ⟨by rw [State.sigSt_updSig], fun _ _ => rfl⟩
  unfold State.judgeTest
  refine hcounted.trans ((hnoted _).trans (ite ?_ (refl _)))
  cases x.element p with
  | none => exact refl _
  | some v => exact (setFld _ (f := F.SIG_STATE.FAILED n) _ (sigState_notTestReg n)).trans (of_failure (FailureFrame.addFailed _ _ _))

theorem showActive : TestsStand n s (s.showActive n) := setFld s (f := F.SIG_STATE.ACTIVE n) _ (sigState_notTestReg n)

theorem fld {s t : State} (h : TestsStand n s t) {f : Fld} (hf : TestReg f.reg) : t.fld f = s.fld f := by
  unfold State.fld
  rw [h.rv _ hf]

end TestsStand

/-- The registers that tell of a test, once it is counted. -/
structure TestCounted (n p v : Nat) (s t : State) : Prop where
  code : t.fld (F.SIG_SENSE_LAST.CODE n) = v
  position : t.fld (F.SIG_SENSE_LAST.POSITION n) = p
  result : t.fld (F.SIG_SENSE_LAST.RESULT n) = s.senseResult n v
  port : Counts s t (F.SIG_TEST_CNT.COUNT n) 1
  all : Counts s t F.LMP_TEST_CNT.COUNT 1

/-- What a test told stands while the registers that tell of tests do. -/
theorem TestCounted.of_stand {s t u : State} {n : Ix16} {p v : Nat} (h : TestCounted n p v s t) (h2 : TestsStand n t u) :
    TestCounted n p v s u where
  code := (h2.fld (testReg_sense n)).trans h.code
  position := (h2.fld (testReg_sense n)).trans h.position
  result := (h2.fld (testReg_sense n)).trans h.result
  port := (h2.fld (testReg_port n)).trans h.port
  all := (h2.fld testReg_count).trans h.all

/-- Only the registers before the test matter. -/
theorem TestCounted.of_regs {s s' t : State} {n p v : Nat} (h : TestCounted n p v s' t) (hregs : s'.regs = s.regs) :
    TestCounted n p v s t where
  code := h.code
  position := h.position
  result := by
    rw [h.result]
    unfold State.senseResult
    rw [State.fld_eq_of_regs hregs, State.fld_eq_of_regs hregs]
  port := by
    have hport := h.port
    rwa [Counts, State.fld_eq_of_regs hregs] at hport
  all := by
    have hall := h.all
    rwa [Counts, State.fld_eq_of_regs hregs] at hall

theorem State.countTest_counts (n : Ix16) {p code : Nat} (hp : p < 16) (hcode : code < 1024) :
    TestCounted n p code s (s.countTest n p code) := by
  have hport : R.SIG_TEST_CNT n ≠ R.SIG_SENSE_LAST n := by unfold R.SIG_TEST_CNT R.SIG_SENSE_LAST; omega
  have hall : R.LMP_TEST_CNT ≠ R.SIG_SENSE_LAST n := by unfold R.LMP_TEST_CNT R.SIG_SENSE_LAST; omega
  have hapart : R.SIG_TEST_CNT n ≠ R.LMP_TEST_CNT := by unfold R.LMP_TEST_CNT R.SIG_TEST_CNT; omega
  have hcodeResult : ∀ (t : State) (v : Nat), (t.setFld (F.SIG_SENSE_LAST.RESULT n) v).fld (F.SIG_SENSE_LAST.CODE n) =
      t.fld (F.SIG_SENSE_LAST.CODE n) := fun t v =>
    t.fld_setFld_apart v rfl (show 14 + 2 ≤ 64 by decide) (.inl (show 0 + 10 ≤ 14 by decide))
  have hcodePosition : ∀ (t : State) (v : Nat), (t.setFld (F.SIG_SENSE_LAST.POSITION n) v).fld (F.SIG_SENSE_LAST.CODE n) =
      t.fld (F.SIG_SENSE_LAST.CODE n) := fun t v =>
    t.fld_setFld_apart v rfl (show 10 + 4 ≤ 64 by decide) (.inl (show 0 + 10 ≤ 10 by decide))
  have hpositionResult : ∀ (t : State) (v : Nat), (t.setFld (F.SIG_SENSE_LAST.RESULT n) v).fld (F.SIG_SENSE_LAST.POSITION n) =
      t.fld (F.SIG_SENSE_LAST.POSITION n) := fun t v =>
    t.fld_setFld_apart v rfl (show 14 + 2 ≤ 64 by decide) (.inl (show 10 + 4 ≤ 14 by decide))
  unfold State.countTest
  constructor
  case code =>
    rw [hcodeResult, hcodePosition, State.fld_setFld_same _ _ _ (show 0 + 10 ≤ 64 by decide)]
    exact Nat.mod_eq_of_lt hcode
  case position =>
    rw [hpositionResult, State.fld_setFld_same _ _ _ (show 10 + 4 ≤ 64 by decide)]
    exact Nat.mod_eq_of_lt hp
  case result => exact (State.fld_setFld_same _ _ _ (show 14 + 2 ≤ 64 by decide)).trans (Nat.mod_eq_of_lt (s.senseResult_lt n code))
  case port =>
    unfold Counts
    rw [State.fld_setFld_reg _ _ hport, State.fld_setFld_reg _ _ hport, State.fld_setFld_reg _ _ hport]
    exact (State.fld_setFld_reg _ _ hapart).trans (s.counts_bump (show 0 + 64 ≤ 64 by decide))
  case all =>
    unfold Counts
    rw [State.fld_setFld_reg _ _ hall, State.fld_setFld_reg _ _ hall, State.fld_setFld_reg _ _ hall]
    have hport' : (s.bump (F.SIG_TEST_CNT.COUNT n)).fld F.LMP_TEST_CNT.COUNT = s.fld F.LMP_TEST_CNT.COUNT :=
      State.fld_setFld_reg _ _ hapart.symm
    exact (State.counts_bump _ (show 0 + 64 ≤ 64 by decide)).trans (congrArg (fun c => (c + 1) % 2 ^ 64) hport')

/-- A test's result is counted and told, and the tests to come stand. -/
theorem State.testResult_tells (n : Ix16) {p code : Nat} {x : SigFrame} (hcur : (s.sigSt n).cur = some x) (hp : p < 16)
    (hcode : code < 1024) : TestCounted n p code s ((s.testResult n p code).showActive n) ∧
    (((s.testResult n p code).showActive n).sigSt n).tests = (s.sigSt n).tests := by
  rw [s.testResult_judges p code hcur]
  have hcount := s.countTest_counts n hp hcode
  have hstand := (TestsStand.judgeTest (s.countTest n p code) (n := n) p (s.senseResult n code) x).trans (TestsStand.showActive _)
  exact ⟨hcount.of_stand hstand, hstand.tests⟩

/-- The slot that ends a test tells its result. -/
theorem State.sigSlot_tells (n : Ix16) {x : SigFrame} {p v : Nat} {rest : List Nat} (hen : s.flag (F.SIG_CFG.ENABLE n) = true)
    (hrole : s.understudy = false) (hcurtain : s.sigCurtain n = false) (hcur : (s.sigSt n).cur = some x)
    (hrun : (s.sigSt n).running = true) (hslot : pwmSlots x.prof ≤ (s.sigSt n).slot) (htests : (s.sigSt n).tests = p :: rest)
    (hlast : testSlots x.prof ≤ (s.sigSt n).tslot + 1) (hheld : s.sigHeld n p = false) (hp : p < 16) (hv : v < 1024) :
    TestCounted n p v s (s.sigSlot n v) ∧ ((s.sigSlot n v).sigSt n).tests = rest := by
  have hended := s.sigSt_endTest n p rest
  obtain ⟨htold, hrest⟩ := (s.endTest n p rest).testResult_tells n ((congrArg SigSt.cur hended).trans hcur) hp hv
  rw [s.sigSlot_runs v hen hrole hcurtain hcur hrun, s.runSlot_test v hslot htests hlast hheld]
  exact ⟨htold.of_regs (s.endTest_regs n p rest), hrest.trans (congrArg SigSt.tests hended)⟩

/-! ### Clears on ports (R228, R234) -/

theorem State.sigFailed_setFld (n v p : Nat) :
    (s.setFld (F.SIG_STATE.FAILED n) v).sigFailed n p = bit (v % 2 ^ 16) p :=
  congrArg (bit · p) (s.fld_setFld_same _ v (show 0 + 16 ≤ 64 by decide))

/-- A cleared position is failed no longer; the others stay as they are. -/
theorem State.sigFailed_clearPosition (n p q : Nat) :
    (s.clearPosition n q).sigFailed n p = (s.sigFailed n p && decide (p ≠ q)) := by
  unfold State.clearPosition
  split
  next hq =>
    have hlt : s.fld (F.SIG_STATE.FAILED n) - 2 ^ q < 2 ^ 16 := (Nat.sub_le _ _).trans_lt (s.fld_lt (F.SIG_STATE.FAILED n))
    refine (s.sigFailed_setFld n _ p).trans ?_
    rw [Nat.mod_eq_of_lt hlt]
    exact bit_sub_two_pow hq p
  next hq =>
    by_cases h : p = q
    · rw [h, Bool.eq_false_iff.2 hq, Bool.false_and]
    · simp [h]

/-- A failed position that is cleared is due for a test in its next period. -/
theorem State.clearPosition_due {n p : Nat} (h : s.sigFailed n p = true) :
    ((s.clearPosition n p).sigSt n).firstDue = insertAsc p (s.sigSt n).firstDue := by
  unfold State.clearPosition
  rw [if_pos h, State.sigSt_dropFailed, State.sigSt_updSig, State.sigSt_setFld]

theorem State.clearPosition_evt (n p : Nat) : (s.clearPosition n p).evt = s.evt := by
  unfold State.clearPosition
  split <;> rfl

theorem State.clearPosition_sent (n p : Nat) : (s.clearPosition n p).sent = s.sent := by
  unfold State.clearPosition
  split <;> rfl

theorem State.sigFailed_foldl_clearPosition (n p : Nat) (l : List Nat) :
    (l.foldl (fun t q => t.clearPosition n q) s).sigFailed n p = (s.sigFailed n p && !l.contains p) := by
  induction l generalizing s with
  | nil => simp
  | cons q l ih =>
    rw [List.foldl_cons, ih, s.sigFailed_clearPosition, List.contains_cons, Bool.not_or, Bool.and_assoc]
    simp [beq_eq_decide]

/-- The positions of the mask leave the failed state. -/
theorem State.sigFailed_clearPositions (n mask : Nat) (p : Fin 16) :
    (s.clearPositions n mask).sigFailed n p = (s.sigFailed n p && !bit mask p) := by
  have hmem : ((List.range 16).filter (fun q => bit mask q)).contains p.val = bit mask p := by
    rw [Bool.eq_iff_iff, List.contains_iff_mem, List.mem_filter, List.mem_range]
    exact and_iff_right p.isLt
  unfold State.clearPositions
  rw [s.sigFailed_foldl_clearPosition, hmem]

/-! ### A node's `FAULT` (R253) -/

theorem State.evtUp_of_linkTalks {l : Nat} (h : s.linkTalks l = true) : s.evtUp = true := by
  unfold State.linkTalks State.linkUp at h
  simp only [Bool.and_eq_true] at h
  obtain ⟨⟨⟨-, hup⟩, -⟩, -⟩ := h
  exact hup

theorem rxFrameCnt_notMem_failureRegs (l : LinkIx) : R.CL_RX_FRAME_CNT l ∉ failureRegs :=
  notMem_failureRegs (by unfold R.CL_RX_FRAME_CNT R.LMP_FUNC_OFF; omega) (by unfold R.CL_RX_FRAME_CNT R.LMP_FAILED_LOST_CNT; omega)
    (by unfold R.CL_RX_FRAME_CNT; omega)

/-- A node's `FAULT` lists a new failure, raises its `LAMP_FAULT`, and counts the frame (R253). The order of
the event's arguments is the model's choice (assumption 85). -/
theorem State.nodeFault_adds (l : LinkIx) (h : UpHdr) {e : FailEnt} (htalks : s.linkTalks l = true)
    (hnew : s.failed.any (fun x => FailEnt.same x e) = false)
    (hfree : (List.range 1024).any (fun i => (s.lmp.fails.get none i).isNone) = true) (hroom : s.hasRoom Src.lmp = true) :
    e ∈ ((s.rxFrame l h).addFailed e Src.lmp).failed ∧
    HasEvent s ((s.rxFrame l h).addFailed e Src.lmp) Src.lmp E.LAMP_FAULT [e.surface, e.lamp, e.emitter, e.result] ∧
    Counts s ((s.rxFrame l h).addFailed e Src.lmp) (F.CL_RX_FRAME_CNT.COUNT l) 1 := by
  have hstand := LampsStand.rxFrame s l h
  have hadds := (s.rxFrame l h).addFailed_adds (e := e) (source := Src.lmp) (by rw [hstand.failed]; exact hnew)
    (by rw [hstand.lmp]; exact hfree) (hstand.evtUp.trans (s.evtUp_of_linkTalks htalks)) (hstand.hasRoom.trans hroom)
  have hcount := (FailureFrame.addFailed (s.rxFrame l h) e Src.lmp).fld (f := F.CL_RX_FRAME_CNT.COUNT l)
    (rxFrameCnt_notMem_failureRegs l)
  unfold HasEvent at hadds
  rw [hstand.house] at hadds
  exact ⟨hadds.1, hadds.2, hcount.trans (s.rxFrame_counts l h)⟩

/-! ### The statement -/

/-- Settles O36, command by command: a port takes over a frame and its periods are to begin, a slot sends its word or takes a test's
result, a function is on again or stays off, and elements leave and enter the failed list. -/
theorem lampElementsAndPorts : Obligations.Lamp_elements_and_ports := by
  unfold Obligations.Lamp_elements_and_ports
  refine ⟨?begins, ?bypass, ?off, ?pwm, ?test, ?curtain, ?funcOn, ?funcStays, ?clearNode, ?clearPort, ?clear, ?fault⟩
  case begins =>
    rintro s n x hup ⟨hen, hrole, hret, hcurtain⟩ hx
    have htake := s.sigTake_takes hx
    change Answers (s.done (s.when s.evtUp ((s.sigReturn n).sigFrame n []))) _
    rw [hup, State.when_true, answers_done, s.sigReturn_stays hret, State.sigFrame_begins hen hrole hcurtain htake]
    generalize s.sigTake n = t at htake ⊢
    have hperiods := htake.sigPeriods x.prof
    rw [State.sigSt_settle, State.fld_settle, State.settle_sent, State.settle_evt, State.sigSt_readyPeriods, State.readyPeriods_active,
      State.readyPeriods_sent, State.readyPeriods_evt, State.sigPeriods_sigOut, State.sigSt_sigOut, State.sigOut_evt, hperiods]
    exact ⟨htake.cur, rfl, rfl, rfl, htake.closed_sent, htake.evt⟩
  case bypass =>
    rintro s n x v hup ⟨hen, hrole, hret, hcurtain⟩ hx ⟨hshort, hroom⟩
    have htake := s.sigTake_takes hx
    change Answers (s.done (s.when s.evtUp ((s.sigReturn n).sigFrame n [v]))) _
    rw [hup, State.when_true, answers_done, s.sigReturn_stays hret, State.sigFrame_faults hen hrole hcurtain htake hshort]
    generalize s.sigTake n = t at htake ⊢
    have hperiods := htake.sigPeriods x.prof
    have hraises := State.raises_setFld (s := s) (t := t.sigOut n []) (F.SIG_STATE.BYPASS_FAULT n) 1 (Src.sig n) E.SIG_BYPASS_FAULT []
      htake.evt htake.house (htake.evtUp.trans hup) hroom
    rw [State.fld_settle, State.readyPeriods_bypass, State.bypassFault_fld, State.sigSt_settle, State.sigSt_readyPeriods,
      State.bypassFault_sigPeriods, State.sigPeriods_sigOut, hperiods, Raises, State.settle_evt, State.readyPeriods_evt]
    exact ⟨rfl, hraises, rfl⟩
  case off =>
    rintro s n v hup ⟨hen, hcurtain⟩
    change Answers (s.done (s.when s.evtUp (s.sigSlot n v.toNat))) _
    rw [hup, State.when_true, answers_done, s.sigSlot_off _ hen hcurtain]
    have hactive := (s.sigClosed n).fld_setFld_same (F.SIG_STATE.ACTIVE n) 0 (show 17 + 1 ≤ 64 by decide)
    rw [State.settle_sent, State.fld_settle, State.settle_sig, State.settle_evt, hactive, State.setFld_sent, State.setFld_sig,
      State.setFld_evt]
    exact ⟨rfl, Nat.zero_mod _, rfl, rfl⟩
  case pwm =>
    rintro s n v x hup ⟨hen, hrole, hcurtain⟩ ⟨hcur, hrun, hslot⟩
    change Answers (s.done (s.when s.evtUp (s.sigSlot n v.toNat))) _
    obtain ⟨last, hpwm⟩ := s.runSlot_pwm v.toNat hslot
    rw [hup, State.when_true, answers_done, s.sigSlot_runs _ hen hrole hcurtain hcur hrun, hpwm,
      State.settle_sent, State.sigSt_settle, State.settle_evt, State.showActive_sent, State.sigSt_showActive, State.showActive_evt,
      State.updSig_sent, State.sigSt_updSig, State.updSig_evt]
    exact ⟨rfl, rfl, rfl⟩
  case test =>
    rintro s n v x p rest hup ⟨hen, hrole, hcurtain⟩ ⟨hcur, hrun, hslot⟩ ⟨htests, hlast, hheld, hp⟩
    change Answers (s.done (s.when s.evtUp (s.sigSlot n v.toNat))) _
    obtain ⟨htold, hrest⟩ := s.sigSlot_tells n hen hrole hcurtain hcur hrun hslot htests hlast hheld hp v.isLt
    rw [hup, State.when_true, answers_done]
    exact ⟨htold.code, htold.position, htold.result, htold.port, htold.all, hrest⟩
  case curtain =>
    rintro s n v hup ⟨hrole, hcurtain⟩
    change Answers (s.done (s.when s.evtUp (s.sigSlot n v.toNat))) _
    obtain ⟨w, hw⟩ := s.curtainWord_sends n
    rw [hup, State.when_true, answers_done, s.sigSlot_curtain _ hrole hcurtain, hw, State.settle_sent, State.sigSt_settle,
      State.settle_regs, State.settle_evt, State.updSig_sent, State.sigSt_updSig, State.updSig_regs, State.updSig_evt]
    exact ⟨rfl, rfl, rfl, rfl⟩
  case funcOn =>
    rintro s f mask hup ⟨hmask, hoff⟩ hsound
    change Answers (s.done (s.when s.evtUp (s.clearFuncs mask.toNat))) _
    rw [hup, State.when_true, answers_done, hmask, s.clearFuncs_single f.isLt]
    have hsends := s.clearFunc_sends hoff hsound
    have hlt : s.fld F.LMP_FUNC_OFF.FUNC - 2 ^ f.val < 2 ^ 64 := (Nat.sub_le _ _).trans_lt (s.fld_lt F.LMP_FUNC_OFF.FUNC)
    have hset := s.fld_setFld_same F.LMP_FUNC_OFF.FUNC (s.fld F.LMP_FUNC_OFF.FUNC - 2 ^ f.val) (by decide)
    exact ⟨(hsends.fld (by decide)).trans (hset.trans (Nat.mod_eq_of_lt hlt)), hsends.lmp, hsends.evt⟩
  case funcStays =>
    rintro s f mask hup ⟨hmask, hen⟩ hfailed
    change s.done (s.when s.evtUp (s.clearFuncs mask.toNat)) = _
    rw [hup, State.when_true, hmask, s.clearFuncs_single f.isLt, s.clearFunc_failed hen hfailed]
    exact s.done_of rfl rfl
  case clearNode =>
    rintro s i e hup ⟨hi, hnode⟩
    change Answers (s.done (s.when s.evtUp (s.clearEntry i.toNat))) _
    rw [hup, State.when_true, answers_done, s.clearEntry_node hi hnode]
    have hsends := LinksSend.clearAtNode (s.dropFailed (fun x => x == e)) e.link (.elemClear e.surface e.lamp e.emitter)
    exact ⟨hsends.lmp, List.contains_iff_mem.2 (State.mem_clears_clearAtNode _ e.link _), hsends.evt⟩
  case clearPort =>
    rintro s i e hup ⟨hi, hnode, hfailed, -, -⟩
    change Answers (s.done (s.when s.evtUp (s.clearEntry i.toNat))) _
    rw [hup, State.when_true, answers_done, s.clearEntry_port hi hnode]
    refine ⟨?_, s.clearPosition_due hfailed, s.clearPosition_evt _ _, s.clearPosition_sent _ _⟩
    exact (s.sigFailed_clearPosition e.port e.pos e.pos).trans (by simp)
  case clear =>
    rintro s n mask hup
    change Answers (s.done (s.when s.evtUp (s.clearPositions n mask.toNat))) _
    rw [hup, State.when_true, answers_done]
    exact s.sigFailed_clearPositions n mask.toNat
  case fault =>
    rintro s l h node surface lamp em res e htalks rfl hnew hfree hroom
    change Answers (s.done (s.when (s.linkTalks l) ((s.rxFrame l h).addFailed _ Src.lmp))) _
    rw [htalks, State.when_true, answers_done]
    obtain ⟨hmem, hevent, hcount⟩ := s.nodeFault_adds l h htalks hnew hfree hroom
    exact ⟨List.contains_iff_mem.2 hmem, hevent, hcount⟩

end Sys2Proof.Machine
end

section
/-! SUPPORT. Scrambling by bits, the lanes' shares of a stream, and a frame's blocks as its receiver reads them, with the statement about
link blocks (R238 to R241). -/

namespace Sys2Proof.Machine

/-! ### Scrambling (R238) -/

/-- Bits sent after a state stand above it. -/
theorem testBit_above {st : Nat} {k : Nat} (hst : st < 2 ^ k) (y i : Nat) :
    (st + y * 2 ^ k).testBit i = if i < k then st.testBit i else y.testBit (i - k) := by
  rw [Nat.add_comm, Nat.mul_comm]
  exact Nat.testBit_two_pow_mul_add y hst i

theorem scrambleChunk_testBit (n st x i : Nat) :
    (scrambleChunk n st x).1.testBit i = (decide (i < n) && (x.testBit i ^^ st.testBit (19 + i) ^^ st.testBit i)) := by
  unfold scrambleChunk
  rw [Nat.testBit_mod_two_pow, Nat.testBit_xor, Nat.testBit_xor, Nat.testBit_shiftRight]

theorem scrambleChunk_lt (n st x : Nat) : (scrambleChunk n st x).1 < 2 ^ n := Nat.mod_lt _ (Nat.two_pow_pos n)

/-- The bits a chunk sends, given those of the state and of all that has been sent since, are the payload's: each state bit that the
scrambler taps is one the descrambler has received by then. -/
theorem scrambleChunk_descrambles {n st x : Nat} (hn : n ≤ 39) (hst : st < 2 ^ 58) {i : Nat} (hi : i < n) (y : Nat) :
    ((scrambleChunk n st x).1.testBit i ^^ (st + y * 2 ^ 58).testBit (19 + i) ^^ (st + y * 2 ^ 58).testBit i) = x.testBit i := by
  rw [scrambleChunk_testBit, testBit_above hst, testBit_above hst, if_pos (by omega), if_pos (by omega), decide_eq_true hi, Bool.true_and]
  cases x.testBit i <;> cases st.testBit (19 + i) <;> cases st.testBit i <;> rfl

/-- A payload's state after its first 39 bits holds those that are left of the state before, and the 39 sent. -/
theorem scrambleChunk_state_lt {n st x : Nat} (hst : st < 2 ^ 58) : (scrambleChunk n st x).2 < 2 ^ 58 := by
  have hc := scrambleChunk_lt n st x
  change (st + (scrambleChunk n st x).1 * 2 ^ 58) / 2 ^ n < 2 ^ 58
  generalize (scrambleChunk n st x).1 = c at hc
  rw [Nat.div_lt_iff_lt_mul (Nat.two_pow_pos n)]
  nlinarith [Nat.two_pow_pos n]

/-- What stands above the first 39 bits sent is the state after them, and the bits sent since. -/
theorem sent_split (st c d : Nat) : (st + (c + d * 2 ^ 39) * 2 ^ 58) / 2 ^ 39 = (st + c * 2 ^ 58) / 2 ^ 39 + d * 2 ^ 58 := by
  omega

/-- A descrambler that stands at the scrambler's state gives the payload back, and stands at its state again. -/
theorem descramble_scramble {st x : Nat} (hst : st < 2 ^ 58) (hx : x < 2 ^ 64) :
    descramble st (scramble st x).1 = (x, (scramble st x).2) := by
  have hfirst := fun i hi => @scrambleChunk_descrambles 39 st (x % 2 ^ 39) le_rfl hst i hi
  have hlow := scrambleChunk_lt 39 st (x % 2 ^ 39)
  have hmid := scrambleChunk_state_lt (n := 39) (x := x % 2 ^ 39) hst
  have hstate : (scrambleChunk 39 st (x % 2 ^ 39)).2 = (st + (scrambleChunk 39 st (x % 2 ^ 39)).1 * 2 ^ 58) / 2 ^ 39 := rfl
  unfold scramble
  dsimp only
  generalize scrambleChunk 39 st (x % 2 ^ 39) = a at *
  have hsecond := fun i hi => @scrambleChunk_descrambles 25 a.2 (x / 2 ^ 39) (by decide) hmid i hi
  have hend : (scrambleChunk 25 a.2 (x / 2 ^ 39)).2 = (a.2 + (scrambleChunk 25 a.2 (x / 2 ^ 39)).1 * 2 ^ 58) / 2 ^ 25 := rfl
  generalize scrambleChunk 25 a.2 (x / 2 ^ 39) = b at *
  have hsplit := sent_split st a.1 b.1
  rw [← hstate] at hsplit
  refine Prod.ext (Nat.eq_of_testBit_eq fun i => ?_) ?_
  · change (_ % 2 ^ 64).testBit i = _
    rw [Nat.testBit_mod_two_pow, Nat.testBit_xor, Nat.testBit_xor, Nat.testBit_shiftRight, testBit_above hlow]
    by_cases h39 : i < 39
    · rw [if_pos h39, hfirst i h39, decide_eq_true (show i < 64 by omega), Nat.testBit_mod_two_pow, decide_eq_true h39]
      rfl
    · by_cases h64 : i < 64
      · obtain ⟨j, rfl⟩ : ∃ j, i = 39 + j := ⟨i - 39, by omega⟩
        have habove : ∀ k, (st + (a.1 + b.1 * 2 ^ 39) * 2 ^ 58).testBit (39 + k) = (a.2 + b.1 * 2 ^ 58).testBit k := fun k => by
          rw [← hsplit, Nat.testBit_div_two_pow, Nat.add_comm k]
        rw [if_neg h39, Nat.add_sub_cancel_left, Nat.add_left_comm, habove, habove, hsecond j (by omega), decide_eq_true h64,
          Nat.testBit_div_two_pow, Nat.add_comm j]
        rfl
      · rw [decide_eq_false h64, Bool.false_and, Nat.testBit_lt_two_pow (hx.trans_le (Nat.pow_le_pow_right (by decide) (by omega)))]
  · change (st + (a.1 + b.1 * 2 ^ 39) * 2 ^ 58) / 2 ^ 64 = b.2
    rw [hend, ← hsplit, Nat.div_div_eq_div_mul, ← Nat.pow_add]

/-- The 64 bits of one payload are more than a descrambler's state holds. -/
theorem descramble_state (st y : Nat) (hst : st < 2 ^ 58) : (descramble st y).2 = y / 2 ^ 6 := by
  change (st + y * 2 ^ 58) / 2 ^ 64 = y / 2 ^ 6
  omega

/-! ### Lanes (R238) -/

/-- Each block of a stream goes to the one logical lane that its place gives. -/
theorem lanePart_lengths (first : Nat) (bs : List Block) :
    (lanePart first 0 bs).length + (lanePart first 1 bs).length = bs.length := by
  unfold lanePart
  suffices h : ∀ n, ((bs.zipIdx n).filterMap (fun b => if (first + b.2) % 2 = 0 then some b.1 else none)).length +
      ((bs.zipIdx n).filterMap (fun b => if (first + b.2) % 2 = 1 then some b.1 else none)).length = bs.length from h 0
  induction bs with
  | nil => intro n; rfl
  | cons b bs ih =>
    intro n
    have hrest := ih (n + 1)
    rw [List.zipIdx_cons, List.filterMap_cons, List.filterMap_cons, List.length_cons]
    rcases Nat.mod_two_eq_zero_or_one (first + n) with h | h
    · simp only [h, reduceIte, List.length_cons, Nat.zero_ne_one]
      omega
    · simp only [h, reduceIte, List.length_cons, Nat.one_ne_zero]
      omega

/-! ### Bytes of a block (R238, R240) -/

theorem bits_leNat_byte (b : List Byte) (k : Nat) : bits (leNat b) (8 * k) 8 = (b.getD k 0).toNat := by
  unfold bits
  induction b generalizing k with
  | nil => simp [leNat]
  | cons x b ih =>
    have hx : x.toNat < 256 := x.isLt
    cases k with
    | zero => simp only [leNat, List.getD_cons_zero]; omega
    | succ k =>
      rw [List.getD_cons_succ, ← ih k, leNat, Nat.mul_succ, Nat.add_comm (8 * k) 8, Nat.pow_add, ← Nat.div_div_eq_div_mul]
      congr 2
      omega

theorem leNat_lt_two_pow {b : List Byte} (h : b.length ≤ 8) : leNat b < 2 ^ 64 :=
  (leNat_lt b).trans_le (Nat.pow_le_pow_right (by decide) h)

/-- A control block reads as its type and the bytes it was made of. -/
theorem controlBlock_payload {type : Nat} {b : List Byte} (ht : type < 256) (hb : b.length ≤ 7) :
    (controlBlock type b).payload.toNat = leNat (BitVec.ofNat 8 type :: b) := by
  have hlt : leNat (BitVec.ofNat 8 type :: b) < 2 ^ 64 := leNat_lt_two_pow (Nat.succ_le_succ hb)
  have htype : (BitVec.ofNat 8 type).toNat = type := Nat.mod_eq_of_lt ht
  rw [leNat, htype] at hlt ⊢
  exact Nat.mod_eq_of_lt hlt

theorem controlBlock_byte {type : Nat} {b : List Byte} (ht : type < 256) (hb : b.length ≤ 7) (k : Nat) :
    (controlBlock type b).byte k = ((BitVec.ofNat 8 type :: b).getD k 0).toNat := by
  unfold Block.byte
  rw [controlBlock_payload ht hb, bits_leNat_byte]

theorem controlBlock_isControl {type : Nat} {b : List Byte} (ht : type < 256) (hb : b.length ≤ 7) (t : Nat) :
    (controlBlock type b).isControl t = (type == t) := by
  unfold Block.isControl
  rw [controlBlock_byte ht hb, List.getD_cons_zero, BitVec.toNat_ofNat, Nat.mod_eq_of_lt ht]
  exact Bool.true_and _

/-- Eight bytes of a data block are those it was made of, and zeros behind them. -/
theorem leBytes_leNat (b : List Byte) (n : Nat) (h : b.length ≤ n) : leBytes n (leNat b) = b ++ zeros (n - b.length) := by
  induction b generalizing n with
  | nil =>
    induction n with
    | zero => rfl
    | succ n ih => exact congrArg ((0 : Byte) :: ·) (ih (Nat.zero_le n))
  | cons x b ih =>
    obtain ⟨n, rfl⟩ : ∃ m, n = m + 1 := ⟨n - 1, by simp at h; omega⟩
    have hx : x.toNat < 256 := x.isLt
    rw [leNat, leBytes, List.length_cons, Nat.add_sub_add_right, List.cons_append]
    congr 1
    · exact BitVec.eq_of_toNat_eq (by simp; omega)
    · rw [← ih n (by simpa using h)]
      congr 1
      omega

theorem dataBlock_bytes {b : List Byte} (h : b.length ≤ 8) : leBytes 8 (dataBlock b).payload.toNat = b ++ zeros (8 - b.length) := by
  have hlt := leNat_lt_two_pow h
  rw [← leBytes_leNat b 8 h]
  exact congrArg (leBytes 8) (Nat.mod_eq_of_lt hlt)

/-- The data blocks of a payload carry its bytes, and zeros behind them. -/
theorem dataBlocks_bytes (n : Nat) (b : List Byte) (h : b.length ≤ 8 * n) :
    ((dataBlocks n b).flatMap (fun d => leBytes 8 d.payload.toNat)).take b.length = b := by
  induction n generalizing b with
  | zero => simp_all [dataBlocks]
  | succ n ih =>
    rw [dataBlocks, List.flatMap_cons, dataBlock_bytes (List.length_take_le 8 b)]
    rcases Nat.le_total b.length 8 with h8 | h8
    · rw [List.take_of_length_le h8, List.append_assoc, List.take_left']
      rfl
    · have hrest := ih (b.drop 8) (by rw [List.length_drop]; omega)
      have hfull : (b.take 8).length = 8 := List.length_take_of_le h8
      rw [hfull, Nat.sub_self]
      change List.take b.length (b.take 8 ++ [] ++ _) = b
      rw [List.append_nil, List.take_append, hfull, List.take_of_length_le (by omega : (b.take 8).length ≤ b.length), ← List.length_drop,
        hrest, List.take_append_drop]

/-! ### A frame as its receiver reads it (R240, R241) -/

/-- The `START` of a frame. -/
def frameStart (type claim lseq len : Nat) : Block :=
  controlBlock btStart (leBytes 1 type ++ leBytes 2 claim ++ leBytes 2 lseq ++ leBytes 2 len)

/-- The data blocks of a frame. -/
def frameBody (payload : List Byte) : List Block := dataBlocks ((payload.length + 7) / 8) payload

theorem frameBlocks_eq (type claim lseq : Nat) (payload : List Byte) : frameBlocks type claim lseq payload =
    frameStart type claim lseq payload.length :: (frameBody payload ++ [controlBlock btTerm (leBytes 4 (frameCrc type claim lseq payload))]) :=
  rfl

theorem frameBody_length (payload : List Byte) : (frameBody payload).length = (payload.length + 7) / 8 := dataBlocks_length _ _

theorem frameBody_bytes (payload : List Byte) :
    ((frameBody payload).flatMap (fun d => leBytes 8 d.payload.toNat)).take payload.length = payload :=
  dataBlocks_bytes _ _ (by omega)

theorem frameBody_isData (payload : List Byte) : ∀ d ∈ frameBody payload, d.isData = true := isData_of_mem_dataBlocks _ _

theorem frameStart_isControl (type claim lseq len : Nat) : (frameStart type claim lseq len).isControl btStart = true :=
  controlBlock_isControl (by decide) (by simp [Tests.leBytes_length]) btStart

/-- A receiver reads the fields of `START` back, each within its width. -/
theorem frameStart_fields (type claim lseq len : Nat) :
    (frameStart type claim lseq len).byte 1 = type % 256 ∧
    (frameStart type claim lseq len).byte 2 + 256 * (frameStart type claim lseq len).byte 3 = claim % 65536 ∧
    (frameStart type claim lseq len).byte 4 + 256 * (frameStart type claim lseq len).byte 5 = lseq % 65536 ∧
    (frameStart type claim lseq len).byte 6 + 256 * (frameStart type claim lseq len).byte 7 = len % 65536 := by
  have hbyte : ∀ k, (frameStart type claim lseq len).byte k = (([BitVec.ofNat 8 btStart, BitVec.ofNat 8 type, BitVec.ofNat 8 claim,
      BitVec.ofNat 8 (claim / 256), BitVec.ofNat 8 lseq, BitVec.ofNat 8 (lseq / 256), BitVec.ofNat 8 len,
      BitVec.ofNat 8 (len / 256)] : List Byte).getD k 0).toNat :=
    controlBlock_byte (by decide) (by simp [Tests.leBytes_length])
  simp only [hbyte, List.getD_cons_succ, List.getD_cons_zero, BitVec.toNat_ofNat, true_and]
  omega

/-- The four bytes of a `TERM` are its check. -/
theorem term_check {c : Nat} (h : c < 2 ^ 32) : bits (controlBlock btTerm (leBytes 4 c)).payload.toNat 8 32 = c := by
  rw [controlBlock_payload (by decide) (by simp [Tests.leBytes_length]), leNat, Tests.leNat_leBytes]
  unfold bits btTerm
  simp
  omega

theorem term_isControl (c : Nat) : (controlBlock btTerm (leBytes 4 c)).isControl btTerm = true :=
  controlBlock_isControl (by decide) (by simp [Tests.leBytes_length]) btTerm

theorem takeWhile_body {body rest : List Block} {x : Block} (hbody : ∀ d ∈ body, d.isData = true) (hx : x.isData = false) :
    (body ++ x :: rest).takeWhile Block.isData = body := by
  rw [List.takeWhile_append_of_pos hbody, List.takeWhile_cons_of_neg (by simp [hx]), List.append_nil]

/-- What a receiver makes of a `START` with data blocks behind it: it keeps the frame where the block behind those is a `TERM`, there are
as many as `LEN` says, `LEN` is in its type's range, and the check holds. -/
theorem frameBad_start (lengths : Nat → Option (Nat × Nat × Nat)) {b x : Block} {body rest : List Block} (hb : b.isControl btStart = true)
    (hbody : ∀ d ∈ body, d.isData = true) (hx : x.isData = false) :
    frameBad lengths (b :: (body ++ x :: rest)) = (!x.isControl btTerm || body.length != (b.byte 6 + 256 * b.byte 7 + 7) / 8 ||
      !lengthFits (lengths (b.byte 1)) (b.byte 6 + 256 * b.byte 7) || bits x.payload.toNat 8 32 != frameCrc (b.byte 1)
        (b.byte 2 + 256 * b.byte 3) (b.byte 4 + 256 * b.byte 5)
        ((body.flatMap (fun d => leBytes 8 d.payload.toNat)).take (b.byte 6 + 256 * b.byte 7))) := by
  unfold frameBad
  dsimp only
  rw [hb, takeWhile_body hbody hx, List.drop_left]
  rfl

/-- A whole frame, but for its check, is kept where `LEN` is in its type's range and the check is right. -/
theorem frameBad_checked (lengths : Nat → Option (Nat × Nat × Nat)) {type c : Nat} (claim lseq : Nat) {payload : List Byte}
    (rest : List Block) (ht : type < 256) (hl : payload.length < 65536) (hcheck : c < 2 ^ 32) :
    frameBad lengths (frameStart type claim lseq payload.length :: (frameBody payload ++ controlBlock btTerm (leBytes 4 c) :: rest)) =
      (!lengthFits (lengths type) payload.length || c != frameCrc type (claim % 65536) (lseq % 65536) payload) := by
  obtain ⟨htype, hclaim, hlseq, hlen⟩ := frameStart_fields type claim lseq payload.length
  rw [frameBad_start lengths (frameStart_isControl type claim lseq payload.length) (frameBody_isData payload) (controlBlock_isData _ _),
    htype, hclaim, hlseq, hlen, Nat.mod_eq_of_lt ht, Nat.mod_eq_of_lt hl, term_isControl, frameBody_length, frameBody_bytes,
    term_check hcheck, bne_self_eq_false]
  rfl

theorem frameCrc_lt (type claim lseq : Nat) (payload : List Byte) : frameCrc type claim lseq payload < 2 ^ 32 := Tests.crc32c_lt _

/-- A frame as it was sent is kept where `LEN` is in its type's range. -/
theorem frameBad_frameBlocks (lengths : Nat → Option (Nat × Nat × Nat)) {type : Nat} (claim lseq : Nat) {payload : List Byte}
    (rest : List Block) (ht : type < 256) (hl : payload.length < 65536) :
    frameBad lengths (frameBlocks type claim lseq payload ++ rest) = (!lengthFits (lengths type) payload.length ||
      frameCrc type claim lseq payload != frameCrc type (claim % 65536) (lseq % 65536) payload) := by
  rw [frameBlocks_eq, List.cons_append, List.append_assoc, List.singleton_append]
  exact frameBad_checked lengths claim lseq rest ht hl (frameCrc_lt type claim lseq payload)

/-- Settles O43: the descrambler undoes the scrambler bit by bit and falls into step, each block has its lane, and a receiver reads the
fields, the payload and the check of a frame back from its blocks. -/
theorem linkBlocksReadBack : Obligations.Link_blocks_read_back := by
  unfold Obligations.Link_blocks_read_back
  refine ⟨?readsBack, ?inStep, lanePart_lengths, ?keeps, ?wrongCheck, ?cutShort, ?wrongLength⟩
  case readsBack =>
    intro st x hst hx
    exact descramble_scramble hst hx
  case inStep =>
    intro st st' y hst hst' _
    rw [descramble_state st y hst, descramble_state st' y hst']
  case keeps =>
    intro lengths type claim lseq payload rest ht hclaim hlseq hl hfits
    rw [frameBad_frameBlocks lengths claim lseq rest ht hl, hfits, Nat.mod_eq_of_lt hclaim, Nat.mod_eq_of_lt hlseq, bne_self_eq_false]
    rfl
  case wrongCheck =>
    intro lengths type claim lseq c payload rest ht hclaim hlseq hl hc hwrong
    have hblocks : (frameBlocks type claim lseq payload).dropLast = frameStart type claim lseq payload.length :: frameBody payload := by
      rw [frameBlocks_eq, ← List.cons_append, List.dropLast_concat]
    rw [hblocks, List.cons_append, frameBad_checked lengths claim lseq rest ht hl hc, Nat.mod_eq_of_lt hclaim, Nat.mod_eq_of_lt hlseq,
      bne_iff_ne.2 hwrong, Bool.or_true]
  case cutShort =>
    intro lengths type claim lseq k payload x rest hk hx hterm
    have hcut : ∀ d ∈ (frameBody payload).take k, d.isData = true := fun d hd => frameBody_isData payload d (List.mem_of_mem_take hd)
    rw [frameBlocks_eq, List.take_succ_cons, List.take_append_of_le_length (by rwa [frameBody_length]), List.cons_append,
      frameBad_start lengths (frameStart_isControl _ _ _ _) hcut hx, hterm]
    rfl
  case wrongLength =>
    intro lengths type claim lseq payload rest ht hl hfits
    rw [frameBad_frameBlocks lengths claim lseq rest ht hl, hfits]
    rfl

end Sys2Proof.Machine
end

section
/-! SUPPORT. What the operations of a link's training leave: nothing sent, no event, and all registers but a few. One relation, with the
rules that build it, and one lemma per operation (R237, R250, R257, R273, R282, R343). -/

namespace Sys2Proof.Machine

variable (s : State)

/-! ### The relation -/

/-- From `s` to `t` nothing is sent and no event is raised: only registers of `W`, and what is kept of links, passes,
frames and in the Prompt Book, change. -/
structure LinkWork (W : Nat → Prop) (s t : State) : Prop where
  parts : t = { s with regs := t.regs, links := t.links, psh := t.psh, frames := t.frames, gone := t.gone, pbk := t.pbk }
  rv : ∀ o, ¬ W o → t.rv o = s.rv o

namespace LinkWork

variable {W : Nat → Prop}

theorem of_regs {t : State} (h : t = { s with regs := t.regs, links := t.links, psh := t.psh, frames := t.frames, gone := t.gone, pbk := t.pbk })
    (hregs : t.regs = s.regs) : LinkWork W s t := ⟨h, fun o _ => State.rv_eq_of_regs hregs o⟩

theorem refl : LinkWork W s s := of_regs s rfl rfl

theorem trans {s t u : State} (h : LinkWork W s t) (h2 : LinkWork W t u) : LinkWork W s u where
  parts := by
    have hparts := h2.parts
    rw [h.parts] at hparts
    exact hparts
  rv := fun o ho => (h2.rv o ho).trans (h.rv o ho)

theorem ite {s t u : State} {p : Prop} [Decidable p] (h : LinkWork W s t) (h2 : LinkWork W s u) : LinkWork W s (if p then t else u) := by
  split
  · exact h
  · exact h2

theorem foldl {α : Type} {f : State → α → State} {as : List α} (hf : ∀ s, ∀ a ∈ as, LinkWork W s (f s a)) (s : State) :
    LinkWork W s (as.foldl f s) := by
  induction as generalizing s with
  | nil => exact refl s
  | cons a as ih => exact (hf s a List.mem_cons_self).trans (ih (fun s b hb => hf s b (List.mem_cons_of_mem _ hb)) _)

theorem mono {V : Nat → Prop} {s t : State} (h : LinkWork V s t) (hVW : ∀ o, V o → W o) : LinkWork W s t :=
  ⟨h.parts, fun o ho => h.rv o fun hV => ho (hVW o hV)⟩

theorem setRv {off : Nat} (v : Nat) (h : W off) : LinkWork W s (s.setRv off v) :=
  ⟨rfl, fun _ ho => s.rv_setRv_other v fun e => ho (e ▸ h)⟩

theorem setFld {f : Fld} (v : Nat) (h : W f.reg) : LinkWork W s (s.setFld f v) := setRv s _ h

theorem updLink (l : Nat) (g : LinkSt → LinkSt) : LinkWork W s (s.updLink l g) := of_regs s rfl rfl
theorem updPush (l : Nat) (g : PushSt → PushSt) : LinkWork W s (s.updPush l g) := of_regs s rfl rfl
theorem updFrame (seq : Nat) (g : FrameRec → FrameRec) : LinkWork W s (s.updFrame seq g) := of_regs s rfl rfl

theorem evt {s t : State} (h : LinkWork W s t) : t.evt = s.evt := by rw [h.parts]
theorem sent {s t : State} (h : LinkWork W s t) : t.sent = s.sent := by rw [h.parts]
theorem time {s t : State} (h : LinkWork W s t) : t.time = s.time := by rw [h.parts]
theorem off {s t : State} (h : LinkWork W s t) : t.off = s.off := by rw [h.parts]
theorem evtUp {s t : State} (h : LinkWork W s t) : t.evtUp = s.evtUp := by rw [h.parts]; rfl

theorem fld {s t : State} (h : LinkWork W s t) {f : Fld} (hf : ¬ W f.reg) : t.fld f = s.fld f := by
  unfold State.fld
  rw [h.rv _ hf]

end LinkWork

/-! ### Leaving `ACTIVE` (R175, R257, R282) -/

/-- Registers that a link leaving `ACTIVE` may write beside its count: calibration states, its lane map, its pass and its claim. -/
def LeaveReg (l o : Nat) : Prop := (∃ m, o = R.CL_CAL_STATE m) ∨ o = R.CL_LANE_MAP l ∨ o = R.PSH_STATE l ∨ o = R.CL_CLAIM l

theorem leaveReg_cal (l m : Nat) : LeaveReg l (R.CL_CAL_STATE m) := .inl ⟨m, rfl⟩
theorem leaveReg_map (l : Nat) : LeaveReg l (R.CL_LANE_MAP l) := .inr (.inl rfl)
theorem leaveReg_push (l : Nat) : LeaveReg l (R.PSH_STATE l) := .inr (.inr (.inl rfl))
theorem leaveReg_claim (l : Nat) : LeaveReg l (R.CL_CLAIM l) := .inr (.inr (.inr rfl))

namespace LinkWork

theorem serveQuad (l n : Nat) : LinkWork (LeaveReg l) s (s.serveQuad n) := by
  unfold State.serveQuad
  split
  · exact ite (refl s) (setFld s (f := F.CL_CAL_STATE.PHASE _) cpRun (leaveReg_cal l _))
  · exact refl s

theorem dropCalibration (l : Nat) : LinkWork (LeaveReg l) s (s.dropCalibration l) := by
  unfold State.dropCalibration
  have hswing : ∀ k, LinkWork (LeaveReg l) s (s.setSwing l dirUp k) := fun k =>
    setFld s (f := F.CL_LANE_MAP.RX_SWING l) k (leaveReg_map l)
  have hcal : ∀ (t : State) (f : Fld), f.reg = R.CL_CAL_STATE l → LinkWork (LeaveReg l) t (t.setFld f 0) := fun t f hf =>
    setFld t 0 (hf ▸ leaveReg_cal l l)
  exact (((((ite (hswing _) (refl s)).trans (hcal _ (F.CL_CAL_STATE.PHASE l) rfl)).trans (hcal _ (F.CL_CAL_STATE.PENDING l) rfl)).trans
    (hcal _ (F.CL_CAL_STATE.MAP_PENDING l) rfl)).trans (updLink _ l _)).trans (serveQuad _ l l)

theorem passEnds (l : Nat) (ok : Bool) : LinkWork (LeaveReg l) s (s.passEnds l ok) :=
  (((updPush s l _).trans (setFld _ (f := F.PSH_STATE.PHASE l) _ (leaveReg_push l))).trans
    (setFld _ (f := F.PSH_STATE.LAST_OK l) _ (leaveReg_push l))).trans (setFld _ (f := F.CL_CLAIM.OWN l) _ (leaveReg_claim l))

theorem skipPass (l : Nat) : LinkWork (LeaveReg l) s (s.skipPass l) := by
  unfold State.skipPass
  split
  · exact updPush s l _
  · exact ((updFrame s _ _).trans ((setFld _ (f := F.PSH_STATE.SKIPPED l) 1 (leaveReg_push l)).trans (updPush _ l _))).trans
      (ite (passEnds _ l true) (refl _))

end LinkWork

/-- Registers of a link's main block that leaving `ACTIVE` does not write: all but its claim. -/
theorem notLeaveReg (l : AnyLink) {o : Nat} (h : 0x1000000 + 0x10000 * l.val ≤ o ∧ o < 0x1000400 + 0x10000 * l.val)
    (hclaim : o ≠ 0x1000024 + 0x10000 * l.val) : ¬ LeaveReg l o := by
  unfold LeaveReg R.CL_CAL_STATE R.CL_LANE_MAP R.PSH_STATE R.CL_CLAIM
  omega

theorem State.leaveActive_idle {l : Nat} (cause : Nat) (h : s.linkActive l = false) : s.leaveActive l cause = s := by
  unfold State.leaveActive
  rw [h, if_neg Bool.false_ne_true]

/-- What a link does as it leaves `ACTIVE`, but for telling of it. -/
def State.dropService (s : State) (l : Nat) : State := ((s.dropCalibration l).skipPass l).bump (F.CL_DOWN_CNT.COUNT l)

theorem State.leaveActive_active {l : Nat} (cause : Nat) (h : s.linkActive l = true) :
    s.leaveActive l cause = (s.dropService l).raise (Src.link l) E.LINK_DOWN [Config.causeCode E.LINK_DOWN cause] := by
  unfold State.leaveActive
  rw [h, if_pos rfl]
  rfl

theorem LinkWork.dropService (l : Nat) : LinkWork (fun o => LeaveReg l o ∨ o = R.CL_DOWN_CNT l) s (s.dropService l) :=
  (((LinkWork.dropCalibration s l).trans (LinkWork.skipPass _ l)).mono fun _ => .inl).trans
    (LinkWork.setFld _ (f := F.CL_DOWN_CNT.COUNT l) _ (.inr rfl))

theorem State.dropService_counts (l : AnyLink) : Counts s (s.dropService l) (F.CL_DOWN_CNT.COUNT l) 1 := by
  have hreg : ¬ LeaveReg l (R.CL_DOWN_CNT l) := notLeaveReg l (by unfold R.CL_DOWN_CNT; omega) (by unfold R.CL_DOWN_CNT; omega)
  have hkept := ((LinkWork.dropCalibration s l).trans (LinkWork.skipPass _ l)).fld (f := F.CL_DOWN_CNT.COUNT l) hreg
  exact (State.counts_bump _ (show 0 + 64 ≤ 64 by decide)).trans (congrArg (fun c => (c + 1) % 2 ^ 64) hkept)

/-- From `s` to `t` a link has left `ACTIVE`: it is counted, and told with its cause where there is room. -/
structure LeftActive (l cause : Nat) (s t : State) : Prop where
  counts : Counts s t (F.CL_DOWN_CNT.COUNT l) 1
  raises : s.evtUp = true → s.hasRoom (Src.link l) = true → Raises s t (Src.link l) E.LINK_DOWN [Config.causeCode E.LINK_DOWN cause]

theorem State.leaveActive_leaves (l : AnyLink) (cause : Nat) (h : s.linkActive l = true) :
    LeftActive l cause s (s.leaveActive l cause) := by
  have hwork := LinkWork.dropService s l
  rw [s.leaveActive_active cause h]
  refine ⟨?_, fun hup hroom => ?_⟩
  · have hcount : R.CL_DOWN_CNT l ∉ eventCounters := by
      unfold eventCounters R.CL_DOWN_CNT R.EVT_SRC_LOST_CNT R.CUR_EVT_LOST_CNT R.GL_EVT_LOST_CNT
      simp only [List.mem_cons, List.not_mem_nil, or_false]
      omega
    have hkept : ((s.dropService l).raise (Src.link l) E.LINK_DOWN [Config.causeCode E.LINK_DOWN cause]).fld (F.CL_DOWN_CNT.COUNT l) =
        (s.dropService l).fld (F.CL_DOWN_CNT.COUNT l) :=
      congrArg (bits · 0 64) (State.raise_rv_of_notMem _ _ _ _ hcount)
    exact hkept.trans (s.dropService_counts l)
  · exact State.raises_after _ _ _ hwork.evt (by rw [hwork.time]) (hwork.evtUp.trans hup) hroom

/-- What follows keeps the count, and raises nothing more. -/
theorem LeftActive.then {l cause : Nat} {s t u : State} (h : LeftActive l cause s t)
    (hcount : u.fld (F.CL_DOWN_CNT.COUNT l) = t.fld (F.CL_DOWN_CNT.COUNT l)) (hevt : u.evt = t.evt) : LeftActive l cause s u where
  counts := hcount.trans h.counts
  raises := fun hup hroom => by
    unfold Raises
    rw [hevt]
    exact h.raises hup hroom

/-! ### The states entered (R250, R257, R273) -/

/-- Registers that a link's training clears as it begins anew: its mailbox's status, its state, its credits. -/
def ClearReg (l o : Nat) : Prop :=
  o = R.CL_CFG_STATUS l ∨ o = R.CL_STATE l ∨ o = R.CL_CRED_ADV l ∨ o = R.CL_CRED_HELD l ∨ o = R.CL_CRED_OUT l

theorem LinkWork.mailboxEnds {W : Nat → Prop} (l result : Nat) (h : W (R.CL_CFG_STATUS l)) : LinkWork W s (s.mailboxEnds l result) :=
  ((LinkWork.setFld s (f := F.CL_CFG_STATUS.BUSY l) _ h).trans (LinkWork.setFld _ (f := F.CL_CFG_STATUS.DONE l) _ h)).trans
    (LinkWork.setFld _ (f := F.CL_CFG_STATUS.RESULT l) _ h)

/-- As a link's training begins anew, requests end, at most with the mailbox's status; then its addresses and credits are cleared. -/
theorem State.linkClear_clears (l : Nat) : ∃ u, LinkWork (· = R.CL_CFG_STATUS l) s u ∧ s.linkClear l =
    (((u.setFld (F.CL_STATE.ADDRS l) 0).setFld (F.CL_CRED_ADV.COUNT l) 0).setFld (F.CL_CRED_HELD.COUNT l) 0).setFld
      (F.CL_CRED_OUT.COUNT l) 0 :=
  ⟨_, (LinkWork.updLink s l _).trans (LinkWork.ite (LinkWork.mailboxEnds _ l 3 rfl) (LinkWork.refl _)), rfl⟩

theorem LinkWork.linkClear (l : Nat) : LinkWork (ClearReg l) s (s.linkClear l) := by
  obtain ⟨u, hu, h⟩ := s.linkClear_clears l
  rw [h]
  exact ((((hu.mono fun _ => .inl).trans (LinkWork.setFld _ (f := F.CL_STATE.ADDRS l) 0 (.inr (.inl rfl)))).trans
    (LinkWork.setFld _ (f := F.CL_CRED_ADV.COUNT l) 0 (.inr (.inr (.inl rfl))))).trans
    (LinkWork.setFld _ (f := F.CL_CRED_HELD.COUNT l) 0 (.inr (.inr (.inr (.inl rfl)))))).trans
    (LinkWork.setFld _ (f := F.CL_CRED_OUT.COUNT l) 0 (.inr (.inr (.inr (.inr rfl)))))

/-- The clearing leaves the state itself, `ABSENT` and `LAST_FAIL`. -/
theorem State.linkClear_state (l : Nat) {f : Fld} (hreg : f.reg = R.CL_STATE l) (hlow : f.lsb + f.width ≤ 8) :
    (s.linkClear l).fld f = s.fld f := by
  obtain ⟨u, hu, h⟩ := s.linkClear_clears l
  have hadv : f.reg ≠ R.CL_CRED_ADV l := by rw [hreg]; unfold R.CL_STATE R.CL_CRED_ADV; omega
  have hheld : f.reg ≠ R.CL_CRED_HELD l := by rw [hreg]; unfold R.CL_STATE R.CL_CRED_HELD; omega
  have hout : f.reg ≠ R.CL_CRED_OUT l := by rw [hreg]; unfold R.CL_STATE R.CL_CRED_OUT; omega
  have hstatus : f.reg ≠ R.CL_CFG_STATUS l := by rw [hreg]; unfold R.CL_STATE R.CL_CFG_STATUS; omega
  rw [h, State.fld_setFld_reg _ _ hout, State.fld_setFld_reg _ _ hheld, State.fld_setFld_reg _ _ hadv,
    State.fld_setFld_apart _ _ hreg (show 8 + 9 ≤ 64 by decide) (.inl hlow)]
  exact hu.fld hstatus

/-- All credits of the link are gone. -/
theorem State.linkClear_credits (l : Nat) : (s.linkClear l).fld (F.CL_CRED_ADV.COUNT l) = 0 ∧
    (s.linkClear l).fld (F.CL_CRED_HELD.COUNT l) = 0 ∧ (s.linkClear l).fld (F.CL_CRED_OUT.COUNT l) = 0 := by
  obtain ⟨u, -, h⟩ := s.linkClear_clears l
  have hzero : ∀ (t : State) (f : Fld), f.lsb + f.width ≤ 64 → (t.setFld f 0).fld f = 0 := fun t f hf =>
    (t.fld_setFld_same f 0 hf).trans (Nat.zero_mod _)
  have hadv : R.CL_CRED_ADV l ≠ R.CL_CRED_HELD l ∧ R.CL_CRED_ADV l ≠ R.CL_CRED_OUT l := by
    unfold R.CL_CRED_ADV R.CL_CRED_HELD R.CL_CRED_OUT; omega
  have hheld : R.CL_CRED_HELD l ≠ R.CL_CRED_OUT l := by unfold R.CL_CRED_HELD R.CL_CRED_OUT; omega
  rw [h]
  refine ⟨?_, ?_, hzero _ _ (show 0 + 16 ≤ 64 by decide)⟩
  · rw [State.fld_setFld_reg _ _ hadv.2, State.fld_setFld_reg _ _ hadv.1, hzero _ _ (show 0 + 16 ≤ 64 by decide)]
  · rw [State.fld_setFld_reg _ _ hheld, hzero _ _ (show 0 + 16 ≤ 64 by decide)]

/-! ### Entering a training state -/

theorem State.linkState_setLinkState (l : Nat) {st : Nat} (h : st < 8) : (s.setLinkState l st).linkState l = st :=
  (s.fld_setFld_same (F.CL_STATE.STATE l) st (show 0 + 3 ≤ 64 by decide)).trans (Nat.mod_eq_of_lt h)

theorem State.linkState_of_active {l : Nat} (h : s.linkActive l = true) : s.linkState l = 7 := beq_iff_eq.1 h

theorem State.linkState_of_regs {s t : State} (h : t.regs = s.regs) (l : Nat) : t.linkState l = s.linkState l :=
  State.fld_eq_of_regs h _

/-- A link enters a state anew: what it had under way is cleared. -/
def State.enter (s : State) (l st : Nat) : State := (s.linkClear l).setLinkState l st

theorem LinkWork.enter (l st : Nat) : LinkWork (ClearReg l) s (s.enter l st) :=
  (LinkWork.linkClear s l).trans (LinkWork.setFld _ (f := F.CL_STATE.STATE l) st (.inr (.inl rfl)))

theorem State.enter_credits (l st : Nat) : (s.enter l st).fld (F.CL_CRED_ADV.COUNT l) = 0 ∧
    (s.enter l st).fld (F.CL_CRED_HELD.COUNT l) = 0 ∧ (s.enter l st).fld (F.CL_CRED_OUT.COUNT l) = 0 := by
  obtain ⟨hadv, hheld, hout⟩ := s.linkClear_credits l
  have hadvReg : R.CL_CRED_ADV l ≠ R.CL_STATE l := by unfold R.CL_CRED_ADV R.CL_STATE; omega
  have hheldReg : R.CL_CRED_HELD l ≠ R.CL_STATE l := by unfold R.CL_CRED_HELD R.CL_STATE; omega
  have houtReg : R.CL_CRED_OUT l ≠ R.CL_STATE l := by unfold R.CL_CRED_OUT R.CL_STATE; omega
  exact ⟨(State.fld_setFld_reg _ _ hadvReg).trans hadv, (State.fld_setFld_reg _ _ hheldReg).trans hheld,
    (State.fld_setFld_reg _ _ houtReg).trans hout⟩

/-- `ABSENT` and `LAST_FAIL` stand. -/
theorem State.enter_state (l st : Nat) {f : Fld} (hreg : f.reg = R.CL_STATE l) (hhigh : 3 ≤ f.lsb) (hlow : f.lsb + f.width ≤ 8) :
    (s.enter l st).fld f = s.fld f :=
  (State.fld_setFld_apart _ (f := F.CL_STATE.STATE l) st hreg (show 0 + 3 ≤ 64 by decide) (.inr hhigh)).trans (s.linkClear_state l hreg hlow)

/-! ### What the lanes carry (R257, R432) -/

@[simp] theorem State.showLanes_regs (l : Nat) : (s.showLanes l).regs = s.regs := rfl
@[simp] theorem State.showLanes_evt (l : Nat) : (s.showLanes l).evt = s.evt := rfl
@[simp] theorem State.showLanes_sent (l : Nat) : (s.showLanes l).sent = s.sent ++ s.laneStreams l 0 0 := rfl

@[simp] theorem State.laneStreams_showLanes (l m flags first : Nat) :
    (s.showLanes l).laneStreams m flags first = s.laneStreams m flags first := rfl
@[simp] theorem State.laneStreams_settle (t : State) (m flags first : Nat) :
    (s.settle t).laneStreams m flags first = t.laneStreams m flags first := rfl

theorem State.showLanes_carries (l : Nat) : (s.showLanes l).laneStreams l 0 0 <:+ (s.showLanes l).sent := by
  rw [State.laneStreams_showLanes, State.showLanes_sent]
  exact List.suffix_append _ _

/-- In `DETECT` the lanes are electrically idle, and no clock is forwarded. -/
theorem State.laneStreams_detect {l : Nat} (hp : s.powered (linkDomain l) = true) (hst : s.linkState l = lkDetect) :
    s.laneStreams l 0 0 = [.lane l 0 .idle, .lane l 1 .idle, .lane l 2 .idle, .txClock l false] := by
  have hidle : ∀ k, s.laneStream l k 0 0 = .idle := fun k => by
    unfold State.laneStream
    rw [hp, hst, if_neg (by decide)]
    split
    · exact if_pos (Or.inr (show lkDetect < lkClock by decide))
    · rw [if_neg (by decide), if_pos (show lkDetect < lkAlign by decide)]
  have hclock : s.clockRuns l = false := by
    unfold State.clockRuns
    rw [hst]
    exact Bool.and_false _
  unfold State.laneStreams
  simp only [hidle, hclock]
  rfl

theorem State.evtUp_of_linkUp {l : Nat} (h : s.linkUp l = true) : s.evtUp = true := by
  unfold State.linkUp at h
  rw [Bool.and_eq_true, Bool.and_eq_true] at h
  exact h.1.2

theorem State.powered_of_linkUp {l : Nat} (h : s.linkUp l = true) : s.powered (linkDomain l) = true := by
  unfold State.linkUp at h
  rw [Bool.and_eq_true, Bool.and_eq_true] at h
  exact h.1.1

/-! ### `DETECT`, `CLOCK` and `DISABLED` (R257, R273) -/

/-- A link's `DETECT`, before its lanes show it. -/
def State.detects (s : State) (l : Nat) : State := (s.enter l lkDetect).updLink l (fun x => { x with absentTold := false })

theorem State.toDetect_eq (l : Nat) : s.toDetect l = (s.detects l).showLanes l := rfl

theorem LinkWork.detects (l : Nat) : LinkWork (ClearReg l) s (s.detects l) := (LinkWork.enter s l lkDetect).trans (LinkWork.updLink _ l _)

theorem State.detects_linkState (l : Nat) : (s.detects l).linkState l = lkDetect :=
  (State.linkState_of_regs (State.updLink_regs _ l _) l).trans ((s.linkClear l).linkState_setLinkState l (by decide))

theorem State.toDetect_linkState (l : Nat) : (s.toDetect l).linkState l = lkDetect := by
  rw [s.toDetect_eq, State.linkState_of_regs (State.showLanes_regs _ l), s.detects_linkState]

theorem State.toDetect_evt (l : Nat) : (s.toDetect l).evt = s.evt := by
  rw [s.toDetect_eq, State.showLanes_evt, (LinkWork.detects s l).evt]

theorem State.toDetect_fld (l : Nat) {f : Fld} (h : ¬ ClearReg l f.reg) : (s.toDetect l).fld f = s.fld f := by
  rw [s.toDetect_eq, State.fld_eq_of_regs (State.showLanes_regs _ l), (LinkWork.detects s l).fld h]

theorem State.toDetect_state (l : Nat) {f : Fld} (hreg : f.reg = R.CL_STATE l) (hhigh : 3 ≤ f.lsb) (hlow : f.lsb + f.width ≤ 8) :
    (s.toDetect l).fld f = s.fld f := by
  rw [s.toDetect_eq, State.fld_eq_of_regs (State.showLanes_regs _ l)]
  exact (State.fld_eq_of_regs (State.updLink_regs _ l _) f).trans (s.enter_state l lkDetect hreg hhigh hlow)

theorem State.toDetect_sent {l : Nat} (hp : s.powered (linkDomain l) = true) :
    (s.toDetect l).sent = s.sent ++ [.lane l 0 .idle, .lane l 1 .idle, .lane l 2 .idle, .txClock l false] := by
  have hwork := LinkWork.detects s l
  have hpowered : (s.detects l).powered (linkDomain l) = true := by
    unfold State.powered at hp ⊢
    rw [hwork.off]
    exact hp
  rw [s.toDetect_eq, State.showLanes_sent, hwork.sent, State.laneStreams_detect _ hpowered (s.detects_linkState l)]

/-- Registers of a link's main block that training does not clear. -/
theorem downCnt_notClearReg (l : Nat) : ¬ ClearReg l (R.CL_DOWN_CNT l) := by
  unfold ClearReg R.CL_DOWN_CNT R.CL_CFG_STATUS R.CL_STATE R.CL_CRED_ADV R.CL_CRED_HELD R.CL_CRED_OUT
  omega

theorem ctrl_notClearReg (l : Nat) : ¬ ClearReg l (R.CL_CTRL l) := by
  unfold ClearReg R.CL_CTRL R.CL_CFG_STATUS R.CL_STATE R.CL_CRED_ADV R.CL_CRED_HELD R.CL_CRED_OUT
  omega

theorem retryCnt_notClearReg (l : Nat) : ¬ ClearReg l (R.CL_RETRY_CNT l) := by
  unfold ClearReg R.CL_RETRY_CNT R.CL_CFG_STATUS R.CL_STATE R.CL_CRED_ADV R.CL_CRED_HELD R.CL_CRED_OUT
  omega

/-- A link that has left `ACTIVE` goes over to `DETECT`. -/
theorem LeftActive.toDetect {l cause : Nat} {s t : State} (h : LeftActive l cause s t) : LeftActive l cause s (t.toDetect l) :=
  h.then (t.toDetect_fld l (downCnt_notClearReg l)) (t.toDetect_evt l)

theorem State.toDetect_credits (l : Nat) : (s.toDetect l).fld (F.CL_CRED_ADV.COUNT l) = 0 ∧
    (s.toDetect l).fld (F.CL_CRED_HELD.COUNT l) = 0 ∧ (s.toDetect l).fld (F.CL_CRED_OUT.COUNT l) = 0 := by
  have hregs : (s.toDetect l).regs = (s.enter l lkDetect).regs := by
    rw [s.toDetect_eq, State.showLanes_regs]
    exact State.updLink_regs _ l _
  rw [State.fld_eq_of_regs hregs, State.fld_eq_of_regs hregs, State.fld_eq_of_regs hregs]
  exact s.enter_credits l lkDetect

/-- A link's `CLOCK`, before its lanes show it. -/
def State.clocks (s : State) (l : Nat) : State := (s.enter l lkClock).defaultDown l

theorem State.toClock_eq (l : Nat) : s.toClock l = (s.clocks l).showLanes l := rfl

theorem LinkWork.defaultDown {W : Nat → Prop} (l : Nat) (h : W (R.CL_LANE_MAP l)) : LinkWork W s (s.defaultDown l) :=
  (((LinkWork.setFld s (f := F.CL_LANE_MAP.TX_L0 l) 0 h).trans (LinkWork.setFld _ (f := F.CL_LANE_MAP.TX_L1 l) 1 h)).trans
    (LinkWork.setFld _ (f := F.CL_LANE_MAP.TX_MIRROR l) 0 h)).trans (LinkWork.setFld _ (f := F.CL_LANE_MAP.TX_SWING l) _ h)

theorem LinkWork.clocks (l : Nat) : LinkWork (fun o => ClearReg l o ∨ o = R.CL_LANE_MAP l) s (s.clocks l) :=
  ((LinkWork.enter s l lkClock).mono fun _ => .inl).trans (LinkWork.defaultDown _ l (.inr rfl))

/-- The down map's default: logical lanes 0 and 1 on their own physical lanes (R273). -/
theorem State.defaultDown_lanes (l : Nat) : (s.defaultDown l).downLane l 0 = 0 ∧ (s.defaultDown l).downLane l 1 = 1 := by
  have hmirror : ∀ (t : State) (v : Nat) {f : Fld}, f.reg = R.CL_LANE_MAP l → f.lsb + f.width ≤ 4 →
      (t.setFld (F.CL_LANE_MAP.TX_MIRROR l) v).fld f = t.fld f := fun t v f hreg hlow =>
    t.fld_setFld_apart v hreg (show 6 + 1 ≤ 64 by decide) (.inl (hlow.trans (show 4 ≤ 6 by decide)))
  have hswing : ∀ (t : State) (v : Nat) {f : Fld}, f.reg = R.CL_LANE_MAP l → f.lsb + f.width ≤ 4 →
      (t.setFld (F.CL_LANE_MAP.TX_SWING l) v).fld f = t.fld f := fun t v f hreg hlow =>
    t.fld_setFld_apart v hreg (show 4 + 2 ≤ 64 by decide) (.inl hlow)
  constructor
  · change State.fld (State.setFld (State.setFld (State.setFld (State.setFld _ _ 0) _ 1) _ 0) _ _) (F.CL_LANE_MAP.TX_L0 l) = 0
    rw [hswing _ _ rfl (show 0 + 2 ≤ 4 by decide), hmirror _ _ rfl (show 0 + 2 ≤ 4 by decide),
      State.fld_setFld_apart _ (f := F.CL_LANE_MAP.TX_L1 l) (g := F.CL_LANE_MAP.TX_L0 l) 1 rfl (show 2 + 2 ≤ 64 by decide)
        (.inl (show 0 + 2 ≤ 2 by decide))]
    exact s.fld_setFld_same (F.CL_LANE_MAP.TX_L0 l) 0 (show 0 + 2 ≤ 64 by decide)
  · change State.fld (State.setFld (State.setFld (State.setFld (State.setFld _ _ 0) _ 1) _ 0) _ _) (F.CL_LANE_MAP.TX_L1 l) = 1
    rw [hswing _ _ rfl (show 2 + 2 ≤ 4 by decide), hmirror _ _ rfl (show 2 + 2 ≤ 4 by decide)]
    exact State.fld_setFld_same _ (F.CL_LANE_MAP.TX_L1 l) 1 (show 2 + 2 ≤ 64 by decide)

theorem state_ne_laneMap (l : Nat) : R.CL_STATE l ≠ R.CL_LANE_MAP l := by unfold R.CL_STATE R.CL_LANE_MAP; omega

theorem State.clocks_state (l : Nat) {f : Fld} (hreg : f.reg = R.CL_STATE l) : (s.clocks l).fld f = (s.enter l lkClock).fld f :=
  (LinkWork.defaultDown (W := (· = R.CL_LANE_MAP l)) (s.enter l lkClock) l rfl).fld (by rw [hreg]; exact state_ne_laneMap l)

theorem State.toClock_linkState (l : Nat) : (s.toClock l).linkState l = lkClock := by
  rw [s.toClock_eq, State.linkState_of_regs (State.showLanes_regs _ l)]
  exact (s.clocks_state l rfl).trans ((s.linkClear l).linkState_setLinkState l (by decide))

theorem State.toClock_evt (l : Nat) : (s.toClock l).evt = s.evt := by
  rw [s.toClock_eq, State.showLanes_evt, (LinkWork.clocks s l).evt]

theorem State.toClock_absent (l : Nat) : (s.toClock l).fld (F.CL_STATE.ABSENT l) = s.fld (F.CL_STATE.ABSENT l) := by
  rw [s.toClock_eq, State.fld_eq_of_regs (State.showLanes_regs _ l), s.clocks_state l rfl]
  exact s.enter_state l lkClock rfl (show 3 ≤ 3 by decide) (show 3 + 1 ≤ 8 by decide)

theorem State.downLane_of_regs {s t : State} (h : t.regs = s.regs) (l x : Nat) : t.downLane l x = s.downLane l x := by
  unfold State.downLane
  rw [State.fld_eq_of_regs h, State.fld_eq_of_regs h]

theorem State.toClock_lanes (l : Nat) : (s.toClock l).downLane l 0 = 0 ∧ (s.toClock l).downLane l 1 = 1 := by
  rw [s.toClock_eq, State.downLane_of_regs (State.showLanes_regs _ l), State.downLane_of_regs (State.showLanes_regs _ l)]
  exact State.defaultDown_lanes _ l

theorem State.toClock_sent (l : Nat) : (s.toClock l).sent = s.sent ++ (s.toClock l).laneStreams l 0 0 := by
  rw [s.toClock_eq, State.laneStreams_showLanes, State.showLanes_sent, (LinkWork.clocks s l).sent]

theorem LeftActive.toClock {l cause : Nat} {s t : State} (h : LeftActive l cause s t) : LeftActive l cause s (t.toClock l) := by
  refine h.then ?_ (t.toClock_evt l)
  have hreg : ¬ (ClearReg l (R.CL_DOWN_CNT l) ∨ R.CL_DOWN_CNT l = R.CL_LANE_MAP l) :=
    not_or.2 ⟨downCnt_notClearReg l, by unfold R.CL_DOWN_CNT R.CL_LANE_MAP; omega⟩
  rw [t.toClock_eq, State.fld_eq_of_regs (State.showLanes_regs _ l)]
  exact (LinkWork.clocks t l).fld hreg

/-- A link's `DISABLED`, before its lanes show it. -/
def State.disables (s : State) (l : Nat) : State :=
  let s := ((s.linkClear l).setFld (F.CL_DELAY.VALUE l) 0).setLinkState l lkDisabled
  ((s.setFld (F.CL_RXL_SETTINGS.PHASE l 0) 0).setFld (F.CL_RXL_SETTINGS.PHASE l 1) 0).updLink l (fun x => { x with fails := 0 })

/-- Registers that `DISABLED` clears. -/
def DisableReg (l o : Nat) : Prop := ClearReg l o ∨ o = R.CL_DELAY l ∨ o = R.CL_RXL_SETTINGS l 0 ∨ o = R.CL_RXL_SETTINGS l 1

theorem LinkWork.disables (l : Nat) : LinkWork (DisableReg l) s (s.disables l) :=
  ((((((LinkWork.linkClear s l).mono fun _ => .inl).trans (LinkWork.setFld _ (f := F.CL_DELAY.VALUE l) 0 (.inr (.inl rfl)))).trans
    (LinkWork.setFld _ (f := F.CL_STATE.STATE l) lkDisabled (.inl (.inr (.inl rfl))))).trans
    (LinkWork.setFld _ (f := F.CL_RXL_SETTINGS.PHASE l 0) 0 (.inr (.inr (.inl rfl))))).trans
    (LinkWork.setFld _ (f := F.CL_RXL_SETTINGS.PHASE l 1) 0 (.inr (.inr (.inr rfl))))).trans
    (LinkWork.updLink _ l fun x => { x with fails := 0 })

theorem State.disables_linkState (l : Nat) : (s.disables l).linkState l = lkDisabled := by
  have h0 : R.CL_STATE l ≠ R.CL_RXL_SETTINGS l 0 := by unfold R.CL_STATE R.CL_RXL_SETTINGS; omega
  have h1 : R.CL_STATE l ≠ R.CL_RXL_SETTINGS l 1 := by unfold R.CL_STATE R.CL_RXL_SETTINGS; omega
  refine (State.linkState_of_regs (State.updLink_regs _ l _) l).trans ?_
  exact (State.fld_setFld_reg _ _ h1).trans ((State.fld_setFld_reg _ _ h0).trans (State.linkState_setLinkState _ l (by decide)))

theorem State.disables_delay (l : Nat) : (s.disables l).fld (F.CL_DELAY.VALUE l) = 0 := by
  have h0 : R.CL_DELAY l ≠ R.CL_RXL_SETTINGS l 0 := by unfold R.CL_DELAY R.CL_RXL_SETTINGS; omega
  have h1 : R.CL_DELAY l ≠ R.CL_RXL_SETTINGS l 1 := by unfold R.CL_DELAY R.CL_RXL_SETTINGS; omega
  have hstate : R.CL_DELAY l ≠ R.CL_STATE l := by unfold R.CL_DELAY R.CL_STATE; omega
  refine (State.fld_eq_of_regs (State.updLink_regs _ l _) _).trans ?_
  exact (State.fld_setFld_reg _ _ h1).trans ((State.fld_setFld_reg _ _ h0).trans ((State.fld_setFld_reg _ _ hstate).trans
    (State.fld_setFld_same _ (F.CL_DELAY.VALUE l) 0 (show 0 + 32 ≤ 64 by decide))))

theorem LeftActive.disables {l cause : Nat} {s t : State} (h : LeftActive l cause s t) :
    LeftActive l cause s ((t.disables l).showLanes l) := by
  have hreg : ¬ DisableReg l (R.CL_DOWN_CNT l) :=
    not_or.2 ⟨downCnt_notClearReg l, by unfold R.CL_DOWN_CNT R.CL_DELAY R.CL_RXL_SETTINGS; omega⟩
  refine h.then ?_ ?_
  · rw [State.fld_eq_of_regs (State.showLanes_regs _ l)]
    exact (LinkWork.disables t l).fld hreg
  · rw [State.showLanes_evt, (LinkWork.disables t l).evt]

end Sys2Proof.Machine
end

section
/-! SUPPORT. What the commands of training do in the cases the statement names: enables, probes, the clock, and the calibrations in `ALIGN`
(R237, R257, R258, R274, R283). -/

namespace Sys2Proof.Machine

variable (s : State)

/-! ### Folds that reach a value once -/

theorem foldl_same {α β : Type} {f : State → α → State} {g : State → β} {as : List α} (h : ∀ t, ∀ a ∈ as, g (f t a) = g t)
    (s : State) : g (as.foldl f s) = g s := by
  induction as generalizing s with
  | nil => rfl
  | cons a as ih => exact (ih (fun t b hb => h t b (List.mem_cons_of_mem _ hb)) _).trans (h s a List.mem_cons_self)

/-- Where only the step for `k` changes a value, a fold over distinct numbers among which `k` is changes it once. -/
theorem foldl_once {α β : Type} {f : State → α → State} {g : State → β} {upd : β → β} {k : α} (hk : ∀ t, g (f t k) = upd (g t))
    {as : List α} (ho : ∀ t, ∀ a ∈ as, a ≠ k → g (f t a) = g t) (hnodup : as.Nodup) (hmem : k ∈ as) (s : State) :
    g (as.foldl f s) = upd (g s) := by
  induction as generalizing s with
  | nil => cases hmem
  | cons a as ih =>
    obtain ⟨hnot, hrest⟩ := List.nodup_cons.1 hnodup
    have hlater : ∀ t, ∀ b ∈ as, b ≠ k → g (f t b) = g t := fun t b hb => ho t b (List.mem_cons_of_mem _ hb)
    rcases List.mem_cons.1 hmem with rfl | hin
    · exact (foldl_same (fun t b hb => hlater t b hb fun e => hnot (e ▸ hb)) _).trans (hk s)
    · have hne : a ≠ k := fun e => hnot (e ▸ hin)
      rw [List.foldl_cons, ih hlater hrest hin, ho s a List.mem_cons_self hne]

/-! ### Enable (R257, R283) -/

/-- A generator and its loop are off. -/
def State.generatorOff (s : State) (l k : Nat) : State := (s.setFld (F.CL_TXL_GEN.EN l k) 0).setFld (F.CL_TXL_GEN.LOOP l k) 0

/-- A checker is off. -/
def State.checkerOff (s : State) (l k : Nat) : State := (s.setFld (F.CL_RXL_CHK.EN l k) 0).setFld (F.CL_RXL_CHK.LOCKED l k) 0

def State.generatorsOff (s : State) (l : Nat) : State := (List.range 3).foldl (fun t k => t.generatorOff l k) s
def State.checkersOff (s : State) (l : Nat) : State := (List.range 2).foldl (fun t k => t.checkerOff l k) s

/-- A link is enabled, and its lane tests end. -/
def State.enables (s : State) (l : Nat) : State := ((s.setFld (F.CL_CTRL.EN l) 1).generatorsOff l).checkersOff l

theorem State.linkEnable_eq (l : Nat) :
    s.linkEnable l = if (s.enables l).linkState l ≠ lkDisabled then s.enables l else (s.enables l).toDetect l := rfl

/-- The registers of the lane tests of a link. -/
def LaneTestReg (l o : Nat) : Prop := (∃ k < 3, o = R.CL_TXL_GEN l k) ∨ ∃ k < 2, o = R.CL_RXL_CHK l k

theorem laneTestReg_range {l o : Nat} (h : LaneTestReg l o) : 0x1008140 + 0x10000 * l ≤ o ∧ o ≤ 0x10084C0 + 0x10000 * l := by
  rcases h with ⟨k, hk, rfl⟩ | ⟨k, hk, rfl⟩
  · unfold R.CL_TXL_GEN; omega
  · unfold R.CL_RXL_CHK; omega

theorem LinkWork.generatorsOff (l : Nat) : LinkWork (fun o => ∃ k < 3, o = R.CL_TXL_GEN l k) s (s.generatorsOff l) :=
  LinkWork.foldl (fun t k hk => (LinkWork.setFld t (f := F.CL_TXL_GEN.EN l k) 0 ⟨k, List.mem_range.1 hk, rfl⟩).trans
    (LinkWork.setFld _ (f := F.CL_TXL_GEN.LOOP l k) 0 ⟨k, List.mem_range.1 hk, rfl⟩)) s

theorem LinkWork.checkersOff (l : Nat) : LinkWork (fun o => ∃ k < 2, o = R.CL_RXL_CHK l k) s (s.checkersOff l) :=
  LinkWork.foldl (fun t k hk => (LinkWork.setFld t (f := F.CL_RXL_CHK.EN l k) 0 ⟨k, List.mem_range.1 hk, rfl⟩).trans
    (LinkWork.setFld _ (f := F.CL_RXL_CHK.LOCKED l k) 0 ⟨k, List.mem_range.1 hk, rfl⟩)) s

theorem LinkWork.enables (l : Nat) : LinkWork (fun o => LaneTestReg l o ∨ o = R.CL_CTRL l) s (s.enables l) :=
  ((LinkWork.setFld s (f := F.CL_CTRL.EN l) 1 (.inr rfl)).trans ((LinkWork.generatorsOff _ l).mono fun _ h => .inl (.inl h))).trans
    ((LinkWork.checkersOff _ l).mono fun _ h => .inl (.inr h))

theorem State.generatorOff_en (l k : Nat) : (s.generatorOff l k).fld (F.CL_TXL_GEN.EN l k) = 0 :=
  (State.fld_setFld_apart _ (f := F.CL_TXL_GEN.LOOP l k) (g := F.CL_TXL_GEN.EN l k) 0 rfl (show 4 + 1 ≤ 64 by decide)
    (.inl (show 0 + 1 ≤ 4 by decide))).trans (s.fld_setFld_same (F.CL_TXL_GEN.EN l k) 0 (show 0 + 1 ≤ 64 by decide))

theorem State.generatorOff_loop (l k : Nat) : (s.generatorOff l k).fld (F.CL_TXL_GEN.LOOP l k) = 0 :=
  State.fld_setFld_same _ (F.CL_TXL_GEN.LOOP l k) 0 (show 4 + 1 ≤ 64 by decide)

theorem State.generatorOff_other (l : Nat) {j k : Nat} (h : j ≠ k) {f : Fld} (hf : f.reg = R.CL_TXL_GEN l k) :
    (s.generatorOff l j).fld f = s.fld f := by
  have hreg : f.reg ≠ R.CL_TXL_GEN l j := by rw [hf]; unfold R.CL_TXL_GEN; omega
  exact (State.fld_setFld_reg (f := F.CL_TXL_GEN.LOOP l j) _ 0 hreg).trans (State.fld_setFld_reg (f := F.CL_TXL_GEN.EN l j) _ 0 hreg)

theorem State.checkerOff_en (l k : Nat) : (s.checkerOff l k).fld (F.CL_RXL_CHK.EN l k) = 0 :=
  (State.fld_setFld_apart _ (f := F.CL_RXL_CHK.LOCKED l k) (g := F.CL_RXL_CHK.EN l k) 0 rfl (show 4 + 1 ≤ 64 by decide)
    (.inl (show 0 + 1 ≤ 4 by decide))).trans (s.fld_setFld_same (F.CL_RXL_CHK.EN l k) 0 (show 0 + 1 ≤ 64 by decide))

theorem State.checkerOff_other (l : Nat) {j k : Nat} (h : j ≠ k) {f : Fld} (hf : f.reg = R.CL_RXL_CHK l k) :
    (s.checkerOff l j).fld f = s.fld f := by
  have hreg : f.reg ≠ R.CL_RXL_CHK l j := by rw [hf]; unfold R.CL_RXL_CHK; omega
  exact (State.fld_setFld_reg (f := F.CL_RXL_CHK.LOCKED l j) _ 0 hreg).trans (State.fld_setFld_reg (f := F.CL_RXL_CHK.EN l j) _ 0 hreg)

theorem State.generatorsOff_en (l : Nat) {k : Nat} (hk : k < 3) : (s.generatorsOff l).fld (F.CL_TXL_GEN.EN l k) = 0 :=
  foldl_once (f := fun t j => t.generatorOff l j) (g := fun t => t.fld (F.CL_TXL_GEN.EN l k)) (upd := fun _ => 0) (k := k)
    (fun t => t.generatorOff_en l k) (fun t _ _ h => t.generatorOff_other l h rfl) List.nodup_range (List.mem_range.2 hk) s

theorem State.generatorsOff_loop (l : Nat) {k : Nat} (hk : k < 3) : (s.generatorsOff l).fld (F.CL_TXL_GEN.LOOP l k) = 0 :=
  foldl_once (f := fun t j => t.generatorOff l j) (g := fun t => t.fld (F.CL_TXL_GEN.LOOP l k)) (upd := fun _ => 0) (k := k)
    (fun t => t.generatorOff_loop l k) (fun t _ _ h => t.generatorOff_other l h rfl) List.nodup_range (List.mem_range.2 hk) s

theorem State.checkersOff_en (l : Nat) {k : Nat} (hk : k < 2) : (s.checkersOff l).fld (F.CL_RXL_CHK.EN l k) = 0 :=
  foldl_once (f := fun t j => t.checkerOff l j) (g := fun t => t.fld (F.CL_RXL_CHK.EN l k)) (upd := fun _ => 0) (k := k)
    (fun t => t.checkerOff_en l k) (fun t _ _ h => t.checkerOff_other l h rfl) List.nodup_range (List.mem_range.2 hk) s

/-- What enabling a link leaves of its control and its lane tests. -/
structure Enabled (l : Nat) (t : State) : Prop where
  en : t.fld (F.CL_CTRL.EN l) = 1
  gen : ∀ k : Fin 3, t.fld (F.CL_TXL_GEN.EN l k) = 0
  loop : ∀ k : Fin 3, t.fld (F.CL_TXL_GEN.LOOP l k) = 0
  chk : ∀ k : Fin 2, t.fld (F.CL_RXL_CHK.EN l k) = 0

theorem State.enables_enabled (l : Nat) : Enabled l (s.enables l) := by
  have hchk := LinkWork.checkersOff ((s.setFld (F.CL_CTRL.EN l) 1).generatorsOff l) l
  have hgen := LinkWork.generatorsOff (s.setFld (F.CL_CTRL.EN l) 1) l
  have hgenReg : ∀ k < 3, ¬ ∃ j < 2, R.CL_TXL_GEN l k = R.CL_RXL_CHK l j := fun k hk => by
    rintro ⟨j, hj, h⟩
    unfold R.CL_TXL_GEN R.CL_RXL_CHK at h
    omega
  have hctrlChk : ¬ ∃ j < 2, R.CL_CTRL l = R.CL_RXL_CHK l j := by
    rintro ⟨j, hj, h⟩
    unfold R.CL_CTRL R.CL_RXL_CHK at h
    omega
  have hctrlGen : ¬ ∃ j < 3, R.CL_CTRL l = R.CL_TXL_GEN l j := by
    rintro ⟨j, hj, h⟩
    unfold R.CL_CTRL R.CL_TXL_GEN at h
    omega
  constructor
  case en =>
    exact (hchk.fld (f := F.CL_CTRL.EN l) hctrlChk).trans ((hgen.fld (f := F.CL_CTRL.EN l) hctrlGen).trans
      (s.fld_setFld_same (F.CL_CTRL.EN l) 1 (show 0 + 1 ≤ 64 by decide)))
  case gen => exact fun k => (hchk.fld (f := F.CL_TXL_GEN.EN l k) (hgenReg k k.isLt)).trans (State.generatorsOff_en _ l k.isLt)
  case loop => exact fun k => (hchk.fld (f := F.CL_TXL_GEN.LOOP l k) (hgenReg k k.isLt)).trans (State.generatorsOff_loop _ l k.isLt)
  case chk => exact fun k => State.checkersOff_en _ l k.isLt

theorem State.enables_linkState (l : Nat) : (s.enables l).linkState l = s.linkState l := by
  have hreg : ¬ (LaneTestReg l (R.CL_STATE l) ∨ R.CL_STATE l = R.CL_CTRL l) := by
    refine not_or.2 ⟨fun h => ?_, by unfold R.CL_STATE R.CL_CTRL; omega⟩
    have := laneTestReg_range h
    unfold R.CL_STATE at this
    omega
  exact (LinkWork.enables s l).fld (f := F.CL_STATE.STATE l) hreg

/-- Registers of the lanes stand apart from what training clears. -/
theorem laneTest_notClearReg {l o : Nat} (h : LaneTestReg l o) : ¬ ClearReg l o := by
  have := laneTestReg_range h
  unfold ClearReg R.CL_CFG_STATUS R.CL_STATE R.CL_CRED_ADV R.CL_CRED_HELD R.CL_CRED_OUT
  omega

/-- A link that detects is as enabled as before. -/
theorem Enabled.toDetect {l : Nat} {t : State} (h : Enabled l t) : Enabled l (t.toDetect l) where
  en := (t.toDetect_fld l (ctrl_notClearReg l)).trans h.en
  gen := fun k => (t.toDetect_fld l (laneTest_notClearReg (.inl ⟨k, k.isLt, rfl⟩))).trans (h.gen k)
  loop := fun k => (t.toDetect_fld l (laneTest_notClearReg (.inl ⟨k, k.isLt, rfl⟩))).trans (h.loop k)
  chk := fun k => (t.toDetect_fld l (laneTest_notClearReg (.inr ⟨k, k.isLt, rfl⟩))).trans (h.chk k)

end Sys2Proof.Machine
end

section
/-! SUPPORT. The calibrations of `ALIGN`: what one counts, and the settings a run finds (R274). -/

namespace Sys2Proof.Machine

variable (s : State)

/-! ### A calibration of one lane -/

/-- Registers a calibration of a return lane writes beside its settings. -/
def RxCalReg (l k o : Nat) : Prop := o = R.CL_RXL_CAL_COUNT l k ∨ o = R.CL_RXL_CAL_LAST l k ∨ o = R.CL_RXL_CAL_REJECT l k
/-- Registers an accepted calibration of a down lane writes. -/
def TxCalReg (l k o : Nat) : Prop := o = R.CL_TXL_CAL_COUNT l k ∨ o = R.CL_TXL_CAL_LAST l k

/-- A calibration is noted for the Prompt Book. -/
def State.noteAccepted (s : State) (l dir k : Nat) : State :=
  { s with pbk := { s.pbk with cal := s.pbk.cal.modify 0 (pbkLane l dir k) (· + 1) } }
def State.noteRejected (s : State) (l dir k : Nat) : State :=
  { s with pbk := { s.pbk with calRej := s.pbk.calRej.modify 0 (pbkLane l dir k) (· + 1) } }

theorem State.calAccepted_up (l k : Nat) : s.calAccepted l dirUp k =
    ((s.noteAccepted l dirUp k).bump (F.CL_RXL_CAL_COUNT.COUNT l k)).setFld (F.CL_RXL_CAL_LAST.HOUSE l k) s.time.house := rfl
theorem State.calAccepted_down (l k : Nat) : s.calAccepted l dirDown k =
    ((s.noteAccepted l dirDown k).bump (F.CL_TXL_CAL_COUNT.COUNT l k)).setFld (F.CL_TXL_CAL_LAST.HOUSE l k) s.time.house := rfl
theorem State.calRejected_up (l k : Nat) :
    s.calRejected l dirUp k = (s.noteRejected l dirUp k).bump (F.CL_RXL_CAL_REJECT.COUNT l k) := rfl

theorem LinkWork.calAccepted_up (l k : Nat) : LinkWork (RxCalReg l k) s (s.calAccepted l dirUp k) := by
  rw [s.calAccepted_up]
  have hnote : LinkWork (RxCalReg l k) s (s.noteAccepted l dirUp k) := LinkWork.of_regs s rfl rfl
  exact (hnote.trans (LinkWork.setFld _ (f := F.CL_RXL_CAL_COUNT.COUNT l k) _ (.inl rfl))).trans
    (LinkWork.setFld _ (f := F.CL_RXL_CAL_LAST.HOUSE l k) _ (.inr (.inl rfl)))

theorem LinkWork.calAccepted_down (l k : Nat) : LinkWork (TxCalReg l k) s (s.calAccepted l dirDown k) := by
  rw [s.calAccepted_down]
  have hnote : LinkWork (TxCalReg l k) s (s.noteAccepted l dirDown k) := LinkWork.of_regs s rfl rfl
  exact (hnote.trans (LinkWork.setFld _ (f := F.CL_TXL_CAL_COUNT.COUNT l k) _ (.inl rfl))).trans
    (LinkWork.setFld _ (f := F.CL_TXL_CAL_LAST.HOUSE l k) _ (.inr rfl))

theorem LinkWork.calRejected_up (l k : Nat) : LinkWork (RxCalReg l k) s (s.calRejected l dirUp k) := by
  rw [s.calRejected_up]
  have hnote : LinkWork (RxCalReg l k) s (s.noteRejected l dirUp k) := LinkWork.of_regs s rfl rfl
  exact hnote.trans (LinkWork.setFld _ (f := F.CL_RXL_CAL_REJECT.COUNT l k) _ (.inr (.inr rfl)))

theorem State.noteAccepted_fld (l dir k : Nat) (f : Fld) : (s.noteAccepted l dir k).fld f = s.fld f := State.fld_eq_of_regs rfl f
theorem State.noteRejected_fld (l dir k : Nat) (f : Fld) : (s.noteRejected l dir k).fld f = s.fld f := State.fld_eq_of_regs rfl f

theorem State.calAccepted_up_counts (l k : Nat) : Counts s (s.calAccepted l dirUp k) (F.CL_RXL_CAL_COUNT.COUNT l k) 1 := by
  have hreg : R.CL_RXL_CAL_COUNT l k ≠ R.CL_RXL_CAL_LAST l k := by unfold R.CL_RXL_CAL_COUNT R.CL_RXL_CAL_LAST; omega
  have hcount := (s.noteAccepted l dirUp k).counts_bump (f := F.CL_RXL_CAL_COUNT.COUNT l k) (show 0 + 32 ≤ 64 by decide)
  unfold Counts at hcount ⊢
  rw [s.calAccepted_up, State.fld_setFld_reg _ _ hreg, hcount, s.noteAccepted_fld]

theorem State.calAccepted_down_counts (l k : Nat) : Counts s (s.calAccepted l dirDown k) (F.CL_TXL_CAL_COUNT.COUNT l k) 1 := by
  have hreg : R.CL_TXL_CAL_COUNT l k ≠ R.CL_TXL_CAL_LAST l k := by unfold R.CL_TXL_CAL_COUNT R.CL_TXL_CAL_LAST; omega
  have hcount := (s.noteAccepted l dirDown k).counts_bump (f := F.CL_TXL_CAL_COUNT.COUNT l k) (show 0 + 32 ≤ 64 by decide)
  unfold Counts at hcount ⊢
  rw [s.calAccepted_down, State.fld_setFld_reg _ _ hreg, hcount, s.noteAccepted_fld]

theorem State.calAccepted_up_last (l k : Nat) :
    (s.calAccepted l dirUp k).fld (F.CL_RXL_CAL_LAST.HOUSE l k) = s.time.house % 2 ^ (F.CL_RXL_CAL_LAST.HOUSE l k).width := by
  rw [s.calAccepted_up]
  exact State.fld_setFld_same _ (F.CL_RXL_CAL_LAST.HOUSE l k) _ (show 0 + 64 ≤ 64 by decide)

theorem State.calRejected_up_counts (l k : Nat) : Counts s (s.calRejected l dirUp k) (F.CL_RXL_CAL_REJECT.COUNT l k) 1 := by
  have hcount := (s.noteRejected l dirUp k).counts_bump (f := F.CL_RXL_CAL_REJECT.COUNT l k) (show 0 + 32 ≤ 64 by decide)
  unfold Counts at hcount ⊢
  rw [s.calRejected_up, hcount, s.noteRejected_fld]

/-! ### The three down lanes -/

theorem LinkWork.alignDown (l : Nat) : LinkWork (fun o => ∃ k < 3, TxCalReg l k o) s (s.alignDown l) :=
  LinkWork.foldl (fun t k hk => (LinkWork.calAccepted_down t l k).mono fun _ h => ⟨k, List.mem_range.1 hk, h⟩) s

theorem State.alignDown_counts (l : Nat) {k : Nat} (hk : k < 3) : Counts s (s.alignDown l) (F.CL_TXL_CAL_COUNT.COUNT l k) 1 := by
  have hother : ∀ j, j ≠ k → ¬ TxCalReg l j (R.CL_TXL_CAL_COUNT l k) := fun j h => by
    unfold TxCalReg R.CL_TXL_CAL_COUNT R.CL_TXL_CAL_LAST
    omega
  exact foldl_once (f := fun t j => t.calAccepted l dirDown j) (g := fun t => t.fld (F.CL_TXL_CAL_COUNT.COUNT l k))
    (upd := fun c => (c + 1) % 2 ^ 32) (k := k) (fun t => t.calAccepted_down_counts l k)
    (fun t j _ h => (LinkWork.calAccepted_down t l j).fld (hother j h)) List.nodup_range (List.mem_range.2 hk) s

/-! ### The settings a run finds -/

/-- A search for the largest ends at one of the indices it saw. -/
theorem largest_lt {n : Nat} (xs : List (Nat × Nat)) (a : Nat × Nat) (hxs : ∀ x ∈ xs, x.2 < n) (ha : a.2 < n) :
    (xs.foldl (fun (a : Nat × Nat) x => if a.1 < x.1 then (x.1, x.2) else a) a).2 < n := by
  induction xs generalizing a with
  | nil => exact ha
  | cons x xs ih =>
    refine ih _ (fun y hy => hxs y (List.mem_cons_of_mem _ hy)) ?_
    dsimp only
    split
    · exact hxs x List.mem_cons_self
    · exact ha

theorem LaneRun.best_lt {r : LaneRun} (h : r.whole = true) : r.best < 512 := by
  have hlen : r.eye.length = 512 := by simpa [LaneRun.whole] using h
  have hindex : ∀ x ∈ r.eye.zipIdx, x.2 < 512 := fun x hx => hlen ▸ List.snd_lt_of_mem_zipIdx hx
  exact largest_lt r.eye.zipIdx (r.eye.headD 0, 0) hindex (show 0 < 512 by decide)

theorem LaneRun.phase_lt {r : LaneRun} {p : Nat} (h : p ∈ r.phases) : p < 64 := by
  unfold LaneRun.phases at h
  dsimp only at h
  split at h
  · exact List.mem_range.1 h
  · obtain ⟨i, -, hi⟩ := List.mem_flatMap.1 (List.mem_dedup.1 h)
    rcases List.mem_pair.1 hi with rfl | rfl
    · exact Nat.mod_lt _ (by decide)
    · exact Nat.mod_lt _ (by decide)

/-- Settings fit their register. -/
theorem LaneRun.settings_lt {r : LaneRun} {p : Nat} (hr : r.whole = true) (hp : p ∈ r.phases) : r.settings p < 2 ^ 64 := by
  have hbest := LaneRun.best_lt hr
  have hphase := LaneRun.phase_lt hp
  have hoffset := r.offset.isLt
  unfold LaneRun.settings
  omega

theorem State.runSettings_single {r : LaneRun} {p : Nat} (h : r.phases = [p]) : s.runSettings r = (s, r.settings p) := by
  unfold State.runSettings
  rw [h]

theorem State.alignCalibration_agrees {a b : LaneRun} {p q : Nat} (l k : Nat) (ha : a.phases = [p]) (hb : b.phases = [q])
    (h : runsAgree (a.settings p) (b.settings q) = true) :
    s.alignCalibration l k a b = (s.calAccepted l dirUp k).setRv (R.CL_RXL_SETTINGS l k) (b.settings q) := by
  unfold State.alignCalibration
  rw [s.runSettings_single ha]
  dsimp only
  rw [s.runSettings_single hb]
  exact if_pos h

theorem State.alignCalibration_differs {a b : LaneRun} {p q : Nat} (l k : Nat) (ha : a.phases = [p]) (hb : b.phases = [q])
    (h : runsAgree (a.settings p) (b.settings q) = false) : s.alignCalibration l k a b = s.calRejected l dirUp k := by
  unfold State.alignCalibration
  rw [s.runSettings_single ha]
  dsimp only
  rw [s.runSettings_single hb]
  exact if_neg (by rw [h]; exact Bool.false_ne_true)

/-! ### Lock on both return lanes (R257) -/

/-- Return lane 0's runs agree on settings `q`. -/
def State.tunesFirst (s : State) (l q : Nat) : State := (s.calAccepted l dirUp 0).setRv (R.CL_RXL_SETTINGS l 0) q

/-- Return lane 1's runs do not; the node's lanes count theirs, and the link is in `RETURN`. -/
def State.tunesNoSecond (s : State) (l : Nat) : State := ((s.calRejected l dirUp 1).alignDown l).setLinkState l lkReturn

def TunesNoSecondReg (l o : Nat) : Prop := RxCalReg l 1 o ∨ (∃ k < 3, TxCalReg l k o) ∨ o = R.CL_STATE l

theorem LinkWork.tunesFirst (l q : Nat) :
    LinkWork (fun o => RxCalReg l 0 o ∨ o = R.CL_RXL_SETTINGS l 0) s (s.tunesFirst l q) :=
  ((LinkWork.calAccepted_up s l 0).mono fun _ => .inl).trans (LinkWork.setRv _ q (.inr rfl))

theorem LinkWork.tunesNoSecond (l : Nat) : LinkWork (TunesNoSecondReg l) s (s.tunesNoSecond l) :=
  (((LinkWork.calRejected_up s l 1).mono fun _ => .inl).trans ((LinkWork.alignDown _ l).mono fun _ h => .inr (.inl h))).trans
    (LinkWork.setFld _ (f := F.CL_STATE.STATE l) lkReturn (.inr (.inr rfl)))

/-- What lock on both lanes leaves, where lane 0's runs agree on settings `q` and lane 1's do not agree. -/
structure LocksFirst (l q : Nat) (s t : State) : Prop where
  state : t.linkState l = lkReturn
  accepted : Counts s t (F.CL_RXL_CAL_COUNT.COUNT l 0) 1
  rejected : Counts s t (F.CL_RXL_CAL_REJECT.COUNT l 1) 1
  settings0 : t.rv (R.CL_RXL_SETTINGS l 0) = q
  settings1 : t.rv (R.CL_RXL_SETTINGS l 1) = s.rv (R.CL_RXL_SETTINGS l 1)
  last : t.fld (F.CL_RXL_CAL_LAST.HOUSE l 0) = s.time.house % 2 ^ (F.CL_RXL_CAL_LAST.HOUSE l 0).width
  down : ∀ k : Fin 3, Counts s t (F.CL_TXL_CAL_COUNT.COUNT l k) 1
  evt : t.evt = s.evt
  sent : t.sent = s.sent

/-- Registers of lane 0 and the settings of lane 1 stand apart from what lane 1's failure writes. -/
theorem notTunesNoSecondReg (l : Nat) {o : Nat} (h : o = R.CL_RXL_CAL_COUNT l 0 ∨ o = R.CL_RXL_CAL_LAST l 0 ∨ o = R.CL_RXL_SETTINGS l 0 ∨
    o = R.CL_RXL_SETTINGS l 1) : ¬ TunesNoSecondReg l o := by
  rintro (hrx | ⟨k, hk, htx⟩ | hstate)
  · unfold RxCalReg R.CL_RXL_CAL_COUNT R.CL_RXL_CAL_LAST R.CL_RXL_CAL_REJECT at hrx
    unfold R.CL_RXL_CAL_COUNT R.CL_RXL_CAL_LAST R.CL_RXL_SETTINGS at h
    omega
  · unfold TxCalReg R.CL_TXL_CAL_COUNT R.CL_TXL_CAL_LAST at htx
    unfold R.CL_RXL_CAL_COUNT R.CL_RXL_CAL_LAST R.CL_RXL_SETTINGS at h
    omega
  · unfold R.CL_STATE at hstate
    unfold R.CL_RXL_CAL_COUNT R.CL_RXL_CAL_LAST R.CL_RXL_SETTINGS at h
    omega

/-- Registers of lane 1, and those of the down lanes, stand apart from what lane 0's calibration writes. -/
theorem notTunesFirstReg (l : Nat) {o : Nat} (h : o = R.CL_RXL_CAL_REJECT l 1 ∨ o = R.CL_RXL_SETTINGS l 1 ∨
    ∃ k < 3, o = R.CL_TXL_CAL_COUNT l k) : ¬ (RxCalReg l 0 o ∨ o = R.CL_RXL_SETTINGS l 0) := by
  unfold RxCalReg R.CL_RXL_CAL_COUNT R.CL_RXL_CAL_LAST R.CL_RXL_CAL_REJECT R.CL_RXL_SETTINGS
  unfold R.CL_RXL_CAL_REJECT R.CL_RXL_SETTINGS R.CL_TXL_CAL_COUNT at h
  rcases h with h | h | ⟨k, hk, h⟩ <;> omega

theorem State.tunesNoSecond_rejected (l : Nat) : Counts s (s.tunesNoSecond l) (F.CL_RXL_CAL_REJECT.COUNT l 1) 1 := by
  have hdown : ¬ ∃ k < 3, TxCalReg l k (R.CL_RXL_CAL_REJECT l 1) := by
    rintro ⟨k, hk, h⟩
    unfold TxCalReg R.CL_TXL_CAL_COUNT R.CL_TXL_CAL_LAST R.CL_RXL_CAL_REJECT at h
    omega
  have hstate : R.CL_RXL_CAL_REJECT l 1 ≠ R.CL_STATE l := by unfold R.CL_RXL_CAL_REJECT R.CL_STATE; omega
  exact (State.fld_setFld_reg _ _ hstate).trans (((LinkWork.alignDown _ l).fld hdown).trans (s.calRejected_up_counts l 1))

theorem State.tunesNoSecond_down (l : Nat) {k : Nat} (hk : k < 3) :
    Counts s (s.tunesNoSecond l) (F.CL_TXL_CAL_COUNT.COUNT l k) 1 := by
  have hstate : R.CL_TXL_CAL_COUNT l k ≠ R.CL_STATE l := by unfold R.CL_TXL_CAL_COUNT R.CL_STATE; omega
  have hrx : ¬ RxCalReg l 1 (R.CL_TXL_CAL_COUNT l k) := by
    unfold RxCalReg R.CL_RXL_CAL_COUNT R.CL_RXL_CAL_LAST R.CL_RXL_CAL_REJECT R.CL_TXL_CAL_COUNT
    omega
  have hkept := (LinkWork.calRejected_up s l 1).fld (f := F.CL_TXL_CAL_COUNT.COUNT l k) hrx
  exact (State.fld_setFld_reg _ _ hstate).trans (((s.calRejected l dirUp 1).alignDown_counts l hk).trans
    (congrArg (fun c => (c + 1) % 2 ^ 32) hkept))

theorem State.tunes_locksFirst (l : Nat) {q : Nat} (hq : q < 2 ^ 64) : LocksFirst l q s ((s.tunesFirst l q).tunesNoSecond l) := by
  have hfirst := LinkWork.tunesFirst s l q
  have hsecond := LinkWork.tunesNoSecond (s.tunesFirst l q) l
  have hsettings : ∀ o, o = R.CL_RXL_CAL_COUNT l 0 ∨ o = R.CL_RXL_CAL_LAST l 0 → o ≠ R.CL_RXL_SETTINGS l 0 := fun o h => by
    unfold R.CL_RXL_CAL_COUNT R.CL_RXL_CAL_LAST at h
    unfold R.CL_RXL_SETTINGS
    omega
  constructor
  case state => exact State.linkState_setLinkState _ l (by decide)
  case accepted =>
    exact (hsecond.fld (f := F.CL_RXL_CAL_COUNT.COUNT l 0) (notTunesNoSecondReg l (.inl rfl))).trans
      (((LinkWork.setRv (W := (· = R.CL_RXL_SETTINGS l 0)) _ q rfl).fld (hsettings _ (.inl rfl))).trans (s.calAccepted_up_counts l 0))
  case rejected =>
    have hkept := hfirst.fld (f := F.CL_RXL_CAL_REJECT.COUNT l 1) (notTunesFirstReg l (.inl rfl))
    exact ((s.tunesFirst l q).tunesNoSecond_rejected l).trans (congrArg (fun c => (c + 1) % 2 ^ 32) hkept)
  case settings0 =>
    exact (hsecond.rv _ (notTunesNoSecondReg l (.inr (.inr (.inl rfl))))).trans
      ((State.rv_setRv_same _ _ q).trans (Nat.mod_eq_of_lt hq))
  case settings1 =>
    exact (hsecond.rv _ (notTunesNoSecondReg l (.inr (.inr (.inr rfl))))).trans (hfirst.rv _ (notTunesFirstReg l (.inr (.inl rfl))))
  case last =>
    exact (hsecond.fld (f := F.CL_RXL_CAL_LAST.HOUSE l 0) (notTunesNoSecondReg l (.inr (.inl rfl)))).trans
      (((LinkWork.setRv (W := (· = R.CL_RXL_SETTINGS l 0)) _ q rfl).fld (hsettings _ (.inr rfl))).trans (s.calAccepted_up_last l 0))
  case down =>
    intro k
    have hkept := hfirst.fld (f := F.CL_TXL_CAL_COUNT.COUNT l k) (notTunesFirstReg l (.inr (.inr ⟨k, k.isLt, rfl⟩)))
    exact ((s.tunesFirst l q).tunesNoSecond_down l k.isLt).trans (congrArg (fun c => (c + 1) % 2 ^ 32) hkept)
  case evt => exact hsecond.evt.trans hfirst.evt
  case sent => exact hsecond.sent.trans hfirst.sent

theorem State.blockLocked_locksFirst {a b c d : LaneRun} {pa pb pc pd : Nat} (l : Nat) (hb : b.whole = true)
    (hpa : a.phases = [pa]) (hpb : b.phases = [pb]) (hpc : c.phases = [pc]) (hpd : d.phases = [pd])
    (hagree : runsAgree (a.settings pa) (b.settings pb) = true) (hdiffer : runsAgree (c.settings pc) (d.settings pd) = false) :
    LocksFirst l (b.settings pb) s (s.blockLocked l a b c d) := by
  have hq : b.settings pb < 2 ^ 64 := LaneRun.settings_lt hb (hpb ▸ List.mem_singleton_self pb)
  have hlanes : s.blockLocked l a b c d = (s.tunesFirst l (b.settings pb)).tunesNoSecond l := by
    unfold State.blockLocked
    rw [State.alignCalibration_differs _ l 1 hpc hpd hdiffer, s.alignCalibration_agrees l 0 hpa hpb hagree]
    rfl
  rw [hlanes]
  exact s.tunes_locksFirst l hq

end Sys2Proof.Machine
end

section
/-! SUPPORT. A link's commands of training: the failures they count, and the statement of their outcomes (R257 to R271). -/

namespace Sys2Proof.Machine

variable (s : State)

/-! ### Completion of a command under its condition -/

/-- What a command leads to under its condition, named so that its facts carry over to what it settles to. -/
theorem answers_when {c : Bool} {t : State} {p : State → Prop} (hc : c = true) (h : ∀ u, u = t → p (s.settle u)) :
    Answers (s.done (s.when c t)) p := by
  rw [hc, s.when_true, answers_done]
  exact h t rfl

theorem done_unless {c : Bool} {t : State} (hc : c = false) : s.done (s.when c t) = .next s := by
  rw [hc]
  exact s.done_of rfl rfl

/-! ### What an event leaves of a link (R451, R454) -/

/-- The window of a link. -/
def LinkReg (l o : Nat) : Prop := 0x1000000 + 0x10000 * l ≤ o ∧ o < 0x1010000 + 0x10000 * l

theorem ctrl_linkReg (l : Nat) : LinkReg l (R.CL_CTRL l) := by unfold LinkReg R.CL_CTRL; omega
theorem state_linkReg (l : Nat) : LinkReg l (R.CL_STATE l) := by unfold LinkReg R.CL_STATE; omega
theorem retryCnt_linkReg (l : Nat) : LinkReg l (R.CL_RETRY_CNT l) := by unfold LinkReg R.CL_RETRY_CNT; omega

/-- No register of a link counts events. -/
theorem linkReg_notMem (l : AnyLink) {o : Nat} (h : LinkReg l o) : o ∉ eventCounters := by
  unfold LinkReg at h
  unfold eventCounters R.EVT_SRC_LOST_CNT R.CUR_EVT_LOST_CNT R.GL_EVT_LOST_CNT
  simp only [List.mem_cons, List.not_mem_nil, or_false]
  omega

theorem State.raise_linkFld (l : AnyLink) (source code : Nat) (args : List Nat) {f : Fld} (h : LinkReg l f.reg) :
    (s.raise source code args).fld f = s.fld f :=
  congrArg (bits · f.lsb f.width) (s.raise_rv_of_notMem source code args (linkReg_notMem l h))

/-- A link's control stands as it leaves `ACTIVE`. -/
theorem State.leaveActive_en (l : AnyLink) (cause : Nat) :
    (s.leaveActive l cause).fld (F.CL_CTRL.EN l) = s.fld (F.CL_CTRL.EN l) := by
  have hreg : ¬ (LeaveReg l (R.CL_CTRL l) ∨ R.CL_CTRL l = R.CL_DOWN_CNT l) :=
    not_or.2 ⟨notLeaveReg l (by unfold R.CL_CTRL; omega) (by unfold R.CL_CTRL; omega), by unfold R.CL_CTRL R.CL_DOWN_CNT; omega⟩
  cases h : s.linkActive l with
  | false => rw [s.leaveActive_idle cause h]
  | true =>
    rw [s.leaveActive_active cause h, State.raise_linkFld _ l _ _ _ (ctrl_linkReg l)]
    exact (LinkWork.dropService s l).fld hreg

/-! ### The way to `DISABLED` -/

/-- `CTRL.EN` is 0, before the link leaves `ACTIVE`. -/
def State.controlOff (s : State) (l : Nat) : State := s.setFld (F.CL_CTRL.EN l) 0

theorem State.controlOff_linkActive (l : Nat) : (s.controlOff l).linkActive l = s.linkActive l := by
  have hreg : R.CL_STATE l ≠ R.CL_CTRL l := by unfold R.CL_STATE R.CL_CTRL; omega
  unfold State.linkActive State.linkState State.controlOff
  rw [s.fld_setFld_reg _ hreg]

theorem State.controlOff_downCnt (l : Nat) : (s.controlOff l).fld (F.CL_DOWN_CNT.COUNT l) = s.fld (F.CL_DOWN_CNT.COUNT l) :=
  s.fld_setFld_reg 0 (by show R.CL_DOWN_CNT l ≠ R.CL_CTRL l; unfold R.CL_DOWN_CNT R.CL_CTRL; omega)

/-- A link goes to `DISABLED`. -/
def State.shutsDown (s : State) (l : Nat) : State := (s.controlOff l).toDisabled l downDisable

theorem State.shutsDown_eq (l : Nat) :
    s.shutsDown l = (((s.controlOff l).leaveActive l downDisable).disables l).showLanes l := rfl

theorem State.shutsDown_linkState (l : Nat) : (s.shutsDown l).linkState l = lkDisabled := by
  rw [s.shutsDown_eq, State.linkState_of_regs (State.showLanes_regs _ l), State.disables_linkState]

theorem State.shutsDown_delay (l : Nat) : (s.shutsDown l).fld (F.CL_DELAY.VALUE l) = 0 := by
  rw [s.shutsDown_eq, State.fld_eq_of_regs (State.showLanes_regs _ l), State.disables_delay]

theorem State.shutsDown_carries (l : Nat) : (s.shutsDown l).laneStreams l 0 0 <:+ (s.shutsDown l).sent := by
  rw [s.shutsDown_eq]
  exact State.showLanes_carries _ l

theorem State.shutsDown_en (l : AnyLink) : (s.shutsDown l).fld (F.CL_CTRL.EN l) = 0 := by
  have hreg : ¬ DisableReg l (R.CL_CTRL l) :=
    not_or.2 ⟨ctrl_notClearReg l, by unfold R.CL_CTRL R.CL_DELAY R.CL_RXL_SETTINGS; omega⟩
  rw [s.shutsDown_eq, State.fld_eq_of_regs (State.showLanes_regs _ l), (LinkWork.disables _ l).fld (f := F.CL_CTRL.EN l) hreg,
    State.leaveActive_en]
  exact s.fld_setFld_same (F.CL_CTRL.EN l) 0 (show 0 + 1 ≤ 64 by decide)

/-- A link that shuts down is in `DISABLED`, whatever it was in before. -/
theorem State.shutsDown_off (l : AnyLink) : (s.shutsDown l).linkState l = lkDisabled ∧ (s.shutsDown l).fld (F.CL_CTRL.EN l) = 0 ∧
    (s.shutsDown l).fld (F.CL_DELAY.VALUE l) = 0 ∧ (s.shutsDown l).laneStreams l 0 0 <:+ (s.shutsDown l).sent :=
  ⟨s.shutsDown_linkState l, s.shutsDown_en l, s.shutsDown_delay l, s.shutsDown_carries l⟩

theorem State.shutsDown_leaves (l : AnyLink) (h : s.linkActive l = true) : LeftActive l downDisable s (s.shutsDown l) := by
  have hactive := (s.controlOff_linkActive l).trans h
  obtain ⟨hcounts, hraises⟩ := ((s.controlOff l).leaveActive_leaves l downDisable hactive).disables
  rw [s.shutsDown_eq]
  exact ⟨hcounts.trans (congrArg (fun c => (c + 1) % 2 ^ 64) (s.controlOff_downCnt l)), hraises⟩

theorem State.shutsDown_idle (l : Nat) (h : s.linkActive l = false) : (s.shutsDown l).evt = s.evt ∧
    (s.shutsDown l).fld (F.CL_DOWN_CNT.COUNT l) = s.fld (F.CL_DOWN_CNT.COUNT l) := by
  have hidle := (s.controlOff_linkActive l).trans h
  have hreg : ¬ DisableReg l (R.CL_DOWN_CNT l) :=
    not_or.2 ⟨downCnt_notClearReg l, by unfold R.CL_DOWN_CNT R.CL_DELAY R.CL_RXL_SETTINGS; omega⟩
  have hwork := LinkWork.disables (s.controlOff l) l
  rw [s.shutsDown_eq, State.leaveActive_idle _ _ hidle]
  refine ⟨(State.showLanes_evt _ l).trans hwork.evt, ?_⟩
  rw [State.fld_eq_of_regs (State.showLanes_regs _ l)]
  exact (hwork.fld (f := F.CL_DOWN_CNT.COUNT l) hreg).trans (s.controlOff_downCnt l)

/-! ### Failures of training -/

/-- A link's training ends, counted in `RETRY_CNT`, after `t`: the event is raised, and the link is in `DETECT`. -/
structure TrainingEnds (l : AnyLink) (code st : Nat) (s t : State) : Prop where
  state : t.linkState l = lkDetect
  counts : Counts s t (F.CL_RETRY_CNT.COUNT l) 1
  raises : s.evtUp = true → s.hasRoom (Src.link l) = true → Raises s t (Src.link l) code [st]

/-- Counting, other work that keeps the count, an event, and `DETECT`. -/
theorem LinkWork.trainingEnds {W : Nat → Prop} {l : AnyLink} (code st : Nat) {s t : State}
    (h : LinkWork W (s.bump (F.CL_RETRY_CNT.COUNT l)) t) (hW : ¬ W (R.CL_RETRY_CNT l)) :
    TrainingEnds l code st s ((t.raise (Src.link l) code [st]).toDetect l) where
  state := State.toDetect_linkState _ l
  counts := by
    have hcount := s.counts_bump (f := F.CL_RETRY_CNT.COUNT l) (show 0 + 64 ≤ 64 by decide)
    unfold Counts at hcount ⊢
    rw [State.toDetect_fld _ _ (f := F.CL_RETRY_CNT.COUNT l) (retryCnt_notClearReg l),
      State.raise_linkFld _ l _ _ _ (retryCnt_linkReg l), h.fld hW, hcount]
  raises := fun hup hroom => by
    unfold Raises
    rw [State.toDetect_evt]
    exact State.raises_after _ _ _ h.evt (congrArg TimeSt.house h.time) (h.evtUp.trans hup) hroom

/-- What is counted and noted of a failure before it is told. -/
def State.notesFailure (s : State) (l : Nat) : State :=
  ((s.bump (F.CL_RETRY_CNT.COUNT l)).setFld (F.CL_STATE.LAST_FAIL l) (s.linkState l)).updLink l (fun x => { x with fails := x.fails + 1 })

theorem State.trainFail_eq (l : Nat) :
    s.trainFail l = ((s.notesFailure l).raise (Src.link l) E.LINK_TRAIN_FAIL [s.linkState l]).toDetect l := rfl

theorem LinkWork.notesFailure (l : Nat) :
    LinkWork (· = R.CL_STATE l) (s.bump (F.CL_RETRY_CNT.COUNT l)) (s.notesFailure l) :=
  (LinkWork.setFld (W := (· = R.CL_STATE l)) _ (f := F.CL_STATE.LAST_FAIL l) (s.linkState l) rfl).trans
    (LinkWork.updLink _ l fun x => { x with fails := x.fails + 1 })

theorem State.trainFail_ends (l : AnyLink) : TrainingEnds l E.LINK_TRAIN_FAIL (s.linkState l) s (s.trainFail l) := by
  rw [s.trainFail_eq]
  exact (LinkWork.notesFailure s l).trainingEnds _ _ (by show R.CL_RETRY_CNT l ≠ R.CL_STATE l; unfold R.CL_RETRY_CNT R.CL_STATE; omega)

theorem State.trainFail_lastFail (l : AnyLink) : (s.trainFail l).fld (F.CL_STATE.LAST_FAIL l) = s.linkState l := by
  rw [s.trainFail_eq, State.toDetect_state _ l rfl (show 3 ≤ 4 by decide) (show 4 + 3 ≤ 8 by decide),
    State.raise_linkFld _ l _ _ _ (state_linkReg l)]
  refine (State.fld_eq_of_regs (State.updLink_regs _ l _) _).trans ?_
  exact (State.fld_setFld_same _ (F.CL_STATE.LAST_FAIL l) _ (show 4 + 3 ≤ 64 by decide)).trans
    (Nat.mod_eq_of_lt (s.fld_lt (F.CL_STATE.STATE l)))

theorem State.trainFail_sent {l : Nat} (hp : s.powered (linkDomain l) = true) :
    (s.trainFail l).sent = s.sent ++ [.lane l 0 .idle, .lane l 1 .idle, .lane l 2 .idle, .txClock l false] := by
  have hwork := LinkWork.notesFailure s l
  have hoff : ((s.notesFailure l).raise (Src.link l) E.LINK_TRAIN_FAIL [s.linkState l]).off = s.off :=
    (State.raise_off _ _ _ _).trans hwork.off
  have hpowered : ((s.notesFailure l).raise (Src.link l) E.LINK_TRAIN_FAIL [s.linkState l]).powered (linkDomain l) = true := by
    unfold State.powered at hp ⊢
    rw [hoff]
    exact hp
  rw [s.trainFail_eq, State.toDetect_sent _ hpowered, State.raise_sent, hwork.sent]
  rfl

theorem State.unplug_ends (l : AnyLink) : TrainingEnds l E.LINK_UNPLUG (s.linkState l) s (s.unplug l) :=
  (LinkWork.refl (W := fun _ => False) (s.bump (F.CL_RETRY_CNT.COUNT l))).trainingEnds _ _ id

/-! ### Enabling, probes, and the way through `ALIGN` -/

/-- A link enabled in `DISABLED` is in `DETECT`, its lane tests ended. -/
theorem State.linkEnable_disabled {l : Nat} (h : s.linkState l = lkDisabled) : s.linkEnable l = (s.enables l).toDetect l := by
  rw [s.linkEnable_eq, if_neg (not_not.2 ((s.enables_linkState l).trans h))]

theorem State.linkEnable_again {l : Nat} (h : s.linkState l ≠ lkDisabled) : s.linkEnable l = s.enables l := by
  rw [s.linkEnable_eq, if_pos (by rwa [s.enables_linkState l])]

theorem State.enables_toDetect_sent {l : Nat} (hp : s.powered (linkDomain l) = true) :
    ((s.enables l).toDetect l).sent = s.sent ++ [.lane l 0 .idle, .lane l 1 .idle, .lane l 2 .idle, .txClock l false] := by
  have hwork := LinkWork.enables s l
  have hpowered : (s.enables l).powered (linkDomain l) = true := by
    unfold State.powered at hp ⊢
    rw [hwork.off]
    exact hp
  rw [State.toDetect_sent _ hpowered, hwork.sent]

/-- A miss is marked, and told once where a partner is expected. -/
def State.marksMiss (s : State) (l : Nat) : State :=
  (s.setFld (F.CL_STATE.ABSENT l) 1).updLink l (fun x => { x with absentTold := true })

theorem State.probeMiss_told {l : Nat} (htold : (s.link l).absentTold = false) (hexpected : s.flag (F.CL_CTRL.EXPECTED l) = true) :
    s.probeMiss l = (s.marksMiss l).raise (Src.link l) E.LINK_ABSENT [] := by
  unfold State.probeMiss
  rw [htold, hexpected]
  rfl

theorem LinkWork.marksMiss (l : Nat) : LinkWork (· = R.CL_STATE l) s (s.marksMiss l) :=
  (LinkWork.setFld (W := (· = R.CL_STATE l)) s (f := F.CL_STATE.ABSENT l) 1 rfl).trans
    (LinkWork.updLink _ l fun x => { x with absentTold := true })

theorem State.marksMiss_absent (l : Nat) : (s.marksMiss l).fld (F.CL_STATE.ABSENT l) = 1 :=
  (State.fld_eq_of_regs (State.updLink_regs _ l _) _).trans (s.fld_setFld_same (F.CL_STATE.ABSENT l) 1 (show 3 + 1 ≤ 64 by decide))

theorem State.marksMiss_linkState (l : Nat) : (s.marksMiss l).linkState l = s.linkState l :=
  (State.linkState_of_regs (State.updLink_regs _ l _) l).trans
    (s.fld_setFld_apart (f := F.CL_STATE.ABSENT l) (g := F.CL_STATE.STATE l) 1 rfl (show 3 + 1 ≤ 64 by decide)
      (.inl (show 0 + 3 ≤ 3 by decide)))

theorem State.marksMiss_told (l : Nat) : ((s.marksMiss l).link l).absentTold = true := by
  unfold State.marksMiss
  rw [State.link_updLink]

/-- What the first missed probe of an expected partner leaves. -/
theorem State.probeMiss_misses (l : AnyLink) (htold : (s.link l).absentTold = false) (hexpected : s.flag (F.CL_CTRL.EXPECTED l) = true) :
    (s.probeMiss l).linkState l = s.linkState l ∧ (s.probeMiss l).fld (F.CL_STATE.ABSENT l) = 1 ∧
    (s.evtUp = true → s.hasRoom (Src.link l) = true → Raises s (s.probeMiss l) (Src.link l) E.LINK_ABSENT []) ∧
    ((s.probeMiss l).link l).absentTold = true ∧ (s.probeMiss l).sent = s.sent := by
  have hwork := LinkWork.marksMiss s l
  rw [s.probeMiss_told htold hexpected]
  refine ⟨?_, ?_, fun hup hroom => ?_, ?_, ?_⟩
  · exact (State.raise_linkFld _ l _ _ _ (f := F.CL_STATE.STATE l) (state_linkReg l)).trans (s.marksMiss_linkState l)
  · exact (State.raise_linkFld _ l _ _ _ (state_linkReg l)).trans (s.marksMiss_absent l)
  · exact State.raises_after _ _ _ hwork.evt (congrArg TimeSt.house hwork.time) (hwork.evtUp.trans hup) hroom
  · exact (congrArg (fun ls => (FMap.get linkReset ls l).absentTold) (State.raise_links _ _ _ _)).trans (s.marksMiss_told l)
  · rw [State.raise_sent, hwork.sent]

/-- The phases of both lanes are set, and the link is in `ALIGN`; its lanes do not show it yet. -/
def State.locksPhases (s : State) (l p q : Nat) : State :=
  ((s.setFld (F.CL_RXL_SETTINGS.PHASE l 0) p).setFld (F.CL_RXL_SETTINGS.PHASE l 1) q).setLinkState l lkAlign

theorem State.clockLocked_eq (l p q : Nat) : s.clockLocked l p q = (s.locksPhases l p q).showAlign l 0 := rfl

theorem State.locksPhases_phase0 (l : Nat) {p : Nat} (q : Nat) (hp : p < 64) :
    (s.locksPhases l p q).fld (F.CL_RXL_SETTINGS.PHASE l 0) = p := by
  have hstate : R.CL_RXL_SETTINGS l 0 ≠ R.CL_STATE l := by unfold R.CL_RXL_SETTINGS R.CL_STATE; omega
  have hlane : R.CL_RXL_SETTINGS l 0 ≠ R.CL_RXL_SETTINGS l 1 := by unfold R.CL_RXL_SETTINGS; omega
  exact (State.fld_setFld_reg _ _ hstate).trans ((State.fld_setFld_reg _ _ hlane).trans
    ((s.fld_setFld_same (F.CL_RXL_SETTINGS.PHASE l 0) p (show 16 + 6 ≤ 64 by decide)).trans (Nat.mod_eq_of_lt hp)))

theorem State.locksPhases_phase1 (l p : Nat) {q : Nat} (hq : q < 64) :
    (s.locksPhases l p q).fld (F.CL_RXL_SETTINGS.PHASE l 1) = q := by
  have hstate : R.CL_RXL_SETTINGS l 1 ≠ R.CL_STATE l := by unfold R.CL_RXL_SETTINGS R.CL_STATE; omega
  exact (State.fld_setFld_reg _ _ hstate).trans
    ((State.fld_setFld_same _ (F.CL_RXL_SETTINGS.PHASE l 1) q (show 16 + 6 ≤ 64 by decide)).trans (Nat.mod_eq_of_lt hq))

theorem State.showAlign_sent (l flags : Nat) :
    (s.showAlign l flags).sent = s.sent ++ (s.showAlign l flags).laneStreams l flags (s.freeVal % 65536) := rfl
theorem State.showAlign_regs (l flags : Nat) : (s.showAlign l flags).regs = s.regs := rfl
theorem State.showAlign_evt (l flags : Nat) : (s.showAlign l flags).evt = s.evt := rfl

theorem LinkWork.locksPhases (l p q : Nat) : LinkWork (fun _ => True) s (s.locksPhases l p q) :=
  ((LinkWork.setFld s (f := F.CL_RXL_SETTINGS.PHASE l 0) p trivial).trans
    (LinkWork.setFld _ (f := F.CL_RXL_SETTINGS.PHASE l 1) q trivial)).trans (LinkWork.setFld _ (f := F.CL_STATE.STATE l) lkAlign trivial)

theorem LinkWork.freeVal {W : Nat → Prop} {s t : State} (h : LinkWork W s t) : t.freeVal = s.freeVal := by rw [h.parts]; rfl

/-- What a locked clock leaves: the phases, `ALIGN`, and what its lanes carry. -/
theorem State.clockLocked_aligns (l : Nat) {p q : Nat} (hp : p < 64) (hq : q < 64) :
    (s.clockLocked l p q).linkState l = lkAlign ∧ (s.clockLocked l p q).fld (F.CL_RXL_SETTINGS.PHASE l 0) = p ∧
    (s.clockLocked l p q).fld (F.CL_RXL_SETTINGS.PHASE l 1) = q ∧
    (s.clockLocked l p q).sent = s.sent ++ (s.clockLocked l p q).laneStreams l 0 (s.freeVal % 65536) ∧
    (s.clockLocked l p q).evt = s.evt := by
  have hregs := (s.locksPhases l p q).showAlign_regs l 0
  have hwork := LinkWork.locksPhases s l p q
  rw [s.clockLocked_eq]
  refine ⟨?_, ?_, ?_, ?_, ?_⟩
  · exact (State.linkState_of_regs hregs l).trans (State.linkState_setLinkState _ l (by decide))
  · exact (State.fld_eq_of_regs hregs _).trans (s.locksPhases_phase0 l q hp)
  · exact (State.fld_eq_of_regs hregs _).trans (s.locksPhases_phase1 l p hq)
  · rw [State.showAlign_sent, hwork.sent, hwork.freeVal]
  · rw [State.showAlign_evt, hwork.evt]

/-- What follows `ALIGN` in `DELAY`: numbers and echoes begin anew. -/
def State.beginsDelay (s : State) (l : Nat) : State :=
  (s.setLinkState l lkDelay).updLink l
    (fun x => { x with rejects := 0, echoSent := 0, echoTags := [], echoVals := [], txSeq := 0, rxSeq := 0 })

theorem State.alignClean_returns {l : Nat} (hnode : s.nodeSide l = false) (h : s.linkState l = lkReturn) :
    s.alignClean l = (s.beginsDelay l).showLanes l := by
  unfold State.alignClean
  rw [hnode, if_neg Bool.false_ne_true, if_pos h]
  rfl

theorem State.alignClean_node {l : Nat} (hnode : s.nodeSide l = true) (h : s.linkState l = lkAlign) :
    s.alignClean l = s.showAlign l 3 := by
  unfold State.alignClean
  rw [hnode, if_pos rfl, if_pos h]

theorem State.beginsDelay_linkState (l : Nat) : (s.beginsDelay l).linkState l = lkDelay :=
  (State.linkState_of_regs (State.updLink_regs _ l _) l).trans (s.linkState_setLinkState l (by decide))

theorem State.beginsDelay_link (l : Nat) : (s.beginsDelay l).link l =
    { s.link l with rejects := 0, echoSent := 0, echoTags := [], echoVals := [], txSeq := 0, rxSeq := 0 } :=
  State.link_updLink (s.setLinkState l lkDelay) l _

theorem State.training_eq_true {l : Nat} (h : lkClock ≤ s.linkState l ∧ s.linkState l ≤ lkIdent) : s.training l = true := decide_eq_true h

theorem State.training_of_active {l : Nat} (h : s.linkActive l = true) : s.training l = false := by
  unfold State.training
  rw [s.linkState_of_active h]
  rfl

end Sys2Proof.Machine
end
section
/-! SETTLED. Link states from `DISABLED` to `DELAY`, and every way back (R257 to R271). -/

namespace Sys2Proof.Machine

/-- Settles O37, by what each training state's entry leaves, and one lemma for the departure from `ACTIVE`. -/
theorem linkTraining : Obligations.Link_training := by
  unfold Obligations.Link_training
  refine ⟨?enable, ?enableAgain, ?disable, ?disableIdle, ?retrain, ?retrainIgnored, ?found, ?missed, ?clockLocked, ?blockLock, ?alignClean,
    ?alignCleanNode, ?timeLimit, ?lostTraining, ?lostActive, ?lockLoss⟩
  case enable =>
    intro s l hup hst
    have henabled := (s.enables_enabled l).toDetect
    have hstate := (s.enables l).toDetect_linkState l
    have hsent := s.enables_toDetect_sent (State.powered_of_linkUp s hup)
    have hevt := ((s.enables l).toDetect_evt l).trans (LinkWork.enables s l).evt
    change Answers (s.done (s.when (s.linkUp l) (s.linkEnable l))) _
    rw [s.linkEnable_disabled hst]
    refine answers_when s hup fun t ht => ?_
    rw [← ht] at henabled hstate hsent hevt
    exact ⟨hstate, henabled.en, henabled.gen, henabled.chk, hsent, hevt⟩
  case enableAgain =>
    intro s l hup hst
    have henabled := s.enables_enabled l
    have hwork := LinkWork.enables s l
    have hstate := s.enables_linkState l
    change Answers (s.done (s.when (s.linkUp l) (s.linkEnable l))) _
    rw [s.linkEnable_again hst]
    refine answers_when s hup fun t ht => ?_
    rw [← ht] at henabled hwork hstate
    exact ⟨hstate, henabled.en, fun k => ⟨henabled.gen k, henabled.loop k⟩, henabled.chk, hwork.sent, hwork.evt⟩
  case disable =>
    rintro s l hup ⟨hactive, hroom⟩
    have hleft := s.shutsDown_leaves l hactive
    obtain ⟨hstate, hen, hdelay, hlanes⟩ := s.shutsDown_off l
    change Answers (s.done (s.when (s.linkUp l) (s.shutsDown l))) _
    refine answers_when s hup fun t ht => ?_
    rw [← ht] at hleft hstate hen hdelay hlanes
    exact ⟨hstate, hen, hdelay, hlanes, hleft.counts,
      hleft.raises (State.evtUp_of_linkUp s hup) hroom⟩
  case disableIdle =>
    intro s l hup hidle
    obtain ⟨hevt, hcount⟩ := s.shutsDown_idle l hidle
    obtain ⟨hstate, hen, hdelay, hlanes⟩ := s.shutsDown_off l
    change Answers (s.done (s.when (s.linkUp l) (s.shutsDown l))) _
    refine answers_when s hup fun t ht => ?_
    rw [← ht] at hevt hcount hstate hen hdelay hlanes
    exact ⟨hstate, hen, hdelay, hlanes, hevt, hcount⟩
  case retrain =>
    rintro s l hup ⟨hactive, hroom⟩
    have hleft := (s.leaveActive_leaves l downRetrain hactive).toClock
    have hactive' : s.linkState l = 7 := s.linkState_of_active hactive
    have hstate := (s.leaveActive l downRetrain).toClock_linkState l
    have hsent := (s.leaveActive l downRetrain).toClock_sent l
    change Answers (s.done (s.when (s.linkUp l && decide (lkClock ≤ s.linkState l)) ((s.leaveActive l downRetrain).toClock l))) _
    refine answers_when s (by rw [hup, hactive']; rfl) fun t ht => ?_
    rw [← ht] at hleft hstate hsent
    refine ⟨hstate, hleft.counts, ?_, hleft.raises (State.evtUp_of_linkUp s hup) hroom⟩
    rw [State.laneStreams_settle, State.settle_sent, hsent]
    exact List.suffix_append _ _
  case retrainIgnored =>
    intro s l hup hst
    change s.done (s.when (s.linkUp l && decide (lkClock ≤ s.linkState l)) _) = _
    exact done_unless s (by rw [decide_eq_false (Nat.not_le.2 hst), Bool.and_false])
  case found =>
    intro s l hup hst
    have hzero := s.fld_setFld_same (F.CL_STATE.ABSENT l) 0 (show 3 + 1 ≤ 64 by decide)
    have habsent := ((s.setFld (F.CL_STATE.ABSENT l) 0).toClock_absent l).trans hzero
    have hstate := (s.setFld (F.CL_STATE.ABSENT l) 0).toClock_linkState l
    have hsent := (s.setFld (F.CL_STATE.ABSENT l) 0).toClock_sent l
    have hevt := (s.setFld (F.CL_STATE.ABSENT l) 0).toClock_evt l
    obtain ⟨hlane0, hlane1⟩ := (s.setFld (F.CL_STATE.ABSENT l) 0).toClock_lanes l
    change Answers (s.done (s.when (s.linkUp l && s.linkState l == lkDetect) ((s.setFld (F.CL_STATE.ABSENT l) 0).toClock l))) _
    refine answers_when s (by rw [hup, hst]; rfl) fun t ht => ?_
    rw [← ht] at habsent hstate hsent hevt hlane0 hlane1
    exact ⟨hstate, habsent, hlane0, hlane1, hsent, hevt⟩
  case missed =>
    rintro s l hup ⟨hst, htold, hexpected⟩ hroom
    obtain ⟨hstate, habsent, hraises, hagain, hsent⟩ := s.probeMiss_misses l htold hexpected
    change Answers (s.done (s.when (s.linkUp l && s.linkState l == lkDetect) (s.probeMiss l))) _
    refine answers_when s (by rw [hup, hst]; rfl) fun t ht => ?_
    rw [← ht] at hstate habsent hraises hagain hsent
    exact ⟨hstate.trans hst, habsent, hraises (State.evtUp_of_linkUp s hup) hroom, hagain, hsent⟩
  case clockLocked =>
    intro s l p q hup hst
    have haligns := s.clockLocked_aligns l p.isLt q.isLt
    change Answers (s.done (s.when (s.linkUp l && s.linkState l == lkClock) (s.clockLocked l p.toNat q.toNat))) _
    refine answers_when s (by rw [hup, hst]; rfl) fun t ht => ?_
    rw [← ht] at haligns
    exact haligns
  case blockLock =>
    rintro s l h0 h1 x a b c d pa pb pc pd ⟨hup, hnode⟩ ⟨hst, hhead0, hhead1, hflag⟩ ⟨ha, hb, hc, hd⟩
      ⟨hpa, hpb, hpc, hpd⟩ ⟨hagree, hdiffer⟩
    have hlocks := s.blockLocked_locksFirst l hb hpa hpb hpc hpd hagree hdiffer
    change Answers (execLinkBlockLock ⟨l, h0, h1, x, a, b, c, d⟩ s) _
    unfold execLinkBlockLock
    dsimp only
    rw [ha, hb, hc, hd]
    refine answers_when s (by rw [hup, hst, hnode, hhead0, hhead1, hflag]; rfl) fun t ht => ?_
    rw [← ht] at hlocks
    obtain ⟨hstate, haccepted, hrejected, hset0, hset1, hlast, hdown, hevt, hsent⟩ := hlocks
    exact ⟨hstate, haccepted, hrejected, hset0, hset1, hlast, hdown, hevt, hsent⟩
  case alignClean =>
    rintro s l ⟨hup, hnode⟩ hst
    change Answers (s.done (s.when (s.linkUp l) (s.alignClean l))) _
    rw [s.alignClean_returns hnode hst]
    have hlink := s.beginsDelay_link l
    refine answers_when s hup fun t ht => ?_
    subst ht
    exact ⟨s.beginsDelay_linkState l, congrArg LinkSt.txSeq hlink, congrArg LinkSt.rxSeq hlink,
      congrArg LinkSt.echoVals hlink, rfl, rfl⟩
  case alignCleanNode =>
    rintro s l ⟨hup, hnode⟩ hst
    change Answers (s.done (s.when (s.linkUp l) (s.alignClean l))) _
    rw [s.alignClean_node hnode hst]
    refine answers_when s hup fun t ht => ?_
    subst ht
    exact ⟨hst, rfl, rfl⟩
  case timeLimit =>
    intro s l hup hst hroom
    have hends := s.trainFail_ends l
    have hfail := s.trainFail_lastFail l
    have hsent := s.trainFail_sent (State.powered_of_linkUp s hup)
    change Answers (s.done (s.when (s.linkUp l && s.training l) (s.trainFail l))) _
    refine answers_when s (by rw [hup, s.training_eq_true hst]; rfl) fun t ht => ?_
    rw [← ht] at hends hfail hsent
    exact ⟨hends.state, hfail, hends.counts,
      hends.raises (State.evtUp_of_linkUp s hup) hroom, hsent⟩
  case lostTraining =>
    intro s l hup hst hroom
    have hends := s.unplug_ends l
    change Answers (s.done (s.when (s.linkUp l) (if s.training l then s.unplug l else _))) _
    rw [s.training_eq_true hst, if_pos rfl]
    refine answers_when s hup fun t ht => ?_
    rw [← ht] at hends
    exact ⟨hends.state, hends.counts, hends.raises (State.evtUp_of_linkUp s hup) hroom⟩
  case lostActive =>
    rintro s l hup ⟨hactive, hroom⟩
    have hleft := (s.leaveActive_leaves l downPartner hactive).toDetect
    have hstate := (s.leaveActive l downPartner).toDetect_linkState l
    change Answers (s.done (s.when (s.linkUp l) (if s.training l then s.unplug l else
      if s.linkActive l then (s.leaveActive l downPartner).toDetect l else s))) _
    rw [s.training_of_active hactive, hactive, if_neg Bool.false_ne_true, if_pos rfl]
    refine answers_when s hup fun t ht => ?_
    rw [← ht] at hleft hstate
    exact ⟨hstate, hleft.counts, hleft.raises (State.evtUp_of_linkUp s hup) hroom⟩
  case lockLoss =>
    rintro s l b hup ⟨hactive, hroom⟩ hlost
    have hleft := (s.leaveActive_leaves l downLock hactive).toDetect
    have hstate := (s.leaveActive l downLock).toDetect_linkState l
    obtain ⟨hadv, hheld, -⟩ := (s.leaveActive l downLock).toDetect_credits l
    change Answers (s.done (s.when (s.linkUp l && s.linkActive l && lockLost b) ((s.leaveActive l downLock).toDetect l))) _
    refine answers_when s (by rw [hup, hactive, hlost]; rfl) fun t ht => ?_
    rw [← ht] at hleft hstate hadv hheld
    exact ⟨hstate, hleft.counts,
      hleft.raises (State.evtUp_of_linkUp s hup) hroom, hheld, hadv⟩

end Sys2Proof.Machine
end

section
/-! SUPPORT. What frames leave of a link: one relation over registers and a view of what is kept of links, and the rules for frames that
arrive and frames that depart (R240, R242, R245, R254, R255, R331, R343). -/

namespace Sys2Proof.Machine

variable (s : State)

/-! ### The relation -/

/-- From `s` to `t` registers outside `W` stand, and so does a view of what is kept of links. -/
structure KeepsLinks {α : Type} (W : Nat → Prop) (view : FMap LinkSt → α) (s t : State) : Prop where
  rv : ∀ o, ¬ W o → t.rv o = s.rv o
  view : view t.links = view s.links

namespace KeepsLinks

variable {α : Type} {W : Nat → Prop} {g : FMap LinkSt → α}

theorem of_regs {t : State} (hregs : t.regs = s.regs) (hlinks : t.links = s.links) : KeepsLinks W g s t :=
  ⟨fun o _ => State.rv_eq_of_regs hregs o, congrArg g hlinks⟩

theorem refl : KeepsLinks W g s s := of_regs s rfl rfl

theorem trans {s t u : State} (h : KeepsLinks W g s t) (h2 : KeepsLinks W g t u) : KeepsLinks W g s u :=
  ⟨fun o ho => (h2.rv o ho).trans (h.rv o ho), h2.view.trans h.view⟩

theorem ite {s t u : State} {p : Prop} [Decidable p] (h : KeepsLinks W g s t) (h2 : KeepsLinks W g s u) :
    KeepsLinks W g s (if p then t else u) := by
  split
  · exact h
  · exact h2

theorem foldl {β : Type} {f : State → β → State} {as : List β} (hf : ∀ s, ∀ a ∈ as, KeepsLinks W g s (f s a)) (s : State) :
    KeepsLinks W g s (as.foldl f s) := by
  induction as generalizing s with
  | nil => exact refl s
  | cons a as ih => exact (hf s a List.mem_cons_self).trans (ih (fun s b hb => hf s b (List.mem_cons_of_mem _ hb)) _)

theorem setFld {f : Fld} (v : Nat) (h : W f.reg) : KeepsLinks W g s (s.setFld f v) :=
  ⟨fun _ ho => s.rv_setRv_other _ fun e => ho (e ▸ h), rfl⟩

theorem raise (source code : Nat) (args : List Nat) (h : ∀ o ∈ eventCounters, W o) : KeepsLinks W g s (s.raise source code args) :=
  ⟨fun o ho => s.raise_rv_of_notMem source code args fun he => ho (h o he), congrArg g (s.raise_links _ _ _)⟩

theorem send (x : Sent) : KeepsLinks W g s (s.send x) := of_regs s rfl rfl
theorem setTdm (x : TdmSt) : KeepsLinks W g s (s.setTdm x) := of_regs s rfl rfl

theorem updLink (l : Nat) (f : LinkSt → LinkSt) (h : ∀ ls : FMap LinkSt, g (ls.put linkReset l (f (ls.get linkReset l))) = g ls) :
    KeepsLinks W g s (s.updLink l f) :=
  ⟨fun _ _ => rfl, h s.links⟩

theorem fld {s t : State} (h : KeepsLinks W g s t) {f : Fld} (hf : ¬ W f.reg) : t.fld f = s.fld f := by
  unfold State.fld
  rw [h.rv _ hf]

end KeepsLinks

/-! ### Frames that arrive (R240, R242, R331, R343) -/

/-- Registers that a frame received on link `l` may write beside its count: claims, gaps, and those of an Understudy's promotion. -/
def RxReg (l o : Nat) : Prop := (∃ m, o = R.CL_CLAIM m) ∨ o = R.CL_RX_GAP_CNT l ∨
  (o = R.TDM_STATE ∨ o = R.TDM_CLAIM ∨ o = R.TDM_PROMOTE_CNT) ∨ (∃ p < 8, o = R.NET_SACN_CTRL p) ∨ o ∈ eventCounters

theorem rxReg_claim (l m : Nat) : RxReg l (R.CL_CLAIM m) := .inl ⟨m, rfl⟩
theorem rxReg_gap (l : Nat) : RxReg l (R.CL_RX_GAP_CNT l) := .inr (.inl rfl)
theorem rxReg_tandem (l : Nat) {o : Nat} (h : o = R.TDM_STATE ∨ o = R.TDM_CLAIM ∨ o = R.TDM_PROMOTE_CNT) : RxReg l o := .inr (.inr (.inl h))
theorem rxReg_sacn (l : Nat) {p : Nat} (h : p < 8) : RxReg l (R.NET_SACN_CTRL p) := .inr (.inr (.inr (.inl ⟨p, h, rfl⟩)))
theorem rxReg_event (l : Nat) {o : Nat} (h : o ∈ eventCounters) : RxReg l o := .inr (.inr (.inr (.inr h)))

/-- The registers of the links stand, but for claims, gap counters, and those of the tandem unit. -/
theorem notRxReg (l : Nat) {o : Nat} (hlow : 0x1000000 ≤ o) (hhigh : o < 0x1420000)
    (h : o % 0x10000 ≠ 0x24 ∧ o % 0x10000 ≠ 0x218 ∧ o % 0x10000 < 0xF000) : ¬ RxReg l o := by
  unfold RxReg eventCounters R.CL_CLAIM R.CL_RX_GAP_CNT R.TDM_STATE R.TDM_CLAIM R.TDM_PROMOTE_CNT R.NET_SACN_CTRL R.EVT_SRC_LOST_CNT
    R.CUR_EVT_LOST_CNT R.GL_EVT_LOST_CNT
  simp only [List.mem_cons, List.not_mem_nil, or_false]
  omega

/-- So do the queue blocks' configurations. -/
theorem notRxReg_queue (l : AnyLink) {q : Nat} (h : q < 32) : ¬ RxReg l (R.QB_CFG q) := by
  unfold RxReg eventCounters R.CL_CLAIM R.CL_RX_GAP_CNT R.TDM_STATE R.TDM_CLAIM R.TDM_PROMOTE_CNT R.NET_SACN_CTRL R.EVT_SRC_LOST_CNT
    R.CUR_EVT_LOST_CNT R.GL_EVT_LOST_CNT R.QB_CFG
  simp only [List.mem_cons, List.not_mem_nil, or_false]
  omega

namespace KeepsLinks

variable {α : Type} {g : FMap LinkSt → α}

theorem setClaim (l c : Nat) : KeepsLinks (RxReg l) g s (s.setClaim c) :=
  (setFld s (f := F.TDM_CLAIM.CLAIM) c (rxReg_tandem l (.inr (.inl rfl)))).trans
    (foldl (fun t m _ => ite (refl t) (setFld t (f := F.CL_CLAIM.OWN m) c (rxReg_claim l m))) _)

theorem tdmState (l : Nat) {f : Fld} (v : Nat) (h : f.reg = R.TDM_STATE) : KeepsLinks (RxReg l) g s (s.setFld f v) :=
  setFld s v (rxReg_tandem l (.inl h))

theorem linesIdle {W : Nat → Prop} : KeepsLinks W g s s.linesIdle :=
  (of_regs s rfl rfl :
    KeepsLinks W g s { s with line := s.line.map (fun e => (e.1, { e.2 with until_ := min e.2.until_ s.time.house })) }).trans
    (foldl (fun t _ _ => send t _) _)

theorem toJoining (l : Nat) : KeepsLinks (RxReg l) g s s.toJoining := by
  unfold State.toJoining
  have hidle : KeepsLinks (RxReg l) g s (if s.understudy then s else s.linesIdle) := ite (refl s) (linesIdle s)
  have hrole := ((hidle.trans (tdmState _ l (f := F.TDM_STATE.ROLE) roleUnderstudy rfl)).trans
    (tdmState _ l (f := F.TDM_STATE.PAIR) pairJoining rfl)).trans (tdmState _ l (f := F.TDM_STATE.ADRIFT) 0 rfl)
  exact ((hrole.trans (tdmState _ l (f := F.TDM_STATE.DIVERGED) 0 rfl)).trans (setTdm _ _)).trans (setClaim _ l 0)

theorem sacnPorts_lt {p : Nat} (h : p ∈ s.sacnPorts) : p < 8 := List.mem_range.1 (List.mem_filter.1 h).1

theorem promote (l : Nat) : KeepsLinks (RxReg l) g s s.promote := by
  unfold State.promote
  have hrole := ((tdmState (g := g) s l (f := F.TDM_STATE.ROLE) rolePrincipal rfl).trans
    (tdmState _ l (f := F.TDM_STATE.PAIR) pairNone rfl)).trans (tdmState _ l (f := F.TDM_STATE.ADRIFT) 0 rfl)
  have hreset := (hrole.trans (tdmState _ l (f := F.TDM_STATE.DIVERGED) 0 rfl)).trans (setTdm _ tdmReset)
  exact (((hreset.trans (foldl (fun t n hn => setFld t (f := F.NET_SACN_CTRL.PRIORITY n) _ (rxReg_sacn l (sacnPorts_lt _ hn))) _)).trans
    (setClaim _ l _)).trans (setFld _ (f := F.TDM_PROMOTE_CNT.COUNT) _ (rxReg_tandem l (.inr (.inr rfl))))).trans
    (raise _ Src.tandem _ _ fun _ => rxReg_event l)

theorem claimSeen (l : Nat) : KeepsLinks (RxReg l) g s (s.claimSeen l) := by
  unfold State.claimSeen State.tryPromote
  exact ite (refl s) (ite (ite ((toJoining s l).trans (raise _ Src.tandem _ _ fun _ => rxReg_event l)) (refl s)) (ite (promote s l) (refl s)))

end KeepsLinks

/-- What is kept of a link, but for the number its partner's next frame has. -/
def unnumbered (l : Nat) (ls : FMap LinkSt) : LinkSt := { ls.get linkReset l with rxSeq := 0 }

/-- The claim of a frame is kept; a link whose claim it accepts anew has its pass caught. -/
def State.takesClaim (s : State) (l claim : Nat) (gained : Bool) : State :=
  let s := if l < 64 then s.setFld (F.CL_CLAIM.NODE l) claim else s
  if gained then s.updPush l (fun p => { p with pass := p.pass.map (fun x => { x with caught := true }) }) else s

/-- Its number is checked, and the next one expected. -/
def State.takesNumber (s : State) (l : Nat) (h : UpHdr) : State :=
  if 0xF000 ≤ h.claim.toNat then s
  else
    let s := if h.lseq.toNat = (s.link l).rxSeq then s else s.bump (F.CL_RX_GAP_CNT.COUNT l)
    s.updLink l (fun x => { x with rxSeq := (h.lseq.toNat + 1) % 65536 })

/-- What the claim of a frame on a show link brings about. -/
def State.heedsClaim (s : State) (l : Nat) : State := if l < 64 then s.claimSeen l else s

theorem State.rxFrame_eq (l : Nat) (h : UpHdr) : ∃ gained, s.rxFrame l h =
    (((s.bump (F.CL_RX_FRAME_CNT.COUNT l)).takesClaim l h.claim.toNat gained).heedsClaim l).takesNumber l h := ⟨_, rfl⟩

theorem KeepsLinks.takesClaim {α : Type} {g : FMap LinkSt → α} (l claim : Nat) (gained : Bool) :
    KeepsLinks (RxReg l) g s (s.takesClaim l claim gained) := by
  have hnode : KeepsLinks (RxReg l) g s (if l < 64 then s.setFld (F.CL_CLAIM.NODE l) claim else s) :=
    ite (setFld s _ (rxReg_claim l l)) (refl s)
  exact hnode.trans (ite (of_regs _ rfl rfl) (refl _))

theorem KeepsLinks.takesNumber (l : Nat) (h : UpHdr) : KeepsLinks (RxReg l) (unnumbered l) s (s.takesNumber l h) := by
  have hgap : KeepsLinks (RxReg l) (unnumbered l) s (if h.lseq.toNat = (s.link l).rxSeq then s else s.bump (F.CL_RX_GAP_CNT.COUNT l)) :=
    ite (refl s) (setFld s (f := F.CL_RX_GAP_CNT.COUNT l) _ (rxReg_gap l))
  have hnumber : ∀ t : State, KeepsLinks (RxReg l) (unnumbered l) t
      (t.updLink l (fun x => { x with rxSeq := (h.lseq.toNat + 1) % 65536 })) := fun t =>
    updLink t l _ fun ls => by unfold unnumbered; rw [FMap.get_put_same]
  exact ite (refl s) (hgap.trans (hnumber _))

/-- Beyond its count, an up frame leaves what is kept of its link but its number, and most registers. -/
theorem KeepsLinks.rxFrame (l : Nat) (h : UpHdr) :
    KeepsLinks (RxReg l) (unnumbered l) (s.bump (F.CL_RX_FRAME_CNT.COUNT l)) (s.rxFrame l h) := by
  obtain ⟨gained, heq⟩ := s.rxFrame_eq l h
  have hheeds : ∀ t : State, KeepsLinks (RxReg l) (unnumbered l) t (t.heedsClaim l) := fun t => ite (claimSeen t l) (refl t)
  rw [heq]
  exact ((takesClaim _ l _ gained).trans (hheeds _)).trans (takesNumber _ l h)

theorem State.rxFrame_unnumbered (l : Nat) (h : UpHdr) : unnumbered l (s.rxFrame l h).links = unnumbered l s.links :=
  (KeepsLinks.rxFrame s l h).view

/-- What is kept of a link stands, as a frame is received. -/
theorem State.rxFrame_link (l : Nat) (h : UpHdr) {β : Type} (f : LinkSt → β) (hf : ∀ x n, f { x with rxSeq := n } = f x) :
    f ((s.rxFrame l h).link l) = f (s.link l) :=
  calc f ((s.rxFrame l h).link l) = f (unnumbered l (s.rxFrame l h).links) := (hf _ 0).symm
    _ = f (unnumbered l s.links) := congrArg f (s.rxFrame_unnumbered l h)
    _ = f (s.link l) := hf _ 0

theorem State.rxFrame_fld (l : Nat) (h : UpHdr) {f : Fld} (hcount : f.reg ≠ R.CL_RX_FRAME_CNT l) (hf : ¬ RxReg l f.reg) :
    (s.rxFrame l h).fld f = s.fld f :=
  ((KeepsLinks.rxFrame s l h).fld hf).trans (s.fld_setFld_reg _ hcount)

/-- A frame is counted on any link. -/
theorem State.rxFrame_countsAny (l : AnyLink) (h : UpHdr) : Counts s (s.rxFrame l h) (F.CL_RX_FRAME_CNT.COUNT l) 1 := by
  have hreg : ¬ RxReg l (R.CL_RX_FRAME_CNT l) := notRxReg l (by unfold R.CL_RX_FRAME_CNT; omega) (by unfold R.CL_RX_FRAME_CNT; omega)
    (by unfold R.CL_RX_FRAME_CNT; omega)
  exact ((KeepsLinks.rxFrame s l h).fld (f := F.CL_RX_FRAME_CNT.COUNT l) hreg).trans (s.counts_bump (show 0 + 64 ≤ 64 by decide))

/-! What a received frame sends: nothing, unless it outranks a principal (R346). -/

theorem foldl_sent {α : Type} {f : State → α → State} {as : List α} (h : ∀ t, ∀ a ∈ as, (f t a).sent = t.sent) :
    (as.foldl f s).sent = s.sent := foldl_same (g := State.sent) h s

theorem State.setClaim_sent (c : Nat) : (s.setClaim c).sent = s.sent :=
  foldl_sent (s.setFld F.TDM_CLAIM.CLAIM c) fun t m _ => by split <;> rfl

theorem State.promote_sent : s.promote.sent = s.sent := by
  unfold State.promote
  dsimp only
  rw [State.raise_sent, State.bump_sent, State.setClaim_sent, foldl_sent _ fun _ _ _ => State.setFld_sent _ _ _]
  rfl

theorem State.claimSeen_sent (l : Nat) (h : s.role = rolePrincipal → showClaim (s.fld (F.CL_CLAIM.NODE l)) = false) :
    (s.claimSeen l).sent = s.sent := by
  unfold State.claimSeen State.tryPromote
  split
  · rfl
  · split
    · rw [h ‹_›, Bool.false_and, if_neg Bool.false_ne_true]
    · split
      · exact s.promote_sent
      · rfl

theorem State.takesNumber_sent (l : Nat) (h : UpHdr) : (s.takesNumber l h).sent = s.sent := by
  unfold State.takesNumber
  split
  · rfl
  · dsimp only
    split <;> rfl

theorem State.heedsClaim_sent (l : Nat) (h : l < 64 → s.role = rolePrincipal → showClaim (s.fld (F.CL_CLAIM.NODE l)) = false) :
    (s.heedsClaim l).sent = s.sent := by
  unfold State.heedsClaim
  split
  · exact s.claimSeen_sent l (h ‹_›)
  · rfl

theorem State.takesClaim_sent (l claim : Nat) (gained : Bool) : (s.takesClaim l claim gained).sent = s.sent := by
  unfold State.takesClaim
  dsimp only
  split <;> split <;> rfl

theorem State.takesClaim_regs {l : Nat} (claim : Nat) (gained : Bool) (hl : l < 64) :
    (s.takesClaim l claim gained).regs = (s.setFld (F.CL_CLAIM.NODE l) claim).regs := by
  unfold State.takesClaim
  rw [if_pos hl]
  dsimp only
  split <;> rfl

theorem State.takesClaim_role {l : Nat} (claim : Nat) (gained : Bool) (hl : l < 64) : (s.takesClaim l claim gained).role = s.role := by
  have hreg : R.TDM_STATE ≠ R.CL_CLAIM l := by unfold R.TDM_STATE R.CL_CLAIM; omega
  exact (State.fld_eq_of_regs (s.takesClaim_regs claim gained hl) F.TDM_STATE.ROLE).trans (s.fld_setFld_reg claim hreg)

theorem State.takesClaim_node {l claim : Nat} (gained : Bool) (hl : l < 64) (hclaim : claim < 2 ^ 16) :
    (s.takesClaim l claim gained).fld (F.CL_CLAIM.NODE l) = claim :=
  (State.fld_eq_of_regs (s.takesClaim_regs claim gained hl) _).trans
    ((s.fld_setFld_same (F.CL_CLAIM.NODE l) claim (show 16 + 16 ≤ 64 by decide)).trans (Nat.mod_eq_of_lt hclaim))

theorem State.bumpRxFrame_role (l : Nat) : (s.bump (F.CL_RX_FRAME_CNT.COUNT l)).role = s.role :=
  s.fld_setFld_reg _ (by show R.TDM_STATE ≠ R.CL_RX_FRAME_CNT l; unfold R.TDM_STATE R.CL_RX_FRAME_CNT; omega)

theorem State.rxFrame_sent (l : Nat) (h : UpHdr) (hclaim : s.role = rolePrincipal → showClaim h.claim.toNat = false) :
    (s.rxFrame l h).sent = s.sent := by
  obtain ⟨gained, heq⟩ := s.rxFrame_eq l h
  rw [heq, State.takesNumber_sent, State.heedsClaim_sent, State.takesClaim_sent]
  · rfl
  · intro hl hrole
    rw [State.takesClaim_role _ _ _ hl, s.bumpRxFrame_role] at hrole
    rw [State.takesClaim_node _ gained hl h.claim.isLt]
    exact hclaim hrole

end Sys2Proof.Machine
end

section
/-! SUPPORT. Frames that depart on a link: what they send and leave, and the requests that wait for credits (R238, R240, R242, R245, R250,
R254, R255). -/

namespace Sys2Proof.Machine

variable (s : State)

/-! ### A frame departs (R240, R245) -/

/-- From `s` to `t` a frame departs on a link: it is sent as its record and its blocks, numbered and counted. -/
structure Transmits (l type : Nat) (payload : List Byte) (s t : State) : Prop where
  sent : t.sent = s.sent ++ [.linkFrame l type (s.claimOn l) (s.link l).txSeq payload] ++
    s.blockWords l (frameBlocks type (s.claimOn l) (s.link l).txSeq payload)
  link : t.link l = { s.link l with runs := (s.link l).runs + 1, txSeq := ((s.link l).txSeq + 1) % 65536 }
  counts : Counts s t (F.CL_TX_FRAME_CNT.COUNT l) 1
  evt : t.evt = s.evt

/-- Nothing but the Curtain's stream on an `ACTIVE` link keeps a frame from departing. -/
theorem State.txFrame_transmits {l : Nat} (type : Nat) (payload : List Byte) (h : (s.curtainOn l && s.linkActive l) = false) :
    Transmits l type payload s (s.txFrame l type payload) := by
  unfold State.txFrame
  rw [h, if_neg Bool.false_ne_true]
  have hlink : ∀ g : LinkSt → LinkSt, ((s.sendFrame l type (s.claimOn l) (s.link l).txSeq payload).updLink l g).link l =
      g { s.link l with runs := (s.link l).runs + 1 } := fun g => by rw [State.link_updLink]; exact congrArg g (State.link_updLink _ l _)
  have hregs : ∀ g : LinkSt → LinkSt, ((s.sendFrame l type (s.claimOn l) (s.link l).txSeq payload).updLink l g).regs = s.regs := fun _ => rfl
  refine ⟨rfl, hlink fun x => { x with txSeq := (x.txSeq + 1) % 65536 }, ?_, rfl⟩
  exact (State.counts_bump _ (f := F.CL_TX_FRAME_CNT.COUNT l) (show 0 + 64 ≤ 64 by decide)).trans
    (congrArg (fun c => (c + 1) % 2 ^ 64) (State.fld_eq_of_regs (hregs _) _))

/-! ### What departures leave (R245, R254, R255) -/

/-- Registers that a frame departing on link `l` may write: its count and its credits. -/
def TxReg (l o : Nat) : Prop := o = R.CL_TX_FRAME_CNT l ∨ o = R.CL_CRED_OUT l ∨ o = R.CL_CRED_HELD l

/-- What is kept of a link, but for what a departure changes. -/
def undeparted (l : Nat) (ls : FMap LinkSt) : LinkSt := { ls.get linkReset l with runs := 0, txSeq := 0, costs := [] }

/-- And but for what waits or is answered for. -/
def unasked (l : Nat) (ls : FMap LinkSt) : LinkSt := { undeparted l ls with wait := [], cfg := [], tagNext := 0 }

namespace KeepsLinks

theorem map {α β : Type} {W : Nat → Prop} {g : FMap LinkSt → α} {s t : State} (k : α → β) (h : KeepsLinks W g s t) :
    KeepsLinks W (fun ls => k (g ls)) s t := ⟨h.rv, congrArg k h.view⟩

theorem updUndeparted (l : Nat) (f : LinkSt → LinkSt)
    (h : ∀ x, { f x with runs := 0, txSeq := 0, costs := [] } = { x with runs := 0, txSeq := 0, costs := [] }) :
    KeepsLinks (TxReg l) (undeparted l) s (s.updLink l f) :=
  updLink s l f fun ls => by unfold undeparted; rw [FMap.get_put_same, h]

theorem updUnasked (l : Nat) (f : LinkSt → LinkSt)
    (h : ∀ x, { f x with runs := 0, txSeq := 0, costs := [], wait := [], cfg := [], tagNext := 0 } =
      { x with runs := 0, txSeq := 0, costs := [], wait := [], cfg := [], tagNext := 0 }) :
    KeepsLinks (TxReg l) (unasked l) s (s.updLink l f) :=
  updLink s l f fun ls => by unfold unasked undeparted; rw [FMap.get_put_same]; exact h _

theorem txFrame (l type : Nat) (payload : List Byte) : KeepsLinks (TxReg l) (undeparted l) s (s.txFrame l type payload) := by
  have hsend : KeepsLinks (TxReg l) (undeparted l) s (s.sendFrame l type (s.claimOn l) (s.link l).txSeq payload) :=
    ⟨fun _ _ => rfl, (updUndeparted s l (fun x => { x with runs := x.runs + 1 }) fun _ => rfl).view⟩
  exact ite (refl s) ((hsend.trans (updUndeparted _ l (fun x => { x with txSeq := (x.txSeq + 1) % 65536 }) fun _ => rfl)).trans
    (setFld _ (f := F.CL_TX_FRAME_CNT.COUNT l) _ (.inl rfl)))

theorem showCredits {α : Type} {g : FMap LinkSt → α} (l : Nat) : KeepsLinks (TxReg l) g s (s.showCredits l) :=
  (setFld s (f := F.CL_CRED_OUT.COUNT l) _ (.inr (.inl rfl))).trans (setFld _ (f := F.CL_CRED_HELD.COUNT l) _ (.inr (.inr rfl)))

theorem txBuffered (l type : Nat) (payload : List Byte) : KeepsLinks (TxReg l) (undeparted l) s (s.txBuffered l type payload) := by
  have hcost : ∀ (t : State) (n : Nat × Nat), KeepsLinks (TxReg l) (undeparted l) t
      (t.updLink l (fun x => { x with costs := x.costs ++ [n] })) :=
    fun t n => updUndeparted t l _ fun _ => rfl
  exact (txFrame s l type payload).trans (ite ((hcost _ _).trans (showCredits _ l)) (refl _))

/-- A waiting frame departs. -/
theorem drainStep (l : Nat) (w : TxWait) (rest : List TxWait) : KeepsLinks (TxReg l) (unasked l) s
    ((s.updLink l (fun x => { x with wait := rest, cfg := match w.req with | some r => x.cfg ++ [r] | none => x.cfg })).txBuffered
      l w.type w.payload) :=
  (updUnasked s l (fun x => { x with wait := rest, cfg := match w.req with | some r => x.cfg ++ [r] | none => x.cfg }) fun _ => rfl).trans
    ((txBuffered _ l _ _).map fun x => { x with wait := [], cfg := [], tagNext := 0 })

theorem drainN (l n : Nat) : KeepsLinks (TxReg l) (unasked l) s (s.drainN l n) := by
  induction n generalizing s with
  | zero => exact refl s
  | succ n ih =>
    unfold State.drainN
    split
    · exact refl s
    · next w rest _ => exact ite ((drainStep s l w rest).trans (ih _)) (refl s)

theorem txWait (l : Nat) (w : TxWait) : KeepsLinks (TxReg l) (unasked l) s (s.txWait l w) :=
  (updUnasked s l (fun x => { x with wait := x.wait ++ [w] }) fun _ => rfl).trans (drainN _ l _)

theorem cfgRequest (l : Nat) (req : CfgReq) (write : Bool) (addr count : Nat) (words : List Nat) :
    KeepsLinks (TxReg l) (unasked l) s (s.cfgRequest l req write addr count words) :=
  (updUnasked s l (fun x => { x with tagNext := x.tagNext + 1 }) fun _ => rfl).trans (txWait _ l _)

end KeepsLinks

/-! ### What a departure depends on (R238, R242) -/

/-- A frame that departs on link `l` from `t` departs as it would from `s`. -/
structure SameStream (l : Nat) (s t : State) : Prop where
  claim : t.claimOn l = s.claimOn l
  txSeq : (t.link l).txSeq = (s.link l).txSeq
  words : ∀ bs, t.blockWords l bs = s.blockWords l bs
  sent : t.sent = s.sent

namespace SameStream

variable {l : Nat}

theorem trans {s t u : State} (h : SameStream l s t) (h2 : SameStream l t u) : SameStream l s u :=
  ⟨h2.claim.trans h.claim, h2.txSeq.trans h.txSeq, fun bs => (h2.words bs).trans (h.words bs), h2.sent.trans h.sent⟩

theorem updLink {f : LinkSt → LinkSt} (htxSeq : ∀ x, (f x).txSeq = x.txSeq) (hruns : ∀ x, (f x).runs = x.runs) :
    SameStream l s (s.updLink l f) where
  claim := rfl
  txSeq := by rw [State.link_updLink, htxSeq]
  words := fun bs => by
    unfold State.blockWords
    rw [State.link_updLink, hruns]
    rfl
  sent := rfl

/-- The mailbox's status is no part of a stream. -/
theorem mailboxBusy (v : Nat) : SameStream l s (s.setFld (F.CL_CFG_STATUS.BUSY l) v) := by
  have hkept : ∀ f : Fld, f.reg ≠ R.CL_CFG_STATUS l → (s.setFld (F.CL_CFG_STATUS.BUSY l) v).fld f = s.fld f := fun f hf =>
    s.fld_setFld_reg (f := F.CL_CFG_STATUS.BUSY l) v hf
  have hstate := hkept (F.CL_STATE.STATE l) (by show R.CL_STATE l ≠ _; unfold R.CL_STATE R.CL_CFG_STATUS; omega)
  have hown := hkept (F.CL_CLAIM.OWN l) (by show R.CL_CLAIM l ≠ _; unfold R.CL_CLAIM R.CL_CFG_STATUS; omega)
  have htandem := hkept F.TDM_CLAIM.CLAIM (by show R.TDM_CLAIM ≠ _; unfold R.TDM_CLAIM R.CL_CFG_STATUS; omega)
  have hrole := hkept F.TDM_STATE.ROLE (by show R.TDM_STATE ≠ _; unfold R.TDM_STATE R.CL_CFG_STATUS; omega)
  have hboot := hkept F.GLB_BOOT.SOURCE (by show R.GLB_BOOT ≠ _; unfold R.GLB_BOOT R.CL_CFG_STATUS; omega)
  have hmap : ∀ f : Fld, f.reg = R.CL_LANE_MAP l → (s.setFld (F.CL_CFG_STATUS.BUSY l) v).fld f = s.fld f := fun f hf =>
    hkept f (by rw [hf]; unfold R.CL_LANE_MAP R.CL_CFG_STATUS; omega)
  have hmark : ∀ k, (s.setFld (F.CL_CFG_STATUS.BUSY l) v).laneMark l dirDown k = s.laneMark l dirDown k := fun k =>
    hkept (F.CL_TXL_ROLE.MARK l k) (by show R.CL_TXL_ROLE l k ≠ _; unfold R.CL_TXL_ROLE R.CL_CFG_STATUS; omega)
  have hnode : (s.setFld (F.CL_CFG_STATUS.BUSY l) v).nodeSide l = s.nodeSide l := by
    unfold State.nodeSide State.understudy State.role State.romNode
    rw [hrole, hboot]
    rfl
  have hcarriers : (s.setFld (F.CL_CFG_STATUS.BUSY l) v).carriers l = s.carriers l := by
    have hswing : (s.setFld (F.CL_CFG_STATUS.BUSY l) v).swingLane l dirDown = s.swingLane l dirDown := hmap (F.CL_LANE_MAP.TX_SWING l) rfl
    have hlane0 : (s.setFld (F.CL_CFG_STATUS.BUSY l) v).downLane l 0 = s.downLane l 0 := hmap (F.CL_LANE_MAP.TX_L0 l) rfl
    have hlane1 : (s.setFld (F.CL_CFG_STATUS.BUSY l) v).downLane l 1 = s.downLane l 1 := hmap (F.CL_LANE_MAP.TX_L1 l) rfl
    unfold State.carriers
    dsimp only
    rw [hswing, hlane0, hlane1, hmark, hmap (F.CL_LANE_MAP.TX_MIRROR l) rfl]
  refine ⟨?_, rfl, fun bs => ?_, rfl⟩
  · unfold State.claimOn State.linkActive State.linkState
    rw [hstate, hown, htandem]
  · unfold State.blockWords
    rw [hnode, hcarriers]
    rfl

end SameStream

theorem Departs.of_same {s t u : State} {l type : Nat} {payload : List Byte} (h : Departs t u l type payload) (hsame : SameStream l s t) :
    Departs s u l type payload where
  sent := by rw [h.sent, hsame.sent, hsame.claim, hsame.txSeq, hsame.words]
  txSeq := by rw [h.txSeq, hsame.txSeq]

/-! ### A request that credits cover (R250, R254) -/

/-- A frame that waits alone is taken, and its request is outstanding. -/
def State.takesOff (s : State) (l : Nat) (w : TxWait) (r : Nat × CfgReq) : State :=
  (s.updLink l (fun x => { x with wait := x.wait ++ [w] })).updLink l (fun x => { x with wait := [], cfg := x.cfg ++ [r] })

theorem State.drain_empty {l : Nat} (h : (s.link l).wait = []) : s.drain l = s := by
  unfold State.drain
  rw [h]
  rfl

theorem State.curtainOn_updLink (l m : Nat) (g : LinkSt → LinkSt) : (s.updLink l g).curtainOn m = s.curtainOn m := rfl

theorem State.mayBuffer_updLink {l : Nat} {g : LinkSt → LinkSt} (hg : ∀ x, (g x).cfg = x.cfg) (payload : List Byte) :
    (s.updLink l g).mayBuffer l payload = s.mayBuffer l payload := by
  unfold State.mayBuffer
  rw [State.link_updLink, hg]
  rfl

theorem State.txWait_departs {l : Nat} {w : TxWait} {r : Nat × CfgReq} (hreq : w.req = some r) (hwait : (s.link l).wait = [])
    (hmay : s.mayBuffer l w.payload = true) (hcurtain : s.curtainOn l = false) :
    s.txWait l w = (s.takesOff l w r).txBuffered l w.type w.payload := by
  have hqueue : ((s.updLink l (fun x => { x with wait := x.wait ++ [w] })).link l).wait = [w] := by rw [State.link_updLink, hwait]; rfl
  have hgoes : ((s.updLink l (fun x => { x with wait := x.wait ++ [w] })).mayBuffer l w.payload &&
      (s.updLink l (fun x => { x with wait := x.wait ++ [w] })).passesDrop l w) = true := by
    rw [State.mayBuffer_updLink s (g := fun x => { x with wait := x.wait ++ [w] }) (fun _ => rfl), hmay, Bool.true_and]
    exact Bool.or_eq_true_iff.2 (.inl (by rw [State.curtainOn_updLink, hcurtain]; rfl))
  unfold State.txWait State.drain
  rw [hqueue]
  change State.drainN _ l 1 = _
  unfold State.drainN
  rw [hqueue]
  dsimp only
  rw [hgoes, if_pos rfl, hreq]
  rfl

theorem State.takesOff_same (l : Nat) (w : TxWait) (r : Nat × CfgReq) : SameStream l s (s.takesOff l w r) :=
  (SameStream.updLink s (f := fun x => { x with wait := x.wait ++ [w] }) (fun _ => rfl) fun _ => rfl).trans
    (SameStream.updLink _ (f := fun x => { x with wait := [], cfg := x.cfg ++ [r] }) (fun _ => rfl) fun _ => rfl)

theorem State.takesOff_cfg (l : Nat) (w : TxWait) (r : Nat × CfgReq) : ((s.takesOff l w r).link l).cfg = (s.link l).cfg ++ [r] := by
  unfold State.takesOff
  rw [State.link_updLink, State.link_updLink]

theorem State.txBuffered_cfg (l type : Nat) (payload : List Byte) : ((s.txBuffered l type payload).link l).cfg = (s.link l).cfg := by
  have hview := congrArg LinkSt.cfg (KeepsLinks.txBuffered s l type payload).view
  exact hview

/-- On an `ACTIVE` link where nothing waits, a request's frame that credits cover departs at once, and its request is outstanding. -/
theorem State.txWait_sends {l : Nat} {w : TxWait} {r : Nat × CfgReq} (hreq : w.req = some r) (hwait : (s.link l).wait = [])
    (hactive : s.linkActive l = true) (hcurtain : s.curtainOn l = false) (hcost : frameCost w.payload ≤ s.fld (F.CL_CRED_HELD.COUNT l)) :
    Departs s (s.txWait l w) l w.type w.payload ∧ ((s.txWait l w).link l).cfg = (s.link l).cfg ++ [r] := by
  have hmay : s.mayBuffer l w.payload = true := by
    unfold State.mayBuffer
    rw [hactive, if_pos rfl, hcurtain, decide_eq_true hcost]
    rfl
  have hdeparts := (State.txBuffered_departs (s.takesOff l w r) w.type w.payload hactive hcurtain).1
  rw [s.txWait_departs hreq hwait hmay hcurtain]
  exact ⟨hdeparts.of_same (s.takesOff_same l w r), by rw [State.txBuffered_cfg, State.takesOff_cfg]⟩

/-- A request takes its tag. -/
def State.takesTag (s : State) (l : Nat) : State := s.updLink l (fun x => { x with tagNext := x.tagNext + 1 })

theorem State.takesTag_same (l : Nat) : SameStream l s (s.takesTag l) :=
  SameStream.updLink s (f := fun x => { x with tagNext := x.tagNext + 1 }) (fun _ => rfl) fun _ => rfl

theorem State.takesTag_link (l : Nat) : (s.takesTag l).link l = { s.link l with tagNext := (s.link l).tagNext + 1 } := State.link_updLink s l _

theorem State.cfgRequest_eq (l : Nat) (req : CfgReq) (write : Bool) (addr count : Nat) (words : List Nat) :
    s.cfgRequest l req write addr count words = (s.takesTag l).txWait l
      ⟨ltCfg, cfgPayload write (req.tagBase + (s.link l).tagNext % 0x4000) addr count words,
        some (req.tagBase + (s.link l).tagNext % 0x4000, req)⟩ := rfl

/-- A request issued where nothing waits and credits cover it departs at once, and is outstanding with its tag. -/
theorem State.cfgRequest_departs {l : Nat} (req : CfgReq) (write : Bool) (addr count : Nat) (words : List Nat) {tag : Nat}
    (htag : req.tagBase + (s.link l).tagNext % 0x4000 = tag) (hactive : s.linkActive l = true) (hcurtain : s.curtainOn l = false)
    (hwait : (s.link l).wait = []) (hcost : frameCost (cfgPayload write tag addr count words) ≤ s.fld (F.CL_CRED_HELD.COUNT l)) :
    Departs s (s.cfgRequest l req write addr count words) l ltCfg (cfgPayload write tag addr count words) ∧
    ((s.cfgRequest l req write addr count words).link l).cfg = (s.link l).cfg ++ [(tag, req)] := by
  have hlink := s.takesTag_link l
  rw [s.cfgRequest_eq, htag]
  obtain ⟨hdeparts, hcfg⟩ := (s.takesTag l).txWait_sends (w := ⟨ltCfg, cfgPayload write tag addr count words, some (tag, req)⟩) rfl
    ((congrArg LinkSt.wait hlink).trans hwait) hactive hcurtain hcost
  exact ⟨hdeparts.of_same (s.takesTag_same l), by rw [hcfg, hlink]⟩

/-! ### The mailbox (R250) -/

theorem cfgPayload_read_length (tag addr count : Nat) : (cfgPayload false tag addr count []).length = 8 := by
  unfold cfgPayload
  simp only [List.length_append, Tests.leBytes_length, List.flatMap_nil, List.length_nil]

/-- The payload of a read by the mailbox. -/
def State.readPayload (s : State) (l : Nat) : List Byte :=
  cfgPayload false ((s.link l).tagNext % 0x4000) (s.fld (F.CL_CFG_ADDR.ADDR l) * 4) (s.fld (F.CL_CFG_CMD.COUNT l)) []

/-- A read by the mailbox, as it goes out. -/
structure MailboxReads (l : Nat) (s t : State) : Prop where
  busy : t.fld (F.CL_CFG_STATUS.BUSY l) = 1
  departs : Departs s t l ltCfg (s.readPayload l)
  cfg : (t.link l).cfg = (s.link l).cfg ++ [((s.link l).tagNext % 0x4000, .mailbox false)]

/-- The mailbox is busy. -/
def State.mailboxBusy (s : State) (l : Nat) : State := s.setFld (F.CL_CFG_STATUS.BUSY l) 1

theorem State.mailboxGo_eq {l : Nat} (hop : s.flag (F.CL_CFG_CMD.OP l) = false) (hactive : s.linkActive l = true) :
    s.mailboxGo l = (s.mailboxBusy l).cfgRequest l (.mailbox false) false ((s.mailboxBusy l).fld (F.CL_CFG_ADDR.ADDR l) * 4)
      (s.fld (F.CL_CFG_CMD.COUNT l)) [] := by
  have hreg : R.CL_STATE l ≠ R.CL_CFG_STATUS l := by unfold R.CL_STATE R.CL_CFG_STATUS; omega
  have hstate : (s.mailboxBusy l).linkState l = 7 :=
    (s.fld_setFld_reg (f := F.CL_CFG_STATUS.BUSY l) (g := F.CL_STATE.STATE l) 1 hreg).trans (s.linkState_of_active hactive)
  unfold State.mailboxGo
  rw [hop]
  exact if_neg (by rw [← State.mailboxBusy, hstate]; decide)

theorem State.mailboxGo_reads {l : Nat} (hactive : s.linkActive l = true) (hop : s.fld (F.CL_CFG_CMD.OP l) = 0)
    (hwait : (s.link l).wait = []) (hheld : 1 ≤ s.fld (F.CL_CRED_HELD.COUNT l)) (hcurtain : s.curtainOn l = false) :
    MailboxReads l s (s.mailboxGo l) := by
  have hgo := s.mailboxGo_eq (by rw [State.flag, hop]; rfl) hactive
  have hsame := SameStream.mailboxBusy (l := l) s 1
  have hkept : ∀ f : Fld, f.reg ≠ R.CL_CFG_STATUS l → (s.mailboxBusy l).fld f = s.fld f := fun f hf =>
    s.fld_setFld_reg (f := F.CL_CFG_STATUS.BUSY l) 1 hf
  have hstate := hkept (F.CL_STATE.STATE l) (by show R.CL_STATE l ≠ _; unfold R.CL_STATE R.CL_CFG_STATUS; omega)
  have haddr := hkept (F.CL_CFG_ADDR.ADDR l) (by show R.CL_CFG_ADDR l ≠ _; unfold R.CL_CFG_ADDR R.CL_CFG_STATUS; omega)
  have hheldReg := hkept (F.CL_CRED_HELD.COUNT l) (by show R.CL_CRED_HELD l ≠ _; unfold R.CL_CRED_HELD R.CL_CFG_STATUS; omega)
  have hlinks := hkept F.CUR_SEL_LINK.LINKS (by show R.CUR_SEL_LINK ≠ _; unfold R.CUR_SEL_LINK R.CL_CFG_STATUS; omega)
  have hcost : frameCost (s.readPayload l) = 1 := by
    unfold frameCost State.readPayload
    rw [cfgPayload_read_length]
    rfl
  have hactiveBusy : (s.mailboxBusy l).linkActive l = true := by
    unfold State.linkActive State.linkState at hactive ⊢
    rwa [hstate]
  have hcurtainBusy : (s.mailboxBusy l).curtainOn l = false := by
    unfold State.curtainOn at hcurtain ⊢
    rwa [hlinks]
  obtain ⟨hdeparts, hcfg⟩ := (s.mailboxBusy l).cfgRequest_departs (.mailbox false) false (s.fld (F.CL_CFG_ADDR.ADDR l) * 4)
    (s.fld (F.CL_CFG_CMD.COUNT l)) [] (tag := (s.link l).tagNext % 0x4000) (Nat.zero_add _) hactiveBusy hcurtainBusy hwait
    (by rw [hheldReg]; exact hcost.le.trans hheld)
  have hbusy : ¬ TxReg l (R.CL_CFG_STATUS l) := by
    unfold TxReg R.CL_CFG_STATUS R.CL_TX_FRAME_CNT R.CL_CRED_OUT R.CL_CRED_HELD
    omega
  rw [hgo, haddr]
  refine ⟨?_, hdeparts.of_same hsame, hcfg⟩
  exact ((KeepsLinks.cfgRequest (s.mailboxBusy l) l _ _ _ _ _).fld (f := F.CL_CFG_STATUS.BUSY l) hbusy).trans
    (s.fld_setFld_same (F.CL_CFG_STATUS.BUSY l) 1 (show 0 + 1 ≤ 64 by decide))

end Sys2Proof.Machine
end

section
/-! SUPPORT. What the commands of delay, credits, the mailbox and node status do in the cases the statement names (R250 to R256, R260). -/

namespace Sys2Proof.Machine

variable (s : State)

theorem done_when {c : Bool} {t : State} (hc : c = true) (hp : t.pending = s.pending) (ht : t.time = s.time) :
    s.done (s.when c t) = .next t := by
  rw [hc, s.when_true]
  exact s.done_of hp ht

/-! ### Echoes (R251, R260) -/

/-- An echo departs, and its tag is outstanding. -/
def State.sendsEcho (s : State) (l : Nat) : State :=
  (s.txFrame l ltEcho (leBytes 4 (s.link l).echoNext ++ zeros 4)).updLink l (fun x => { x with
    echoNext := (x.echoNext + 1) % 2 ^ 32, echoSent := x.echoSent + 1, echoTags := x.echoTags ++ [(s.link l).echoNext] })

theorem State.echoSend_eq (l : Nat) : s.echoSend l = (s.echoBegin l).sendsEcho l := rfl

theorem State.sendsEcho_link {l : Nat} (h : (s.curtainOn l && s.linkActive l) = false) : (s.sendsEcho l).link l =
    { s.link l with runs := (s.link l).runs + 1, txSeq := ((s.link l).txSeq + 1) % 65536, echoNext := ((s.link l).echoNext + 1) % 2 ^ 32,
                    echoSent := (s.link l).echoSent + 1, echoTags := (s.link l).echoTags ++ [(s.link l).echoNext] } := by
  unfold State.sendsEcho
  rw [State.link_updLink, (s.txFrame_transmits _ _ h).link]

theorem State.sendsEcho_sent {l : Nat} (h : (s.curtainOn l && s.linkActive l) = false) :
    (s.sendsEcho l).sent = s.sent ++ [.linkFrame l ltEcho (s.claimOn l) (s.link l).txSeq (leBytes 4 (s.link l).echoNext ++ zeros 4)] ++
      s.blockWords l (frameBlocks ltEcho (s.claimOn l) (s.link l).txSeq (leBytes 4 (s.link l).echoNext ++ zeros 4)) :=
  (s.txFrame_transmits ltEcho _ h).sent

theorem State.sendsEcho_evt (l : Nat) : (s.sendsEcho l).evt = s.evt := s.txFrame_evt l _ _

theorem State.echoBegin_open {l : Nat} (h : (s.link l).echoSent < s.echoCount l) : s.echoBegin l = s := if_pos h

/-- The set before is given up. -/
def State.givesUpSet (s : State) (l : Nat) : State := s.updLink l (fun x => { x with echoSent := 0, echoTags := [], echoVals := [] })

theorem State.echoBegin_full {l : Nat} (h : s.echoCount l ≤ (s.link l).echoSent) : s.echoBegin l = s.givesUpSet l := if_neg (Nat.not_lt.2 h)

theorem State.givesUpSet_link (l : Nat) : (s.givesUpSet l).link l = { s.link l with echoSent := 0, echoTags := [], echoVals := [] } :=
  State.link_updLink s l _

/-- A reply's round trip joins its set. -/
def State.notesEcho (s : State) (l tag : Nat) (r : Int) : State :=
  (s.setFld (F.CL_RTT_LAST.VALUE l) (ofSigned 32 (roundEven ((r : Rat) / 2)))).updLink l (fun x => { x with
    echoTags := x.echoTags.filter (· ≠ tag), echoVals := x.echoVals ++ [r] })

theorem State.notesEcho_link (l tag : Nat) (r : Int) : (s.notesEcho l tag r).link l =
    { s.link l with echoTags := (s.link l).echoTags.filter (· ≠ tag), echoVals := (s.link l).echoVals ++ [r] } :=
  State.link_updLink (s.setFld (F.CL_RTT_LAST.VALUE l) _) l _

theorem State.notesEcho_fld (l tag : Nat) (r : Int) {f : Fld} (h : f.reg ≠ R.CL_RTT_LAST l) : (s.notesEcho l tag r).fld f = s.fld f :=
  (State.fld_eq_of_regs (State.updLink_regs _ l _) f).trans (s.fld_setFld_reg _ h)

theorem ofSigned_lt (w : Nat) (i : Int) : ofSigned w i < 2 ^ w := by
  unfold ofSigned
  have hpos : (0 : Int) < ((2 ^ w : Nat) : Int) := by positivity
  have := Int.emod_lt_of_pos i hpos
  omega

theorem State.notesEcho_rtt (l tag : Nat) (r : Int) :
    (s.notesEcho l tag r).fld (F.CL_RTT_LAST.VALUE l) = ofSigned 32 (roundEven ((r : Rat) / 2)) :=
  (State.fld_eq_of_regs (State.updLink_regs _ l _) _).trans
    ((s.fld_setFld_same (F.CL_RTT_LAST.VALUE l) _ (show 0 + 32 ≤ 64 by decide)).trans (Nat.mod_eq_of_lt (ofSigned_lt 32 _)))

theorem State.notesEcho_linkActive (l tag : Nat) (r : Int) : (s.notesEcho l tag r).linkActive l = s.linkActive l :=
  congrArg (· == lkActive) (s.notesEcho_fld l tag r (f := F.CL_STATE.STATE l)
    (by show R.CL_STATE l ≠ _; unfold R.CL_STATE R.CL_RTT_LAST; omega))

theorem State.notesEcho_count (l tag : Nat) (r : Int) : (s.notesEcho l tag r).echoCount l = s.echoCount l := by
  unfold State.echoCount
  rw [s.notesEcho_linkActive]

theorem State.echoValue_eq (l tag turn rtt : Nat) : s.echoValue l tag turn rtt =
    let t := s.notesEcho l tag ((rtt : Int) - 64 * (turn : Int))
    if (t.link l).echoVals.length < t.echoCount l then t else if t.linkActive l then t.trackSet l else t.delaySet l := rfl

theorem State.echoValue_open {l : Nat} (tag turn rtt : Nat) (h : (s.link l).echoVals.length + 1 < s.echoCount l) :
    s.echoValue l tag turn rtt = s.notesEcho l tag ((rtt : Int) - 64 * (turn : Int)) := by
  rw [s.echoValue_eq]
  dsimp only
  rw [s.notesEcho_link, s.notesEcho_count, if_pos]
  rwa [List.length_append]

theorem State.echoValue_full {l : Nat} (tag turn rtt : Nat) (hidle : s.linkActive l = false) (h : (s.link l).echoVals.length + 1 = 64) :
    s.echoValue l tag turn rtt = (s.notesEcho l tag ((rtt : Int) - 64 * (turn : Int))).delaySet l := by
  have hcount : s.echoCount l = 64 := if_neg (by rw [hidle]; exact Bool.false_ne_true)
  rw [s.echoValue_eq]
  dsimp only
  rw [s.notesEcho_link, s.notesEcho_count, s.notesEcho_linkActive, hcount, if_neg, hidle, if_neg Bool.false_ne_true]
  rw [List.length_append]
  exact Nat.not_lt.2 h.ge

/-- The delay is measured, and the node is asked who it is. -/
def State.takesDelay (s : State) (l : Nat) (v : List Int) : State :=
  (((s.givesUpSet l).setDelay l (echoMean v)).updLink l (fun x => { x with rejects := 0 })).setLinkState l lkIdent

theorem State.delaySet_takes {l : Nat} {v : List Int} (hv : (s.link l).echoVals = v) (h : echoSpread v ≤ 64) :
    s.delaySet l = (s.takesDelay l v).cfgRequest l .ident false 0 5 [] := by
  subst hv
  exact if_pos h

theorem State.takesDelay_link (l : Nat) (v : List Int) :
    (s.takesDelay l v).link l = { s.link l with echoSent := 0, echoTags := [], echoVals := [], rejects := 0 } := by
  have hset := s.givesUpSet_link l
  have hreject := State.link_updLink ((s.givesUpSet l).setDelay l (echoMean v)) l fun x => { x with rejects := 0 }
  exact hreject.trans (congrArg (fun x : LinkSt => { x with rejects := 0 }) hset)

theorem State.takesDelay_delay (l : Nat) (v : List Int) :
    (s.takesDelay l v).fld (F.CL_DELAY.VALUE l) = (roundEven (echoMean v)).toNat % 2 ^ (F.CL_DELAY.VALUE l).width := by
  have hreg : R.CL_DELAY l ≠ R.CL_STATE l := by unfold R.CL_DELAY R.CL_STATE; omega
  exact (State.fld_setFld_reg _ _ hreg).trans ((State.fld_eq_of_regs (State.updLink_regs _ l _) _).trans
    ((s.givesUpSet l).fld_setFld_same (F.CL_DELAY.VALUE l) _ (show 0 + 32 ≤ 64 by decide)))

theorem KeepsLinks.rejects {W : Nat → Prop} {l : Nat} {s t : State} (h : KeepsLinks W (unasked l) s t) :
    (t.link l).rejects = (s.link l).rejects := by
  have hview := congrArg LinkSt.rejects h.view
  exact hview

theorem KeepsLinks.echoVals {W : Nat → Prop} {l : Nat} {s t : State} (h : KeepsLinks W (unasked l) s t) :
    (t.link l).echoVals = (s.link l).echoVals := by
  have hview := congrArg LinkSt.echoVals h.view
  exact hview

/-- What the end of the measurement leaves. -/
structure DelayEnds (l : Nat) (v : List Int) (t : State) : Prop where
  state : t.linkState l = lkIdent
  delay : t.fld (F.CL_DELAY.VALUE l) = (roundEven (echoMean v)).toNat % 2 ^ (F.CL_DELAY.VALUE l).width
  rejects : (t.link l).rejects = 0
  vals : (t.link l).echoVals = []

theorem State.delaySet_ends {l : Nat} {v : List Int} (hv : (s.link l).echoVals = v) (h : echoSpread v ≤ 64) :
    DelayEnds l v (s.delaySet l) := by
  have hkeeps := KeepsLinks.cfgRequest (s.takesDelay l v) l .ident false 0 5 []
  have hlink := s.takesDelay_link l v
  have hstate : ¬ TxReg l (R.CL_STATE l) := by unfold TxReg R.CL_STATE R.CL_TX_FRAME_CNT R.CL_CRED_OUT R.CL_CRED_HELD; omega
  have hdelay : ¬ TxReg l (R.CL_DELAY l) := by unfold TxReg R.CL_DELAY R.CL_TX_FRAME_CNT R.CL_CRED_OUT R.CL_CRED_HELD; omega
  rw [s.delaySet_takes hv h]
  constructor
  case state => exact (hkeeps.fld (f := F.CL_STATE.STATE l) hstate).trans (State.linkState_setLinkState _ l (by decide))
  case delay => exact (hkeeps.fld (f := F.CL_DELAY.VALUE l) hdelay).trans (s.takesDelay_delay l v)
  case rejects => exact hkeeps.rejects.trans (congrArg LinkSt.rejects hlink)
  case vals => exact hkeeps.echoVals.trans (congrArg LinkSt.echoVals hlink)

/-! ### Time (R248) -/

theorem State.sendTime_departs {l : Nat} (hclaim : s.claimOn l ≠ 0) (hcurtain : s.curtainOn l = false) :
    s.sendTime l = (s.txFrame l ltTime (s.timePayload l)).updLink l (fun x => { x with jumped := false }) := by
  refine if_neg fun h => ?_
  rcases h.2 with h | h
  · exact hclaim h
  · rw [hcurtain] at h
    exact Bool.false_ne_true h

theorem State.sendTime_unclaimed {l : Nat} (hl : l < 64) (hclaim : s.claimOn l = 0) : s.sendTime l = s := if_pos ⟨hl, .inl hclaim⟩

/-! ### Credits (R255) -/

/-- Frames known to have arrived cost no credits any more. -/
def State.returnsCredits (s : State) (l seen : Nat) : State :=
  (s.updLink l (fun x => { x with costs := x.costs.filter (fun c => sentAfter seen x.txSeq c.1) })).showCredits l

theorem State.returnsCredits_link (l seen : Nat) : (s.returnsCredits l seen).link l =
    { s.link l with costs := (s.link l).costs.filter (fun c => sentAfter seen (s.link l).txSeq c.1) } :=
  (State.link_showCredits _ l l).trans
    (State.link_updLink s l fun x => { x with costs := x.costs.filter (fun c => sentAfter seen x.txSeq c.1) })

theorem State.showCredits_out (l : Nat) : (s.showCredits l).fld (F.CL_CRED_OUT.COUNT l) =
    costSum (s.link l).costs % 2 ^ (F.CL_CRED_OUT.COUNT l).width := by
  have hreg : R.CL_CRED_OUT l ≠ R.CL_CRED_HELD l := by unfold R.CL_CRED_OUT R.CL_CRED_HELD; omega
  exact (State.fld_setFld_reg _ _ hreg).trans (s.fld_setFld_same (F.CL_CRED_OUT.COUNT l) _ (show 0 + 16 ≤ 64 by decide))

theorem State.returnsCredits_out (l seen : Nat) : (s.returnsCredits l seen).fld (F.CL_CRED_OUT.COUNT l) =
    costSum ((s.link l).costs.filter (fun c => sentAfter seen (s.link l).txSeq c.1)) % 2 ^ (F.CL_CRED_OUT.COUNT l).width := by
  unfold State.returnsCredits
  rw [State.showCredits_out, State.link_updLink]

theorem State.returnsCredits_fld (l seen : Nat) {f : Fld} (h : ¬ TxReg l f.reg) : (s.returnsCredits l seen).fld f = s.fld f :=
  ((KeepsLinks.showCredits (g := undeparted l) _ l).fld h).trans (State.fld_eq_of_regs (State.updLink_regs s l _) f)

theorem State.credit_returns {l : Nat} (seen : Nat) (hwait : (s.link l).wait = []) : s.credit l seen = s.returnsCredits l seen :=
  (s.returnsCredits l seen).drain_empty ((congrArg LinkSt.wait (s.returnsCredits_link l seen)).trans hwait)

theorem State.retryMap_none {l : Nat} (h : s.fld (F.CL_CAL_STATE.MAP_PENDING l) = 0) : s.retryMap l = s := by
  unfold State.retryMap State.flag
  rw [h]
  rfl

/-! ### The mailbox is answered (R250) -/

theorem State.mailboxEnds_status (l : Nat) {result : Nat} (h : result < 4) : (s.mailboxEnds l result).fld (F.CL_CFG_STATUS.BUSY l) = 0 ∧
    (s.mailboxEnds l result).fld (F.CL_CFG_STATUS.DONE l) = 1 ∧ (s.mailboxEnds l result).fld (F.CL_CFG_STATUS.RESULT l) = result := by
  have hresult : ∀ (t : State) {f : Fld}, f.reg = R.CL_CFG_STATUS l → f.lsb + f.width ≤ 2 →
      (t.setFld (F.CL_CFG_STATUS.RESULT l) result).fld f = t.fld f := fun t f hreg hlow =>
    t.fld_setFld_apart _ hreg (show 2 + 2 ≤ 64 by decide) (.inl hlow)
  have hbusy := (s.setFld (F.CL_CFG_STATUS.BUSY l) 0).fld_setFld_apart (f := F.CL_CFG_STATUS.DONE l) (g := F.CL_CFG_STATUS.BUSY l) 1 rfl
    (show 1 + 1 ≤ 64 by decide) (.inl (show 0 + 1 ≤ 1 by decide))
  refine ⟨?_, ?_, ?_⟩
  · exact (hresult _ rfl (show 0 + 1 ≤ 2 by decide)).trans (hbusy.trans
      (s.fld_setFld_same (F.CL_CFG_STATUS.BUSY l) 0 (show 0 + 1 ≤ 64 by decide)))
  · exact (hresult _ rfl (show 1 + 1 ≤ 2 by decide)).trans (State.fld_setFld_same _ (F.CL_CFG_STATUS.DONE l) 1 (show 1 + 1 ≤ 64 by decide))
  · exact (State.fld_setFld_same _ (F.CL_CFG_STATUS.RESULT l) result (show 2 + 2 ≤ 64 by decide)).trans (Nat.mod_eq_of_lt h)

theorem State.mailboxEnds_links (l result : Nat) : (s.mailboxEnds l result).links = s.links := rfl

/-- No request is outstanding on a link. -/
def State.forgetsRequests (s : State) (l : Nat) : State := s.updLink l (fun x => { x with cfg := [] })

theorem State.forgetsRequests_link (l : Nat) : (s.forgetsRequests l).link l = { s.link l with cfg := [] } := State.link_updLink s l _

/-- Where one request is outstanding, it is the one an answer with its tag ends. -/
theorem State.cfgAnswer_only {l tag : Nat} {req : CfgReq} (hcfg : (s.link l).cfg = [(tag, req)]) (result : Nat) (words : List Nat) :
    s.cfgAnswer l tag result words = ((s.forgetsRequests l).cfgEnds l req result words).drain l := by
  have herase : s.updLink l (fun x => { x with cfg := x.cfg.erase (tag, req) }) = s.forgetsRequests l := by
    unfold State.forgetsRequests State.updLink
    dsimp only
    rw [hcfg, List.erase_cons_head]
  unfold State.cfgAnswer
  rw [hcfg, List.find?_cons_of_pos (p := fun x : Nat × CfgReq => decide (x.1 = tag)) (decide_eq_true rfl)]
  dsimp only
  rw [herase]

theorem State.cfgTimeout_only {l tag : Nat} {req : CfgReq} (hcfg : (s.link l).cfg = [(tag, req)]) :
    s.cfgTimeout l = ((s.forgetsRequests l).cfgEnds l req cfgTimedOut []).drain l := by
  unfold State.cfgTimeout
  rw [hcfg]
  rfl

/-- A mailbox request without data to store ends with its status only. -/
theorem State.cfgEnds_status (l : Nat) (op : Bool) (result : Nat) : s.cfgEnds l (.mailbox op) result [] = s.mailboxEnds l result := by
  unfold State.cfgEnds
  dsimp only [List.zipIdx_nil, List.foldl_nil]
  rw [ite_self]

theorem State.cfgEnds_word (l w : Nat) : s.cfgEnds l (.mailbox false) 0 [w] = (s.setRv (R.CL_CFG_DATA l 0) w).mailboxEnds l 0 := rfl

/-- After the end of a mailbox request, with nothing waiting, no request is outstanding and nothing departs. -/
theorem State.drain_forgets {l : Nat} {t : State} (hlinks : t.links = (s.forgetsRequests l).links) (hwait : (s.link l).wait = []) :
    t.drain l = t ∧ (t.link l).cfg = [] := by
  have hlink : t.link l = { s.link l with cfg := [] } := (congrArg (FMap.get linkReset · l) hlinks).trans (s.forgetsRequests_link l)
  exact ⟨t.drain_empty ((congrArg LinkSt.wait hlink).trans hwait), congrArg LinkSt.cfg hlink⟩

/-! ### Node status (R252) -/

theorem State.returnStatus_drops (l : AnyLink) (p : List Byte) (h : s.fld (F.QB_CFG.WRITER (s.fld (F.CL_CFG.RET_QB l))) = 0) :
    s.returnStatus l p = s.bump (F.CL_RET_DROP_CNT.COUNT l) := by
  refine if_neg ?_
  unfold State.qbTakes State.flag
  rw [h]
  exact Bool.false_ne_true

/-- A node's flags join those held. -/
def State.holdsFlags (s : State) (l flags : Nat) : State :=
  s.setFld (F.CL_NODE_FLAGS.FLAGS l) (s.fld (F.CL_NODE_FLAGS.FLAGS l) ||| (flags % 64))

theorem State.holdsFlags_flags (l flags : Nat) :
    (s.holdsFlags l flags).fld (F.CL_NODE_FLAGS.FLAGS l) = (s.fld (F.CL_NODE_FLAGS.FLAGS l) ||| flags % 64) :=
  (s.fld_setFld_same (F.CL_NODE_FLAGS.FLAGS l) _ (show 0 + 6 ≤ 64 by decide)).trans
    (Nat.mod_eq_of_lt (Nat.or_lt_two_pow (s.fld_lt (F.CL_NODE_FLAGS.FLAGS l)) (Nat.mod_lt _ (by decide))))

theorem State.holdsFlags_fld (l flags : Nat) {f : Fld} (h : f.reg ≠ R.CL_NODE_FLAGS l) : (s.holdsFlags l flags).fld f = s.fld f :=
  s.fld_setFld_reg _ h

theorem State.nodeFlags_eq {l : Nat} (node : Nat) {flags : Nat} (himage : bit flags 0 = false) : s.nodeFlags l node flags =
    if bit flags 2 && (s.holdsFlags l flags).linkActive l then ((s.holdsFlags l flags).leaveActive l downCredit).toDetect l
    else s.holdsFlags l flags := by
  unfold State.nodeFlags
  rw [himage]
  rfl

end Sys2Proof.Machine
end

section
/-! SUPPORT. What a received frame brings about on its link: echoes, credits, answers and status (R250 to R256, R260). -/

namespace Sys2Proof.Machine

variable (s : State)

/-! ### Registers that a received frame leaves -/

theorem state_notRxReg (l : AnyLink) : ¬ RxReg l (R.CL_STATE l) :=
  notRxReg l (by unfold R.CL_STATE; omega) (by unfold R.CL_STATE; omega) (by unfold R.CL_STATE; omega)

theorem delay_notRxReg (l : AnyLink) : ¬ RxReg l (R.CL_DELAY l) :=
  notRxReg l (by unfold R.CL_DELAY; omega) (by unfold R.CL_DELAY; omega) (by unfold R.CL_DELAY; omega)

theorem calState_notRxReg (l : AnyLink) : ¬ RxReg l (R.CL_CAL_STATE l) :=
  notRxReg l (by unfold R.CL_CAL_STATE; omega) (by unfold R.CL_CAL_STATE; omega) (by unfold R.CL_CAL_STATE; omega)

theorem cfg_notRxReg (l : AnyLink) : ¬ RxReg l (R.CL_CFG l) :=
  notRxReg l (by unfold R.CL_CFG; omega) (by unfold R.CL_CFG; omega) (by unfold R.CL_CFG; omega)

theorem nodeFlags_notRxReg (l : AnyLink) : ¬ RxReg l (R.CL_NODE_FLAGS l) :=
  notRxReg l (by unfold R.CL_NODE_FLAGS; omega) (by unfold R.CL_NODE_FLAGS; omega) (by unfold R.CL_NODE_FLAGS; omega)

theorem retDrop_notRxReg (l : AnyLink) : ¬ RxReg l (R.CL_RET_DROP_CNT l) :=
  notRxReg l (by unfold R.CL_RET_DROP_CNT; omega) (by unfold R.CL_RET_DROP_CNT; omega) (by unfold R.CL_RET_DROP_CNT; omega)

theorem downCnt_notRxReg (l : AnyLink) : ¬ RxReg l (R.CL_DOWN_CNT l) :=
  notRxReg l (by unfold R.CL_DOWN_CNT; omega) (by unfold R.CL_DOWN_CNT; omega) (by unfold R.CL_DOWN_CNT; omega)

theorem State.rxFrame_linkState (l : AnyLink) (h : UpHdr) : (s.rxFrame l h).linkState l = s.linkState l :=
  s.rxFrame_fld l h (f := F.CL_STATE.STATE l) (by show R.CL_STATE l ≠ _; unfold R.CL_STATE R.CL_RX_FRAME_CNT; omega) (state_notRxReg l)

theorem State.rxFrame_linkActive (l : AnyLink) (h : UpHdr) : (s.rxFrame l h).linkActive l = s.linkActive l :=
  congrArg (· == lkActive) (s.rxFrame_linkState l h)

theorem State.rxFrame_echoCount (l : AnyLink) (h : UpHdr) : (s.rxFrame l h).echoCount l = s.echoCount l := by
  unfold State.echoCount
  rw [s.rxFrame_linkActive]

/-! ### What a frame received brings about, with its count -/

/-- What an echo's reply leaves, while its set goes on. -/
structure EchoJoins (l tag : Nat) (r : Int) (s t : State) : Prop where
  vals : (t.link l).echoVals = (s.link l).echoVals ++ [r]
  tags : (t.link l).echoTags = (s.link l).echoTags.filter (· ≠ tag)
  rtt : t.fld (F.CL_RTT_LAST.VALUE l) = ofSigned 32 (roundEven ((r : Rat) / 2))
  counts : Counts s t (F.CL_RX_FRAME_CNT.COUNT l) 1
  delay : t.fld (F.CL_DELAY.VALUE l) = s.fld (F.CL_DELAY.VALUE l)

theorem State.rxEcho_joins (l : AnyLink) (h : UpHdr) (tag : Nat) (r : Int) : EchoJoins l tag r s ((s.rxFrame l h).notesEcho l tag r) := by
  have hlink := (s.rxFrame l h).notesEcho_link l tag r
  have hvals := s.rxFrame_link l h LinkSt.echoVals fun _ _ => rfl
  have htags := s.rxFrame_link l h LinkSt.echoTags fun _ _ => rfl
  constructor
  case vals => rw [hlink, ← hvals]
  case tags => rw [hlink, ← htags]
  case rtt => exact State.notesEcho_rtt _ l tag r
  case counts =>
    exact (State.notesEcho_fld _ l tag r (f := F.CL_RX_FRAME_CNT.COUNT l)
      (by show R.CL_RX_FRAME_CNT l ≠ _; unfold R.CL_RX_FRAME_CNT R.CL_RTT_LAST; omega)).trans (s.rxFrame_countsAny l h)
  case delay =>
    exact (State.notesEcho_fld _ l tag r (f := F.CL_DELAY.VALUE l) (by show R.CL_DELAY l ≠ _; unfold R.CL_DELAY R.CL_RTT_LAST; omega)).trans
      (s.rxFrame_fld l h (f := F.CL_DELAY.VALUE l) (by show R.CL_DELAY l ≠ _; unfold R.CL_DELAY R.CL_RX_FRAME_CNT; omega) (delay_notRxReg l))

/-- What a `CREDIT` leaves, where nothing waits. -/
structure CreditTaken (l seen : Nat) (s t : State) : Prop where
  costs : (t.link l).costs = (s.link l).costs.filter (fun c => sentAfter seen (s.link l).txSeq c.1)
  out : t.fld (F.CL_CRED_OUT.COUNT l) =
    costSum ((s.link l).costs.filter (fun c => sentAfter seen (s.link l).txSeq c.1)) % 2 ^ (F.CL_CRED_OUT.COUNT l).width
  counts : Counts s t (F.CL_RX_FRAME_CNT.COUNT l) 1

theorem State.rxCredit_taken (l : AnyLink) (h : UpHdr) (seen : Nat) : CreditTaken l seen s ((s.rxFrame l h).returnsCredits l seen) := by
  have hlink := (s.rxFrame l h).returnsCredits_link l seen
  have hcosts := s.rxFrame_link l h LinkSt.costs fun _ _ => rfl
  have htxSeq := s.rxFrame_link l h LinkSt.txSeq fun _ _ => rfl
  constructor
  case costs => rw [hlink, ← hcosts, ← htxSeq]
  case out => rw [State.returnsCredits_out, hcosts, htxSeq]
  case counts =>
    have hreg : ¬ TxReg l (R.CL_RX_FRAME_CNT l) := by unfold TxReg R.CL_RX_FRAME_CNT R.CL_TX_FRAME_CNT R.CL_CRED_OUT R.CL_CRED_HELD; omega
    exact (State.returnsCredits_fld _ l seen (f := F.CL_RX_FRAME_CNT.COUNT l) hreg).trans (s.rxFrame_countsAny l h)

/-- With no map write pending, a `CREDIT` on an `ACTIVE` link where nothing waits does no more. -/
theorem State.rxCredit_eq (l : AnyLink) (h : UpHdr) (seen : Nat) (hwait : (s.link l).wait = [])
    (hmap : s.fld (F.CL_CAL_STATE.MAP_PENDING l) = 0) :
    ((s.rxFrame l h).credit l seen).retryMap l = (s.rxFrame l h).returnsCredits l seen := by
  have hwaits : ((s.rxFrame l h).link l).wait = [] := (s.rxFrame_link l h LinkSt.wait fun _ _ => rfl).trans hwait
  have htx : ¬ TxReg l (R.CL_CAL_STATE l) := by unfold TxReg R.CL_CAL_STATE R.CL_TX_FRAME_CNT R.CL_CRED_OUT R.CL_CRED_HELD; omega
  have hcount : R.CL_CAL_STATE l ≠ R.CL_RX_FRAME_CNT l := by unfold R.CL_CAL_STATE R.CL_RX_FRAME_CNT; omega
  have hpending : ((s.rxFrame l h).returnsCredits l seen).fld (F.CL_CAL_STATE.MAP_PENDING l) = 0 :=
    (State.returnsCredits_fld _ l seen (f := F.CL_CAL_STATE.MAP_PENDING l) htx).trans
      ((s.rxFrame_fld l h (f := F.CL_CAL_STATE.MAP_PENDING l) hcount (calState_notRxReg l)).trans hmap)
  rw [State.credit_returns _ seen hwaits, State.retryMap_none _ hpending]

/-- What the answer to a mailbox request that was alone outstanding leaves. -/
structure MailboxAnswered (l result : Nat) (t : State) : Prop where
  busy : t.fld (F.CL_CFG_STATUS.BUSY l) = 0
  done : t.fld (F.CL_CFG_STATUS.DONE l) = 1
  result : t.fld (F.CL_CFG_STATUS.RESULT l) = result
  cfg : (t.link l).cfg = []

/-- A mailbox request without data to store ends with its status; nothing that waits departs. -/
theorem State.mailbox_status {l : Nat} (op : Bool) {result : Nat} (hresult : result < 4) (hwait : (s.link l).wait = []) :
    ((s.forgetsRequests l).cfgEnds l (.mailbox op) result []).drain l = (s.forgetsRequests l).mailboxEnds l result ∧
    MailboxAnswered l result ((s.forgetsRequests l).mailboxEnds l result) := by
  obtain ⟨hbusy, hdone, hres⟩ := (s.forgetsRequests l).mailboxEnds_status l hresult
  obtain ⟨hdrain, hcfg⟩ := s.drain_forgets ((s.forgetsRequests l).mailboxEnds_links l result) hwait
  rw [State.cfgEnds_status]
  exact ⟨hdrain, hbusy, hdone, hres, hcfg⟩

/-- The word of a read is stored. -/
def State.storesWord (s : State) (l w : Nat) : State := (s.setRv (R.CL_CFG_DATA l 0) w).mailboxEnds l 0

theorem LinkWork.storesWord (l w : Nat) : LinkWork (fun o => o = R.CL_CFG_DATA l 0 ∨ o = R.CL_CFG_STATUS l) s (s.storesWord l w) :=
  (LinkWork.setRv s w (.inl rfl)).trans (LinkWork.mailboxEnds _ l 0 (.inr rfl))

theorem State.storesWord_word (l : Nat) {w : Nat} (hw : w < 2 ^ 32) : (s.storesWord l w).fld (F.CL_CFG_DATA.WORD l 0) = w := by
  have hreg : R.CL_CFG_DATA l 0 ≠ R.CL_CFG_STATUS l := by unfold R.CL_CFG_DATA R.CL_CFG_STATUS; omega
  have hkept := (LinkWork.mailboxEnds (W := (· = R.CL_CFG_STATUS l)) (s.setRv (R.CL_CFG_DATA l 0) w) l 0 rfl).rv _ hreg
  have hfull : w % 2 ^ 64 = w := Nat.mod_eq_of_lt (hw.trans (by decide))
  have hrv : (s.storesWord l w).rv (R.CL_CFG_DATA l 0) = w := hkept.trans ((s.rv_setRv_same _ w).trans hfull)
  change bits ((s.storesWord l w).rv (R.CL_CFG_DATA l 0)) 0 32 = w
  rw [hrv]
  unfold bits
  rw [pow_zero, Nat.div_one, Nat.mod_eq_of_lt hw]

/-- A read's answer is stored, and ends the request. -/
theorem State.mailbox_word {l : Nat} (w : Nat) (hwait : (s.link l).wait = []) :
    ((s.forgetsRequests l).cfgEnds l (.mailbox false) 0 [w]).drain l = (s.forgetsRequests l).storesWord l w ∧
    MailboxAnswered l 0 ((s.forgetsRequests l).storesWord l w) := by
  obtain ⟨hbusy, hdone, hres⟩ := ((s.forgetsRequests l).setRv (R.CL_CFG_DATA l 0) w).mailboxEnds_status l (result := 0) (by decide)
  have hlinks : ((s.forgetsRequests l).storesWord l w).links = (s.forgetsRequests l).links := rfl
  obtain ⟨hdrain, hcfg⟩ := s.drain_forgets hlinks hwait
  rw [State.cfgEnds_word]
  exact ⟨hdrain, hbusy, hdone, hres, hcfg⟩

/-- What a `STATUS` leaves before its flags act, where no queue takes it. -/
def State.dropsStatus (s : State) (l : Nat) (h : UpHdr) : State := (s.rxFrame l h).bump (F.CL_RET_DROP_CNT.COUNT l)

theorem State.rxFrame_returnStatus (l : AnyLink) (h : UpHdr) (p : List Byte)
    (hwriter : s.fld (F.QB_CFG.WRITER (s.fld (F.CL_CFG.RET_QB l))) = 0) : (s.rxFrame l h).returnStatus l p = s.dropsStatus l h := by
  have hqueue : (s.rxFrame l h).fld (F.CL_CFG.RET_QB l) = s.fld (F.CL_CFG.RET_QB l) :=
    s.rxFrame_fld l h (f := F.CL_CFG.RET_QB l) (by show R.CL_CFG l ≠ _; unfold R.CL_CFG R.CL_RX_FRAME_CNT; omega) (cfg_notRxReg l)
  have hlt : s.fld (F.CL_CFG.RET_QB l) < 32 := s.fld_lt (F.CL_CFG.RET_QB l)
  have hreg : R.QB_CFG (s.fld (F.CL_CFG.RET_QB l)) ≠ R.CL_RX_FRAME_CNT l := by unfold R.QB_CFG R.CL_RX_FRAME_CNT; omega
  refine State.returnStatus_drops _ l p ?_
  rw [hqueue]
  exact (s.rxFrame_fld l h (f := F.QB_CFG.WRITER (s.fld (F.CL_CFG.RET_QB l))) hreg (notRxReg_queue l hlt)).trans hwriter

theorem State.dropsStatus_fld (l : AnyLink) (h : UpHdr) {f : Fld} (hdrop : f.reg ≠ R.CL_RET_DROP_CNT l)
    (hcount : f.reg ≠ R.CL_RX_FRAME_CNT l) (hf : ¬ RxReg l f.reg) : (s.dropsStatus l h).fld f = s.fld f :=
  (State.fld_setFld_reg _ _ hdrop).trans (s.rxFrame_fld l h hcount hf)

theorem State.dropsStatus_drops (l : AnyLink) (h : UpHdr) : Counts s (s.dropsStatus l h) (F.CL_RET_DROP_CNT.COUNT l) 1 := by
  have hkept := s.rxFrame_fld l h (f := F.CL_RET_DROP_CNT.COUNT l)
    (by show R.CL_RET_DROP_CNT l ≠ _; unfold R.CL_RET_DROP_CNT R.CL_RX_FRAME_CNT; omega) (retDrop_notRxReg l)
  exact ((s.rxFrame l h).counts_bump (f := F.CL_RET_DROP_CNT.COUNT l) (show 0 + 64 ≤ 64 by decide)).trans
    (congrArg (fun c => (c + 1) % 2 ^ 64) hkept)

theorem State.dropsStatus_counts (l : AnyLink) (h : UpHdr) : Counts s (s.dropsStatus l h) (F.CL_RX_FRAME_CNT.COUNT l) 1 := by
  have hreg : R.CL_RX_FRAME_CNT l ≠ R.CL_RET_DROP_CNT l := by unfold R.CL_RX_FRAME_CNT R.CL_RET_DROP_CNT; omega
  exact (State.fld_setFld_reg _ _ hreg).trans (s.rxFrame_countsAny l h)

/-- What a `STATUS` leaves whose flags only are held. -/
structure StatusHeld (l : AnyLink) (flags : Nat) (s t : State) : Prop where
  flags : t.fld (F.CL_NODE_FLAGS.FLAGS l) = (s.fld (F.CL_NODE_FLAGS.FLAGS l) ||| flags % 64)
  drops : Counts s t (F.CL_RET_DROP_CNT.COUNT l) 1
  counts : Counts s t (F.CL_RX_FRAME_CNT.COUNT l) 1

theorem State.dropsStatus_held (l : AnyLink) (h : UpHdr) (flags : Nat) : StatusHeld l flags s ((s.dropsStatus l h).holdsFlags l flags) := by
  have hflagsDrop : R.CL_NODE_FLAGS l ≠ R.CL_RET_DROP_CNT l := by unfold R.CL_NODE_FLAGS R.CL_RET_DROP_CNT; omega
  have hflagsCount : R.CL_NODE_FLAGS l ≠ R.CL_RX_FRAME_CNT l := by unfold R.CL_NODE_FLAGS R.CL_RX_FRAME_CNT; omega
  have hkept := s.dropsStatus_fld l h (f := F.CL_NODE_FLAGS.FLAGS l) hflagsDrop hflagsCount (nodeFlags_notRxReg l)
  constructor
  case flags => rw [State.holdsFlags_flags, hkept]
  case drops => exact (State.holdsFlags_fld _ l flags (f := F.CL_RET_DROP_CNT.COUNT l) hflagsDrop.symm).trans (s.dropsStatus_drops l h)
  case counts => exact (State.holdsFlags_fld _ l flags (f := F.CL_RX_FRAME_CNT.COUNT l) hflagsCount.symm).trans (s.dropsStatus_counts l h)

/-- A link that leaves `ACTIVE` after a `STATUS` is counted as it would be before. -/
theorem State.flowLost_counts (l : AnyLink) (h : UpHdr) (flags : Nat) (hactive : s.linkActive l = true) :
    ((s.dropsStatus l h).holdsFlags l flags).linkActive l = true ∧
    Counts s ((((s.dropsStatus l h).holdsFlags l flags).leaveActive l downCredit).toDetect l) (F.CL_DOWN_CNT.COUNT l) 1 := by
  have hstate : ((s.dropsStatus l h).holdsFlags l flags).linkState l = s.linkState l :=
    (State.holdsFlags_fld _ l flags (f := F.CL_STATE.STATE l) (by show R.CL_STATE l ≠ _; unfold R.CL_STATE R.CL_NODE_FLAGS; omega)).trans
      (s.dropsStatus_fld l h (f := F.CL_STATE.STATE l) (by show R.CL_STATE l ≠ _; unfold R.CL_STATE R.CL_RET_DROP_CNT; omega)
        (by show R.CL_STATE l ≠ _; unfold R.CL_STATE R.CL_RX_FRAME_CNT; omega) (state_notRxReg l))
  have hdown : ((s.dropsStatus l h).holdsFlags l flags).fld (F.CL_DOWN_CNT.COUNT l) = s.fld (F.CL_DOWN_CNT.COUNT l) :=
    (State.holdsFlags_fld _ l flags (f := F.CL_DOWN_CNT.COUNT l)
      (by show R.CL_DOWN_CNT l ≠ _; unfold R.CL_DOWN_CNT R.CL_NODE_FLAGS; omega)).trans
      (s.dropsStatus_fld l h (f := F.CL_DOWN_CNT.COUNT l) (by show R.CL_DOWN_CNT l ≠ _; unfold R.CL_DOWN_CNT R.CL_RET_DROP_CNT; omega)
        (by show R.CL_DOWN_CNT l ≠ _; unfold R.CL_DOWN_CNT R.CL_RX_FRAME_CNT; omega) (downCnt_notRxReg l))
  have hstays : ((s.dropsStatus l h).holdsFlags l flags).linkActive l = true := (congrArg (· == lkActive) hstate).trans hactive
  exact ⟨hstays, (State.leaveActive_leaves _ l downCredit hstays).toDetect.counts.trans (congrArg (fun c => (c + 1) % 2 ^ 64) hdown)⟩

/-- What a read's answer leaves, as a frame received. -/
theorem State.rxWord_counts (l : AnyLink) (h : UpHdr) (w : Nat) :
    Counts s (((s.rxFrame l h).forgetsRequests l).storesWord l w) (F.CL_RX_FRAME_CNT.COUNT l) 1 := by
  have hreg : ¬ (R.CL_RX_FRAME_CNT l = R.CL_CFG_DATA l 0 ∨ R.CL_RX_FRAME_CNT l = R.CL_CFG_STATUS l) := by
    unfold R.CL_RX_FRAME_CNT R.CL_CFG_DATA R.CL_CFG_STATUS
    omega
  have hforgets : ((s.rxFrame l h).forgetsRequests l).fld (F.CL_RX_FRAME_CNT.COUNT l) = (s.rxFrame l h).fld (F.CL_RX_FRAME_CNT.COUNT l) :=
    State.fld_eq_of_regs (State.updLink_regs _ l _) _
  exact ((LinkWork.storesWord _ l w).fld (f := F.CL_RX_FRAME_CNT.COUNT l) hreg).trans (hforgets.trans (s.rxFrame_countsAny l h))

/-- What a `TIME` on a claimed link leaves. -/
structure TimeSent (l : Nat) (s t : State) : Prop where
  sent : t.sent = s.sent ++ [.linkFrame l ltTime (s.claimOn l) (s.link l).txSeq (s.timePayload l)] ++
    s.blockWords l (frameBlocks ltTime (s.claimOn l) (s.link l).txSeq (s.timePayload l))
  jumped : (t.link l).jumped = false
  txSeq : (t.link l).txSeq = ((s.link l).txSeq + 1) % 65536
  counts : Counts s t (F.CL_TX_FRAME_CNT.COUNT l) 1
  evt : t.evt = s.evt

theorem State.sendTime_sent {l : Nat} (hclaim : s.claimOn l ≠ 0) (hcurtain : s.curtainOn l = false) : TimeSent l s (s.sendTime l) := by
  obtain ⟨hsent, hlink, hcounts, hevt⟩ := s.txFrame_transmits ltTime (s.timePayload l) (l := l) (by rw [hcurtain]; rfl)
  rw [s.sendTime_departs hclaim hcurtain]
  generalize s.txFrame l ltTime (s.timePayload l) = u at hsent hlink hcounts hevt
  exact ⟨hsent, by rw [State.link_updLink], by rw [State.link_updLink, hlink], hcounts, hevt⟩

/-! ### The commands, where they act -/

theorem State.echoSend_may {l : Nat} (hup : s.linkUp l = true) (hst : s.linkState l = lkDelay ∨ s.linkActive l = true)
    (hcurtain : (s.curtainOn l && s.linkActive l) = false) :
    (s.linkUp l && (s.linkState l == lkDelay || (s.linkActive l && !s.curtainOn l))) = true := by
  rw [hup, Bool.true_and, Bool.or_eq_true, beq_iff_eq]
  refine hst.imp_right fun hactive => ?_
  rw [hactive, Bool.and_true] at hcurtain
  rw [hactive, hcurtain]
  rfl

theorem State.execEchoReply_matched (l : AnyLink) (h : UpHdr) {tag : Word} (turn : Word) (rtt : Nat)
    (htag : (s.link l).echoTags.contains tag.toNat = true) : execEchoReply l h tag turn rtt s =
      s.done (s.when (s.linkTalks l) ((s.rxFrame l h).echoValue l tag.toNat turn.toNat rtt)) := by
  have htags := s.rxFrame_link l h LinkSt.echoTags fun _ _ => rfl
  unfold execEchoReply
  dsimp only
  rw [htags, htag, if_pos rfl]

theorem State.execStatusReceived_drops (l : AnyLink) (h : UpHdr) (node : BitVec 16) {flags : BitVec 16} (temp : BitVec 16) {extra : List Byte}
    (hextra : extra.length ≤ 56 ∧ extra.length % 8 = 0) (hwriter : s.fld (F.QB_CFG.WRITER (s.fld (F.CL_CFG.RET_QB l))) = 0) :
    execStatusReceived l h node flags temp extra s =
      s.done (s.when (s.linkTalks l) ((s.dropsStatus l h).nodeFlags l node.toNat flags.toNat)) := by
  unfold execStatusReceived
  rw [if_neg (by omega), s.rxFrame_returnStatus l h _ hwriter]

theorem State.execCfgResponse_answers (l : AnyLink) (h : UpHdr) (tag : BitVec 16) {result : Byte} {words : List Word}
    (hlen : words.length ≤ 64) (hresult : result.toNat ≤ 2) : execCfgResponse l h tag result words s =
      s.done (s.when (s.linkTalks l) ((s.rxFrame l h).cfgAnswer l tag.toNat result.toNat (words.map (·.toNat)))) := by
  unfold execCfgResponse
  rw [if_neg (Nat.not_lt.2 hlen)]
  exact congrArg (fun u => s.done (s.when (s.linkTalks l) u)) (if_pos hresult)

end Sys2Proof.Machine
end

section
/-! SETTLED. Delay measurement, time, credits, the configuration mailbox and node status (R235 to R264). -/

namespace Sys2Proof.Machine

/-- Settles O38, by what a departing and a received frame leave of their link. -/
theorem linkFramesAndDelay : Obligations.Link_frames_and_delay := by
  unfold Obligations.Link_frames_and_delay
  refine ⟨?echo, ?echoAfterSet, ?reply, ?replyEnds, ?mailboxGo, ?time, ?timeUnclaimed, ?creditTimeout, ?credit, ?badFrame, ?answer,
    ?answerError, ?answerTimeout, ?status, ?flowLost⟩
  case echo =>
    rintro s l hup hst ⟨hopen, hcurtain⟩
    have hlink := s.sendsEcho_link hcurtain
    have hsent := s.sendsEcho_sent hcurtain
    have hevt := s.sendsEcho_evt l
    change Answers (s.done (s.when _ (s.echoSend l))) _
    rw [s.echoSend_eq, s.echoBegin_open hopen]
    refine answers_when s (s.echoSend_may hup hst hcurtain) fun t ht => ?_
    rw [← ht] at hlink hsent hevt
    exact ⟨hsent, congrArg LinkSt.echoTags hlink, congrArg LinkSt.echoSent hlink, congrArg LinkSt.echoNext hlink, hevt⟩
  case echoAfterSet =>
    rintro s l hup hst ⟨hfull, hcurtain⟩
    have hlink := (s.givesUpSet l).sendsEcho_link hcurtain
    have hevt := (s.givesUpSet l).sendsEcho_evt l
    rw [s.givesUpSet_link] at hlink
    change Answers (s.done (s.when _ (s.echoSend l))) _
    rw [s.echoSend_eq, s.echoBegin_full hfull]
    refine answers_when s (s.echoSend_may hup hst hcurtain) fun t ht => ?_
    rw [← ht] at hlink hevt
    exact ⟨congrArg LinkSt.echoTags hlink, congrArg LinkSt.echoSent hlink, congrArg LinkSt.echoVals hlink, hevt⟩
  case reply =>
    intro s l h tag turn rtt htalks htag hopen
    have hjoins := s.rxEcho_joins l h tag.toNat ((rtt : Int) - 64 * (turn.toNat : Int))
    have hopen' : ((s.rxFrame l h).link l).echoVals.length + 1 < (s.rxFrame l h).echoCount l := by
      rw [s.rxFrame_link l h LinkSt.echoVals fun _ _ => rfl, s.rxFrame_echoCount]
      exact hopen
    change Answers (execEchoReply l h tag turn rtt s) _
    rw [s.execEchoReply_matched l h turn rtt htag, State.echoValue_open _ _ _ _ hopen']
    refine answers_when s htalks fun t ht => ?_
    rw [← ht] at hjoins
    exact ⟨hjoins.vals, hjoins.tags, hjoins.rtt, hjoins.counts, hjoins.delay⟩
  case replyEnds =>
    rintro s l h tag turn rtt v htalks ⟨hst, htag⟩ ⟨hv, hlen, hspread⟩
    have hjoins := s.rxEcho_joins l h tag.toNat ((rtt : Int) - 64 * (turn.toNat : Int))
    have hends := State.delaySet_ends _ (hjoins.vals.trans hv.symm) hspread
    have hidle : (s.rxFrame l h).linkActive l = false := by
      rw [s.rxFrame_linkActive, State.linkActive, hst]
      rfl
    have hfull : ((s.rxFrame l h).link l).echoVals.length + 1 = 64 := by
      rw [s.rxFrame_link l h LinkSt.echoVals fun _ _ => rfl, ← hlen, hv, List.length_append]
      rfl
    change Answers (execEchoReply l h tag turn rtt s) _
    rw [s.execEchoReply_matched l h turn rtt htag, State.echoValue_full _ _ _ _ hidle hfull]
    refine answers_when s htalks fun t ht => ?_
    rw [← ht] at hends
    exact ⟨hends.state, hends.delay, hends.rejects, hends.vals⟩
  case mailboxGo =>
    rintro s l hup ⟨hidle, hactive, hop⟩ ⟨hwait, hheld, hcurtain⟩
    have hreads := s.mailboxGo_reads hactive hop hwait hheld hcurtain
    change Answers (s.done (s.when (s.linkUp l && !s.flag (F.CL_CFG_STATUS.BUSY l)) (s.mailboxGo l))) _
    refine answers_when s (by rw [hup, State.flag, hidle]; rfl) fun t ht => ?_
    rw [← ht] at hreads
    exact ⟨hreads.busy, hreads.departs.sent.trans (List.append_cons _ _ _), hreads.cfg⟩
  case time =>
    rintro s l hup ⟨hactive, hclaim, hcurtain⟩
    have hsent := s.sendTime_sent hclaim hcurtain
    change Answers (s.done (s.when (s.linkUp l && s.linkActive l) (s.sendTime l))) _
    refine answers_when s (by rw [hup, hactive]; rfl) fun t ht => ?_
    rw [← ht] at hsent
    exact ⟨hsent.sent, hsent.jumped, hsent.txSeq, hsent.counts, hsent.evt⟩
  case timeUnclaimed =>
    rintro s l hup ⟨hactive, hclaim⟩
    change s.done (s.when (s.linkUp l && s.linkActive l) (s.sendTime l)) = _
    rw [s.sendTime_unclaimed l.isLt hclaim]
    exact done_when s (by rw [hup, hactive]; rfl) rfl rfl
  case creditTimeout =>
    rintro s l hup ⟨hactive, hout, hroom⟩
    have hleft := (s.leaveActive_leaves l downCredit hactive).toDetect
    have hstate := (s.leaveActive l downCredit).toDetect_linkState l
    obtain ⟨-, -, hcredits⟩ := (s.leaveActive l downCredit).toDetect_credits l
    change Answers (s.done (s.when (s.linkUp l && s.linkActive l && decide (0 < s.fld (F.CL_CRED_OUT.COUNT l)))
      ((s.leaveActive l downCredit).toDetect l))) _
    refine answers_when s (by rw [hup, hactive, decide_eq_true hout]; rfl) fun t ht => ?_
    rw [← ht] at hleft hstate hcredits
    exact ⟨hstate, hleft.counts, hleft.raises (State.evtUp_of_linkUp s hup) hroom, hcredits⟩
  case credit =>
    rintro s l h seen htalks ⟨hactive, hwait, hmap⟩ hclaim
    have htaken := s.rxCredit_taken l h seen.toNat
    have hsent : ((s.rxFrame l h).returnsCredits l seen.toNat).sent = s.sent := (State.setFld_sent _ _ _).trans (s.rxFrame_sent l h hclaim)
    change Answers (s.done (s.when (s.linkTalks l)
      (if (s.rxFrame l h).linkActive l then ((s.rxFrame l h).credit l seen.toNat).retryMap l else s.rxFrame l h))) _
    rw [s.rxFrame_linkActive, hactive, if_pos rfl, s.rxCredit_eq l h _ hwait hmap]
    refine answers_when s htalks fun t ht => ?_
    rw [← ht] at htaken hsent
    exact ⟨htaken.costs, htaken.out, htaken.counts, hsent⟩
  case badFrame =>
    intro s l b htalks hbad
    change s.done (s.when (s.linkTalks l && frameBad (s.rxLengths l) b) (s.bump (F.CL_RX_BAD_CNT.COUNT l))) = _
    exact done_when s (by rw [htalks, hbad]; rfl) rfl rfl
  case answer =>
    rintro s l h tag w htalks ⟨hcfg, hwait⟩
    have hcfg' := (s.rxFrame_link l h LinkSt.cfg fun _ _ => rfl).trans hcfg
    have hwait' := (s.rxFrame_link l h LinkSt.wait fun _ _ => rfl).trans hwait
    obtain ⟨hdrain, hanswered⟩ := (s.rxFrame l h).mailbox_word w.toNat hwait'
    have hword := ((s.rxFrame l h).forgetsRequests l).storesWord_word l w.isLt
    have hcounts := s.rxWord_counts l h w.toNat
    change Answers (execCfgResponse l h tag 0 [w] s) _
    rw [s.execCfgResponse_answers l h tag (result := 0) (words := [w]) (show 1 ≤ 64 by decide) (show 0 ≤ 2 by decide)]
    change Answers (s.done (s.when _ ((s.rxFrame l h).cfgAnswer l tag.toNat 0 [w.toNat]))) _
    rw [State.cfgAnswer_only _ hcfg', hdrain]
    refine answers_when s htalks fun t ht => ?_
    rw [← ht] at hanswered hword hcounts
    exact ⟨hword, hanswered.busy, hanswered.done, hanswered.result, hanswered.cfg, hcounts⟩
  case answerError =>
    rintro s l h tag r op htalks ⟨hcfg, hwait, hlow, hhigh⟩
    have hcfg' := (s.rxFrame_link l h LinkSt.cfg fun _ _ => rfl).trans hcfg
    have hwait' := (s.rxFrame_link l h LinkSt.wait fun _ _ => rfl).trans hwait
    obtain ⟨hdrain, hanswered⟩ := (s.rxFrame l h).mailbox_status op (show r.toNat < 4 by omega) hwait'
    change Answers (execCfgResponse l h tag r [] s) _
    rw [s.execCfgResponse_answers l h tag (words := []) (show 0 ≤ 64 by decide) hhigh, State.cfgAnswer_only _ hcfg', List.map_nil, hdrain]
    refine answers_when s htalks fun t ht => ?_
    rw [← ht] at hanswered
    exact ⟨hanswered.busy, hanswered.done, hanswered.result, hanswered.cfg⟩
  case answerTimeout =>
    rintro s l tag op hup ⟨hcfg, hwait⟩
    obtain ⟨hdrain, hanswered⟩ := s.mailbox_status op (show cfgTimedOut < 4 by decide) hwait
    have hwork := LinkWork.mailboxEnds (W := (· = R.CL_CFG_STATUS l)) (s.forgetsRequests l) l cfgTimedOut rfl
    have hsent := hwork.sent
    have hevt := hwork.evt
    change Answers (s.done (s.when (s.linkUp l) (s.cfgTimeout l))) _
    rw [s.cfgTimeout_only hcfg, hdrain]
    refine answers_when s hup fun t ht => ?_
    rw [← ht] at hanswered hsent hevt
    exact ⟨hanswered.busy, hanswered.done, hanswered.result, hanswered.cfg, hsent, hevt⟩
  case status =>
    rintro s l h node flags temp extra htalks ⟨hlen, hwords⟩ hwriter ⟨himage, hflow⟩
    have hheld := s.dropsStatus_held l h flags.toNat
    change Answers (execStatusReceived l h node flags temp extra s) _
    rw [s.execStatusReceived_drops l h node temp ⟨hlen, hwords⟩ hwriter, State.nodeFlags_eq _ _ himage, hflow, Bool.false_and,
      if_neg Bool.false_ne_true]
    refine answers_when s htalks fun t ht => ?_
    rw [← ht] at hheld
    exact ⟨hheld.flags, hheld.drops, hheld.counts⟩
  case flowLost =>
    rintro s l h node flags temp extra htalks ⟨hlen, hwords, -⟩ hwriter ⟨himage, hflow, hactive⟩
    obtain ⟨hstays, hcounts⟩ := s.flowLost_counts l h flags.toNat hactive
    have hstate := (((s.dropsStatus l h).holdsFlags l flags.toNat).leaveActive l downCredit).toDetect_linkState l
    change Answers (execStatusReceived l h node flags temp extra s) _
    rw [s.execStatusReceived_drops l h node temp ⟨hlen, hwords⟩ hwriter, State.nodeFlags_eq _ _ himage, hflow, hstays,
      Bool.true_and, if_pos rfl]
    refine answers_when s htalks fun t ht => ?_
    rw [← ht] at hcounts hstate
    exact ⟨hstate, hcounts⟩

end Sys2Proof.Machine
end


section
/-! SUPPORT. Calibration states, lane maps and marks: what each of their setters changes and leaves, and what a rotation leaves of the
registers (R272 to R279). -/

namespace Sys2Proof.Machine

variable (s : State)

/-! ### The map, the marks and the phases depend on their own registers (R272, R276) -/

/-- Registers of the marks of a link's lanes. -/
def MarkReg (l o : Nat) : Prop := ∃ k, o = R.CL_TXL_ROLE l k ∨ o = R.CL_RXL_ROLE l k

theorem laneMap_notMarkReg (l : Nat) : ¬ MarkReg l (R.CL_LANE_MAP l) := by
  unfold MarkReg R.CL_LANE_MAP R.CL_TXL_ROLE R.CL_RXL_ROLE
  omega

theorem calState_notMarkReg (l m : Nat) : ¬ MarkReg l (R.CL_CAL_STATE m) := by
  unfold MarkReg R.CL_CAL_STATE R.CL_TXL_ROLE R.CL_RXL_ROLE
  omega

theorem laneMap_ne_calState (l m : Nat) : R.CL_LANE_MAP l ≠ R.CL_CAL_STATE m := by unfold R.CL_LANE_MAP R.CL_CAL_STATE; omega
theorem calTemp_ne_calState (l m : Nat) : R.CL_CAL_TEMP l ≠ R.CL_CAL_STATE m := by unfold R.CL_CAL_TEMP R.CL_CAL_STATE; omega

theorem State.fld_of_rv {s t : State} {f : Fld} (h : t.rv f.reg = s.rv f.reg) : t.fld f = s.fld f := congrArg (bits · f.lsb f.width) h

theorem State.swingLane_of_rv {s t : State} {l : Nat} (h : t.rv (R.CL_LANE_MAP l) = s.rv (R.CL_LANE_MAP l)) (dir : Nat) :
    t.swingLane l dir = s.swingLane l dir := by
  unfold State.swingLane
  rw [State.fld_of_rv (f := F.CL_LANE_MAP.RX_SWING l) h, State.fld_of_rv (f := F.CL_LANE_MAP.TX_SWING l) h]

theorem State.laneMark_of_rv {s t : State} {l : Nat} (h : ∀ o, MarkReg l o → t.rv o = s.rv o) (dir k : Nat) :
    t.laneMark l dir k = s.laneMark l dir k := by
  unfold State.laneMark
  rw [State.fld_of_rv (f := F.CL_RXL_ROLE.MARK l k) (h _ ⟨k, .inr rfl⟩), State.fld_of_rv (f := F.CL_TXL_ROLE.MARK l k) (h _ ⟨k, .inl rfl⟩)]

theorem State.goodLanes_of_rv {s t : State} {l : Nat} (h : ∀ o, MarkReg l o → t.rv o = s.rv o) (dir : Nat) :
    t.goodLanes l dir = s.goodLanes l dir := by
  unfold State.goodLanes
  simp only [State.laneMark_of_rv h]

theorem State.calUnitBusy_of_rv {s t : State} (h : ∀ m, t.rv (R.CL_CAL_STATE m) = s.rv (R.CL_CAL_STATE m)) (l : Nat) :
    t.calUnitBusy l = s.calUnitBusy l := by
  have hphase : ∀ m, t.calPhase m = s.calPhase m := fun m => State.fld_of_rv (f := F.CL_CAL_STATE.PHASE m) (h m)
  unfold State.calUnitBusy
  simp only [hphase]

/-! ### Setters -/

theorem State.swingLane_setSwing (l dir : Nat) {k : Nat} (hk : k < 4) : (s.setSwing l dir k).swingLane l dir = k := by
  have hmod : k % 2 ^ 2 = k := Nat.mod_eq_of_lt hk
  unfold State.setSwing State.swingLane
  split
  · exact (s.fld_setFld_same (F.CL_LANE_MAP.RX_SWING l) k (show 8 + 2 ≤ 64 by decide)).trans hmod
  · exact (s.fld_setFld_same (F.CL_LANE_MAP.TX_SWING l) k (show 4 + 2 ≤ 64 by decide)).trans hmod

theorem State.laneMark_setMark (l dir k : Nat) {m : Nat} (hm : m < 4) : (s.setMark l dir k m).laneMark l dir k = m := by
  have hmod : m % 2 ^ 2 = m := Nat.mod_eq_of_lt hm
  unfold State.setMark State.laneMark
  split
  · exact (s.fld_setFld_same (F.CL_RXL_ROLE.MARK l k) m (show 2 + 2 ≤ 64 by decide)).trans hmod
  · exact (s.fld_setFld_same (F.CL_TXL_ROLE.MARK l k) m (show 2 + 2 ≤ 64 by decide)).trans hmod

theorem State.calPhase_setCalPhase (l : Nat) {p : Nat} (hp : p < 8) : (s.setCalPhase l p).calPhase l = p :=
  (s.fld_setFld_same (F.CL_CAL_STATE.PHASE l) p (show 0 + 3 ≤ 64 by decide)).trans (Nat.mod_eq_of_lt hp)

/-- A link's phase leaves the rest of its calibration state. -/
theorem State.fld_setCalPhase (l p : Nat) {f : Fld} (hreg : f.reg = R.CL_CAL_STATE l) (hlow : 3 ≤ f.lsb) :
    (s.setCalPhase l p).fld f = s.fld f :=
  s.fld_setFld_apart (f := F.CL_CAL_STATE.PHASE l) p hreg (show 0 + 3 ≤ 64 by decide) (.inr hlow)

theorem LinkWork.setSwing {W : Nat → Prop} (l dir k : Nat) (h : W (R.CL_LANE_MAP l)) : LinkWork W s (s.setSwing l dir k) :=
  LinkWork.ite (LinkWork.setFld s (f := F.CL_LANE_MAP.RX_SWING l) k h) (LinkWork.setFld s (f := F.CL_LANE_MAP.TX_SWING l) k h)

theorem LinkWork.setMark (l dir k m : Nat) : LinkWork (MarkReg l) s (s.setMark l dir k m) :=
  LinkWork.ite (LinkWork.setFld s (f := F.CL_RXL_ROLE.MARK l k) m ⟨k, .inr rfl⟩)
    (LinkWork.setFld s (f := F.CL_TXL_ROLE.MARK l k) m ⟨k, .inl rfl⟩)

theorem LinkWork.setCalPhase {W : Nat → Prop} (l p : Nat) (h : W (R.CL_CAL_STATE l)) : LinkWork W s (s.setCalPhase l p) :=
  LinkWork.setFld s (f := F.CL_CAL_STATE.PHASE l) p h

theorem LinkWork.updCal {W : Nat → Prop} (l : Nat) (f : LaneCal → LaneCal) : LinkWork W s (s.updCal l f) := LinkWork.updLink s l _

theorem State.cal_updCal (l : Nat) (f : LaneCal → LaneCal) : ((s.updCal l f).link l).cal = f (s.link l).cal :=
  congrArg LinkSt.cal (s.link_updLink l _)

/-! ### What rotations leave of the registers (R276 to R279) -/

namespace KeepsLinks

variable {α : Type} {W : Nat → Prop} {g : FMap LinkSt → α}

theorem mono {V : Nat → Prop} {s t : State} (h : KeepsLinks V g s t) (hVW : ∀ o, V o → W o) : KeepsLinks W g s t :=
  ⟨fun o ho => h.rv o fun hV => ho (hVW o hV), h.view⟩

/-- Registers alone, whatever becomes of the links. -/
theorem unviewed {s t : State} (h : KeepsLinks W g s t) : KeepsLinks W (fun _ => ()) s t := h.map fun _ => ()

theorem updCal (l : Nat) (f : LaneCal → LaneCal) : KeepsLinks W (fun _ => ()) s (s.updCal l f) := updLink s l _ fun _ => rfl

theorem setCalPhase (l p : Nat) (h : W (R.CL_CAL_STATE l)) : KeepsLinks W g s (s.setCalPhase l p) :=
  setFld s (f := F.CL_CAL_STATE.PHASE l) p h

/-- `CAL_NO_SWING` leaves what a direction left out leaves. -/
theorem noSwing (l dir : Nat) (hW : ∀ o ∈ eventCounters, W o) (hleft : g (s.leaveOut l dir).links = g s.links) :
    KeepsLinks W g s (s.noSwing l dir) := by
  have hout : KeepsLinks W g s (s.leaveOut l dir) := ⟨fun _ _ => rfl, hleft⟩
  exact ite (hout.trans (raise _ (Src.link l) E.CAL_NO_SWING [] hW)) (refl s)

end KeepsLinks

/-- Registers that a rotation on link `l` may write: calibration states, the map, the temperature, and those of a departing frame. -/
def RotReg (l o : Nat) : Prop :=
  (∃ m, o = R.CL_CAL_STATE m) ∨ o = R.CL_LANE_MAP l ∨ o = R.CL_CAL_TEMP l ∨ TxReg l o ∨ o ∈ eventCounters

theorem rotReg_cal (l m : Nat) : RotReg l (R.CL_CAL_STATE m) := .inl ⟨m, rfl⟩
theorem rotReg_map (l : Nat) : RotReg l (R.CL_LANE_MAP l) := .inr (.inl rfl)
theorem rotReg_temp (l : Nat) : RotReg l (R.CL_CAL_TEMP l) := .inr (.inr (.inl rfl))
theorem rotReg_tx (l : Nat) {o : Nat} (h : TxReg l o) : RotReg l o := .inr (.inr (.inr (.inl h)))
theorem rotReg_event (l : Nat) {o : Nat} (h : o ∈ eventCounters) : RotReg l o := .inr (.inr (.inr (.inr h)))

/-- The registers of a link's lanes stand. -/
theorem notRotReg (l : AnyLink) {o : Nat} (h : 0x1008100 + 0x10000 * l.val ≤ o ∧ o < 0x1010000 + 0x10000 * l.val) : ¬ RotReg l o := by
  have hevent : o ∉ eventCounters := linkReg_notMem l (by unfold LinkReg; omega)
  rintro (⟨m, hm⟩ | hmap | htemp | htx | hcounter)
  · unfold R.CL_CAL_STATE at hm; omega
  · unfold R.CL_LANE_MAP at hmap; omega
  · unfold R.CL_CAL_TEMP at htemp; omega
  · unfold TxReg R.CL_TX_FRAME_CNT R.CL_CRED_OUT R.CL_CRED_HELD at htx; omega
  · exact hevent hcounter

namespace KeepsLinks

theorem rotCfgRequest (l : Nat) (req : CfgReq) (write : Bool) (addr count : Nat) (words : List Nat) :
    KeepsLinks (RotReg l) (fun _ => ()) s (s.cfgRequest l req write addr count words) :=
  (cfgRequest s l req write addr count words).unviewed.mono fun _ => rotReg_tx l

theorem sendLaneMap (l : Nat) : KeepsLinks (RotReg l) (fun _ => ()) s (s.sendLaneMap l) :=
  (setCalPhase s l cpNodeWait (rotReg_cal l l)).trans (rotCfgRequest _ l _ true 0x28 1 _)

theorem beginRuns (l : Nat) : KeepsLinks (RotReg l) (fun _ => ()) s (s.beginRuns l) :=
  (updCal s l _).trans (setCalPhase _ l _ (rotReg_cal l l))

/-- A rotation aims at a direction and a lane. -/
theorem aims (l dir q : Nat) (f : LaneCal → LaneCal) : KeepsLinks (RotReg l) (fun _ => ()) s
    (((s.setFld (F.CL_CAL_STATE.DIR l) dir).setFld (F.CL_CAL_STATE.LANE l) q).updCal l f) :=
  ((setFld s (f := F.CL_CAL_STATE.DIR l) dir (rotReg_cal l l)).trans (setFld _ (f := F.CL_CAL_STATE.LANE l) q (rotReg_cal l l))).trans
    (updCal _ l f)

theorem beginUp (l q : Nat) : KeepsLinks (RotReg l) (fun _ => ()) s (s.beginUp l q) :=
  (aims s l dirUp q _).trans (ite (setCalPhase _ l cpQualify (rotReg_cal l l)) (beginRuns _ l))

theorem beginDown (l q : Nat) : KeepsLinks (RotReg l) (fun _ => ()) s (s.beginDown l q) :=
  (aims s l dirDown q _).trans (ite (sendLaneMap _ l) (((setFld _ (f := F.CL_LANE_MAP.TX_MIRROR l) _ (rotReg_map l)).trans
    (send _ _)).trans (setCalPhase _ l cpWaiting (rotReg_cal l l))))

theorem calEnds (l : Nat) : KeepsLinks (RotReg l) (fun _ => ()) s (s.calEnds l) :=
  (((setCalPhase s l cpIdle (rotReg_cal l l)).trans (setFld _ (f := F.CL_CAL_STATE.PENDING l) 0 (rotReg_cal l l))).trans
    (updCal _ l _)).trans (ite (setFld _ (f := F.CL_CAL_TEMP.CAL_TEMP l) _ (rotReg_temp l)) (refl _))

theorem rotNoSwing (l dir : Nat) : KeepsLinks (RotReg l) (fun _ => ()) s (s.noSwing l dir) :=
  noSwing s l dir (fun _ => rotReg_event l) rfl

theorem noSwings (l : Nat) (ks : List Nat) : KeepsLinks (RotReg l) (fun _ => ()) s
    (ks.foldl (fun s _ => s.raise (Src.link l) E.CAL_NO_SWING []) s) :=
  foldl (fun t _ _ => raise t (Src.link l) E.CAL_NO_SWING [] fun _ => rotReg_event l) s

/-- The next rotation, the end of the calibration, or what was queued behind it. -/
theorem nextRotation (l : Nat) : KeepsLinks (RotReg l) (fun _ => ()) s (s.nextRotation l) := by
  unfold State.nextRotation
  dsimp only
  refine (rotNoSwing s l dirUp).trans ?_
  generalize s.noSwing l dirUp = t
  split
  case h_1 =>
    refine ite ?_ (beginUp t l _)
    split
    · exact beginUp t l _
    · exact beginUp t l _
  case h_2 =>
    refine (rotNoSwing t l dirDown).trans ?_
    generalize t.noSwing l dirDown = u
    split
    · split
      · exact beginDown u l _
      · exact calEnds u l
    · refine (calEnds u l).trans ?_
      split
      · exact refl _
      · exact ite ((updCal _ l _).trans (noSwings _ l _)) ((updCal _ l _).trans (beginUp _ l _))

end KeepsLinks

end Sys2Proof.Machine
end

section
/-! SUPPORT. How calibrations begin: an up rotation's aim, a link calibration, and the triggers (R275 to R277). -/

namespace Sys2Proof.Machine

variable (s : State)

/-! ### An up rotation begins (R277) -/

/-- From `s` to `t` an up rotation that frees lane `q` begins on link `l`. -/
structure BeginsUp (l q : Nat) (s t : State) : Prop where
  dir : t.calDir l = dirUp
  lane : t.calLane l = q % 4
  pending : t.fld (F.CL_CAL_STATE.PENDING l) = s.fld (F.CL_CAL_STATE.PENDING l)
  link : (t.link l).cal.link = (s.link l).cal.link
  left : (t.link l).cal.left = (s.link l).cal.left
  rv : ∀ o, o ≠ R.CL_CAL_STATE l → t.rv o = s.rv o

theorem BeginsUp.setCalPhase {l q : Nat} {s t : State} (h : BeginsUp l q s t) (p : Nat) : BeginsUp l q s (t.setCalPhase l p) where
  dir := (t.fld_setCalPhase l p (f := F.CL_CAL_STATE.DIR l) rfl (show 3 ≤ 3 by decide)).trans h.dir
  lane := (t.fld_setCalPhase l p (f := F.CL_CAL_STATE.LANE l) rfl (show 3 ≤ 4 by decide)).trans h.lane
  pending := (t.fld_setCalPhase l p (f := F.CL_CAL_STATE.PENDING l) rfl (show 3 ≤ 6 by decide)).trans h.pending
  link := h.link
  left := h.left
  rv := fun o ho => (t.rv_setFld_other (f := F.CL_CAL_STATE.PHASE l) p ho).trans (h.rv o ho)

theorem BeginsUp.updCal {l q : Nat} {s t : State} (h : BeginsUp l q s t) {f : LaneCal → LaneCal} (hlink : ∀ c, (f c).link = c.link)
    (hleft : ∀ c, (f c).left = c.left) : BeginsUp l q s (t.updCal l f) where
  dir := h.dir
  lane := h.lane
  pending := h.pending
  link := by rw [State.cal_updCal, hlink]; exact h.link
  left := by rw [State.cal_updCal, hleft]; exact h.left
  rv := h.rv

/-- A rotation's direction and lane are set. -/
theorem State.aimsUp_begins (l q : Nat) :
    BeginsUp l q s ((s.setFld (F.CL_CAL_STATE.DIR l) dirUp).setFld (F.CL_CAL_STATE.LANE l) q) where
  dir := (State.fld_setFld_apart _ (f := F.CL_CAL_STATE.LANE l) (g := F.CL_CAL_STATE.DIR l) q rfl (show 4 + 2 ≤ 64 by decide)
    (.inl (show 3 + 1 ≤ 4 by decide))).trans (s.fld_setFld_same (F.CL_CAL_STATE.DIR l) dirUp (show 3 + 1 ≤ 64 by decide))
  lane := State.fld_setFld_same _ (F.CL_CAL_STATE.LANE l) q (show 4 + 2 ≤ 64 by decide)
  pending := (State.fld_setFld_apart _ (f := F.CL_CAL_STATE.LANE l) (g := F.CL_CAL_STATE.PENDING l) q rfl (show 4 + 2 ≤ 64 by decide)
    (.inr (show 4 + 2 ≤ 6 by decide))).trans (s.fld_setFld_apart (f := F.CL_CAL_STATE.DIR l) (g := F.CL_CAL_STATE.PENDING l) dirUp rfl
      (show 3 + 1 ≤ 64 by decide) (.inr (show 3 + 1 ≤ 6 by decide)))
  link := rfl
  left := rfl
  rv := fun _ ho => (State.rv_setFld_other _ (f := F.CL_CAL_STATE.LANE l) q ho).trans
    (s.rv_setFld_other (f := F.CL_CAL_STATE.DIR l) dirUp ho)

theorem State.beginUp_begins (l q : Nat) : BeginsUp l q s (s.beginUp l q) := by
  have haims := (s.aimsUp_begins l q).updCal (f := fun c => { c with tries := 0, refusals := 0, run1 := none }) (fun _ => rfl) fun _ => rfl
  unfold State.beginUp State.beginRuns
  dsimp only
  split
  · exact haims.setCalPhase cpQualify
  · exact (haims.updCal (f := fun c => { c with run1 := none }) (fun _ => rfl) fun _ => rfl).setCalPhase _

/-! ### A link calibration begins (R275, R276) -/

/-- A link calibration may begin, with the up direction. -/
structure CalReady (l : Nat) (s : State) : Prop where
  active : s.linkActive l = true
  link : (s.link l).cal.link = false
  phase : s.calPhase l = cpIdle
  good : s.goodLanes l dirUp ≠ []
  swing : s.swingLane l dirUp ≠ 3

/-- What a link calibration that begins leaves. -/
structure LinkCalBegins (l : Nat) (s t : State) : Prop where
  pending : t.fld (F.CL_CAL_STATE.PENDING l) = 1
  link : (t.link l).cal.link = true
  dir : t.calDir l = dirUp
  now : t.fld (F.CL_CAL_TEMP.NOW l) = s.fld (F.CL_CAL_TEMP.NOW l)

/-- A link calibration of some lanes, in a link's record. -/
def LaneCal.taking (lanes : List (Nat × Nat)) (c : LaneCal) : LaneCal := { c with link := true, left := lanes, cut := false }

/-- A link calibration takes every unmarked lane. -/
def State.takesLanes (s : State) (l : Nat) : State :=
  (s.updCal l (LaneCal.taking ((s.goodLanes l dirUp).map (fun k => (dirUp, k)) ++ (s.goodLanes l dirDown).map (fun k => (dirDown, k))))).setFld
    (F.CL_CAL_STATE.PENDING l) 1

theorem State.linkCalibration_ready {l : Nat} (h : CalReady l s) :
    s.linkCalibration l = (((s.takesLanes l).noSwing l dirUp).noSwing l dirDown).nextRotation l := by
  unfold State.linkCalibration
  rw [h.active, h.link, h.phase, if_neg (by decide), if_neg (not_not.2 rfl)]
  rfl

theorem State.noSwing_swing {l dir : Nat} (h : s.swingLane l dir ≠ 3) : s.noSwing l dir = s := if_neg fun hn => h hn.1

theorem State.nextRotation_up {l : Nat} (hswing : s.swingLane l dirUp ≠ 3) (hleft : s.leftIn l dirUp ≠ []) :
    ∃ q, s.nextRotation l = s.beginUp l q := by
  obtain ⟨k, ks, hks⟩ := List.exists_cons_of_ne_nil hleft
  unfold State.nextRotation
  dsimp only
  rw [s.noSwing_swing hswing, hks]
  dsimp only
  split
  · split
    · exact ⟨_, rfl⟩
    · exact ⟨k, rfl⟩
  · exact ⟨k, rfl⟩

/-- Up lanes among those to calibrate. -/
def upLanes (left : List (Nat × Nat)) : List (Nat × Nat) := left.filter (·.1 = dirUp)

theorem upLanes_notDown (left : List (Nat × Nat)) : upLanes (left.filter (·.1 ≠ dirDown)) = upLanes left := by
  unfold upLanes
  rw [List.filter_filter]
  refine List.filter_congr fun x _ => ?_
  by_cases hx : x.1 = dirUp
  · simp [hx, dirUp, dirDown]
  · simp [hx]

theorem upLanes_both (us ds : List Nat) :
    upLanes (us.map (fun k => (dirUp, k)) ++ ds.map (fun k => (dirDown, k))) = us.map (fun k => (dirUp, k)) := by
  have hup : ∀ x ∈ us.map (fun k => (dirUp, k)), decide (x.1 = dirUp) = true := fun x hx => by
    obtain ⟨k, -, rfl⟩ := List.mem_map.1 hx
    rfl
  have hdown : ∀ x ∈ ds.map (fun k => (dirDown, k)), ¬ decide (x.1 = dirUp) = true := fun x hx => by
    obtain ⟨k, -, rfl⟩ := List.mem_map.1 hx
    exact Bool.false_ne_true
  unfold upLanes
  rw [List.filter_append, List.filter_eq_self.2 hup, List.filter_eq_nil_iff.2 hdown, List.append_nil]

/-- What a calibration keeps for the up direction. -/
def calUp (l : Nat) (ls : FMap LinkSt) : Bool × List (Nat × Nat) :=
  ((ls.get linkReset l).cal.link, upLanes (ls.get linkReset l).cal.left)

/-- A direction left out takes its lanes away, and no more than notes that it did. -/
theorem State.leaveOut_cal (l dir : Nat) : ∃ cut, ((s.leaveOut l dir).link l).cal =
    { (s.link l).cal with left := (s.link l).cal.left.filter (·.1 ≠ dir), cut := cut } := ⟨_, s.cal_updCal l _⟩

theorem State.leaveOut_calUp (l : Nat) : calUp l (s.leaveOut l dirDown).links = calUp l s.links := by
  obtain ⟨cut, hcal⟩ := s.leaveOut_cal l dirDown
  have hlink := congrArg LaneCal.link hcal
  have hleft := congrArg (fun c : LaneCal => upLanes c.left) hcal
  exact Prod.ext hlink (hleft.trans (upLanes_notDown (s.link l).cal.left))

theorem State.takesLanes_calUp (l : Nat) : calUp l (s.takesLanes l).links = (true, (s.goodLanes l dirUp).map (fun k => (dirUp, k))) := by
  have hcal := s.cal_updCal l
    (LaneCal.taking ((s.goodLanes l dirUp).map (fun k => (dirUp, k)) ++ (s.goodLanes l dirDown).map (fun k => (dirDown, k))))
  have hlink := congrArg LaneCal.link hcal
  have hleft := congrArg (fun c : LaneCal => upLanes c.left) hcal
  exact Prod.ext hlink (hleft.trans (upLanes_both _ _))

theorem State.linkCalibration_begins (l : AnyLink) (h : CalReady l s) : LinkCalBegins l s (s.linkCalibration l) := by
  have htakes : ∀ o, o ≠ R.CL_CAL_STATE l → (s.takesLanes l).rv o = s.rv o := fun o ho =>
    State.rv_setFld_other _ (f := F.CL_CAL_STATE.PENDING l) 1 ho
  have hswing : (s.takesLanes l).swingLane l dirUp ≠ 3 := by
    rw [State.swingLane_of_rv (htakes _ (laneMap_ne_calState l l))]
    exact h.swing
  have hkeeps := KeepsLinks.noSwing (W := (· ∈ eventCounters)) (g := calUp l) (s.takesLanes l) l dirDown (fun _ ho => ho)
    (State.leaveOut_calUp _ l)
  rw [s.linkCalibration_ready h, State.noSwing_swing _ hswing]
  generalize (s.takesLanes l).noSwing l dirDown = u at hkeeps
  have hmap : R.CL_LANE_MAP l ∉ eventCounters := linkReg_notMem l (by unfold LinkReg R.CL_LANE_MAP; omega)
  have hstate : R.CL_CAL_STATE l ∉ eventCounters := linkReg_notMem l (by unfold LinkReg R.CL_CAL_STATE; omega)
  have htemp : R.CL_CAL_TEMP l ∉ eventCounters := linkReg_notMem l (by unfold LinkReg R.CL_CAL_TEMP; omega)
  have hview : calUp l u.links = (true, (s.goodLanes l dirUp).map (fun k => (dirUp, k))) := hkeeps.view.trans (s.takesLanes_calUp l)
  have hleft : u.leftIn l dirUp ≠ [] := by
    have hlanes : upLanes (u.link l).cal.left = (s.goodLanes l dirUp).map (fun k => (dirUp, k)) := congrArg Prod.snd hview
    change (upLanes (u.link l).cal.left).map (·.2) ≠ []
    rw [hlanes, ne_eq, List.map_eq_nil_iff, List.map_eq_nil_iff]
    exact h.good
  obtain ⟨q, hq⟩ := u.nextRotation_up (by rw [State.swingLane_of_rv (hkeeps.rv _ hmap)]; exact hswing) hleft
  have hbegins := u.beginUp_begins l q
  rw [hq]
  constructor
  case pending =>
    exact hbegins.pending.trans ((hkeeps.fld (f := F.CL_CAL_STATE.PENDING l) hstate).trans
      (State.fld_setFld_same _ (F.CL_CAL_STATE.PENDING l) 1 (show 6 + 1 ≤ 64 by decide)))
  case link => exact hbegins.link.trans (congrArg Prod.fst hview)
  case dir => exact hbegins.dir
  case now =>
    have hreg := calTemp_ne_calState l l
    exact State.fld_of_rv (f := F.CL_CAL_TEMP.NOW l) ((hbegins.rv _ hreg).trans ((hkeeps.rv _ htemp).trans (htakes _ hreg)))

/-- A reading of the quad's temperature is no part of whether a calibration may begin. -/
theorem CalReady.setNow {l : Nat} {s : State} (h : CalReady l s) (v : Nat) : CalReady l (s.setFld (F.CL_CAL_TEMP.NOW l) v) := by
  have hkept : ∀ o, o ≠ R.CL_CAL_TEMP l → (s.setFld (F.CL_CAL_TEMP.NOW l) v).rv o = s.rv o := fun o ho =>
    s.rv_setFld_other (f := F.CL_CAL_TEMP.NOW l) v ho
  have hstate : R.CL_STATE l ≠ R.CL_CAL_TEMP l := by unfold R.CL_STATE R.CL_CAL_TEMP; omega
  have hmap : R.CL_LANE_MAP l ≠ R.CL_CAL_TEMP l := by unfold R.CL_LANE_MAP R.CL_CAL_TEMP; omega
  have hmarks : ∀ o, MarkReg l o → o ≠ R.CL_CAL_TEMP l := fun o ho => by
    unfold MarkReg R.CL_TXL_ROLE R.CL_RXL_ROLE at ho
    unfold R.CL_CAL_TEMP
    omega
  constructor
  case active => exact (congrArg (· == lkActive) (State.fld_of_rv (f := F.CL_STATE.STATE l) (hkept _ hstate))).trans h.active
  case link => exact h.link
  case phase =>
    exact (State.fld_of_rv (f := F.CL_CAL_STATE.PHASE l) (hkept _ (calTemp_ne_calState l l).symm)).trans h.phase
  case good =>
    rw [State.goodLanes_of_rv fun o ho => hkept o (hmarks o ho)]
    exact h.good
  case swing =>
    rw [State.swingLane_of_rv (hkept _ hmap)]
    exact h.swing

theorem State.setNow_auto (l v : Nat) :
    (s.setFld (F.CL_CAL_TEMP.NOW l) v).flag (F.CL_CAL_CTRL.AUTO l) = s.flag (F.CL_CAL_CTRL.AUTO l) := by
  have hreg : R.CL_CAL_CTRL l ≠ R.CL_CAL_TEMP l := by unfold R.CL_CAL_CTRL R.CL_CAL_TEMP; omega
  exact congrArg (· != 0) (s.fld_setFld_reg (f := F.CL_CAL_TEMP.NOW l) (g := F.CL_CAL_CTRL.AUTO l) v hreg)

/-- A reading of the quad's temperature starts a link calibration where it drifts and `AUTO` is set (R275). -/
theorem State.exec_calTempTrigger (l : LinkIx) (v : BitVec 16) : exec (.calTempTrigger l v) s = s.done (s.when (s.linkUp l)
    (if s.flag (F.CL_CAL_CTRL.AUTO l) && (s.setFld (F.CL_CAL_TEMP.NOW l) v.toNat).tempDrift l
      then (s.setFld (F.CL_CAL_TEMP.NOW l) v.toNat).linkCalibration l else s.setFld (F.CL_CAL_TEMP.NOW l) v.toNat)) := by
  rw [← s.setNow_auto l v.toNat]
  rfl

/-! ### Errors of an up lane (R275) -/

theorem State.laneErrors_counts (l k n : Nat) : Counts s (s.laneErrors l k n) (F.CL_RXL_ERR_CNT.COUNT l k) n :=
  State.fld_setFld_same _ (F.CL_RXL_ERR_CNT.COUNT l k) _ (show 0 + 64 ≤ 64 by decide)

theorem State.laneErrors_rv (l k n : Nat) {o : Nat} (h : o ≠ R.CL_RXL_ERR_CNT l k) : (s.laneErrors l k n).rv o = s.rv o :=
  State.rv_setFld_other _ (f := F.CL_RXL_ERR_CNT.COUNT l k) _ h

theorem State.errorWindow_eq (l k n : Nat) : s.errorWindow l k n =
    if s.flag (F.CL_CAL_CTRL.AUTO l) ∧ s.fld (F.CL_CAL_CTRL.ERR_LIMIT l) ≤ n then (s.laneErrors l k n).errorTrigger l k
    else s.laneErrors l k n := by
  have hctrl : R.CL_CAL_CTRL l ≠ R.CL_RXL_ERR_CNT l k := by unfold R.CL_CAL_CTRL R.CL_RXL_ERR_CNT; omega
  have hauto : (s.laneErrors l k n).fld (F.CL_CAL_CTRL.AUTO l) = s.fld (F.CL_CAL_CTRL.AUTO l) := State.fld_of_rv (s.laneErrors_rv l k n hctrl)
  have hlimit : (s.laneErrors l k n).fld (F.CL_CAL_CTRL.ERR_LIMIT l) = s.fld (F.CL_CAL_CTRL.ERR_LIMIT l) :=
    State.fld_of_rv (s.laneErrors_rv l k n hctrl)
  unfold State.errorWindow State.flag
  dsimp only
  rw [hauto, hlimit]

/-- An unmarked up lane's trigger, where no calibration runs and the direction has its Swing lane. -/
theorem State.errorTrigger_begins {l k : Nat} (hactive : s.linkActive l = true) (hmark : s.laneMark l dirUp k = markNone)
    (hlink : (s.link l).cal.link = false) (hphase : s.calPhase l = cpIdle) (hswing : s.swingLane l dirUp ≠ 3) :
    s.errorTrigger l k = (s.updCal l (fun c => { c with left := [(dirUp, k)] })).beginUp l k := by
  unfold State.errorTrigger
  rw [hactive, hmark, hlink, hphase, if_neg (by decide), if_neg (by decide), if_neg hswing]

/-- What an error-rate calibration of lane `k` that begins leaves. -/
structure ErrorCalBegins (l k n : Nat) (s t : State) : Prop where
  counts : Counts s t (F.CL_RXL_ERR_CNT.COUNT l k) n
  lane : t.calLane l = k
  dir : t.calDir l = dirUp
  left : (t.link l).cal.left = [(dirUp, k)]

theorem State.errorWindow_begins {l k n : Nat} (hk : k < 2) (hauto : s.fld (F.CL_CAL_CTRL.AUTO l) = 1)
    (hlimit : s.fld (F.CL_CAL_CTRL.ERR_LIMIT l) ≤ n) (hactive : s.linkActive l = true) (hmark : s.laneMark l dirUp k = markNone)
    (hlink : (s.link l).cal.link = false) (hphase : s.calPhase l = cpIdle) (hswing : s.swingLane l dirUp ≠ 3) :
    ErrorCalBegins l k n s (s.errorWindow l k n) := by
  have hstate : R.CL_STATE l ≠ R.CL_RXL_ERR_CNT l k := by unfold R.CL_STATE R.CL_RXL_ERR_CNT; omega
  have hcal : R.CL_CAL_STATE l ≠ R.CL_RXL_ERR_CNT l k := by unfold R.CL_CAL_STATE R.CL_RXL_ERR_CNT; omega
  have hmap : R.CL_LANE_MAP l ≠ R.CL_RXL_ERR_CNT l k := by unfold R.CL_LANE_MAP R.CL_RXL_ERR_CNT; omega
  have hmarks : ∀ o, MarkReg l o → o ≠ R.CL_RXL_ERR_CNT l k := fun o ho => by
    unfold MarkReg R.CL_TXL_ROLE R.CL_RXL_ROLE at ho
    unfold R.CL_RXL_ERR_CNT
    omega
  have hkept : ∀ o, o ≠ R.CL_RXL_ERR_CNT l k → (s.laneErrors l k n).rv o = s.rv o := fun _ => s.laneErrors_rv l k n
  have htrigger := (s.laneErrors l k n).errorTrigger_begins (l := l) (k := k)
    ((congrArg (· == lkActive) (State.fld_of_rv (f := F.CL_STATE.STATE l) (hkept _ hstate))).trans hactive)
    ((State.laneMark_of_rv (fun o ho => hkept o (hmarks o ho)) dirUp k).trans hmark) hlink
    ((State.fld_of_rv (f := F.CL_CAL_STATE.PHASE l) (hkept _ hcal)).trans hphase)
    (by rw [State.swingLane_of_rv (hkept _ hmap)]; exact hswing)
  have hbegins := ((s.laneErrors l k n).updCal l (fun c => { c with left := [(dirUp, k)] })).beginUp_begins l k
  rw [s.errorWindow_eq, if_pos ⟨by rw [State.flag, hauto]; rfl, hlimit⟩, htrigger]
  constructor
  case counts => exact (State.fld_of_rv (f := F.CL_RXL_ERR_CNT.COUNT l k) (hbegins.rv _ hcal.symm)).trans (s.laneErrors_counts l k n)
  case lane => exact hbegins.lane.trans (Nat.mod_eq_of_lt (by omega))
  case dir => exact hbegins.dir
  case left => exact hbegins.left.trans (congrArg LaneCal.left (State.cal_updCal _ l _))

/-- Errors below the limit, or without `AUTO`, are counted only. -/
theorem State.errorWindow_below {l n : Nat} (k : Nat) (h : s.fld (F.CL_CAL_CTRL.AUTO l) = 0 ∨ n < s.fld (F.CL_CAL_CTRL.ERR_LIMIT l)) :
    s.errorWindow l k n = s.laneErrors l k n := by
  rw [s.errorWindow_eq, if_neg]
  rintro ⟨hauto, hlimit⟩
  rcases h with h | h
  · rw [State.flag, h] at hauto
    exact absurd hauto (by decide)
  · exact absurd hlimit (Nat.not_le.2 h)

end Sys2Proof.Machine
end

section
/-! SUPPORT. The steps of rotations: the switch to the Swing lane, runs that agree and runs that do not, and the map write of a down
rotation (R274, R276 to R279). -/

namespace Sys2Proof.Machine

variable (s : State)

/-! ### An up rotation's phase (R277) -/

/-- What the phase of an up rotation says of its link. -/
theorem State.upPhase_iff {l p : Nat} :
    s.upPhase l p = true ↔ s.linkUp l = true ∧ s.linkActive l = true ∧ s.calDir l = dirUp ∧ s.calPhase l = p := by
  unfold State.upPhase
  simp only [Bool.and_eq_true, beq_iff_eq, and_assoc]

/-! ### The switch (R277) -/

/-- L0 is on the Swing lane, and the up direction has no Swing lane. -/
def State.mapsUp (s : State) (l : Nat) : State := (s.setFld (F.CL_LANE_MAP.RX_L0 l) (s.swingLane l dirUp)).setSwing l dirUp 3

theorem State.upSwitch_eq (l : Nat) : s.upSwitch l = (s.mapsUp l).beginRuns l := rfl

theorem LinkWork.mapsUp (l : Nat) : LinkWork (· = R.CL_LANE_MAP l) s (s.mapsUp l) :=
  (LinkWork.setFld (W := (· = R.CL_LANE_MAP l)) s (f := F.CL_LANE_MAP.RX_L0 l) _ rfl).trans (LinkWork.setSwing _ l dirUp 3 rfl)

theorem State.mapsUp_swing (l : Nat) : (s.mapsUp l).swingLane l dirUp = 3 := State.swingLane_setSwing _ l dirUp (show 3 < 4 by decide)

theorem State.mapsUp_l0 (l : Nat) : (s.mapsUp l).fld (F.CL_LANE_MAP.RX_L0 l) = s.swingLane l dirUp % 2 :=
  (State.fld_setFld_apart _ (f := F.CL_LANE_MAP.RX_SWING l) (g := F.CL_LANE_MAP.RX_L0 l) 3 rfl (show 8 + 2 ≤ 64 by decide)
    (.inl (show 7 + 1 ≤ 8 by decide))).trans (s.fld_setFld_same (F.CL_LANE_MAP.RX_L0 l) _ (show 7 + 1 ≤ 64 by decide))

theorem LinkWork.beginRuns (l : Nat) : LinkWork (· = R.CL_CAL_STATE l) s (s.beginRuns l) :=
  (LinkWork.updCal s l _).trans (LinkWork.setCalPhase _ l _ rfl)

theorem State.beginRuns_phase (l : Nat) : (s.beginRuns l).calPhase l = if s.calUnitBusy l then cpWaiting else cpRun :=
  State.calPhase_setCalPhase _ l (by split <;> decide)

/-- What the switch leaves. -/
structure Switches (l : Nat) (s t : State) : Prop where
  l0 : t.fld (F.CL_LANE_MAP.RX_L0 l) = s.swingLane l dirUp % 2
  swing : t.swingLane l dirUp = 3
  phase : t.calPhase l = if s.calUnitBusy l then cpWaiting else cpRun
  evt : t.evt = s.evt

theorem State.upSwitch_switches (l : Nat) : Switches l s (s.upSwitch l) := by
  have hmaps := LinkWork.mapsUp s l
  have hruns := LinkWork.beginRuns (s.mapsUp l) l
  have hmap := hruns.rv _ (laneMap_ne_calState l l)
  rw [s.upSwitch_eq]
  constructor
  case l0 => exact (State.fld_of_rv (f := F.CL_LANE_MAP.RX_L0 l) hmap).trans (s.mapsUp_l0 l)
  case swing => exact (State.swingLane_of_rv hmap dirUp).trans (s.mapsUp_swing l)
  case phase =>
    rw [State.beginRuns_phase, State.calUnitBusy_of_rv fun m => hmaps.rv _ (laneMap_ne_calState l m).symm]
  case evt => exact hruns.evt.trans hmaps.evt

/-! ### Runs (R274) -/

/-- What a run of one centre measured is dealt with as its settings. -/
theorem State.exec_calRunDone (l : AnyLink) {r : LaneRun} {p : Nat} (hwhole : r.whole = true) (hsingle : r.phases = [p]) :
    exec (.calRunDone l r) s = s.done (s.when (s.upPhase l cpRun) (s.runDone l (r.settings p))) := by
  change execCalRunDone l r s = _
  unfold execCalRunDone
  rw [hwhole, s.runSettings_single hsingle]
  rfl

/-- The first run's settings are noted. -/
def State.notesRun (s : State) (l a : Nat) : State := s.updCal l fun c => { c with run1 := some a }

theorem State.runDone_first {l : Nat} (a : Nat) (h : (s.link l).cal.run1 = none) : s.runDone l a = s.notesRun l a := by
  unfold State.runDone
  rw [h]
  rfl

/-- Both runs are over, in a link's record; and a further try. -/
def LaneCal.endsRuns (c : LaneCal) : LaneCal := { c with run1 := none }
def LaneCal.retries (n : Nat) (c : LaneCal) : LaneCal := { c with tries := n }

/-- Both runs are over. -/
def State.endsRuns (s : State) (l : Nat) : State := s.updCal l LaneCal.endsRuns

/-- The second run's settings are applied, and the unit goes to the next link. -/
def State.applies (s : State) (l a : Nat) : State :=
  (((s.endsRuns l).setRv (R.CL_RXL_SETTINGS l (s.calLane l)) a).setCalPhase l cpIdle).serveQuad l

theorem State.runDone_agrees {l a b : Nat} (h : (s.link l).cal.run1 = some a) (hagree : runsAgree a b = true) :
    s.runDone l b = (s.applies l b).laneCalibrated l := by
  unfold State.runDone
  rw [h]
  exact if_pos hagree

/-- Runs that do not agree are counted. -/
def State.rejects (s : State) (l : Nat) : State := (s.endsRuns l).calRejected l dirUp (s.calLane l)

/-- And tried again. -/
def State.retries (s : State) (l : Nat) : State := (s.rejects l).updCal l (LaneCal.retries (((s.rejects l).link l).cal.tries + 1))

theorem State.rejects_cal (l : Nat) : ((s.rejects l).link l).cal = (s.link l).cal.endsRuns := s.cal_updCal l LaneCal.endsRuns

theorem State.runDone_differs {l a b : Nat} (h : (s.link l).cal.run1 = some a) (hdiffer : runsAgree a b = false)
    (htries : (s.link l).cal.tries < 3) : s.runDone l b = s.retries l := by
  have hfew : ((s.rejects l).link l).cal.tries + 1 ≠ 4 := by
    rw [s.rejects_cal]
    exact Nat.ne_of_lt (Nat.succ_lt_succ htries)
  unfold State.runDone
  rw [h]
  dsimp only
  rw [hdiffer, if_neg Bool.false_ne_true]
  exact if_neg hfew

/-- What runs that do not agree leave, before the fourth time. -/
structure Retries (l : Nat) (s t : State) : Prop where
  counts : Counts s t (F.CL_RXL_CAL_REJECT.COUNT l (s.calLane l)) 1
  tries : (t.link l).cal.tries = (s.link l).cal.tries + 1
  run1 : (t.link l).cal.run1 = none
  evt : t.evt = s.evt

theorem State.retries_leaves (l : Nat) : Retries l s (s.retries l) := by
  have hcal : ((s.retries l).link l).cal = (s.link l).cal.endsRuns.retries ((s.link l).cal.tries + 1) := by
    rw [State.retries, State.cal_updCal, s.rejects_cal]
    rfl
  have hrejects := (LinkWork.updCal s l LaneCal.endsRuns).trans (LinkWork.calRejected_up (s.endsRuns l) l (s.calLane l))
  constructor
  case counts => exact (s.endsRuns l).calRejected_up_counts l (s.calLane l)
  case tries => exact congrArg LaneCal.tries hcal
  case run1 => exact congrArg LaneCal.run1 hcal
  case evt => exact hrejects.evt

/-! ### Runs that agree (R274, R276) -/

/-- The quad's unit goes to another link by its phase alone. -/
theorem State.serveQuad_fld (l n : Nat) {f : Fld} (hreg : f.reg = R.CL_CAL_STATE l) (hlow : 3 ≤ f.lsb) :
    (s.serveQuad n).fld f = s.fld f := by
  have hserves : ∀ m, (s.setCalPhase m cpRun).fld f = s.fld f := fun m => by
    rcases eq_or_ne m l with rfl | hne
    · exact s.fld_setCalPhase m cpRun hreg hlow
    · exact s.fld_setFld_reg (f := F.CL_CAL_STATE.PHASE m) cpRun (by
        show f.reg ≠ R.CL_CAL_STATE m
        rw [hreg]
        unfold R.CL_CAL_STATE
        omega)
  unfold State.serveQuad
  split
  · split
    · rfl
    · exact hserves _
  · rfl

/-- Registers that the end of two runs on lane `q` writes. -/
def ApplyReg (l q o : Nat) : Prop := LeaveReg l o ∨ o = R.CL_RXL_SETTINGS l q

theorem LinkWork.applies (l a : Nat) : LinkWork (ApplyReg l (s.calLane l)) s (s.applies l a) :=
  (((LinkWork.updCal s l _).trans (LinkWork.setRv _ a (.inr rfl))).trans (LinkWork.setCalPhase _ l cpIdle (.inl (leaveReg_cal l l)))).trans
    ((LinkWork.serveQuad _ l l).mono fun _ => .inl)

/-- The aim of the rotation stands. -/
theorem State.applies_aim (l a : Nat) {f : Fld} (hreg : f.reg = R.CL_CAL_STATE l) (hlow : 3 ≤ f.lsb) :
    (s.applies l a).fld f = s.fld f := by
  have hsettings : f.reg ≠ R.CL_RXL_SETTINGS l (s.calLane l) := by rw [hreg]; unfold R.CL_CAL_STATE R.CL_RXL_SETTINGS; omega
  exact (State.serveQuad_fld _ l l hreg hlow).trans ((State.fld_setCalPhase _ l cpIdle hreg hlow).trans
    (State.fld_setRv_other _ a hsettings))

/-- The freed lane is the Swing lane, and needs no further calibration. -/
def State.swings (s : State) (l dir q : Nat) : State :=
  ((s.setSwing l dir q).updCal l fun c => { c with left := c.left.filter (· ≠ (dir, q)) }).setCalPhase l cpIdle

theorem State.laneCalibrated_eq (l : Nat) :
    s.laneCalibrated l = ((s.calAccepted l (s.calDir l) (s.calLane l)).swings l (s.calDir l) (s.calLane l)).nextRotation l := rfl

theorem LinkWork.swings (l dir q : Nat) : LinkWork (RotReg l) s (s.swings l dir q) :=
  ((LinkWork.setSwing s l dir q (rotReg_map l)).trans (LinkWork.updCal _ l _)).trans (LinkWork.setCalPhase _ l cpIdle (rotReg_cal l l))

/-- Registers of the lanes stand once a lane is calibrated. -/
theorem State.swings_nextRotation_rv (l : AnyLink) (dir q : Nat) {o : Nat}
    (h : 0x1008100 + 0x10000 * l.val ≤ o ∧ o < 0x1010000 + 0x10000 * l.val) : ((s.swings l dir q).nextRotation l).rv o = s.rv o :=
  ((KeepsLinks.nextRotation (s.swings l dir q) l).rv o (notRotReg l h)).trans ((LinkWork.swings s l dir q).rv o (notRotReg l h))

/-- What two runs of up lane `q` that agree leave, the second with settings `a`. -/
structure Calibrates (l q a : Nat) (s t : State) : Prop where
  counts : Counts s t (F.CL_RXL_CAL_COUNT.COUNT l q) 1
  settings : t.rv (R.CL_RXL_SETTINGS l q) = a
  last : t.fld (F.CL_RXL_CAL_LAST.HOUSE l q) = s.time.house % 2 ^ 64

theorem State.applies_laneCalibrated (l a : Nat) (hdir : s.calDir l = dirUp) : (s.applies l a).laneCalibrated l =
    (((s.applies l a).calAccepted l dirUp (s.calLane l)).swings l dirUp (s.calLane l)).nextRotation l := by
  have hdirKept : (s.applies l a).calDir l = dirUp :=
    (s.applies_aim l a (f := F.CL_CAL_STATE.DIR l) rfl (show 3 ≤ 3 by decide)).trans hdir
  have hlaneKept : (s.applies l a).calLane l = s.calLane l :=
    s.applies_aim l a (f := F.CL_CAL_STATE.LANE l) rfl (show 3 ≤ 4 by decide)
  rw [State.laneCalibrated_eq, hdirKept, hlaneKept]

theorem State.applies_settings (l : Nat) {a : Nat} (ha : a < 2 ^ 64) :
    (s.applies l a).rv (R.CL_RXL_SETTINGS l (s.calLane l)) = a := by
  have hphase : R.CL_RXL_SETTINGS l (s.calLane l) ≠ R.CL_CAL_STATE l := by unfold R.CL_RXL_SETTINGS R.CL_CAL_STATE; omega
  have hserve : ¬ LeaveReg l (R.CL_RXL_SETTINGS l (s.calLane l)) := by
    unfold LeaveReg R.CL_RXL_SETTINGS R.CL_CAL_STATE R.CL_LANE_MAP R.PSH_STATE R.CL_CLAIM
    omega
  exact ((LinkWork.serveQuad _ l l).rv _ hserve).trans ((State.rv_setFld_other _ (f := F.CL_CAL_STATE.PHASE l) cpIdle hphase).trans
    ((State.rv_setRv_same _ _ a).trans (Nat.mod_eq_of_lt ha)))

theorem State.applies_calibrates (l : AnyLink) {a : Nat} (ha : a < 2 ^ 64) (hdir : s.calDir l = dirUp) (hlane : s.calLane l < 2) :
    Calibrates l (s.calLane l) a s ((s.applies l a).laneCalibrated l) := by
  have happlies := LinkWork.applies s l a
  have hsettings := s.applies_settings l ha
  rw [s.applies_laneCalibrated l a hdir]
  generalize s.calLane l = q at *
  generalize s.applies l a = u at *
  have hrange : ∀ o, o = R.CL_RXL_CAL_COUNT l q ∨ o = R.CL_RXL_SETTINGS l q ∨ o = R.CL_RXL_CAL_LAST l q →
      0x1008100 + 0x10000 * l.val ≤ o ∧ o < 0x1010000 + 0x10000 * l.val := fun o ho => by
    unfold R.CL_RXL_CAL_COUNT R.CL_RXL_SETTINGS R.CL_RXL_CAL_LAST at ho
    omega
  have hkept := fun o ho => State.swings_nextRotation_rv (u.calAccepted l dirUp q) l dirUp q (hrange o ho)
  constructor
  case counts =>
    have hreg : ¬ ApplyReg l q (R.CL_RXL_CAL_COUNT l q) := by
      unfold ApplyReg LeaveReg R.CL_RXL_CAL_COUNT R.CL_RXL_SETTINGS R.CL_CAL_STATE R.CL_LANE_MAP R.PSH_STATE R.CL_CLAIM
      omega
    have hbefore := happlies.fld (f := F.CL_RXL_CAL_COUNT.COUNT l q) hreg
    exact (State.fld_of_rv (f := F.CL_RXL_CAL_COUNT.COUNT l q) (hkept _ (.inl rfl))).trans
      ((u.calAccepted_up_counts l q).trans (congrArg (fun c => (c + 1) % 2 ^ 32) hbefore))
  case settings =>
    have hreg : ¬ RxCalReg l q (R.CL_RXL_SETTINGS l q) := by
      unfold RxCalReg R.CL_RXL_SETTINGS R.CL_RXL_CAL_COUNT R.CL_RXL_CAL_LAST R.CL_RXL_CAL_REJECT
      omega
    exact (hkept _ (.inr (.inl rfl))).trans (((LinkWork.calAccepted_up u l q).rv _ hreg).trans hsettings)
  case last =>
    have hhouse := congrArg TimeSt.house happlies.time
    exact (State.fld_of_rv (f := F.CL_RXL_CAL_LAST.HOUSE l q) (hkept _ (.inr (.inr rfl)))).trans
      ((u.calAccepted_up_last l q).trans (congrArg (· % 2 ^ 64) hhouse))

/-! ### A down rotation's map write (R278) -/

/-- Registers that the stream of link `l` depends on. -/
def StreamReg (l o : Nat) : Prop := o = R.CL_STATE l ∨ o = R.CL_CLAIM l ∨ o = R.TDM_CLAIM ∨ o = R.TDM_STATE ∨ o = R.GLB_BOOT ∨
  o = R.CL_LANE_MAP l ∨ MarkReg l o

theorem calState_notStreamReg (l m : Nat) : ¬ StreamReg l (R.CL_CAL_STATE m) := by
  unfold StreamReg MarkReg R.CL_CAL_STATE R.CL_STATE R.CL_CLAIM R.TDM_CLAIM R.TDM_STATE R.GLB_BOOT R.CL_LANE_MAP R.CL_TXL_ROLE R.CL_RXL_ROLE
  omega

theorem State.claimOn_of_rv {s t : State} {l : Nat} (h : ∀ o, StreamReg l o → t.rv o = s.rv o) : t.claimOn l = s.claimOn l := by
  unfold State.claimOn State.linkActive State.linkState
  rw [State.fld_of_rv (f := F.CL_STATE.STATE l) (h _ (.inl rfl)), State.fld_of_rv (f := F.CL_CLAIM.OWN l) (h _ (.inr (.inl rfl))),
    State.fld_of_rv (f := F.TDM_CLAIM.CLAIM) (h _ (.inr (.inr (.inl rfl))))]

theorem State.downLane_of_rv {s t : State} {l : Nat} (h : t.rv (R.CL_LANE_MAP l) = s.rv (R.CL_LANE_MAP l)) (x : Nat) :
    t.downLane l x = s.downLane l x := by
  unfold State.downLane
  rw [State.fld_of_rv (f := F.CL_LANE_MAP.TX_L0 l) h, State.fld_of_rv (f := F.CL_LANE_MAP.TX_L1 l) h]

theorem State.carriers_of_rv {s t : State} {l : Nat} (h : ∀ o, StreamReg l o → t.rv o = s.rv o) : t.carriers l = s.carriers l := by
  have hmap := h (R.CL_LANE_MAP l) (.inr (.inr (.inr (.inr (.inr (.inl rfl))))))
  have hmarks : ∀ o, MarkReg l o → t.rv o = s.rv o := fun o ho => h o (.inr (.inr (.inr (.inr (.inr (.inr ho))))))
  unfold State.carriers
  simp only [State.swingLane_of_rv hmap, State.downLane_of_rv hmap, State.laneMark_of_rv hmarks,
    State.fld_of_rv (f := F.CL_LANE_MAP.TX_MIRROR l) hmap]

/-- A field that the stream does not depend on is no part of it. -/
theorem SameStream.setFld {l : Nat} {f : Fld} (v : Nat) (h : ¬ StreamReg l f.reg) : SameStream l s (s.setFld f v) := by
  have hkept : ∀ o, StreamReg l o → (s.setFld f v).rv o = s.rv o := fun o ho => s.rv_setFld_other v fun e => h (e ▸ ho)
  have hrole := State.fld_of_rv (f := F.TDM_STATE.ROLE) (hkept _ (.inr (.inr (.inr (.inl rfl)))))
  have hboot := State.fld_of_rv (f := F.GLB_BOOT.SOURCE) (hkept _ (.inr (.inr (.inr (.inr (.inl rfl))))))
  have hnode : (s.setFld f v).nodeSide l = s.nodeSide l := by
    unfold State.nodeSide State.understudy State.role State.romNode
    rw [hrole, hboot]
    rfl
  refine ⟨State.claimOn_of_rv hkept, rfl, fun bs => ?_, rfl⟩
  unfold State.blockWords
  rw [hnode, State.carriers_of_rv hkept]
  rfl

/-- A down rotation that is not deferred waits no longer, and its phase is that of a node's answer. -/
def State.asksNode (s : State) (l : Nat) : State :=
  (s.updCal l fun c => { c with deferred := 0 }).setCalPhase l cpNodeWait

theorem State.asksNode_same (l : Nat) : SameStream l s (s.asksNode l) :=
  (SameStream.updLink s (f := fun x => { x with cal := { x.cal with deferred := 0 } }) (fun _ => rfl) fun _ => rfl).trans
    (SameStream.setFld _ (f := F.CL_CAL_STATE.PHASE l) cpNodeWait (calState_notStreamReg l l))

theorem State.asksNode_phase (l : Nat) : (s.asksNode l).calPhase l = cpNodeWait := State.calPhase_setCalPhase _ l (by decide)

/-- The first rotation of the default map: lane 0 is freed, and L0 goes to lane 2. -/
theorem State.downStep_default {l : Nat} (hdeferred : (s.link l).cal.deferred = 0) (hlane : s.calLane l = 0) (h0 : s.downLane l 0 = 0)
    (h1 : s.downLane l 1 = 1) (hswing : s.swingLane l dirDown = 2) :
    s.downStep l = (s.asksNode l).cfgRequest l (.laneMap false 2 1 0) true 0x28 1 [2 + 1 * 4 + 0 * 16] := by
  have hmap : ((s.updCal l fun c => { c with deferred := 0 }).sendLaneMap l) =
      (s.asksNode l).cfgRequest l (.laneMap false 2 1 0) true 0x28 1 [2 + 1 * 4 + 0 * 16] := by
    unfold State.sendLaneMap
    dsimp only
    change State.cfgRequest _ l (.laneMap false (if s.downLane l 0 = s.calLane l then s.swingLane l dirDown else s.downLane l 0)
      (if s.downLane l 1 = s.calLane l then s.swingLane l dirDown else s.downLane l 1) (s.calLane l)) true 0x28 1
      [(if s.downLane l 0 = s.calLane l then s.swingLane l dirDown else s.downLane l 0) +
        (if s.downLane l 1 = s.calLane l then s.swingLane l dirDown else s.downLane l 1) * 4 + s.calLane l * 16] = _
    rw [hlane, h0, h1, hswing]
    rfl
  unfold State.downStep
  rw [hdeferred]
  exact hmap

theorem cfgPayload_word_length (tag addr count w : Nat) : (cfgPayload true tag addr count [w]).length = 12 := by
  unfold cfgPayload
  simp only [List.length_append, Tests.leBytes_length, List.flatMap_cons, List.flatMap_nil, List.length_nil]

/-- A down rotation's request, as it goes out. -/
structure AsksNode (l : Nat) (payload : List Byte) (s t : State) : Prop where
  phase : t.calPhase l = cpNodeWait
  departs : Departs s t l ltCfg payload

theorem State.asksNode_asks {l : Nat} (req : CfgReq) (addr count w : Nat) (hactive : s.linkActive l = true)
    (hwait : (s.link l).wait = []) (hheld : 1 ≤ s.fld (F.CL_CRED_HELD.COUNT l)) (hcurtain : s.curtainOn l = false) :
    AsksNode l (cfgPayload true (req.tagBase + (s.link l).tagNext % 0x4000) addr count [w]) s
      ((s.asksNode l).cfgRequest l req true addr count [w]) := by
  have hlink : (s.asksNode l).link l = { s.link l with cal := { (s.link l).cal with deferred := 0 } } :=
    s.link_updLink l fun x => { x with cal := { x.cal with deferred := 0 } }
  have hkept : ∀ f : Fld, f.reg ≠ R.CL_CAL_STATE l → (s.asksNode l).fld f = s.fld f := fun f hf =>
    State.fld_setFld_reg (f := F.CL_CAL_STATE.PHASE l) _ cpNodeWait hf
  have hstate := hkept (F.CL_STATE.STATE l) (by show R.CL_STATE l ≠ _; unfold R.CL_STATE R.CL_CAL_STATE; omega)
  have hheldKept := hkept (F.CL_CRED_HELD.COUNT l) (by show R.CL_CRED_HELD l ≠ _; unfold R.CL_CRED_HELD R.CL_CAL_STATE; omega)
  have hlinks := hkept F.CUR_SEL_LINK.LINKS (by show R.CUR_SEL_LINK ≠ _; unfold R.CUR_SEL_LINK R.CL_CAL_STATE; omega)
  have hcost : ∀ tag, frameCost (cfgPayload true tag addr count [w]) = 1 := fun tag => by
    unfold frameCost
    rw [cfgPayload_word_length]
    rfl
  have hdeparts := ((s.asksNode l).cfgRequest_departs req true addr count [w] (tag := req.tagBase + (s.link l).tagNext % 0x4000)
    (by rw [hlink]) ((congrArg (· == lkActive) hstate).trans hactive)
    ((congrArg (fun n => decide (l < 64) && bit n l) hlinks).trans hcurtain) (by rw [hlink]; exact hwait)
    (by rw [hcost, hheldKept]; exact hheld)).1
  have hphase : ¬ TxReg l (R.CL_CAL_STATE l) := by
    unfold TxReg R.CL_CAL_STATE R.CL_TX_FRAME_CNT R.CL_CRED_OUT R.CL_CRED_HELD
    omega
  exact ⟨((KeepsLinks.cfgRequest (s.asksNode l) l req true addr count [w]).fld (f := F.CL_CAL_STATE.PHASE l) hphase).trans
    (s.asksNode_phase l), hdeparts.of_same (s.asksNode_same l)⟩

end Sys2Proof.Machine
end

section
/-! SUPPORT. A lane that fails, a mark that is cleared, and lane tests (R272, R280, R283 to R285). -/

namespace Sys2Proof.Machine

variable (s : State)

/-! ### The Swing lane takes over (R280) -/

/-- L0 is on the Swing lane, the direction has none, and the lost lane is marked. -/
def State.replaces (s : State) (l : Nat) : State := (s.mapsUp l).setMark l dirUp (s.fld (F.CL_LANE_MAP.RX_L0 l)) markFailed

/-- What is told of it, and what calibrations leave out. -/
def State.tellsFailure (s : State) (l lost : Nat) : State :=
  ((s.raise (Src.link l) E.LANE_FAILED [l, dirUp, lost]).leaveOut l dirUp).updCal l fun c => { c with queued := [] }

theorem State.upFail_eq (l : Nat) : s.upFail l =
    if ((s.replaces l).tellsFailure l (s.fld (F.CL_LANE_MAP.RX_L0 l))).calPhase l ≠ cpIdle ∧
        ((s.replaces l).tellsFailure l (s.fld (F.CL_LANE_MAP.RX_L0 l))).calDir l = dirUp
    then ((((s.replaces l).tellsFailure l (s.fld (F.CL_LANE_MAP.RX_L0 l))).setCalPhase l cpIdle).serveQuad l).nextRotation l
    else (s.replaces l).tellsFailure l (s.fld (F.CL_LANE_MAP.RX_L0 l)) := rfl

theorem LinkWork.replaces (l : Nat) : LinkWork (fun o => o = R.CL_LANE_MAP l ∨ MarkReg l o) s (s.replaces l) :=
  ((LinkWork.mapsUp s l).mono fun _ => .inl).trans ((LinkWork.setMark _ l dirUp _ markFailed).mono fun _ => .inr)

theorem State.tellsFailure_rv (l : AnyLink) (lost : Nat) {o : Nat} (h : LinkReg l o) : (s.tellsFailure l lost).rv o = s.rv o :=
  s.raise_rv_of_notMem (Src.link l) E.LANE_FAILED [l.val, dirUp, lost] (linkReg_notMem l h)

theorem State.tellsFailure_evt (l lost : Nat) :
    (s.tellsFailure l lost).evt = (s.raise (Src.link l) E.LANE_FAILED [l, dirUp, lost]).evt := rfl

theorem State.tellsFailure_sent (l lost : Nat) : (s.tellsFailure l lost).sent = s.sent :=
  s.raise_sent (Src.link l) E.LANE_FAILED [l, dirUp, lost]

/-- With no rotation under way the failure is told, and no more. -/
theorem State.upFail_idle (l : AnyLink) (h : s.calPhase l = cpIdle) :
    s.upFail l = (s.replaces l).tellsFailure l (s.fld (F.CL_LANE_MAP.RX_L0 l)) := by
  have hreg : ¬ (R.CL_CAL_STATE l = R.CL_LANE_MAP l ∨ MarkReg l (R.CL_CAL_STATE l)) :=
    not_or.2 ⟨(laneMap_ne_calState l l).symm, calState_notMarkReg l l⟩
  have hstate : LinkReg l (R.CL_CAL_STATE l) := by unfold LinkReg R.CL_CAL_STATE; omega
  have hphase : ((s.replaces l).tellsFailure l (s.fld (F.CL_LANE_MAP.RX_L0 l))).calPhase l = cpIdle :=
    (State.fld_of_rv (f := F.CL_CAL_STATE.PHASE l) (((s.replaces l).tellsFailure_rv l _ hstate).trans
      ((LinkWork.replaces s l).rv _ hreg))).trans h
  rw [s.upFail_eq, if_neg fun hrun => hrun.1 hphase]

/-- What a lost up lane leaves, once the Swing lane has taken over. -/
structure TakesOver (l lost : Nat) (s t : State) : Prop where
  l0 : t.fld (F.CL_LANE_MAP.RX_L0 l) = s.swingLane l dirUp % 2
  swing : t.swingLane l dirUp = 3
  mark : t.laneMark l dirUp lost = markFailed
  raises : s.evtUp = true → s.hasRoom (Src.link l) = true → Raises s t (Src.link l) E.LANE_FAILED [l, dirUp, lost]
  sent : t.sent = s.sent

theorem State.upFail_takesOver (l : AnyLink) (hphase : s.calPhase l = cpIdle) (hlost : s.fld (F.CL_LANE_MAP.RX_L0 l) < 2) :
    TakesOver l (s.fld (F.CL_LANE_MAP.RX_L0 l)) s (s.upFail l) := by
  have hreplaces := LinkWork.replaces s l
  have hmarked : (s.replaces l).laneMark l dirUp (s.fld (F.CL_LANE_MAP.RX_L0 l)) = markFailed :=
    State.laneMark_setMark _ l dirUp _ (by decide)
  have hmap : (s.replaces l).rv (R.CL_LANE_MAP l) = (s.mapsUp l).rv (R.CL_LANE_MAP l) :=
    (LinkWork.setMark _ l dirUp _ markFailed).rv _ (laneMap_notMarkReg l)
  have hl0 := s.mapsUp_l0 l
  have hswing := s.mapsUp_swing l
  rw [s.upFail_idle l hphase]
  generalize s.fld (F.CL_LANE_MAP.RX_L0 l) = lost at *
  have htold : ((s.replaces l).tellsFailure l lost).rv (R.CL_LANE_MAP l) = (s.mapsUp l).rv (R.CL_LANE_MAP l) :=
    ((s.replaces l).tellsFailure_rv l lost (by unfold LinkReg R.CL_LANE_MAP; omega)).trans hmap
  constructor
  case l0 => exact (State.fld_of_rv (f := F.CL_LANE_MAP.RX_L0 l) htold).trans hl0
  case swing => exact (State.swingLane_of_rv htold dirUp).trans hswing
  case mark =>
    have hrole : LinkReg l (R.CL_RXL_ROLE l lost) := by unfold LinkReg R.CL_RXL_ROLE; omega
    exact (State.fld_of_rv (f := F.CL_RXL_ROLE.MARK l lost) ((s.replaces l).tellsFailure_rv l lost hrole)).trans hmarked
  case raises =>
    intro hup hroom
    unfold Raises
    rw [State.tellsFailure_evt]
    exact State.raises_after _ _ _ hreplaces.evt (congrArg TimeSt.house hreplaces.time) (hreplaces.evtUp.trans hup) hroom
  case sent => exact ((s.replaces l).tellsFailure_sent l lost).trans hreplaces.sent

/-! ### A mark is cleared (R272) -/

/-- The lane is the Swing lane where its direction has none. -/
def State.fillsSwing (s : State) (l dir k role : Nat) : State := if s.swingLane l dir = 3 ∧ role = 3 then s.setSwing l dir k else s

theorem State.restoreLane_idle {l : Nat} (dir k : Nat) (h : s.calPhase l = cpIdle) :
    s.restoreLane l dir k = ((s.setMark l dir k markNone).fillsSwing l dir k (s.laneRole l dir k)).mapSettled l := if_neg fun hrun => hrun.1 h

theorem LinkWork.fillsSwing (l dir k role : Nat) : LinkWork (· = R.CL_LANE_MAP l) s (s.fillsSwing l dir k role) :=
  LinkWork.ite (LinkWork.setSwing s l dir k rfl) (LinkWork.refl s)

theorem State.fillsSwing_swing (l dir role : Nat) {k : Nat} (hk : k < 4) :
    (s.fillsSwing l dir k role).swingLane l dir = if s.swingLane l dir = 3 ∧ role = 3 then k else s.swingLane l dir := by
  unfold State.fillsSwing
  split
  · exact s.swingLane_setSwing l dir hk
  · rfl

theorem LinkWork.mapSettled (l : Nat) : LinkWork (· = R.CL_CAL_STATE l) s (s.mapSettled l) :=
  LinkWork.ite (LinkWork.setFld s (f := F.CL_CAL_STATE.MAP_PENDING l) 0 rfl) (LinkWork.refl s)

@[simp] theorem State.setMark_links (l dir k m : Nat) : (s.setMark l dir k m).links = s.links := by unfold State.setMark; split <;> rfl
@[simp] theorem State.setSwing_links (l dir k : Nat) : (s.setSwing l dir k).links = s.links := by unfold State.setSwing; split <;> rfl
@[simp] theorem State.fillsSwing_links (l dir k role : Nat) : (s.fillsSwing l dir k role).links = s.links := by
  unfold State.fillsSwing
  split
  · exact s.setSwing_links l dir k
  · rfl
@[simp] theorem State.mapSettled_links (l : Nat) : (s.mapSettled l).links = s.links := by unfold State.mapSettled; split <;> rfl

/-- What a write of `RESTORE` leaves. -/
structure Restores (l dir k : Nat) (s t : State) : Prop where
  mark : t.laneMark l dir k = markNone
  swing : t.swingLane l dir = if s.swingLane l dir = 3 ∧ s.laneRole l dir k = 3 then k else s.swingLane l dir
  evt : t.evt = s.evt
  links : t.links = s.links

theorem State.restoreLane_restores {l : Nat} (dir : Nat) {k : Nat} (hk : k < 4) (h : s.calPhase l = cpIdle) :
    Restores l dir k s (s.restoreLane l dir k) := by
  have hmarked := s.laneMark_setMark l dir k (m := markNone) (by decide)
  have hmarks := LinkWork.setMark s l dir k markNone
  have hfills := LinkWork.fillsSwing (s.setMark l dir k markNone) l dir k (s.laneRole l dir k)
  have hsettles := LinkWork.mapSettled ((s.setMark l dir k markNone).fillsSwing l dir k (s.laneRole l dir k)) l
  have hmarkReg : ∀ o, MarkReg l o → o ≠ R.CL_LANE_MAP l ∧ o ≠ R.CL_CAL_STATE l := fun o ho =>
    ⟨fun e => laneMap_notMarkReg l (e ▸ ho), fun e => calState_notMarkReg l l (e ▸ ho)⟩
  rw [s.restoreLane_idle dir k h]
  constructor
  case mark =>
    exact (State.laneMark_of_rv (fun o ho => (hsettles.rv o (hmarkReg o ho).2).trans (hfills.rv o (hmarkReg o ho).1)) dir k).trans hmarked
  case swing =>
    rw [State.swingLane_of_rv (hsettles.rv _ (laneMap_ne_calState l l)), State.fillsSwing_swing _ l dir _ hk,
      State.swingLane_of_rv (hmarks.rv _ (laneMap_notMarkReg l))]
  case evt => exact hsettles.evt.trans (hfills.evt.trans hmarks.evt)
  case links => rw [State.mapSettled_links, State.fillsSwing_links, State.setMark_links]

/-! ### Lane tests (R283 to R285) -/

/-- A lane that carries blocks has a bit inverted; no checker runs there. -/
theorem State.injectSingle_blocks {l : Nat} (k : Nat) (h : lkClock < s.linkState l) : s.injectSingle l k = s.send (.invert l k) := by
  have hcarries : s.carries l k = true := by
    unfold State.carries
    rw [decide_eq_true h, Bool.true_or]
  have hdisabled : ((s.send (.invert l k)).linkState l == lkDisabled) = false := beq_false_of_ne (Nat.ne_of_gt (Nat.zero_lt_of_lt h))
  have hchecks : (s.send (.invert l k)).checks l k = false := by
    unfold State.checks
    rw [hdisabled, Bool.false_and, Bool.false_and]
  unfold State.injectSingle State.invertBit
  dsimp only
  rw [hcarries, hchecks, if_pos rfl, if_neg fun hloop => Bool.false_ne_true hloop.2.2]

theorem State.fld_bumpSat {f : Fld} (n : Nat) (h : f.lsb + f.width ≤ 64) :
    (s.bumpSat f n).fld f = min (s.fld f + n) (2 ^ f.width - 1) := by
  have hpos : 0 < 2 ^ f.width := Nat.two_pow_pos f.width
  exact (s.fld_setFld_same f _ h).trans (Nat.mod_eq_of_lt (Nat.lt_of_le_of_lt (Nat.min_le_right _ _) (Nat.sub_lt hpos Nat.one_pos)))

theorem State.checkerLocks_free {l k : Nat} (n : Nat) (h : s.fld (F.CL_RXL_CHK.LOCKED l k) = 0) :
    s.checkerLocks l k n = s.setFld (F.CL_RXL_CHK.LOCKED l k) 1 := by
  unfold State.checkerLocks State.flag
  rw [h]
  rfl

theorem State.checkerLocks_locked {l k : Nat} (n : Nat) (h : s.fld (F.CL_RXL_CHK.LOCKED l k) = 1) :
    s.checkerLocks l k n = s.bumpSat (F.CL_RXL_CHK_ERR_CNT.COUNT l k) n := by
  unfold State.checkerLocks State.flag
  rw [h]
  rfl

theorem chk_ne_errCnt (l k : Nat) : R.CL_RXL_CHK l k ≠ R.CL_RXL_CHK_ERR_CNT l k := by unfold R.CL_RXL_CHK R.CL_RXL_CHK_ERR_CNT; omega

/-- What a checker that loses lock leaves. -/
structure LosesLock (l k n : Nat) (s t : State) : Prop where
  locked : t.fld (F.CL_RXL_CHK.LOCKED l k) = 0
  relocks : Counts s t (F.CL_RXL_RELOCK_CNT.COUNT l k) 1
  errors : t.fld (F.CL_RXL_CHK_ERR_CNT.COUNT l k) = min (s.fld (F.CL_RXL_CHK_ERR_CNT.COUNT l k) + max 64 n) (2 ^ 48 - 1)
  evt : t.evt = s.evt

theorem State.checkerLost_loses (l k n : Nat) : LosesLock l k n s (s.checkerLost l k n) := by
  have hlockedRelock : R.CL_RXL_CHK l k ≠ R.CL_RXL_RELOCK_CNT l k := by unfold R.CL_RXL_CHK R.CL_RXL_RELOCK_CNT; omega
  have hrelockErrors : R.CL_RXL_RELOCK_CNT l k ≠ R.CL_RXL_CHK_ERR_CNT l k := by unfold R.CL_RXL_RELOCK_CNT R.CL_RXL_CHK_ERR_CNT; omega
  constructor
  case locked =>
    exact (State.fld_setFld_reg _ _ (chk_ne_errCnt l k)).trans ((State.fld_setFld_reg _ _ hlockedRelock).trans
      (s.fld_setFld_same (F.CL_RXL_CHK.LOCKED l k) 0 (show 4 + 1 ≤ 64 by decide)))
  case relocks =>
    have hbefore : (s.setFld (F.CL_RXL_CHK.LOCKED l k) 0).fld (F.CL_RXL_RELOCK_CNT.COUNT l k) = s.fld (F.CL_RXL_RELOCK_CNT.COUNT l k) :=
      s.fld_setFld_reg 0 hlockedRelock.symm
    exact (State.fld_setFld_reg _ _ hrelockErrors).trans
      ((State.counts_bump _ (f := F.CL_RXL_RELOCK_CNT.COUNT l k) (show 0 + 32 ≤ 64 by decide)).trans
        (congrArg (fun c => (c + 1) % 2 ^ 32) hbefore))
  case errors =>
    have hbefore : ((s.setFld (F.CL_RXL_CHK.LOCKED l k) 0).bump (F.CL_RXL_RELOCK_CNT.COUNT l k)).fld (F.CL_RXL_CHK_ERR_CNT.COUNT l k) =
        s.fld (F.CL_RXL_CHK_ERR_CNT.COUNT l k) :=
      (State.fld_setFld_reg _ _ hrelockErrors.symm).trans (s.fld_setFld_reg 0 (chk_ne_errCnt l k).symm)
    exact (State.fld_bumpSat _ (f := F.CL_RXL_CHK_ERR_CNT.COUNT l k) (max 64 n) (show 0 + 48 ≤ 64 by decide)).trans
      (congrArg (fun c => min (c + max 64 n) (2 ^ 48 - 1)) hbefore)
  case evt => rfl

end Sys2Proof.Machine
end

section
/-! SETTLED. Lane calibration, lane failure and pattern checkers (R272 to R285). -/

namespace Sys2Proof.Machine

/-- Settles O39, by what each step of a calibration leaves of its link's map, calibration state and lanes. -/
theorem linkLanes : Obligations.Link_lanes := by
  unfold Obligations.Link_lanes
  refine ⟨?temperature, ?drift, ?go, ?errors, ?errorsBelow, ?qualified, ?switch, ?mismatch, ?firstRun, ?agrees, ?disagrees, ?down, ?fail,
    ?restore, ?inject, ?locks, ?locksAgain, ?losesLock⟩
  case temperature =>
    intro s l v hup hauto
    rw [s.exec_calTempTrigger, State.flag, hauto]
    exact done_when s hup rfl rfl
  case drift =>
    rintro s l v hup ⟨hauto, hdrift⟩ ⟨hactive, hlink, hphase, hgood, hswing⟩
    have hready := (CalReady.mk hactive hlink hphase hgood hswing).setNow v.toNat
    have hbegins := State.linkCalibration_begins _ (Fin.castLE (by decide) l : AnyLink) hready
    have hnow := s.fld_setFld_same (F.CL_CAL_TEMP.NOW l) v.toNat (show 16 + 16 ≤ 64 by decide)
    rw [s.exec_calTempTrigger, State.flag, hauto, hdrift]
    refine answers_when s hup fun t ht => ?_
    subst ht
    exact ⟨hbegins.now.trans (hnow.trans (Nat.mod_eq_of_lt v.isLt)), hbegins.pending, hbegins.link, hbegins.dir⟩
  case go =>
    rintro s l hup ⟨hactive, hlink, hphase, hgood, hswing⟩
    have hbegins := s.linkCalibration_begins l ⟨hactive, hlink, hphase, hgood, hswing⟩
    change Answers (s.done (s.when (s.linkUp l) (s.linkCalibration l))) _
    refine answers_when s hup fun t ht => ?_
    rw [← ht] at hbegins
    exact ⟨hbegins.pending, hbegins.link, hbegins.dir⟩
  case errors =>
    rintro s l k n hup ⟨hauto, hactive, hmark⟩ ⟨hlink, hphase, hswing, hlimit⟩
    have hbegins := s.errorWindow_begins k.isLt hauto hlimit hactive hmark hlink hphase hswing
    change Answers (s.done (s.when (s.linkUp l && decide (lkAlign < s.linkState l) && s.laneMark l dirUp k == markNone)
      (s.errorWindow l k n))) _
    refine answers_when s (by rw [hup, s.linkState_of_active hactive, hmark]; rfl) fun t ht => ?_
    rw [← ht] at hbegins
    exact ⟨hbegins.counts, hbegins.lane, hbegins.dir, hbegins.left⟩
  case errorsBelow =>
    rintro s l k n ⟨hup, hstate, hmark⟩ hbelow
    have hcounts := s.laneErrors_counts l k n
    change Answers (s.done (s.when (s.linkUp l && decide (lkAlign < s.linkState l) && s.laneMark l dirUp k == markNone)
      (s.errorWindow l k n))) _
    rw [s.errorWindow_below k hbelow]
    refine answers_when s (by rw [hup, decide_eq_true hstate, hmark]; rfl) fun t ht => ?_
    subst ht
    exact ⟨hcounts, rfl, rfl, rfl⟩
  case qualified =>
    intro s l hphase
    change s.done (s.when (s.upPhase l cpQualify) (s.setCalPhase l cpSwitch)) = _
    exact done_when s hphase rfl rfl
  case switch =>
    intro s l hphase
    have hswitches := s.upSwitch_switches l
    change Answers (s.done (s.when (s.upPhase l cpSwitch) (s.upSwitch l))) _
    refine answers_when s hphase fun t ht => ?_
    rw [← ht] at hswitches
    exact ⟨hswitches.l0, hswitches.swing, hswitches.phase, hswitches.evt⟩
  case mismatch =>
    intro s l hphase
    change s.done (s.when (s.upPhase l cpSwitch) (s.setCalPhase l cpQualify)) = _
    exact done_when s hphase rfl rfl
  case firstRun =>
    rintro s l r p hphase ⟨hrun, hwhole, hsingle⟩
    have hcal := s.cal_updCal l fun c => { c with run1 := some (r.settings p) }
    rw [s.exec_calRunDone l hwhole hsingle, s.runDone_first _ hrun]
    refine answers_when s hphase fun t ht => ?_
    subst ht
    exact ⟨congrArg LaneCal.run1 hcal, rfl, rfl⟩
  case agrees =>
    rintro s l r p a hphase ⟨hrun, hwhole, hsingle, hagree, hlane⟩
    obtain ⟨-, -, hdir, -⟩ := s.upPhase_iff.1 hphase
    have hfits : r.settings p < 2 ^ 64 := LaneRun.settings_lt hwhole (hsingle ▸ List.mem_singleton_self p)
    have hcalibrates := s.applies_calibrates l hfits hdir hlane
    rw [s.exec_calRunDone l hwhole hsingle, s.runDone_agrees hrun hagree]
    refine answers_when s hphase fun t ht => ?_
    rw [← ht] at hcalibrates
    exact ⟨hcalibrates.counts, hcalibrates.settings, hcalibrates.last⟩
  case disagrees =>
    rintro s l r p a hphase ⟨hrun, hwhole, hsingle, hdiffer, -, htries⟩
    have hretries := s.retries_leaves l
    rw [s.exec_calRunDone l hwhole hsingle, s.runDone_differs hrun hdiffer htries]
    refine answers_when s hphase fun t ht => ?_
    rw [← ht] at hretries
    exact ⟨hretries.counts, hretries.tries, hretries.run1, hretries.evt⟩
  case down =>
    rintro s l ⟨hup, hactive, hdir, hphase⟩ ⟨hdeferred, hwait, hheld, hcurtain⟩ ⟨hlane, h0, h1, hswing⟩
    have hasks := s.asksNode_asks (.laneMap false 2 1 0) 0x28 1 (2 + 1 * 4 + 0 * 16) hactive hwait hheld hcurtain
    change Answers (s.done (s.when (s.linkUp l && s.linkActive l && s.calDir l == dirDown && s.calPhase l == cpWaiting &&
      (decide ((s.link l).cal.deferred = 0) || s.claimAccepted l)) (s.downStep l))) _
    rw [s.downStep_default hdeferred hlane h0 h1 hswing]
    refine answers_when s (by rw [hup, hactive, hdir, hphase, hdeferred]; rfl) fun t ht => ?_
    rw [← ht] at hasks
    exact ⟨hasks.phase, hasks.departs.sent.trans (List.append_cons _ _ _)⟩
  case fail =>
    rintro s l ⟨hup, hactive⟩ ⟨hswing, hmark, hphase⟩ ⟨hlost, -⟩ hroom
    have htakes := s.upFail_takesOver l hphase hlost
    change Answers (s.done (s.when (s.linkUp l && s.linkActive l && s.swingLane l dirUp != 3 &&
      s.laneMark l dirUp (s.swingLane l dirUp) == markNone) (s.upFail l))) _
    have hnone : (s.swingLane l dirUp != 3) = true := bne_iff_ne.2 (by omega)
    refine answers_when s (by rw [hup, hactive, hnone, hmark]; rfl) fun t ht => ?_
    rw [← ht] at htakes
    exact ⟨htakes.l0.trans (Nat.mod_eq_of_lt hswing), htakes.swing, htakes.mark, htakes.raises (State.evtUp_of_linkUp s hup) hroom,
      htakes.sent⟩
  case restore =>
    intro s l tx k hup hlane hphase
    have hrestores := s.restoreLane_restores (if tx then dirDown else dirUp) (k := k) (by omega) hphase
    change Answers (s.done (s.when (s.linkUp l && (tx || decide (k.val < 2))) (s.restoreLane l (if tx then dirDown else dirUp) k))) _
    have hexists : (tx || decide (k.val < 2)) = true := by
      rw [Bool.or_eq_true, decide_eq_true_eq]
      exact hlane
    refine answers_when s (by rw [hup, hexists]; rfl) fun t ht => ?_
    rw [← ht] at hrestores
    exact ⟨hrestores.mark, hrestores.swing, hrestores.evt, hrestores.links⟩
  case inject =>
    intro s l k hup hstate
    change s.done (s.when (s.linkUp l) (s.injectSingle l k)) = _
    rw [s.injectSingle_blocks k hstate]
    exact done_when s hup rfl rfl
  case locks =>
    intro s l k n hruns hfree
    change s.done (s.when (s.checkerRuns l k) (s.checkerLocks l k n)) = _
    rw [s.checkerLocks_free n hfree]
    exact done_when s hruns rfl rfl
  case locksAgain =>
    intro s l k n hruns hlocked
    have hkept := s.fld_setFld_reg (f := F.CL_RXL_CHK_ERR_CNT.COUNT l k) (g := F.CL_RXL_CHK.LOCKED l k)
      (min (s.fld (F.CL_RXL_CHK_ERR_CNT.COUNT l k) + n) (2 ^ 48 - 1)) (chk_ne_errCnt l k)
    have herrors := s.fld_bumpSat (f := F.CL_RXL_CHK_ERR_CNT.COUNT l k) n (show 0 + 48 ≤ 64 by decide)
    change Answers (s.done (s.when (s.checkerRuns l k) (s.checkerLocks l k n))) _
    rw [s.checkerLocks_locked n hlocked]
    refine answers_when s hruns fun t ht => ?_
    subst ht
    exact ⟨hkept.trans hlocked, rfl, herrors⟩
  case losesLock =>
    intro s l k n hruns hlocked
    have hloses := s.checkerLost_loses l k n
    change Answers (s.done (s.when (s.checkerRuns l k && s.flag (F.CL_RXL_CHK.LOCKED l k)) (s.checkerLost l k n))) _
    refine answers_when s (by rw [hruns, State.flag, hlocked]; rfl) fun t ht => ?_
    rw [← ht] at hloses
    exact ⟨hloses.locked, hloses.relocks, hloses.errors, hloses.evt⟩

end Sys2Proof.Machine
end
